-- ==== Sys2Proof/Word.lean ====
section
/-! DEFINITION. The words of the machine: a byte, a register word (R7: every register is 32 bits wide), a 64-bit
time or address, and the sparse tables and memories the state is made of (plain lists of pairs). -/

namespace Sys2Proof

/-- A byte of memory. -/
abbrev Byte := BitVec 8

/-- A register word (R7). -/
abbrev Word := BitVec 32

/-- A 64-bit quantity: the raw counter (R28), a device time (R29), a host address. -/
abbrev DWord := BitVec 64

/-- A sparse table: index and value pairs; an index that is not listed holds the default of its use. -/
abbrev Tab (α : Type) := List (Nat × α)

end Sys2Proof
end

