-- ==== Sys2Proof/Syntax.lean ====
section
/-! DEFINITION. The commands the block takes (spec/opcode_table.json) and the small types their operands are made of. -/

namespace Sys2Proof

/-- The two control dies (R14). -/
inductive SideId where
  | a | b
  deriving DecidableEq, Repr, Inhabited

/-- The two physical functions (R54). -/
inductive Fn where
  | pf0 | pf1
  deriving DecidableEq, Repr, Inhabited

/-- A completion ring (0 to 63) or an event ring (0 or 1) (R56). -/
inductive RingId where
  | cq (n : Nat)
  | eq (e : Nat)
  deriving DecidableEq, Repr, Inhabited

/-- The supply monitors of the hold die (R515): those that hold the hold die in reset, and those of one side die. -/
inductive Monitor where
  | hold
  | side (id : SideId)
  deriving DecidableEq, Repr, Inhabited

/-- A lane, 0 or 1, of a BeamLink port (R190). -/
structure LaneId where
  port : Nat
  lane : Nat
  deriving DecidableEq, Repr, Inhabited

/-- A BeamLink port at a raw time. -/
structure PortAt where
  port : Nat
  t : Nat
  deriving DecidableEq, Repr, Inhabited

/-- An upstream frame as a port receives it: its blocks' sync headers (the first bit of the wire is the higher one) and payloads, byte k in
bits 8k+7 to 8k (R191). -/
structure UpFrame where
  port : Nat
  blocks : List (Nat × DWord)
  deriving DecidableEq, Repr, Inhabited

/-- Tick-bound work that can overrun its deadline through a hardware fault (R45, R46). -/
inductive OverrunWork where
  | law | vector | meltPool | profile | heatMap | planner | timebase
  deriving DecidableEq, Repr, Inhabited

/-- How a DMA transfer fails (R107): a host access error at an address, or an uncorrectable DRAM error. -/
inductive DmaErr where
  | hostFault (addr : Nat)
  | ecc (addr : Nat)
  deriving DecidableEq, Repr, Inhabited


/-- Kinds of PTP message (R413); other: a frame that is none of them, or malformed. -/
inductive PtpKind where
  | sync | followUp | delayReq | delayResp | pdelayReq | pdelayResp | pdelayRespFollowUp | announce | other
  deriving DecidableEq, Repr, Inhabited

/-- A PTP message as IEEE 1588-2019 gives its fields: transport (0 Ethernet, 1 UDP/IPv4, 2 UDP/IPv6), domain, source port
identity, sequence number, twoStepFlag, its timestamp in ns since the PTP epoch, correctionField in 2^−16 ns, logMessageInterval,
the requesting port identity, the UDP checksum, and an Announce's data set (priorities, clock class, accuracy, variance,
grandmaster, steps, currentUtcOffset, timeSource). A clock identity is a number with octet k in bits [8k+7:8k]. -/
structure PtpMsg where
  kind : PtpKind := .other
  transport : Nat := 0
  domain : Nat := 0
  srcId : Nat := 0
  srcPort : Nat := 0
  seq : Nat := 0
  twoStep : Bool := false
  ts : Nat := 0
  corr : Int := 0
  logInt : Int := 0
  reqId : Nat := 0
  reqPort : Nat := 0
  udp : Nat := 0
  prio1 : Nat := 0
  cls : Nat := 0
  acc : Nat := 0
  var : Nat := 0
  prio2 : Nat := 0
  gm : Nat := 0
  steps : Nat := 0
  utc : Int := 0
  timeSource : Nat := 0
  deriving DecidableEq, Repr, Inhabited

/-- IEEE 1149.1 instructions of the debug port (R446). -/
inductive TapIr where
  | bypass | idcode | samplePreload | extest | other
  deriving DecidableEq, Repr, Inhabited

/-- An access through the debug port (R446): a TAP instruction; a read of a side's register, or of n bytes of a side's memory
(space 1 DRAM, 2 SRAM); a write of a register of the set-up window, or of bytes of SRAM or DRAM. -/
inductive DbgAcc where
  | ir (i : TapIr)
  | readReg (side : SideId) (off : Nat)
  | readMem (side : SideId) (space addr n : Nat)
  | writeReg (off : Nat) (v : Nat)
  | writeMem (space addr : Nat) (bytes : List Byte)
  deriving DecidableEq, Repr, Inhabited

/-- The commands of the block, one constructor per row of spec/opcode_table.json; the operands are the model's own
(the table gives none): what the host, the machine or a device-internal agent supplies with the command. -/
inductive Instr where
  /-- R498: PORST_N releases the whole package from reset and the boot of R506 begins from t0. -/
  | powerOnReset
  /-- R508: WARM_RST_N held low for at least 1 µs resets both control dies, the hold die enters SAFE, and the sides reboot. -/
  | warmReset
  /-- R498: A write of CFG_CMD.WARM starts a warm reset, with the same effect as WARM_RST_N. -/
  | warm
  /-- R498: PERST_N low takes the link down, resets configuration space and disables both functions' rings, with the PF0 plate effects of R82. -/
  | perst
  /-- R498: TRST_N resets the IEEE 1149.1 TAP controller only. -/
  | trst
  /-- R515: A hold-die supply monitor sees a rail fall below its threshold and holds the hold die or a side die in reset. -/
  | supplyMonitorTrip (mon : Monitor)
  /-- R489: The hold die's self-checking cells detect an error; the fault pair goes LOST and the hold die enters SAFE. -/
  | holdDieError
  /-- R386: A side completes its boot and takes the grant at rings ready, or becomes STALE. -/
  | bootComplete (side : SideId) (ms : Nat)
  /-- R386: A side fails its boot, or has not reached rings ready 350 ms after t0, and becomes FAILED. -/
  | bootFail (side : SideId)
  /-- R507: CFG_CMD.PROCEED continues a boot that is held in PHASE HELD. -/
  | proceed
  /-- R505: Opcode 0x7C erases and programs a flash area from host memory, then checks the read-back. -/
  | flashProgram (n : Nat) (herr : Option Nat) (readBackOk : Bool)
  /-- R41: Device time reaches an aligned control tick edge, and all tick-bound work and edge actions run. -/
  | controlTickEdge (t : Nat)
  /-- R41: Device time reaches an aligned fine-tick boundary, and per-boundary work runs. -/
  | fineTickBoundary (t : Nat)
  /-- R36: TIM_CMD.SNAP clears VALID and captures raw time, device time, tick count and fine index from one core cycle. -/
  | snap
  /-- R36: At most 4 core cycles after SNAP, VALID is set and SEQ is incremented. -/
  | snapPosted
  /-- R31: TIM_CMD.ADJ_GO submits a staged adjustment, which is slewed in or held as a pending jump. -/
  | adjGo
  /-- R30: TIM_CMD.RATE_GO submits a staged rate, which is refused or becomes pending until the next edge. -/
  | rateGo
  /-- R33: TIM_CMD.JUMP_ACCEPT changes a pending jump to accepted. -/
  | jumpAccept
  /-- R33: TIM_CMD.JUMP_DISCARD clears the pending or accepted jump without applying it. -/
  | jumpDiscard
  /-- R43: A write to TIM_TICK is checked, and if accepted sets TICK_PENDING for the next edge. -/
  | timTickWrite (v : Word)
  /-- R39: TIM_ALMn_CTRL.ARM copies the target, sets ARMED and clears FIRED and LATE. -/
  | alarmArm (n : Nat)
  /-- R52: TIM_ALMn_CTRL.DISARM clears ARMED without firing. -/
  | alarmDisarm (n : Nat)
  /-- R39: Device time reaches an armed alarm's target, and the alarm fires and posts its notice. -/
  | alarmFire (n : Nat) (t : Nat)
  /-- R46: Tick-bound work is not complete at its deadline; outputs hold, the overrun flag is set and a started plate is spoiled. -/
  | tickOverrun (side : SideId) (work : OverrunWork)
  /-- R12: A write to a register with no row of its own is checked against windows, locks and ranges, and is applied or refused. -/
  | registerWrite (fn : Fn) (bar : Nat) (addr : Nat) (v : Word)
  /-- R60: An access to an unassigned offset reads 0, ignores writes and sets HIF_STATUS.UNMAPPED. -/
  | unmappedAccess (fn : Fn) (bar : Nat) (addr : Nat)
  /-- R60: An access that is not an aligned full 4-byte access is completed with Unsupported Request and sets BAD_ACCESS. -/
  | badAccess (fn : Fn)
  /-- R62: Setting a submission ring's ENABLE from DISABLED checks target and CQ binding, zeroes HEAD and TAIL, and starts the ring. -/
  | sqEnable (n : Nat) (v : Word)
  /-- R81: Clearing a submission ring's ENABLE moves it to STOPPING; unstarted fetched descriptors retire ABORTED. -/
  | sqDisable (n : Nat) (v : Word)
  /-- R80: HIF_SQn_CTRL.RESUME takes a HALTED ring back to fetching at HEAD. -/
  | resume (n : Nat)
  /-- R70: Enabling a completion or event ring zeroes HEAD and TAIL and sets the write phase to 1. -/
  | cqEqEnable (r : RingId) (v : Word)
  /-- R87: Clearing a completion or event ring's ENABLE disables it, or is refused while a bound submission ring is not DISABLED. -/
  | cqEqDisable (r : RingId) (v : Word)
  /-- R76: A submission ring doorbell write is checked and sets TAIL, or re-fetches a stalled slot. -/
  | sqDoorbell (fn : Fn) (n : Nat) (v : Nat)
  /-- R76: A completion or event ring doorbell write releases entries up to the new HEAD. -/
  | cqDoorbell (fn : Fn) (r : RingId) (v : Nat)
  /-- R66: A 64-byte descriptor read returns; the descriptor is checked and started, or the ring stalls on OWN = 0 or halts on FETCH_ERR. -/
  | descriptorFetched (n : Nat) (ok : Bool)
  /-- R67: A finished descriptor is written back with OWN = 0 and its completion entry is written, once the completion ring has room. -/
  | descriptorRetire (n : Nat)
  /-- R78: COAL_TIME µs pass since the first unsignalled entry, and a message is sent. -/
  | coalesceTimeout (r : RingId) (t : Nat)
  /-- R78: A masked MSI-X vector with its pending bit set is unmasked, and its message is sent. -/
  | vectorUnmask (fn : Fn) (v : Nat)
  /-- R82: A function level reset disables the function's rings at once, clears its MSI-X table and, for PF0, spoils a started plate. -/
  | functionLevelReset (fn : Fn)
  /-- R82: A function's transition to D3hot acts as a function level reset on its rings and plates. -/
  | d3hotEntry (fn : Fn)
  /-- R82: Clearing Bus Master Enable holds every memory request of the function where it stands. -/
  | busMasterDisable (fn : Fn)
  /-- R82: Setting Bus Master Enable lets held work of the function proceed in order. -/
  | busMasterEnable (fn : Fn)
  /-- R65: Opcode 0x00 retires with SUCCESS and has no other effect. -/
  | nop (n : Nat)
  /-- R65: Opcode 0x01 acts as NOP with FENCE set. -/
  | barrier (n : Nat)
  /-- R98: Opcode 0x10 copies LENGTH bytes from SRC to DST, ascending or descending. -/
  | copy (n : Nat)
  /-- R98: Opcode 0x11 writes LENGTH bytes at DST by repeating PATTERN. -/
  | fill (n : Nat)
  /-- R99: Opcode 0x12 runs a fence that proves the arrival of the channel's earlier writes. -/
  | flush (n : Nat)
  /-- R103: The last write of a transfer leaves the DMA engine, and the transfer completes. -/
  | dmaTransferComplete (ch : Nat)
  /-- R104: A HOST fence read returns, or the DRAM controller acknowledges every earlier write, and the fenced transfer may retire. -/
  | fenceComplete (ch : Nat) (ok : Bool)
  /-- R106: The bytes written by a HALF transfer first reach ceil(LENGTH ÷ 2), and the HALF notice posts. -/
  | half (ch : Nat)
  /-- R107: A transfer meets HOST_FAULT or DMA_ECC and stops, and ERR is set. -/
  | dmaTransferError (ch : Nat) (err : DmaErr) (written : Nat)
  /-- R109: DMAn_SHs_CTRL.ARM arms a shadow set, and the channel takes it when idle in SHADOW mode. -/
  | shadowArm (ch : Nat) (sh : Nat) (v : Word)
  /-- R109: DMAn_SHs_CTRL.DISARM clears ARMED on a set that is not running. -/
  | shadowDisarm (ch : Nat) (sh : Nat) (v : Word)
  /-- R136: Opcode 0x30 checks a job stream in DRAM and binds it to a job slot. -/
  | jobOpen (n : Nat)
  /-- R137: Opcode 0x31 declares how much of the stream is present, or queries CONSUMED. -/
  | jobStaged (n : Nat)
  /-- R139: Opcode 0x32 releases a job slot unless a plate of the job is active. -/
  | jobClose (n : Nat)
  /-- R146: Opcode 0x34 decodes one block at the host's request. -/
  | decompress (n : Nat)
  /-- R148: Opcode 0x35 resumes a suspended block into new output space. -/
  | decompressContinue (n : Nat)
  /-- R149: Opcode 0x36 discards a suspended decompression context. -/
  | contextDrop (n : Nat)
  /-- R152: Opcode 0x38 encodes up to 64 KiB into one MODE 0 block. -/
  | compress (n : Nat)
  /-- R146: A requested decompress or compress finishes on its engine and retires with its outcome. -/
  | strudelRequestDone (n : Nat) (slot : Nat) (herr : Option Nat)
  /-- R140: The dispatcher assigns a plate-feed block to a free engine once it is staged and its channel has room. -/
  | blockAssign
  /-- R140: A plate-feed block finishes decoding, and its output becomes visible once checked and in order. -/
  | blockDecoded (eng : Nat)
  /-- R165: Opcode 0x40 decodes the plate metadata, runs the plate checks and the gate, and commits the plate. -/
  | plateCommit (n : Nat)
  /-- R164: Opcode 0x41 runs the commit checks without reserving anything or taking a record. -/
  | gateQuery (n : Nat)
  /-- R166: Opcode 0x42 releases a committed or waiting plate, or spoils a started or ending one. -/
  | plateAbort (n : Nat)
  /-- R167: Opcode 0x43 retires when the record's plate is done, spoiled, released or fails its start. -/
  | plateWait (n : Nat)
  /-- R159: Every pipeline of the plate has taken its last track's data, and the plate becomes ENDING. -/
  | plateEnding (p : Nat)
  /-- R159: The plate's last output leaves the hold die, the plate becomes DONE and its reservations return. -/
  | plateDone (p : Nat)
  /-- R189: A 1 ms interval aligned to device time ends and each PLN_INGESTj is updated. -/
  | ingestIntervalEnd (t : Nat)
  /-- R189: Setting a jar's EN from 0 to 1 sets its level to its capacity. -/
  | jarEnable (j : Nat) (v : Word)
  /-- R196: A TRAIN block from the partner advances the port's training. -/
  | trainBlockReceived (p : Nat) (b : DWord)
  /-- R194: An ALIGN block arrives and the lanes are deskewed or found to disagree. -/
  | alignMarker (p : Nat) (counts : Nat × Nat)
  /-- R197: A port loses block lock, its markers disagree or it receives TRAIN while UP, and training restarts. -/
  | linkDown (l : LaneId)
  /-- R212: Each 1 µs while a blanking cause holds, the BLANK block is sent again. -/
  | blankRepeat (x : PortAt)
  /-- R206: The output hold stage sends the port's gathered setpoints in a SET frame. -/
  | setFrameSend (p : Nat) (t : Nat)
  /-- R204: The elastic FIFO releases a DOT frame DOT_LEAD µs before its T0. -/
  | dotFrameRelease (p : Nat) (t : Nat)
  /-- R205: A DOT frame has not left by T0 − 500 ns and is discarded. -/
  | dotLate (p : Nat) (t : Nat)
  /-- R210: An ACK frame arrives and completes its CTRL, an ECHO measurement or the DELAY that makes the port TIMED. -/
  | ackReceived (p : Nat) (ctag : Nat) (result : Nat) (op : Nat) (data : Nat) (t : Nat)
  /-- R210: No ACK arrives within 20 µs of a CTRL, and RESULT 0xFF and CTRL_NOACK are posted. -/
  | ctrlNoack (p : Nat) (t : Nat)
  /-- R216: A valid STAT frame arrives and is stored, and its counters, health and temperature are acted on. -/
  | statReceived (p : Nat) (w : List Word) (t : Nat)
  /-- R216: No valid STAT arrives for 4 intervals, SILENT is set and the head reads 150 °C. -/
  | statSilent (p : Nat) (t : Nat)
  /-- R217: An ENC frame delivers scanner positions to the law engine and the dwell guard. -/
  | encReceived (p : Nat) (x : Word) (y : Word) (z : Word) (ts : Word) (t : Nat)
  /-- R215: An errored upstream frame is discarded and counted in RX_ERR. -/
  | upstreamFrameError (f : UpFrame)
  /-- R220: BLKn_CMD.RETRAIN restarts training of the port. -/
  | retrain (p : Nat)
  /-- R209: BLKn_CMD.ECHO repeats the 16-ECHO path delay measurement. -/
  | echo (p : Nat)
  /-- R220: BLKn_CMD.BLANK sets blanking cause 3 on every beam until the next plate start. -/
  | blank (p : Nat)
  /-- R220: BLKn_CMD.CTRL_GO sends a receiver-defined CTRL from CTRL_OP and the ARG registers. -/
  | ctrlGo (p : Nat)
  /-- R225: An SOS edge is stamped and accepted as a sweep or ignored as spurious. -/
  | sosEdge (c : Nat) (t : Nat) (frac : Nat)
  /-- R226: An EOS edge is stamped, serving as end of sweep or as the once-per-revolution index. -/
  | eosEdge (c : Nat) (t : Nat) (frac : Nat)
  /-- R228: A sweep's SOS window closes with no edge, and the sweep is taken on its prediction. -/
  | sosMissed (c : Nat) (t : Nat)
  /-- R226: RASc_CMD.FACET_ZERO makes the next accepted edge facet 0. -/
  | facetZero (c : Nat)
  /-- R227: RASc_CMD.RELOCK restarts acquisition of the channel. -/
  | relock (c : Nat)
  /-- R232: At G_s the pipeline takes a stripe's data and builds the DOT frames of the sweep with their firing times. -/
  | stripeBuild (c : Nat) (t : Nat)
  /-- R251: A vector word enters a free look-ahead place after its checks, and the speeds are replanned. -/
  | lookaheadEntry (c : Nat)
  /-- R256: A vector begins at its exact instant and VECc_VID changes. -/
  | vectorBegin (c : Nat) (t : Nat)
  /-- R256: A vector ends at its exact instant and VECc_VDONE counts it. -/
  | vectorEnd (c : Nat) (t : Nat)
  /-- R263: Opcode 0x74 loads a head's field-correction grid from host memory. -/
  | vecGridLoad (n : Nat) (herr : Option Nat)
  /-- R274: A migratable word becomes due and the stitch arbiter assigns it to a laser. -/
  | arbiterDecision
  /-- R290: MPL_HM_CTRL.CLEAR sets every heat-map cell to 0 at the next edge. -/
  | hmClear
  /-- R298: 10 ms pass since a chunk's first record and the chunk is closed. -/
  | chunkTimeout (k : Nat) (t : Nat)
  /-- R298: An idle compress engine encodes a closed chunk and seals it or discards it. -/
  | telemetryEncode (k : Nat)
  /-- R299: A telemetry block is written to the window once there is room, WR advances and TEL_BLOCK posts. -/
  | telemetryBlockWrite
  /-- R299: A write to MPL_TEL_RD frees window space, or is refused outside CURRENT RD to WR. -/
  | telRdWrite (hi : Bool) (v : Word)
  /-- R323: Opcode 0x78 checks and accepts a law set image for the next edge. -/
  | lawSetLoad (n : Nat) (herr : Option Nat)
  /-- R325: LAW_CMD.HALT halts the set at the next edge and sends every destination to SAFE. -/
  | halt
  /-- R328: LAW_TRt_CTRL.ARM clears COUNT and arms a trace channel. -/
  | traceArm (k : Nat)
  /-- R335: LAW_TRt_CTRL.STOP makes the trace channel read DONE at the next edge. -/
  | traceStop (k : Nat)
  /-- R330: LAW_INJg_CTRL.START starts an injection generator at the next edge. -/
  | injStart (g : Nat)
  /-- R335: LAW_INJg_CTRL.STOP zeroes the generator's value from the next edge. -/
  | injStop (g : Nat)
  /-- R331: A zero-cross edge advances each SSR accumulator on that input and decides the half-cycle. -/
  | zeroCrossEdge (z : Nat) (t : Nat)
  /-- R331: DELAY_US after a zero-cross edge the SSR line is driven to its decided state. -/
  | ssrSwitch (k : Nat) (t : Nat)
  /-- R332: A zero-cross input has no edge for 25 ms and its SSRs turn off. -/
  | zxLost (z : Nat) (t : Nat)
  /-- R345: Opcode 0x70 loads an axis's profile table from host memory. -/
  | motProfLoad (n : Nat) (herr : Option Nat)
  /-- R346: MOTn_CMD.START starts the axis at the next control tick edge. -/
  | motStart (a : Nat)
  /-- R346: MOT_CMD.GO starts every axis in MOT_START_MASK at the same edge. -/
  | go
  /-- R347: MOTn_CMD.END moves a PAUSED axis to IDLE. -/
  | motEnd (a : Nat)
  /-- R352: An edge of quadrature input A or B counts the encoder up or down, or sets QUAD_ERR. -/
  | quadEdge (e : Nat) (a : Bool) (b : Bool) (t : Nat)
  /-- R352: A rising edge of Z latches the raw count into MOT_ENCe_INDEX. -/
  | indexEdge (e : Nat)
  /-- R352: An SSI frame completes and its reading extends the count, or sets SSI_ERR. -/
  | ssiFrame (e : Nat) (high : Bool) (w : Word) (err : Bool) (t : Nat)
  /-- R358: A PWM carrier period starts on its fine-tick boundary and takes its duties. -/
  | carrierPeriodStart (g : Nat)
  /-- R377: ALIGN_MS ms of alignment pass and the unit enters RUN, adjusting u after a catch. -/
  | alignDone (f : Nat) (t : Nat)
  /-- R361: A sigma-delta channel completes a decimation window and posts a stamped value. -/
  | sdValue (ch : Nat) (bs : List Bool)
  /-- R369: The ENABLE command takes a field-control or stepper unit out of OFF at the next period start. -/
  | enable (u : Nat)
  /-- R369: The DISABLE command takes a unit to OFF at the next period start. -/
  | disable (u : Nat)
  /-- R369: The CLEAR command takes a unit from CUT to OFF. -/
  | clear (u : Nat)
  /-- R372: FOC_BUSb_CMD.CHOP_CLR clears NOCHOP. -/
  | chopClr (b : Nat)
  /-- R378: Opcode 0x7A loads a stepper unit's current table. -/
  | stpTableLoad (n : Nat) (herr : Option Nat)
  /-- R387: Each side sends a beat on both paths at every raw microsecond. -/
  | heartbeat (t : Nat)
  /-- R387: A beat arrives and is validated, and PEER_SEEN and the signatures are updated. -/
  | heartbeatReceived (side : SideId) (path : Nat) (ok : Bool) (t : Nat)
  /-- R388: A path deadline passes and the interlock declares a path fault or a lost side. -/
  | heartbeatDeadline (side : SideId) (t : Nat)
  /-- R389: A side detects an internal fault, sends RESIGN, stops driving and is declared lost. -/
  | resign (side : SideId) (t : Nat)
  /-- R393: After 1 µs of isolation, the standby is granted at a fine-tick boundary and its output image loads. -/
  | grant (t : Nat)
  /-- R391: A granted side does not acknowledge within 4 core cycles and is declared lost. -/
  | grantAckTimeout
  /-- R397: A beam's held power outlasts LIMIT_NS without scanner movement and the guard blanks it. -/
  | dwellCut (p : Nat) (t : Nat)
  /-- R402: TWN_CMD.FIXED_ARM requests a role swap at a fixed device time. -/
  | fixedArm
  /-- R412: TWN_CMD.FIXED_DISARM clears the fixed-time swap request. -/
  | fixedDisarm
  /-- R408: TWN_CMD.PEEK reads a standby register and posts the result. -/
  | peek
  /-- R405: HLD_TWN_CMD.REVIVE_A or REVIVE_B releases a FAILED side into BOOTING with a warm reset. -/
  | revive (side : SideId)
  /-- R420: A PTP message arrives, is stamped and processed, or is dropped. -/
  | ptpMessageReceived (p : Nat) (m : PtpMsg) (frac : Nat) (t : Nat)
  /-- R418: A PTP message departs a port and is stamped. -/
  | ptpMessageSend (p : Nat) (kind : PtpKind) (udp : Nat) (frac : Nat) (t : Nat)
  /-- R422: announceReceiptTimeout expires and the servo enters HOLDOVER with MASTER_LOST. -/
  | announceTimeout (p : Nat) (t : Nat)
  /-- R422: No Sync arrives for SYNC_TMO intervals and the servo enters HOLDOVER. -/
  | syncTimeout (p : Nat) (t : Nat)
  /-- R425: A 10GBASE-R link falls and LINK_LOST is set. -/
  | ethLinkDown (p : Nat)
  /-- R435: Opcode 0x60 sets a new random challenge. -/
  | challenge (n : Nat)
  /-- R438: Opcode 0x61 unwraps a job key package and stores the key. -/
  | keyLoad (n : Nat) (herr : Option Nat)
  /-- R439: Opcode 0x62 zeroises a job key. -/
  | keyRemove (n : Nat)
  /-- R439: Opcode 0x63 sets or clears a key's HOST_LOCK. -/
  | keyLock (n : Nat)
  /-- R434: Opcode 0x64 checks a signed Praline token or lifecycle statement and applies it. -/
  | statement (n : Nat) (herr : Option Nat)
  /-- R443: Opcode 0x65 checks an OEM recipe and puts it in force. -/
  | recipeLoad (n : Nat) (herr : Option Nat)
  /-- R448: Opcode 0x66 moves the debug level from OBSERVE to CLOSED. -/
  | debugClose (n : Nat)
  /-- R453: Opcode 0x67 writes the device and issuing certificates to host memory. -/
  | certRead (n : Nat)
  /-- R445: A Praline token presented on the debug port is checked and raises the debug level. -/
  | debugPortToken (tok : List Byte)
  /-- R446: A debug-protocol read or write is served within the level and class rules. -/
  | debugPortAccess (a : DbgAcc)
  /-- R450: A pending clear starts once no plate record is active, zeroing every JOB region. -/
  | jobClear
  /-- R450: The clear completes and GUARD reads 0. -/
  | jobClearDone
  /-- R461: A sensor is sampled and its reading updates Theta, throttle causes, limits and bands. -/
  | thermalSample (k : Nat) (count : Nat) (t : Nat)
  /-- R464: A throttle pause after an operation runs out and the engine continues. -/
  | throttlePauseEnd (e : Nat) (t : Nat)
  /-- R467: Each 1 ms the side reads the LPDDR5X refresh-rate field and sets its refresh multiplier. -/
  | refreshRateRead (side : SideId) (c0 : Nat) (c1 : Nat)
  /-- R470: THM_PWR_CMD.NAP stops the job engines while the loops run on. -/
  | nap
  /-- R470: THM_PWR_CMD.DEEP stops everything but the always-on domain and the hold die. -/
  | deep
  /-- R471: THM_PWR_CMD.WAKE wakes the device from NAP or DEEP. -/
  | wake
  /-- R471: Firmware restores an engine group's context after NAP and clears its stale bit. -/
  | wakeGroupRestored (g : Nat)
  /-- R485: EVT_ROUTEn.ARM sets ARMED again for ONCE routing. -/
  | eventArm (n : Nat)
  /-- R490: HLD_FLT_CMD.ASSERT drives the fault pair to SAFE_STOP with cause SW. -/
  | assert
  /-- R491: HLD_FLT_CMD.RELEASE returns the fault pair to HEALTHY, or is refused. -/
  | release
  /-- R493: HLD_FLT_CMD.KICK restarts the watchdog period and ends WDOG. -/
  | kick
  /-- R490: WDOG_MS pass without KICK and cause WDOG asserts the fault pair. -/
  | watchdogExpiry (t : Nat)
  /-- R519: A beam-enable input reads low for 200 ns; the chain opens, all beams blank and the plate is spoiled. -/
  | beamEnableOpen
  /-- R519: Both beam-enable inputs read high for 1 ms and the chain closes. -/
  | beamEnableClose
  /-- R495: HLD_INJ_CMD.ARM arms a factory injection, in TEST only. -/
  | injArm
  /-- R496: HLD_INJ_CMD.DISARM returns an armed injection to IDLE before it acts. -/
  | injDisarm
  /-- R495: An injection's duration ends; it returns to IDLE and posts DONE. -/
  | injectionEnd (t : Nat)
  /-- R196: A BeamLink lane gains clause-49 block lock, setting LOCK0 or LOCK1 and letting training advance toward TSTATE 1. -/
  | blockLock (p : Nat) (lane : Nat)
  /-- R194: Every 16,384 blocks each lane sends an ALIGN block, at which a pending pre-emphasis change takes effect. -/
  | alignBlockSend (x : PortAt)
  /-- R88: The PCIe link completes training into L0, and LINK_UP, SPEED and WIDTH take their values. -/
  | pcieLinkUp (speed : Nat) (width : Nat)
  /-- R88: The PCIe link leaves L0 and L1 other than by PERST_N, and LINK_UP, SPEED and WIDTH read 0. -/
  | pcieLinkDown
  /-- R425: A 10GBASE-R link comes up and PTPp_STATUS.LINK reads 1. -/
  | ethLinkUp (p : Nat)
  /-- R515: A tripped supply monitor releases once its rail has been 20 mV above the threshold for 1 ms. -/
  | supplyMonitorRelease (mon : Monitor)
  /-- R286: A melt-pool ADC word completes on MPn_DA and MPn_DB, is taken as a sample or marked late, and updates PORT_LOCK. -/
  | mpWordReceived (c : Nat) (a : Word) (b : Word) (t : Nat)
  /-- R285: The Eorra raises MPn_CNV at each F ÷ Q ns point after a fine-tick boundary to start a conversion. -/
  | mpConversionEdge (c : Nat) (t : Nat)
  deriving DecidableEq, Repr

end Sys2Proof
end

