-- ==== Sys2Proof/Machine/RegTypes.lean ====
section
/-! DEFINITION. The types the register map is written in: a field's place, its access code (R9), its window (R11)
and one row of the map (a register kind, repeated by index). -/

namespace Sys2Proof.Machine

/-- The place of a register field: byte offset of its register in PF0 BAR0 (R59), lowest bit, width. -/
structure Fld where
  off : Nat
  lo : Nat
  w : Nat
  deriving DecidableEq, Repr

/-- Access codes of R9 (RWL is carried by no field of stepping B0). -/
inductive Acc where
  | ro | rw | wo | w1c | w1s
  deriving DecidableEq, Repr

/-- Window codes of R11. -/
inductive Win where
  | any | idle | plate | boot
  deriving DecidableEq, Repr

/-- Which units of a register kind the FMN-7708 lacks (R3): all present, or the upper half of the beam-channel,
axis, field-control or stepper units fused off. -/
inductive Lim where
  | all | beam | axis | foc | stp
  deriving DecidableEq, Repr

/-- One field of a register in the map: lowest bit, width, access, window, and the least and greatest value a write
may give it (a range its chapter states; conditions between fields are checked beside). -/
structure FldRow where
  lo : Nat
  w : Nat
  acc : Acc
  win : Win
  min : Nat
  max : Nat
  deriving DecidableEq, Repr

/-- One register kind: offset of its first register, its repeats as (stride, count), the limit of its first index on
the FMN-7708, its reset word, the mask of its fields with Reset CFG (R503, R504), and its fields. -/
structure RegRow where
  base : Nat
  dims : List (Nat × Nat)
  lim : Lim
  rst : Nat
  cfg : Nat
  flds : List FldRow
  deriving DecidableEq, Repr

end Sys2Proof.Machine
end

