-- ==== Sys2Proof/Machine/Bits.lean ====
section
/-! DEFINITION. Bit fields, signed readings, byte order (R7: every multi-byte field is little-endian), rounding and
64-bit time comparison (R37), the sparse tables and the byte memories, and the CRC-32C of R127. -/

namespace Sys2Proof.Machine

/-- Bits [lo+w-1 : lo] of a number. -/
def bits (v lo w : Nat) : Nat := v / 2 ^ lo % 2 ^ w

/-- Bit k of a number. -/
def bit (v k : Nat) : Bool := v / 2 ^ k % 2 == 1

/-- A number with bits [lo+w-1 : lo] replaced by x. -/
def putBits (v lo w x : Nat) : Nat := v - bits v lo w * 2 ^ lo + x % 2 ^ w * 2 ^ lo

/-- Two's complement reading of the low w bits. -/
def toSigned (w v : Nat) : Int :=
  let u := v % 2 ^ w
  if u < 2 ^ (w - 1) then (u : Int) else (u : Int) - (2 ^ w : Nat)

/-- The w-bit two's complement encoding of an integer. -/
def ofSigned (w : Nat) (i : Int) : Nat := (i % ((2 ^ w : Nat) : Int)).toNat

/-- Clamp an integer to [a, b]. -/
def clampI (a b i : Int) : Int := if i < a then a else if b < i then b else i

/-- Ceiling of a quotient of naturals. -/
def ceilDiv (a b : Nat) : Nat := (a + b - 1) / b

/-- Nearest integer to n/d, exact halves to even (d > 0). -/
def divEven (n : Int) (d : Nat) : Int :=
  let q := Int.fdiv n d
  let r := n - q * d
  if 2 * r < d then q else if (d : Int) < 2 * r then q + 1 else if q % 2 = 0 then q else q + 1

/-- Signed 64-bit difference a − b of two 64-bit times (R37). -/
def tdiff (a b : Nat) : Int := toSigned 64 (a % 2 ^ 64 + 2 ^ 64 - b % 2 ^ 64)

/-- Signed 32-bit difference of two 32-bit numbers (R38). -/
def sdiff32 (a b : Nat) : Int := toSigned 32 (a % 2 ^ 32 + 2 ^ 32 - b % 2 ^ 32)

/-- Time a has reached time b: the signed difference a − b is no less than 0 (R37). -/
def reached (a b : Nat) : Bool := decide (0 ≤ tdiff a b)

/-- The full 64-bit time of a 32-bit stamp nearest a reference (R38). -/
def extendStamp (stamp ref : Nat) : Nat := ofSigned 64 ((ref : Int) + sdiff32 stamp ref)

/-- A Boolean as a bit. -/
def b2n (b : Bool) : Nat := if b then 1 else 0

/-! Little-endian bytes (R7). -/

/-- The number a list of bytes spells, least significant byte first. -/
def leNat : List Byte → Nat
  | [] => 0
  | b :: t => b.toNat + 256 * leNat t

/-- The n bytes of a number, least significant byte first. -/
def leBytes : Nat → Nat → List Byte
  | 0, _ => []
  | n + 1, v => BitVec.ofNat 8 v :: leBytes n (v / 256)

/-- The number in bytes [o, o+n) of a list (bytes past its end count as 0). -/
def leAt (l : List Byte) (o n : Nat) : Nat := leNat ((l.drop o).take n)

/-- Byte o of a list (0 past its end). -/
def byteAt (l : List Byte) (o : Nat) : Nat := (l.getD o 0).toNat

/-- Every byte of the list is 0. -/
def allZero (l : List Byte) : Bool := l.all (· == 0)

/-- The offset of the first byte of [o, o+n) that is not 0, or none. -/
def firstNonZero (l : List Byte) (o n : Nat) : Option Nat :=
  (List.range n).findSome? fun k => if byteAt l (o + k) ≠ 0 then some (o + k) else none

/-- The first offset whose check fails. -/
def firstBad (l : List (Bool × Nat)) : Option Nat := (l.find? (·.1)).map (·.2)

/-- The first of several bad offsets. -/
def firstSome : List (Option Nat) → Option Nat
  | [] => none
  | some o :: _ => some o
  | none :: t => firstSome t

/-- An element inserted behind every element of no greater key. -/
def insertBy {α : Type} (key : α → Nat) (x : α) : List α → List α
  | [] => [x]
  | y :: t => if key x < key y then x :: y :: t else y :: insertBy key x t

/-- A list in rising order of a key, equal keys in their order. -/
def sortBy {α : Type} (key : α → Nat) : List α → List α
  | l => l.foldl (fun acc x => insertBy key x acc) []

/-! Sparse tables. -/

/-- The value a table holds at an index; an index not listed holds the default. -/
def tget {α : Type} (d : α) : Tab α → Nat → α
  | [], _ => d
  | (j, u) :: t, i => if i = j then u else tget d t i

/-- The table with a new value at one index, indexes kept rising. -/
def tset {α : Type} : Tab α → Nat → α → Tab α
  | [], i, v => [(i, v)]
  | (j, u) :: t, i, v =>
    if i = j then (i, v) :: t else if i < j then (i, v) :: (j, u) :: t else (j, u) :: tset t i v

/-- The table with one entry changed by a function. -/
def tmod {α : Type} (d : α) (t : Tab α) (i : Nat) (f : α → α) : Tab α := tset t i (f (tget d t i))

/-! Byte memories: an address that is not listed reads 0 (log entry 7), and no listed byte is 0. -/

/-- The byte a memory holds at an address. -/
def memByte (m : Tab Byte) (a : Nat) : Byte := tget 0 m a

/-- The memory with one byte written; writing 0 removes the entry, so that equal memories are equal lists. -/
def memPut (m : Tab Byte) (a : Nat) (b : Byte) : Tab Byte :=
  if b = 0 then m.filter (fun e => e.1 ≠ a) else tset m a b

/-- n bytes of a memory from an address up. -/
def memRead (m : Tab Byte) (a : Nat) : Nat → List Byte
  | 0 => []
  | n + 1 => memByte m a :: memRead m (a + 1) n

/-- A list of bytes written to a memory from an address up. -/
def memWrite (m : Tab Byte) (a : Nat) : List Byte → Tab Byte
  | [] => m
  | b :: t => memWrite (memPut m a b) (a + 1) t

/-- The canonical form of a memory: addresses strictly rising, no listed byte equal to what an unlisted one reads. -/
def memWf : Tab Byte → Bool
  | [] => true
  | [(_, b)] => b != 0
  | (i, b) :: (j, c) :: t => b != 0 && decide (i < j) && memWf ((j, c) :: t)

/-! CRC-32C (R127): reflected polynomial 0x82F63B78, initial value and final exclusive-or all ones. -/

def crcBit (c : Nat) : Nat := if c % 2 = 1 then Nat.xor (c / 2) 0x82F63B78 else c / 2

def crcByte (c : Nat) (b : Byte) : Nat :=
  let x := Nat.xor c b.toNat
  crcBit (crcBit (crcBit (crcBit (crcBit (crcBit (crcBit (crcBit x)))))))

/-- CRC-32C register update over a list of bytes, from a running value. -/
def crcRun (c : Nat) : List Byte → Nat
  | [] => c
  | b :: t => crcRun (crcByte c b) t

/-- CRC-32C of a list of bytes (R127). -/
def crc32c (l : List Byte) : Nat := Nat.xor (crcRun 0xFFFFFFFF l) 0xFFFFFFFF

end Sys2Proof.Machine
end

