-- ==== Sys2Proof/Machine/Aes.lean ====
section
/-! DEFINITION. AES-256 and its uses: GCM for sealed blocks (R128, R142) and the key unwrap of job keys (R437), as FIPS 197,
NIST SP 800-38D and RFC 3394 define them (log entry 12). -/

namespace Sys2Proof.Machine

/-! AES-256. -/

/-- The S-box by rows of 16, each read from the left. -/
def aesRows : List Nat := [
  0x637C777BF26B6FC53001672BFED7AB76,
  0xCA82C97DFA5947F0ADD4A2AF9CA472C0,
  0xB7FD9326363FF7CC34A5E5F171D83115,
  0x04C723C31896059A071280E2EB27B275,
  0x09832C1A1B6E5AA0523BD6B329E32F84,
  0x53D100ED20FCB15B6ACBBE394A4C58CF,
  0xD0EFAAFB434D338545F9027F503C9FA8,
  0x51A3408F929D38F5BCB6DA2110FFF3D2,
  0xCD0C13EC5F974417C4A77E3D645D1973,
  0x60814FDC222A908846EEB814DE5E0BDB,
  0xE0323A0A4906245CC2D3AC629195E479,
  0xE7C8376D8DD54EA96C56F4EA657AAE08,
  0xBA78252E1CA6B4C6E8DD741F4BBD8B8A,
  0x703EB5664803F60E613557B986C11D9E,
  0xE1F8981169D98E949B1E87E9CE5528DF,
  0x8CA1890DBFE6426841992D0FB054BB16]

/-- The inverse S-box by rows of 16, each read from the left. -/
def aesUnrows : List Nat := [
  0x52096AD53036A538BF40A39E81F3D7FB,
  0x7CE339829B2FFF87348E4344C4DEE9CB,
  0x547B9432A6C2233DEE4C950B42FAC34E,
  0x082EA16628D924B2765BA2496D8BD125,
  0x72F8F66486689816D4A45CCC5D65B692,
  0x6C704850FDEDB9DA5E154657A78D9D84,
  0x90D8AB008CBCD30AF7E45805B8B34506,
  0xD02C1E8FCA3F0F02C1AFBD0301138A6B,
  0x3A9111414F67DCEA97F2CFCEF0B4E673,
  0x96AC7422E7AD3585E2F937E81C75DF6E,
  0x47F11A711D29C5896FB7620EAA18BE1B,
  0xFC563E4BC6D279209ADBC0FE78CD5AF4,
  0x1FDDA8338807C731B11210592780EC5F,
  0x60517FA919B54A0D2DE57A9F93C99CEF,
  0xA0E03B4DAE2AF5B0C8EBBB3C83539961,
  0x172B047EBA77D626E169146355210C7D]

/-- A byte of a table of 16 rows. -/
def aesLook (rows : List Nat) (x : Byte) : Byte :=
  BitVec.ofNat 8 (bits (rows.getD (x.toNat / 16) 0) (8 * (15 - x.toNat % 16)) 8)

def aesSub (x : Byte) : Byte := aesLook aesRows x

def aesUnsub (x : Byte) : Byte := aesLook aesUnrows x

/-- Multiplication by x in GF(2^8). -/
def xtime (b : Byte) : Byte := if b.msb then (b <<< 1) ^^^ 0x1B else b <<< 1

/-- Multiplication by a constant below 16 in GF(2^8). -/
def gfMul (k : Nat) (b : Byte) : Byte :=
  let b2 := xtime b
  let b4 := xtime b2
  (if bit k 0 then b else 0) ^^^ (if bit k 1 then b2 else 0) ^^^ (if bit k 2 then b4 else 0) ^^^
    (if bit k 3 then xtime b4 else 0)

def xorBytes (a b : List Byte) : List Byte := a.zipWith (· ^^^ ·) b

/-- One column mixed with the first row of the matrix given. -/
def mixColumn (row : List Nat) (c : List Byte) : List Byte :=
  (List.range 4).map fun i =>
    ((List.range 4).map fun j => gfMul (row.getD ((j + 4 - i) % 4) 0) (c.getD j 0)).foldl (· ^^^ ·) 0

def mixColumns (row : List Nat) (s : List Byte) : List Byte := (pieces 4 4 s).flatMap (mixColumn row)

/-- Byte i of the shifted state comes from byte (i + 4k·(row)) of the state, column by column; k is 1 forwards, 3 backwards. -/
def shiftRows (k : Nat) (s : List Byte) : List Byte :=
  (List.range 16).map fun i => s.getD ((i + 4 * k * (i % 4)) % 16) 0

/-- n further words of the key schedule, newest first; i counts words. -/
def aesExpand : Nat → Nat → Byte → List (List Byte) → List (List Byte)
  | 0, _, _, w => w
  | n + 1, i, rc, w =>
    let t := w.getD 0 []
    let f := w.getD 7 []
    if i % 8 = 0 then
      aesExpand n (i + 1) (xtime rc) (xorBytes f (xorBytes ((t.drop 1 ++ t.take 1).map aesSub) [rc, 0, 0, 0]) :: w)
    else if i % 8 = 4 then aesExpand n (i + 1) rc (xorBytes f (t.map aesSub) :: w)
    else aesExpand n (i + 1) rc (xorBytes f t :: w)

/-- The 15 round keys of a key of 32 bytes. -/
def aesKeys (key : List Byte) : List (List Byte) :=
  pieces 16 15 ((aesExpand 52 8 1 (pieces 4 8 key).reverse).reverse.flatten)

/-- A block of 16 bytes enciphered under round keys. -/
def aesEnc (ks : List (List Byte)) (b : List Byte) : List Byte :=
  let mid := (ks.drop 1).take 13
  let s := mid.foldl (fun s k => xorBytes (mixColumns [2, 3, 1, 1] (shiftRows 1 (s.map aesSub))) k) (xorBytes b (ks.getD 0 []))
  xorBytes (shiftRows 1 (s.map aesSub)) (ks.getD 14 [])

/-- A block of 16 bytes deciphered under round keys. -/
def aesDec (ks : List (List Byte)) (b : List Byte) : List Byte :=
  let mid := ((ks.drop 1).take 13).reverse
  let s := mid.foldl (fun s k => mixColumns [14, 11, 13, 9] (xorBytes ((shiftRows 3 s).map aesUnsub) k)) (xorBytes b (ks.getD 14 []))
  xorBytes ((shiftRows 3 s).map aesUnsub) (ks.getD 0 [])

/-! GCM. -/

/-- n steps of the product in GF(2^128): the sum so far, the shifted factor, and the other factor. -/
def ghashMul : Nat → Nat → Nat → Nat → Nat
  | 0, z, _, _ => z
  | n + 1, z, v, x =>
    ghashMul n (if bit x n then Nat.xor z v else z)
      (if v % 2 = 1 then Nat.xor (v / 2) (0xE1 * 2 ^ 120) else v / 2) x

/-- Bytes padded with zeros to whole blocks. -/
def padBlocks (l : List Byte) : List Byte := l ++ List.replicate ((16 - l.length % 16) % 16) 0

/-- GHASH of additional data and ciphertext under the hash key. -/
def ghash (h : Nat) (aad ct : List Byte) : Nat :=
  let m := padBlocks aad ++ padBlocks ct ++ beBytes 8 (8 * aad.length) ++ beBytes 8 (8 * ct.length)
  (pieces 16 (m.length / 16) m).foldl (fun y b => ghashMul 128 0 h (Nat.xor y (beNat b))) 0

/-- Counter mode from counter k on, with a 96-bit IV. -/
def gcmCtr (ks : List (List Byte)) (iv : List Byte) (k : Nat) (l : List Byte) : List Byte :=
  ((pieces 16 ((l.length + 15) / 16) l).zipIdx.map fun e => xorBytes e.1 (aesEnc ks (iv ++ beBytes 4 (k + e.2)))).flatten

/-- The tag of a ciphertext. -/
def gcmTag (ks : List (List Byte)) (iv aad ct : List Byte) : List Byte :=
  let h := beNat (aesEnc ks (List.replicate 16 0))
  xorBytes (beBytes 16 (ghash h aad ct)) (aesEnc ks (iv ++ beBytes 4 1))

/-- AES-256-GCM sealed: key of 32 bytes, IV of 12, additional data, plaintext; the ciphertext and the tag. -/
def gcmSeal (key iv aad pt : List Byte) : List Byte × List Byte :=
  let ks := aesKeys key
  let ct := gcmCtr ks iv 2 pt
  (ct, gcmTag ks iv aad ct)

/-- AES-256-GCM opened: none where the tag does not match. -/
def gcmOpen (key iv aad ct tag : List Byte) : Option (List Byte) :=
  let ks := aesKeys key
  if gcmTag ks iv aad ct = tag then some (gcmCtr ks iv 2 ct) else none

/-! Key unwrap. -/

/-- The steps t, t − 1, … 1 of the unwrap of four 8-byte registers. -/
def unwrapSteps (ks : List (List Byte)) : Nat → List Byte → List (List Byte) → List Byte × List (List Byte)
  | 0, a, r => (a, r)
  | t + 1, a, r =>
    let i := t % 4
    let b := aesDec ks (beBytes 8 (Nat.xor (beNat a) (t + 1)) ++ r.getD i [])
    unwrapSteps ks t (b.take 8) (r.set i (b.drop 8))

/-- RFC 3394 unwrap of 40 bytes with the default IV: none where its integrity check fails. -/
def keyUnwrap (kek w : List Byte) : Option (List Byte) :=
  let r := unwrapSteps (aesKeys kek) 24 (w.take 8) (pieces 8 4 (w.drop 8))
  if r.1 = List.replicate 8 0xA6 then some r.2.flatten else none

end Sys2Proof.Machine
end

