-- ==== Sys2Proof/Config.lean ====
section
/-! DEFINITION. What the spec leaves open, as uninterpreted constants: no body, so that nothing can be proved of their
values. Each is named in the assumption log. -/

namespace Sys2Proof

/-- A free value: the n-th of the run, one per use site k (log entry 8). -/
opaque Config.free : Nat → Nat → Nat

/-- The compress engine's choice of tokens for an input and a pitch (R154; log entry 13). -/
opaque Config.tokens : List Byte → Nat → List Byte

/-- An exact real result shown in an integer register whose chapter states no rounding, by place k (log entry 39). -/
opaque Config.round : Nat → Rat → Int

/-- Filtered speed in electrical Hz: last speed, angle change in 2^−16 turn over a carrier period, its length in ns (R365;
log entry 40). -/
opaque Config.speed : Int → Int → Nat → Int

/-- clockAccuracy and offsetScaledLogVariance of the clock's own data set (log entry 61). -/
opaque Config.clockAccuracy : Nat
opaque Config.clockVariance : Nat

/-- The device certificate and the issuing certificate, in DER (R430; log entry 12). -/
opaque Config.certs : List Byte

end Sys2Proof
end

