-- ==== Sys2Proof/Machine/Codec.lean ====
section
/-! DEFINITION. Strudel blocks (spec/05): the header, the token stream, RFC 1951 payloads, the CRC trailer and the
encoder's bounds. -/

namespace Sys2Proof.Machine

def stSTR_MAGIC : Nat := 0x40
def stSTR_HEADER : Nat := 0x41
def stSTR_SRC_SHORT : Nat := 0x42
def stSTR_AUTH : Nat := 0x43
def stSTR_TOKEN : Nat := 0x44
def stSTR_DEFLATE : Nat := 0x45
def stSTR_CRC : Nat := 0x46
def stSTR_OUT_FULL : Nat := 0x47
def stSTR_NO_GAIN : Nat := 0x48
def stSTR_OVERLAP : Nat := 0x49
def stSTR_CONTEXT : Nat := 0x4A
def stSTR_JOB : Nat := 0x4B
def stSTR_RANGE : Nat := 0x4C
def stSTR_ECC : Nat := 0x4D

/-! The header (R118 to R121). -/

def hMode (h : List Byte) : Nat := bits (byteAt h 3) 0 2
def hEnc (h : List Byte) : Bool := bit (byteAt h 3) 2
def hULen (h : List Byte) : Nat := leAt h 4 2 + 1
def hPitch (h : List Byte) : Nat := leAt h 6 2
def hCLen (h : List Byte) : Nat := leAt h 8 4

/-- Block size (R118). -/
def hSize (h : List Byte) : Nat := 20 + hCLen h + 16 * b2n (hEnc h)

/-- The header fold (R121). -/
def foldXor (l : List Nat) : Nat := l.foldl Nat.xor 0xFFFFFFFF

/-- The 32-bit words of bytes [o, o + 4n). -/
def leWords (b : List Byte) (o : Nat) : Nat → List Nat
  | 0 => []
  | n + 1 => leAt b o 4 :: leWords b (o + 4) n

/-- The first header field that breaks R120 or R121, by byte offset. -/
def headerBad (h : List Byte) : Option Nat :=
  let m := hMode h
  if byteAt h 3 / 8 ≠ 0 || m = 3 then some 3
  else if m ≠ 0 && hPitch h ≠ 0 then some 6
  else if (if m = 1 then hCLen h ≠ hULen h else hCLen h = 0 ∨ 131072 < hCLen h) then some 8
  else if leAt h 12 4 ≠ foldXor (leWords h 0 3) then some 12
  else none

/-- MAGIC and VERSION, then R120 and R121: the status and RESULT1 of the first failure. -/
def headerCheck (h : List Byte) : Option (Nat × Nat) :=
  if leAt h 0 2 ≠ 0x7D5A || byteAt h 2 ≠ 1 then some (stSTR_MAGIC, 0)
  else (headerBad h).map fun o => (stSTR_HEADER, o)

/-- What decoding a payload gives: the output so far, and the status of the failure, if any. -/
structure Dec where
  out : List Byte
  err : Option Nat
  deriving DecidableEq, Repr

/-! The token stream (R122 to R124). The output is held reversed, its last byte first, with its count p. -/

/-- A copy of len bytes from distance d, byte by byte (R123). -/
def lzCopy (d : Nat) : Nat → List Byte → List Byte
  | 0, o => o
  | n + 1, o => lzCopy d n (o.getD (d - 1) 0 :: o)

/-- The class's base length. -/
def tokBase (cls : Nat) : Nat := [1, 3, 1, 4].getD cls 0

/-- The token's length and the bytes after it, or none if the payload ends inside the extension. -/
def tokLen (cls n : Nat) (q : List Byte) : Option (Nat × List Byte) :=
  if n < 63 then some (tokBase cls + n, q)
  else match q with
    | a :: b :: r => some (tokBase cls + 63 + a.toNat + 256 * b.toNat, r)
    | _ => none

/-- One token's operands and output: the output after it and the payload left, or none on failure. -/
def tokRun (ulen pitch p cls len : Nat) (q o : List Byte) : Option (List Byte × List Byte) :=
  if ulen < p + len then none
  else match cls with
    | 0 => if q.length < len then none else some ((q.take len).reverse ++ o, q.drop len)
    | 1 => match q with
      | v :: r => some (List.replicate len v ++ o, r)
      | [] => none
    | 2 => if pitch = 0 || p < pitch then none else some (lzCopy pitch len o, q)
    | _ => match q with
      | a :: b :: r =>
        let d := 1 + a.toNat + 256 * b.toNat
        if p < d then none else some (lzCopy d len o, r)
      | _ => none

/-- The decoder of R124; every token takes a byte, so fuel of the payload's length is enough. -/
def tokGo (ulen pitch : Nat) : Nat → Nat → List Byte → List Byte → Dec
  | fuel, p, q, o =>
    if ulen ≤ p then ⟨o.reverse, if q.isEmpty then none else some stSTR_TOKEN⟩
    else match fuel, q with
      | f + 1, b :: r =>
        match tokLen (b.toNat / 64) (b.toNat % 64) r with
        | none => ⟨o.reverse, some stSTR_TOKEN⟩
        | some (len, r1) =>
          match tokRun ulen pitch p (b.toNat / 64) len r1 o with
          | none => ⟨o.reverse, some stSTR_TOKEN⟩
          | some (o1, r2) => tokGo ulen pitch f (p + len) r2 o1
      | _, _ => ⟨o.reverse, some stSTR_TOKEN⟩

def tokDecode (ulen pitch : Nat) (payload : List Byte) : Dec := tokGo ulen pitch payload.length 0 payload []

/-! RFC 1951 (R126). Bits come least significant first. -/

def byteBits (b : Byte) : List Bool := (List.range 8).map fun k => bit b.toNat k

/-- n bits as a number, least significant first. -/
def takeBits : Nat → List Bool → Option (Nat × List Bool)
  | 0, l => some (0, l)
  | _ + 1, [] => none
  | n + 1, b :: l => (takeBits n l).map fun r => (b2n b + 2 * r.1, r.2)

/-- A code table: how many codes of each length from 1, and the symbols in order of code. -/
structure Huff where
  counts : List Nat
  syms : List Nat
  deriving DecidableEq, Repr

/-- The code table of a list of code lengths. -/
def huffOf (lens : List Nat) : Huff :=
  let ls := (List.range 15).map (· + 1)
  ⟨ls.map fun k => lens.count k,
   (ls.map fun k => (List.range lens.length).filter fun i => lens.getD i 0 == k).flatten⟩

/-- Codes left over by a set of lengths: negative if it is over-subscribed. -/
def huffLeft (h : Huff) : Int := h.counts.foldl (fun (l : Int) c => 2 * l - c) 1

/-- A code set is usable: complete, or one code of one bit alone. -/
def huffOk (h : Huff) : Bool := huffLeft h = 0 || (h.syms.length ≤ 1 && h.counts.headD 0 = h.syms.length)

/-- One symbol, walking the lengths upward. -/
def huffGo : List Nat → List Nat → Nat → Nat → List Bool → Option (Nat × List Bool)
  | c :: cs, syms, code, first, b :: l =>
    let code := code + b2n b
    if code < first + c then (syms[code - first]?).map fun s => (s, l)
    else huffGo cs (syms.drop c) (2 * code) (2 * (first + c)) l
  | _, _, _, _, _ => none

def huffSym (h : Huff) (l : List Bool) : Option (Nat × List Bool) := huffGo h.counts h.syms 0 0 l

/-- Length and distance bases and extra bits of RFC 1951. -/
def lenBase : List Nat := [3, 4, 5, 6, 7, 8, 9, 10, 11, 13, 15, 17, 19, 23, 27, 31, 35, 43, 51, 59, 67, 83, 99, 115,
  131, 163, 195, 227, 258]
def lenExtra : List Nat := [0, 0, 0, 0, 0, 0, 0, 0, 1, 1, 1, 1, 2, 2, 2, 2, 3, 3, 3, 3, 4, 4, 4, 4, 5, 5, 5, 5, 0]
def distBase : List Nat := [1, 2, 3, 4, 5, 7, 9, 13, 17, 25, 33, 49, 65, 97, 129, 193, 257, 385, 513, 769, 1025, 1537,
  2049, 3073, 4097, 6145, 8193, 12289, 16385, 24577]
def distExtra : List Nat := [0, 0, 0, 0, 1, 1, 2, 2, 3, 3, 4, 4, 5, 5, 6, 6, 7, 7, 8, 8, 9, 9, 10, 10, 11, 11, 12, 12,
  13, 13]

/-- Where the stream stands: bits left, output reversed and its count. -/
structure Inf where
  l : List Bool
  o : List Byte
  p : Nat
  deriving DecidableEq, Repr

/-- Symbols of one block to its end-of-block code: the state, and whether it was reached without a failure. -/
def infCodes (ulen : Nat) (lit dist : Huff) : Nat → Inf → Inf × Bool
  | 0, s => (s, false)
  | f + 1, s =>
    match huffSym lit s.l with
    | none => (s, false)
    | some (sym, l1) =>
      if sym < 256 then
        if ulen ≤ s.p then (s, false) else infCodes ulen lit dist f ⟨l1, BitVec.ofNat 8 sym :: s.o, s.p + 1⟩
      else if sym = 256 then (⟨l1, s.o, s.p⟩, true)
      else if 285 < sym then (s, false)
      else
        match takeBits (lenExtra.getD (sym - 257) 0) l1 with
        | none => (s, false)
        | some (le, l2) =>
          match huffSym dist l2 with
          | none => (s, false)
          | some (ds, l3) =>
            if 29 < ds then (s, false)
            else match takeBits (distExtra.getD ds 0) l3 with
              | none => (s, false)
              | some (de, l4) =>
                let len := lenBase.getD (sym - 257) 0 + le
                let d := distBase.getD ds 0 + de
                if s.p < d || ulen < s.p + len then (s, false)
                else infCodes ulen lit dist f ⟨l4, lzCopy d len s.o, s.p + len⟩

/-- A stored block from the next byte boundary. DESIGN CHOICE (log entry 150): one that is cut short or passes ULEN gives none of its
bytes. -/
def infStored (ulen total : Nat) (s : Inf) : Inf × Bool :=
  let l := s.l.drop ((s.l.length - total % 8) % 8)
  match takeBits 16 l with
  | none => (s, false)
  | some (n, l1) =>
    match takeBits 16 l1 with
    | none => (s, false)
    | some (m, l2) =>
      if n + m ≠ 65535 || l2.length < 8 * n || ulen < s.p + n then (s, false)
      else
        let bytes := (List.range n).map fun i => BitVec.ofNat 8 (((takeBits 8 (l2.drop (8 * i))).map (·.1)).getD 0)
        (⟨l2.drop (8 * n), bytes.reverse ++ s.o, s.p + n⟩, true)

def fixedLit : Huff :=
  huffOf (List.replicate 144 8 ++ List.replicate 112 9 ++ List.replicate 24 7 ++ List.replicate 8 8)
def fixedDist : Huff := huffOf (List.replicate 30 5)

/-- The order of code length codes. -/
def clOrder : List Nat := [16, 17, 18, 0, 8, 7, 9, 6, 10, 5, 11, 4, 12, 3, 13, 2, 14, 1, 15]

/-- n code lengths of 3 bits. -/
def readCl : Nat → List Bool → Option (List Nat × List Bool)
  | 0, l => some ([], l)
  | n + 1, l =>
    match takeBits 3 l with
    | none => none
    | some (v, l1) => (readCl n l1).map fun r => (v :: r.1, r.2)

/-- The code lengths of a dynamic block, newest first, until n are read. -/
def readLens (cl : Huff) (n : Nat) : Nat → List Nat → List Bool → Option (List Nat × List Bool)
  | 0, _, _ => none
  | f + 1, acc, l =>
    if n ≤ acc.length then (if acc.length = n then some (acc.reverse, l) else none)
    else match huffSym cl l with
      | none => none
      | some (sym, l1) =>
        if sym < 16 then readLens cl n f (sym :: acc) l1
        else if sym = 16 && acc.isEmpty then none
        else
          let w := if sym = 16 then 2 else if sym = 17 then 3 else 7
          let base := if sym = 18 then 11 else 3
          match takeBits w l1 with
          | none => none
          | some (e, l2) => readLens cl n f (List.replicate (base + e) (if sym = 16 then acc.headD 0 else 0) ++ acc) l2

/-- The two code tables of a dynamic block. -/
def infTables (l : List Bool) : Option (Huff × Huff × List Bool) :=
  match takeBits 5 l with
  | none => none
  | some (hl, l1) =>
    match takeBits 5 l1 with
    | none => none
    | some (hd, l2) =>
      match takeBits 4 l2 with
      | none => none
      | some (hc, l3) =>
        if 29 < hl then none
        else match readCl (hc + 4) l3 with
          | none => none
          | some (cls, l4) =>
            let lens := (List.range 19).map fun s => cls.getD (clOrder.idxOf s) 0
            let cl := huffOf lens
            if huffLeft cl ≠ 0 then none
            else match readLens cl (hl + 257 + hd + 1) (hl + hd + 259) [] l4 with
              | none => none
              | some (ls, l5) =>
                let lit := huffOf (ls.take (hl + 257))
                let dist := huffOf (ls.drop (hl + 257))
                if ls.getD 256 0 = 0 || !huffOk lit || !huffOk dist then none else some (lit, dist, l5)

/-- Blocks until one with BFINAL = 1 has ended. -/
def infBlocks (ulen total : Nat) : Nat → Inf → Inf × Bool
  | 0, s => (s, false)
  | f + 1, s =>
    match takeBits 3 s.l with
    | none => (s, false)
    | some (h, l1) =>
      let s1 := { s with l := l1 }
      let fuel := l1.length + 1
      let r := match h / 2 with
        | 0 => infStored ulen total s1
        | 1 => infCodes ulen fixedLit fixedDist fuel s1
        | 2 => match infTables l1 with
          | none => (s1, false)
          | some (a, b, l2) => infCodes ulen a b fuel { s1 with l := l2 }
        | _ => (s1, false)
      if r.2 then (if h % 2 = 1 then r else infBlocks ulen total f r.1) else r

/-- A raw RFC 1951 stream: exactly ULEN bytes, unused bits of the last byte 0, no byte after it (R126). -/
def inflate (ulen : Nat) (payload : List Byte) : Dec :=
  let bl := (payload.map byteBits).flatten
  let r := infBlocks ulen bl.length bl.length ⟨bl, [], 0⟩
  let ok := r.2 && r.1.p == ulen && decide (r.1.l.length < 8) && r.1.l.all (!·)
  ⟨r.1.o.reverse, if ok then none else some stSTR_DEFLATE⟩

/-- A block's payload decoded under its mode. -/
def payloadDecode (h payload : List Byte) : Dec :=
  match hMode h with
  | 0 => tokDecode (hULen h) (hPitch h) payload
  | 1 => ⟨payload, none⟩
  | _ => inflate (hULen h) payload

/-! Encoding (R152 to R154). -/

/-- The payload of a MODE 0 block of an input, if the engine's tokens decode to it within LEN − 1 bytes; else the engine
found no gain. -/
def compressPayload (input : List Byte) (pitch : Nat) : Option (List Byte) :=
  let t := Config.tokens input pitch
  if t.length + 1 ≤ input.length && tokDecode input.length pitch t = ⟨input, none⟩ then some t else none

/-- A block's header (R119 to R121). -/
def mkHeader (mode : Nat) (enc : Bool) (ulen pitch clen : Nat) : List Byte :=
  let d0 := 0x7D5A + 2 ^ 16 + 2 ^ 24 * (mode + 4 * b2n enc)
  let d1 := (ulen - 1) + 2 ^ 16 * pitch
  leBytes 4 d0 ++ leBytes 4 d1 ++ leBytes 4 clen ++ leBytes 4 (foldXor [d0, d1, clen])

/-- A clear block (R118). -/
def mkBlock (mode : Nat) (input : List Byte) (pitch : Nat) (payload : List Byte) : List Byte :=
  mkHeader mode false input.length pitch payload.length ++ payload ++ leBytes 4 (crc32c input)

end Sys2Proof.Machine
end

