-- ==== Sys2Proof/Machine/Regs1.lean ====
section
/-! DEFINITION. The register fields of the blocks HIF, DMA, STR, PLN: the place of each field (`Fld`), as the
field tables of its chapter give it, and the block's rows of the register map (offset, repeats, reset word, access,
window and range of each field). Offsets are byte offsets in PF0 BAR0 (R59). The reset word of a field whose Reset
column reads CFG is its Sponge value (R504; log entry 5). -/

namespace Sys2Proof.Machine

/-! Fields of block HIF (R88, R89). -/
namespace F
def HIF_STATUS_LINK_UP : Fld := ⟨0x0, 0, 1⟩
def HIF_STATUS_SPEED : Fld := ⟨0x0, 1, 3⟩
def HIF_STATUS_WIDTH : Fld := ⟨0x0, 4, 4⟩
def HIF_STATUS_UNMAPPED : Fld := ⟨0x0, 8, 1⟩
def HIF_STATUS_BAD_ACCESS : Fld := ⟨0x0, 9, 1⟩
def HIF_STATUS_FAILOVER_SEEN : Fld := ⟨0x0, 10, 1⟩
def HIF_STATUS_WINDOW_VIOL : Fld := ⟨0x0, 11, 1⟩
def HIF_SQ_BASE_LO_BASE (i : Nat) : Fld := ⟨0x10000 + 0x40 * i, 12, 20⟩
def HIF_SQ_BASE_HI_BASE (i : Nat) : Fld := ⟨0x10004 + 0x40 * i, 0, 32⟩
def HIF_SQ_CFG_ENABLE (i : Nat) : Fld := ⟨0x10008 + 0x40 * i, 0, 1⟩
def HIF_SQ_CFG_SIZE (i : Nat) : Fld := ⟨0x10008 + 0x40 * i, 1, 4⟩
def HIF_SQ_CFG_HALT_ON_ERR (i : Nat) : Fld := ⟨0x10008 + 0x40 * i, 5, 1⟩
def HIF_SQ_CFG_CQ (i : Nat) : Fld := ⟨0x10008 + 0x40 * i, 8, 6⟩
def HIF_SQ_CFG_TARGET (i : Nat) : Fld := ⟨0x10008 + 0x40 * i, 16, 6⟩
def HIF_SQ_CFG_PRIO (i : Nat) : Fld := ⟨0x10008 + 0x40 * i, 24, 2⟩
def HIF_SQ_CTRL_RESUME (i : Nat) : Fld := ⟨0x1000C + 0x40 * i, 0, 1⟩
def HIF_SQ_STATE_HEAD (i : Nat) : Fld := ⟨0x10010 + 0x40 * i, 0, 16⟩
def HIF_SQ_STATE_TAIL (i : Nat) : Fld := ⟨0x10010 + 0x40 * i, 16, 16⟩
def HIF_SQ_STATUS_STATE (i : Nat) : Fld := ⟨0x10014 + 0x40 * i, 0, 2⟩
def HIF_SQ_STATUS_OWN_STALL (i : Nat) : Fld := ⟨0x10014 + 0x40 * i, 2, 1⟩
def HIF_SQ_STATUS_DB_INVALID (i : Nat) : Fld := ⟨0x10014 + 0x40 * i, 8, 1⟩
def HIF_SQ_STATUS_DB_DISABLED (i : Nat) : Fld := ⟨0x10014 + 0x40 * i, 9, 1⟩
def HIF_SQ_STATUS_FETCH_ERR (i : Nat) : Fld := ⟨0x10014 + 0x40 * i, 10, 1⟩
def HIF_SQ_STATUS_WINDOW_VIOL (i : Nat) : Fld := ⟨0x10014 + 0x40 * i, 11, 1⟩
def HIF_CQ_BASE_LO_BASE (i : Nat) : Fld := ⟨0x20000 + 0x40 * i, 12, 20⟩
def HIF_CQ_BASE_HI_BASE (i : Nat) : Fld := ⟨0x20004 + 0x40 * i, 0, 32⟩
def HIF_CQ_CFG_ENABLE (i : Nat) : Fld := ⟨0x20008 + 0x40 * i, 0, 1⟩
def HIF_CQ_CFG_SIZE (i : Nat) : Fld := ⟨0x20008 + 0x40 * i, 1, 4⟩
def HIF_CQ_CFG_VECTOR (i : Nat) : Fld := ⟨0x20008 + 0x40 * i, 8, 7⟩
def HIF_CQ_CFG_IRQ_EN (i : Nat) : Fld := ⟨0x20008 + 0x40 * i, 15, 1⟩
def HIF_CQ_CFG_COAL_CNT (i : Nat) : Fld := ⟨0x20008 + 0x40 * i, 16, 8⟩
def HIF_CQ_CFG_COAL_TIME (i : Nat) : Fld := ⟨0x20008 + 0x40 * i, 24, 8⟩
def HIF_CQ_STATE_HEAD (i : Nat) : Fld := ⟨0x20010 + 0x40 * i, 0, 16⟩
def HIF_CQ_STATE_TAIL (i : Nat) : Fld := ⟨0x20010 + 0x40 * i, 16, 16⟩
def HIF_CQ_STATUS_STATE (i : Nat) : Fld := ⟨0x20014 + 0x40 * i, 0, 2⟩
def HIF_CQ_STATUS_PHASE (i : Nat) : Fld := ⟨0x20014 + 0x40 * i, 2, 1⟩
def HIF_CQ_STATUS_DB_INVALID (i : Nat) : Fld := ⟨0x20014 + 0x40 * i, 8, 1⟩
def HIF_CQ_STATUS_DB_DISABLED (i : Nat) : Fld := ⟨0x20014 + 0x40 * i, 9, 1⟩
def HIF_CQ_STATUS_FULL_SEEN (i : Nat) : Fld := ⟨0x20014 + 0x40 * i, 10, 1⟩
def HIF_CQ_STATUS_WINDOW_VIOL (i : Nat) : Fld := ⟨0x20014 + 0x40 * i, 11, 1⟩
def HIF_EQ_BASE_LO_BASE (i : Nat) : Fld := ⟨0x30000 + 0x40 * i, 12, 20⟩
def HIF_EQ_BASE_HI_BASE (i : Nat) : Fld := ⟨0x30004 + 0x40 * i, 0, 32⟩
def HIF_EQ_CFG_ENABLE (i : Nat) : Fld := ⟨0x30008 + 0x40 * i, 0, 1⟩
def HIF_EQ_CFG_SIZE (i : Nat) : Fld := ⟨0x30008 + 0x40 * i, 1, 4⟩
def HIF_EQ_CFG_VECTOR (i : Nat) : Fld := ⟨0x30008 + 0x40 * i, 8, 7⟩
def HIF_EQ_CFG_IRQ_EN (i : Nat) : Fld := ⟨0x30008 + 0x40 * i, 15, 1⟩
def HIF_EQ_CFG_COAL_CNT (i : Nat) : Fld := ⟨0x30008 + 0x40 * i, 16, 8⟩
def HIF_EQ_CFG_COAL_TIME (i : Nat) : Fld := ⟨0x30008 + 0x40 * i, 24, 8⟩
def HIF_EQ_STATE_HEAD (i : Nat) : Fld := ⟨0x30010 + 0x40 * i, 0, 16⟩
def HIF_EQ_STATE_TAIL (i : Nat) : Fld := ⟨0x30010 + 0x40 * i, 16, 16⟩
def HIF_EQ_STATUS_STATE (i : Nat) : Fld := ⟨0x30014 + 0x40 * i, 0, 2⟩
def HIF_EQ_STATUS_PHASE (i : Nat) : Fld := ⟨0x30014 + 0x40 * i, 2, 1⟩
def HIF_EQ_STATUS_DB_INVALID (i : Nat) : Fld := ⟨0x30014 + 0x40 * i, 8, 1⟩
def HIF_EQ_STATUS_DB_DISABLED (i : Nat) : Fld := ⟨0x30014 + 0x40 * i, 9, 1⟩
def HIF_EQ_STATUS_DROPPED (i : Nat) : Fld := ⟨0x30014 + 0x40 * i, 10, 1⟩
def HIF_EQ_STATUS_WINDOW_VIOL (i : Nat) : Fld := ⟨0x30014 + 0x40 * i, 11, 1⟩
def HIF_EQ_STATUS_LOST_TOTAL (i : Nat) : Fld := ⟨0x30014 + 0x40 * i, 16, 16⟩
end F

def regTableHIF0 : List RegRow := [
  ⟨0x0, [], .all, 0x0, 0x0, [⟨0, 1, .ro, .any, 0, 0x1⟩, ⟨1, 3, .ro, .any, 0, 0x7⟩, ⟨4, 4, .ro, .any, 0, 0xF⟩, ⟨8, 1, .w1c, .any, 0, 0x1⟩, ⟨9, 1, .w1c, .any, 0, 0x1⟩, ⟨10, 1, .w1c, .any, 0, 0x1⟩, ⟨11, 1, .w1c, .any, 0, 0x1⟩]⟩,
  ⟨0x10000, [(0x40, 64)], .all, 0x0, 0x0, [⟨12, 20, .rw, .any, 0, 0xFFFFF⟩]⟩,
  ⟨0x10004, [(0x40, 64)], .all, 0x0, 0x0, [⟨0, 32, .rw, .any, 0, 0xFFFFFFFF⟩]⟩,
  ⟨0x10008, [(0x40, 64)], .all, 0x200008, 0x0, [⟨0, 1, .rw, .any, 0, 0x1⟩, ⟨1, 4, .rw, .any, 4, 15⟩, ⟨5, 1, .rw, .any, 0, 0x1⟩, ⟨8, 6, .rw, .any, 0, 0x3F⟩, ⟨16, 6, .rw, .any, 0, 0x3F⟩, ⟨24, 2, .rw, .any, 0, 0x3⟩]⟩,
  ⟨0x1000C, [(0x40, 64)], .all, 0x0, 0x0, [⟨0, 1, .wo, .any, 0, 0x1⟩]⟩,
  ⟨0x10010, [(0x40, 64)], .all, 0x0, 0x0, [⟨0, 16, .ro, .any, 0, 0xFFFF⟩, ⟨16, 16, .ro, .any, 0, 0xFFFF⟩]⟩,
  ⟨0x10014, [(0x40, 64)], .all, 0x0, 0x0, [⟨0, 2, .ro, .any, 0, 0x3⟩, ⟨2, 1, .ro, .any, 0, 0x1⟩, ⟨8, 1, .w1c, .any, 0, 0x1⟩, ⟨9, 1, .w1c, .any, 0, 0x1⟩, ⟨10, 1, .w1c, .any, 0, 0x1⟩, ⟨11, 1, .w1c, .any, 0, 0x1⟩]⟩,
  ⟨0x20000, [(0x40, 64)], .all, 0x0, 0x0, [⟨12, 20, .rw, .any, 0, 0xFFFFF⟩]⟩,
  ⟨0x20004, [(0x40, 64)], .all, 0x0, 0x0, [⟨0, 32, .rw, .any, 0, 0xFFFFFFFF⟩]⟩,
  ⟨0x20008, [(0x40, 64)], .all, 0x8, 0x0, [⟨0, 1, .rw, .any, 0, 0x1⟩, ⟨1, 4, .rw, .any, 4, 15⟩, ⟨8, 7, .rw, .any, 0, 0x7F⟩, ⟨15, 1, .rw, .any, 0, 0x1⟩, ⟨16, 8, .rw, .any, 0, 0xFF⟩, ⟨24, 8, .rw, .any, 0, 0xFF⟩]⟩,
  ⟨0x20010, [(0x40, 64)], .all, 0x0, 0x0, [⟨0, 16, .ro, .any, 0, 0xFFFF⟩, ⟨16, 16, .ro, .any, 0, 0xFFFF⟩]⟩,
  ⟨0x20014, [(0x40, 64)], .all, 0x0, 0x0, [⟨0, 2, .ro, .any, 0, 0x3⟩, ⟨2, 1, .ro, .any, 0, 0x1⟩, ⟨8, 1, .w1c, .any, 0, 0x1⟩, ⟨9, 1, .w1c, .any, 0, 0x1⟩, ⟨10, 1, .w1c, .any, 0, 0x1⟩, ⟨11, 1, .w1c, .any, 0, 0x1⟩]⟩,
  ⟨0x30000, [(0x40, 2)], .all, 0x0, 0x0, [⟨12, 20, .rw, .any, 0, 0xFFFFF⟩]⟩,
  ⟨0x30004, [(0x40, 2)], .all, 0x0, 0x0, [⟨0, 32, .rw, .any, 0, 0xFFFFFFFF⟩]⟩,
  ⟨0x30008, [(0x40, 2)], .all, 0x8, 0x0, [⟨0, 1, .rw, .any, 0, 0x1⟩, ⟨1, 4, .rw, .any, 4, 15⟩, ⟨8, 7, .rw, .any, 0, 0x7F⟩, ⟨15, 1, .rw, .any, 0, 0x1⟩, ⟨16, 8, .rw, .any, 0, 0xFF⟩, ⟨24, 8, .rw, .any, 0, 0xFF⟩]⟩,
  ⟨0x30010, [(0x40, 2)], .all, 0x0, 0x0, [⟨0, 16, .ro, .any, 0, 0xFFFF⟩, ⟨16, 16, .ro, .any, 0, 0xFFFF⟩]⟩,
  ⟨0x30014, [(0x40, 2)], .all, 0x0, 0x0, [⟨0, 2, .ro, .any, 0, 0x3⟩, ⟨2, 1, .ro, .any, 0, 0x1⟩, ⟨8, 1, .w1c, .any, 0, 0x1⟩, ⟨9, 1, .w1c, .any, 0, 0x1⟩, ⟨10, 1, .w1c, .any, 0, 0x1⟩, ⟨11, 1, .w1c, .any, 0, 0x1⟩, ⟨16, 16, .ro, .any, 0, 0xFFFF⟩]⟩]

/-- The register map of block HIF. -/
def regTableHIF : List RegRow := regTableHIF0

/-! Fields of block DMA (R116, R117). -/
namespace F
def DMA_CFG_WEIGHT (i : Nat) : Fld := ⟨0x100000 + 0x1000 * i, 0, 4⟩
def DMA_CFG_RELAXED (i : Nat) : Fld := ⟨0x100000 + 0x1000 * i, 4, 1⟩
def DMA_CFG_NOSNOOP (i : Nat) : Fld := ⟨0x100000 + 0x1000 * i, 5, 1⟩
def DMA_STATUS_MODE (i : Nat) : Fld := ⟨0x100004 + 0x1000 * i, 0, 2⟩
def DMA_STATUS_BUSY (i : Nat) : Fld := ⟨0x100004 + 0x1000 * i, 2, 1⟩
def DMA_STATUS_CUR_SH (i : Nat) : Fld := ⟨0x100004 + 0x1000 * i, 3, 1⟩
def DMA_STATUS_ARM_DROPPED (i : Nat) : Fld := ⟨0x100004 + 0x1000 * i, 8, 1⟩
def DMA_STATUS_WINDOW_VIOL (i : Nat) : Fld := ⟨0x100004 + 0x1000 * i, 9, 1⟩
def DMA_STATUS_ERR (i : Nat) : Fld := ⟨0x100004 + 0x1000 * i, 10, 1⟩
def DMA_PROGRESS_BYTES (i : Nat) : Fld := ⟨0x10000C + 0x1000 * i, 0, 32⟩
def DMA_SH_SRC_LO_SRC (i : Nat) (j : Nat) : Fld := ⟨0x100040 + 0x1000 * i + 0x40 * j, 0, 32⟩
def DMA_SH_SRC_HI_SRC (i : Nat) (j : Nat) : Fld := ⟨0x100044 + 0x1000 * i + 0x40 * j, 0, 32⟩
def DMA_SH_DST_LO_DST (i : Nat) (j : Nat) : Fld := ⟨0x100048 + 0x1000 * i + 0x40 * j, 0, 32⟩
def DMA_SH_DST_HI_DST (i : Nat) (j : Nat) : Fld := ⟨0x10004C + 0x1000 * i + 0x40 * j, 0, 32⟩
def DMA_SH_LEN_LEN (i : Nat) (j : Nat) : Fld := ⟨0x100050 + 0x1000 * i + 0x40 * j, 0, 32⟩
def DMA_SH_CTRL_SRC_SPACE (i : Nat) (j : Nat) : Fld := ⟨0x100054 + 0x1000 * i + 0x40 * j, 0, 2⟩
def DMA_SH_CTRL_DST_SPACE (i : Nat) (j : Nat) : Fld := ⟨0x100054 + 0x1000 * i + 0x40 * j, 2, 2⟩
def DMA_SH_CTRL_HALF (i : Nat) (j : Nat) : Fld := ⟨0x100054 + 0x1000 * i + 0x40 * j, 4, 1⟩
def DMA_SH_CTRL_FULL (i : Nat) (j : Nat) : Fld := ⟨0x100054 + 0x1000 * i + 0x40 * j, 5, 1⟩
def DMA_SH_CTRL_FLUSH_AFTER (i : Nat) (j : Nat) : Fld := ⟨0x100054 + 0x1000 * i + 0x40 * j, 6, 1⟩
def DMA_SH_CTRL_ARM (i : Nat) (j : Nat) : Fld := ⟨0x100054 + 0x1000 * i + 0x40 * j, 8, 1⟩
def DMA_SH_CTRL_DISARM (i : Nat) (j : Nat) : Fld := ⟨0x100054 + 0x1000 * i + 0x40 * j, 9, 1⟩
def DMA_SH_STATE_CODE (i : Nat) (j : Nat) : Fld := ⟨0x100058 + 0x1000 * i + 0x40 * j, 0, 8⟩
def DMA_SH_STATE_ARMED (i : Nat) (j : Nat) : Fld := ⟨0x100058 + 0x1000 * i + 0x40 * j, 8, 1⟩
def DMA_SH_STATE_RUNNING (i : Nat) (j : Nat) : Fld := ⟨0x100058 + 0x1000 * i + 0x40 * j, 9, 1⟩
def DMA_SH_STATE_SEQ (i : Nat) (j : Nat) : Fld := ⟨0x100058 + 0x1000 * i + 0x40 * j, 16, 8⟩
def DMA_SH_STATE_VALID (i : Nat) (j : Nat) : Fld := ⟨0x100058 + 0x1000 * i + 0x40 * j, 31, 1⟩
def DMA_SH_RESULT_BYTES (i : Nat) (j : Nat) : Fld := ⟨0x10005C + 0x1000 * i + 0x40 * j, 0, 32⟩
end F

def regTableDMA0 : List RegRow := [
  ⟨0x100000, [(0x1000, 32)], .all, 0x10, 0x0, [⟨0, 4, .rw, .any, 0, 0xF⟩, ⟨4, 1, .rw, .any, 0, 0x1⟩, ⟨5, 1, .rw, .any, 0, 0x1⟩]⟩,
  ⟨0x100004, [(0x1000, 32)], .all, 0x0, 0x0, [⟨0, 2, .ro, .any, 0, 0x3⟩, ⟨2, 1, .ro, .any, 0, 0x1⟩, ⟨3, 1, .ro, .any, 0, 0x1⟩, ⟨8, 1, .w1c, .any, 0, 0x1⟩, ⟨9, 1, .w1c, .any, 0, 0x1⟩, ⟨10, 1, .w1c, .any, 0, 0x1⟩]⟩,
  ⟨0x10000C, [(0x1000, 32)], .all, 0x0, 0x0, [⟨0, 32, .ro, .any, 0, 0xFFFFFFFF⟩]⟩,
  ⟨0x100040, [(0x1000, 32), (0x40, 2)], .all, 0x0, 0x0, [⟨0, 32, .rw, .any, 0, 0xFFFFFFFF⟩]⟩,
  ⟨0x100044, [(0x1000, 32), (0x40, 2)], .all, 0x0, 0x0, [⟨0, 32, .rw, .any, 0, 0xFFFFFFFF⟩]⟩,
  ⟨0x100048, [(0x1000, 32), (0x40, 2)], .all, 0x0, 0x0, [⟨0, 32, .rw, .any, 0, 0xFFFFFFFF⟩]⟩,
  ⟨0x10004C, [(0x1000, 32), (0x40, 2)], .all, 0x0, 0x0, [⟨0, 32, .rw, .any, 0, 0xFFFFFFFF⟩]⟩,
  ⟨0x100050, [(0x1000, 32), (0x40, 2)], .all, 0x0, 0x0, [⟨0, 32, .rw, .any, 0, 0xFFFFFFFF⟩]⟩,
  ⟨0x100054, [(0x1000, 32), (0x40, 2)], .all, 0x24, 0x0, [⟨0, 2, .rw, .any, 0, 0x3⟩, ⟨2, 2, .rw, .any, 0, 0x3⟩, ⟨4, 1, .rw, .any, 0, 0x1⟩, ⟨5, 1, .rw, .any, 0, 0x1⟩, ⟨6, 1, .rw, .any, 0, 0x1⟩, ⟨8, 1, .wo, .any, 0, 0x1⟩, ⟨9, 1, .wo, .any, 0, 0x1⟩]⟩,
  ⟨0x100058, [(0x1000, 32), (0x40, 2)], .all, 0x0, 0x0, [⟨0, 8, .ro, .any, 0, 0xFF⟩, ⟨8, 1, .ro, .any, 0, 0x1⟩, ⟨9, 1, .ro, .any, 0, 0x1⟩, ⟨16, 8, .ro, .any, 0, 0xFF⟩, ⟨31, 1, .ro, .any, 0, 0x1⟩]⟩,
  ⟨0x10005C, [(0x1000, 32), (0x40, 2)], .all, 0x0, 0x0, [⟨0, 32, .ro, .any, 0, 0xFFFFFFFF⟩]⟩]

/-- The register map of block DMA. -/
def regTableDMA : List RegRow := regTableDMA0

/-! Fields of block STR (R158). -/
namespace F
def STR_STATUS_ERR : Fld := ⟨0x200000, 0, 1⟩
def STR_STATUS_AUTH_FAIL : Fld := ⟨0x200000, 1, 1⟩
def STR_STATUS_WINDOW_VIOL : Fld := ⟨0x200000, 2, 1⟩
def STR_CFG_HOST_ENG_MAX : Fld := ⟨0x200004, 0, 4⟩
def STR_ENG_BUSY_DEC : Fld := ⟨0x200008, 0, 8⟩
def STR_ENG_BUSY_CMP : Fld := ⟨0x200008, 8, 2⟩
def STR_CTX_BUSY_SUSPENDED : Fld := ⟨0x20000C, 0, 16⟩
def STR_BLOCKS_LO_COUNT : Fld := ⟨0x200010, 0, 32⟩
def STR_BLOCKS_HI_COUNT : Fld := ⟨0x200014, 0, 32⟩
def STR_ERRORS_COUNT : Fld := ⟨0x200018, 0, 32⟩
def STR_JOB_STATE_STATE (i : Nat) : Fld := ⟨0x200100 + 0x20 * i, 0, 2⟩
def STR_JOB_STATE_ENC (i : Nat) : Fld := ⟨0x200100 + 0x20 * i, 2, 1⟩
def STR_JOB_STATE_PLATES (i : Nat) : Fld := ⟨0x200100 + 0x20 * i, 16, 16⟩
def STR_JOB_ID_LO_JOB_ID (i : Nat) : Fld := ⟨0x200104 + 0x20 * i, 0, 32⟩
def STR_JOB_ID_HI_JOB_ID (i : Nat) : Fld := ⟨0x200108 + 0x20 * i, 0, 32⟩
def STR_JOB_STAGED_LO_STAGED (i : Nat) : Fld := ⟨0x20010C + 0x20 * i, 0, 32⟩
def STR_JOB_STAGED_HI_STAGED (i : Nat) : Fld := ⟨0x200110 + 0x20 * i, 0, 32⟩
def STR_JOB_CONSUMED_LO_CONSUMED (i : Nat) : Fld := ⟨0x200114 + 0x20 * i, 0, 32⟩
def STR_JOB_CONSUMED_HI_CONSUMED (i : Nat) : Fld := ⟨0x200118 + 0x20 * i, 0, 32⟩
def STR_JOB_LAST_ERR_BLOCK (i : Nat) : Fld := ⟨0x20011C + 0x20 * i, 0, 31⟩
def STR_JOB_LAST_ERR_VALID (i : Nat) : Fld := ⟨0x20011C + 0x20 * i, 31, 1⟩
end F

def regTableSTR0 : List RegRow := [
  ⟨0x200000, [], .all, 0x0, 0x0, [⟨0, 1, .w1c, .any, 0, 0x1⟩, ⟨1, 1, .w1c, .any, 0, 0x1⟩, ⟨2, 1, .w1c, .any, 0, 0x1⟩]⟩,
  ⟨0x200004, [], .all, 0x2, 0xF, [⟨0, 4, .rw, .any, 0, 8⟩]⟩,
  ⟨0x200008, [], .all, 0x0, 0x0, [⟨0, 8, .ro, .any, 0, 0xFF⟩, ⟨8, 2, .ro, .any, 0, 0x3⟩]⟩,
  ⟨0x20000C, [], .all, 0x0, 0x0, [⟨0, 16, .ro, .any, 0, 0xFFFF⟩]⟩,
  ⟨0x200010, [], .all, 0x0, 0x0, [⟨0, 32, .ro, .any, 0, 0xFFFFFFFF⟩]⟩,
  ⟨0x200014, [], .all, 0x0, 0x0, [⟨0, 32, .ro, .any, 0, 0xFFFFFFFF⟩]⟩,
  ⟨0x200018, [], .all, 0x0, 0x0, [⟨0, 32, .ro, .any, 0, 0xFFFFFFFF⟩]⟩,
  ⟨0x200100, [(0x20, 4)], .all, 0x0, 0x0, [⟨0, 2, .ro, .any, 0, 0x3⟩, ⟨2, 1, .ro, .any, 0, 0x1⟩, ⟨16, 16, .ro, .any, 0, 0xFFFF⟩]⟩,
  ⟨0x200104, [(0x20, 4)], .all, 0x0, 0x0, [⟨0, 32, .ro, .any, 0, 0xFFFFFFFF⟩]⟩,
  ⟨0x200108, [(0x20, 4)], .all, 0x0, 0x0, [⟨0, 32, .ro, .any, 0, 0xFFFFFFFF⟩]⟩,
  ⟨0x20010C, [(0x20, 4)], .all, 0x0, 0x0, [⟨0, 32, .ro, .any, 0, 0xFFFFFFFF⟩]⟩,
  ⟨0x200110, [(0x20, 4)], .all, 0x0, 0x0, [⟨0, 32, .ro, .any, 0, 0xFFFFFFFF⟩]⟩,
  ⟨0x200114, [(0x20, 4)], .all, 0x0, 0x0, [⟨0, 32, .ro, .any, 0, 0xFFFFFFFF⟩]⟩,
  ⟨0x200118, [(0x20, 4)], .all, 0x0, 0x0, [⟨0, 32, .ro, .any, 0, 0xFFFFFFFF⟩]⟩,
  ⟨0x20011C, [(0x20, 4)], .all, 0x0, 0x0, [⟨0, 31, .ro, .any, 0, 0x7FFFFFFF⟩, ⟨31, 1, .ro, .any, 0, 0x1⟩]⟩]

/-- The register map of block STR. -/
def regTableSTR : List RegRow := regTableSTR0

/-! Fields of block PLN (R189). -/
namespace F
def PLN_STATUS_WINDOW_VIOL : Fld := ⟨0x300000, 0, 1⟩
def PLN_STATUS_SPOIL_SEEN : Fld := ⟨0x300000, 1, 1⟩
def PLN_STATUS_JAR_LOW : Fld := ⟨0x300000, 2, 1⟩
def PLN_STATUS_JAR_PEAK : Fld := ⟨0x300000, 3, 1⟩
def PLN_STATUS_K_CLAMPED : Fld := ⟨0x300000, 4, 1⟩
def PLN_STATUS_STARTED_REC : Fld := ⟨0x300000, 8, 2⟩
def PLN_STATUS_STARTED_VALID : Fld := ⟨0x300000, 10, 1⟩
def PLN_CFG_HALT_ON_SPOIL : Fld := ⟨0x300004, 0, 1⟩
def PLN_CFG_ALPHA_T : Fld := ⟨0x300004, 1, 3⟩
def PLN_CFG_DRIZZLE_SLEW : Fld := ⟨0x300004, 8, 8⟩
def PLN_COMMIT_STATUS_CODE : Fld := ⟨0x300008, 0, 8⟩
def PLN_COMMIT_STATUS_FAILED : Fld := ⟨0x300008, 8, 9⟩
def PLN_COMMIT_STATUS_JAR : Fld := ⟨0x300008, 17, 5⟩
def PLN_COMMIT_STATUS_SEQ : Fld := ⟨0x300008, 24, 7⟩
def PLN_COMMIT_STATUS_VALID : Fld := ⟨0x300008, 31, 1⟩
def PLN_DOT_CEIL_MBPS : Fld := ⟨0x30000C, 0, 32⟩
def PLN_SUPPLY_CEIL_W : Fld := ⟨0x300010, 0, 32⟩
def PLN_MEDIUM_AXES_MASK : Fld := ⟨0x300014, 0, 24⟩
def PLN_SPEED_FACTOR : Fld := ⟨0x300018, 0, 17⟩
def PLN_THERM_K_K_T : Fld := ⟨0x30001C, 0, 16⟩
def PLN_INGEST_BYTES (i : Nat) : Fld := ⟨0x300020 + 0x4 * i, 0, 32⟩
def PLN_PLATE_STATE_STATE (i : Nat) : Fld := ⟨0x300100 + 0x20 * i, 0, 3⟩
def PLN_PLATE_STATE_LATE_MODE (i : Nat) : Fld := ⟨0x300100 + 0x20 * i, 4, 2⟩
def PLN_PLATE_STATE_REASON (i : Nat) : Fld := ⟨0x300100 + 0x20 * i, 8, 8⟩
def PLN_PLATE_STATE_SLOT (i : Nat) : Fld := ⟨0x300100 + 0x20 * i, 16, 2⟩
def PLN_PLATE_ID_PLATE (i : Nat) : Fld := ⟨0x300104 + 0x20 * i, 0, 16⟩
def PLN_PLATE_START_LO_TIME (i : Nat) : Fld := ⟨0x300108 + 0x20 * i, 0, 32⟩
def PLN_PLATE_START_HI_TIME (i : Nat) : Fld := ⟨0x30010C + 0x20 * i, 0, 32⟩
def PLN_PLATE_END_LO_TIME (i : Nat) : Fld := ⟨0x300110 + 0x20 * i, 0, 32⟩
def PLN_PLATE_END_HI_TIME (i : Nat) : Fld := ⟨0x300114 + 0x20 * i, 0, 32⟩
def PLN_JAR_CFG_EN (i : Nat) : Fld := ⟨0x301000 + 0x20 * i, 0, 1⟩
def PLN_JAR_CFG_SRC (i : Nat) : Fld := ⟨0x301000 + 0x20 * i, 1, 3⟩
def PLN_JAR_CFG_ALPHA (i : Nat) : Fld := ⟨0x301000 + 0x20 * i, 4, 3⟩
def PLN_JAR_CFG_INDEX (i : Nat) : Fld := ⟨0x301000 + 0x20 * i, 8, 8⟩
def PLN_JAR_CFG_CHMASK (i : Nat) : Fld := ⟨0x301000 + 0x20 * i, 16, 16⟩
def PLN_JAR_CAP_MJ (i : Nat) : Fld := ⟨0x301004 + 0x20 * i, 0, 32⟩
def PLN_JAR_REFILL_MW (i : Nat) : Fld := ⟨0x301008 + 0x20 * i, 0, 32⟩
def PLN_JAR_CEIL_W (i : Nat) : Fld := ⟨0x30100C + 0x20 * i, 0, 16⟩
def PLN_JAR_SCALE_MW (i : Nat) : Fld := ⟨0x301010 + 0x20 * i, 0, 32⟩
def PLN_JAR_RESERVE_MJ (i : Nat) : Fld := ⟨0x301014 + 0x20 * i, 0, 32⟩
def PLN_JAR_LEVEL_MJ (i : Nat) : Fld := ⟨0x301018 + 0x20 * i, 0, 32⟩
def PLN_JAR_K_K (i : Nat) : Fld := ⟨0x30101C + 0x20 * i, 0, 16⟩
end F

def regTablePLN0 : List RegRow := [
  ⟨0x300000, [], .all, 0x0, 0x0, [⟨0, 1, .w1c, .any, 0, 0x1⟩, ⟨1, 1, .w1c, .any, 0, 0x1⟩, ⟨2, 1, .w1c, .any, 0, 0x1⟩, ⟨3, 1, .w1c, .any, 0, 0x1⟩, ⟨4, 1, .w1c, .any, 0, 0x1⟩, ⟨8, 2, .ro, .any, 0, 0x3⟩, ⟨10, 1, .ro, .any, 0, 0x1⟩]⟩,
  ⟨0x300004, [], .all, 0x1005, 0xFF0F, [⟨0, 1, .rw, .plate, 0, 0x1⟩, ⟨1, 3, .rw, .plate, 0, 0x7⟩, ⟨8, 8, .rw, .plate, 1, 255⟩]⟩,
  ⟨0x300008, [], .all, 0x0, 0x0, [⟨0, 8, .ro, .any, 0, 0xFF⟩, ⟨8, 9, .ro, .any, 0, 0x1FF⟩, ⟨17, 5, .ro, .any, 0, 0x1F⟩, ⟨24, 7, .ro, .any, 0, 0x7F⟩, ⟨31, 1, .ro, .any, 0, 0x1⟩]⟩,
  ⟨0x30000C, [], .all, 0x2EE00, 0x0, [⟨0, 32, .ro, .any, 0, 0xFFFFFFFF⟩]⟩,
  ⟨0x300010, [], .all, 0xFFFFFFFF, 0xFFFFFFFF, [⟨0, 32, .rw, .plate, 0, 0xFFFFFFFF⟩]⟩,
  ⟨0x300014, [], .all, 0x0, 0xFFFFFF, [⟨0, 24, .rw, .plate, 0, 0xFFFFFF⟩]⟩,
  ⟨0x300018, [], .all, 0x10000, 0x0, [⟨0, 17, .ro, .any, 0, 0x1FFFF⟩]⟩,
  ⟨0x30001C, [], .all, 0x1000, 0x0, [⟨0, 16, .ro, .any, 0, 0xFFFF⟩]⟩,
  ⟨0x300020, [(0x4, 4)], .all, 0x0, 0x0, [⟨0, 32, .ro, .any, 0, 0xFFFFFFFF⟩]⟩,
  ⟨0x300100, [(0x20, 4)], .all, 0x0, 0x0, [⟨0, 3, .ro, .any, 0, 0x7⟩, ⟨4, 2, .ro, .any, 0, 0x3⟩, ⟨8, 8, .ro, .any, 0, 0xFF⟩, ⟨16, 2, .ro, .any, 0, 0x3⟩]⟩,
  ⟨0x300104, [(0x20, 4)], .all, 0x0, 0x0, [⟨0, 16, .ro, .any, 0, 0xFFFF⟩]⟩,
  ⟨0x300108, [(0x20, 4)], .all, 0x0, 0x0, [⟨0, 32, .ro, .any, 0, 0xFFFFFFFF⟩]⟩,
  ⟨0x30010C, [(0x20, 4)], .all, 0x0, 0x0, [⟨0, 32, .ro, .any, 0, 0xFFFFFFFF⟩]⟩,
  ⟨0x300110, [(0x20, 4)], .all, 0x0, 0x0, [⟨0, 32, .ro, .any, 0, 0xFFFFFFFF⟩]⟩,
  ⟨0x300114, [(0x20, 4)], .all, 0x0, 0x0, [⟨0, 32, .ro, .any, 0, 0xFFFFFFFF⟩]⟩,
  ⟨0x301000, [(0x20, 32)], .all, 0x0, 0xFFFFFF7F, [⟨0, 1, .rw, .plate, 0, 0x1⟩, ⟨1, 3, .rw, .plate, 0, 5⟩, ⟨4, 3, .rw, .plate, 0, 0x7⟩, ⟨8, 8, .rw, .plate, 0, 0xFF⟩, ⟨16, 16, .rw, .plate, 0, 0xFFFF⟩]⟩,
  ⟨0x301004, [(0x20, 32)], .all, 0x0, 0xFFFFFFFF, [⟨0, 32, .rw, .plate, 0, 0xFFFFFFFF⟩]⟩,
  ⟨0x301008, [(0x20, 32)], .all, 0x0, 0xFFFFFFFF, [⟨0, 32, .rw, .plate, 0, 0xFFFFFFFF⟩]⟩,
  ⟨0x30100C, [(0x20, 32)], .all, 0x0, 0xFFFF, [⟨0, 16, .rw, .plate, 0, 0xFFFF⟩]⟩,
  ⟨0x301010, [(0x20, 32)], .all, 0x0, 0xFFFFFFFF, [⟨0, 32, .rw, .plate, 0, 0xFFFFFFFF⟩]⟩]

def regTablePLN1 : List RegRow := [
  ⟨0x301014, [(0x20, 32)], .all, 0x0, 0xFFFFFFFF, [⟨0, 32, .rw, .plate, 0, 0xFFFFFFFF⟩]⟩,
  ⟨0x301018, [(0x20, 32)], .all, 0x0, 0x0, [⟨0, 32, .ro, .any, 0, 0xFFFFFFFF⟩]⟩,
  ⟨0x30101C, [(0x20, 32)], .all, 0x1000, 0x0, [⟨0, 16, .ro, .any, 0, 0xFFFF⟩]⟩]

/-- The register map of block PLN. -/
def regTablePLN : List RegRow := regTablePLN0 ++ regTablePLN1

end Sys2Proof.Machine
end

