-- ==== Sys2Proof/Machine/Regs2.lean ====
section
/-! DEFINITION. The register fields of the blocks BLK, RAS, VEC, STI, MPL: the place of each field (`Fld`), as the
field tables of its chapter give it, and the block's rows of the register map (offset, repeats, reset word, access,
window and range of each field). Offsets are byte offsets in PF0 BAR0 (R59). The reset word of a field whose Reset
column reads CFG is its Sponge value (R504; log entry 5). -/

namespace Sys2Proof.Machine

/-! Fields of block BLK (R220). -/
namespace F
def BLK_CFG_EN (i : Nat) : Fld := ⟨0x400000 + 0x1000 * i, 0, 1⟩
def BLK_CFG_DOT_LEAD (i : Nat) : Fld := ⟨0x400000 + 0x1000 * i, 1, 3⟩
def BLK_CFG_STAT_10US (i : Nat) : Fld := ⟨0x400000 + 0x1000 * i, 8, 8⟩
def BLK_CFG_ENC_FT (i : Nat) : Fld := ⟨0x400000 + 0x1000 * i, 16, 8⟩
def BLK_STATUS_STATE (i : Nat) : Fld := ⟨0x400004 + 0x1000 * i, 0, 3⟩
def BLK_STATUS_LOCK0 (i : Nat) : Fld := ⟨0x400004 + 0x1000 * i, 3, 1⟩
def BLK_STATUS_LOCK1 (i : Nat) : Fld := ⟨0x400004 + 0x1000 * i, 4, 1⟩
def BLK_STATUS_BLANKING (i : Nat) : Fld := ⟨0x400004 + 0x1000 * i, 5, 1⟩
def BLK_STATUS_LINK_LOST (i : Nat) : Fld := ⟨0x400004 + 0x1000 * i, 8, 1⟩
def BLK_STATUS_SILENT (i : Nat) : Fld := ⟨0x400004 + 0x1000 * i, 9, 1⟩
def BLK_STATUS_DOT_LATE (i : Nat) : Fld := ⟨0x400004 + 0x1000 * i, 10, 1⟩
def BLK_STATUS_RX_ERR (i : Nat) : Fld := ⟨0x400004 + 0x1000 * i, 11, 1⟩
def BLK_STATUS_CTRL_NOACK (i : Nat) : Fld := ⟨0x400004 + 0x1000 * i, 12, 1⟩
def BLK_STATUS_REMOTE_ERR (i : Nat) : Fld := ⟨0x400004 + 0x1000 * i, 13, 1⟩
def BLK_STATUS_WINDOW_VIOL (i : Nat) : Fld := ⟨0x400004 + 0x1000 * i, 14, 1⟩
def BLK_CMD_RETRAIN (i : Nat) : Fld := ⟨0x400008 + 0x1000 * i, 0, 1⟩
def BLK_CMD_ECHO (i : Nat) : Fld := ⟨0x400008 + 0x1000 * i, 1, 1⟩
def BLK_CMD_BLANK (i : Nat) : Fld := ⟨0x400008 + 0x1000 * i, 2, 1⟩
def BLK_CMD_CTRL_GO (i : Nat) : Fld := ⟨0x400008 + 0x1000 * i, 3, 1⟩
def BLK_FIFO_FILL (i : Nat) : Fld := ⟨0x40000C + 0x1000 * i, 0, 11⟩
def BLK_RTT_DELAY (i : Nat) : Fld := ⟨0x400010 + 0x1000 * i, 0, 32⟩
def BLK_CTRL_OP_OP (i : Nat) : Fld := ⟨0x400014 + 0x1000 * i, 0, 8⟩
def BLK_CTRL_ARG0_ARG (i : Nat) : Fld := ⟨0x400018 + 0x1000 * i, 0, 32⟩
def BLK_CTRL_ARG1_ARG (i : Nat) : Fld := ⟨0x40001C + 0x1000 * i, 0, 32⟩
def BLK_CTRL_RESULT_RESULT (i : Nat) : Fld := ⟨0x400020 + 0x1000 * i, 0, 8⟩
def BLK_CTRL_RESULT_OP (i : Nat) : Fld := ⟨0x400020 + 0x1000 * i, 8, 8⟩
def BLK_CTRL_RESULT_SEQ (i : Nat) : Fld := ⟨0x400020 + 0x1000 * i, 16, 8⟩
def BLK_CTRL_RESULT_VALID (i : Nat) : Fld := ⟨0x400020 + 0x1000 * i, 31, 1⟩
def BLK_CTRL_DATA_DATA (i : Nat) : Fld := ⟨0x400024 + 0x1000 * i, 0, 32⟩
def BLK_STAT_TS_TIME (i : Nat) : Fld := ⟨0x40004C + 0x1000 * i, 0, 32⟩
def BLK_TX_FRAMES_COUNT (i : Nat) : Fld := ⟨0x400050 + 0x1000 * i, 0, 32⟩
def BLK_RX_FRAMES_COUNT (i : Nat) : Fld := ⟨0x400054 + 0x1000 * i, 0, 32⟩
def BLK_RX_ERR_COUNT (i : Nat) : Fld := ⟨0x400058 + 0x1000 * i, 0, 32⟩
def BLK_DOT_LATE_COUNT (i : Nat) : Fld := ⟨0x40005C + 0x1000 * i, 0, 32⟩
def BLK_LINKUPS_COUNT (i : Nat) : Fld := ⟨0x400060 + 0x1000 * i, 0, 32⟩
def BLK_STATW_WORD (i : Nat) (j : Nat) : Fld := ⟨0x400030 + 0x1000 * i + 0x4 * j, 0, 32⟩
end F

def regTableBLK0 : List RegRow := [
  ⟨0x400000, [(0x1000, 16)], .beam, 0x10A06, 0xFFFF0F, [⟨0, 1, .rw, .plate, 0, 0x1⟩, ⟨1, 3, .rw, .plate, 1, 6⟩, ⟨8, 8, .rw, .plate, 1, 100⟩, ⟨16, 8, .rw, .plate, 1, 20⟩]⟩,
  ⟨0x400004, [(0x1000, 16)], .beam, 0x0, 0x0, [⟨0, 3, .ro, .any, 0, 0x7⟩, ⟨3, 1, .ro, .any, 0, 0x1⟩, ⟨4, 1, .ro, .any, 0, 0x1⟩, ⟨5, 1, .ro, .any, 0, 0x1⟩, ⟨8, 1, .w1c, .any, 0, 0x1⟩, ⟨9, 1, .w1c, .any, 0, 0x1⟩, ⟨10, 1, .w1c, .any, 0, 0x1⟩, ⟨11, 1, .w1c, .any, 0, 0x1⟩, ⟨12, 1, .w1c, .any, 0, 0x1⟩, ⟨13, 1, .w1c, .any, 0, 0x1⟩, ⟨14, 1, .w1c, .any, 0, 0x1⟩]⟩,
  ⟨0x400008, [(0x1000, 16)], .beam, 0x0, 0x0, [⟨0, 1, .wo, .plate, 0, 0x1⟩, ⟨1, 1, .wo, .plate, 0, 0x1⟩, ⟨2, 1, .wo, .any, 0, 0x1⟩, ⟨3, 1, .wo, .any, 0, 0x1⟩]⟩,
  ⟨0x40000C, [(0x1000, 16)], .beam, 0x0, 0x0, [⟨0, 11, .ro, .any, 0, 0x7FF⟩]⟩,
  ⟨0x400010, [(0x1000, 16)], .beam, 0x0, 0x0, [⟨0, 32, .ro, .any, 0, 0xFFFFFFFF⟩]⟩,
  ⟨0x400014, [(0x1000, 16)], .beam, 0x0, 0x0, [⟨0, 8, .rw, .any, 128, 255⟩]⟩,
  ⟨0x400018, [(0x1000, 16)], .beam, 0x0, 0x0, [⟨0, 32, .rw, .any, 0, 0xFFFFFFFF⟩]⟩,
  ⟨0x40001C, [(0x1000, 16)], .beam, 0x0, 0x0, [⟨0, 32, .rw, .any, 0, 0xFFFFFFFF⟩]⟩,
  ⟨0x400020, [(0x1000, 16)], .beam, 0x0, 0x0, [⟨0, 8, .ro, .any, 0, 0xFF⟩, ⟨8, 8, .ro, .any, 0, 0xFF⟩, ⟨16, 8, .ro, .any, 0, 0xFF⟩, ⟨31, 1, .ro, .any, 0, 0x1⟩]⟩,
  ⟨0x400024, [(0x1000, 16)], .beam, 0x0, 0x0, [⟨0, 32, .ro, .any, 0, 0xFFFFFFFF⟩]⟩,
  ⟨0x40004C, [(0x1000, 16)], .beam, 0x0, 0x0, [⟨0, 32, .ro, .any, 0, 0xFFFFFFFF⟩]⟩,
  ⟨0x400050, [(0x1000, 16)], .beam, 0x0, 0x0, [⟨0, 32, .ro, .any, 0, 0xFFFFFFFF⟩]⟩,
  ⟨0x400054, [(0x1000, 16)], .beam, 0x0, 0x0, [⟨0, 32, .ro, .any, 0, 0xFFFFFFFF⟩]⟩,
  ⟨0x400058, [(0x1000, 16)], .beam, 0x0, 0x0, [⟨0, 32, .ro, .any, 0, 0xFFFFFFFF⟩]⟩,
  ⟨0x40005C, [(0x1000, 16)], .beam, 0x0, 0x0, [⟨0, 32, .ro, .any, 0, 0xFFFFFFFF⟩]⟩,
  ⟨0x400060, [(0x1000, 16)], .beam, 0x0, 0x0, [⟨0, 32, .ro, .any, 0, 0xFFFFFFFF⟩]⟩,
  ⟨0x400030, [(0x1000, 16), (0x4, 7)], .beam, 0x0, 0x0, [⟨0, 32, .ro, .any, 0, 0xFFFFFFFF⟩]⟩]

/-- The register map of block BLK. -/
def regTableBLK : List RegRow := regTableBLK0

/-! Fields of block RAS (R246, R247). -/
namespace F
def RAS_CFG_DEPTH (i : Nat) : Fld := ⟨0x500000 + 0x10000 * i, 0, 2⟩
def RAS_CFG_BEAMS_M1 (i : Nat) : Fld := ⟨0x500000 + 0x10000 * i, 2, 5⟩
def RAS_CFG_FEED_SRC (i : Nat) : Fld := ⟨0x500000 + 0x10000 * i, 7, 1⟩
def RAS_CFG_FACET_SRC (i : Nat) : Fld := ⟨0x500000 + 0x10000 * i, 8, 1⟩
def RAS_CFG_FACETS_M1 (i : Nat) : Fld := ⟨0x500000 + 0x10000 * i, 9, 4⟩
def RAS_CFG_MERGE (i : Nat) : Fld := ⟨0x500000 + 0x10000 * i, 13, 3⟩
def RAS_CFG_AVG (i : Nat) : Fld := ⟨0x500000 + 0x10000 * i, 16, 3⟩
def RAS_CFG_FEED_LEN_M1 (i : Nat) : Fld := ⟨0x500000 + 0x10000 * i, 20, 4⟩
def RAS_CFG_FEED_AXIS (i : Nat) : Fld := ⟨0x500000 + 0x10000 * i, 24, 5⟩
def RAS_STATUS_LOCK (i : Nat) : Fld := ⟨0x500004 + 0x10000 * i, 0, 1⟩
def RAS_STATUS_FACET (i : Nat) : Fld := ⟨0x500004 + 0x10000 * i, 1, 4⟩
def RAS_STATUS_MISSES (i : Nat) : Fld := ⟨0x500004 + 0x10000 * i, 5, 2⟩
def RAS_STATUS_HEAD_HOT (i : Nat) : Fld := ⟨0x500004 + 0x10000 * i, 7, 1⟩
def RAS_STATUS_SOS_MISS (i : Nat) : Fld := ⟨0x500004 + 0x10000 * i, 8, 1⟩
def RAS_STATUS_LOCK_LOST (i : Nat) : Fld := ⟨0x500004 + 0x10000 * i, 9, 1⟩
def RAS_STATUS_FACET_SLIP (i : Nat) : Fld := ⟨0x500004 + 0x10000 * i, 10, 1⟩
def RAS_STATUS_HEALTH_CHG (i : Nat) : Fld := ⟨0x500004 + 0x10000 * i, 11, 1⟩
def RAS_STATUS_HEAD_SOFT (i : Nat) : Fld := ⟨0x500004 + 0x10000 * i, 12, 1⟩
def RAS_STATUS_HEAD_HARD (i : Nat) : Fld := ⟨0x500004 + 0x10000 * i, 13, 1⟩
def RAS_STATUS_PLACE_LATE (i : Nat) : Fld := ⟨0x500004 + 0x10000 * i, 14, 1⟩
def RAS_STATUS_SHORT_TAIL (i : Nat) : Fld := ⟨0x500004 + 0x10000 * i, 15, 1⟩
def RAS_STATUS_WINDOW_VIOL (i : Nat) : Fld := ⟨0x500004 + 0x10000 * i, 16, 1⟩
def RAS_CMD_FACET_ZERO (i : Nat) : Fld := ⟨0x500008 + 0x10000 * i, 0, 1⟩
def RAS_CMD_RELOCK (i : Nat) : Fld := ⟨0x500008 + 0x10000 * i, 1, 1⟩
def RAS_LINE_DOTS_M1 (i : Nat) : Fld := ⟨0x50000C + 0x10000 * i, 0, 16⟩
def RAS_LINE_START (i : Nat) : Fld := ⟨0x50000C + 0x10000 * i, 16, 16⟩
def RAS_DOT_PERIOD_PERIOD (i : Nat) : Fld := ⟨0x500010 + 0x10000 * i, 0, 24⟩
def RAS_SOS_PERIOD_NS (i : Nat) : Fld := ⟨0x500014 + 0x10000 * i, 0, 32⟩
def RAS_SOS_WIN_NS (i : Nat) : Fld := ⟨0x500018 + 0x10000 * i, 0, 16⟩
def RAS_HEAD_LIMIT_SOFT (i : Nat) : Fld := ⟨0x50001C + 0x10000 * i, 0, 16⟩
def RAS_HEAD_LIMIT_HARD (i : Nat) : Fld := ⟨0x50001C + 0x10000 * i, 16, 16⟩
def RAS_FEED_TOL_TOL (i : Nat) : Fld := ⟨0x500020 + 0x10000 * i, 0, 16⟩
def RAS_FEED_SCALE_SCALE (i : Nat) : Fld := ⟨0x500024 + 0x10000 * i, 0, 32⟩
def RAS_FEED_ORG_ORG (i : Nat) : Fld := ⟨0x500028 + 0x10000 * i, 0, 32⟩
def RAS_POOL_REQ_BYTES (i : Nat) : Fld := ⟨0x50002C + 0x10000 * i, 0, 32⟩
def RAS_HEALTH_LO_HEALTH (i : Nat) : Fld := ⟨0x500030 + 0x10000 * i, 0, 32⟩
def RAS_HEALTH_HI_HEALTH (i : Nat) : Fld := ⟨0x500034 + 0x10000 * i, 0, 32⟩
def RAS_HEAD_TEMP_TEMP (i : Nat) : Fld := ⟨0x500038 + 0x10000 * i, 0, 16⟩
def RAS_HEAD_TEMP_VALID (i : Nat) : Fld := ⟨0x500038 + 0x10000 * i, 31, 1⟩
def RAS_MEAN_INT_I (i : Nat) : Fld := ⟨0x50003C + 0x10000 * i, 0, 32⟩
def RAS_PRED_ERR_ERR (i : Nat) : Fld := ⟨0x500040 + 0x10000 * i, 0, 32⟩
def RAS_FEED_ERR_ERR (i : Nat) : Fld := ⟨0x500044 + 0x10000 * i, 0, 32⟩
def RAS_STRIPE_K (i : Nat) : Fld := ⟨0x500048 + 0x10000 * i, 0, 32⟩
def RAS_MISSES_COUNT (i : Nat) : Fld := ⟨0x50004C + 0x10000 * i, 0, 32⟩
def RAS_SPURIOUS_COUNT (i : Nat) : Fld := ⟨0x500050 + 0x10000 * i, 0, 32⟩
def RAS_LATE_STRIPES_COUNT (i : Nat) : Fld := ⟨0x500054 + 0x10000 * i, 0, 32⟩
def RAS_BEAM_CFG_ROWDLY (i : Nat) (j : Nat) : Fld := ⟨0x501000 + 0x10000 * i + 0x10 * j, 0, 7⟩
def RAS_BEAM_OFS_OFS (i : Nat) (j : Nat) : Fld := ⟨0x501004 + 0x10000 * i + 0x10 * j, 0, 20⟩
def RAS_BEAM_SUB_SRC (i : Nat) (j : Nat) : Fld := ⟨0x501008 + 0x10000 * i + 0x10 * j, 0, 5⟩
def RAS_BEAM_SUB_EN (i : Nat) (j : Nat) : Fld := ⟨0x501008 + 0x10000 * i + 0x10 * j, 7, 1⟩
def RAS_FACET_PER_PER (i : Nat) (j : Nat) : Fld := ⟨0x502000 + 0x10000 * i + 0x20 * j, 0, 32⟩
def RAS_FACET_DLY_DLY (i : Nat) (j : Nat) : Fld := ⟨0x502004 + 0x10000 * i + 0x20 * j, 0, 20⟩
def RAS_FACET_SCL_SCL (i : Nat) (j : Nat) : Fld := ⟨0x502008 + 0x10000 * i + 0x20 * j, 0, 32⟩
def RAS_FACET_MEAS_VALUE (i : Nat) (j : Nat) : Fld := ⟨0x50200C + 0x10000 * i + 0x20 * j, 0, 32⟩
def RAS_FACET_SWEEP_VALUE (i : Nat) (j : Nat) : Fld := ⟨0x502010 + 0x10000 * i + 0x20 * j, 0, 32⟩
def RAS_LIN_LIN (i : Nat) (j : Nat) : Fld := ⟨0x503000 + 0x10000 * i + 0x4 * j, 0, 16⟩
def RAS_FEED_FEED (i : Nat) (j : Nat) : Fld := ⟨0x503800 + 0x10000 * i + 0x4 * j, 0, 24⟩
end F

def regTableRAS0 : List RegRow := [
  ⟨0x500000, [(0x10000, 16)], .beam, 0x20000, 0x1FF7FFFF, [⟨0, 2, .rw, .plate, 0, 2⟩, ⟨2, 5, .rw, .plate, 0, 0x1F⟩, ⟨7, 1, .rw, .plate, 0, 0x1⟩, ⟨8, 1, .rw, .plate, 0, 0x1⟩, ⟨9, 4, .rw, .plate, 0, 0xF⟩, ⟨13, 3, .rw, .plate, 0, 0x7⟩, ⟨16, 3, .rw, .plate, 0, 4⟩, ⟨20, 4, .rw, .plate, 0, 0xF⟩, ⟨24, 5, .rw, .plate, 0, 23⟩]⟩,
  ⟨0x500004, [(0x10000, 16)], .beam, 0x0, 0x0, [⟨0, 1, .ro, .any, 0, 0x1⟩, ⟨1, 4, .ro, .any, 0, 0xF⟩, ⟨5, 2, .ro, .any, 0, 0x3⟩, ⟨7, 1, .ro, .any, 0, 0x1⟩, ⟨8, 1, .w1c, .any, 0, 0x1⟩, ⟨9, 1, .w1c, .any, 0, 0x1⟩, ⟨10, 1, .w1c, .any, 0, 0x1⟩, ⟨11, 1, .w1c, .any, 0, 0x1⟩, ⟨12, 1, .w1c, .any, 0, 0x1⟩, ⟨13, 1, .w1c, .any, 0, 0x1⟩, ⟨14, 1, .w1c, .any, 0, 0x1⟩, ⟨15, 1, .w1c, .any, 0, 0x1⟩, ⟨16, 1, .w1c, .any, 0, 0x1⟩]⟩,
  ⟨0x500008, [(0x10000, 16)], .beam, 0x0, 0x0, [⟨0, 1, .wo, .plate, 0, 0x1⟩, ⟨1, 1, .wo, .plate, 0, 0x1⟩]⟩,
  ⟨0x50000C, [(0x10000, 16)], .beam, 0x0, 0xFFFFFFFF, [⟨0, 16, .rw, .plate, 0, 0xFFFF⟩, ⟨16, 16, .rw, .plate, 0, 0xFFFF⟩]⟩,
  ⟨0x500010, [(0x10000, 16)], .beam, 0x200, 0xFFFFFF, [⟨0, 24, .rw, .plate, 16, 16777215⟩]⟩,
  ⟨0x500014, [(0x10000, 16)], .beam, 0x4E20, 0xFFFFFFFF, [⟨0, 32, .rw, .plate, 20000, 10000000⟩]⟩,
  ⟨0x500018, [(0x10000, 16)], .beam, 0x1F4, 0xFFFF, [⟨0, 16, .rw, .plate, 1, 65535⟩]⟩,
  ⟨0x50001C, [(0x10000, 16)], .beam, 0x5000460, 0xFFFFFFFF, [⟨0, 16, .rw, .plate, 0, 0xFFFF⟩, ⟨16, 16, .rw, .plate, 0, 0xFFFF⟩]⟩,
  ⟨0x500020, [(0x10000, 16)], .beam, 0x80, 0xFFFF, [⟨0, 16, .rw, .plate, 0, 0xFFFF⟩]⟩,
  ⟨0x500024, [(0x10000, 16)], .beam, 0x0, 0xFFFFFFFF, [⟨0, 32, .rw, .plate, 0, 0xFFFFFFFF⟩]⟩,
  ⟨0x500028, [(0x10000, 16)], .beam, 0x0, 0xFFFFFFFF, [⟨0, 32, .rw, .plate, 0, 0xFFFFFFFF⟩]⟩,
  ⟨0x50002C, [(0x10000, 16)], .beam, 0x0, 0x0, [⟨0, 32, .ro, .any, 0, 0xFFFFFFFF⟩]⟩,
  ⟨0x500030, [(0x10000, 16)], .beam, 0x0, 0x0, [⟨0, 32, .ro, .any, 0, 0xFFFFFFFF⟩]⟩,
  ⟨0x500034, [(0x10000, 16)], .beam, 0x0, 0x0, [⟨0, 32, .ro, .any, 0, 0xFFFFFFFF⟩]⟩,
  ⟨0x500038, [(0x10000, 16)], .beam, 0x0, 0x0, [⟨0, 16, .ro, .any, 0, 0xFFFF⟩, ⟨31, 1, .ro, .any, 0, 0x1⟩]⟩,
  ⟨0x50003C, [(0x10000, 16)], .beam, 0x0, 0x0, [⟨0, 32, .ro, .any, 0, 0xFFFFFFFF⟩]⟩,
  ⟨0x500040, [(0x10000, 16)], .beam, 0x0, 0x0, [⟨0, 32, .ro, .any, 0, 0xFFFFFFFF⟩]⟩,
  ⟨0x500044, [(0x10000, 16)], .beam, 0x0, 0x0, [⟨0, 32, .ro, .any, 0, 0xFFFFFFFF⟩]⟩,
  ⟨0x500048, [(0x10000, 16)], .beam, 0x0, 0x0, [⟨0, 32, .ro, .any, 0, 0xFFFFFFFF⟩]⟩,
  ⟨0x50004C, [(0x10000, 16)], .beam, 0x0, 0x0, [⟨0, 32, .ro, .any, 0, 0xFFFFFFFF⟩]⟩]

def regTableRAS1 : List RegRow := [
  ⟨0x500050, [(0x10000, 16)], .beam, 0x0, 0x0, [⟨0, 32, .ro, .any, 0, 0xFFFFFFFF⟩]⟩,
  ⟨0x500054, [(0x10000, 16)], .beam, 0x0, 0x0, [⟨0, 32, .ro, .any, 0, 0xFFFFFFFF⟩]⟩,
  ⟨0x501000, [(0x10000, 16), (0x10, 32)], .beam, 0x0, 0x7F, [⟨0, 7, .rw, .plate, 0, 0x7F⟩]⟩,
  ⟨0x501004, [(0x10000, 16), (0x10, 32)], .beam, 0x0, 0xFFFFF, [⟨0, 20, .rw, .plate, 0, 0xFFFFF⟩]⟩,
  ⟨0x501008, [(0x10000, 16), (0x10, 32)], .beam, 0x0, 0x9F, [⟨0, 5, .rw, .any, 0, 0x1F⟩, ⟨7, 1, .rw, .any, 0, 0x1⟩]⟩,
  ⟨0x502000, [(0x10000, 16), (0x20, 16)], .beam, 0x0, 0xFFFFFFFF, [⟨0, 32, .rw, .plate, 0, 0xFFFFFFFF⟩]⟩,
  ⟨0x502004, [(0x10000, 16), (0x20, 16)], .beam, 0x0, 0xFFFFF, [⟨0, 20, .rw, .plate, 0, 0xFFFFF⟩]⟩,
  ⟨0x502008, [(0x10000, 16), (0x20, 16)], .beam, 0x0, 0xFFFFFFFF, [⟨0, 32, .rw, .plate, 0, 0xFFFFFFFF⟩]⟩,
  ⟨0x50200C, [(0x10000, 16), (0x20, 16)], .beam, 0x0, 0x0, [⟨0, 32, .ro, .any, 0, 0xFFFFFFFF⟩]⟩,
  ⟨0x502010, [(0x10000, 16), (0x20, 16)], .beam, 0x0, 0x0, [⟨0, 32, .ro, .any, 0, 0xFFFFFFFF⟩]⟩,
  ⟨0x503000, [(0x10000, 16), (0x4, 257)], .beam, 0x0, 0xFFFF, [⟨0, 16, .rw, .plate, 0, 0xFFFF⟩]⟩,
  ⟨0x503800, [(0x10000, 16), (0x4, 16)], .beam, 0x100, 0xFFFFFF, [⟨0, 24, .rw, .plate, 1, 16777215⟩]⟩]

/-- The register map of block RAS. -/
def regTableRAS : List RegRow := regTableRAS0 ++ regTableRAS1

/-! Fields of block VEC (R270). -/
namespace F
def VEC_CFG_BEAM (i : Nat) : Fld := ⟨0x600000 + 0x10000 * i, 0, 5⟩
def VEC_CFG_PWR_MODE (i : Nat) : Fld := ⟨0x600000 + 0x10000 * i, 5, 2⟩
def VEC_STATUS_STATE (i : Nat) : Fld := ⟨0x600004 + 0x10000 * i, 0, 2⟩
def VEC_STATUS_LA_FILL (i : Nat) : Fld := ⟨0x600004 + 0x10000 * i, 2, 6⟩
def VEC_STATUS_STOP_RR (i : Nat) : Fld := ⟨0x600004 + 0x10000 * i, 8, 1⟩
def VEC_STATUS_STOP_THR (i : Nat) : Fld := ⟨0x600004 + 0x10000 * i, 9, 1⟩
def VEC_STATUS_GRID_VALID (i : Nat) : Fld := ⟨0x600004 + 0x10000 * i, 10, 1⟩
def VEC_STATUS_WORD_ERR (i : Nat) : Fld := ⟨0x600004 + 0x10000 * i, 16, 1⟩
def VEC_STATUS_STOP_SEEN (i : Nat) : Fld := ⟨0x600004 + 0x10000 * i, 17, 1⟩
def VEC_STATUS_WINDOW_VIOL (i : Nat) : Fld := ⟨0x600004 + 0x10000 * i, 18, 1⟩
def VEC_ACCEL_MPS2 (i : Nat) : Fld := ⟨0x600008 + 0x10000 * i, 0, 32⟩
def VEC_SPEED_LIM_VMAX (i : Nat) : Fld := ⟨0x60000C + 0x10000 * i, 0, 16⟩
def VEC_SPEED_LIM_CORNER_DV (i : Nat) : Fld := ⟨0x60000C + 0x10000 * i, 16, 16⟩
def VEC_FIELD_HALF_UM (i : Nat) : Fld := ⟨0x600010 + 0x10000 * i, 0, 20⟩
def VEC_ORG_X_ORG (i : Nat) : Fld := ⟨0x600014 + 0x10000 * i, 0, 32⟩
def VEC_ORG_Y_ORG (i : Nat) : Fld := ⟨0x600018 + 0x10000 * i, 0, 32⟩
def VEC_ORG_Z_ORG (i : Nat) : Fld := ⟨0x60001C + 0x10000 * i, 0, 32⟩
def VEC_M00_M (i : Nat) : Fld := ⟨0x600020 + 0x10000 * i, 0, 32⟩
def VEC_M01_M (i : Nat) : Fld := ⟨0x600024 + 0x10000 * i, 0, 32⟩
def VEC_M10_M (i : Nat) : Fld := ⟨0x600028 + 0x10000 * i, 0, 32⟩
def VEC_M11_M (i : Nat) : Fld := ⟨0x60002C + 0x10000 * i, 0, 32⟩
def VEC_ENC_SCALE_X_SCALE (i : Nat) : Fld := ⟨0x600030 + 0x10000 * i, 0, 32⟩
def VEC_ENC_SCALE_Y_SCALE (i : Nat) : Fld := ⟨0x600034 + 0x10000 * i, 0, 32⟩
def VEC_PWR_MIN_FRAC (i : Nat) : Fld := ⟨0x600038 + 0x10000 * i, 0, 16⟩
def VEC_GRID_CRC_CRC (i : Nat) : Fld := ⟨0x60003C + 0x10000 * i, 0, 32⟩
def VEC_VID_VID (i : Nat) : Fld := ⟨0x600040 + 0x10000 * i, 0, 32⟩
def VEC_VDONE_COUNT (i : Nat) : Fld := ⟨0x600044 + 0x10000 * i, 0, 32⟩
def VEC_WORD_ERR_REASON (i : Nat) : Fld := ⟨0x600048 + 0x10000 * i, 0, 8⟩
def VEC_ERR_VID_VID (i : Nat) : Fld := ⟨0x60004C + 0x10000 * i, 0, 32⟩
def VEC_STOPS_COUNT (i : Nat) : Fld := ⟨0x600050 + 0x10000 * i, 0, 32⟩
end F

def regTableVEC0 : List RegRow := [
  ⟨0x600000, [(0x10000, 16)], .beam, 0x0, 0x7F, [⟨0, 5, .rw, .plate, 0, 0x1F⟩, ⟨5, 2, .rw, .plate, 0, 2⟩]⟩,
  ⟨0x600004, [(0x10000, 16)], .beam, 0x0, 0x0, [⟨0, 2, .ro, .any, 0, 0x3⟩, ⟨2, 6, .ro, .any, 0, 0x3F⟩, ⟨8, 1, .ro, .any, 0, 0x1⟩, ⟨9, 1, .ro, .any, 0, 0x1⟩, ⟨10, 1, .ro, .any, 0, 0x1⟩, ⟨16, 1, .w1c, .any, 0, 0x1⟩, ⟨17, 1, .w1c, .any, 0, 0x1⟩, ⟨18, 1, .w1c, .any, 0, 0x1⟩]⟩,
  ⟨0x600008, [(0x10000, 16)], .beam, 0x186A0, 0xFFFFFFFF, [⟨0, 32, .rw, .plate, 1000, 10000000⟩]⟩,
  ⟨0x60000C, [(0x10000, 16)], .beam, 0x7D0, 0xFFFFFFFF, [⟨0, 16, .rw, .plate, 1, 20000⟩, ⟨16, 16, .rw, .plate, 0, 20000⟩]⟩,
  ⟨0x600010, [(0x10000, 16)], .beam, 0xC350, 0xFFFFF, [⟨0, 20, .rw, .plate, 1000, 1000000⟩]⟩,
  ⟨0x600014, [(0x10000, 16)], .beam, 0x0, 0xFFFFFFFF, [⟨0, 32, .rw, .plate, 0, 0xFFFFFFFF⟩]⟩,
  ⟨0x600018, [(0x10000, 16)], .beam, 0x0, 0xFFFFFFFF, [⟨0, 32, .rw, .plate, 0, 0xFFFFFFFF⟩]⟩,
  ⟨0x60001C, [(0x10000, 16)], .beam, 0x0, 0xFFFFFFFF, [⟨0, 32, .rw, .plate, 0, 0xFFFFFFFF⟩]⟩,
  ⟨0x600020, [(0x10000, 16)], .beam, 0x40000000, 0xFFFFFFFF, [⟨0, 32, .rw, .plate, 0, 0xFFFFFFFF⟩]⟩,
  ⟨0x600024, [(0x10000, 16)], .beam, 0x0, 0xFFFFFFFF, [⟨0, 32, .rw, .plate, 0, 0xFFFFFFFF⟩]⟩,
  ⟨0x600028, [(0x10000, 16)], .beam, 0x0, 0xFFFFFFFF, [⟨0, 32, .rw, .plate, 0, 0xFFFFFFFF⟩]⟩,
  ⟨0x60002C, [(0x10000, 16)], .beam, 0x40000000, 0xFFFFFFFF, [⟨0, 32, .rw, .plate, 0, 0xFFFFFFFF⟩]⟩,
  ⟨0x600030, [(0x10000, 16)], .beam, 0x0, 0xFFFFFFFF, [⟨0, 32, .rw, .plate, 0, 0xFFFFFFFF⟩]⟩,
  ⟨0x600034, [(0x10000, 16)], .beam, 0x0, 0xFFFFFFFF, [⟨0, 32, .rw, .plate, 0, 0xFFFFFFFF⟩]⟩,
  ⟨0x600038, [(0x10000, 16)], .beam, 0x1000, 0xFFFF, [⟨0, 16, .rw, .plate, 0, 0xFFFF⟩]⟩,
  ⟨0x60003C, [(0x10000, 16)], .beam, 0x0, 0x0, [⟨0, 32, .ro, .any, 0, 0xFFFFFFFF⟩]⟩,
  ⟨0x600040, [(0x10000, 16)], .beam, 0x0, 0x0, [⟨0, 32, .ro, .any, 0, 0xFFFFFFFF⟩]⟩,
  ⟨0x600044, [(0x10000, 16)], .beam, 0x0, 0x0, [⟨0, 32, .ro, .any, 0, 0xFFFFFFFF⟩]⟩,
  ⟨0x600048, [(0x10000, 16)], .beam, 0x0, 0x0, [⟨0, 8, .ro, .any, 0, 0xFF⟩]⟩,
  ⟨0x60004C, [(0x10000, 16)], .beam, 0x0, 0x0, [⟨0, 32, .ro, .any, 0, 0xFFFFFFFF⟩]⟩]

def regTableVEC1 : List RegRow := [
  ⟨0x600050, [(0x10000, 16)], .beam, 0x0, 0x0, [⟨0, 32, .ro, .any, 0, 0xFFFFFFFF⟩]⟩]

/-- The register map of block VEC. -/
def regTableVEC : List RegRow := regTableVEC0 ++ regTableVEC1

/-! Fields of block STI (R302). -/
namespace F
def STI_CFG_EN : Fld := ⟨0x700000, 0, 1⟩
def STI_CFG_BRIDGE_SETTLE : Fld := ⟨0x700000, 8, 8⟩
def STI_STATUS_LOG_FULL : Fld := ⟨0x700004, 0, 1⟩
def STI_STATUS_LOG_FULL_SEEN : Fld := ⟨0x700004, 8, 1⟩
def STI_STATUS_BREACH : Fld := ⟨0x700004, 9, 1⟩
def STI_STATUS_WINDOW_VIOL : Fld := ⟨0x700004, 10, 1⟩
def STI_SEP_UM : Fld := ⟨0x700008, 0, 20⟩
def STI_GAS_GX : Fld := ⟨0x70000C, 0, 16⟩
def STI_GAS_GY : Fld := ⟨0x70000C, 16, 16⟩
def STI_CONE_TAN : Fld := ⟨0x700010, 0, 16⟩
def STI_CONE_LEN_MM : Fld := ⟨0x700010, 16, 16⟩
def STI_HEAT_HI : Fld := ⟨0x700014, 0, 16⟩
def STI_HEAT_COOL_10US : Fld := ⟨0x700014, 16, 16⟩
def STI_TIMING_TGUARD_US : Fld := ⟨0x700018, 0, 16⟩
def STI_TIMING_GAIN_US : Fld := ⟨0x700018, 16, 16⟩
def STI_DECISIONS_COUNT : Fld := ⟨0x70001C, 0, 32⟩
def STI_MIGRATED_COUNT : Fld := ⟨0x700020, 0, 32⟩
def STI_BREACHES_COUNT : Fld := ⟨0x700024, 0, 32⟩
def STI_UNLOGGED_COUNT : Fld := ⟨0x700028, 0, 32⟩
def STI_INBOX_LO_FILL : Fld := ⟨0x700030, 0, 32⟩
def STI_INBOX_HI_FILL : Fld := ⟨0x700034, 0, 32⟩
def STI_ZONE_X0_COORD (i : Nat) : Fld := ⟨0x700100 + 0x20 * i, 0, 32⟩
def STI_ZONE_Y0_COORD (i : Nat) : Fld := ⟨0x700104 + 0x20 * i, 0, 32⟩
def STI_ZONE_X1_COORD (i : Nat) : Fld := ⟨0x700108 + 0x20 * i, 0, 32⟩
def STI_ZONE_Y1_COORD (i : Nat) : Fld := ⟨0x70010C + 0x20 * i, 0, 32⟩
def STI_ZONE_MASK_MASK (i : Nat) : Fld := ⟨0x700110 + 0x20 * i, 0, 16⟩
end F

def regTableSTI0 : List RegRow := [
  ⟨0x700000, [], .all, 0x1400, 0xFF01, [⟨0, 1, .rw, .plate, 0, 0x1⟩, ⟨8, 8, .rw, .plate, 0, 0xFF⟩]⟩,
  ⟨0x700004, [], .all, 0x0, 0x0, [⟨0, 1, .ro, .any, 0, 0x1⟩, ⟨8, 1, .w1c, .any, 0, 0x1⟩, ⟨9, 1, .w1c, .any, 0, 0x1⟩, ⟨10, 1, .w1c, .any, 0, 0x1⟩]⟩,
  ⟨0x700008, [], .all, 0x2710, 0xFFFFF, [⟨0, 20, .rw, .plate, 1, 1000000⟩]⟩,
  ⟨0x70000C, [], .all, 0x7FFF, 0xFFFFFFFF, [⟨0, 16, .rw, .plate, 0, 0xFFFF⟩, ⟨16, 16, .rw, .plate, 0, 0xFFFF⟩]⟩,
  ⟨0x700010, [], .all, 0x0, 0xFFFFFFFF, [⟨0, 16, .rw, .plate, 0, 0xFFFF⟩, ⟨16, 16, .rw, .plate, 0, 0xFFFF⟩]⟩,
  ⟨0x700014, [], .all, 0x0, 0xFFFFFFFF, [⟨0, 16, .rw, .plate, 0, 0xFFFF⟩, ⟨16, 16, .rw, .plate, 0, 0xFFFF⟩]⟩,
  ⟨0x700018, [], .all, 0x3E80032, 0xFFFFFFFF, [⟨0, 16, .rw, .plate, 0, 0xFFFF⟩, ⟨16, 16, .rw, .plate, 0, 0xFFFF⟩]⟩,
  ⟨0x70001C, [], .all, 0x0, 0x0, [⟨0, 32, .ro, .any, 0, 0xFFFFFFFF⟩]⟩,
  ⟨0x700020, [], .all, 0x0, 0x0, [⟨0, 32, .ro, .any, 0, 0xFFFFFFFF⟩]⟩,
  ⟨0x700024, [], .all, 0x0, 0x0, [⟨0, 32, .ro, .any, 0, 0xFFFFFFFF⟩]⟩,
  ⟨0x700028, [], .all, 0x0, 0x0, [⟨0, 32, .ro, .any, 0, 0xFFFFFFFF⟩]⟩,
  ⟨0x700030, [], .all, 0x0, 0x0, [⟨0, 32, .ro, .any, 0, 0xFFFFFFFF⟩]⟩,
  ⟨0x700034, [], .all, 0x0, 0x0, [⟨0, 32, .ro, .any, 0, 0xFFFFFFFF⟩]⟩,
  ⟨0x700100, [(0x20, 16)], .all, 0x0, 0xFFFFFFFF, [⟨0, 32, .rw, .plate, 0, 0xFFFFFFFF⟩]⟩,
  ⟨0x700104, [(0x20, 16)], .all, 0x0, 0xFFFFFFFF, [⟨0, 32, .rw, .plate, 0, 0xFFFFFFFF⟩]⟩,
  ⟨0x700108, [(0x20, 16)], .all, 0x0, 0xFFFFFFFF, [⟨0, 32, .rw, .plate, 0, 0xFFFFFFFF⟩]⟩,
  ⟨0x70010C, [(0x20, 16)], .all, 0x0, 0xFFFFFFFF, [⟨0, 32, .rw, .plate, 0, 0xFFFFFFFF⟩]⟩,
  ⟨0x700110, [(0x20, 16)], .all, 0x0, 0xFFFF, [⟨0, 16, .rw, .plate, 0, 0xFFFF⟩]⟩]

/-- The register map of block STI. -/
def regTableSTI : List RegRow := regTableSTI0

/-! Fields of block MPL (R304). -/
namespace F
def MPL_CH_CFG_EN (i : Nat) : Fld := ⟨0x800000 + 0x8000 * i, 0, 1⟩
def MPL_CH_CFG_SPF (i : Nat) : Fld := ⟨0x800000 + 0x8000 * i, 1, 3⟩
def MPL_CH_CFG_LP (i : Nat) : Fld := ⟨0x800000 + 0x8000 * i, 4, 3⟩
def MPL_CH_CFG_FB_EN (i : Nat) : Fld := ⟨0x800000 + 0x8000 * i, 7, 1⟩
def MPL_CH_CFG_HOLD (i : Nat) : Fld := ⟨0x800000 + 0x8000 * i, 8, 4⟩
def MPL_CH_CFG_LAT (i : Nat) : Fld := ⟨0x800000 + 0x8000 * i, 12, 3⟩
def MPL_CH_CFG_WSHIFT (i : Nat) : Fld := ⟨0x800000 + 0x8000 * i, 15, 2⟩
def MPL_CH_CFG_DECIM (i : Nat) : Fld := ⟨0x800000 + 0x8000 * i, 17, 3⟩
def MPL_CH_STATUS_PORT_LOCK (i : Nat) : Fld := ⟨0x800004 + 0x8000 * i, 0, 1⟩
def MPL_CH_STATUS_SPF_EFF (i : Nat) : Fld := ⟨0x800004 + 0x8000 * i, 1, 3⟩
def MPL_CH_STATUS_SIG_BAD (i : Nat) : Fld := ⟨0x800004 + 0x8000 * i, 8, 1⟩
def MPL_CH_STATUS_MP_LOST (i : Nat) : Fld := ⟨0x800004 + 0x8000 * i, 9, 1⟩
def MPL_CH_STATUS_LIMITED (i : Nat) : Fld := ⟨0x800004 + 0x8000 * i, 10, 1⟩
def MPL_CH_STATUS_WINDOW_VIOL (i : Nat) : Fld := ⟨0x800004 + 0x8000 * i, 11, 1⟩
def MPL_CH_CAL_A_OFS (i : Nat) : Fld := ⟨0x800008 + 0x8000 * i, 0, 16⟩
def MPL_CH_CAL_A_GAIN (i : Nat) : Fld := ⟨0x800008 + 0x8000 * i, 16, 16⟩
def MPL_CH_CAL_B_OFS (i : Nat) : Fld := ⟨0x80000C + 0x8000 * i, 0, 16⟩
def MPL_CH_CAL_B_GAIN (i : Nat) : Fld := ⟨0x80000C + 0x8000 * i, 16, 16⟩
def MPL_CH_REF_REF (i : Nat) : Fld := ⟨0x800010 + 0x8000 * i, 0, 16⟩
def MPL_CH_PI_KP (i : Nat) : Fld := ⟨0x800014 + 0x8000 * i, 0, 16⟩
def MPL_CH_PI_KI (i : Nat) : Fld := ⟨0x800014 + 0x8000 * i, 16, 16⟩
def MPL_CH_LIMIT_CMAX (i : Nat) : Fld := ⟨0x800018 + 0x8000 * i, 0, 16⟩
def MPL_CH_LIMIT_CREL (i : Nat) : Fld := ⟨0x800018 + 0x8000 * i, 16, 8⟩
def MPL_CH_LIMIT_BAD_MAX (i : Nat) : Fld := ⟨0x800018 + 0x8000 * i, 24, 8⟩
def MPL_CH_ILIM_ILIM (i : Nat) : Fld := ⟨0x80001C + 0x8000 * i, 0, 16⟩
def MPL_CH_FF_KFF (i : Nat) : Fld := ⟨0x800020 + 0x8000 * i, 0, 32⟩
def MPL_CH_DEP_DEP (i : Nat) : Fld := ⟨0x800024 + 0x8000 * i, 0, 32⟩
def MPL_CH_LIVE_F (i : Nat) : Fld := ⟨0x800028 + 0x8000 * i, 0, 16⟩
def MPL_CH_LIVE_CORR (i : Nat) : Fld := ⟨0x800028 + 0x8000 * i, 16, 16⟩
def MPL_CH_BAD_COUNT (i : Nat) : Fld := ⟨0x80002C + 0x8000 * i, 0, 32⟩
def MPL_STATUS_TEL_DROP : Fld := ⟨0x880000, 0, 1⟩
def MPL_STATUS_TEL_KEY : Fld := ⟨0x880000, 1, 1⟩
def MPL_STATUS_TEL_EXHAUSTED : Fld := ⟨0x880000, 2, 1⟩
def MPL_STATUS_WINDOW_VIOL : Fld := ⟨0x880000, 3, 1⟩
def MPL_HM_ORG_X_ORG : Fld := ⟨0x880004, 0, 32⟩
def MPL_HM_ORG_Y_ORG : Fld := ⟨0x880008, 0, 32⟩
def MPL_HM_GEOM_PITCH : Fld := ⟨0x88000C, 0, 13⟩
def MPL_HM_DECAY_DK : Fld := ⟨0x880010, 0, 16⟩
def MPL_HM_CTRL_CLEAR : Fld := ⟨0x880014, 0, 1⟩
def MPL_HM_OUTSIDE_COUNT : Fld := ⟨0x880018, 0, 32⟩
def MPL_TEL_CFG_SAMPLES : Fld := ⟨0x880020, 0, 1⟩
def MPL_TEL_BASE_LO_BASE : Fld := ⟨0x880024, 0, 32⟩
def MPL_TEL_BASE_HI_BASE : Fld := ⟨0x880028, 0, 32⟩
def MPL_TEL_SIZE_SIZE : Fld := ⟨0x88002C, 0, 32⟩
def MPL_TEL_WR_LO_COUNT : Fld := ⟨0x880030, 0, 32⟩
def MPL_TEL_WR_HI_COUNT : Fld := ⟨0x880034, 0, 32⟩
def MPL_TEL_RD_LO_COUNT : Fld := ⟨0x880038, 0, 32⟩
def MPL_TEL_RD_HI_COUNT : Fld := ⟨0x88003C, 0, 32⟩
def MPL_TEL_LOST_COUNT : Fld := ⟨0x880040, 0, 32⟩
end F

def regTableMPL0 : List RegRow := [
  ⟨0x800000, [(0x8000, 16)], .beam, 0x4040A, 0xFFFFF, [⟨0, 1, .rw, .plate, 0, 0x1⟩, ⟨1, 3, .rw, .plate, 1, 5⟩, ⟨4, 3, .rw, .plate, 0, 0x7⟩, ⟨7, 1, .rw, .plate, 0, 0x1⟩, ⟨8, 4, .rw, .plate, 0, 0xF⟩, ⟨12, 3, .rw, .plate, 0, 0x7⟩, ⟨15, 2, .rw, .plate, 0, 0x3⟩, ⟨17, 3, .rw, .plate, 0, 0x7⟩]⟩,
  ⟨0x800004, [(0x8000, 16)], .beam, 0x0, 0x0, [⟨0, 1, .ro, .any, 0, 0x1⟩, ⟨1, 3, .ro, .any, 0, 0x7⟩, ⟨8, 1, .w1c, .any, 0, 0x1⟩, ⟨9, 1, .w1c, .any, 0, 0x1⟩, ⟨10, 1, .w1c, .any, 0, 0x1⟩, ⟨11, 1, .w1c, .any, 0, 0x1⟩]⟩,
  ⟨0x800008, [(0x8000, 16)], .beam, 0x10000000, 0xFFFFFFFF, [⟨0, 16, .rw, .plate, 0, 0xFFFF⟩, ⟨16, 16, .rw, .plate, 0, 0xFFFF⟩]⟩,
  ⟨0x80000C, [(0x8000, 16)], .beam, 0x10000000, 0xFFFFFFFF, [⟨0, 16, .rw, .plate, 0, 0xFFFF⟩, ⟨16, 16, .rw, .plate, 0, 0xFFFF⟩]⟩,
  ⟨0x800010, [(0x8000, 16)], .beam, 0x0, 0xFFFF, [⟨0, 16, .rw, .any, 0, 0xFFFF⟩]⟩,
  ⟨0x800014, [(0x8000, 16)], .beam, 0x0, 0xFFFFFFFF, [⟨0, 16, .rw, .any, 0, 0xFFFF⟩, ⟨16, 16, .rw, .any, 0, 0xFFFF⟩]⟩,
  ⟨0x800018, [(0x8000, 16)], .beam, 0x14000000, 0xFFFFFFFF, [⟨0, 16, .rw, .plate, 0, 0xFFFF⟩, ⟨16, 8, .rw, .plate, 0, 0xFF⟩, ⟨24, 8, .rw, .plate, 1, 255⟩]⟩,
  ⟨0x80001C, [(0x8000, 16)], .beam, 0x0, 0xFFFF, [⟨0, 16, .rw, .plate, 0, 0xFFFF⟩]⟩,
  ⟨0x800020, [(0x8000, 16)], .beam, 0x0, 0xFFFFFFFF, [⟨0, 32, .rw, .plate, 0, 0xFFFFFFFF⟩]⟩,
  ⟨0x800024, [(0x8000, 16)], .beam, 0x0, 0xFFFFFFFF, [⟨0, 32, .rw, .plate, 0, 0xFFFFFFFF⟩]⟩,
  ⟨0x800028, [(0x8000, 16)], .beam, 0x0, 0x0, [⟨0, 16, .ro, .any, 0, 0xFFFF⟩, ⟨16, 16, .ro, .any, 0, 0xFFFF⟩]⟩,
  ⟨0x80002C, [(0x8000, 16)], .beam, 0x0, 0x0, [⟨0, 32, .ro, .any, 0, 0xFFFFFFFF⟩]⟩,
  ⟨0x880000, [], .all, 0x0, 0x0, [⟨0, 1, .w1c, .any, 0, 0x1⟩, ⟨1, 1, .w1c, .any, 0, 0x1⟩, ⟨2, 1, .w1c, .any, 0, 0x1⟩, ⟨3, 1, .w1c, .any, 0, 0x1⟩]⟩,
  ⟨0x880004, [], .all, 0x0, 0xFFFFFFFF, [⟨0, 32, .rw, .plate, 0, 0xFFFFFFFF⟩]⟩,
  ⟨0x880008, [], .all, 0x0, 0xFFFFFFFF, [⟨0, 32, .rw, .plate, 0, 0xFFFFFFFF⟩]⟩,
  ⟨0x88000C, [], .all, 0x3E8, 0x1FFF, [⟨0, 13, .rw, .plate, 1, 4096⟩]⟩,
  ⟨0x880010, [], .all, 0xFFFF, 0xFFFF, [⟨0, 16, .rw, .plate, 0, 0xFFFF⟩]⟩,
  ⟨0x880014, [], .all, 0x0, 0x0, [⟨0, 1, .wo, .plate, 0, 0x1⟩]⟩,
  ⟨0x880018, [], .all, 0x0, 0x0, [⟨0, 32, .ro, .any, 0, 0xFFFFFFFF⟩]⟩,
  ⟨0x880020, [], .all, 0x0, 0x1, [⟨0, 1, .rw, .plate, 0, 0x1⟩]⟩]

def regTableMPL1 : List RegRow := [
  ⟨0x880024, [], .all, 0x0, 0xFFFFFFFF, [⟨0, 32, .rw, .plate, 0, 0xFFFFFFFF⟩]⟩,
  ⟨0x880028, [], .all, 0x0, 0xFFFFFFFF, [⟨0, 32, .rw, .plate, 0, 0xFFFFFFFF⟩]⟩,
  ⟨0x88002C, [], .all, 0x0, 0xFFFFFFFF, [⟨0, 32, .rw, .plate, 0, 0xFFFFFFFF⟩]⟩,
  ⟨0x880030, [], .all, 0x0, 0x0, [⟨0, 32, .ro, .any, 0, 0xFFFFFFFF⟩]⟩,
  ⟨0x880034, [], .all, 0x0, 0x0, [⟨0, 32, .ro, .any, 0, 0xFFFFFFFF⟩]⟩,
  ⟨0x880038, [], .all, 0x0, 0x0, [⟨0, 32, .rw, .any, 0, 0xFFFFFFFF⟩]⟩,
  ⟨0x88003C, [], .all, 0x0, 0x0, [⟨0, 32, .rw, .any, 0, 0xFFFFFFFF⟩]⟩,
  ⟨0x880040, [], .all, 0x0, 0x0, [⟨0, 32, .ro, .any, 0, 0xFFFFFFFF⟩]⟩]

/-- The register map of block MPL. -/
def regTableMPL : List RegRow := regTableMPL0 ++ regTableMPL1

end Sys2Proof.Machine
end

