-- ==== Sys2Proof/Machine/Regs3.lean ====
section
/-! DEFINITION. The register fields of the blocks LAW, MOT, FOC, PIO: the place of each field (`Fld`), as the
field tables of its chapter give it, and the block's rows of the register map (offset, repeats, reset word, access,
window and range of each field). Offsets are byte offsets in PF0 BAR0 (R59). The reset word of a field whose Reset
column reads CFG is its Sponge value (R504; log entry 5). -/

namespace Sys2Proof.Machine

/-! Fields of block LAW (R334, R335). -/
namespace F
def LAW_STATUS_STATE : Fld := ⟨0x900000, 0, 2⟩
def LAW_STATUS_LOAD_PENDING : Fld := ⟨0x900000, 2, 1⟩
def LAW_STATUS_TICK_UNFIT : Fld := ⟨0x900000, 8, 1⟩
def LAW_STATUS_SAT : Fld := ⟨0x900000, 9, 1⟩
def LAW_STATUS_ENC_STALE : Fld := ⟨0x900000, 10, 1⟩
def LAW_STATUS_INJ_CUT : Fld := ⟨0x900000, 11, 1⟩
def LAW_STATUS_WINDOW_VIOL : Fld := ⟨0x900000, 12, 1⟩
def LAW_CMD_HALT : Fld := ⟨0x900004, 0, 1⟩
def LAW_SET_ID_VALUE : Fld := ⟨0x900008, 0, 32⟩
def LAW_SET_CRC_VALUE : Fld := ⟨0x90000C, 0, 32⟩
def LAW_MIN_TICK_NS : Fld := ⟨0x900010, 0, 16⟩
def LAW_LOAD_L : Fld := ⟨0x900014, 0, 17⟩
def LAW_DP_CYC_W (i : Nat) : Fld := ⟨0x900020 + 0x4 * i, 0, 17⟩
def LAW_P_STATUS_ACTIVE (i : Nat) : Fld := ⟨0x900100 + 0x20 * i, 0, 1⟩
def LAW_P_STATUS_CONF (i : Nat) : Fld := ⟨0x900100 + 0x20 * i, 1, 1⟩
def LAW_P_STATUS_CARRIED (i : Nat) : Fld := ⟨0x900100 + 0x20 * i, 2, 1⟩
def LAW_P_STATUS_ENC_STALE (i : Nat) : Fld := ⟨0x900100 + 0x20 * i, 3, 1⟩
def LAW_P_STATUS_NSTAGES (i : Nat) : Fld := ⟨0x900100 + 0x20 * i, 8, 8⟩
def LAW_P_STATUS_DP (i : Nat) : Fld := ⟨0x900100 + 0x20 * i, 16, 2⟩
def LAW_P_EMIT_MIN_N (i : Nat) : Fld := ⟨0x900104 + 0x20 * i, 0, 17⟩
def LAW_P_EMIT_MAX_N (i : Nat) : Fld := ⟨0x900108 + 0x20 * i, 0, 17⟩
def LAW_P_ACT_N (i : Nat) : Fld := ⟨0x90010C + 0x20 * i, 0, 17⟩
def LAW_P_SAT_COUNT (i : Nat) : Fld := ⟨0x900110 + 0x20 * i, 0, 32⟩
def LAW_TR_CFG_PROG (i : Nat) : Fld := ⟨0x901000 + 0x20 * i, 0, 6⟩
def LAW_TR_CFG_SIG (i : Nat) : Fld := ⟨0x901000 + 0x20 * i, 6, 5⟩
def LAW_TR_CFG_SRC (i : Nat) : Fld := ⟨0x901000 + 0x20 * i, 11, 1⟩
def LAW_TR_CFG_DECIM (i : Nat) : Fld := ⟨0x901000 + 0x20 * i, 12, 4⟩
def LAW_TR_CFG_MODE (i : Nat) : Fld := ⟨0x901000 + 0x20 * i, 16, 2⟩
def LAW_TR_CFG_TRIG (i : Nat) : Fld := ⟨0x901000 + 0x20 * i, 18, 2⟩
def LAW_TR_CFG_GEN (i : Nat) : Fld := ⟨0x901000 + 0x20 * i, 20, 2⟩
def LAW_TR_PRE_PRE (i : Nat) : Fld := ⟨0x901004 + 0x20 * i, 0, 16⟩
def LAW_TR_PRE_EVENT (i : Nat) : Fld := ⟨0x901004 + 0x20 * i, 16, 11⟩
def LAW_TR_CTRL_ARM (i : Nat) : Fld := ⟨0x901008 + 0x20 * i, 0, 1⟩
def LAW_TR_CTRL_STOP (i : Nat) : Fld := ⟨0x901008 + 0x20 * i, 1, 1⟩
def LAW_TR_STATE_STATE (i : Nat) : Fld := ⟨0x90100C + 0x20 * i, 0, 2⟩
def LAW_TR_STATE_CONF (i : Nat) : Fld := ⟨0x90100C + 0x20 * i, 2, 1⟩
def LAW_TR_STATE_AREA_CONF (i : Nat) : Fld := ⟨0x90100C + 0x20 * i, 3, 1⟩
def LAW_TR_COUNT_COUNT (i : Nat) : Fld := ⟨0x901010 + 0x20 * i, 0, 32⟩
def LAW_TR_TRIGIDX_INDEX (i : Nat) : Fld := ⟨0x901014 + 0x20 * i, 0, 16⟩
def LAW_INJ_CFG_PROG (i : Nat) : Fld := ⟨0x902000 + 0x20 * i, 0, 6⟩
def LAW_INJ_CFG_SIG (i : Nat) : Fld := ⟨0x902000 + 0x20 * i, 6, 5⟩
def LAW_INJ_CFG_WAVE (i : Nat) : Fld := ⟨0x902000 + 0x20 * i, 11, 2⟩
def LAW_INJ_CFG_HOLD (i : Nat) : Fld := ⟨0x902000 + 0x20 * i, 16, 8⟩
def LAW_INJ_AMP_A (i : Nat) : Fld := ⟨0x902004 + 0x20 * i, 0, 32⟩
def LAW_INJ_F0_F (i : Nat) : Fld := ⟨0x902008 + 0x20 * i, 0, 32⟩
def LAW_INJ_F1_F (i : Nat) : Fld := ⟨0x90200C + 0x20 * i, 0, 32⟩
def LAW_INJ_DUR_TICKS (i : Nat) : Fld := ⟨0x902010 + 0x20 * i, 0, 24⟩
def LAW_INJ_CTRL_START (i : Nat) : Fld := ⟨0x902014 + 0x20 * i, 0, 1⟩
def LAW_INJ_CTRL_STOP (i : Nat) : Fld := ⟨0x902014 + 0x20 * i, 1, 1⟩
def LAW_INJ_STATE_STATE (i : Nat) : Fld := ⟨0x902018 + 0x20 * i, 0, 2⟩
end F

def regTableLAW0 : List RegRow := [
  ⟨0x900000, [], .all, 0x0, 0x0, [⟨0, 2, .ro, .any, 0, 0x3⟩, ⟨2, 1, .ro, .any, 0, 0x1⟩, ⟨8, 1, .w1c, .any, 0, 0x1⟩, ⟨9, 1, .w1c, .any, 0, 0x1⟩, ⟨10, 1, .w1c, .any, 0, 0x1⟩, ⟨11, 1, .w1c, .any, 0, 0x1⟩, ⟨12, 1, .w1c, .any, 0, 0x1⟩]⟩,
  ⟨0x900004, [], .all, 0x0, 0x0, [⟨0, 1, .wo, .plate, 0, 0x1⟩]⟩,
  ⟨0x900008, [], .all, 0x0, 0x0, [⟨0, 32, .ro, .any, 0, 0xFFFFFFFF⟩]⟩,
  ⟨0x90000C, [], .all, 0x0, 0x0, [⟨0, 32, .ro, .any, 0, 0xFFFFFFFF⟩]⟩,
  ⟨0x900010, [], .all, 0x0, 0x0, [⟨0, 16, .ro, .any, 0, 0xFFFF⟩]⟩,
  ⟨0x900014, [], .all, 0x0, 0x0, [⟨0, 17, .ro, .any, 0, 0x1FFFF⟩]⟩,
  ⟨0x900020, [(0x4, 4)], .all, 0x0, 0x0, [⟨0, 17, .ro, .any, 0, 0x1FFFF⟩]⟩,
  ⟨0x900100, [(0x20, 64)], .all, 0x0, 0x0, [⟨0, 1, .ro, .any, 0, 0x1⟩, ⟨1, 1, .ro, .any, 0, 0x1⟩, ⟨2, 1, .ro, .any, 0, 0x1⟩, ⟨3, 1, .w1c, .any, 0, 0x1⟩, ⟨8, 8, .ro, .any, 0, 0xFF⟩, ⟨16, 2, .ro, .any, 0, 0x3⟩]⟩,
  ⟨0x900104, [(0x20, 64)], .all, 0x0, 0x0, [⟨0, 17, .ro, .any, 0, 0x1FFFF⟩]⟩,
  ⟨0x900108, [(0x20, 64)], .all, 0x0, 0x0, [⟨0, 17, .ro, .any, 0, 0x1FFFF⟩]⟩,
  ⟨0x90010C, [(0x20, 64)], .all, 0x0, 0x0, [⟨0, 17, .ro, .any, 0, 0x1FFFF⟩]⟩,
  ⟨0x900110, [(0x20, 64)], .all, 0x0, 0x0, [⟨0, 32, .ro, .any, 0, 0xFFFFFFFF⟩]⟩,
  ⟨0x901000, [(0x20, 16)], .all, 0x0, 0x0, [⟨0, 6, .rw, .idle, 0, 0x3F⟩, ⟨6, 5, .rw, .idle, 0, 0x1F⟩, ⟨11, 1, .rw, .idle, 0, 0x1⟩, ⟨12, 4, .rw, .idle, 0, 0xF⟩, ⟨16, 2, .rw, .idle, 0, 2⟩, ⟨18, 2, .rw, .idle, 0, 2⟩, ⟨20, 2, .rw, .idle, 0, 0x3⟩]⟩,
  ⟨0x901004, [(0x20, 16)], .all, 0x0, 0x0, [⟨0, 16, .rw, .idle, 0, 0xFFFF⟩, ⟨16, 11, .rw, .idle, 0, 0x7FF⟩]⟩,
  ⟨0x901008, [(0x20, 16)], .all, 0x0, 0x0, [⟨0, 1, .wo, .any, 0, 0x1⟩, ⟨1, 1, .wo, .any, 0, 0x1⟩]⟩,
  ⟨0x90100C, [(0x20, 16)], .all, 0x0, 0x0, [⟨0, 2, .ro, .any, 0, 0x3⟩, ⟨2, 1, .ro, .any, 0, 0x1⟩, ⟨3, 1, .ro, .any, 0, 0x1⟩]⟩,
  ⟨0x901010, [(0x20, 16)], .all, 0x0, 0x0, [⟨0, 32, .ro, .any, 0, 0xFFFFFFFF⟩]⟩,
  ⟨0x901014, [(0x20, 16)], .all, 0x0, 0x0, [⟨0, 16, .ro, .any, 0, 0xFFFF⟩]⟩,
  ⟨0x902000, [(0x20, 4)], .all, 0x0, 0x0, [⟨0, 6, .rw, .plate, 0, 0x3F⟩, ⟨6, 5, .rw, .plate, 0, 0x1F⟩, ⟨11, 2, .rw, .plate, 0, 0x3⟩, ⟨16, 8, .rw, .plate, 0, 0xFF⟩]⟩,
  ⟨0x902004, [(0x20, 4)], .all, 0x80000000, 0x0, [⟨0, 32, .rw, .plate, 0, 0xFFFFFFFF⟩]⟩]

def regTableLAW1 : List RegRow := [
  ⟨0x902008, [(0x20, 4)], .all, 0x0, 0x0, [⟨0, 32, .rw, .plate, 0, 0xFFFFFFFF⟩]⟩,
  ⟨0x90200C, [(0x20, 4)], .all, 0x0, 0x0, [⟨0, 32, .rw, .plate, 0, 0xFFFFFFFF⟩]⟩,
  ⟨0x902010, [(0x20, 4)], .all, 0x0, 0x0, [⟨0, 24, .rw, .plate, 1, 16777215⟩]⟩,
  ⟨0x902014, [(0x20, 4)], .all, 0x0, 0x0, [⟨0, 1, .wo, .plate, 0, 0x1⟩, ⟨1, 1, .wo, .any, 0, 0x1⟩]⟩,
  ⟨0x902018, [(0x20, 4)], .all, 0x0, 0x0, [⟨0, 2, .ro, .any, 0, 0x3⟩]⟩]

/-- The register map of block LAW. -/
def regTableLAW : List RegRow := regTableLAW0 ++ regTableLAW1

/-! Fields of block MOT (R355). -/
namespace F
def MOT_CFG_UNIT (i : Nat) : Fld := ⟨0xA00000 + 0x1000 * i, 0, 5⟩
def MOT_CFG_UTYPE (i : Nat) : Fld := ⟨0xA00000 + 0x1000 * i, 5, 2⟩
def MOT_CFG_ENC (i : Nat) : Fld := ⟨0xA00000 + 0x1000 * i, 7, 5⟩
def MOT_CFG_ENC_EN (i : Nat) : Fld := ⟨0xA00000 + 0x1000 * i, 12, 1⟩
def MOT_CFG_JWIN (i : Nat) : Fld := ⟨0xA00000 + 0x1000 * i, 13, 3⟩
def MOT_STATUS_STATE (i : Nat) : Fld := ⟨0xA00004 + 0x1000 * i, 0, 3⟩
def MOT_STATUS_START_PEND (i : Nat) : Fld := ⟨0xA00004 + 0x1000 * i, 3, 1⟩
def MOT_STATUS_SEG (i : Nat) : Fld := ⟨0xA00004 + 0x1000 * i, 4, 12⟩
def MOT_STATUS_END_SEEN (i : Nat) : Fld := ⟨0xA00004 + 0x1000 * i, 16, 1⟩
def MOT_STATUS_REWIND_SHORT (i : Nat) : Fld := ⟨0xA00004 + 0x1000 * i, 17, 1⟩
def MOT_STATUS_WINDOW_VIOL (i : Nat) : Fld := ⟨0xA00004 + 0x1000 * i, 18, 1⟩
def MOT_CMD_START (i : Nat) : Fld := ⟨0xA00008 + 0x1000 * i, 0, 1⟩
def MOT_CMD_END (i : Nat) : Fld := ⟨0xA00008 + 0x1000 * i, 1, 1⟩
def MOT_SPEED_FACTOR (i : Nat) : Fld := ⟨0xA0000C + 0x1000 * i, 0, 17⟩
def MOT_SLEW_A (i : Nat) : Fld := ⟨0xA00010 + 0x1000 * i, 0, 24⟩
def MOT_REWIND_FACTOR (i : Nat) : Fld := ⟨0xA00014 + 0x1000 * i, 0, 17⟩
def MOT_PITCH_STEPS (i : Nat) : Fld := ⟨0xA00018 + 0x1000 * i, 0, 32⟩
def MOT_RATE_R (i : Nat) : Fld := ⟨0xA0001C + 0x1000 * i, 0, 32⟩
def MOT_UPOS_U (i : Nat) : Fld := ⟨0xA00020 + 0x1000 * i, 0, 32⟩
def MOT_FPOS_XF (i : Nat) : Fld := ⟨0xA00024 + 0x1000 * i, 0, 32⟩
def MOT_RPOS_C (i : Nat) : Fld := ⟨0xA00028 + 0x1000 * i, 0, 32⟩
def MOT_SEGT_T (i : Nat) : Fld := ⟨0xA0002C + 0x1000 * i, 0, 24⟩
def MOT_TBL_NSEG (i : Nat) : Fld := ⟨0xA00030 + 0x1000 * i, 0, 13⟩
def MOT_TBL_LOOP (i : Nat) : Fld := ⟨0xA00030 + 0x1000 * i, 16, 12⟩
def MOT_TBL_LOOP_EN (i : Nat) : Fld := ⟨0xA00030 + 0x1000 * i, 31, 1⟩
def MOT_TBL_CRC_CRC (i : Nat) : Fld := ⟨0xA00034 + 0x1000 * i, 0, 32⟩
def MOT_JREJ_COUNT (i : Nat) : Fld := ⟨0xA00038 + 0x1000 * i, 0, 32⟩
def MOT_ENC_CFG_MODE (i : Nat) : Fld := ⟨0xA20000 + 0x20 * i, 0, 2⟩
def MOT_ENC_CFG_INVERT (i : Nat) : Fld := ⟨0xA20000 + 0x20 * i, 2, 1⟩
def MOT_ENC_CFG_SSI_BITS (i : Nat) : Fld := ⟨0xA20000 + 0x20 * i, 3, 6⟩
def MOT_ENC_CFG_GRAY (i : Nat) : Fld := ⟨0xA20000 + 0x20 * i, 9, 1⟩
def MOT_ENC_CFG_ERRBIT (i : Nat) : Fld := ⟨0xA20000 + 0x20 * i, 10, 1⟩
def MOT_ENC_CFG_SSI_NS (i : Nat) : Fld := ⟨0xA20000 + 0x20 * i, 16, 8⟩
def MOT_ENC_CFG_SSI_FT (i : Nat) : Fld := ⟨0xA20000 + 0x20 * i, 24, 4⟩
def MOT_ENC_STATUS_OK (i : Nat) : Fld := ⟨0xA20004 + 0x20 * i, 0, 1⟩
def MOT_ENC_STATUS_QUAD_ERR (i : Nat) : Fld := ⟨0xA20004 + 0x20 * i, 8, 1⟩
def MOT_ENC_STATUS_SSI_ERR (i : Nat) : Fld := ⟨0xA20004 + 0x20 * i, 9, 1⟩
def MOT_ENC_STATUS_INDEX_SEEN (i : Nat) : Fld := ⟨0xA20004 + 0x20 * i, 10, 1⟩
def MOT_ENC_STATUS_WINDOW_VIOL (i : Nat) : Fld := ⟨0xA20004 + 0x20 * i, 11, 1⟩
def MOT_ENC_INDEX_COUNT (i : Nat) : Fld := ⟨0xA20008 + 0x20 * i, 0, 32⟩
def MOT_ENC_ERRS_COUNT (i : Nat) : Fld := ⟨0xA2000C + 0x20 * i, 0, 32⟩
def MOT_START_MASK_MASK : Fld := ⟨0xA30000, 0, 24⟩
def MOT_GCMD_GO : Fld := ⟨0xA30004, 0, 1⟩
end F

def regTableMOT0 : List RegRow := [
  ⟨0xA00000, [(0x1000, 24)], .axis, 0x2000, 0xFFFF, [⟨0, 5, .rw, .idle, 0, 0x1F⟩, ⟨5, 2, .rw, .idle, 0, 2⟩, ⟨7, 5, .rw, .idle, 0, 23⟩, ⟨12, 1, .rw, .idle, 0, 0x1⟩, ⟨13, 3, .rw, .idle, 0, 0x7⟩]⟩,
  ⟨0xA00004, [(0x1000, 24)], .axis, 0x0, 0x0, [⟨0, 3, .ro, .any, 0, 0x7⟩, ⟨3, 1, .ro, .any, 0, 0x1⟩, ⟨4, 12, .ro, .any, 0, 0xFFF⟩, ⟨16, 1, .w1c, .any, 0, 0x1⟩, ⟨17, 1, .w1c, .any, 0, 0x1⟩, ⟨18, 1, .w1c, .any, 0, 0x1⟩]⟩,
  ⟨0xA00008, [(0x1000, 24)], .axis, 0x0, 0x0, [⟨0, 1, .wo, .idle, 0, 0x1⟩, ⟨1, 1, .wo, .any, 0, 0x1⟩]⟩,
  ⟨0xA0000C, [(0x1000, 24)], .axis, 0x10000, 0x1FFFF, [⟨0, 17, .rw, .any, 0, 65536⟩]⟩,
  ⟨0xA00010, [(0x1000, 24)], .axis, 0x68E, 0xFFFFFF, [⟨0, 24, .rw, .any, 1, 16777215⟩]⟩,
  ⟨0xA00014, [(0x1000, 24)], .axis, 0x4000, 0x1FFFF, [⟨0, 17, .rw, .plate, 1, 65536⟩]⟩,
  ⟨0xA00018, [(0x1000, 24)], .axis, 0x0, 0xFFFFFFFF, [⟨0, 32, .rw, .plate, 0, 0xFFFFFFFF⟩]⟩,
  ⟨0xA0001C, [(0x1000, 24)], .axis, 0x0, 0x0, [⟨0, 32, .ro, .any, 0, 0xFFFFFFFF⟩]⟩,
  ⟨0xA00020, [(0x1000, 24)], .axis, 0x0, 0x0, [⟨0, 32, .ro, .any, 0, 0xFFFFFFFF⟩]⟩,
  ⟨0xA00024, [(0x1000, 24)], .axis, 0x0, 0x0, [⟨0, 32, .ro, .any, 0, 0xFFFFFFFF⟩]⟩,
  ⟨0xA00028, [(0x1000, 24)], .axis, 0x0, 0x0, [⟨0, 32, .ro, .any, 0, 0xFFFFFFFF⟩]⟩,
  ⟨0xA0002C, [(0x1000, 24)], .axis, 0x0, 0x0, [⟨0, 24, .ro, .any, 0, 0xFFFFFF⟩]⟩,
  ⟨0xA00030, [(0x1000, 24)], .axis, 0x0, 0x0, [⟨0, 13, .ro, .any, 0, 0x1FFF⟩, ⟨16, 12, .ro, .any, 0, 0xFFF⟩, ⟨31, 1, .ro, .any, 0, 0x1⟩]⟩,
  ⟨0xA00034, [(0x1000, 24)], .axis, 0x0, 0x0, [⟨0, 32, .ro, .any, 0, 0xFFFFFFFF⟩]⟩,
  ⟨0xA00038, [(0x1000, 24)], .axis, 0x0, 0x0, [⟨0, 32, .ro, .any, 0, 0xFFFFFFFF⟩]⟩,
  ⟨0xA20000, [(0x20, 24)], .all, 0x0, 0xFFF07FF, [⟨0, 2, .rw, .plate, 0, 2⟩, ⟨2, 1, .rw, .plate, 0, 0x1⟩, ⟨3, 6, .rw, .plate, 8, 32⟩, ⟨9, 1, .rw, .plate, 0, 0x1⟩, ⟨10, 1, .rw, .plate, 0, 0x1⟩, ⟨16, 8, .rw, .plate, 25, 255⟩, ⟨24, 4, .rw, .plate, 1, 15⟩]⟩,
  ⟨0xA20004, [(0x20, 24)], .all, 0x0, 0x0, [⟨0, 1, .ro, .any, 0, 0x1⟩, ⟨8, 1, .w1c, .any, 0, 0x1⟩, ⟨9, 1, .w1c, .any, 0, 0x1⟩, ⟨10, 1, .w1c, .any, 0, 0x1⟩, ⟨11, 1, .w1c, .any, 0, 0x1⟩]⟩,
  ⟨0xA20008, [(0x20, 24)], .all, 0x0, 0x0, [⟨0, 32, .ro, .any, 0, 0xFFFFFFFF⟩]⟩,
  ⟨0xA2000C, [(0x20, 24)], .all, 0x0, 0x0, [⟨0, 32, .ro, .any, 0, 0xFFFFFFFF⟩]⟩,
  ⟨0xA30000, [], .all, 0x0, 0x0, [⟨0, 24, .rw, .any, 0, 0xFFFFFF⟩]⟩]

def regTableMOT1 : List RegRow := [
  ⟨0xA30004, [], .all, 0x0, 0x0, [⟨0, 1, .wo, .any, 0, 0x1⟩]⟩]

/-- The register map of block MOT. -/
def regTableMOT : List RegRow := regTableMOT0 ++ regTableMOT1

/-! Fields of block FOC (R382, R383, R384). -/
namespace F
def FOC_CFG_MODE (i : Nat) : Fld := ⟨0xB00000 + 0x1000 * i, 0, 2⟩
def FOC_CFG_CATCH (i : Nat) : Fld := ⟨0xB00000 + 0x1000 * i, 2, 1⟩
def FOC_CFG_CAR (i : Nat) : Fld := ⟨0xB00000 + 0x1000 * i, 3, 3⟩
def FOC_CFG_BUS (i : Nat) : Fld := ⟨0xB00000 + 0x1000 * i, 6, 2⟩
def FOC_CFG_REGEN_SHARE (i : Nat) : Fld := ⟨0xB00000 + 0x1000 * i, 8, 8⟩
def FOC_CFG_SKIP_MAX (i : Nat) : Fld := ⟨0xB00000 + 0x1000 * i, 16, 8⟩
def FOC_CFG_PRED (i : Nat) : Fld := ⟨0xB00000 + 0x1000 * i, 24, 8⟩
def FOC_STATUS_STATE (i : Nat) : Fld := ⟨0xB00004 + 0x1000 * i, 0, 3⟩
def FOC_STATUS_REGEN_LIM (i : Nat) : Fld := ⟨0xB00004 + 0x1000 * i, 3, 1⟩
def FOC_STATUS_LOST (i : Nat) : Fld := ⟨0xB00004 + 0x1000 * i, 4, 2⟩
def FOC_STATUS_REASON (i : Nat) : Fld := ⟨0xB00004 + 0x1000 * i, 8, 4⟩
def FOC_STATUS_PHASE_LOST (i : Nat) : Fld := ⟨0xB00004 + 0x1000 * i, 16, 1⟩
def FOC_STATUS_BUS_CUT (i : Nat) : Fld := ⟨0xB00004 + 0x1000 * i, 17, 1⟩
def FOC_STATUS_CATCH_DONE (i : Nat) : Fld := ⟨0xB00004 + 0x1000 * i, 18, 1⟩
def FOC_STATUS_CATCH_FAIL (i : Nat) : Fld := ⟨0xB00004 + 0x1000 * i, 19, 1⟩
def FOC_STATUS_FORCED (i : Nat) : Fld := ⟨0xB00004 + 0x1000 * i, 20, 1⟩
def FOC_STATUS_BIND_LOST (i : Nat) : Fld := ⟨0xB00004 + 0x1000 * i, 21, 1⟩
def FOC_STATUS_WINDOW_VIOL (i : Nat) : Fld := ⟨0xB00004 + 0x1000 * i, 22, 1⟩
def FOC_CMD_ENABLE (i : Nat) : Fld := ⟨0xB00008 + 0x1000 * i, 0, 1⟩
def FOC_CMD_DISABLE (i : Nat) : Fld := ⟨0xB00008 + 0x1000 * i, 1, 1⟩
def FOC_CMD_CLEAR (i : Nat) : Fld := ⟨0xB00008 + 0x1000 * i, 2, 1⟩
def FOC_IFS_MA (i : Nat) : Fld := ⟨0xB0000C + 0x1000 * i, 0, 32⟩
def FOC_PI_KP (i : Nat) : Fld := ⟨0xB00010 + 0x1000 * i, 0, 16⟩
def FOC_PI_KI (i : Nat) : Fld := ⟨0xB00010 + 0x1000 * i, 16, 16⟩
def FOC_KANG_K (i : Nat) : Fld := ⟨0xB00014 + 0x1000 * i, 0, 32⟩
def FOC_ANGOFS_OFS (i : Nat) : Fld := ⟨0xB00018 + 0x1000 * i, 0, 16⟩
def FOC_IANG_I (i : Nat) : Fld := ⟨0xB0001C + 0x1000 * i, 0, 16⟩
def FOC_IANG_ALIGN_MS (i : Nat) : Fld := ⟨0xB0001C + 0x1000 * i, 16, 16⟩
def FOC_CATCH_TGT (i : Nat) : Fld := ⟨0xB00020 + 0x1000 * i, 0, 16⟩
def FOC_CATCH_ACC (i : Nat) : Fld := ⟨0xB00020 + 0x1000 * i, 16, 16⟩
def FOC_CATCH2_IMIN (i : Nat) : Fld := ⟨0xB00024 + 0x1000 * i, 0, 16⟩
def FOC_CATCH2_ZV (i : Nat) : Fld := ⟨0xB00024 + 0x1000 * i, 16, 8⟩
def FOC_CATCH2_REST_HZ (i : Nat) : Fld := ⟨0xB00024 + 0x1000 * i, 24, 8⟩
def FOC_ADV_CFG_ADV_STEP (i : Nat) : Fld := ⟨0xB00028 + 0x1000 * i, 0, 16⟩
def FOC_ADV_CFG_KSPD (i : Nat) : Fld := ⟨0xB00028 + 0x1000 * i, 16, 16⟩
def FOC_PHASE_WIN (i : Nat) : Fld := ⟨0xB0002C + 0x1000 * i, 0, 8⟩
def FOC_PHASE_RATIO (i : Nat) : Fld := ⟨0xB0002C + 0x1000 * i, 8, 8⟩
def FOC_PHASE_COUNT (i : Nat) : Fld := ⟨0xB0002C + 0x1000 * i, 16, 8⟩
def FOC_PHASE_IMIN (i : Nat) : Fld := ⟨0xB0002C + 0x1000 * i, 24, 8⟩
def FOC_IDQ_ID (i : Nat) : Fld := ⟨0xB00050 + 0x1000 * i, 0, 16⟩
def FOC_IDQ_IQ (i : Nat) : Fld := ⟨0xB00050 + 0x1000 * i, 16, 16⟩
def FOC_SPEED_HZ (i : Nat) : Fld := ⟨0xB00054 + 0x1000 * i, 0, 16⟩
def FOC_SPEED_ANGLE (i : Nat) : Fld := ⟨0xB00054 + 0x1000 * i, 16, 16⟩
def FOC_REGEN_W (i : Nat) : Fld := ⟨0xB00058 + 0x1000 * i, 0, 32⟩
def FOC_SKIPS_SKIPPED (i : Nat) : Fld := ⟨0xB0005C + 0x1000 * i, 0, 16⟩
def FOC_SKIPS_FORCED (i : Nat) : Fld := ⟨0xB0005C + 0x1000 * i, 16, 16⟩
def FOC_ADV_EVEN (i : Nat) (j : Nat) : Fld := ⟨0xB00030 + 0x1000 * i + 0x4 * j, 0, 16⟩
def FOC_ADV_ODD (i : Nat) (j : Nat) : Fld := ⟨0xB00030 + 0x1000 * i + 0x4 * j, 16, 16⟩
def FOC_STP_CFG_USE (i : Nat) : Fld := ⟨0xB10000 + 0x1000 * i, 0, 1⟩
def FOC_STP_CFG_CAR (i : Nat) : Fld := ⟨0xB10000 + 0x1000 * i, 1, 3⟩
def FOC_STP_CFG_BUS (i : Nat) : Fld := ⟨0xB10000 + 0x1000 * i, 4, 2⟩
def FOC_STP_CFG_SKIP_MAX (i : Nat) : Fld := ⟨0xB10000 + 0x1000 * i, 16, 8⟩
def FOC_STP_CFG_PRED (i : Nat) : Fld := ⟨0xB10000 + 0x1000 * i, 24, 8⟩
def FOC_STP_STATUS_STATE (i : Nat) : Fld := ⟨0xB10004 + 0x1000 * i, 0, 3⟩
def FOC_STP_STATUS_HOLDING (i : Nat) : Fld := ⟨0xB10004 + 0x1000 * i, 3, 1⟩
def FOC_STP_STATUS_LOST (i : Nat) : Fld := ⟨0xB10004 + 0x1000 * i, 4, 2⟩
def FOC_STP_STATUS_REASON (i : Nat) : Fld := ⟨0xB10004 + 0x1000 * i, 8, 4⟩
def FOC_STP_STATUS_PHASE_LOST (i : Nat) : Fld := ⟨0xB10004 + 0x1000 * i, 16, 1⟩
def FOC_STP_STATUS_BUS_CUT (i : Nat) : Fld := ⟨0xB10004 + 0x1000 * i, 17, 1⟩
def FOC_STP_STATUS_FORCED (i : Nat) : Fld := ⟨0xB10004 + 0x1000 * i, 20, 1⟩
def FOC_STP_STATUS_BIND_LOST (i : Nat) : Fld := ⟨0xB10004 + 0x1000 * i, 21, 1⟩
def FOC_STP_STATUS_WINDOW_VIOL (i : Nat) : Fld := ⟨0xB10004 + 0x1000 * i, 22, 1⟩
def FOC_STP_CMD_ENABLE (i : Nat) : Fld := ⟨0xB10008 + 0x1000 * i, 0, 1⟩
def FOC_STP_CMD_DISABLE (i : Nat) : Fld := ⟨0xB10008 + 0x1000 * i, 1, 1⟩
def FOC_STP_CMD_CLEAR (i : Nat) : Fld := ⟨0xB10008 + 0x1000 * i, 2, 1⟩
def FOC_STP_IFS_MA (i : Nat) : Fld := ⟨0xB1000C + 0x1000 * i, 0, 32⟩
def FOC_STP_PI_KP (i : Nat) : Fld := ⟨0xB10010 + 0x1000 * i, 0, 16⟩
def FOC_STP_PI_KI (i : Nat) : Fld := ⟨0xB10010 + 0x1000 * i, 16, 16⟩
def FOC_STP_CUR_I_RUN (i : Nat) : Fld := ⟨0xB10014 + 0x1000 * i, 0, 16⟩
def FOC_STP_CUR_I_HOLD (i : Nat) : Fld := ⟨0xB10014 + 0x1000 * i, 16, 16⟩
def FOC_STP_HOLD_HOLD_MS (i : Nat) : Fld := ⟨0xB10018 + 0x1000 * i, 0, 16⟩
def FOC_STP_PHASE_WIN (i : Nat) : Fld := ⟨0xB1001C + 0x1000 * i, 0, 8⟩
def FOC_STP_PHASE_RATIO (i : Nat) : Fld := ⟨0xB1001C + 0x1000 * i, 8, 8⟩
def FOC_STP_PHASE_COUNT (i : Nat) : Fld := ⟨0xB1001C + 0x1000 * i, 16, 8⟩
def FOC_STP_PHASE_IMIN (i : Nat) : Fld := ⟨0xB1001C + 0x1000 * i, 24, 8⟩
def FOC_STP_IAB_IA (i : Nat) : Fld := ⟨0xB10020 + 0x1000 * i, 0, 16⟩
def FOC_STP_IAB_IB (i : Nat) : Fld := ⟨0xB10020 + 0x1000 * i, 16, 16⟩
def FOC_STP_TBL_CRC_CRC (i : Nat) : Fld := ⟨0xB10024 + 0x1000 * i, 0, 32⟩
def FOC_STP_SKIPS_SKIPPED (i : Nat) : Fld := ⟨0xB10028 + 0x1000 * i, 0, 16⟩
def FOC_STP_SKIPS_FORCED (i : Nat) : Fld := ⟨0xB10028 + 0x1000 * i, 16, 16⟩
def FOC_BUS_CFG_VCH (i : Nat) : Fld := ⟨0xB20000 + 0x100 * i, 0, 6⟩
def FOC_BUS_CFG_ICH (i : Nat) : Fld := ⟨0xB20000 + 0x100 * i, 6, 6⟩
def FOC_BUS_CFG_CHOP_EN (i : Nat) : Fld := ⟨0xB20000 + 0x100 * i, 12, 1⟩
def FOC_BUS_STATUS_CHOP_ON (i : Nat) : Fld := ⟨0xB20004 + 0x100 * i, 0, 1⟩
def FOC_BUS_STATUS_NOCHOP (i : Nat) : Fld := ⟨0xB20004 + 0x100 * i, 1, 1⟩
def FOC_BUS_STATUS_CHOP_FAULT (i : Nat) : Fld := ⟨0xB20004 + 0x100 * i, 8, 1⟩
def FOC_BUS_STATUS_HARD (i : Nat) : Fld := ⟨0xB20004 + 0x100 * i, 9, 1⟩
def FOC_BUS_STATUS_WINDOW_VIOL (i : Nat) : Fld := ⟨0xB20004 + 0x100 * i, 10, 1⟩
def FOC_BUS_STATUS_V (i : Nat) : Fld := ⟨0xB20004 + 0x100 * i, 16, 16⟩
def FOC_BUS_CMD_CHOP_CLR (i : Nat) : Fld := ⟨0xB20008 + 0x100 * i, 0, 1⟩
def FOC_BUS_VLIM1_V_ON (i : Nat) : Fld := ⟨0xB2000C + 0x100 * i, 0, 16⟩
def FOC_BUS_VLIM1_V_OFF (i : Nat) : Fld := ⟨0xB2000C + 0x100 * i, 16, 16⟩
def FOC_BUS_VLIM2_V_SOFT (i : Nat) : Fld := ⟨0xB20010 + 0x100 * i, 0, 16⟩
def FOC_BUS_VLIM2_V_HARD (i : Nat) : Fld := ⟨0xB20010 + 0x100 * i, 16, 16⟩
def FOC_BUS_SCALE_VFS (i : Nat) : Fld := ⟨0xB20014 + 0x100 * i, 0, 16⟩
def FOC_BUS_SCALE_CIFS (i : Nat) : Fld := ⟨0xB20014 + 0x100 * i, 16, 16⟩
def FOC_BUS_CAP_CAP (i : Nat) : Fld := ⟨0xB20018 + 0x100 * i, 0, 16⟩
def FOC_BUS_CAP_HORIZON (i : Nat) : Fld := ⟨0xB20018 + 0x100 * i, 16, 16⟩
def FOC_BUS_PCHOP_W (i : Nat) : Fld := ⟨0xB2001C + 0x100 * i, 0, 16⟩
def FOC_BUS_PCHOP_SETTLE (i : Nat) : Fld := ⟨0xB2001C + 0x100 * i, 16, 8⟩
def FOC_BUS_PCHOP_CIMIN (i : Nat) : Fld := ⟨0xB2001C + 0x100 * i, 24, 8⟩
def FOC_SD_CFG_CLK : Fld := ⟨0xB30000, 0, 1⟩
def FOC_CAR_CFG_PER_FT (i : Nat) : Fld := ⟨0xB30100 + 0x4 * i, 0, 12⟩
def FOC_CAR_CFG_BLANK (i : Nat) : Fld := ⟨0xB30100 + 0x4 * i, 16, 8⟩
def FOC_CAR_CFG_RANGE_BAD (i : Nat) : Fld := ⟨0xB30100 + 0x4 * i, 12, 1⟩
def FOC_OUT_CFG_CAR (i : Nat) : Fld := ⟨0xB31000 + 0x4 * i, 0, 3⟩
def FOC_SDC_CFG_OSR (i : Nat) : Fld := ⟨0xB32000 + 0x4 * i, 0, 9⟩
def FOC_SDC_VAL_VALUE (i : Nat) : Fld := ⟨0xB32100 + 0x4 * i, 0, 16⟩
end F

def regTableFOC0 : List RegRow := [
  ⟨0xB00000, [(0x1000, 16)], .foc, 0x40040000, 0xFFFFFFFF, [⟨0, 2, .rw, .idle, 0, 2⟩, ⟨2, 1, .rw, .idle, 0, 0x1⟩, ⟨3, 3, .rw, .idle, 0, 0x7⟩, ⟨6, 2, .rw, .idle, 0, 0x3⟩, ⟨8, 8, .rw, .idle, 0, 0xFF⟩, ⟨16, 8, .rw, .idle, 1, 255⟩, ⟨24, 8, .rw, .idle, 0, 0xFF⟩]⟩,
  ⟨0xB00004, [(0x1000, 16)], .foc, 0x0, 0x0, [⟨0, 3, .ro, .any, 0, 0x7⟩, ⟨3, 1, .ro, .any, 0, 0x1⟩, ⟨4, 2, .ro, .any, 0, 0x3⟩, ⟨8, 4, .ro, .any, 0, 0xF⟩, ⟨16, 1, .w1c, .any, 0, 0x1⟩, ⟨17, 1, .w1c, .any, 0, 0x1⟩, ⟨18, 1, .w1c, .any, 0, 0x1⟩, ⟨19, 1, .w1c, .any, 0, 0x1⟩, ⟨20, 1, .w1c, .any, 0, 0x1⟩, ⟨21, 1, .w1c, .any, 0, 0x1⟩, ⟨22, 1, .w1c, .any, 0, 0x1⟩]⟩,
  ⟨0xB00008, [(0x1000, 16)], .foc, 0x0, 0x0, [⟨0, 1, .wo, .any, 0, 0x1⟩, ⟨1, 1, .wo, .any, 0, 0x1⟩, ⟨2, 1, .wo, .any, 0, 0x1⟩]⟩,
  ⟨0xB0000C, [(0x1000, 16)], .foc, 0x3E8, 0xFFFFFFFF, [⟨0, 32, .rw, .idle, 1, 1000000⟩]⟩,
  ⟨0xB00010, [(0x1000, 16)], .foc, 0x0, 0xFFFFFFFF, [⟨0, 16, .rw, .any, 0, 0xFFFF⟩, ⟨16, 16, .rw, .any, 0, 0xFFFF⟩]⟩,
  ⟨0xB00014, [(0x1000, 16)], .foc, 0x0, 0xFFFFFFFF, [⟨0, 32, .rw, .idle, 0, 0xFFFFFFFF⟩]⟩,
  ⟨0xB00018, [(0x1000, 16)], .foc, 0x0, 0xFFFF, [⟨0, 16, .rw, .idle, 0, 0xFFFF⟩]⟩,
  ⟨0xB0001C, [(0x1000, 16)], .foc, 0x640000, 0xFFFFFFFF, [⟨0, 16, .rw, .any, 0, 32767⟩, ⟨16, 16, .rw, .idle, 0, 0xFFFF⟩]⟩,
  ⟨0xB00020, [(0x1000, 16)], .foc, 0x10000, 0xFFFFFFFF, [⟨0, 16, .rw, .idle, 0, 0xFFFF⟩, ⟨16, 16, .rw, .idle, 1, 65535⟩]⟩,
  ⟨0xB00024, [(0x1000, 16)], .foc, 0x2640000, 0xFFFFFFFF, [⟨0, 16, .rw, .idle, 0, 0xFFFF⟩, ⟨16, 8, .rw, .idle, 1, 255⟩, ⟨24, 8, .rw, .idle, 0, 0xFF⟩]⟩,
  ⟨0xB00028, [(0x1000, 16)], .foc, 0x64, 0xFFFFFFFF, [⟨0, 16, .rw, .idle, 1, 65535⟩, ⟨16, 16, .rw, .idle, 0, 0xFFFF⟩]⟩,
  ⟨0xB0002C, [(0x1000, 16)], .foc, 0x0, 0xFFFFFFFF, [⟨0, 8, .rw, .idle, 0, 0xFF⟩, ⟨8, 8, .rw, .idle, 0, 0xFF⟩, ⟨16, 8, .rw, .idle, 1, 255⟩, ⟨24, 8, .rw, .idle, 0, 0xFF⟩]⟩,
  ⟨0xB00050, [(0x1000, 16)], .foc, 0x0, 0x0, [⟨0, 16, .ro, .any, 0, 0xFFFF⟩, ⟨16, 16, .ro, .any, 0, 0xFFFF⟩]⟩,
  ⟨0xB00054, [(0x1000, 16)], .foc, 0x0, 0x0, [⟨0, 16, .ro, .any, 0, 0xFFFF⟩, ⟨16, 16, .ro, .any, 0, 0xFFFF⟩]⟩,
  ⟨0xB00058, [(0x1000, 16)], .foc, 0x0, 0x0, [⟨0, 32, .ro, .any, 0, 0xFFFFFFFF⟩]⟩,
  ⟨0xB0005C, [(0x1000, 16)], .foc, 0x0, 0x0, [⟨0, 16, .ro, .any, 0, 0xFFFF⟩, ⟨16, 16, .ro, .any, 0, 0xFFFF⟩]⟩,
  ⟨0xB00030, [(0x1000, 16), (0x4, 8)], .foc, 0x0, 0xFFFFFFFF, [⟨0, 16, .rw, .idle, 0, 0xFFFF⟩, ⟨16, 16, .rw, .idle, 0, 0xFFFF⟩]⟩,
  ⟨0xB10000, [(0x1000, 8)], .stp, 0x40040000, 0xFFFF003F, [⟨0, 1, .rw, .idle, 0, 0x1⟩, ⟨1, 3, .rw, .idle, 0, 0x7⟩, ⟨4, 2, .rw, .idle, 0, 0x3⟩, ⟨16, 8, .rw, .idle, 1, 255⟩, ⟨24, 8, .rw, .idle, 0, 0xFF⟩]⟩,
  ⟨0xB10004, [(0x1000, 8)], .stp, 0x0, 0x0, [⟨0, 3, .ro, .any, 0, 0x7⟩, ⟨3, 1, .ro, .any, 0, 0x1⟩, ⟨4, 2, .ro, .any, 0, 0x3⟩, ⟨8, 4, .ro, .any, 0, 0xF⟩, ⟨16, 1, .w1c, .any, 0, 0x1⟩, ⟨17, 1, .w1c, .any, 0, 0x1⟩, ⟨20, 1, .w1c, .any, 0, 0x1⟩, ⟨21, 1, .w1c, .any, 0, 0x1⟩, ⟨22, 1, .w1c, .any, 0, 0x1⟩]⟩,
  ⟨0xB10008, [(0x1000, 8)], .stp, 0x0, 0x0, [⟨0, 1, .wo, .any, 0, 0x1⟩, ⟨1, 1, .wo, .any, 0, 0x1⟩, ⟨2, 1, .wo, .any, 0, 0x1⟩]⟩]

def regTableFOC1 : List RegRow := [
  ⟨0xB1000C, [(0x1000, 8)], .stp, 0x3E8, 0xFFFFFFFF, [⟨0, 32, .rw, .idle, 1, 1000000⟩]⟩,
  ⟨0xB10010, [(0x1000, 8)], .stp, 0x0, 0xFFFFFFFF, [⟨0, 16, .rw, .any, 0, 0xFFFF⟩, ⟨16, 16, .rw, .any, 0, 0xFFFF⟩]⟩,
  ⟨0xB10014, [(0x1000, 8)], .stp, 0x0, 0xFFFFFFFF, [⟨0, 16, .rw, .any, 0, 0xFFFF⟩, ⟨16, 16, .rw, .any, 0, 0xFFFF⟩]⟩,
  ⟨0xB10018, [(0x1000, 8)], .stp, 0x1F4, 0xFFFF, [⟨0, 16, .rw, .any, 0, 0xFFFF⟩]⟩,
  ⟨0xB1001C, [(0x1000, 8)], .stp, 0x0, 0xFFFFFFFF, [⟨0, 8, .rw, .idle, 0, 0xFF⟩, ⟨8, 8, .rw, .idle, 0, 0xFF⟩, ⟨16, 8, .rw, .idle, 1, 255⟩, ⟨24, 8, .rw, .idle, 0, 0xFF⟩]⟩,
  ⟨0xB10020, [(0x1000, 8)], .stp, 0x0, 0x0, [⟨0, 16, .ro, .any, 0, 0xFFFF⟩, ⟨16, 16, .ro, .any, 0, 0xFFFF⟩]⟩,
  ⟨0xB10024, [(0x1000, 8)], .stp, 0x0, 0x0, [⟨0, 32, .ro, .any, 0, 0xFFFFFFFF⟩]⟩,
  ⟨0xB10028, [(0x1000, 8)], .stp, 0x0, 0x0, [⟨0, 16, .ro, .any, 0, 0xFFFF⟩, ⟨16, 16, .ro, .any, 0, 0xFFFF⟩]⟩,
  ⟨0xB20000, [(0x100, 4)], .all, 0xC70, 0x1FFF, [⟨0, 6, .rw, .idle, 48, 63⟩, ⟨6, 6, .rw, .idle, 48, 63⟩, ⟨12, 1, .rw, .idle, 0, 0x1⟩]⟩,
  ⟨0xB20004, [(0x100, 4)], .all, 0x0, 0x0, [⟨0, 1, .ro, .any, 0, 0x1⟩, ⟨1, 1, .ro, .any, 0, 0x1⟩, ⟨8, 1, .w1c, .any, 0, 0x1⟩, ⟨9, 1, .w1c, .any, 0, 0x1⟩, ⟨10, 1, .w1c, .any, 0, 0x1⟩, ⟨16, 16, .ro, .any, 0, 0xFFFF⟩]⟩,
  ⟨0xB20008, [(0x100, 4)], .all, 0x0, 0x0, [⟨0, 1, .wo, .any, 0, 0x1⟩]⟩,
  ⟨0xB2000C, [(0x100, 4)], .all, 0xE100E74, 0xFFFFFFFF, [⟨0, 16, .rw, .idle, 0, 0xFFFF⟩, ⟨16, 16, .rw, .idle, 0, 0xFFFF⟩]⟩,
  ⟨0xB20010, [(0x100, 4)], .all, 0xFA00F0A, 0xFFFFFFFF, [⟨0, 16, .rw, .idle, 0, 0xFFFF⟩, ⟨16, 16, .rw, .idle, 0, 0xFFFF⟩]⟩,
  ⟨0xB20014, [(0x100, 4)], .all, 0x0, 0xFFFFFFFF, [⟨0, 16, .rw, .idle, 0, 0xFFFF⟩, ⟨16, 16, .rw, .idle, 0, 0xFFFF⟩]⟩,
  ⟨0xB20018, [(0x100, 4)], .all, 0xA0000, 0xFFFFFFFF, [⟨0, 16, .rw, .idle, 0, 0xFFFF⟩, ⟨16, 16, .rw, .idle, 1, 1000⟩]⟩,
  ⟨0xB2001C, [(0x100, 4)], .all, 0x40000, 0xFFFFFFFF, [⟨0, 16, .rw, .idle, 0, 0xFFFF⟩, ⟨16, 8, .rw, .idle, 0, 0xFF⟩, ⟨24, 8, .rw, .idle, 0, 0xFF⟩]⟩,
  ⟨0xB30000, [], .all, 0x1, 0x1, [⟨0, 1, .rw, .boot, 0, 0x1⟩]⟩,
  ⟨0xB30100, [(0x4, 8)], .all, 0x320064, 0xFF0FFF, [⟨0, 12, .rw, .idle, 0, 0xFFF⟩, ⟨16, 8, .rw, .idle, 0, 0xFF⟩, ⟨12, 1, .ro, .any, 0, 0x1⟩]⟩,
  ⟨0xB31000, [(0x4, 128)], .all, 0x0, 0x7, [⟨0, 3, .rw, .any, 0, 0x7⟩]⟩,
  ⟨0xB32000, [(0x4, 64)], .all, 0x20, 0x1FF, [⟨0, 9, .rw, .idle, 16, 256⟩]⟩]

def regTableFOC2 : List RegRow := [
  ⟨0xB32100, [(0x4, 64)], .all, 0x0, 0x0, [⟨0, 16, .ro, .any, 0, 0xFFFF⟩]⟩]

/-- The register map of block FOC. -/
def regTableFOC : List RegRow := regTableFOC0 ++ regTableFOC1 ++ regTableFOC2

/-! Fields of block PIO (R336). -/
namespace F
def PIO_STATUS_ZX_OK : Fld := ⟨0xC00000, 0, 4⟩
def PIO_STATUS_ZX_LOST : Fld := ⟨0xC00000, 8, 1⟩
def PIO_STATUS_WINDOW_VIOL : Fld := ⟨0xC00000, 9, 1⟩
def PIO_SSR_CFG_EN (i : Nat) : Fld := ⟨0xC00100 + 0x10 * i, 0, 1⟩
def PIO_SSR_CFG_ZX (i : Nat) : Fld := ⟨0xC00100 + 0x10 * i, 1, 2⟩
def PIO_SSR_CFG_DELAY_US (i : Nat) : Fld := ⟨0xC00100 + 0x10 * i, 3, 8⟩
def PIO_SSR_STATE_ON (i : Nat) : Fld := ⟨0xC00104 + 0x10 * i, 0, 1⟩
def PIO_SSR_STATE_ACC (i : Nat) : Fld := ⟨0xC00104 + 0x10 * i, 16, 16⟩
def PIO_SSR_HALFS_COUNT (i : Nat) : Fld := ⟨0xC00108 + 0x10 * i, 0, 32⟩
def PIO_ZX_PERIOD_NS (i : Nat) : Fld := ⟨0xC00200 + 0x4 * i, 0, 32⟩
end F

def regTablePIO0 : List RegRow := [
  ⟨0xC00000, [], .all, 0x0, 0x0, [⟨0, 4, .ro, .any, 0, 0xF⟩, ⟨8, 1, .w1c, .any, 0, 0x1⟩, ⟨9, 1, .w1c, .any, 0, 0x1⟩]⟩,
  ⟨0xC00100, [(0x10, 8)], .all, 0x0, 0x7FF, [⟨0, 1, .rw, .plate, 0, 0x1⟩, ⟨1, 2, .rw, .plate, 0, 0x3⟩, ⟨3, 8, .rw, .plate, 0, 0xFF⟩]⟩,
  ⟨0xC00104, [(0x10, 8)], .all, 0x0, 0x0, [⟨0, 1, .ro, .any, 0, 0x1⟩, ⟨16, 16, .ro, .any, 0, 0xFFFF⟩]⟩,
  ⟨0xC00108, [(0x10, 8)], .all, 0x0, 0x0, [⟨0, 32, .ro, .any, 0, 0xFFFFFFFF⟩]⟩,
  ⟨0xC00200, [(0x4, 4)], .all, 0x0, 0x0, [⟨0, 32, .ro, .any, 0, 0xFFFFFFFF⟩]⟩]

/-- The register map of block PIO. -/
def regTablePIO : List RegRow := regTablePIO0

end Sys2Proof.Machine
end

