-- ==== Sys2Proof/Machine/Regs4.lean ====
section
/-! DEFINITION. The register fields of the blocks TWN, TIM, PTP, SEC, THM, EVT, CFG, HLD: the place of each field (`Fld`), as the
field tables of its chapter give it, and the block's rows of the register map (offset, repeats, reset word, access,
window and range of each field). Offsets are byte offsets in PF0 BAR0 (R59). The reset word of a field whose Reset
column reads CFG is its Sponge value (R504; log entry 5). -/

namespace Sys2Proof.Machine

/-! Fields of block TWN (R412). -/
namespace F
def TWN_STATUS_FIXED_ARMED : Fld := ⟨0xD00000, 0, 1⟩
def TWN_STATUS_XFER : Fld := ⟨0xD00000, 1, 1⟩
def TWN_STATUS_COMPARING : Fld := ⟨0xD00000, 2, 1⟩
def TWN_STATUS_MATCHES : Fld := ⟨0xD00000, 3, 2⟩
def TWN_STATUS_SWAP_DONE : Fld := ⟨0xD00000, 8, 1⟩
def TWN_STATUS_SWAP_SKIPPED : Fld := ⟨0xD00000, 9, 1⟩
def TWN_STATUS_SWAP_LATE : Fld := ⟨0xD00000, 10, 1⟩
def TWN_STATUS_XFER_DONE : Fld := ⟨0xD00000, 11, 1⟩
def TWN_STATUS_WINDOW_VIOL : Fld := ⟨0xD00000, 12, 1⟩
def TWN_CFG_COMPAT : Fld := ⟨0xD00004, 0, 1⟩
def TWN_CFG_MISMATCH_SPOIL : Fld := ⟨0xD00004, 1, 1⟩
def TWN_CFG_PERIODIC_EN : Fld := ⟨0xD00004, 2, 1⟩
def TWN_CMD_FIXED_ARM : Fld := ⟨0xD00008, 0, 1⟩
def TWN_CMD_FIXED_DISARM : Fld := ⟨0xD00008, 1, 1⟩
def TWN_CMD_PEEK : Fld := ⟨0xD00008, 2, 1⟩
def TWN_SWAP_PERIOD_S : Fld := ⟨0xD00010, 0, 32⟩
def TWN_SWAP_SLACK_S : Fld := ⟨0xD00014, 0, 32⟩
def TWN_SWAP_DUE_LO_TIME : Fld := ⟨0xD00018, 0, 32⟩
def TWN_SWAP_DUE_HI_TIME : Fld := ⟨0xD0001C, 0, 32⟩
def TWN_FIXED_LO_TIME : Fld := ⟨0xD00020, 0, 32⟩
def TWN_FIXED_HI_TIME : Fld := ⟨0xD00024, 0, 32⟩
def TWN_SWAPS_COUNT : Fld := ⟨0xD00028, 0, 32⟩
def TWN_XFER_GBPS : Fld := ⟨0xD00030, 0, 6⟩
def TWN_XFER_LEFT_MIB : Fld := ⟨0xD00034, 0, 32⟩
def TWN_PEEK_ADDR_WORD : Fld := ⟨0xD00040, 2, 23⟩
def TWN_PEEK_STATUS_ERR : Fld := ⟨0xD00044, 0, 1⟩
def TWN_PEEK_STATUS_SEQ : Fld := ⟨0xD00044, 16, 8⟩
def TWN_PEEK_STATUS_VALID : Fld := ⟨0xD00044, 31, 1⟩
def TWN_PEEK_DATA_DATA : Fld := ⟨0xD00048, 0, 32⟩
end F

def regTableTWN0 : List RegRow := [
  ⟨0xD00000, [], .all, 0x0, 0x0, [⟨0, 1, .ro, .any, 0, 0x1⟩, ⟨1, 1, .ro, .any, 0, 0x1⟩, ⟨2, 1, .ro, .any, 0, 0x1⟩, ⟨3, 2, .ro, .any, 0, 0x3⟩, ⟨8, 1, .w1c, .any, 0, 0x1⟩, ⟨9, 1, .w1c, .any, 0, 0x1⟩, ⟨10, 1, .w1c, .any, 0, 0x1⟩, ⟨11, 1, .w1c, .any, 0, 0x1⟩, ⟨12, 1, .w1c, .any, 0, 0x1⟩]⟩,
  ⟨0xD00004, [], .all, 0x6, 0x7, [⟨0, 1, .rw, .boot, 0, 0x1⟩, ⟨1, 1, .rw, .any, 0, 0x1⟩, ⟨2, 1, .rw, .plate, 0, 0x1⟩]⟩,
  ⟨0xD00008, [], .all, 0x0, 0x0, [⟨0, 1, .wo, .any, 0, 0x1⟩, ⟨1, 1, .wo, .any, 0, 0x1⟩, ⟨2, 1, .wo, .any, 0, 0x1⟩]⟩,
  ⟨0xD00010, [], .all, 0xE10, 0xFFFFFFFF, [⟨0, 32, .rw, .plate, 1, 86400⟩]⟩,
  ⟨0xD00014, [], .all, 0x258, 0xFFFFFFFF, [⟨0, 32, .rw, .plate, 0, 86400⟩]⟩,
  ⟨0xD00018, [], .all, 0x0, 0x0, [⟨0, 32, .ro, .any, 0, 0xFFFFFFFF⟩]⟩,
  ⟨0xD0001C, [], .all, 0x0, 0x0, [⟨0, 32, .ro, .any, 0, 0xFFFFFFFF⟩]⟩,
  ⟨0xD00020, [], .all, 0x0, 0x0, [⟨0, 32, .rw, .any, 0, 0xFFFFFFFF⟩]⟩,
  ⟨0xD00024, [], .all, 0x0, 0x0, [⟨0, 32, .rw, .any, 0, 0xFFFFFFFF⟩]⟩,
  ⟨0xD00028, [], .all, 0x0, 0x0, [⟨0, 32, .ro, .any, 0, 0xFFFFFFFF⟩]⟩,
  ⟨0xD00030, [], .all, 0x8, 0x3F, [⟨0, 6, .rw, .any, 1, 32⟩]⟩,
  ⟨0xD00034, [], .all, 0x0, 0x0, [⟨0, 32, .ro, .any, 0, 0xFFFFFFFF⟩]⟩,
  ⟨0xD00040, [], .all, 0x0, 0x0, [⟨2, 23, .rw, .any, 0, 0x7FFFFF⟩]⟩,
  ⟨0xD00044, [], .all, 0x0, 0x0, [⟨0, 1, .ro, .any, 0, 0x1⟩, ⟨16, 8, .ro, .any, 0, 0xFF⟩, ⟨31, 1, .ro, .any, 0, 0x1⟩]⟩,
  ⟨0xD00048, [], .all, 0x0, 0x0, [⟨0, 32, .ro, .any, 0, 0xFFFFFFFF⟩]⟩]

/-- The register map of block TWN. -/
def regTableTWN : List RegRow := regTableTWN0

/-! Fields of block TIM (R50, R51, R52, R53). -/
namespace F
def TIM_STATUS_SLEWING : Fld := ⟨0xE00000, 0, 1⟩
def TIM_STATUS_JUMP_PENDING : Fld := ⟨0xE00000, 1, 1⟩
def TIM_STATUS_JUMP_ACCEPTED : Fld := ⟨0xE00000, 2, 1⟩
def TIM_STATUS_RATE_PENDING : Fld := ⟨0xE00000, 3, 1⟩
def TIM_STATUS_TICK_PENDING : Fld := ⟨0xE00000, 4, 1⟩
def TIM_STATUS_JUMP_REFUSED : Fld := ⟨0xE00000, 8, 1⟩
def TIM_STATUS_ADJ_DROPPED : Fld := ⟨0xE00000, 9, 1⟩
def TIM_STATUS_RATE_REFUSED : Fld := ⟨0xE00000, 10, 1⟩
def TIM_STATUS_STEP_DONE : Fld := ⟨0xE00000, 11, 1⟩
def TIM_STATUS_WINDOW_VIOL : Fld := ⟨0xE00000, 12, 1⟩
def TIM_CMD_SNAP : Fld := ⟨0xE00004, 0, 1⟩
def TIM_CMD_ADJ_GO : Fld := ⟨0xE00004, 1, 1⟩
def TIM_CMD_RATE_GO : Fld := ⟨0xE00004, 2, 1⟩
def TIM_CMD_JUMP_ACCEPT : Fld := ⟨0xE00004, 3, 1⟩
def TIM_CMD_JUMP_DISCARD : Fld := ⟨0xE00004, 4, 1⟩
def TIM_SNAP_STATUS_SEQ : Fld := ⟨0xE00010, 0, 16⟩
def TIM_SNAP_STATUS_FINE : Fld := ⟨0xE00010, 16, 5⟩
def TIM_SNAP_STATUS_VALID : Fld := ⟨0xE00010, 31, 1⟩
def TIM_SNAP_RAW_LO_VAL : Fld := ⟨0xE00014, 0, 32⟩
def TIM_SNAP_RAW_HI_VAL : Fld := ⟨0xE00018, 0, 32⟩
def TIM_SNAP_DEV_LO_VAL : Fld := ⟨0xE0001C, 0, 32⟩
def TIM_SNAP_DEV_HI_VAL : Fld := ⟨0xE00020, 0, 32⟩
def TIM_SNAP_TICK_LO_VAL : Fld := ⟨0xE00024, 0, 32⟩
def TIM_SNAP_TICK_HI_VAL : Fld := ⟨0xE00028, 0, 32⟩
def TIM_OFFSET_LO_VAL : Fld := ⟨0xE00040, 0, 32⟩
def TIM_OFFSET_HI_VAL : Fld := ⟨0xE00044, 0, 32⟩
def TIM_RATE_LO_VAL : Fld := ⟨0xE00048, 0, 32⟩
def TIM_RATE_HI_VAL : Fld := ⟨0xE0004C, 0, 8⟩
def TIM_EPOCH_LO_VAL : Fld := ⟨0xE00050, 0, 32⟩
def TIM_EPOCH_HI_VAL : Fld := ⟨0xE00054, 0, 32⟩
def TIM_ADJ_LO_VAL : Fld := ⟨0xE00060, 0, 32⟩
def TIM_ADJ_HI_VAL : Fld := ⟨0xE00064, 0, 32⟩
def TIM_NEWRATE_LO_VAL : Fld := ⟨0xE00068, 0, 32⟩
def TIM_NEWRATE_HI_VAL : Fld := ⟨0xE0006C, 0, 8⟩
def TIM_SLEW_REM_VAL : Fld := ⟨0xE00070, 0, 32⟩
def TIM_JUMP_LIMIT_VAL : Fld := ⟨0xE00074, 0, 20⟩
def TIM_SLEW_PPM_VAL : Fld := ⟨0xE00078, 0, 9⟩
def TIM_JUMP_PEND_LO_VAL : Fld := ⟨0xE00080, 0, 32⟩
def TIM_JUMP_PEND_HI_VAL : Fld := ⟨0xE00084, 0, 32⟩
def TIM_TICK_NS : Fld := ⟨0xE00090, 0, 16⟩
def TIM_TICK_PHASE : Fld := ⟨0xE00090, 16, 16⟩
def TIM_FINE_NS : Fld := ⟨0xE00094, 0, 16⟩
def TIM_ALM_LO_VAL (i : Nat) : Fld := ⟨0xE000A0 + 0x10 * i, 0, 32⟩
def TIM_ALM_HI_VAL (i : Nat) : Fld := ⟨0xE000A4 + 0x10 * i, 0, 32⟩
def TIM_ALM_CTRL_ARM (i : Nat) : Fld := ⟨0xE000A8 + 0x10 * i, 0, 1⟩
def TIM_ALM_CTRL_DISARM (i : Nat) : Fld := ⟨0xE000A8 + 0x10 * i, 1, 1⟩
def TIM_ALM_CTRL_ARMED (i : Nat) : Fld := ⟨0xE000A8 + 0x10 * i, 8, 1⟩
def TIM_ALM_CTRL_FIRED (i : Nat) : Fld := ⟨0xE000A8 + 0x10 * i, 9, 1⟩
def TIM_ALM_CTRL_LATE (i : Nat) : Fld := ⟨0xE000A8 + 0x10 * i, 10, 1⟩
end F

def regTableTIM0 : List RegRow := [
  ⟨0xE00000, [], .all, 0x0, 0x0, [⟨0, 1, .ro, .any, 0, 0x1⟩, ⟨1, 1, .ro, .any, 0, 0x1⟩, ⟨2, 1, .ro, .any, 0, 0x1⟩, ⟨3, 1, .ro, .any, 0, 0x1⟩, ⟨4, 1, .ro, .any, 0, 0x1⟩, ⟨8, 1, .w1c, .any, 0, 0x1⟩, ⟨9, 1, .w1c, .any, 0, 0x1⟩, ⟨10, 1, .w1c, .any, 0, 0x1⟩, ⟨11, 1, .w1c, .any, 0, 0x1⟩, ⟨12, 1, .w1c, .any, 0, 0x1⟩]⟩,
  ⟨0xE00004, [], .all, 0x0, 0x0, [⟨0, 1, .wo, .any, 0, 0x1⟩, ⟨1, 1, .wo, .any, 0, 0x1⟩, ⟨2, 1, .wo, .any, 0, 0x1⟩, ⟨3, 1, .wo, .any, 0, 0x1⟩, ⟨4, 1, .wo, .any, 0, 0x1⟩]⟩,
  ⟨0xE00010, [], .all, 0x0, 0x0, [⟨0, 16, .ro, .any, 0, 0xFFFF⟩, ⟨16, 5, .ro, .any, 0, 0x1F⟩, ⟨31, 1, .ro, .any, 0, 0x1⟩]⟩,
  ⟨0xE00014, [], .all, 0x0, 0x0, [⟨0, 32, .ro, .any, 0, 0xFFFFFFFF⟩]⟩,
  ⟨0xE00018, [], .all, 0x0, 0x0, [⟨0, 32, .ro, .any, 0, 0xFFFFFFFF⟩]⟩,
  ⟨0xE0001C, [], .all, 0x0, 0x0, [⟨0, 32, .ro, .any, 0, 0xFFFFFFFF⟩]⟩,
  ⟨0xE00020, [], .all, 0x0, 0x0, [⟨0, 32, .ro, .any, 0, 0xFFFFFFFF⟩]⟩,
  ⟨0xE00024, [], .all, 0x0, 0x0, [⟨0, 32, .ro, .any, 0, 0xFFFFFFFF⟩]⟩,
  ⟨0xE00028, [], .all, 0x0, 0x0, [⟨0, 32, .ro, .any, 0, 0xFFFFFFFF⟩]⟩,
  ⟨0xE00040, [], .all, 0x0, 0x0, [⟨0, 32, .ro, .any, 0, 0xFFFFFFFF⟩]⟩,
  ⟨0xE00044, [], .all, 0x0, 0x0, [⟨0, 32, .ro, .any, 0, 0xFFFFFFFF⟩]⟩,
  ⟨0xE00048, [], .all, 0x0, 0x0, [⟨0, 32, .ro, .any, 0, 0xFFFFFFFF⟩]⟩,
  ⟨0xE0004C, [], .all, 0x0, 0x0, [⟨0, 8, .ro, .any, 0, 0xFF⟩]⟩,
  ⟨0xE00050, [], .all, 0x0, 0x0, [⟨0, 32, .ro, .any, 0, 0xFFFFFFFF⟩]⟩,
  ⟨0xE00054, [], .all, 0x0, 0x0, [⟨0, 32, .ro, .any, 0, 0xFFFFFFFF⟩]⟩,
  ⟨0xE00060, [], .all, 0x0, 0x0, [⟨0, 32, .rw, .any, 0, 0xFFFFFFFF⟩]⟩,
  ⟨0xE00064, [], .all, 0x0, 0x0, [⟨0, 32, .rw, .any, 0, 0xFFFFFFFF⟩]⟩,
  ⟨0xE00068, [], .all, 0x0, 0x0, [⟨0, 32, .rw, .any, 0, 0xFFFFFFFF⟩]⟩,
  ⟨0xE0006C, [], .all, 0x0, 0x0, [⟨0, 8, .rw, .any, 0, 0xFF⟩]⟩,
  ⟨0xE00070, [], .all, 0x0, 0x0, [⟨0, 32, .ro, .any, 0, 0xFFFFFFFF⟩]⟩]

def regTableTIM1 : List RegRow := [
  ⟨0xE00074, [], .all, 0x3E8, 0xFFFFF, [⟨0, 20, .rw, .any, 0, 1000000⟩]⟩,
  ⟨0xE00078, [], .all, 0x64, 0x1FF, [⟨0, 9, .rw, .any, 1, 500⟩]⟩,
  ⟨0xE00080, [], .all, 0x0, 0x0, [⟨0, 32, .ro, .any, 0, 0xFFFFFFFF⟩]⟩,
  ⟨0xE00084, [], .all, 0x0, 0x0, [⟨0, 32, .ro, .any, 0, 0xFFFFFFFF⟩]⟩,
  ⟨0xE00090, [], .all, 0x2710, 0xFFFFFFFF, [⟨0, 16, .rw, .plate, 0, 0xFFFF⟩, ⟨16, 16, .rw, .plate, 0, 0xFFFF⟩]⟩,
  ⟨0xE00094, [], .all, 0x1F4, 0x0, [⟨0, 16, .ro, .any, 0, 0xFFFF⟩]⟩,
  ⟨0xE000A0, [(0x10, 8)], .all, 0x0, 0x0, [⟨0, 32, .rw, .any, 0, 0xFFFFFFFF⟩]⟩,
  ⟨0xE000A4, [(0x10, 8)], .all, 0x0, 0x0, [⟨0, 32, .rw, .any, 0, 0xFFFFFFFF⟩]⟩,
  ⟨0xE000A8, [(0x10, 8)], .all, 0x0, 0x0, [⟨0, 1, .wo, .any, 0, 0x1⟩, ⟨1, 1, .wo, .any, 0, 0x1⟩, ⟨8, 1, .ro, .any, 0, 0x1⟩, ⟨9, 1, .ro, .any, 0, 0x1⟩, ⟨10, 1, .ro, .any, 0, 0x1⟩]⟩]

/-- The register map of block TIM. -/
def regTableTIM : List RegRow := regTableTIM0 ++ regTableTIM1

/-! Fields of block PTP (R425). -/
namespace F
def PTP_STATUS_ALIGNED : Fld := ⟨0xF00000, 0, 1⟩
def PTP_STATUS_MASTER_CHG : Fld := ⟨0xF00000, 8, 1⟩
def PTP_STATUS_MASTER_LOST : Fld := ⟨0xF00000, 9, 1⟩
def PTP_STATUS_ALIGN_CHG : Fld := ⟨0xF00000, 10, 1⟩
def PTP_STATUS_JUMP_WAIT : Fld := ⟨0xF00000, 11, 1⟩
def PTP_STATUS_WINDOW_VIOL : Fld := ⟨0xF00000, 12, 1⟩
def PTP_CFG_DELAY_MECH : Fld := ⟨0xF00004, 0, 1⟩
def PTP_CFG_SLAVE_ONLY : Fld := ⟨0xF00004, 1, 1⟩
def PTP_CFG_SERVO_EN : Fld := ⟨0xF00004, 2, 1⟩
def PTP_DS_DOMAIN : Fld := ⟨0xF00008, 0, 8⟩
def PTP_DS_PRIORITY1 : Fld := ⟨0xF00008, 8, 8⟩
def PTP_DS_PRIORITY2 : Fld := ⟨0xF00008, 16, 8⟩
def PTP_DS_CLOCK_CLASS : Fld := ⟨0xF00008, 24, 8⟩
def PTP_SERVO_KP : Fld := ⟨0xF0000C, 0, 16⟩
def PTP_SERVO_KI : Fld := ⟨0xF0000C, 16, 16⟩
def PTP_LIMITS_OUTLIER_NS : Fld := ⟨0xF00010, 0, 16⟩
def PTP_LIMITS_ALIGN_NS : Fld := ⟨0xF00010, 16, 8⟩
def PTP_LIMITS_SYNC_TMO : Fld := ⟨0xF00010, 24, 4⟩
def PTP_LIMITS_ANN_TMO : Fld := ⟨0xF00010, 28, 4⟩
def PTP_UTC_OFS : Fld := ⟨0xF00014, 0, 16⟩
def PTP_UTC_PARENT_OFS : Fld := ⟨0xF00014, 16, 16⟩
def PTP_ID_LO_ID : Fld := ⟨0xF00018, 0, 32⟩
def PTP_ID_HI_ID : Fld := ⟨0xF0001C, 0, 32⟩
def PTP_OFS_STATUS_SERVO : Fld := ⟨0xF00020, 0, 3⟩
def PTP_OFS_STATUS_SEQ : Fld := ⟨0xF00020, 8, 8⟩
def PTP_OFS_STATUS_VALID : Fld := ⟨0xF00020, 31, 1⟩
def PTP_OFS_LO_THETA : Fld := ⟨0xF00024, 0, 32⟩
def PTP_OFS_HI_THETA : Fld := ⟨0xF00028, 0, 32⟩
def PTP_MPD_DELAY : Fld := ⟨0xF0002C, 0, 32⟩
def PTP_PARENT_LO_ID : Fld := ⟨0xF00030, 0, 32⟩
def PTP_PARENT_HI_ID : Fld := ⟨0xF00034, 0, 32⟩
def PTP_PARENT_PORT_PORT_NUM : Fld := ⟨0xF00038, 0, 16⟩
def PTP_PARENT_PORT_OUR_PORT : Fld := ⟨0xF00038, 16, 1⟩
def PTP_OUTLIERS_COUNT : Fld := ⟨0xF0003C, 0, 32⟩
def PTP_P_CFG_EN (i : Nat) : Fld := ⟨0xF01000 + 0x100 * i, 0, 1⟩
def PTP_P_CFG_TRANSPORT (i : Nat) : Fld := ⟨0xF01000 + 0x100 * i, 1, 2⟩
def PTP_P_CFG_ONE_STEP (i : Nat) : Fld := ⟨0xF01000 + 0x100 * i, 3, 1⟩
def PTP_P_CFG_VLAN_EN (i : Nat) : Fld := ⟨0xF01000 + 0x100 * i, 4, 1⟩
def PTP_P_CFG_VID (i : Nat) : Fld := ⟨0xF01000 + 0x100 * i, 5, 12⟩
def PTP_P_CFG_PCP (i : Nat) : Fld := ⟨0xF01000 + 0x100 * i, 17, 3⟩
def PTP_P_CFG_LOG_SYNC (i : Nat) : Fld := ⟨0xF01000 + 0x100 * i, 20, 4⟩
def PTP_P_CFG_LOG_ANN (i : Nat) : Fld := ⟨0xF01000 + 0x100 * i, 24, 4⟩
def PTP_P_CFG_LOG_DREQ (i : Nat) : Fld := ⟨0xF01000 + 0x100 * i, 28, 4⟩
def PTP_P_STATUS_STATE (i : Nat) : Fld := ⟨0xF01004 + 0x100 * i, 0, 4⟩
def PTP_P_STATUS_LINK (i : Nat) : Fld := ⟨0xF01004 + 0x100 * i, 4, 1⟩
def PTP_P_STATUS_LINK_LOST (i : Nat) : Fld := ⟨0xF01004 + 0x100 * i, 8, 1⟩
def PTP_P_STATUS_WINDOW_VIOL (i : Nat) : Fld := ⟨0xF01004 + 0x100 * i, 9, 1⟩
def PTP_P_MAC_LO_MAC (i : Nat) : Fld := ⟨0xF01008 + 0x100 * i, 0, 32⟩
def PTP_P_MAC_HI_MAC (i : Nat) : Fld := ⟨0xF0100C + 0x100 * i, 0, 16⟩
def PTP_P_IPV4_ADDR (i : Nat) : Fld := ⟨0xF01010 + 0x100 * i, 0, 32⟩
def PTP_P_LAT_INGRESS (i : Nat) : Fld := ⟨0xF01014 + 0x100 * i, 0, 16⟩
def PTP_P_LAT_EGRESS (i : Nat) : Fld := ⟨0xF01014 + 0x100 * i, 16, 16⟩
def PTP_P_ASYM_ASYM (i : Nat) : Fld := ⟨0xF01018 + 0x100 * i, 0, 32⟩
def PTP_P_TX_COUNT (i : Nat) : Fld := ⟨0xF0101C + 0x100 * i, 0, 32⟩
def PTP_P_RX_COUNT (i : Nat) : Fld := ⟨0xF01020 + 0x100 * i, 0, 32⟩
def PTP_P_DROP_COUNT (i : Nat) : Fld := ⟨0xF01024 + 0x100 * i, 0, 32⟩
end F

def regTablePTP0 : List RegRow := [
  ⟨0xF00000, [], .all, 0x0, 0x0, [⟨0, 1, .ro, .any, 0, 0x1⟩, ⟨8, 1, .w1c, .any, 0, 0x1⟩, ⟨9, 1, .w1c, .any, 0, 0x1⟩, ⟨10, 1, .w1c, .any, 0, 0x1⟩, ⟨11, 1, .w1c, .any, 0, 0x1⟩, ⟨12, 1, .w1c, .any, 0, 0x1⟩]⟩,
  ⟨0xF00004, [], .all, 0x6, 0x7, [⟨0, 1, .rw, .idle, 0, 0x1⟩, ⟨1, 1, .rw, .idle, 0, 0x1⟩, ⟨2, 1, .rw, .any, 0, 0x1⟩]⟩,
  ⟨0xF00008, [], .all, 0xFF808000, 0xFFFFFFFF, [⟨0, 8, .rw, .idle, 0, 127⟩, ⟨8, 8, .rw, .idle, 0, 0xFF⟩, ⟨16, 8, .rw, .idle, 0, 0xFF⟩, ⟨24, 8, .rw, .idle, 0, 0xFF⟩]⟩,
  ⟨0xF0000C, [], .all, 0x8000080, 0xFFFFFFFF, [⟨0, 16, .rw, .any, 0, 256⟩, ⟨16, 16, .rw, .any, 0, 0xFFFF⟩]⟩,
  ⟨0xF00010, [], .all, 0x343203E8, 0xFFFFFFFF, [⟨0, 16, .rw, .any, 1, 65535⟩, ⟨16, 8, .rw, .any, 1, 255⟩, ⟨24, 4, .rw, .any, 2, 15⟩, ⟨28, 4, .rw, .idle, 2, 10⟩]⟩,
  ⟨0xF00014, [], .all, 0x25, 0xFFFF, [⟨0, 16, .rw, .any, 0, 0xFFFF⟩, ⟨16, 16, .ro, .any, 0, 0xFFFF⟩]⟩,
  ⟨0xF00018, [], .all, 0x0, 0xFFFFFFFF, [⟨0, 32, .rw, .idle, 0, 0xFFFFFFFF⟩]⟩,
  ⟨0xF0001C, [], .all, 0x0, 0xFFFFFFFF, [⟨0, 32, .rw, .idle, 0, 0xFFFFFFFF⟩]⟩,
  ⟨0xF00020, [], .all, 0x0, 0x0, [⟨0, 3, .ro, .any, 0, 0x7⟩, ⟨8, 8, .ro, .any, 0, 0xFF⟩, ⟨31, 1, .ro, .any, 0, 0x1⟩]⟩,
  ⟨0xF00024, [], .all, 0x0, 0x0, [⟨0, 32, .ro, .any, 0, 0xFFFFFFFF⟩]⟩,
  ⟨0xF00028, [], .all, 0x0, 0x0, [⟨0, 32, .ro, .any, 0, 0xFFFFFFFF⟩]⟩,
  ⟨0xF0002C, [], .all, 0x0, 0x0, [⟨0, 32, .ro, .any, 0, 0xFFFFFFFF⟩]⟩,
  ⟨0xF00030, [], .all, 0x0, 0x0, [⟨0, 32, .ro, .any, 0, 0xFFFFFFFF⟩]⟩,
  ⟨0xF00034, [], .all, 0x0, 0x0, [⟨0, 32, .ro, .any, 0, 0xFFFFFFFF⟩]⟩,
  ⟨0xF00038, [], .all, 0x0, 0x0, [⟨0, 16, .ro, .any, 0, 0xFFFF⟩, ⟨16, 1, .ro, .any, 0, 0x1⟩]⟩,
  ⟨0xF0003C, [], .all, 0x0, 0x0, [⟨0, 32, .ro, .any, 0, 0xFFFFFFFF⟩]⟩,
  ⟨0xF01000, [(0x100, 2)], .all, 0xC1C00008, 0xFFFFFFFF, [⟨0, 1, .rw, .any, 0, 0x1⟩, ⟨1, 2, .rw, .idle, 0, 2⟩, ⟨3, 1, .rw, .idle, 0, 0x1⟩, ⟨4, 1, .rw, .idle, 0, 0x1⟩, ⟨5, 12, .rw, .idle, 0, 0xFFF⟩, ⟨17, 3, .rw, .idle, 0, 0x7⟩, ⟨20, 4, .rw, .idle, 0, 0xF⟩, ⟨24, 4, .rw, .idle, 0, 0xF⟩, ⟨28, 4, .rw, .idle, 0, 0xF⟩]⟩,
  ⟨0xF01004, [(0x100, 2)], .all, 0x3, 0x0, [⟨0, 4, .ro, .any, 0, 0xF⟩, ⟨4, 1, .ro, .any, 0, 0x1⟩, ⟨8, 1, .w1c, .any, 0, 0x1⟩, ⟨9, 1, .w1c, .any, 0, 0x1⟩]⟩,
  ⟨0xF01008, [(0x100, 2)], .all, 0x0, 0xFFFFFFFF, [⟨0, 32, .rw, .idle, 0, 0xFFFFFFFF⟩]⟩,
  ⟨0xF0100C, [(0x100, 2)], .all, 0x0, 0xFFFF, [⟨0, 16, .rw, .idle, 0, 0xFFFF⟩]⟩]

def regTablePTP1 : List RegRow := [
  ⟨0xF01010, [(0x100, 2)], .all, 0x0, 0xFFFFFFFF, [⟨0, 32, .rw, .idle, 0, 0xFFFFFFFF⟩]⟩,
  ⟨0xF01014, [(0x100, 2)], .all, 0x0, 0xFFFFFFFF, [⟨0, 16, .rw, .idle, 0, 0xFFFF⟩, ⟨16, 16, .rw, .idle, 0, 0xFFFF⟩]⟩,
  ⟨0xF01018, [(0x100, 2)], .all, 0x0, 0xFFFFFFFF, [⟨0, 32, .rw, .idle, 0, 0xFFFFFFFF⟩]⟩,
  ⟨0xF0101C, [(0x100, 2)], .all, 0x0, 0x0, [⟨0, 32, .ro, .any, 0, 0xFFFFFFFF⟩]⟩,
  ⟨0xF01020, [(0x100, 2)], .all, 0x0, 0x0, [⟨0, 32, .ro, .any, 0, 0xFFFFFFFF⟩]⟩,
  ⟨0xF01024, [(0x100, 2)], .all, 0x0, 0x0, [⟨0, 32, .ro, .any, 0, 0xFFFFFFFF⟩]⟩]

/-- The register map of block PTP. -/
def regTablePTP : List RegRow := regTablePTP0 ++ regTablePTP1

/-! Fields of block SEC (R457). -/
namespace F
def SEC_STATUS_LIFECYCLE : Fld := ⟨0x1000000, 0, 3⟩
def SEC_STATUS_DEBUG : Fld := ⟨0x1000000, 3, 2⟩
def SEC_STATUS_LVL_SIGNER : Fld := ⟨0x1000000, 5, 1⟩
def SEC_STATUS_GUARD : Fld := ⟨0x1000000, 6, 1⟩
def SEC_STATUS_CLEARING : Fld := ⟨0x1000000, 7, 1⟩
def SEC_STATUS_RECIPE : Fld := ⟨0x1000000, 8, 1⟩
def SEC_STATUS_RECIPE_REQ : Fld := ⟨0x1000000, 9, 1⟩
def SEC_STATUS_OEM_FUSED : Fld := ⟨0x1000000, 10, 1⟩
def SEC_STATUS_DENIED : Fld := ⟨0x1000000, 16, 1⟩
def SEC_STATUS_RECIPE_VIOL : Fld := ⟨0x1000000, 17, 1⟩
def SEC_STATUS_STMT_REFUSED : Fld := ⟨0x1000000, 18, 1⟩
def SEC_STATUS_LEVEL_CHG : Fld := ⟨0x1000000, 19, 1⟩
def SEC_STATUS_ZEROISED : Fld := ⟨0x1000000, 20, 1⟩
def SEC_STATUS_MONO_LOW : Fld := ⟨0x1000000, 21, 1⟩
def SEC_STATUS_WINDOW_VIOL : Fld := ⟨0x1000000, 22, 1⟩
def SEC_ID_LO_DEVICE_ID : Fld := ⟨0x1000008, 0, 32⟩
def SEC_ID_HI_DEVICE_ID : Fld := ⟨0x100000C, 0, 32⟩
def SEC_MONO_COUNT : Fld := ⟨0x1000010, 0, 32⟩
def SEC_NONCE_LO_NONCE : Fld := ⟨0x1000014, 0, 32⟩
def SEC_NONCE_HI_NONCE : Fld := ⟨0x1000018, 0, 32⟩
def SEC_RECIPE_ID_ID : Fld := ⟨0x100001C, 0, 32⟩
def SEC_RECIPE_LAST_OFFSET : Fld := ⟨0x1000020, 0, 26⟩
def SEC_DENIED_COUNT : Fld := ⟨0x1000024, 0, 32⟩
def SEC_KEY_ID_LO_JOB_ID (i : Nat) : Fld := ⟨0x1000100 + 0x10 * i, 0, 32⟩
def SEC_KEY_ID_HI_JOB_ID (i : Nat) : Fld := ⟨0x1000104 + 0x10 * i, 0, 32⟩
def SEC_KEY_STATE_PRESENT (i : Nat) : Fld := ⟨0x1000108 + 0x10 * i, 0, 1⟩
def SEC_KEY_STATE_HOST_LOCK (i : Nat) : Fld := ⟨0x1000108 + 0x10 * i, 1, 1⟩
def SEC_KEY_STATE_OBS_LOCK (i : Nat) : Fld := ⟨0x1000108 + 0x10 * i, 2, 1⟩
def SEC_KEY_STATE_TELEM (i : Nat) : Fld := ⟨0x1000108 + 0x10 * i, 3, 1⟩
end F

def regTableSEC0 : List RegRow := [
  ⟨0x1000000, [], .all, 0x1, 0x0, [⟨0, 3, .ro, .any, 0, 0x7⟩, ⟨3, 2, .ro, .any, 0, 0x3⟩, ⟨5, 1, .ro, .any, 0, 0x1⟩, ⟨6, 1, .ro, .any, 0, 0x1⟩, ⟨7, 1, .ro, .any, 0, 0x1⟩, ⟨8, 1, .ro, .any, 0, 0x1⟩, ⟨9, 1, .ro, .any, 0, 0x1⟩, ⟨10, 1, .ro, .any, 0, 0x1⟩, ⟨16, 1, .w1c, .any, 0, 0x1⟩, ⟨17, 1, .w1c, .any, 0, 0x1⟩, ⟨18, 1, .w1c, .any, 0, 0x1⟩, ⟨19, 1, .w1c, .any, 0, 0x1⟩, ⟨20, 1, .w1c, .any, 0, 0x1⟩, ⟨21, 1, .w1c, .any, 0, 0x1⟩, ⟨22, 1, .w1c, .any, 0, 0x1⟩]⟩,
  ⟨0x1000008, [], .all, 0x0, 0x0, [⟨0, 32, .ro, .any, 0, 0xFFFFFFFF⟩]⟩,
  ⟨0x100000C, [], .all, 0x0, 0x0, [⟨0, 32, .ro, .any, 0, 0xFFFFFFFF⟩]⟩,
  ⟨0x1000010, [], .all, 0x0, 0x0, [⟨0, 32, .ro, .any, 0, 0xFFFFFFFF⟩]⟩,
  ⟨0x1000014, [], .all, 0x0, 0x0, [⟨0, 32, .ro, .any, 0, 0xFFFFFFFF⟩]⟩,
  ⟨0x1000018, [], .all, 0x0, 0x0, [⟨0, 32, .ro, .any, 0, 0xFFFFFFFF⟩]⟩,
  ⟨0x100001C, [], .all, 0x0, 0x0, [⟨0, 32, .ro, .any, 0, 0xFFFFFFFF⟩]⟩,
  ⟨0x1000020, [], .all, 0x0, 0x0, [⟨0, 26, .ro, .any, 0, 0x3FFFFFF⟩]⟩,
  ⟨0x1000024, [], .all, 0x0, 0x0, [⟨0, 32, .ro, .any, 0, 0xFFFFFFFF⟩]⟩,
  ⟨0x1000100, [(0x10, 16)], .all, 0x0, 0x0, [⟨0, 32, .ro, .any, 0, 0xFFFFFFFF⟩]⟩,
  ⟨0x1000104, [(0x10, 16)], .all, 0x0, 0x0, [⟨0, 32, .ro, .any, 0, 0xFFFFFFFF⟩]⟩,
  ⟨0x1000108, [(0x10, 16)], .all, 0x0, 0x0, [⟨0, 1, .ro, .any, 0, 0x1⟩, ⟨1, 1, .ro, .any, 0, 0x1⟩, ⟨2, 1, .ro, .any, 0, 0x1⟩, ⟨3, 1, .ro, .any, 0, 0x1⟩]⟩]

/-- The register map of block SEC. -/
def regTableSEC : List RegRow := regTableSEC0

/-! Fields of block THM (R474). -/
namespace F
def THM_STATUS_THROTTLE : Fld := ⟨0x1100000, 0, 1⟩
def THM_STATUS_CAUSE_TEMP : Fld := ⟨0x1100000, 1, 1⟩
def THM_STATUS_CAUSE_RISE : Fld := ⟨0x1100000, 2, 1⟩
def THM_STATUS_CAUSE_HEAD : Fld := ⟨0x1100000, 3, 1⟩
def THM_STATUS_ABOVE_HARD : Fld := ⟨0x1100000, 4, 1⟩
def THM_STATUS_THR_SEEN : Fld := ⟨0x1100000, 8, 1⟩
def THM_STATUS_HARD_SEEN : Fld := ⟨0x1100000, 9, 1⟩
def THM_STATUS_RISE_SEEN : Fld := ⟨0x1100000, 10, 1⟩
def THM_STATUS_BROKEN : Fld := ⟨0x1100000, 11, 1⟩
def THM_STATUS_WAVE_ERR : Fld := ⟨0x1100000, 12, 1⟩
def THM_STATUS_WINDOW_VIOL : Fld := ⟨0x1100000, 13, 1⟩
def THM_LIMIT_THROTTLE : Fld := ⟨0x1100008, 0, 16⟩
def THM_LIMIT_HARD : Fld := ⟨0x1100008, 16, 16⟩
def THM_RISE_RATE : Fld := ⟨0x110000C, 0, 16⟩
def THM_THR_DUTY : Fld := ⟨0x1100010, 0, 8⟩
def THM_THETA_TEMP : Fld := ⟨0x1100014, 0, 16⟩
def THM_THETA_SENSOR : Fld := ⟨0x1100014, 16, 8⟩
def THM_BANDS_BAND_A : Fld := ⟨0x1100018, 0, 3⟩
def THM_BANDS_BAND_B : Fld := ⟨0x1100018, 3, 3⟩
def THM_BANDS_BAND_HLD : Fld := ⟨0x1100018, 6, 3⟩
def THM_MOD_BANDS_BAND0 : Fld := ⟨0x110001C, 0, 2⟩
def THM_MOD_BANDS_BAND1 : Fld := ⟨0x110001C, 2, 2⟩
def THM_MOD_BANDS_BAND2 : Fld := ⟨0x110001C, 4, 2⟩
def THM_MOD_BANDS_BAND3 : Fld := ⟨0x110001C, 6, 2⟩
def THM_MOD_BANDS_BAND4 : Fld := ⟨0x110001C, 8, 2⟩
def THM_MOD_BANDS_BAND5 : Fld := ⟨0x110001C, 10, 2⟩
def THM_MOD_BANDS_BAND6 : Fld := ⟨0x110001C, 12, 2⟩
def THM_MOD_BANDS_BAND7 : Fld := ⟨0x110001C, 14, 2⟩
def THM_MOD_BANDS_BAND8 : Fld := ⟨0x110001C, 16, 2⟩
def THM_MOD_BANDS_BAND9 : Fld := ⟨0x110001C, 18, 2⟩
def THM_MOD_BANDS_BAND10 : Fld := ⟨0x110001C, 20, 2⟩
def THM_MOD_BANDS_BAND11 : Fld := ⟨0x110001C, 22, 2⟩
def THM_MOD_BANDS_BAND12 : Fld := ⟨0x110001C, 24, 2⟩
def THM_MOD_BANDS_BAND13 : Fld := ⟨0x110001C, 26, 2⟩
def THM_MOD_BANDS_BAND14 : Fld := ⟨0x110001C, 28, 2⟩
def THM_MOD_BANDS_BAND15 : Fld := ⟨0x110001C, 30, 2⟩
def THM_WAVE_E12_E1 : Fld := ⟨0x1100020, 0, 16⟩
def THM_WAVE_E12_E2 : Fld := ⟨0x1100020, 16, 16⟩
def THM_WAVE_E3_E3 : Fld := ⟨0x1100024, 0, 16⟩
def THM_WAVE_MAP_TABLE0 : Fld := ⟨0x1100028, 0, 8⟩
def THM_WAVE_MAP_TABLE1 : Fld := ⟨0x1100028, 8, 8⟩
def THM_WAVE_MAP_TABLE2 : Fld := ⟨0x1100028, 16, 8⟩
def THM_WAVE_MAP_TABLE3 : Fld := ⟨0x1100028, 24, 8⟩
def THM_PWR_STATE_STATE : Fld := ⟨0x1100030, 0, 3⟩
def THM_PWR_STATE_WAKING : Fld := ⟨0x1100030, 3, 1⟩
def THM_PWR_STATE_REASON : Fld := ⟨0x1100030, 8, 4⟩
def THM_PWR_CMD_NAP : Fld := ⟨0x1100034, 0, 1⟩
def THM_PWR_CMD_DEEP : Fld := ⟨0x1100034, 1, 1⟩
def THM_PWR_CMD_WAKE : Fld := ⟨0x1100034, 2, 1⟩
def THM_PWR_STALE_GROUP : Fld := ⟨0x1100038, 0, 8⟩
def THM_SNS_CFG_EN (i : Nat) : Fld := ⟨0x1101000 + 0x4 * i, 0, 1⟩
def THM_SNS_VAL_TEMP (i : Nat) : Fld := ⟨0x1102000 + 0x4 * i, 0, 16⟩
def THM_SNS_VAL_BROKEN (i : Nat) : Fld := ⟨0x1102000 + 0x4 * i, 16, 1⟩
def THM_SNS_VAL_FAST (i : Nat) : Fld := ⟨0x1102000 + 0x4 * i, 17, 1⟩
def THM_SNS_VAL_VALID (i : Nat) : Fld := ⟨0x1102000 + 0x4 * i, 31, 1⟩
end F

def regTableTHM0 : List RegRow := [
  ⟨0x1100000, [], .all, 0x0, 0x0, [⟨0, 1, .ro, .any, 0, 0x1⟩, ⟨1, 1, .ro, .any, 0, 0x1⟩, ⟨2, 1, .ro, .any, 0, 0x1⟩, ⟨3, 1, .ro, .any, 0, 0x1⟩, ⟨4, 1, .ro, .any, 0, 0x1⟩, ⟨8, 1, .w1c, .any, 0, 0x1⟩, ⟨9, 1, .w1c, .any, 0, 0x1⟩, ⟨10, 1, .w1c, .any, 0, 0x1⟩, ⟨11, 1, .w1c, .any, 0, 0x1⟩, ⟨12, 1, .w1c, .any, 0, 0x1⟩, ⟨13, 1, .w1c, .any, 0, 0x1⟩]⟩,
  ⟨0x1100008, [], .all, 0x6900640, 0xFFFFFFFF, [⟨0, 16, .rw, .any, 640, 1664⟩, ⟨16, 16, .rw, .any, 0, 1760⟩]⟩,
  ⟨0x110000C, [], .all, 0x20, 0xFFFF, [⟨0, 16, .rw, .any, 1, 4096⟩]⟩,
  ⟨0x1100010, [], .all, 0x80, 0xFF, [⟨0, 8, .rw, .any, 16, 255⟩]⟩,
  ⟨0x1100014, [], .all, 0x0, 0x0, [⟨0, 16, .ro, .any, 0, 0xFFFF⟩, ⟨16, 8, .ro, .any, 0, 0xFF⟩]⟩,
  ⟨0x1100018, [], .all, 0x49, 0x0, [⟨0, 3, .ro, .any, 0, 0x7⟩, ⟨3, 3, .ro, .any, 0, 0x7⟩, ⟨6, 3, .ro, .any, 0, 0x7⟩]⟩,
  ⟨0x110001C, [], .all, 0x0, 0x0, [⟨0, 2, .ro, .any, 0, 0x3⟩, ⟨2, 2, .ro, .any, 0, 0x3⟩, ⟨4, 2, .ro, .any, 0, 0x3⟩, ⟨6, 2, .ro, .any, 0, 0x3⟩, ⟨8, 2, .ro, .any, 0, 0x3⟩, ⟨10, 2, .ro, .any, 0, 0x3⟩, ⟨12, 2, .ro, .any, 0, 0x3⟩, ⟨14, 2, .ro, .any, 0, 0x3⟩, ⟨16, 2, .ro, .any, 0, 0x3⟩, ⟨18, 2, .ro, .any, 0, 0x3⟩, ⟨20, 2, .ro, .any, 0, 0x3⟩, ⟨22, 2, .ro, .any, 0, 0x3⟩, ⟨24, 2, .ro, .any, 0, 0x3⟩, ⟨26, 2, .ro, .any, 0, 0x3⟩, ⟨28, 2, .ro, .any, 0, 0x3⟩, ⟨30, 2, .ro, .any, 0, 0x3⟩]⟩,
  ⟨0x1100020, [], .all, 0x2300190, 0xFFFFFFFF, [⟨0, 16, .rw, .plate, 0, 0xFFFF⟩, ⟨16, 16, .rw, .plate, 0, 0xFFFF⟩]⟩,
  ⟨0x1100024, [], .all, 0x2D0, 0xFFFF, [⟨0, 16, .rw, .plate, 0, 0xFFFF⟩]⟩,
  ⟨0x1100028, [], .all, 0x3020100, 0xFFFFFFFF, [⟨0, 8, .rw, .plate, 0, 0xFF⟩, ⟨8, 8, .rw, .plate, 0, 0xFF⟩, ⟨16, 8, .rw, .plate, 0, 0xFF⟩, ⟨24, 8, .rw, .plate, 0, 0xFF⟩]⟩,
  ⟨0x1100030, [], .all, 0x0, 0x0, [⟨0, 3, .ro, .any, 0, 0x7⟩, ⟨3, 1, .ro, .any, 0, 0x1⟩, ⟨8, 4, .ro, .any, 0, 0xF⟩]⟩,
  ⟨0x1100034, [], .all, 0x0, 0x0, [⟨0, 1, .wo, .any, 0, 0x1⟩, ⟨1, 1, .wo, .any, 0, 0x1⟩, ⟨2, 1, .wo, .any, 0, 0x1⟩]⟩,
  ⟨0x1100038, [], .all, 0x0, 0x0, [⟨0, 8, .ro, .any, 0, 0xFF⟩]⟩,
  ⟨0x1101000, [(0x4, 144)], .all, 0x1, 0x1, [⟨0, 1, .rw, .any, 0, 0x1⟩]⟩,
  ⟨0x1102000, [(0x4, 144)], .all, 0x0, 0x0, [⟨0, 16, .ro, .any, 0, 0xFFFF⟩, ⟨16, 1, .ro, .any, 0, 0x1⟩, ⟨17, 1, .ro, .any, 0, 0x1⟩, ⟨31, 1, .ro, .any, 0, 0x1⟩]⟩]

/-- The register map of block THM. -/
def regTableTHM : List RegRow := regTableTHM0

/-! Fields of block EVT (R488). -/
namespace F
def EVT_STATUS_WINDOW_VIOL : Fld := ⟨0x1200000, 8, 1⟩
def EVT_STATUS_NO_RING : Fld := ⟨0x1200000, 9, 1⟩
def EVT_POSTED_COUNT : Fld := ⟨0x1200004, 0, 32⟩
def EVT_UNRINGED_COUNT : Fld := ⟨0x1200008, 0, 32⟩
def EVT_LOCAL_SRAM_CORR : Fld := ⟨0x1200010, 8, 1⟩
def EVT_LOCAL_DRAM_CORR : Fld := ⟨0x1200010, 9, 1⟩
def EVT_LOCAL_INJECTED : Fld := ⟨0x1200010, 10, 1⟩
def EVT_LOCAL_SRAM_COUNT : Fld := ⟨0x1200014, 0, 32⟩
def EVT_LOCAL_DRAM_COUNT : Fld := ⟨0x1200018, 0, 32⟩
def EVT_ROUTE_RING (i : Nat) : Fld := ⟨0x1210000 + 0x8 * i, 0, 1⟩
def EVT_ROUTE_FUNC (i : Nat) : Fld := ⟨0x1210000 + 0x8 * i, 1, 1⟩
def EVT_ROUTE_DIRECT (i : Nat) : Fld := ⟨0x1210000 + 0x8 * i, 2, 2⟩
def EVT_ROUTE_ARMED (i : Nat) : Fld := ⟨0x1210000 + 0x8 * i, 4, 1⟩
def EVT_ROUTE_ARM (i : Nat) : Fld := ⟨0x1210000 + 0x8 * i, 5, 1⟩
def EVT_ROUTE_VECTOR (i : Nat) : Fld := ⟨0x1210000 + 0x8 * i, 8, 7⟩
def EVT_MASK_CODES (i : Nat) : Fld := ⟨0x1210004 + 0x8 * i, 0, 32⟩
end F

def regTableEVT0 : List RegRow := [
  ⟨0x1200000, [], .all, 0x0, 0x0, [⟨8, 1, .w1c, .any, 0, 0x1⟩, ⟨9, 1, .w1c, .any, 0, 0x1⟩]⟩,
  ⟨0x1200004, [], .all, 0x0, 0x0, [⟨0, 32, .ro, .any, 0, 0xFFFFFFFF⟩]⟩,
  ⟨0x1200008, [], .all, 0x0, 0x0, [⟨0, 32, .ro, .any, 0, 0xFFFFFFFF⟩]⟩,
  ⟨0x1200010, [], .all, 0x0, 0x0, [⟨8, 1, .w1c, .any, 0, 0x1⟩, ⟨9, 1, .w1c, .any, 0, 0x1⟩, ⟨10, 1, .w1c, .any, 0, 0x1⟩]⟩,
  ⟨0x1200014, [], .all, 0x0, 0x0, [⟨0, 32, .ro, .any, 0, 0xFFFFFFFF⟩]⟩,
  ⟨0x1200018, [], .all, 0x0, 0x0, [⟨0, 32, .ro, .any, 0, 0xFFFFFFFF⟩]⟩,
  ⟨0x1210000, [(0x8, 1088)], .all, 0x11, 0x7F0F, [⟨0, 1, .rw, .any, 0, 0x1⟩, ⟨1, 1, .rw, .any, 0, 0x1⟩, ⟨2, 2, .rw, .any, 0, 2⟩, ⟨4, 1, .ro, .any, 0, 0x1⟩, ⟨5, 1, .w1s, .any, 0, 0x1⟩, ⟨8, 7, .rw, .any, 0, 0x7F⟩]⟩,
  ⟨0x1210004, [(0x8, 1088)], .all, 0xFFFFFFFF, 0xFFFFFFFF, [⟨0, 32, .rw, .any, 0, 0xFFFFFFFF⟩]⟩]

/-- The register map of block EVT. -/
def regTableEVT : List RegRow := regTableEVT0

/-! Fields of block CFG (R509). -/
namespace F
def CFG_STATUS_PHASE : Fld := ⟨0x1300000, 0, 2⟩
def CFG_STATUS_SOURCE : Fld := ⟨0x1300000, 2, 2⟩
def CFG_STATUS_FW_SLOT : Fld := ⟨0x1300000, 4, 1⟩
def CFG_STATUS_CFG_DEFAULTED : Fld := ⟨0x1300000, 8, 1⟩
def CFG_STATUS_COPY_BAD : Fld := ⟨0x1300000, 9, 1⟩
def CFG_STATUS_FW_FALLBACK : Fld := ⟨0x1300000, 10, 1⟩
def CFG_STATUS_FACTORY_BAD : Fld := ⟨0x1300000, 11, 1⟩
def CFG_STATUS_FLASH_ERR : Fld := ⟨0x1300000, 12, 1⟩
def CFG_STATUS_WINDOW_VIOL : Fld := ⟨0x1300000, 13, 1⟩
def CFG_CMD_PROCEED : Fld := ⟨0x1300004, 0, 1⟩
def CFG_CMD_WARM : Fld := ⟨0x1300004, 1, 1⟩
def CFG_CAP0_CHANNELS : Fld := ⟨0x1300008, 0, 5⟩
def CFG_CAP0_AXES : Fld := ⟨0x1300008, 8, 5⟩
def CFG_CAP0_FOC : Fld := ⟨0x1300008, 16, 5⟩
def CFG_CAP0_STP : Fld := ⟨0x1300008, 24, 4⟩
def CFG_CAP1_STEPPING : Fld := ⟨0x130000C, 0, 8⟩
def CFG_CAP1_DRAM_GIB : Fld := ⟨0x130000C, 8, 5⟩
def CFG_CAP1_DRAM_MISMATCH : Fld := ⟨0x130000C, 13, 1⟩
def CFG_CAP1_PART : Fld := ⟨0x130000C, 14, 1⟩
def CFG_GEN_GEN : Fld := ⟨0x1300010, 0, 32⟩
def CFG_CRC_CHECK : Fld := ⟨0x1300014, 0, 32⟩
def CFG_FW_VERSION : Fld := ⟨0x1300018, 0, 16⟩
def CFG_FW_MIN : Fld := ⟨0x1300018, 16, 16⟩
def CFG_BOOT_MS_MS : Fld := ⟨0x130001C, 0, 16⟩
end F

def regTableCFG0 : List RegRow := [
  ⟨0x1300000, [], .all, 0x0, 0x0, [⟨0, 2, .ro, .any, 0, 0x3⟩, ⟨2, 2, .ro, .any, 0, 0x3⟩, ⟨4, 1, .ro, .any, 0, 0x1⟩, ⟨8, 1, .w1c, .any, 0, 0x1⟩, ⟨9, 1, .w1c, .any, 0, 0x1⟩, ⟨10, 1, .w1c, .any, 0, 0x1⟩, ⟨11, 1, .w1c, .any, 0, 0x1⟩, ⟨12, 1, .w1c, .any, 0, 0x1⟩, ⟨13, 1, .w1c, .any, 0, 0x1⟩]⟩,
  ⟨0x1300004, [], .all, 0x0, 0x0, [⟨0, 1, .wo, .any, 0, 0x1⟩, ⟨1, 1, .wo, .any, 0, 0x1⟩]⟩,
  ⟨0x1300008, [], .all, 0x8101810, 0x0, [⟨0, 5, .ro, .any, 0, 0x1F⟩, ⟨8, 5, .ro, .any, 0, 0x1F⟩, ⟨16, 5, .ro, .any, 0, 0x1F⟩, ⟨24, 4, .ro, .any, 0, 0xF⟩]⟩,
  ⟨0x130000C, [], .all, 0xB0, 0x0, [⟨0, 8, .ro, .any, 0, 0xFF⟩, ⟨8, 5, .ro, .any, 0, 0x1F⟩, ⟨13, 1, .ro, .any, 0, 0x1⟩, ⟨14, 1, .ro, .any, 0, 0x1⟩]⟩,
  ⟨0x1300010, [], .all, 0x0, 0x0, [⟨0, 32, .ro, .any, 0, 0xFFFFFFFF⟩]⟩,
  ⟨0x1300014, [], .all, 0x0, 0x0, [⟨0, 32, .ro, .any, 0, 0xFFFFFFFF⟩]⟩,
  ⟨0x1300018, [], .all, 0x0, 0x0, [⟨0, 16, .ro, .any, 0, 0xFFFF⟩, ⟨16, 16, .ro, .any, 0, 0xFFFF⟩]⟩,
  ⟨0x130001C, [], .all, 0x0, 0x0, [⟨0, 16, .ro, .any, 0, 0xFFFF⟩]⟩]

/-- The register map of block CFG. -/
def regTableCFG : List RegRow := regTableCFG0

/-! Fields of block HLD (R410, R493, R496). -/
namespace F
def HLD_TWN_STATUS_ACTIVE : Fld := ⟨0x3F00000, 0, 1⟩
def HLD_TWN_STATUS_GRANTED : Fld := ⟨0x3F00000, 1, 1⟩
def HLD_TWN_STATUS_SAFE : Fld := ⟨0x3F00000, 2, 1⟩
def HLD_TWN_STATUS_HEALTH_A : Fld := ⟨0x3F00000, 3, 2⟩
def HLD_TWN_STATUS_HEALTH_B : Fld := ⟨0x3F00000, 5, 2⟩
def HLD_TWN_STATUS_COMPARE_LOST : Fld := ⟨0x3F00000, 7, 1⟩
def HLD_TWN_STATUS_REVIVE_REASON : Fld := ⟨0x3F00000, 8, 2⟩
def HLD_TWN_STATUS_FAILOVER : Fld := ⟨0x3F00000, 16, 1⟩
def HLD_TWN_STATUS_PATH1_A : Fld := ⟨0x3F00000, 17, 1⟩
def HLD_TWN_STATUS_PATH1_B : Fld := ⟨0x3F00000, 18, 1⟩
def HLD_TWN_STATUS_PATH2_A : Fld := ⟨0x3F00000, 19, 1⟩
def HLD_TWN_STATUS_PATH2_B : Fld := ⟨0x3F00000, 20, 1⟩
def HLD_TWN_STATUS_MISMATCH : Fld := ⟨0x3F00000, 21, 1⟩
def HLD_TWN_STATUS_RESIGN : Fld := ⟨0x3F00000, 22, 1⟩
def HLD_TWN_STATUS_DEGRADED : Fld := ⟨0x3F00000, 23, 1⟩
def HLD_TWN_STATUS_DEVICE_LOST : Fld := ⟨0x3F00000, 24, 1⟩
def HLD_TWN_STATUS_REVIVE_FAIL : Fld := ⟨0x3F00000, 25, 1⟩
def HLD_TWN_STATUS_WINDOW_VIOL : Fld := ⟨0x3F00000, 26, 1⟩
def HLD_TWN_CFG_HB_MISS : Fld := ⟨0x3F00004, 0, 4⟩
def HLD_TWN_CMD_REVIVE_A : Fld := ⟨0x3F00008, 0, 1⟩
def HLD_TWN_CMD_REVIVE_B : Fld := ⟨0x3F00008, 1, 1⟩
def HLD_FAILOVERS_COUNT : Fld := ⟨0x3F0000C, 0, 32⟩
def HLD_LAST_GAP_NS : Fld := ⟨0x3F00010, 0, 32⟩
def HLD_CMP_TICK_LO_TICK : Fld := ⟨0x3F00014, 0, 32⟩
def HLD_CMP_TICK_HI_TICK : Fld := ⟨0x3F00018, 0, 32⟩
def HLD_DWELL_CFG_EN (i : Nat) : Fld := ⟨0x3F01000 + 0x10 * i, 0, 1⟩
def HLD_DWELL_CFG_MOVE (i : Nat) : Fld := ⟨0x3F01000 + 0x10 * i, 8, 8⟩
def HLD_DWELL_CFG_LIMIT_NS (i : Nat) : Fld := ⟨0x3F01000 + 0x10 * i, 16, 16⟩
def HLD_DWELL_STATUS_CUT (i : Nat) : Fld := ⟨0x3F01004 + 0x10 * i, 0, 1⟩
def HLD_DWELL_STATUS_CUT_SEEN (i : Nat) : Fld := ⟨0x3F01004 + 0x10 * i, 8, 1⟩
def HLD_DWELL_STATUS_WINDOW_VIOL (i : Nat) : Fld := ⟨0x3F01004 + 0x10 * i, 9, 1⟩
def HLD_DWELL_BEAMS_MASK (i : Nat) : Fld := ⟨0x3F01008 + 0x10 * i, 0, 32⟩
def HLD_DWELL_CUTS_COUNT (i : Nat) : Fld := ⟨0x3F0100C + 0x10 * i, 0, 32⟩
def HLD_FLT_STATUS_STATE : Fld := ⟨0x3F02000, 0, 1⟩
def HLD_FLT_STATUS_BE_OPEN : Fld := ⟨0x3F02000, 1, 1⟩
def HLD_FLT_STATUS_REASON : Fld := ⟨0x3F02000, 2, 4⟩
def HLD_FLT_STATUS_ASSERT_SEEN : Fld := ⟨0x3F02000, 8, 1⟩
def HLD_FLT_STATUS_BOOT : Fld := ⟨0x3F02000, 9, 1⟩
def HLD_FLT_STATUS_SW : Fld := ⟨0x3F02000, 10, 1⟩
def HLD_FLT_STATUS_SAFE : Fld := ⟨0x3F02000, 11, 1⟩
def HLD_FLT_STATUS_THERMAL : Fld := ⟨0x3F02000, 12, 1⟩
def HLD_FLT_STATUS_BUS : Fld := ⟨0x3F02000, 13, 1⟩
def HLD_FLT_STATUS_BEAM_ENABLE : Fld := ⟨0x3F02000, 14, 1⟩
def HLD_FLT_STATUS_DWELL : Fld := ⟨0x3F02000, 15, 1⟩
def HLD_FLT_STATUS_WDOG : Fld := ⟨0x3F02000, 16, 1⟩
def HLD_FLT_STATUS_REL_REFUSED : Fld := ⟨0x3F02000, 17, 1⟩
def HLD_FLT_STATUS_WINDOW_VIOL : Fld := ⟨0x3F02000, 18, 1⟩
def HLD_FLT_CFG_THERMAL_EN : Fld := ⟨0x3F02004, 0, 1⟩
def HLD_FLT_CFG_BUS_EN : Fld := ⟨0x3F02004, 1, 1⟩
def HLD_FLT_CFG_BE_EN : Fld := ⟨0x3F02004, 2, 1⟩
def HLD_FLT_CFG_DWELL_EN : Fld := ⟨0x3F02004, 3, 1⟩
def HLD_FLT_CFG_WDOG_EN : Fld := ⟨0x3F02004, 4, 1⟩
def HLD_FLT_CFG_WDOG_MS : Fld := ⟨0x3F02004, 16, 16⟩
def HLD_FLT_CMD_ASSERT : Fld := ⟨0x3F02008, 0, 1⟩
def HLD_FLT_CMD_RELEASE : Fld := ⟨0x3F02008, 1, 1⟩
def HLD_FLT_CMD_KICK : Fld := ⟨0x3F02008, 2, 1⟩
def HLD_FLT_COUNT_COUNT : Fld := ⟨0x3F0200C, 0, 32⟩
def HLD_FLT_ASSERTED_LO_TIME : Fld := ⟨0x3F02010, 0, 32⟩
def HLD_FLT_ASSERTED_HI_TIME : Fld := ⟨0x3F02014, 0, 32⟩
def HLD_INJ_CFG_TARGET : Fld := ⟨0x3F03000, 0, 2⟩
def HLD_INJ_CFG_WHEN : Fld := ⟨0x3F03000, 2, 1⟩
def HLD_INJ_CFG_KIND : Fld := ⟨0x3F03000, 8, 4⟩
def HLD_INJ_CFG_ARG : Fld := ⟨0x3F03000, 12, 4⟩
def HLD_INJ_CFG_DUR : Fld := ⟨0x3F03000, 16, 16⟩
def HLD_INJ_LOC_LOC : Fld := ⟨0x3F03004, 0, 32⟩
def HLD_INJ_AT_LO_TIME : Fld := ⟨0x3F03008, 0, 32⟩
def HLD_INJ_AT_HI_TIME : Fld := ⟨0x3F0300C, 0, 32⟩
def HLD_INJ_CMD_ARM : Fld := ⟨0x3F03010, 0, 1⟩
def HLD_INJ_CMD_DISARM : Fld := ⟨0x3F03010, 1, 1⟩
def HLD_INJ_STATUS_STATE : Fld := ⟨0x3F03014, 0, 2⟩
def HLD_INJ_STATUS_DONE : Fld := ⟨0x3F03014, 8, 1⟩
def HLD_INJ_COUNT_COUNT : Fld := ⟨0x3F03018, 0, 32⟩
end F

def regTableHLD0 : List RegRow := [
  ⟨0x3F00000, [], .all, 0x28, 0x0, [⟨0, 1, .ro, .any, 0, 0x1⟩, ⟨1, 1, .ro, .any, 0, 0x1⟩, ⟨2, 1, .ro, .any, 0, 0x1⟩, ⟨3, 2, .ro, .any, 0, 0x3⟩, ⟨5, 2, .ro, .any, 0, 0x3⟩, ⟨7, 1, .ro, .any, 0, 0x1⟩, ⟨8, 2, .ro, .any, 0, 0x3⟩, ⟨16, 1, .w1c, .any, 0, 0x1⟩, ⟨17, 1, .w1c, .any, 0, 0x1⟩, ⟨18, 1, .w1c, .any, 0, 0x1⟩, ⟨19, 1, .w1c, .any, 0, 0x1⟩, ⟨20, 1, .w1c, .any, 0, 0x1⟩, ⟨21, 1, .w1c, .any, 0, 0x1⟩, ⟨22, 1, .w1c, .any, 0, 0x1⟩, ⟨23, 1, .w1c, .any, 0, 0x1⟩, ⟨24, 1, .w1c, .any, 0, 0x1⟩, ⟨25, 1, .w1c, .any, 0, 0x1⟩, ⟨26, 1, .w1c, .any, 0, 0x1⟩]⟩,
  ⟨0x3F00004, [], .all, 0x3, 0xF, [⟨0, 4, .rw, .any, 2, 15⟩]⟩,
  ⟨0x3F00008, [], .all, 0x0, 0x0, [⟨0, 1, .wo, .any, 0, 0x1⟩, ⟨1, 1, .wo, .any, 0, 0x1⟩]⟩,
  ⟨0x3F0000C, [], .all, 0x0, 0x0, [⟨0, 32, .ro, .any, 0, 0xFFFFFFFF⟩]⟩,
  ⟨0x3F00010, [], .all, 0x0, 0x0, [⟨0, 32, .ro, .any, 0, 0xFFFFFFFF⟩]⟩,
  ⟨0x3F00014, [], .all, 0x0, 0x0, [⟨0, 32, .ro, .any, 0, 0xFFFFFFFF⟩]⟩,
  ⟨0x3F00018, [], .all, 0x0, 0x0, [⟨0, 32, .ro, .any, 0, 0xFFFFFFFF⟩]⟩,
  ⟨0x3F01000, [(0x10, 16)], .beam, 0x1F400400, 0xFFFFFF01, [⟨0, 1, .rw, .plate, 0, 0x1⟩, ⟨8, 8, .rw, .plate, 1, 255⟩, ⟨16, 16, .rw, .plate, 500, 65535⟩]⟩,
  ⟨0x3F01004, [(0x10, 16)], .beam, 0x0, 0x0, [⟨0, 1, .ro, .any, 0, 0x1⟩, ⟨8, 1, .w1c, .any, 0, 0x1⟩, ⟨9, 1, .w1c, .any, 0, 0x1⟩]⟩,
  ⟨0x3F01008, [(0x10, 16)], .beam, 0x0, 0x0, [⟨0, 32, .ro, .any, 0, 0xFFFFFFFF⟩]⟩,
  ⟨0x3F0100C, [(0x10, 16)], .beam, 0x0, 0x0, [⟨0, 32, .ro, .any, 0, 0xFFFFFFFF⟩]⟩,
  ⟨0x3F02000, [], .all, 0x301, 0x0, [⟨0, 1, .ro, .any, 0, 0x1⟩, ⟨1, 1, .ro, .any, 0, 0x1⟩, ⟨2, 4, .ro, .any, 0, 0xF⟩, ⟨8, 1, .w1c, .any, 0, 0x1⟩, ⟨9, 1, .w1c, .any, 0, 0x1⟩, ⟨10, 1, .w1c, .any, 0, 0x1⟩, ⟨11, 1, .w1c, .any, 0, 0x1⟩, ⟨12, 1, .w1c, .any, 0, 0x1⟩, ⟨13, 1, .w1c, .any, 0, 0x1⟩, ⟨14, 1, .w1c, .any, 0, 0x1⟩, ⟨15, 1, .w1c, .any, 0, 0x1⟩, ⟨16, 1, .w1c, .any, 0, 0x1⟩, ⟨17, 1, .w1c, .any, 0, 0x1⟩, ⟨18, 1, .w1c, .any, 0, 0x1⟩]⟩,
  ⟨0x3F02004, [], .all, 0x640007, 0xFFFF001F, [⟨0, 1, .rw, .any, 0, 0x1⟩, ⟨1, 1, .rw, .any, 0, 0x1⟩, ⟨2, 1, .rw, .any, 0, 0x1⟩, ⟨3, 1, .rw, .any, 0, 0x1⟩, ⟨4, 1, .rw, .any, 0, 0x1⟩, ⟨16, 16, .rw, .any, 1, 65535⟩]⟩,
  ⟨0x3F02008, [], .all, 0x0, 0x0, [⟨0, 1, .wo, .any, 0, 0x1⟩, ⟨1, 1, .wo, .any, 0, 0x1⟩, ⟨2, 1, .wo, .any, 0, 0x1⟩]⟩,
  ⟨0x3F0200C, [], .all, 0x0, 0x0, [⟨0, 32, .ro, .any, 0, 0xFFFFFFFF⟩]⟩,
  ⟨0x3F02010, [], .all, 0x0, 0x0, [⟨0, 32, .ro, .any, 0, 0xFFFFFFFF⟩]⟩,
  ⟨0x3F02014, [], .all, 0x0, 0x0, [⟨0, 32, .ro, .any, 0, 0xFFFFFFFF⟩]⟩,
  ⟨0x3F03000, [], .all, 0x0, 0x0, [⟨0, 2, .rw, .idle, 0, 2⟩, ⟨2, 1, .rw, .idle, 0, 0x1⟩, ⟨8, 4, .rw, .idle, 0, 10⟩, ⟨12, 4, .rw, .idle, 0, 0xF⟩, ⟨16, 16, .rw, .idle, 0, 0xFFFF⟩]⟩,
  ⟨0x3F03004, [], .all, 0x0, 0x0, [⟨0, 32, .rw, .idle, 0, 0xFFFFFFFF⟩]⟩,
  ⟨0x3F03008, [], .all, 0x0, 0x0, [⟨0, 32, .rw, .idle, 0, 0xFFFFFFFF⟩]⟩]

def regTableHLD1 : List RegRow := [
  ⟨0x3F0300C, [], .all, 0x0, 0x0, [⟨0, 32, .rw, .idle, 0, 0xFFFFFFFF⟩]⟩,
  ⟨0x3F03010, [], .all, 0x0, 0x0, [⟨0, 1, .wo, .any, 0, 0x1⟩, ⟨1, 1, .wo, .any, 0, 0x1⟩]⟩,
  ⟨0x3F03014, [], .all, 0x0, 0x0, [⟨0, 2, .ro, .any, 0, 0x3⟩, ⟨8, 1, .w1c, .any, 0, 0x1⟩]⟩,
  ⟨0x3F03018, [], .all, 0x0, 0x0, [⟨0, 32, .ro, .any, 0, 0xFFFFFFFF⟩]⟩]

/-- The register map of block HLD. -/
def regTableHLD : List RegRow := regTableHLD0 ++ regTableHLD1

end Sys2Proof.Machine
end

