-- ==== Sys2Proof/Machine/Units.lean ====
section
/-! DEFINITION. The state of the units that no register holds, one structure per engine of a side (R17), and what a
side sends to the hold die. Every structure is plain data; its reset value is the default of each field (log entry 5
where the spec gives none). -/

namespace Sys2Proof.Machine

/-- One history queue (R481, R482): postings made and the eight slots. -/
structure HistEntry where
  head : Nat := 0
  detail : Nat := 0
  stamp : Nat := 0
  detail2 : Nat := 0
  deriving DecidableEq, Repr, Inhabited

structure Hist where
  count : Nat := 0
  slots : Tab HistEntry := []
  deriving DecidableEq, Repr, Inhabited

/-- Timebase (R28 to R46): tick length and phase in force, device times of the next control tick edge and fine-tick
boundary, control tick edges since power-on (R36), fine index, the rate staged by RATE_GO, the capture that SNAP took
and that is not posted yet, the alarm targets copied by ARM (with: already reached when armed, R40). -/
structure Tim where
  tickNs : Nat := 10000
  phase : Nat := 0
  nextEdge : Nat := 10000
  nextFine : Nat := 500
  count : Nat := 0
  fine : Nat := 0
  stagedRate : Nat := 0
  snap : Option (Nat × Nat × Nat × Nat) := none
  alarms : Tab (Nat × Bool) := []
  deriving DecidableEq, Repr, Inhabited

/-- Where a fetched descriptor stands: fetched and not started, running in its engine, or finished with status,
RESULT0 and RESULT1 (R67, R69). -/
inductive DescSt where
  | fetched
  | running
  | done (status result0 result1 : Nat)
  deriving DecidableEq, Repr, Inhabited

/-- A descriptor in a submission ring's order: its slot and its 64 bytes. -/
structure Desc where
  slot : Nat
  bytes : List Byte
  st : DescSt
  deriving DecidableEq, Repr, Inhabited

/-- A completion or event ring's message state (R78): entries not signalled, raw time of the first of them; events
dropped since the last entry (R72). -/
structure RingMsg where
  unsig : Nat := 0
  firstAt : Nat := 0
  lost : Nat := 0
  deriving DecidableEq, Repr, Inhabited

/-- Host ring manager: descriptors of each submission ring in ring order, message state of completion rings 0 to 63
and event rings 64, 65, and the indexes that ring's doorbells last accepted (R75); submission rings whose head waits for room in its
completion ring (R71); by PRIO, the ring that was fetched from last, plus 1 (R77). -/
structure Hif where
  sq : Tab (List Desc) := []
  msg : Tab RingMsg := []
  dbSq : Tab Nat := []
  dbCq : Tab Nat := []
  full : List Nat := []
  last : Tab Nat := []
  deriving DecidableEq, Repr, Inhabited

/-- A DMA transfer (R98, R109): its channel's shadow set, or none for a ring's; TAG; spaces and addresses; length;
FILL's pattern or none for COPY; HALF, FLUSH_AFTER, FULL; the descriptor's slot in its ring; whether it runs descending (R101); bytes whose writes have left the
engine; whether HALF has posted; and, once every write has left, the address of the fence it waits for (R104). -/
structure Xfer where
  sh : Option Nat
  ring : Nat
  tag : Nat
  fn : Fn
  srcSpace : Nat
  src : Nat
  dstSpace : Nat
  dst : Nat
  len : Nat
  pattern : Option Nat
  half : Bool
  flushAfter : Bool
  desc : Bool
  written : Nat
  halfPosted : Bool
  fence : Option Nat
  isFlush : Bool
  slot : Nat
  full : Bool
  deriving DecidableEq, Repr, Inhabited

/-- A DMA channel: the transfer it runs, its armed shadow sets in the order of arming (R109), bursts left to it in the round (R96), and
its last hand-over windows (R110, R111): start in half nanoseconds of raw time, finished set, and the channel's registers before. -/
structure DmaCh where
  cur : Option Xfer := none
  armed : List (Fin 2) := []
  quota : Nat := 0
  wins : List (Nat × Nat × Tab Word) := []
  deriving DecidableEq, Repr, Inhabited

/-- How far a block of a job stream is (R138, R140): not assigned; on a decompress engine; decoded while its plate has
not started; failed; consumed. -/
inductive EntSt where
  | waiting | onEngine | decoded | failed | consumed
  deriving DecidableEq, Repr, Inhabited

/-- An index entry of an open job (R132). -/
structure Ent where
  off : Nat
  size : Nat
  kind : Nat
  plate : Nat
  chan : Nat
  st : EntSt := .waiting
  deriving DecidableEq, Repr, Inhabited

/-- An open job slot: its data window, stream length and index entries (R136). -/
structure Job where
  base : Nat := 0
  win : Nat := 1
  len : Nat := 0
  ents : List Ent := []
  deriving DecidableEq, Repr, Inhabited

/-- Stream-buffer bytes of one block of a plate record on one channel: reserved until the block is decoded, then its
data (R140). -/
structure Piece where
  pl : Nat
  idx : Nat
  ulen : Nat
  data : Option (List Byte)
  deriving DecidableEq, Repr, Inhabited

/-- What a Strudel engine holds: a plate-feed block (job slot, index, record, the key it was assigned with), a requested
command (ring, slot). -/
inductive Work where
  | idle
  | feed (job idx rec key : Nat)
  | req (ring slot : Nat)
  deriving DecidableEq, Repr, Inhabited

/-- A suspended block (R147): its source range (R151), its bytes, and the output already delivered. -/
structure Ctx where
  fn : Fn
  space : Nat
  src : Nat
  srcLen : Nat
  blk : List Byte
  out : List Byte
  deriving DecidableEq, Repr, Inhabited

/-- The Strudel dispatcher: job slots, the eight decompress and two compress engines, the sixteen contexts, the stream
buffer of each channel, the allotment in force and the one computed last (R174). -/
structure Str where
  jobs : Tab Job := []
  dec : Tab Work := []
  cmp : Tab Work := []
  ctx : Tab (Option Ctx) := []
  bufs : Tab (List Piece) := []
  allot : Tab Nat := []
  allotTo : Tab Nat := []
  deriving DecidableEq, Repr, Inhabited

/-- A plate record's own state beside its registers (R159 to R187): commit order and end order; START_MODE, MAY_PASS,
START_EVENT, START_AT; JOB_ID; the 512 metadata bytes; pool bytes reserved; whether its event has posted, and how many
postings of the tick came before its commit; engaged watermarks; energy metered from each jar in µJ; hottest sensor at
its start; channels whose last data is taken, and channels whose last output has left; by raster channel the beams of
its substitution map sampled at commit, as (physical, logical) (R242). -/
structure Rec where
  seq : Nat := 0
  endSeq : Nat := 0
  mode : Nat := 0
  mayPass : Bool := false
  startEvent : Nat := 0
  startAt : Nat := 0
  jobId : Nat := 0
  mdat : List Byte := []
  pool : Nat := 0
  eventSeen : Bool := false
  mark : Nat := 0
  k : Nat := 0
  metered : Tab Rat := []
  theta0 : Int := 0
  taken : List Nat := []
  left : List Nat := []
  maps : Tab (List (Nat × Nat)) := []
  deriving DecidableEq, Repr, Inhabited

/-- The planner and ledger: records, counters of commits and ends, spoil causes waiting for the spoil edge, commands that
wait for a record (record, ring, slot), jar levels in µJ, whether each is below its reserve, ticks above its ceiling,
levels before the last update (R172), ingest of the last ten intervals and the interval's STAGED and end (R189); laser
and SSR energy metered in the tick (R186), in full-scale nanoseconds; whether a plate was spoiled and no plate has started
since (R348). -/
structure Pln where
  recs : Tab Rec := []
  seq : Nat := 0
  endSeq : Nat := 0
  causes : List (Nat × Nat) := []
  waits : List (Nat × Nat × Nat) := []
  level : Tab Rat := []
  low : Tab Bool := []
  peakRun : Tab Nat := []
  prev : Tab Rat := []
  ingest : Tab (List Nat) := []
  stagedAt : Tab Nat := []
  ingestAt : Nat := 1000000
  laser : Tab Rat := []
  ssrOn : Tab Nat := []
  lastEdge : Nat := 0
  spoilHeld : Bool := false
  deriving DecidableEq, Repr, Inhabited

/-- An entry of a recipe (R442): KIND, OFFSET (the opcode for DENY_OP), MASK, A, B. -/
structure RecEnt where
  kind : Nat
  off : Nat
  mask : Nat
  a : Nat
  b : Nat
  deriving DecidableEq, Repr, Inhabited

/-- The key store (R432 to R450): job keys by slot, which of them have DENY_OBSERVE, the entries of the recipe in force; keys
wait to be zeroised at the next edge (R447); a clear runs. -/
structure Sec where
  keys : Tab Nat := []
  deny : Tab Bool := []
  recipe : List RecEnt := []
  zero : Bool := false
  clearing : Bool := false
  deriving DecidableEq, Repr, Inhabited

/-- A motion axis (R340 to R353): segments of its table as (DT, P, V); profile time and rate in 2^−24, the rate's last
change, u at the start edge; direction m is +1; last rate target; step of the reroll sequence (0 none, 1 to rest, 2 back,
3 slowing, 4 waiting, 5 to PAUSED) and its back point; last two fine-tick latches of the filtered position, newest first,
as (device time, position). -/
structure Axis where
  segs : List (Nat × Int × Int) := []
  tau : Int := 0
  r : Int := 0
  dr : Int := 0
  uStart : Nat := 0
  fwd : Bool := true
  tgt : Int := 0
  phase : Nat := 0
  back : Int := 0
  latch : List (Nat × Nat) := []
  deriving DecidableEq, Repr, Inhabited

/-- An encoder port (R352): raw count; levels of A and B and the raw times of their last edges; fine ticks since an SSI
frame started; the start of the frame that is running; the count latched at the last boundary; the stamp of R47: that boundary, or the start of
the last complete frame. -/
structure Enc where
  count : Nat := 0
  a : Bool := false
  b : Bool := false
  aAt : Option Nat := none
  bAt : Option Nat := none
  ticks : Nat := 0
  frame : Option Nat := none
  lat : Nat := 0
  stamp : Nat := 0
  deriving DecidableEq, Repr, Inhabited

/-- A plate on a raster channel (R236 to R239): its record; device time of its start edge; next stripe position; stripes
of data, once known; track data of the last stripes, newest first, as (stripe, bytes); medium position at the start, next
stripe target; no further frame is built; every frame is built, and the sweep that the last was built on. -/
structure RJob where
  pl : Nat
  start : Nat
  pos : Nat := 0
  total : Option Nat := none
  stripes : List (Nat × List Byte) := []
  x0 : Nat := 0
  y : Int := 0
  stopped : Bool := false
  built : Bool := false
  deriving DecidableEq, Repr, Inhabited

/-- A raster channel's sweep tracking (R224 to R230), times in 1/64 ns: whether a stamp is held, number, stamp and facet of
the last sweep, corrected intervals newest first, mean interval, consecutive accepted sweeps, facet identity known,
FACET_ZERO or an index edge waiting for the next sweep, close of the last window, next sweep to build, predictions sweeps
were built on; interval deviations and SOS-to-EOS intervals by facet, newest first, and whether the last sweep's EOS has come; plates;
whether a plate has started on the channel (R246); number of the next DOT frame (R218). A stamp is 64 bits of device time and 6 of
fraction; those held here go on past the wrap, from the last sweep's (R37). -/
structure Ras where
  held : Bool := false
  s : Nat := 0
  t : Int := 0
  f : Nat := 0
  ivs : List Int := []
  mean : Int := 1280000
  acc : Nat := 0
  known : Bool := false
  zero : Bool := false
  index : Bool := false
  winFrom : Option Int := none
  next : Nat := 0
  preds : List (Nat × Int) := []
  meas : Tab (List Int) := []
  eos : Tab (List Int) := []
  eosSeen : Bool := false
  jobs : List RJob := []
  ran : Bool := false
  num : Nat := 0
  deriving DecidableEq, Repr, Inhabited

/-- A vector in the look-ahead (R248 to R256): VID, MARK or JUMP, LON, LOFF, SETTLE, POWER, origin channel, whether it is one
of the channel's own words; start and end in bed units and in field units; length in field units; nominal and limit speed in
mm/s; squares of the planned entry and exit speeds, in (field units per ns)². -/
structure Vec where
  vid : Nat
  mark : Bool
  lon : Nat
  loff : Nat
  settle : Nat
  power : Nat
  origin : Nat
  own : Bool
  b0 : Int × Int × Int
  b1 : Int × Int × Int
  f0 : Int × Int × Int
  f1 : Int × Int × Int
  len : Rat
  vnom : Nat
  vlim : Nat
  w0 : Rat := 0
  w1 : Rat := 0
  deriving DecidableEq, Repr, Inhabited

/-- The laser window of a MARK that has ended (R261): first and last boundary as instants of its channel, and what its power needs. -/
structure LWin where
  on : Int
  off : Int
  vid : Nat
  power : Nat
  vnom : Nat
  vlim : Nat
  origin : Nat
  deriving DecidableEq, Repr, Inhabited

/-- The overshoot of a stop and its return move (R265, R267): instant, point, direction and speed it starts with, and
whether a return follows. -/
structure Coast where
  t0 : Rat
  x : Rat
  y : Rat
  ux : Rat
  uy : Rat
  v : Rat
  back : Bool
  deriving DecidableEq, Repr, Inhabited

/-- A vector that waits in an inbox (R275): origin, start point in bed units, its word; the plate's record. -/
structure Inb where
  pl : Nat
  origin : Nat
  start : Int × Int × Int
  word : List Byte
  deriving DecidableEq, Repr, Inhabited

/-- A vector channel (R248 to R268): plate it runs and its start edge, plates that wait for it as (record, start edge);
look-ahead; vectors held back by a stop; instant the first vector began, and the instant the next may begin; rest position
(x, y, z) in field units, and in bed units while it is the end point of a vector; bed end and kind of the last word of its own
stream, whether its next word is to enter before any other vector;
windows of ended MARKs, latest first; overshoot; a resume waiting for the next boundary; own words taken and the sum of their
rest-to-rest durations (R278); inbox (R275); setpoint and last three scanner counts of each axis, newest first (R259);
bed position of the setpoint; boundaries in a row with power. -/
structure Veh where
  pl : Option Nat := none
  edge : Nat := 0
  next : List (Nat × Nat) := []
  q : List Vec := []
  held : List Vec := []
  begun : Option Rat := none
  ready : Rat := 0
  x : Rat := 0
  y : Rat := 0
  z : Int := 0
  bedEnd : Option (Int × Int × Int) := none
  prev : Option (Int × Int × Int) := none
  prevOk : Bool := false
  kept : Bool := false
  wins : List LWin := []
  coast : Option Coast := none
  resume : Bool := false
  words : Nat := 0
  durSum : Rat := 0
  inbox : List Inb := []
  sx : Int := 0
  sy : Int := 0
  sz : Int := 0
  nx : List Int := []
  ny : List Int := []
  bed : Int × Int := (0, 0)
  lit : Nat := 0
  grid : List Byte := []
  deriving DecidableEq, Repr, Inhabited

/-- A conversion edge of a melt-pool port (R286): device time, number, and the word that followed it, as samples of A and B,
its arrival, and whether the port was locked. -/
structure Conv where
  at_ : Nat
  idx : Nat
  word : Option (Nat × Nat × Nat × Bool) := none
  deriving DecidableEq, Repr, Inhabited

/-- A correction under way (R291 to R296), computed at boundary k for k + 3: time and number of k, p planned for k + 3,
heat-map value and whether the point is outside the map, REF, KP, KI as sampled at k, whether feedback is due but for the
sample, whether the interpolated power at k is 0, VID and origin of the MARK whose window holds k + 3; once computed: c, F_k,
the means, sample invalid, feedback active. Boundary k as R296 counts it, and what its SAMPLE belongs to: JOB_ID, whether the job is
encrypted, plate. -/
structure MpPend where
  t : Nat
  k : Nat
  p : Nat
  h : Nat
  outside : Bool
  ref : Int
  kp : Nat
  ki : Nat
  due : Bool
  dark : Bool
  vid : Nat
  origin : Nat
  done : Bool := false
  c : Int := 0
  f : Int := 0
  ma : Int := 0
  mb : Int := 0
  bad : Bool := false
  active : Bool := false
  ix : Nat := 0
  tel : Option (Nat × Bool × Nat) := none
  deriving DecidableEq, Repr, Inhabited

/-- A melt-pool channel (R285 to R294): deposit remainder, F, integrator, invalid boundaries in a row, conversion edges newest
first with the number of the next, boundary and count of the conversions of this fine tick, corrections under way newest
first. -/
structure MpCh where
  acc : Nat := 0
  f : Int := 0
  integ : Int := 0
  badRun : Nat := 0
  convs : List Conv := []
  nextIdx : Nat := 0
  convB : Nat := 0
  convI : Nat := 16
  pend : List MpPend := []
  deriving DecidableEq, Repr, Inhabited

/-- A chunk of telemetry (R297, R298): JOB_ID, whether the job is encrypted, PLATE of its first record, time of its first
record, records, whether it is closed, and its encoded block. -/
structure Chunk where
  job : Nat
  enc : Bool
  plate : Nat
  at_ : Nat
  recs : List (List Byte) := []
  closed : Bool := false
  block : Option (List Byte) := none
  deriving DecidableEq, Repr, Inhabited

/-- Heat map and telemetry (R288 to R299): heat of every cell that is not 0, cells swept in this tick in rows of 256, device
time of the tick's edge, a clear waiting for the edge; melt-pool channels; chunks oldest first, SAMPLE records dropped since
the last LOSS, next block index by JOB_ID (R130), pairs of VIDs in breach in this plate (R283). -/
structure Mpl where
  heat : Tab Nat := []
  swept : Nat := 4096
  edge : Nat := 0
  clear : Bool := false
  chs : Tab MpCh := []
  chunks : List Chunk := []
  lost : Nat := 0
  ivs : Tab Nat := []
  breach : List (Nat × Nat) := []
  stopped : List Nat := []
  deriving DecidableEq, Repr, Inhabited

/-- A signal word (R305): value m × 2^(e − 23). -/
structure Sig where
  m : Int := 0
  e : Int := -128
  deriving DecidableEq, Repr, Inhabited

/-- An input of a law program (R314): class, signal, SUB, index. -/
structure LIn where
  cls : Nat
  sig : Nat
  sub : Bool
  idx : Nat
  deriving DecidableEq, Repr, Inhabited

/-- A stage of a law program (R309): TYPE, FLAGS, E_S, operand and result signals, an OUTPUT's destination, its words. -/
structure LStage where
  ty : Nat
  flags : Nat
  es : Int
  ins : List Nat
  outs : List Nat
  cls : Nat
  idx : Nat
  words : List Nat
  deriving DecidableEq, Repr, Inhabited

/-- A law program (R314): PROG_ID, datapath, CARRY, CONF, initial signal words, used inputs in order, stages. -/
structure LProg where
  id : Nat
  dp : Nat
  carry : Bool
  conf : Bool
  init : List Nat
  ins : List LIn
  stages : List LStage
  deriving DecidableEq, Repr, Inhabited

/-- A law set (R313): SET_ID, LCRC, MIN_TICK_NS, programs by slot. -/
structure LSet where
  id : Nat
  crc : Nat
  minTick : Nat
  progs : List LProg
  deriving DecidableEq, Repr, Inhabited

/-- A program's running values: signals, state words of each stage, and whether it runs for the first time without carried
state (R311). -/
structure LRun where
  sigs : List Sig := []
  st : List (List Sig) := []
  fresh : Bool := true
  deriving DecidableEq, Repr, Inhabited

/-- An injection generator (R330): ticks run, SINE and CHIRP phase, PRBS register and ticks left of its bit, value in the
tick, and a stop waiting for the edge. -/
structure Gen where
  n : Nat := 0
  phase : Nat := 0
  reg : Nat := 0x7FFF
  hold : Nat := 0
  val : Sig := {}
  stop : Bool := false
  deriving DecidableEq, Repr, Inhabited

/-- A trace channel (R327, R328): ticks since ARM, whether the trigger tick has come, samples since the trigger, a STOP waiting
for the edge, and how many postings of the tick came before ARM. -/
structure Trc where
  n : Nat := 0
  trig : Bool := false
  since : Nat := 0
  stop : Bool := false
  mark : Nat := 0
  deriving DecidableEq, Repr, Inhabited

/-- A value on its way from an OUTPUT stage: destination, value, device time at which it reaches the output hold stage (R319). -/
structure LDue where
  cls : Nat
  idx : Nat
  v : Int
  at_ : Nat
  deriving DecidableEq, Repr, Inhabited

/-- The law engine (R313 to R330): set in use and accepted set, running values by slot, a HALT waiting for the edge,
generators, a commit's cut of them, trace channels; last emissions for PWM outputs, SSR outputs and current references, and those
under way. -/
structure Law where
  set : Option LSet := none
  next : Option LSet := none
  runs : Tab LRun := []
  halt : Bool := false
  gens : Tab Gen := []
  cut : Bool := false
  trcs : Tab Trc := []
  duty : Tab Nat := []
  ssr : Tab Nat := []
  iref : Tab Int := []
  due : List LDue := []
  deriving DecidableEq, Repr, Inhabited

/-- The process I/O (R331, R332): device time of the last edge of each zero-cross input, inputs that are lost; by SSR output
the switchings to come as (device time, on), and since when its line is on. -/
structure Pio where
  zx : Tab Nat := []
  seen : Tab Bool := []
  lost : Tab Bool := []
  next : Tab (List (Nat × Bool)) := []
  on : Tab (Option Nat) := []
  deriving DecidableEq, Repr, Inhabited

/-- A field-control or stepper unit (R362 to R379): commands waiting for the period start (0 ENABLE, 1 DISABLE, 2 CLEAR);
currents used last and references of that period; integrators; whether the loop has run; speed in electrical Hz, last angle
and last u; skip periods in a row, largest duty of the running period and whether it is forced; device time of its start;
encoder count latched for its centre, with the time of the latch; regeneration limit as P_u ÷ |p|; missing-phase window:
periods, sums of currents and of references by phase, suspect windows in a row; catch: periods measured, angles newest
first, all magnitudes below IMIN, first count, whether a turning rotor is being caught, ramp speed, field angle; time ALIGN
began and whether after a catch; u unchanged since; whether the unit was in RUN in the last period. -/
structure FocU where
  cmds : List Nat := []
  i1 : Int := 0
  i2 : Int := 0
  r1 : Int := 0
  r2 : Int := 0
  int1 : Rat := 0
  int2 : Rat := 0
  omega : Int := 0
  ang : Nat := 0
  u : Nat := 0
  skips : Nat := 0
  dMax : Nat := 0
  forced : Bool := false
  start : Nat := 0
  lat : Nat := 0
  latAt : Nat := 0
  lim : Option Rat := none
  win : Nat := 0
  sumI : List Nat := [0, 0, 0]
  sumR : List Nat := [0, 0, 0]
  susp : List Nat := [0, 0, 0]
  cn : Nat := 0
  angs : List Nat := []
  still : Bool := true
  c0 : Nat := 0
  turning : Bool := false
  ramp : Rat := 0
  field : Nat := 0
  alignAt : Nat := 0
  caught : Bool := false
  uSince : Nat := 0
  ran : Bool := false
  deriving DecidableEq, Repr, Inhabited

/-- A bus (R371, R372): boundaries since the chopper output went high, failing chopper checks in a row, whether V is at or
above V_HARD; value × VFS at the last boundary; reason of the last refusal to assign its chopper output (R356). -/
structure BusU where
  since : Nat := 0
  bad : Nat := 0
  hard : Bool := false
  v : Int := 0
  reason : Nat := 0
  deriving DecidableEq, Repr, Inhabited

/-- Field control (R356 to R379): boundaries fired since power-on reset and the count at which each carrier last started a
period; duty in force of every PWM output (65,536: held high) and its high time in 1/8 ns; units 0 to 15 and steppers 16
to 23; buses; stepper tables and those that wait for the boundary; per sigma-delta channel the sum and count of its product
with the next channel in the tick (R186), and the stamp of its last value (R47). -/
structure Foc where
  n : Nat := 0
  car : Tab Nat := []
  duty : Tab Nat := []
  high : Tab Nat := []
  us : Tab FocU := []
  bus : Tab BusU := []
  tbl : Tab (List Byte) := []
  tblNext : Tab (List Byte × Nat) := []
  prod : Tab Int := []
  prodN : Nat := 0
  sdAt : Tab Nat := []
  deriving DecidableEq, Repr, Inhabited

/-- The addresses a PTP message leaves with (R413, R414): the port's MAC and its 802.1Q tag; destination and source address of its
transport (a MAC with octet k in bits [8k+7:8k]; an IP address with its first octet the most significant); its UDP port. -/
structure PtpAddr where
  mac : Nat := 0
  vlan : Option Nat := none
  dst : Nat := 0
  src : Nat := 0
  udpPort : Option Nat := none
  deriving DecidableEq, Repr, Inhabited

/-- What a side hands to the hold die for the world outside (R21): only the active side's leaves the package. Host
writes and MSI-X messages; a DOT frame with its number (R218), its plate's commit number and its first dot's device time; a setpoint for a port's SET frames;
a PTP message with its addresses. -/
inductive Outbound where
  | hostWrite (fn : Fn) (addr : Nat) (bytes : List Byte)
  | msix (fn : Fn) (vec : Nat)
  | dot (port num owner t0 : Nat) (body : List Byte)
  | setpt (port item value : Nat)
  | ptp (port : Nat) (a : PtpAddr) (m : PtpMsg)
  deriving DecidableEq, Repr, Inhabited

/-- A 66-bit block (R190, R191): its sync header in the order of the wire (1 is 01, data; 2 is 10, control) and its eight bytes. -/
structure Blk where
  hd : Nat
  bytes : List Byte
  deriving DecidableEq, Repr, Inhabited

/-- What a BeamLink port's stream has carried: a block at its position in the stream (R192); or, from a position on, the block that
fills every position that has none of its own, none while the lanes are off. -/
inductive Sent where
  | blk (pos : Nat) (b : Blk)
  | fill (pos : Nat) (b : Option Blk)
  deriving DecidableEq, Repr, Inhabited

/-- A CTRL frame that waits for its ACK (R210): its origin in ns and 1/64 ns; host marks a command of CTRL_GO. -/
structure Ctrl where
  ctag : Nat
  op : Nat
  arg0 : Nat
  sentAt : Nat
  frac : Nat
  host : Bool
  deriving DecidableEq, Repr, Inhabited

/-- A frame that waits for its slot: SYNC of an edge and a tick length, SET with its entries, CTRL with its second argument. -/
inductive Fr where
  | sync (edge tickNs : Nat)
  | set (l : List (Nat × Nat))
  | ctrl (c : Ctrl) (arg1 : Nat)
  deriving DecidableEq, Repr, Inhabited

/-- A DOT frame on its way through the hold die: its plate's commit number, device time of its first dot, its data bytes, and the TS
it has from its release (R202, R218). -/
structure DotF where
  owner : Nat
  t0 : Nat
  body : List Byte
  ts : Nat := 0
  deriving DecidableEq, Repr, Inhabited

/-- A BeamLink port on the hold die (R190 to R218). Link: state (BLKn_STATUS codes), block lock of each lane, TSTATE sent,
agreeing and disagreeing ALIGN markers in a row, TRAIN blocks in a row. Block stream: next position, what it has carried, slot of the
last ALIGN block; blocks to send of the open SYNC, SET or CTRL frame and of the open DOT frame, with the plate of the last DOT frame
that has started; BLANK blocks with their slots; frames that wait. Blanking: beams a dwell guard has cut, cause 3,
beams that wait for an UNBLANK. Framer: next SEQ by FTYPE, frames sent, next CTAG, CTRLs without an ACK, ECHO results in
1/128 ns and ECHOs still to send. DOT frames: number of the next one to take (R218), those in the output stage (R23), the elastic FIFO,
and those it has released. Setpoints gathered by ITEM. ALIGN count, pre-emphasis code in force. STAT: arrival
of the last, whether one has been taken as the baseline of the counters. WAVE_SEL: table wanted with sends left and sends failed, table
last acknowledged, STAT frames in a row that disagree with it. ENC: last counts of X, Y and Z with the device time of the
sample, and its 64-bit arrival time (R47). Dwell guard (R397): reference counts, t_move, held power and t_on by beam. FTYPE whose next frame leaves with a
corrupted CRC (R495, kind 7). -/
structure Port where
  st : Nat := 0
  lock0 : Bool := false
  lock1 : Bool := false
  tx : Nat := 0
  agree : Nat := 0
  disagree : Nat := 0
  trains : Nat := 0
  cut : Nat := 0
  cause3 : Bool := false
  owed : Nat := 0
  seq : Tab Nat := []
  txFrames : Nat := 0
  ctag : Nat := 0
  ctrl : List Ctrl := []
  echo : List Int := []
  echoLeft : Nat := 0
  fifo : List DotF := []
  blk : Nat := 0
  wire : List Sent := []
  alignSlot : Nat := 0
  cur : List Blk := []
  dot : List Blk := []
  dotOwner : Option Nat := none
  blanks : List (Nat × Blk) := []
  wait : List Fr := []
  num : Nat := 0
  stage : List DotF := []
  ready : List DotF := []
  rxAt : Nat := 0
  pend : Tab Nat := []
  marks : Nat := 0
  pre : Nat := 1
  statAt : Nat := 0
  statSeen : Bool := false
  silent : Bool := false
  wave : Option (Nat × Nat × Nat) := none
  waveAck : Option Nat := none
  waveBad : Nat := 0
  enc : Nat × Nat × Nat := (0, 0, 0)
  encAt : Option Nat := none
  ref : Nat × Nat := (0, 0)
  tMove : Nat := 0
  pow : Tab Nat := []
  onAt : Tab Nat := []
  badCrc : Option Nat := none
  deriving DecidableEq, Repr, Inhabited

/-- A beat of a side (R387): sequence number, role (1 active), health, PEER_SEEN, RESIGN, and the tick and signature of its last
complete control tick (R400). -/
structure Beat where
  seq : Nat
  role : Nat
  health : Nat
  peer : Bool
  resign : Bool
  sig : Option (Nat × Nat)
  deriving DecidableEq, Repr, Inhabited

/-- The watch over a side (R387, R388): beats sent; beats on their way on path 1 and 2; sequence numbers and raw times of the
last valid ones, each with the HB_MISS sampled at it in ns (R410); path faults declared; whether this side sees the other (PEER_SEEN); its last reported signature; its
monitor holds its die in reset (R405, R515); it boots by REVIVE. -/
structure Watch where
  seq : Nat := 0
  out1 : List Beat := []
  out2 : List Beat := []
  last1 : Option Nat := none
  last2 : Option Nat := none
  at1 : Nat := 0
  at2 : Nat := 0
  hb1 : Nat := 0
  hb2 : Nat := 0
  bad1 : Bool := false
  bad2 : Bool := false
  seen : Bool := true
  sig : Option (Nat × Nat) := none
  lostPower : Bool := false
  revived : Bool := false
  deriving DecidableEq, Repr, Inhabited

/-- The copy of R406: granules sent in address order, bytes of the budget left over, granules to send again, and the active
side's DRAM and SRAM as they stood at the last edge. -/
structure Copy where
  pos : Nat := 0
  spare : Nat := 0
  dirty : List Nat := []
  dram : Tab Byte := []
  sram : Tab Byte := []
  deriving DecidableEq, Repr, Inhabited

/-- A PTP port (R413 to R422): foreign masters, each as its last Announce with its raw time and that of the one before; raw times
of the last Announce and Sync; logMessageInterval of the last Sync; a two-step Sync that waits for its Follow_Up as (sequence,
receipt stamp, correction); the last Sync pair (t1 with corrections, t2); sequence numbers by kind; a Delay_Req and a Pdelay_Req
on their way as (sequence, departure stamp); a two-step Pdelay_Resp as (sequence, t2, t4, correction); twice the mean path delay;
answers owed, each with a receipt stamp. Stamps, corrections and delays are in 2^−16 ns. -/
structure PPort where
  foreign : List (PtpMsg × Nat × Option Nat) := []
  annAt : Nat := 0
  syncAt : Nat := 0
  logSync : Int := 0
  wait : Option (Nat × Int × Int) := none
  pair : Option (Int × Int) := none
  seqs : Tab Nat := []
  dreq : Option (Nat × Int) := none
  preq : Option (Nat × Int) := none
  presp : Option (Nat × Int × Int × Int) := none
  mpd : Option Int := none
  owed : List (PtpMsg × Int) := []
  deriving DecidableEq, Repr, Inhabited

/-- The PTP instance (R420 to R423): ports; accepted values newest first, at most 16; those accepted since ACQUIRE, at most 8;
discards in a row; the parentPortIdentity, which the parent registers show as posted (R420). -/
structure Ptp where
  ports : Tab PPort := []
  vals : List Int := []
  fresh : Nat := 0
  drops : Nat := 0
  parent : Nat × Nat := (0, 0)
  deriving DecidableEq, Repr, Inhabited

/-- A side's redundancy block: last complete tick and its signature (R400); target copied by FIXED_ARM; device time of the last
swap or reset (R402); a swap that waits has set SWAP_SKIPPED, SWAP_LATE; latest value of every SET item, by port × 65,536 +
ITEM (R391); registers, SRAM and DRAM as they stood when the last signature was formed (R400). -/
structure Twn where
  sig : Option (Nat × Nat) := none
  fixedAt : Nat := 0
  base : Nat := 0
  skipped : Bool := false
  late : Bool := false
  items : Tab Nat := []
  was : Tab Word := []
  sramWas : Tab Byte := []
  dramWas : Tab Byte := []
  deriving DecidableEq, Repr, Inhabited

/-- Outputs before the last work of their engines (R46): the law engine's duties, SSR values, current references and SET items, from
the last control tick edge; SET items and positions u from the last fine-tick boundary. The overrun flags of the engines, which no
register shows (log entry 66). Whether a control tick edge's work is under way, and whether a new tick length took effect at it. -/
structure Prev where
  duty : Tab Nat := []
  ssr : Tab Nat := []
  iref : Tab Int := []
  lawItems : Tab Nat := []
  items : Tab Nat := []
  upos : Tab Nat := []
  overruns : List OverrunWork := []
  inEdge : Bool := false
  ticked : Bool := false
  deriving DecidableEq, Repr, Inhabited

/-- A thermal sensor (R459 to R461): counts of its last 4 samples, those since it broke, and its last readings with their raw
times, newest first. -/
structure Sens where
  counts : List Nat := []
  good : List Nat := []
  reads : List (Nat × Int) := []
  deriving DecidableEq, Repr, Inhabited

/-- Thermal (R463, R464): sensors; raw time at which a sensor last met the start condition of RISE; by engine (DMA channel n,
32 + decompress engine, 40 + compress engine) the raw time its operation began and the raw time its pause ends. -/
structure Thm where
  sens : Tab Sens := []
  rise : Nat := 0
  busy : Tab Nat := []
  pause : Tab Nat := []
  deriving DecidableEq, Repr, Inhabited

/-- The fault pair (R489 to R493): causes that hold, by their place in HLD_FLT_STATUS after BOOT, and 16 + b for bus b; BOOT and
WDOG held; raw time the watchdog's
period began; raw time from which the pair toggles; whether it is LOST. -/
structure Flt where
  on : Tab Bool := [(0, true)]
  boot : Bool := true
  wdog : Bool := false
  kick : Nat := 0
  live : Nat := 0
  lost : Bool := false
  deriving DecidableEq, Repr, Inhabited

end Sys2Proof.Machine
end

