-- ==== Sys2Proof/Machine/State.lean ====
section
/-! DEFINITION. The state of the whole package: what both sides share (raw time, fuses, the hold die, the PCIe
function state, host memory, the configuration flash), the two sides, and the queue of waiting commands. -/

namespace Sys2Proof.Machine

/-- Reasons a step stops with a fault. There is none: the spec gives every command of the block an effect, and an error is an effect on
registers, rings and outputs. -/
inductive Fault where
  deriving DecidableEq, Repr

/-- Reasons a command has no meaning. -/
inductive Refusal where
  /-- Raised by an arm of `exec` whose command has no meaning yet. Safe: the run stops. -/
  | notModelled (mnemonic : String)
  deriving DecidableEq, Repr

/-- The fuses of both control dies (R2, R426 to R431, R501): part, lifecycle, hash of the Vareatu root key, the OEM hash once it is
fused, RECIPE_REQ, the device's private key (0 once it is zeroised), DEVICE_ID,
counter, minimum firmware version; the two measured points of each sensor as (C1, T1, C2, T2) (R459). -/
structure Fuses where
  is7708 : Bool := false
  lifecycle : Nat := 1
  root : Nat := 0
  oem : Option Nat := none
  recipeReq : Bool := false
  devKey : Nat := 1
  devId : Nat := 0xEDF9B71224264F8C
  mono : Nat := 1
  minVer : Nat := 0
  sens : Tab (Nat × Int × Nat × Int) := []
  deriving DecidableEq, Repr, Inhabited

/-- PCIe state of the package: link, Bus Master Enable per function, MSI-X table words and pending bits, and the
packets that wait for Bus Master Enable (R82), and the subsystem IDs (R54, R502). Of each function's configuration space: MSI-X
Enable and Function Mask, maximum payload and read request size, D3hot (R54). No command writes the first four (log entry 136). -/
structure Pci where
  linkUp : Bool := false
  speed : Nat := 0
  width : Nat := 0
  bme0 : Bool := false
  bme1 : Bool := false
  msix : Tab Word := []
  pend : Tab Bool := []
  held : List Outbound := []
  subsys : Nat := 0x77161F3D
  msixOn : Tab Bool := [(0, true), (1, true)]
  fnMask : Tab Bool := []
  mps : Nat := 128
  mrrs : Nat := 512
  d3hot : List Fn := []
  deriving DecidableEq, Repr, Inhabited

/-- The gap of an unplanned failover (R393): the lost side, the raw time of its last valid beat, the raw time of the
declaration. -/
structure Gap where
  lost : SideId
  lastBeat : Nat
  declared : Nat
  deriving DecidableEq, Repr, Inhabited

/-- The hold die (R15): its registers and history queue, the gap of a failover, the BeamLink ports, whether the beam-enable chain is open (R519), the fault pair; the watch over each side
(index 0 for Side A), the side whose acknowledgement of a grant is due (R391), the next control tick to compare (R400), the
copy that runs (R406), sides whose core clock is stopped (R495), whether the package is in DEEP (R469); duties of the PWM outputs and SSR lines that are driven
(R394); PTP messages that have left the Ethernet ports, oldest first; Ethernet ports with link; whether a monitor holds the hold die in
reset (R515); raw time at which the injection acted (R495). -/
structure Hold where
  rf : Tab Word := []
  hist : Hist := {}
  gap : Option Gap := none
  ports : Tab Port := []
  beOpen : Bool := false
  flt : Flt := {}
  watch : Tab Watch := []
  ack : Option SideId := none
  cmpTick : Nat := 0
  copy : Option Copy := none
  stopped : List SideId := []
  deep : Bool := false
  pwm : Tab Nat := []
  ssr : List Nat := []
  eth : List (Nat × PtpAddr × PtpMsg) := []
  ethUp : List Nat := []
  down : Bool := false
  injAt : Nat := 0
  deriving DecidableEq, Repr, Inhabited

/-- Everything that both sides see alike; the DRAM fitted to each side, in GiB (R17, R18), and the
refresh multiplier its refresh-rate field demands (R467); the free-value counter, the
model's own field (log entry 8); the debug port's TAP instruction and the data of its last read (R446); what each side has delivered to
the output hold stage since it last formed a signature, in delivery order (R400). -/
structure Pkg where
  raw : DWord := 0
  fuses : Fuses := {}
  hold : Hold := {}
  pci : Pci := {}
  host : Tab Byte := []
  flash : Tab Byte := []
  dramA : Nat := 8
  dramB : Nat := 8
  mr4A : Nat := 1
  mr4B : Nat := 1
  free : Nat := 0
  tap : TapIr := .idcode
  dbg : List Byte := []
  given : List (SideId × Outbound) := []
  deriving DecidableEq, Repr, Inhabited

/-- One side: its register file, history queues by block, engines, memories, the 8-byte DRAM words that hold a stored
error (R495, kind 2), the outputs before the last work of their engines (R46), the sources that have posted since the last control tick edge, each with its raw time (R175, R328), and what it has sent
this step. -/
structure Side where
  rf : Tab Word := []
  hist : Tab Hist := []
  tim : Tim := {}
  hif : Hif := {}
  dma : Tab DmaCh := []
  str : Str := {}
  pln : Pln := {}
  sec : Sec := {}
  axes : Tab Axis := []
  encs : Tab Enc := []
  ras : Tab Ras := []
  veh : Tab Veh := []
  mpl : Mpl := {}
  law : Law := {}
  pio : Pio := {}
  foc : Foc := {}
  twn : Twn := {}
  thm : Thm := {}
  ptp : Ptp := {}
  prev : Prev := {}
  posted : List (Nat × Nat) := []
  dram : Tab Byte := []
  eccBad : List Nat := []
  sram : Tab Byte := []
  out : List Outbound := []
  deriving DecidableEq, Repr, Inhabited

structure State where
  pkg : Pkg
  sideA : Side
  sideB : Side
  pending : List Instr
  deriving DecidableEq, Repr, Inhabited

/-- The package right after power-on reset. -/
def State.reset : State := ⟨{}, {}, {}, []⟩

end Sys2Proof.Machine
end

