-- ==== Sys2Proof/Machine/Ops.lean ====
section
/-! DEFINITION. The named operations over the state: the register map, register files of a side and of the hold die,
device time (R29), the PCIe functions, and the wrapper that runs a side's work on every running side and lets only the
active side's output leave (R14, R19 to R22). -/

namespace Sys2Proof.Machine

/-- An exact real result that an integer register shows, for which the spec states no rounding: a whole number as it is, another as
one of its two neighbours (log entry 39). -/
def rounded (k : Nat) (q : Rat) : Int := if q.den = 1 then q.num else q.floor + Config.round k q % 2

/-! The register map. -/

/-- The rows of the block whose region starts at a multiple of 1 MiB (R59). -/
def regTableAt (region : Nat) : List RegRow :=
  match region with
  | 0x0 => regTableHIF
  | 0x1 => regTableDMA
  | 0x2 => regTableSTR
  | 0x3 => regTablePLN
  | 0x4 => regTableBLK
  | 0x5 => regTableRAS
  | 0x6 => regTableVEC
  | 0x7 => regTableSTI
  | 0x8 => regTableMPL
  | 0x9 => regTableLAW
  | 0xA => regTableMOT
  | 0xB => regTableFOC
  | 0xC => regTablePIO
  | 0xD => regTableTWN
  | 0xE => regTableTIM
  | 0xF => regTablePTP
  | 0x10 => regTableSEC
  | 0x11 => regTableTHM
  | 0x12 => regTableEVT
  | 0x13 => regTableCFG
  | 0x3F => regTableHLD
  | _ => []

/-- The indexes under which an offset relative to a row's base names one of its registers. -/
def dimsMatch : List (Nat × Nat) → Nat → Option (List Nat)
  | [], d => if d = 0 then some [] else none
  | (s, c) :: t, d =>
    if d / s < c then (dimsMatch t (d % s)).map (d / s :: ·) else none

/-- The row and indexes of the register at an offset of PF0 BAR0, if the row's chapter assigns the offset. -/
def rowMatch (off : Nat) (r : RegRow) : Option (RegRow × List Nat) :=
  if off < r.base then none else (dimsMatch r.dims (off - r.base)).map (fun ix => (r, ix))

/-- The row and indexes of the register at an offset of PF0 BAR0. -/
def regFind (off : Nat) : Option (RegRow × List Nat) :=
  (regTableAt (off / 0x100000)).findSome? (rowMatch off)

/-- Units present of a limited kind (R2, R3). -/
def limCount (is7708 : Bool) : Lim → Nat
  | .all => 0x10000
  | .beam => if is7708 then 8 else 16
  | .axis => if is7708 then 12 else 24
  | .foc => if is7708 then 8 else 16
  | .stp => if is7708 then 4 else 8

/-! Beam channels, axes, field-control and stepper units present (R2, R3). -/

def Pkg.beams (p : Pkg) : Nat := if p.fuses.is7708 then 8 else 16
def Pkg.axes (p : Pkg) : Nat := if p.fuses.is7708 then 12 else 24
def Pkg.focs (p : Pkg) : Nat := if p.fuses.is7708 then 8 else 16
def Pkg.stps (p : Pkg) : Nat := if p.fuses.is7708 then 4 else 8

/-- The register belongs to a fused-off unit (R4). -/
def regAbsent (is7708 : Bool) (r : RegRow) (ix : List Nat) : Bool :=
  match ix with
  | i :: _ => decide (limCount is7708 r.lim ≤ i)
  | [] => false

/-- The assigned event sources (R475). -/
def srcAssigned (n : Nat) : Bool :=
  n == 0 || (0x010 ≤ n && n < 0x092) || (0x0C0 ≤ n && n < 0x0E1) || n == 0x0F0 || (0x0F4 ≤ n && n < 0x0F8) ||
  (0x100 ≤ n && n < 0x131) || (0x140 ≤ n && n < 0x151) || n == 0x160 || (0x180 ≤ n && n < 0x1C0) ||
  (0x1E0 ≤ n && n < 0x1F8) || (0x200 ≤ n && n < 0x218) || (0x220 ≤ n && n < 0x23C) || n == 0x240 || n == 0x250 ||
  n == 0x260 || (0x268 ≤ n && n < 0x273) || n == 0x280 || n == 0x290 || n == 0x2A0 ||
  n == 0x2B0 || n == 0x2C0 || n == 0x400 || (0x410 ≤ n && n < 0x422)

/-- The source belongs to a fused-off unit, and so never posts (R4, R475). -/
def srcAbsent (is7708 : Bool) (n : Nat) : Bool :=
  is7708 && ((0x108 ≤ n && n < 0x110) || (0x118 ≤ n && n < 0x120) || (0x128 ≤ n && n < 0x130) ||
    (0x148 ≤ n && n < 0x150) || (0x1EC ≤ n && n < 0x1F8) || (0x228 ≤ n && n < 0x230) ||
    (0x234 ≤ n && n < 0x238) || (0x418 ≤ n && n < 0x420))

/-- FUNC 1 is permitted for the source (R486). -/
def srcFunc1 (n : Nat) : Bool :=
  (0x020 ≤ n && n < 0x050) || (0x060 ≤ n && n < 0x090) || n == 0x091 || (0x0C0 ≤ n && n < 0x0E0) || n == 0x0F0 ||
  (0x0F4 ≤ n && n < 0x0F8)

/-- The Sponge function of a source: 1 for rings 16 to 63 and event ring 1. -/
def srcSpongeFunc (n : Nat) : Nat :=
  b2n ((0x020 ≤ n && n < 0x050) || (0x060 ≤ n && n < 0x090) || n == 0x091)

/-- The reset word of a register: its row's, but for the registers whose reset depends on the index (R89 TARGET, the
Sponge values of RASc_BEAMb_SUB and of the routing entries, R487 for reserved sources). -/
def resetWord (off : Nat) : Nat :=
  match regFind off with
  | none => 0
  | some (r, ix) =>
    let i := ix.getD 0 0
    if r.base = 0x10008 then (if i < 16 then r.rst else r.rst + 0x10000)
    else if r.base = 0x501008 then (if ix.getD 1 0 = 0 then 0x80 else 0)
    else if r.base = 0x1210000 then (if srcAssigned i then r.rst + 2 * srcSpongeFunc i else 0)
    else if r.base = 0x1210004 then (if srcAssigned i then r.rst else 0)
    else r.rst

/-! Register files. -/

/-- The word a register file holds at an offset. -/
def rfWord (rf : Tab Word) (off : Nat) : Nat := (tget (BitVec.ofNat 32 (resetWord off)) rf off).toNat

def rfGet (rf : Tab Word) (f : Fld) : Nat := bits (rfWord rf f.off) f.lo f.w

def rfPutWord (rf : Tab Word) (off v : Nat) : Tab Word := tset rf off (BitVec.ofNat 32 v)

def rfSet (rf : Tab Word) (f : Fld) (v : Nat) : Tab Word := rfPutWord rf f.off (putBits (rfWord rf f.off) f.lo f.w v)

/-- The word of a side's register. -/
def Side.word (d : Side) (off : Nat) : Nat := rfWord d.rf off

/-- The value of a field of a side's register. -/
def Side.get (d : Side) (f : Fld) : Nat := rfGet d.rf f

/-- A one-bit field as a Boolean. -/
def Side.flag (d : Side) (f : Fld) : Bool := d.get f == 1

/-- A side with a field of a register set. -/
def Side.set (d : Side) (f : Fld) (v : Nat) : Side := { d with rf := rfSet d.rf f v }

/-- A side with a whole register word set. -/
def Side.setWord (d : Side) (off v : Nat) : Side := { d with rf := rfPutWord d.rf off v }

/-- A field raised by n, wrapping at its width. -/
def Side.inc (d : Side) (f : Fld) (n : Nat) : Side := d.set f (d.get f + n)

/-- A 64-bit value in a low and a high register. -/
def Side.get64 (d : Side) (lo hi : Fld) : Nat := d.get lo + 2 ^ 32 * d.get hi

def Side.set64 (d : Side) (lo hi : Fld) (v : Nat) : Side := (d.set lo (v % 2 ^ 32)).set hi (v / 2 ^ 32 % 2 ^ 32)

def Hold.get (h : Hold) (f : Fld) : Nat := rfGet h.rf f
def Hold.flag (h : Hold) (f : Fld) : Bool := h.get f == 1
def Hold.set (h : Hold) (f : Fld) (v : Nat) : Hold := { h with rf := rfSet h.rf f v }
def Hold.inc (h : Hold) (f : Fld) (n : Nat) : Hold := h.set f (h.get f + n)
def Hold.set64 (h : Hold) (lo hi : Fld) (v : Nat) : Hold := (h.set lo (v % 2 ^ 32)).set hi (v / 2 ^ 32 % 2 ^ 32)

/-! Device time (R28, R29). -/

/-- Raw time as a number. -/
def Pkg.now (p : Pkg) : Nat := p.raw.toNat

/-- floor(rate × (raw − epoch) ÷ 2^40), the product formed exactly (R29). -/
def rateTerm (rate : Int) (raw epoch : Nat) : Int := Int.fdiv (rate * ((raw : Int) - epoch)) (2 ^ 40 : Nat)

/-- The rate in force, a signed 40-bit number (R29). -/
def Side.rate (d : Side) : Int := toSigned 40 (d.get F.TIM_RATE_LO_VAL + 2 ^ 32 * d.get F.TIM_RATE_HI_VAL)

/-- Device time at a raw instant, modulo 2^64 (R29). -/
def Side.devAt (d : Side) (raw : Nat) : Nat :=
  ofSigned 64 ((raw : Int) + d.get64 F.TIM_OFFSET_LO_VAL F.TIM_OFFSET_HI_VAL +
    rateTerm d.rate raw (d.get64 F.TIM_EPOCH_LO_VAL F.TIM_EPOCH_HI_VAL))

/-- Device time now. -/
def Side.dev (p : Pkg) (d : Side) : Nat := d.devAt p.now

/-! The PCIe functions. -/

def Pci.bme (c : Pci) : Fn → Bool
  | .pf0 => c.bme0
  | .pf1 => c.bme1

def Pci.setBme (c : Pci) (fn : Fn) (v : Bool) : Pci :=
  match fn with
  | .pf0 => { c with bme0 := v }
  | .pf1 => { c with bme1 := v }

/-- The number of a function. -/
def fnNum : Fn → Nat
  | .pf0 => 0
  | .pf1 => 1

def fnOf (n : Nat) : Fn := if n = 0 then .pf0 else .pf1

/-- The function a submission or completion ring number belongs to (R56). -/
def ringFnNum (n : Nat) : Fn := if n < 16 then .pf0 else .pf1

/-- The function of a completion or event ring (R56). -/
def ringFn : RingId → Fn
  | .cq n => ringFnNum n
  | .eq e => fnOf e

def Outbound.fn : Outbound → Option Fn
  | .hostWrite fn _ _ => some fn
  | .msix fn _ => some fn
  | _ => none

/-- The word of a function's MSI-X table: entry v, word k (address low, high, data, vector control; R57). Every vector
is masked until its control word is written (log entry 9). -/
def Pci.msixWord (c : Pci) (fn : Fn) (v k : Nat) : Nat :=
  (tget (if k = 3 then 1 else 0) c.msix (fnNum fn * 0x200 + v * 4 + k)).toNat

def Pci.setMsix (c : Pci) (fn : Fn) (v k x : Nat) : Pci :=
  { c with msix := tset c.msix (fnNum fn * 0x200 + v * 4 + k) (BitVec.ofNat 32 x) }

/-- A vector is masked: by its own bit, by Function Mask, or while MSI-X is off (R54, R78). -/
def Pci.masked (c : Pci) (fn : Fn) (v : Nat) : Bool :=
  bit (c.msixWord fn v 3) 0 || tget false c.fnMask (fnNum fn) || !tget false c.msixOn (fnNum fn)

def Pci.isPend (c : Pci) (fn : Fn) (v : Nat) : Bool := tget false c.pend (fnNum fn * 0x80 + v)

def Pci.setPend (c : Pci) (fn : Fn) (v : Nat) (x : Bool) : Pci :=
  { c with pend := tset c.pend (fnNum fn * 0x80 + v) x }

/-- An MSI-X message: the vector's data word is written to its address (R78). -/
def Pkg.sendMsix (p : Pkg) (fn : Fn) (v : Nat) : Pkg :=
  if p.pci.masked fn v then { p with pci := p.pci.setPend fn v true }
  else { p with host := memWrite p.host (p.pci.msixWord fn v 0 + 2 ^ 32 * p.pci.msixWord fn v 1)
                  (leBytes 4 (p.pci.msixWord fn v 2)) }

/-! Configuration space (R54, R57). -/

/-- A BAR: bytes, and whether it is a 64-bit, memory, prefetchable one. -/
structure Bar where
  size : Nat
  is64 : Bool := true
  mem : Bool := true
  prefetch : Bool := false
  deriving DecidableEq, Repr

/-- The BARs of a function (R57). -/
def barOf (fn : Fn) : Nat → Option Bar
  | 0 => some { size := match fn with
                  | .pf0 => 0x4000000
                  | .pf1 => 0x100000 }
  | 2 => some { size := 0x100000 }
  | 4 => some { size := 0x4000 }
  | _ => none

/-- The device ID of a function (R54). -/
def Pkg.devIdOf (p : Pkg) (fn : Fn) : Nat := (if p.fuses.is7708 then 0x7708 else 0x7716) + fnNum fn

/-- The low bits of a BAR register: memory or I/O, 64-bit, prefetchable. -/
def Bar.attr (b : Bar) : Nat := b2n (!b.mem) + (if b.is64 then 4 else 0) + 8 * b2n b.prefetch

/-- A word of a function's configuration header, by its number: IDs, Bus Master Enable, revision and class, header type of a device
of two functions, the attributes of the BARs, subsystem IDs. The host's own settings beside these are not held. -/
def Pkg.cfgWord (p : Pkg) (fn : Fn) (k : Nat) : Nat :=
  match k with
  | 0 => 0x1F3D + 65536 * p.devIdOf fn
  | 1 => 4 * b2n (p.pci.bme fn)
  | 2 => 0xB0 + 256 * 0x118000
  | 3 => 0x800000
  | 11 => p.pci.subsys
  | _ => match barOf fn (k - 4) with
    | some b => if k < 4 then 0 else b.attr
    | none => 0

/-! BeamLink ports of the hold die. -/

def Hold.port (h : Hold) (n : Nat) : Port := tget {} h.ports n

def Hold.setPort (h : Hold) (n : Nat) (x : Port) : Hold := { h with ports := tset h.ports n x }

/-- One packet leaves the package: a host write or a message of a function with Bus Master Enable set; a DOT frame whose number is
the first not yet accepted or a later one is taken for its port's elastic FIFO (R23, R218); a setpoint joins those its port gathers (R201). -/
def Pkg.emit (p : Pkg) : Outbound → Pkg
  | .hostWrite _ a l => { p with host := memWrite p.host a l }
  | .msix fn v => p.sendMsix fn v
  | .dot n num owner t0 body =>
    let x := p.hold.port n
    if num < x.num then p
    else { p with hold := p.hold.setPort n { x with num := num + 1, stage := x.stage ++ [⟨owner, t0, body, 0⟩] } }
  | .setpt n item v =>
    let x := p.hold.port n
    { p with hold := p.hold.setPort n { x with pend := tset x.pend item v } }
  | .ptp n a m => { p with hold := { p.hold with eth := p.hold.eth ++ [(n, a, m)] } }

/-- A packet of the active side: sent at once, or held in order while the function's Bus Master Enable is 0 (R82). -/
def Pkg.send (p : Pkg) (o : Outbound) : Pkg :=
  match o.fn with
  | some fn => if p.pci.bme fn then p.emit o else { p with pci := { p.pci with held := p.pci.held ++ [o] } }
  | none => p.emit o

/-- The held packets of one function leave, in order (R82). -/
def Pkg.flushHeld (p : Pkg) (fn : Fn) : Pkg :=
  let mine := p.pci.held.filter (fun o => o.fn == some fn)
  let rest := p.pci.held.filter (fun o => o.fn != some fn)
  mine.foldl Pkg.emit { p with pci := { p.pci with held := rest } }

/-! Roles and health (R385), and the wrapper over both sides. -/

def Hold.health (h : Hold) : SideId → Nat
  | .a => h.get F.HLD_TWN_STATUS_HEALTH_A
  | .b => h.get F.HLD_TWN_STATUS_HEALTH_B

def Hold.setHealth (h : Hold) (x : SideId) (v : Nat) : Hold :=
  match x with
  | .a => h.set F.HLD_TWN_STATUS_HEALTH_A v
  | .b => h.set F.HLD_TWN_STATUS_HEALTH_B v

/-- A side that is powered and out of reset: STALE or SYNCED (R385), its core clock not stopped (R495, kind 8). -/
def Hold.alive (h : Hold) (x : SideId) : Bool := decide (2 ≤ h.health x) && !h.stopped.contains x

/-- A side that runs its engines: alive, and not in DEEP (R469). -/
def Hold.running (h : Hold) (x : SideId) : Bool := h.alive x && !h.deep

/-- The side that holds or last held the grant (R410). -/
def Hold.active (h : Hold) : SideId := if h.flag F.HLD_TWN_STATUS_ACTIVE then .b else .a

def Hold.granted (h : Hold) : Bool := h.flag F.HLD_TWN_STATUS_GRANTED

def otherSide : SideId → SideId
  | .a => .b
  | .b => .a

def State.side (s : State) : SideId → Side
  | .a => s.sideA
  | .b => s.sideB

def State.setSide (s : State) (x : SideId) (d : Side) : State :=
  { s with
    sideA := match x with
      | .a => d
      | .b => s.sideA
    sideB := match x with
      | .a => s.sideB
      | .b => d }

def State.actSide (s : State) : Side := s.side s.pkg.hold.active

/-- A setpoint, or a PTP message: no failover gap keeps one (R218, R417). -/
def Outbound.isSetpt : Outbound → Bool
  | .setpt _ _ _ => true
  | .ptp _ _ _ => true
  | _ => false

/-- SSR lines that a side drives (R331). -/
def Side.ssrLines (d : Side) : List Nat := (List.range 8).filter fun k => (tget none d.pio.on k).isSome

/-- The output hold stage takes the active side's PWM duties and SSR lines (R391, R394). -/
def Hold.image (h : Hold) (d : Side) : Hold := { h with pwm := d.foc.duty, ssr := d.ssrLines }

/-- What leaves after a step of both sides: the active side's output while a side holds the grant (R14, R21); none in
SAFE and during boot. In the gap of a failover, and while a granted side has stopped and is not declared lost yet, the output waits in
order for the grant (R84, R218), but for setpoints and PTP messages. -/
def State.deliver (s : State) : State :=
  if s.pkg.hold.granted && s.pkg.hold.alive s.pkg.hold.active then
    let k := s.actSide.out.foldl Pkg.send s.pkg
    { s with pkg := { k with hold := k.hold.image s.actSide,
                             given := k.given ++ s.sideA.out.map (SideId.a, ·) ++ s.sideB.out.map (SideId.b, ·) },
             sideA := { s.sideA with out := [] }, sideB := { s.sideB with out := [] } }
  else if s.pkg.hold.granted || s.pkg.hold.gap.isSome then
    { s with sideA := { s.sideA with out := s.sideA.out.filter (!·.isSetpt) },
             sideB := { s.sideB with out := s.sideB.out.filter (!·.isSetpt) } }
  else { s with sideA := { s.sideA with out := [] }, sideB := { s.sideB with out := [] } }

/-- One step of a side's engines on every side that runs, from the same inputs (R14, R19 to R22), each use taking the
next free values; then the active side's output leaves. -/
def State.both (s : State) (f : Pkg → Side → Side) : State :=
  let a := if s.pkg.hold.running .a then f s.pkg s.sideA else s.sideA
  let b := if s.pkg.hold.running .b then f s.pkg s.sideB else s.sideB
  State.deliver { s with pkg := { s.pkg with free := s.pkg.free + 1 }, sideA := a, sideB := b }

/-- The same for the always-on domain, which works in DEEP too (R469). -/
def State.bothOn (s : State) (f : Pkg → Side → Side) : State :=
  let a := if s.pkg.hold.alive .a then f s.pkg s.sideA else s.sideA
  let b := if s.pkg.hold.alive .b then f s.pkg s.sideB else s.sideB
  State.deliver { s with pkg := { s.pkg with free := s.pkg.free + 1 }, sideA := a, sideB := b }

/-- An injection of a kind acts (R495). -/
def Pkg.injActing (p : Pkg) (kind : Nat) : Bool :=
  p.hold.get F.HLD_INJ_STATUS_STATE == 2 && p.hold.get F.HLD_INJ_CFG_KIND == kind

/-- The side that an injection targets; TARGET 2 names the hold die. -/
def Hold.injSide (h : Hold) : SideId := if h.get F.HLD_INJ_CFG_TARGET = 1 then .b else .a

/-- Raw time moved on to an instant that is not earlier (R28; log entry 3). -/
def Pkg.advance (p : Pkg) (t : Nat) : Pkg := if reached t p.now then { p with raw := BitVec.ofNat 64 t } else p

def State.advance (s : State) (t : Nat) : State := { s with pkg := s.pkg.advance t }

end Sys2Proof.Machine
end

