-- ==== Sys2Proof/Machine/Flags.lean ====
section
/-! DEFINITION. Flags, faults and notices: setting a W1C flag posts a fault (R476), a fault enters its block's history
queue (R481, R482), and every posting is routed to an event ring and to MSI-X (R485, R72, R73, R78). -/

namespace Sys2Proof.Machine

/-! Completion and event rings: the common registers (R86, R89). -/

def ringBase : RingId → Nat
  | .cq n => 0x20000 + 0x40 * n
  | .eq e => 0x30000 + 0x40 * e

def ringIx : RingId → Nat
  | .cq n => n
  | .eq e => 64 + e

def rBaseLo (r : RingId) : Fld := ⟨ringBase r, 12, 20⟩
def rBaseHi (r : RingId) : Fld := ⟨ringBase r + 4, 0, 32⟩
def rEnable (r : RingId) : Fld := ⟨ringBase r + 8, 0, 1⟩
def rSize (r : RingId) : Fld := ⟨ringBase r + 8, 1, 4⟩
def rVector (r : RingId) : Fld := ⟨ringBase r + 8, 8, 7⟩
def rIrqEn (r : RingId) : Fld := ⟨ringBase r + 8, 15, 1⟩
def rCoalCnt (r : RingId) : Fld := ⟨ringBase r + 8, 16, 8⟩
def rCoalTime (r : RingId) : Fld := ⟨ringBase r + 8, 24, 8⟩
def rHead (r : RingId) : Fld := ⟨ringBase r + 0x10, 0, 16⟩
def rTail (r : RingId) : Fld := ⟨ringBase r + 0x10, 16, 16⟩
def rState (r : RingId) : Fld := ⟨ringBase r + 0x14, 0, 2⟩
def rPhase (r : RingId) : Fld := ⟨ringBase r + 0x14, 2, 1⟩

/-- The ring's bound addresses: base of its memory. -/
def Side.ringMem (d : Side) (r : RingId) : Nat := d.get (rBaseLo r) * 0x1000 + 2 ^ 32 * d.get (rBaseHi r)

/-- Entries written and not yet released (R71, R76). -/
def Side.ringUsed (d : Side) (r : RingId) : Nat :=
  let n := 2 ^ d.get (rSize r)
  (d.get (rTail r) + n - d.get (rHead r) % n) % n

/-- The ring holds 2^SIZE − 1 unreleased entries (R71). -/
def Side.ringFull (d : Side) (r : RingId) : Bool := decide (2 ^ d.get (rSize r) - 1 ≤ d.ringUsed r)

/-- Something is handed to the hold die; of a SET item the side keeps the latest value (R391). -/
def Side.send (d : Side) (o : Outbound) : Side :=
  match o with
  | .setpt n item v => { d with out := d.out ++ [o], twn := { d.twn with items := tset d.twn.items (65536 * n + item) v } }
  | _ => { d with out := d.out ++ [o] }

/-- Signal a ring's vector: the message covers every entry written before it (R78). -/
def Side.ringSignal (d : Side) (r : RingId) : Side :=
  { d with out := d.out ++ [.msix (ringFn r) (d.get (rVector r))],
           hif := { d.hif with msg := tmod {} d.hif.msg (ringIx r) fun m => { m with unsig := 0 } } }

/-- Account an entry just written and signal it if its coalescing rule says so (R78). -/
def Side.ringCoalesce (d : Side) (p : Pkg) (r : RingId) (irq : Bool) : Side :=
  let m := tget {} d.hif.msg (ringIx r)
  let m' : RingMsg := { m with unsig := m.unsig + 1, firstAt := if m.unsig = 0 then p.now else m.firstAt }
  let d' := { d with hif := { d.hif with msg := tset d.hif.msg (ringIx r) m' } }
  let due := irq || d.get (rCoalTime r) == 0 || decide (max 1 (d.get (rCoalCnt r)) ≤ m'.unsig)
  if d.get (rIrqEn r) == 1 && due then d'.ringSignal r else d'

/-- Write one entry of 32 bytes at TAIL with the write phase in its top bit, and move TAIL on (R70). -/
def Side.ringWrite (d : Side) (p : Pkg) (r : RingId) (irq : Bool) (lo28 : List Byte) (dw7 : Nat) : Side :=
  let tail := d.get (rTail r)
  let n := 2 ^ d.get (rSize r)
  let bytes := lo28 ++ leBytes 4 (dw7 + 2 ^ 31 * d.get (rPhase r))
  let d1 := d.send (.hostWrite (ringFn r) (d.ringMem r + 32 * tail) bytes)
  let d2 := d1.set (rTail r) ((tail + 1) % n)
  let d3 := if tail + 1 = n then d2.set (rPhase r) (1 - d.get (rPhase r)) else d2
  d3.ringCoalesce p r irq

/-! Posting (R475 to R488). -/

/-- An event: source, code, DETAIL, DETAIL2 (R475, R476). -/
structure Ev where
  src : Nat
  code : Nat
  detail : Nat
  detail2 : Nat
  deriving DecidableEq, Repr

/-- The history queue entry of an event (R482, R484). -/
def Hist.push (h : Hist) (e : Ev) (stamp : Nat) : Hist :=
  { count := (h.count + 1) % 2 ^ 32,
    slots := tset h.slots (h.count % 8) ⟨e.src + 2 ^ 16 * e.code + 2 ^ 24 * (h.count % 256), e.detail, stamp, e.detail2⟩ }

/-- The block, by region number, whose queue holds a source's faults (R475, R481). -/
def srcBlock (n : Nat) : Nat :=
  if n < 0x0C0 then 0x0 else if n < 0x0E0 then 0x1 else if n < 0x0F0 then 0x2 else if n < 0x100 then 0x3
  else if n < 0x110 then 0x4 else if n < 0x120 then 0x5 else if n < 0x130 then 0x6 else if n < 0x140 then 0x7
  else if n < 0x160 then 0x8 else if n < 0x1E0 then 0x9 else if n < 0x220 then 0xA else if n < 0x240 then 0xB
  else if n < 0x250 then 0xC else if n < 0x260 then 0xD else if n < 0x270 then 0xE else if n < 0x280 then 0xF
  else if n < 0x290 then 0x10 else if n < 0x2A0 then 0x11 else if n < 0x2B0 then 0x12 else if n < 0x2C0 then 0x13
  else 0x12

def Side.histPush (d : Side) (e : Ev) (stamp : Nat) : Side :=
  { d with hist := tmod {} d.hist (srcBlock e.src) fun h => h.push e stamp }

/-- The event ring entry of an event (R72): its first 28 bytes. -/
def evEntry (e : Ev) (stamp lost : Nat) : List Byte :=
  leBytes 4 (e.src + 2 ^ 16 * e.code) ++ leBytes 4 e.detail ++ leBytes 8 stamp ++ leBytes 8 e.detail2 ++ leBytes 4 lost

/-- What the ring did with an event: written or not asked for, no ring running, or dropped from a full ring. -/
inductive RingRes where
  | ok | noRing | dropped (e : Nat)
  deriving DecidableEq, Repr

/-- Write a routed event to event ring f (R485), or count that it was skipped (EVT_UNRINGED) or dropped (R73). -/
def Side.toRing (d : Side) (p : Pkg) (f : Nat) (e : Ev) (stamp : Nat) : Side × RingRes :=
  let r : RingId := .eq f
  if d.get (rState r) ≠ 1 then (d.inc F.EVT_UNRINGED_COUNT 1, .noRing)
  else if d.ringFull r then
    let lt := d.get (F.HIF_EQ_STATUS_LOST_TOTAL f)
    let d1 := d.set (F.HIF_EQ_STATUS_LOST_TOTAL f) (if lt < 65535 then lt + 1 else lt)
    ({ d1 with hif := { d1.hif with msg := tmod {} d1.hif.msg (ringIx r) fun m => { m with lost := min 65535 (m.lost + 1) } } },
      .dropped f)
  else
    let lost := (tget {} d.hif.msg (ringIx r)).lost
    let d1 := d.ringWrite p r false (evEntry e stamp lost) 0
    ({ d1 with hif := { d1.hif with msg := tmod {} d1.hif.msg (ringIx r) fun m => { m with lost := 0 } } }, .ok)

/-- The direct message of a routed event (R485). -/
def Side.toDirect (d : Side) (e : Ev) : Side :=
  let fn := fnOf (d.get (F.EVT_ROUTE_FUNC e.src))
  let v := d.get (F.EVT_ROUTE_VECTOR e.src)
  match d.get (F.EVT_ROUTE_DIRECT e.src) with
  | 1 => d.send (.msix fn v)
  | 2 => if d.flag (F.EVT_ROUTE_ARMED e.src) then (d.send (.msix fn v)).set (F.EVT_ROUTE_ARMED e.src) 0 else d
  | _ => d

/-- Count a posting and route it under the mask and route in force (R485). -/
def Side.routeEv (d : Side) (p : Pkg) (e : Ev) (stamp : Nat) : Side × RingRes :=
  let d1 := { d.inc F.EVT_POSTED_COUNT 1 with posted := d.posted ++ [(e.src, p.now)] }
  if bit (d.get (F.EVT_MASK_CODES e.src)) e.code then
    let r := if d.flag (F.EVT_ROUTE_RING e.src) then d1.toRing p (d.get (F.EVT_ROUTE_FUNC e.src)) e stamp else (d1, .ok)
    (r.1.toDirect e, r.2)
  else (d1, .ok)

/-- A delivery fault (R485): the flag is set, its entry made and its posting routed; a skip or drop of that posting
sets no flag and posts nothing. -/
def Side.deliveryFault (d : Side) (p : Pkg) (src : Nat) (f : Fld) (stamp : Nat) : Side :=
  let d1 := d.set f 1
  let e : Ev := ⟨src, f.lo, d1.word f.off, 0⟩
  ((d1.histPush e stamp).routeEv p e stamp).1

/-- Route an event; if it was skipped or dropped, post the delivery fault that this makes (R73, R485). -/
def Side.routePost (d : Side) (p : Pkg) (e : Ev) (stamp : Nat) : Side :=
  match d.routeEv p e stamp with
  | (d1, .ok) => d1
  | (d1, .noRing) => d1.deliveryFault p 0x2A0 F.EVT_STATUS_NO_RING stamp
  | (d1, .dropped q) => d1.deliveryFault p (0x090 + q) (F.HIF_EQ_STATUS_DROPPED q) stamp

/-- Post a notice (R476): nothing is entered in a history queue. -/
def Side.notice (d : Side) (p : Pkg) (src code detail detail2 : Nat) : Side :=
  if srcAbsent p.fuses.is7708 src then d else d.routePost p ⟨src, code, detail, detail2⟩ (d.dev p)

/-- Set a W1C flag and post its fault with the DETAIL its chapter states (R476, R482). -/
def Side.faultD (d : Side) (p : Pkg) (src : Nat) (f : Fld) (detail detail2 : Nat) : Side :=
  if srcAbsent p.fuses.is7708 src then d
  else
    let e : Ev := ⟨src, f.lo, detail % 2 ^ 32, detail2 % 2 ^ 64⟩
    ((d.set f 1).histPush e (d.dev p)).routePost p e (d.dev p)

/-- Set a W1C flag and post its fault; DETAIL holds the status register after the flag is set (R476). -/
def Side.fault (d : Side) (p : Pkg) (src : Nat) (f : Fld) : Side :=
  d.faultD p src f ((d.set f 1).word f.off) 0

/-- Set a flag and post its fault if a condition holds. -/
def Side.faultIf (d : Side) (p : Pkg) (c : Bool) (src : Nat) (f : Fld) : Side := if c then d.fault p src f else d

/-- A SECURITY retirement or a refused JOB read: DENIED is counted and set (R457). -/
def Side.secDenied (p : Pkg) (d : Side) : Side := (d.inc F.SEC_DENIED_COUNT 1).fault p 0x280 F.SEC_STATUS_DENIED

/-! The hold die's postings: its own history queue, and both sides route them (R479). -/

/-- Device time as the package's sides compute it: the active side's. -/
def State.dev (s : State) : Nat := s.actSide.dev s.pkg

/-- Set a W1C flag of the hold die and post its fault (R410, R476, R479). -/
def State.holdFaultD (s : State) (src : Nat) (f : Fld) (detail : Nat) : State :=
  if srcAbsent s.pkg.fuses.is7708 src then s
  else
    let e : Ev := ⟨src, f.lo, detail % 2 ^ 32, 0⟩
    let h := s.pkg.hold.set f 1
    let s1 := { s with pkg := { s.pkg with hold := { h with hist := h.hist.push e s.dev } } }
    s1.both fun p d => d.routePost p e (d.dev p)

def State.holdFault (s : State) (src : Nat) (f : Fld) : State :=
  s.holdFaultD src f (rfWord (s.pkg.hold.set f 1).rf f.off)

end Sys2Proof.Machine
end

