-- ==== Sys2Proof/Machine/Refuse.lean ====
section
/-! DEFINITION. Where a register write goes before its block judges it: the states in which nothing takes it (R392, R507), the
recipe in force (R442, R444); and the flag that a refusal sets (R12). -/

namespace Sys2Proof.Machine

/-! Sources and flags of field-control units; unit u is field-control unit u below 16 and stepper unit u − 16 from 16 on. -/

def pickF (f g : Nat → Fld) (u : Nat) : Fld := if u < 16 then f u else g (u - 16)

def uWINDOW_VIOL (u : Nat) : Fld := pickF F.FOC_STATUS_WINDOW_VIOL F.FOC_STP_STATUS_WINDOW_VIOL u

/-- The event source of a unit (R475). -/
def srcUnit (u : Nat) : Nat := 0x220 + u

/-- The event source of a bus (R475). -/
def srcBus (b : Nat) : Nat := 0x238 + b

/-- The unit that owns a sigma-delta channel, none for the channels of buses. -/
def chUnit (ch : Nat) : Option Nat := if ch < 48 then some (ch / 2) else none

/-! The flag that a refused write sets (R12, R475). -/

/-- Source and flag for a register of a side. The registers of MOT and FOC that belong to no axis, port, unit or bus have no status
register of their own: DESIGN CHOICE (log entry 135), the flag is that of axis 0 or of field-control unit 0. -/
def violFlag (off : Nat) : Nat × Fld :=
  let o := off % 0x100000
  match off / 0x100000 with
  | 0x0 =>
    if o < 0x10000 then (0, F.HIF_STATUS_WINDOW_VIOL)
    else if o < 0x20000 then (0x010 + (o - 0x10000) / 0x40, F.HIF_SQ_STATUS_WINDOW_VIOL ((o - 0x10000) / 0x40))
    else if o < 0x30000 then (0x050 + (o - 0x20000) / 0x40, F.HIF_CQ_STATUS_WINDOW_VIOL ((o - 0x20000) / 0x40))
    else (0x090 + (o - 0x30000) / 0x40, F.HIF_EQ_STATUS_WINDOW_VIOL ((o - 0x30000) / 0x40))
  | 0x1 => (0x0C0 + o / 0x1000, F.DMA_STATUS_WINDOW_VIOL (o / 0x1000))
  | 0x2 => (0x0E0, F.STR_STATUS_WINDOW_VIOL)
  | 0x3 => (0x0F0, F.PLN_STATUS_WINDOW_VIOL)
  | 0x4 => (0x100 + o / 0x1000, F.BLK_STATUS_WINDOW_VIOL (o / 0x1000))
  | 0x5 => (0x110 + o / 0x10000, F.RAS_STATUS_WINDOW_VIOL (o / 0x10000))
  | 0x6 => (0x120 + o / 0x10000, F.VEC_STATUS_WINDOW_VIOL (o / 0x10000))
  | 0x7 => (0x130, F.STI_STATUS_WINDOW_VIOL)
  | 0x8 => if o < 0x80000 then (0x140 + o / 0x8000, F.MPL_CH_STATUS_WINDOW_VIOL (o / 0x8000))
           else (0x150, F.MPL_STATUS_WINDOW_VIOL)
  | 0x9 => (0x160, F.LAW_STATUS_WINDOW_VIOL)
  | 0xA =>
    if o < 0x20000 then (0x1E0 + o / 0x1000, F.MOT_STATUS_WINDOW_VIOL (o / 0x1000))
    else if o < 0x30000 then (0x200 + (o - 0x20000) / 0x20, F.MOT_ENC_STATUS_WINDOW_VIOL ((o - 0x20000) / 0x20))
    else (0x1E0, F.MOT_STATUS_WINDOW_VIOL 0)
  | 0xB =>
    if o < 0x10000 then (srcUnit (o / 0x1000), uWINDOW_VIOL (o / 0x1000))
    else if o < 0x20000 then (srcUnit (16 + (o - 0x10000) / 0x1000), uWINDOW_VIOL (16 + (o - 0x10000) / 0x1000))
    else if o < 0x30000 then (srcBus ((o - 0x20000) / 0x100), F.FOC_BUS_STATUS_WINDOW_VIOL ((o - 0x20000) / 0x100))
    else
      let u := if 0x32000 ≤ o then (chUnit ((o - 0x32000) / 4)).getD 0 else 0
      (srcUnit u, uWINDOW_VIOL u)
  | 0xC => (0x240, F.PIO_STATUS_WINDOW_VIOL)
  | 0xD => (0x250, F.TWN_STATUS_WINDOW_VIOL)
  | 0xE => (0x260, F.TIM_STATUS_WINDOW_VIOL)
  | 0xF => if o < 0x1000 then (0x270, F.PTP_STATUS_WINDOW_VIOL)
           else (0x271 + (o - 0x1000) / 0x100, F.PTP_P_STATUS_WINDOW_VIOL ((o - 0x1000) / 0x100))
  | 0x10 => (0x280, F.SEC_STATUS_WINDOW_VIOL)
  | 0x11 => (0x290, F.THM_STATUS_WINDOW_VIOL)
  | 0x12 => (0x2A0, F.EVT_STATUS_WINDOW_VIOL)
  | _ => (0x2B0, F.CFG_STATUS_WINDOW_VIOL)

/-- A write to a side's register is refused. -/
def Side.refuse (p : Pkg) (off : Nat) (d : Side) : Side := d.fault p (violFlag off).1 (violFlag off).2

/-- The hold die's flag for an offset of the HLD region. -/
def holdViolFlag (off : Nat) : Nat × Fld :=
  let o := off % 0x100000
  if 0x1000 ≤ o && o < 0x2000 then (0x410 + (o - 0x1000) / 0x10, F.HLD_DWELL_STATUS_WINDOW_VIOL ((o - 0x1000) / 0x10))
  else if 0x2000 ≤ o && o < 0x3000 then (0x420, F.HLD_FLT_STATUS_WINDOW_VIOL)
  else (0x400, F.HLD_TWN_STATUS_WINDOW_VIOL)

/-! Recipes (R442, R444). -/

/-- The lowest set bit of a mask, by fuel. -/
def maskLo : Nat → Nat → Nat
  | 0, _ => 0
  | n + 1, m => if m % 2 = 1 then 0 else maskLo n (m / 2) + 1

/-- The number of ones from bit 0 up, by fuel. -/
def maskOnes : Nat → Nat → Nat
  | 0, _ => 0
  | n + 1, m => if m % 2 = 1 then maskOnes n (m / 2) + 1 else 0

def RecEnt.lo (e : RecEnt) : Nat := maskLo 32 e.mask

def RecEnt.w (e : RecEnt) : Nat := maskOnes 32 (e.mask / 2 ^ e.lo)

/-- The field of an entry in a word, as the entry reads it (R442). -/
def RecEnt.val (e : RecEnt) (word : Nat) : Int :=
  if e.kind = 0 then (bits word e.lo e.w : Int) else toSigned e.w (bits word e.lo e.w)

/-- A or B as a bound. -/
def RecEnt.bound (e : RecEnt) (x : Nat) : Int := if e.kind = 0 then (x : Int) else toSigned 32 x

/-- A word meets an entry. -/
def RecEnt.holds (e : RecEnt) (word : Nat) : Bool :=
  match e.kind with
  | 2 => e.val word == e.bound e.a
  | 3 => true
  | _ => decide (e.bound e.a ≤ e.val word) && decide (e.val word ≤ e.bound e.b)

/-- A write of a word breaks an entry that names its register (R444). -/
def Side.breaks (d : Side) (off word : Nat) : Bool :=
  d.sec.recipe.any fun e => e.kind != 3 && e.off == off && !e.holds word

/-- RECIPE_VIOL, with the offset (R444). -/
def Side.recipeViol (p : Pkg) (off : Nat) (d : Side) : Side :=
  (d.setWord F.SEC_RECIPE_LAST_OFFSET.off off).fault p 0x280 F.SEC_STATUS_RECIPE_VIOL

/-- A write that breaks the recipe is refused as R12 sets out, and recorded. -/
def State.recipeRefuse (s : State) (off : Nat) : State :=
  if off / 0x100000 = 0x3F then
    (s.holdFault (holdViolFlag off).1 (holdViolFlag off).2).both fun p d => d.recipeViol p off
  else s.both fun p d => (d.refuse p off).recipeViol p off

/-! Writes that nothing takes (R392, R507). -/

/-- A register at an offset of PF0 BAR0 takes writes: not while the hold die is in reset; the HLD region always; in SAFE and
before rings ready only the CFG region and HIF_STATUS, while a side boots. -/
def State.takes (s : State) (off : Nat) : Bool :=
  let h := s.pkg.hold
  let boots := h.health .a == 1 || h.health .b == 1
  if h.down then false
  else if off / 0x100000 = 0x3F then true
  else if h.flag F.HLD_TWN_STATUS_SAFE || (!h.granted && h.gap.isNone && !h.deep) then
    boots && (off / 0x100000 == 0x13 || off == 0)
  else true

/-- t: what a write of a word to a register does once its block takes it; pf0: the write comes from PF0. -/
def State.asWrite (s : State) (pf0 : Bool) (off word : Nat) (t : State) : State :=
  if !s.takes off then s
  else if pf0 && s.actSide.breaks off word then s.recipeRefuse off
  else t

/-- The same for a doorbell or an MSI-X word. -/
def State.asPosted (s : State) (t : State) : State := if s.takes 0x10000 then t else s

end Sys2Proof.Machine
end

