-- ==== Sys2Proof/Machine/Timebase.lean ====
section
/-! DEFINITION. Device time, control tick and fine tick (spec/02): the timebase's commands, its alarms, and its part of
the control tick edge and of the fine-tick boundary. -/

namespace Sys2Proof.Machine

/-- A plate record of the side is in a state that closes the PLATE window (R11): COMMITTED 1, WAITING 2, STARTED 3 or
ENDING 4. -/
def Side.recActive (d : Side) (p : Nat) : Bool :=
  let st := d.get (F.PLN_PLATE_STATE_STATE p)
  1 ≤ st && st ≤ 4

def Side.plateWindow (d : Side) : Bool := !(d.recActive 0 || d.recActive 1 || d.recActive 2 || d.recActive 3)

/-- A record is STARTED or ENDING. -/
def Side.recRunning (d : Side) (p : Nat) : Bool :=
  let st := d.get (F.PLN_PLATE_STATE_STATE p)
  st == 3 || st == 4

def Side.anyRunning (d : Side) : Bool := d.recRunning 0 || d.recRunning 1 || d.recRunning 2 || d.recRunning 3

/-! Aligned instants (R41). -/

/-- The smallest t ≥ n with t mod p = ph (ph < p). -/
def alignUp (p ph n : Nat) : Nat := if p = 0 then n else n + (p + ph - n % p) % p

/-- The smallest aligned instant that is not before n, as a 64-bit device time: past the wrap of device time the instants are aligned
anew, since t mod P = PHASE holds of the 64-bit t (R41). -/
def align64 (p ph n : Nat) : Nat := if alignUp p ph (n % 2 ^ 64) < 2 ^ 64 then alignUp p ph (n % 2 ^ 64) else ph

/-- Control tick length in force as a fine tick: P ÷ 20. -/
def Tim.fineNs (t : Tim) : Nat := t.tickNs / 20

/-- The first fine-tick instant later than n. -/
def Tim.nextFineAfter (t : Tim) (n : Nat) : Nat := align64 t.fineNs (t.phase % t.fineNs) (n + 1)

/-- The first control tick edge later than n (R41). -/
def Tim.nextEdgeAfter (t : Tim) (n : Nat) : Nat := align64 t.tickNs t.phase (n + 1)

/-- The first control tick edge after a step or a tick change at device time n (R35). -/
def Tim.realigned (t : Tim) (n : Nat) : Nat := align64 t.tickNs t.phase (n + (t.tickNs + 1) / 2)

/-- Fine-tick boundaries later than a and no later than b (R36). -/
def Tim.finesIn (t : Tim) (a b : Nat) : Nat :=
  let f := t.nextFineAfter a
  if reached b f then (tdiff b f).toNat / t.fineNs + 1 else 0

/-! Snapshots (R36). -/

/-- SNAP: VALID clears and the capture is taken; the registers keep the previous capture until it is posted. DESIGN CHOICE (log
entry 132): a second SNAP before the posting takes the place of the first capture, and SEQ rises once for the two. -/
def Side.snap (p : Pkg) (d : Side) : Side :=
  let d1 := d.set F.TIM_SNAP_STATUS_VALID 0
  { d1 with tim := { d1.tim with snap := some (p.now, d.dev p, d.tim.count, d.tim.fine) } }

/-- The capture is posted: VALID is set and SEQ incremented (R36, R83). -/
def Side.snapPosted (_ : Pkg) (d : Side) : Side :=
  match d.tim.snap with
  | none => d
  | some (r, v, c, f) =>
    let d1 := (d.set64 F.TIM_SNAP_RAW_LO_VAL F.TIM_SNAP_RAW_HI_VAL r).set64 F.TIM_SNAP_DEV_LO_VAL F.TIM_SNAP_DEV_HI_VAL v
    let d2 := (d1.set64 F.TIM_SNAP_TICK_LO_VAL F.TIM_SNAP_TICK_HI_VAL c).set F.TIM_SNAP_STATUS_FINE f
    let d3 := (d2.inc F.TIM_SNAP_STATUS_SEQ 1).set F.TIM_SNAP_STATUS_VALID 1
    { d3 with tim := { d3.tim with snap := none } }

def execSnap (s : State) : Host.Outcome State Fault Refusal := .next (s.asWrite true 0xE00004 1 (s.both Side.snap))

def execSnapPosted (s : State) : Host.Outcome State Fault Refusal := .next (s.both Side.snapPosted)

/-! Adjustments, rates and jumps (R30 to R33). -/

/-- The largest staged rate magnitude, 1,000 ppm (R30). -/
def rateLimit : Nat := 1099511628

/-- RATE_GO with the staged rate x. -/
def Side.rateSubmit (p : Pkg) (x : Nat) (d : Side) : Side :=
  if (toSigned 40 x).natAbs ≤ rateLimit then
    let d1 := d.set F.TIM_STATUS_RATE_PENDING 1
    { d1 with tim := { d1.tim with stagedRate := x % 2 ^ 40 } }
  else d.fault p 0x260 F.TIM_STATUS_RATE_REFUSED

def Side.rateGo (p : Pkg) (d : Side) : Side :=
  d.rateSubmit p (d.get F.TIM_NEWRATE_LO_VAL + 2 ^ 32 * d.get F.TIM_NEWRATE_HI_VAL)

/-- The slew remainder, signed. -/
def Side.slewRem (d : Side) : Int := toSigned 32 (d.get F.TIM_SLEW_REM_VAL)

def Side.setSlewRem (d : Side) (r : Int) : Side :=
  (d.set F.TIM_SLEW_REM_VAL (ofSigned 32 r)).set F.TIM_STATUS_SLEWING (b2n (r ≠ 0))

/-- An adjustment of adj ns (R31, R32): slewed, or held as a pending jump, or dropped behind an accepted jump. -/
def Side.adjSubmit (p : Pkg) (adj : Int) (d : Side) : Side :=
  if (d.slewRem + adj).natAbs ≤ d.get F.TIM_JUMP_LIMIT_VAL then d.setSlewRem (d.slewRem + adj)
  else if d.flag F.TIM_STATUS_JUMP_ACCEPTED then d.fault p 0x260 F.TIM_STATUS_ADJ_DROPPED
  else
    ((d.set64 F.TIM_JUMP_PEND_LO_VAL F.TIM_JUMP_PEND_HI_VAL (ofSigned 64 adj)).set F.TIM_STATUS_JUMP_PENDING 1).fault p
      0x260 F.TIM_STATUS_JUMP_REFUSED

def Side.adjGo (p : Pkg) (d : Side) : Side :=
  d.adjSubmit p (toSigned 64 (d.get64 F.TIM_ADJ_LO_VAL F.TIM_ADJ_HI_VAL))

/-- JUMP_ACCEPT: a pending jump becomes accepted; with none pending it has no effect (R33, R51). -/
def Side.jumpAccept (_ : Pkg) (d : Side) : Side :=
  if d.flag F.TIM_STATUS_JUMP_PENDING then
    (d.set F.TIM_STATUS_JUMP_PENDING 0).set F.TIM_STATUS_JUMP_ACCEPTED 1
  else d

/-- Neither a pending nor an accepted jump is held (R33). -/
def Side.jumpDrop (d : Side) : Side := (d.set F.TIM_STATUS_JUMP_PENDING 0).set F.TIM_STATUS_JUMP_ACCEPTED 0

/-- ALIGNED (R423): LOCKED, and the last 16 accepted values within ±ALIGN_NS; a change is posted. -/
def Side.alignRefresh (p : Pkg) (d : Side) : Side :=
  let lim := d.get F.PTP_LIMITS_ALIGN_NS
  let now := d.get F.PTP_OFS_STATUS_SERVO == 2 && d.ptp.vals.length == 16 && d.ptp.vals.all fun v => v.natAbs ≤ lim
  if now == d.flag F.PTP_STATUS_ALIGNED then d
  else (d.set F.PTP_STATUS_ALIGNED (b2n now)).fault p 0x270 F.PTP_STATUS_ALIGN_CHG

/-- The servo enters ACQUIRE (R421) from any state in which it acts. -/
def Side.reacquire (p : Pkg) (d : Side) : Side :=
  let st := d.get F.PTP_OFS_STATUS_SERVO
  if st = 0 || st = 4 then d
  else { d.set F.PTP_OFS_STATUS_SERVO 1 with ptp := { d.ptp with fresh := 0, drops := 0 } }.alignRefresh p

/-- JUMP_DISCARD clears the pending and the accepted state (R33); a jump discarded by the user puts the servo into ACQUIRE
(R421). -/
def Side.jumpDiscard (p : Pkg) (d : Side) : Side :=
  if d.flag F.TIM_STATUS_JUMP_PENDING || d.flag F.TIM_STATUS_JUMP_ACCEPTED then d.jumpDrop.reacquire p else d

def execAdjGo (s : State) : Host.Outcome State Fault Refusal := .next (s.asWrite true 0xE00004 2 (s.both Side.adjGo))

def execRateGo (s : State) : Host.Outcome State Fault Refusal := .next (s.asWrite true 0xE00004 4 (s.both Side.rateGo))

def execJumpAccept (s : State) : Host.Outcome State Fault Refusal := .next (s.asWrite true 0xE00004 8 (s.both Side.jumpAccept))

def execJumpDiscard (s : State) : Host.Outcome State Fault Refusal := .next (s.asWrite true 0xE00004 16 (s.both Side.jumpDiscard))

/-! The tick length (R41, R43). -/

/-- A tick length and phase that R41 permits. -/
def tickOk (ns ph : Nat) : Bool := ns % 20 == 0 && 5000 ≤ ns && ns ≤ 50000 && decide (ph < ns)

/-- A write to TIM_TICK: refused outside the PLATE window if it would change a field, or if it breaks R41; accepted, the
new length and phase wait for the next edge (R43). Outside the window a write of the value held acts on nothing (R12).
A refused write sets WINDOW_VIOL. -/
def Side.tickWrite (p : Pkg) (v : Nat) (d : Side) : Side :=
  let chg := v ≠ d.word F.TIM_TICK_NS.off
  if (chg && !d.plateWindow) || !tickOk (bits v 0 16) (bits v 16 16) then d.fault p 0x260 F.TIM_STATUS_WINDOW_VIOL
  else if !d.plateWindow then d
  else (d.setWord F.TIM_TICK_NS.off v).set F.TIM_STATUS_TICK_PENDING 1

def execTimTickWrite (v : Word) (s : State) : Host.Outcome State Fault Refusal :=
  .next (s.asWrite true 0xE00090 v.toNat (s.both fun p d => d.tickWrite p v.toNat))

/-! Alarms (R39, R40). -/

/-- ARM copies the target, sets ARMED and clears FIRED and LATE; a target already reached fires late (R40). -/
def Side.alarmArm (p : Pkg) (n : Nat) (d : Side) : Side :=
  let tgt := d.get64 (F.TIM_ALM_LO_VAL n) (F.TIM_ALM_HI_VAL n)
  let d1 := ((d.set (F.TIM_ALM_CTRL_ARMED n) 1).set (F.TIM_ALM_CTRL_FIRED n) 0).set (F.TIM_ALM_CTRL_LATE n) 0
  { d1 with tim := { d1.tim with alarms := tset d1.tim.alarms n (tgt, reached (d.dev p) tgt) } }

def Side.alarmDisarm (n : Nat) (d : Side) : Side := d.set (F.TIM_ALM_CTRL_ARMED n) 0

/-- Alarm n fires: ARMED clears, FIRED is set with LATE, and its notice posts with LATE and the target (R39, R476). -/
def Side.alarmFires (p : Pkg) (n : Nat) (late : Bool) (d : Side) : Side :=
  let d1 := ((d.set (F.TIM_ALM_CTRL_ARMED n) 0).set (F.TIM_ALM_CTRL_FIRED n) 1).set (F.TIM_ALM_CTRL_LATE n) (b2n late)
  d1.notice p (0x268 + n) 9 (b2n late) (tget (0, false) d.tim.alarms n).1

/-- An armed alarm whose target is reached fires (R39), late if the target was reached already when it was armed
(R40). -/
def Side.alarmFire (p : Pkg) (n : Nat) (d : Side) : Side :=
  let a := tget (0, false) d.tim.alarms n
  if d.flag (F.TIM_ALM_CTRL_ARMED n) && reached (d.dev p) a.1 then d.alarmFires p n a.2 else d

def execAlarmArm (n : Nat) (s : State) : Host.Outcome State Fault Refusal :=
  if n < 8 then .next (s.asWrite true (0xE000A8 + 0x10 * n) 1 (s.both fun p d => d.alarmArm p n)) else .next s

def execAlarmDisarm (n : Nat) (s : State) : Host.Outcome State Fault Refusal :=
  if n < 8 then .next (s.asWrite true (0xE000A8 + 0x10 * n) 2 (s.both fun _ d => d.alarmDisarm n)) else .next s

def execAlarmFire (n : Nat) (t : Nat) (s : State) : Host.Outcome State Fault Refusal :=
  if n < 8 then .next ((s.advance t).both fun p d => d.alarmFire p n) else .next s

/-! The timebase's part of a control tick edge (R30, R31, R33 to R35, in the order of R34). -/

/-- Rate rebase at raw time a (R30). -/
def Side.rebase (p : Pkg) (d : Side) : Side :=
  if d.flag F.TIM_STATUS_RATE_PENDING then
    let ofs := toSigned 64 (d.get64 F.TIM_OFFSET_LO_VAL F.TIM_OFFSET_HI_VAL)
    let e := d.get64 F.TIM_EPOCH_LO_VAL F.TIM_EPOCH_HI_VAL
    let d1 := d.set64 F.TIM_OFFSET_LO_VAL F.TIM_OFFSET_HI_VAL (ofSigned 64 (ofs + rateTerm d.rate p.now e))
    let d2 := d1.set64 F.TIM_EPOCH_LO_VAL F.TIM_EPOCH_HI_VAL p.now
    let x := d.tim.stagedRate
    ((d2.set F.TIM_RATE_LO_VAL (x % 2 ^ 32)).set F.TIM_RATE_HI_VAL (x / 2 ^ 32)).set F.TIM_STATUS_RATE_PENDING 0
  else d

/-- TIM_OFFSET moved by x ns. -/
def Side.moveOffset (d : Side) (x : Int) : Side :=
  d.set64 F.TIM_OFFSET_LO_VAL F.TIM_OFFSET_HI_VAL
    (ofSigned 64 (toSigned 64 (d.get64 F.TIM_OFFSET_LO_VAL F.TIM_OFFSET_HI_VAL) + x))

/-- The slew step s of R31. -/
def slewStep (rem : Int) (tickNs ppm : Nat) : Int :=
  let m := min rem.natAbs (max 1 (tickNs * ppm / 1000000))
  if rem < 0 then -(m : Int) else m

def Side.slew (d : Side) : Side :=
  if d.slewRem = 0 then d
  else
    let x := slewStep d.slewRem d.tim.tickNs (d.get F.TIM_SLEW_PPM_VAL)
    (d.moveOffset x).setSlewRem (d.slewRem - x)

/-- An accepted jump is applied while no plate of the side is started or ending (R33). -/
def Side.jumpDue (d : Side) : Bool := d.flag F.TIM_STATUS_JUMP_ACCEPTED && !d.anyRunning

/-- An armed alarm that a step carries past its target fires in the cycle of the step, late (R40); before is device
time before the step. -/
def Side.alarmStep (p : Pkg) (before : Nat) (d : Side) (n : Nat) : Side :=
  let tgt := (tget (0, false) d.tim.alarms n).1
  if d.flag (F.TIM_ALM_CTRL_ARMED n) && !reached before tgt && reached (d.dev p) tgt then d.alarmFires p n true else d

/-- The step of an accepted jump. The event that carries the step value holds it whole in DETAIL2 and its low word in DETAIL: DESIGN
CHOICE (log entry 133), R33 names no place. -/
def Side.jumpStep (p : Pkg) (d : Side) : Side :=
  if d.jumpDue then
    let j := d.get64 F.TIM_JUMP_PEND_LO_VAL F.TIM_JUMP_PEND_HI_VAL
    let d1 := (d.moveOffset (toSigned 64 j)).set F.TIM_STATUS_JUMP_ACCEPTED 0
    let d2 := (List.range 8).foldl (Side.alarmStep p (d.dev p)) d1
    (d2.faultD p 0x260 F.TIM_STATUS_STEP_DONE (j % 2 ^ 32) j).reacquire p
  else d

/-- A tick change takes effect (R43). -/
def Side.tickChange (d : Side) : Side :=
  if d.flag F.TIM_STATUS_TICK_PENDING then
    let ns := d.get F.TIM_TICK_NS
    let d1 := (d.set F.TIM_STATUS_TICK_PENDING 0).set F.TIM_FINE_NS (ns / 20)
    { d1 with tim := { d1.tim with tickNs := ns, phase := d.get F.TIM_TICK_PHASE } }
  else d

/-- The next edge and boundary: regular, or realigned after a step or a tick change (R35). -/
def Side.realign (p : Pkg) (edge : Nat) (stepped : Bool) (d : Side) : Side :=
  let t := d.tim
  if stepped then
    let n := d.dev p
    { d with tim := { t with nextEdge := t.realigned n, nextFine := t.nextFineAfter n } }
  else
    { d with tim := { t with nextEdge := t.nextEdgeAfter edge, nextFine := t.nextFineAfter edge } }

/-- The timebase's work at a control tick edge, in the order of R34; the edge counts (R36) and is index 0 of its tick. -/
def Side.timEdge (p : Pkg) (d : Side) : Side :=
  let edge := d.tim.nextEdge
  let stepped := d.jumpDue || d.flag F.TIM_STATUS_TICK_PENDING
  let d1 := (((d.rebase p).slew).jumpStep p).tickChange.realign p edge stepped
  { d1 with tim := { d1.tim with count := (d1.tim.count + 1) % 2 ^ 64, fine := 0 } }

/-- Device time has reached the next control tick edge (R41, R42). -/
def Side.edgeDue (p : Pkg) (d : Side) : Bool := reached (d.dev p) d.tim.nextEdge

/-- Device time has reached the next fine-tick boundary of the tick, before its next control tick edge. -/
def Side.fineDue (p : Pkg) (d : Side) : Bool :=
  reached (d.dev p) d.tim.nextFine && !reached d.tim.nextFine d.tim.nextEdge

/-- The timebase's work at a fine-tick boundary. -/
def Side.timFine (d : Side) : Side :=
  { d with tim := { d.tim with fine := d.tim.fine + 1, nextFine := d.tim.nextFineAfter d.tim.nextFine } }

end Sys2Proof.Machine
end

