-- ==== Sys2Proof/Machine/Throttle.lean ====
section
/-! DEFINITION. Pauses of a throttle (R464): which engine runs an operation since when, and how long it pauses after it; and
whether a group of engines runs (R469, R471). -/

namespace Sys2Proof.Machine

/-- The engines of group g run: in ACTIVE or IDLE, or restored in a wake (R469, R471). -/
def Side.groupOn (d : Side) (g : Nat) : Bool :=
  (d.get F.THM_PWR_STATE_STATE == 0 || d.flag F.THM_PWR_STATE_WAKING) && !bit (d.get F.THM_PWR_STALE_GROUP) g

/-- Work of the engines of group g, done while they run. -/
def Side.grouped (g : Nat) (f : Pkg → Side → Side) (p : Pkg) (d : Side) : Side := if d.groupOn g then f p d else d

/-- Group g waits for its restoration: its registers refuse writes (R471). -/
def Side.stale (d : Side) (g : Nat) : Bool := bit (d.get F.THM_PWR_STALE_GROUP) g

/-- A napping package wakes: every group wakes with its bit set (R471). -/
def Side.napWake (d : Side) : Side :=
  if d.get F.THM_PWR_STATE_STATE = 2 && !d.flag F.THM_PWR_STATE_WAKING then
    (d.set F.THM_PWR_STATE_WAKING 1).set F.THM_PWR_STALE_GROUP 0xFF
  else d

/-- An engine is in a throttle pause (R464): DMA channel n is engine n, decompress engine k 32 + k, compress engine k 40 + k. -/
def Side.paused (d : Side) (e : Nat) : Bool := tget 0 d.thm.pause e != 0

/-- What a Strudel engine works on, as a key. -/
def Work.key : Work → Option (Nat × Nat × Nat)
  | .idle => none
  | .feed job idx r _ => some (job, idx, r)
  | .req ring slot => some (64 + ring, slot, 0)

/-- The operation an engine runs, as a key: of a DMA channel a burst, of a Strudel engine a block (R464). -/
def Side.engOp (d : Side) (e : Nat) : Option (Nat × Nat × Nat) :=
  if e < 32 then (tget {} d.dma e).cur.map fun x => (x.sh.getD 2 + 3 * x.ring, x.slot, x.written)
  else if e < 40 then (tget .idle d.str.dec (e - 32)).key
  else (tget .idle d.str.cmp (e - 40)).key

/-- The plate of a record has POLICY FIRM (R162). -/
def Side.firm (d : Side) (r : Nat) : Bool := byteAt (tget {} d.pln.recs r).mdat 7 % 4 == 0

/-- The operation that an engine runs is exempt (R464). -/
def Side.exempt (d : Side) (e : Nat) : Bool :=
  if e < 32 then (List.range 4).any fun r => d.recRunning r && d.firm r
  else if e < 40 then
    match tget .idle d.str.dec (e - 32) with
    | .feed _ _ r _ => d.firm r
    | _ => false
  else false

/-- The raw time a pause ends after an operation of el ns (R464). -/
def pauseEnd (now duty el : Nat) : Nat := if duty = 0 then 0 else now + (256 - duty) * el / duty

/-- One engine, from its state before a step to the state after it: an operation that has begun is timed, and one that has
ended is followed by its pause while a throttle holds (R464). -/
def Side.pauseOne (p : Pkg) (before : Side) (d : Side) (e : Nat) : Side :=
  if before.engOp e = d.engOp e then d
  else
    let el := p.now + 1 - tget (p.now + 1) before.thm.busy e
    let stop := (before.engOp e).isSome && d.flag F.THM_STATUS_THROTTLE && !before.exempt e && el != 0
    { d with thm := { d.thm with
        busy := if (d.engOp e).isSome then tset d.thm.busy e (p.now + 1) else d.thm.busy.filter fun x => x.1 ≠ e,
        pause := if stop then tset d.thm.pause e (pauseEnd p.now (d.get F.THM_THR_DUTY) el) else d.thm.pause } }

/-- A step of a side with its engines' operations timed. -/
def Side.timed (f : Pkg → Side → Side) (p : Pkg) (d : Side) : Side := (List.range 42).foldl (Side.pauseOne p d) (f p d)

/-- The pause of an engine ends at its time; the operation that it goes on with begins then. -/
def Side.pauseEnds (p : Pkg) (e : Nat) (d : Side) : Side :=
  if d.paused e && reached p.now (tget 0 d.thm.pause e) then
    { d with thm := { d.thm with pause := d.thm.pause.filter fun x => x.1 ≠ e,
                                 busy := if (d.engOp e).isSome then tset d.thm.busy e (p.now + 1) else d.thm.busy } }
  else d

def execThrottlePauseEnd (e t : Nat) (s : State) : Host.Outcome State Fault Refusal :=
  if e < 42 then .next ((s.advance t).both fun p d => d.pauseEnds p e) else .next s

end Sys2Proof.Machine
end

