-- ==== Sys2Proof/Machine/HeatMap.lean ====
section
/-! DEFINITION. The heat map (R288 to R290): its cells, their decay in rows of 256 from each control tick edge, and the bytes
of the heat-map store. -/

namespace Sys2Proof.Machine

/-- Rows of 256 cells swept a time after the edge: row r is swept in core cycle r, of 0.625 ns (R45, R290). -/
def rowsSwept (ns : Int) : Nat := min 4096 ((ns * 8 / 5).toNat + 1)

def heatDecay (dk h : Nat) : Nat := h * dk / 65536

/-- The cells with the rows up to a number swept; the rows before done have been swept already. -/
def heatSweep (dk done upTo : Nat) : Tab Nat → Tab Nat
  | [] => []
  | (n, h) :: t =>
    if done ≤ n / 256 && n / 256 < upTo then
      (if heatDecay dk h = 0 then heatSweep dk done upTo t else (n, heatDecay dk h) :: heatSweep dk done upTo t)
    else (n, h) :: heatSweep dk done upTo t

def Side.heatDk (d : Side) : Nat := d.get F.MPL_HM_DECAY_DK

/-- Rows swept by a device time. -/
def Side.rowsAt (d : Side) (dev : Nat) : Nat := max d.mpl.swept (rowsSwept (tdiff dev d.mpl.edge))

/-- The value of a cell at a device time. -/
def Side.heatAt (d : Side) (dev n : Nat) : Nat :=
  let h := tget 0 d.mpl.heat n
  if d.mpl.swept ≤ n / 256 && n / 256 < d.rowsAt dev then heatDecay d.heatDk h else h

/-- The sweep carried on to a number of rows. -/
def Side.heatUpTo (r : Nat) (d : Side) : Side :=
  if r ≤ d.mpl.swept then d
  else { d with mpl := { d.mpl with heat := heatSweep d.heatDk d.mpl.swept r d.mpl.heat, swept := r } }

/-- A control tick edge: the sweep of the last tick is finished; a new one starts, or every cell is cleared (R290). -/
def Side.heatEdge (p : Pkg) (d : Side) : Side :=
  let d1 := d.heatUpTo 4096
  let m := d1.mpl
  if m.clear then { d1 with mpl := { m with heat := [], swept := 4096, edge := d.dev p, clear := false } }
  else { d1 with mpl := { m with swept := 0, edge := d.dev p } }

/-- A cell set. -/
def Side.heatSet (n h : Nat) (d : Side) : Side :=
  { d with mpl := { d.mpl with heat := if h = 0 then d.mpl.heat.filter (fun e => e.1 ≠ n) else tset d.mpl.heat n h } }

/-- A byte of the heat-map store (R288), little-endian (R7). -/
def Side.heatByte (d : Side) (dev a : Nat) : Byte :=
  let o := a - 0x800000
  BitVec.ofNat 8 (d.heatAt dev (o / 2) / 256 ^ (o % 2))

/-- n bytes of SRAM from an address up: the heat-map store, then the trace store (R92). -/
def Side.sramRead (d : Side) (dev a : Nat) : Nat → List Byte
  | 0 => []
  | n + 1 =>
    (if 0x800000 ≤ a && a < 0xA00000 then d.heatByte dev a else memByte d.sram a) :: d.sramRead dev (a + 1) n

/-- The cell of a bed point, none outside the map (R288). -/
def Side.heatCell (d : Side) (x y : Int) : Option Nat :=
  let g : Int := ((256 * max 1 (d.get F.MPL_HM_GEOM_PITCH) : Nat) : Int)
  let i := Int.fdiv (x - toSigned 32 (d.get F.MPL_HM_ORG_X_ORG)) g
  let j := Int.fdiv (y - toSigned 32 (d.get F.MPL_HM_ORG_Y_ORG)) g
  if 0 ≤ i && i < 1024 && 0 ≤ j && j < 1024 then some (1024 * j + i).toNat else none

/-- The heat at a bed point, 0 outside the map. -/
def Side.heatOf (d : Side) (dev : Nat) (x y : Int) : Nat :=
  match d.heatCell x y with
  | some n => d.heatAt dev n
  | none => 0

/-- CLEAR: every cell is set to 0 at the next control tick edge; refused outside the PLATE window (R290, R304). -/
def Side.hmClear (p : Pkg) (d : Side) : Side :=
  if d.plateWindow && !d.stale 7 then { d with mpl := { d.mpl with clear := true } } else d.fault p 0x150 F.MPL_STATUS_WINDOW_VIOL

def execHmClear (s : State) : Host.Outcome State Fault Refusal := .next (s.asWrite true 0x880014 1 (s.both Side.hmClear))

end Sys2Proof.Machine
end

