-- ==== Sys2Proof/Machine/Operands.lean ====
section
/-! DEFINITION. The fields of a descriptor: the common word (R64), an opcode's fields by byte offset, the order of the
common checks (R525) and the opcodes each target accepts (R65, R97, R155, R161, R453). -/

namespace Sys2Proof.Machine

/-- n bytes of a descriptor from byte o, little-endian (R7). -/
def dFld (b : List Byte) (o n : Nat) : Nat := leAt b o n

def dOwn (b : List Byte) : Bool := bit (dFld b 0 4) 0
def dIrq (b : List Byte) : Bool := bit (dFld b 0 4) 1
def dNoCpl (b : List Byte) : Bool := bit (dFld b 0 4) 2
def dFence (b : List Byte) : Bool := bit (dFld b 0 4) 3
def dRsv (b : List Byte) : Nat := bits (dFld b 0 4) 4 4
def dOpcode (b : List Byte) : Nat := byteAt b 1
def dTag (b : List Byte) : Nat := dFld b 2 2

/-- What a submission ring feeds (R62, R89). -/
inductive Target where
  | dma (ch : Nat)
  | cmd
  | strudel
  | planner
  | keyStore
  deriving DecidableEq, Repr

/-- The target a TARGET value names; values above 0x23 name none. -/
def targetOf (v : Nat) : Option Target :=
  if v < 0x20 then some (.dma v)
  else if v = 0x20 then some .cmd
  else if v = 0x21 then some .strudel
  else if v = 0x22 then some .planner
  else if v = 0x23 then some .keyStore
  else none

/-- The opcodes assigned to a target and accepted by it (R65). -/
def accepts (t : Target) (op : Nat) : Bool :=
  op == 0x00 || op == 0x01 ||
  match t with
  | .dma _ => op == 0x10 || op == 0x11 || op == 0x12
  | .strudel => op == 0x30 || op == 0x31 || op == 0x32 || op == 0x34 || op == 0x35 || op == 0x36 || op == 0x38
  | .planner => op == 0x40 || op == 0x41 || op == 0x42 || op == 0x43
  | .keyStore => 0x60 ≤ op && op ≤ 0x67
  | .cmd => op == 0x70 || op == 0x74 || op == 0x78 || op == 0x7A || op == 0x7C

/-- An opcode that only PF0 rings may carry: the command processor's, and the key store's PF0-only opcodes (R453). -/
def pf0Only (op : Nat) : Bool :=
  op == 0x60 || op == 0x64 || op == 0x65 || op == 0x66 || (0x70 ≤ op && op ≤ 0x9F)

/-- The status codes of R79. -/
def stSUCCESS : Nat := 0x00
def stBAD_OPCODE : Nat := 0x01
def stPF_DENIED : Nat := 0x02
def stBAD_FIELD : Nat := 0x03
def stHOST_FAULT : Nat := 0x04
def stABORTED : Nat := 0x05
def stSPOILED : Nat := 0x06
def stREFUSED : Nat := 0x07
def stSECURITY : Nat := 0x08
def stFETCH_ERR : Nat := 0x09

/-- A command's outcome: status, RESULT0, RESULT1 (R69). -/
structure Res where
  status : Nat
  r0 : Nat := 0
  r1 : Nat := 0
  deriving DecidableEq, Repr, Inhabited

/-- BAD_FIELD with the byte offset of the first bad field (R79). -/
def badField (o : Nat) : Res := ⟨stBAD_FIELD, 0, o⟩

/-- HOST_FAULT at an address (R79). -/
def hostFaultRes (a : Nat) : Res := ⟨stHOST_FAULT, a, a % 2 ^ 32⟩

/-- The common checks of a fetched descriptor, in their order (R525): opcode, function, reserved bits of the common
word. -/
def commonCheck (t : Target) (fn : Fn) (b : List Byte) : Option Res :=
  if !accepts t (dOpcode b) then some ⟨stBAD_OPCODE, 0, 0⟩
  else if pf0Only (dOpcode b) && fn == .pf1 then some ⟨stPF_DENIED, 0, 0⟩
  else if dRsv b ≠ 0 then some (badField 0)
  else none

/-- The first byte that is not 0 in the ranges of reserved bytes given as (offset, length), with the byte's offset. -/
def rsvCheck (b : List Byte) (l : List (Nat × Nat)) : Option Nat :=
  l.findSome? fun e => firstNonZero b e.1 e.2

end Sys2Proof.Machine
end

