-- ==== Sys2Proof/Machine/Rings.lean ====
section
/-! DEFINITION. Host interface, rings and doorbells (spec/03): enabling and disabling rings, doorbells, fetching and
retiring descriptors, messages, the two functions' resets and Bus Master Enable. -/

namespace Sys2Proof.Machine

/-! Submission rings. -/

/-- Event source of a submission ring, and of a completion or event ring (R475). -/
def srcSq (n : Nat) : Nat := 0x010 + n

def srcRing : RingId → Nat
  | .cq n => 0x050 + n
  | .eq e => 0x090 + e

def fDbInvalid (r : RingId) : Fld := ⟨ringBase r + 0x14, 8, 1⟩
def fDbDisabled (r : RingId) : Fld := ⟨ringBase r + 0x14, 9, 1⟩
def fFullSeen (n : Nat) : Fld := F.HIF_CQ_STATUS_FULL_SEEN n
def fRingViol (r : RingId) : Fld := ⟨ringBase r + 0x14, 11, 1⟩

/-- States of HIF_SQn_STATUS.STATE: 0 DISABLED, 1 RUNNING, 2 HALTED, 3 STOPPING (R89). -/
def Side.sqState (d : Side) (n : Nat) : Nat := d.get (F.HIF_SQ_STATUS_STATE n)

def Side.sqTarget (d : Side) (n : Nat) : Nat := d.get (F.HIF_SQ_CFG_TARGET n)

def Side.sqList (d : Side) (n : Nat) : List Desc := tget [] d.hif.sq n

def Side.setSqList (d : Side) (n : Nat) (l : List Desc) : Side :=
  { d with hif := { d.hif with sq := tset d.hif.sq n l } }

/-- Some submission ring that is not DISABLED, other than ring x, targets DMA channel ch (R62). -/
def Side.dmaTaken (d : Side) (ch x : Nat) : Bool :=
  (List.range 64).any fun n => n != x && d.sqState n != 0 && d.sqTarget n == ch

/-- A shadow set of a channel is ARMED or RUNNING. -/
def Side.shBusy (d : Side) (ch s : Nat) : Bool :=
  d.flag (F.DMA_SH_STATE_ARMED ch s) || d.flag (F.DMA_SH_STATE_RUNNING ch s)

/-- The mode of a DMA channel (R90): 1 RING, 2 SHADOW, 0 IDLE. -/
def Side.dmaMode (d : Side) (ch : Nat) : Nat :=
  if d.dmaTaken ch 64 then 1 else if d.shBusy ch 0 || d.shBusy ch 1 then 2 else 0

/-- The MODE field brought up to date. -/
def Side.dmaRefresh (d : Side) (ch : Nat) : Side := d.set (F.DMA_STATUS_MODE ch) (d.dmaMode ch)

/-- The MODE field of the channel a ring targets, if it targets one. -/
def Side.dmaRefreshSq (d : Side) (n : Nat) : Side := if d.sqTarget n < 32 then d.dmaRefresh (d.sqTarget n) else d

/-- A ring's bytes end at or below host address 2^64 (R61). -/
def ringFits (base size entry : Nat) : Bool := decide (base + entry * 2 ^ size ≤ 2 ^ 64)

def Side.sqMem (d : Side) (n : Nat) : Nat :=
  d.get (F.HIF_SQ_BASE_LO_BASE n) * 0x1000 + 2 ^ 32 * d.get (F.HIF_SQ_BASE_HI_BASE n)

/-- The conditions of a write that enables submission ring n from DISABLED (R61 to R63, R112), on the CFG word v. -/
def Side.sqEnableOk (d : Side) (n v : Nat) : Bool :=
  let tgt := bits v 16 6
  let cq := bits v 8 6
  (targetOf tgt).isSome && 4 ≤ bits v 1 4 && ringFits (d.sqMem n) (bits v 1 4) 64 &&
  ringFnNum cq == ringFnNum n && d.get (F.HIF_CQ_CFG_ENABLE cq) == 1 &&
  !(ringFnNum n == .pf1 && tgt == 0x20) &&
  !(decide (tgt < 32) && (d.dmaTaken tgt n || d.shBusy tgt 0 || d.shBusy tgt 1))

/-- A CFG write keeps the fields that only a DISABLED ring lets change (R87): SIZE, CQ, TARGET. -/
def Side.sqCfgKeeps (d : Side) (n v : Nat) : Bool :=
  bits v 1 4 == d.get (F.HIF_SQ_CFG_SIZE n) && bits v 8 6 == d.get (F.HIF_SQ_CFG_CQ n) &&
  bits v 16 6 == d.get (F.HIF_SQ_CFG_TARGET n)

/-- The CFG word written: its RW fields only, reserved bits stay 0 (R8, R89). -/
def sqCfgWord (v : Nat) : Nat := bits v 0 6 + 2 ^ 8 * bits v 8 6 + 2 ^ 16 * bits v 16 6 + 2 ^ 24 * bits v 24 2

def Side.sqRefuse (p : Pkg) (n : Nat) (d : Side) : Side := d.fault p (srcSq n) (F.HIF_SQ_STATUS_WINDOW_VIOL n)

/-- When the last descriptor of a STOPPING ring has retired, the ring reads DISABLED (R81). -/
def Side.sqSettle (n : Nat) (d : Side) : Side :=
  if d.sqState n == 3 && (d.sqList n).isEmpty then (d.set (F.HIF_SQ_STATUS_STATE n) 0).dmaRefreshSq n else d

/-- Descriptors fetched but not started retire with ABORTED (R81). DESIGN CHOICE (log entry 139): one that a check has failed already
keeps the status of that check. -/
def abortUnstarted (l : List Desc) : List Desc :=
  l.map fun x => if x.st = .fetched then { x with st := .done stABORTED 0 0 } else x

/-- A write of HIF_SQn_CFG (R62, R63, R81, R87, R89). -/
def Side.sqCfgWrite (p : Pkg) (n v : Nat) (d : Side) : Side :=
  let st := d.sqState n
  let en := bit v 0
  let off := (F.HIF_SQ_CFG_ENABLE n).off
  if st = 0 then
    if en then
      if d.sqEnableOk n v then
        let d1 := ((d.setWord off (sqCfgWord v)).set (F.HIF_SQ_STATE_HEAD n) 0).set (F.HIF_SQ_STATE_TAIL n) 0
        let d2 := (d1.set (F.HIF_SQ_STATUS_STATE n) 1).set (F.HIF_SQ_STATUS_OWN_STALL n) 0
        (d2.setSqList n []).dmaRefreshSq n
      else d.sqRefuse p n
    else if decide (bits v 16 6 ≤ 0x23) && decide (4 ≤ bits v 1 4) then d.setWord off (sqCfgWord v)
    else d.sqRefuse p n
  else if !d.sqCfgKeeps n v then d.sqRefuse p n
  else if st = 3 then
    if en then d.sqRefuse p n else d.setWord off (sqCfgWord v)
  else if en then d.setWord off (sqCfgWord v)
  else
    let d1 := ((d.setWord off (sqCfgWord v)).set (F.HIF_SQ_STATUS_STATE n) 3).setSqList n (abortUnstarted (d.sqList n))
    d1.sqSettle n

/-- SQ_ENABLE: a write of HIF_SQn_CFG with ENABLE 1. -/
def execSqEnable (n : Nat) (v : Word) (s : State) : Host.Outcome State Fault Refusal :=
  if n < 64 && bit v.toNat 0 then .next (s.asWrite (decide (n < 16)) (0x10008 + 0x40 * n) v.toNat (s.bothOn fun p d => d.sqCfgWrite p n v.toNat)) else .next s

/-- SQ_DISABLE: a write of HIF_SQn_CFG with ENABLE 0. -/
def execSqDisable (n : Nat) (v : Word) (s : State) : Host.Outcome State Fault Refusal :=
  if n < 64 && !bit v.toNat 0 then .next (s.asWrite (decide (n < 16)) (0x10008 + 0x40 * n) v.toNat (s.bothOn fun p d => d.sqCfgWrite p n v.toNat)) else .next s

/-- RESUME leaves HALTED; no effect in any other state (R80, R89). -/
def Side.sqResume (n : Nat) (d : Side) : Side := if d.sqState n = 2 then d.set (F.HIF_SQ_STATUS_STATE n) 1 else d

def execResume (n : Nat) (s : State) : Host.Outcome State Fault Refusal :=
  if n < 64 then .next (s.asWrite (decide (n < 16)) (0x1000C + 0x40 * n) 1 (s.bothOn fun _ d => d.sqResume n)) else .next s

/-! Completion and event rings. -/

/-- A submission ring that is not DISABLED is bound to completion ring n (R87). -/
def Side.cqBound (d : Side) (n : Nat) : Bool :=
  (List.range 64).any fun k => d.sqState k != 0 && d.get (F.HIF_SQ_CFG_CQ k) == n

def ringCfgWord (v : Nat) : Nat := bits v 0 5 + 2 ^ 8 * bits v 8 24

def Side.ringRefuse (p : Pkg) (r : RingId) (d : Side) : Side := d.fault p (srcRing r) (fRingViol r)

/-- Writes to a ring's memory wait for Bus Master Enable (R82). -/
def Side.ringWaits (p : Pkg) (r : RingId) (d : Side) : Bool :=
  p.pci.held.any fun o => match o with
    | .hostWrite fn a _ => fn == ringFn r && decide (d.ringMem r ≤ a) && decide (a < d.ringMem r + 32 * 2 ^ d.get (rSize r))
    | _ => false

/-- Disabling: DISABLED once pending writes have finished, STOPPING until then (R89). -/
def Side.ringStop (p : Pkg) (r : RingId) (v : Nat) (d : Side) : Side :=
  (d.setWord (ringBase r + 8) (ringCfgWord v)).set (rState r) (if d.ringWaits p r then 3 else 0)

/-- A write of a completion or event ring's CFG (R70, R87, R89). DESIGN CHOICES: a ring that is STOPPING takes no ENABLE (log entry
140); a write that changes IRQ_EN or a coalescing field sends nothing by itself, and entries not yet signalled wait for the next
entry or the time limit (log entry 141). -/
def Side.ringCfgWrite (p : Pkg) (r : RingId) (v : Nat) (d : Side) : Side :=
  let off := ringBase r + 8
  let en := bit v 0
  if d.get (rState r) = 0 then
    if !decide (4 ≤ bits v 1 4) then d.ringRefuse p r
    else if en then
      if ringFits (d.ringMem r) (bits v 1 4) 32 then
        let d1 := (((d.setWord off (ringCfgWord v)).set (rHead r) 0).set (rTail r) 0).set (rPhase r) 1
        let d2 := (d1.set (rState r) 1).set ⟨ringBase r + 0x14, 16, 16⟩ 0
        { d2 with hif := { d2.hif with msg := tset d2.hif.msg (ringIx r) {} } }
      else d.ringRefuse p r
    else d.setWord off (ringCfgWord v)
  else if bits v 1 4 ≠ d.get (rSize r) then d.ringRefuse p r
  else if d.get (rState r) = 3 then (if en then d.ringRefuse p r else d.setWord off (ringCfgWord v))
  else if en then d.setWord off (ringCfgWord v)
  else
    match r with
    | .cq n => if d.cqBound n then d.ringRefuse p r else d.ringStop p r v
    | .eq _ => d.ringStop p r v

/-- The ring number exists (R56). -/
def ringOk : RingId → Bool
  | .cq n => decide (n < 64)
  | .eq e => decide (e < 2)

def execCqEqEnable (r : RingId) (v : Word) (s : State) : Host.Outcome State Fault Refusal :=
  if ringOk r && bit v.toNat 0 then .next (s.asWrite (ringFn r == .pf0) (ringBase r + 8) v.toNat (s.bothOn fun p d => d.ringCfgWrite p r v.toNat)) else .next s

def execCqEqDisable (r : RingId) (v : Word) (s : State) : Host.Outcome State Fault Refusal :=
  if ringOk r && !bit v.toNat 0 then .next (s.asWrite (ringFn r == .pf0) (ringBase r + 8) v.toNat (s.bothOn fun p d => d.ringCfgWrite p r v.toNat)) else .next s

/-! Doorbells (R74 to R76). -/

/-- A submission ring's doorbell written with v by a function (R76). -/
def Side.sqDoorbell (p : Pkg) (fn : Fn) (n v : Nat) (d : Side) : Side :=
  if ringFnNum n ≠ fn then d
  else if d.get (F.HIF_SQ_CFG_ENABLE n) ≠ 1 then d.fault p (srcSq n) (F.HIF_SQ_STATUS_DB_DISABLED n)
  else
    let sz := 2 ^ d.get (F.HIF_SQ_CFG_SIZE n)
    let head := d.get (F.HIF_SQ_STATE_HEAD n)
    let tail := d.get (F.HIF_SQ_STATE_TAIL n)
    if sz ≤ v then d.fault p (srcSq n) (F.HIF_SQ_STATUS_DB_INVALID n)
    else if (v + sz - head) % sz < (tail + sz - head) % sz then d.fault p (srcSq n) (F.HIF_SQ_STATUS_DB_INVALID n)
    else
      let d1 := (d.set (F.HIF_SQ_STATUS_OWN_STALL n) 0).set (F.HIF_SQ_STATE_TAIL n) v
      { d1 with hif := { d1.hif with dbSq := tset d1.hif.dbSq n v } }

/-- A completion or event ring's doorbell written with v by a function: entries up to v are released (R76). -/
def Side.ringDoorbell (p : Pkg) (fn : Fn) (r : RingId) (v : Nat) (d : Side) : Side :=
  if ringFn r ≠ fn then d
  else if d.get (rEnable r) ≠ 1 then d.fault p (srcRing r) (fDbDisabled r)
  else
    let sz := 2 ^ d.get (rSize r)
    if sz ≤ v then d.fault p (srcRing r) (fDbInvalid r)
    else if d.ringUsed r < (v + sz - d.get (rHead r)) % sz then d.fault p (srcRing r) (fDbInvalid r)
    else
      let d1 := d.set (rHead r) v
      { d1 with hif := { d1.hif with dbCq := tset d1.hif.dbCq (ringIx r) v } }

def execSqDoorbell (fn : Fn) (n : Nat) (v : Nat) (s : State) : Host.Outcome State Fault Refusal :=
  if n < 64 then .next (s.asPosted (s.bothOn fun p d => d.sqDoorbell p fn n (v % 2 ^ 16))) else .next s

def execCqDoorbell (fn : Fn) (r : RingId) (v : Nat) (s : State) : Host.Outcome State Fault Refusal :=
  if ringOk r then .next (s.asPosted (s.bothOn fun p d => d.ringDoorbell p fn r (v % 2 ^ 16))) else .next s

/-! Fetching (R64, R66, R79, R80, R525). -/

/-- The slot that ring n fetches next: the first after HEAD whose descriptor has not been fetched. HEAD itself moves when a
descriptor retires (R69, log 67). -/
def Side.sqNext (d : Side) (n : Nat) : Nat :=
  (d.get (F.HIF_SQ_STATE_HEAD n) + (d.sqList n).length) % 2 ^ d.get (F.HIF_SQ_CFG_SIZE n)

/-- The ring may fetch: RUNNING, not stalled, a slot handed over, no failed fetch waiting to be reported, Bus Master Enable
set. -/
def Side.sqCanFetch (p : Pkg) (n : Nat) (d : Side) : Bool :=
  d.sqState n == 1 && !d.flag (F.HIF_SQ_STATUS_OWN_STALL n) &&
  d.sqNext n != d.get (F.HIF_SQ_STATE_TAIL n) && (d.sqList n).all (fun x => !x.bytes.isEmpty) && p.pci.bme (ringFnNum n)

/-- The ring that the next fetch is from (R77): the highest PRIO first, round robin among rings of equal PRIO. -/
def Side.sqPick (p : Pkg) (d : Side) : Option Nat :=
  [3, 2, 1, 0].findSome? fun q =>
    ((List.range 64).map fun k => (tget 0 d.hif.last q + k) % 64).find? fun n => d.get (F.HIF_SQ_CFG_PRIO n) == q && d.sqCanFetch p n

/-- Ring n has been fetched from. -/
def Side.sqServed (n : Nat) (d : Side) : Side :=
  { d with hif := { d.hif with last := tset d.hif.last (d.get (F.HIF_SQ_CFG_PRIO n)) (n + 1) } }

/-- The recipe in force denies an opcode (R442). -/
def Side.opDenied (d : Side) (op : Nat) : Bool := d.sec.recipe.any fun e => e.kind == 3 && e.off == op

/-- The checks of R525 on a fetched descriptor, and the recipe's on its opcode: it waits to start, or it is finished with the first failure. -/
def Side.received (d : Side) (n slot : Nat) (b : List Byte) : Desc :=
  match targetOf (d.sqTarget n) with
  | none => ⟨slot, b, .done stBAD_OPCODE 0 0⟩
  | some t =>
    match commonCheck t (ringFnNum n) b with
    | some r => ⟨slot, b, .done r.status r.r0 r.r1⟩
    | none => if d.opDenied (dOpcode b) then ⟨slot, b, .done stSECURITY 0 8⟩ else ⟨slot, b, .fetched⟩

/-- A fetched descriptor that wakes a napping package (R471). -/
def Side.wakes (d : Side) (n : Nat) (x : Desc) : Bool :=
  x.st == .fetched &&
  match targetOf (d.sqTarget n) with
  | some (.dma _) => true
  | some .strudel => true
  | some .planner => dOpcode x.bytes == 0x40 || dOpcode x.bytes == 0x41
  | _ => false

/-- A descriptor read returns for the ring whose turn it is (R77): failed, a FETCH_ERR joins the ring's order and nothing more is fetched behind it (R79, R80); with
OWN 0, the ring stalls (R66); else the descriptor joins the ring's order. -/
def Side.fetched (p : Pkg) (n : Nat) (ok : Bool) (d0 : Side) : Side :=
  if d0.sqPick p = some n then
    let d := d0.sqServed n
    let slot := d.sqNext n
    let a := d.sqMem n + 64 * slot
    if !ok then
      let d1 := d.setSqList n (d.sqList n ++ [⟨slot, [], .done stFETCH_ERR 0 (a % 2 ^ 32)⟩])
      d1.fault p (srcSq n) (F.HIF_SQ_STATUS_FETCH_ERR n)
    else
      let b := memRead p.host a 64
      if !dOwn b then d.set (F.HIF_SQ_STATUS_OWN_STALL n) 1
      else
        let d1 := d.setSqList n (d.sqList n ++ [d.received n slot b])
        if d.wakes n (d.received n slot b) then d1.napWake else d1
  else d0

def execDescriptorFetched (n : Nat) (ok : Bool) (s : State) : Host.Outcome State Fault Refusal :=
  if n < 64 then .next (s.both fun p d => d.fetched p n ok) else .next s

/-! Starting and finishing descriptors. -/

/-- The descriptor that ring n starts next, if it carries opcode op: the first that has not started, every earlier one
retired if its FENCE bit is 1 or if it is a BARRIER (R64, R65); a HALTED ring starts nothing. -/
def Side.nextStart (d : Side) (n op : Nat) : Option Desc :=
  if d.sqState n = 1 then
    match (d.sqList n).dropWhile (fun x => x.st ≠ .fetched) with
    | [] => none
    | x :: _ =>
      if dOpcode x.bytes ≠ op then none
      else if (dFence x.bytes || op = 1) && (d.sqList n).head? ≠ some x then none
      else some x
  else none

/-- The same for an opcode that reads host memory, which waits for Bus Master Enable of the ring's function (R82). -/
def Side.nextHost (p : Pkg) (d : Side) (n op : Nat) : Option Desc := if p.pci.bme (ringFnNum n) then d.nextStart n op else none

/-- The first descriptor that has not started, with a new standing. -/
def startFirst (st : DescSt) : List Desc → List Desc
  | [] => []
  | x :: t => if x.st = .fetched then { x with st := st } :: t else x :: startFirst st t

/-- The running descriptor of a slot, finished. -/
def finishSlot (slot : Nat) (r : Res) : List Desc → List Desc
  | [] => []
  | x :: t =>
    if x.slot = slot && x.st = .running then { x with st := .done r.status r.r0 r.r1 } :: t else x :: finishSlot slot r t

/-- Ring n's next descriptor starts and runs on in its engine. -/
def Side.startRun (d : Side) (n : Nat) : Side := d.setSqList n (startFirst .running (d.sqList n))

/-- Ring n's next descriptor starts and is finished at once with an outcome. -/
def Side.startDone (d : Side) (n : Nat) (r : Res) : Side :=
  d.setSqList n (startFirst (.done r.status r.r0 r.r1) (d.sqList n))

/-- The running descriptor of a slot of ring n is finished with an outcome. -/
def Side.finish (d : Side) (n slot : Nat) (r : Res) : Side := d.setSqList n (finishSlot slot r (d.sqList n))

/-- NOP and BARRIER retire with SUCCESS and have no other effect (R65). -/
def Side.nopLike (op n : Nat) (d : Side) : Side :=
  match d.nextStart n op with
  | none => d
  | some _ => d.startDone n ⟨stSUCCESS, 0, 0⟩

def execNop (n : Nat) (s : State) : Host.Outcome State Fault Refusal :=
  if n < 64 then .next (s.both fun _ d => d.nopLike 0 n) else .next s

def execBarrier (n : Nat) (s : State) : Host.Outcome State Fault Refusal :=
  if n < 64 then .next (s.both fun _ d => d.nopLike 1 n) else .next s

/-! Retiring (R67, R69, R71, R80, R81). -/

/-- The first 28 bytes of a completion entry (R69). -/
def cplEntry (tag sq status sqHead r0 stamp r1 : Nat) : List Byte :=
  leBytes 4 (tag + 2 ^ 16 * sq + 2 ^ 24 * status) ++ leBytes 4 sqHead ++ leBytes 8 r0 ++ leBytes 8 stamp ++ leBytes 4 r1

/-- The descriptors before the first that has not started. -/
def started (l : List Desc) : List Desc := l.takeWhile fun x => x.st ≠ .fetched

/-- A COPY or FILL that ends before it moves data leaves PROGRESS at 0, unless a later one of its ring has started (R117). -/
def Side.progressNone (n : Nat) (x : Desc) (rest : List Desc) (st : Nat) (d : Side) : Side :=
  let moves (y : Desc) : Bool := dOpcode y.bytes == 0x10 || dOpcode y.bytes == 0x11
  if decide (d.sqTarget n < 32) && moves x && (st == stABORTED || st == stBAD_FIELD || st == stSECURITY) &&
      rest.all (fun y => y.st == .fetched || !moves y)
  then d.set (F.DMA_PROGRESS_BYTES (d.sqTarget n)) 0 else d

/-- The first descriptor of ring n retires with an outcome: bytes 0 to 3 are written back with OWN 0, then the completion
entry is written unless NO_CPL is 1 and the status is SUCCESS; a failed DMA descriptor sets its channel's ERR (R116);
HALT_ON_ERR halts the ring (R80). A failed fetch writes no descriptor back, and its entry has TAG 0xFFFF (R69) and OPCODE 0: DESIGN
CHOICE (log entry 142), no descriptor was read. -/
def Side.retireHead (p : Pkg) (n : Nat) (x : Desc) (rest : List Desc) (r : Res) (d : Side) : Side :=
  let fn := ringFnNum n
  let fetchErr := r.status == stFETCH_ERR
  let size := 2 ^ d.get (F.HIF_SQ_CFG_SIZE n)
  let d1 := if fetchErr then d
    else d.send (.hostWrite fn (d.sqMem n + 64 * x.slot) (leBytes 4 (putBits (dFld x.bytes 0 4) 0 1 0)))
  let head := if fetchErr then x.slot else (x.slot + 1) % size
  let tag := if fetchErr then 0xFFFF else dTag x.bytes
  let d2 := if !fetchErr && dNoCpl x.bytes && r.status == stSUCCESS then d1
    else d1.ringWrite p (.cq (d.get (F.HIF_SQ_CFG_CQ n))) (!fetchErr && dIrq x.bytes)
      (cplEntry tag n r.status head r.r0 (d.dev p) r.r1) (if fetchErr then 0 else dOpcode x.bytes)
  let d3 := (d2.setSqList n rest).set (F.HIF_SQ_STATE_HEAD n) head
  let d4 := d3.faultIf p (r.status != stSUCCESS && decide (d.sqTarget n < 32)) (0x0C0 + d.sqTarget n)
    (F.DMA_STATUS_ERR (d.sqTarget n))
  let d4 := if r.status == stSECURITY then d4.secDenied p else d4
  let d4 := d4.progressNone n x rest r.status
  let d5 := if (fetchErr || d.get (F.HIF_SQ_CFG_HALT_ON_ERR n) == 1 && r.status != stSUCCESS) && d4.sqState n == 1
    then (d4.set (F.HIF_SQ_STATUS_STATE n) 2).setSqList n (started (d4.sqList n)) else d4
  d5.sqSettle n

/-- Retirement waits while the bound completion ring is full, whatever the descriptor asks for; that sets FULL_SEEN (R71), once for each
wait. -/
def Side.retire (p : Pkg) (n : Nat) (d : Side) : Side :=
  match d.sqList n with
  | [] => d
  | x :: rest =>
    match x.st with
    | .done st r0 r1 =>
      let cq := d.get (F.HIF_SQ_CFG_CQ n)
      if d.ringFull (.cq cq) then
        if d.hif.full.contains n then d
        else ({ d with hif := { d.hif with full := d.hif.full ++ [n] } }).fault p (0x050 + cq) (fFullSeen cq)
      else ({ d with hif := { d.hif with full := d.hif.full.filter (· ≠ n) } }).retireHead p n x rest ⟨st, r0, r1⟩
    | _ => d

def execDescriptorRetire (n : Nat) (s : State) : Host.Outcome State Fault Refusal :=
  if n < 64 then .next (s.both fun p d => d.retire p n) else .next s

/-! Messages (R78). -/

/-- COAL_TIME µs have passed since the first entry not yet signalled. -/
def Side.coalesceTimeout (p : Pkg) (r : RingId) (d : Side) : Side :=
  let m := tget {} d.hif.msg (ringIx r)
  if d.get (rIrqEn r) == 1 && m.unsig != 0 && d.get (rCoalTime r) != 0 &&
      reached p.now (m.firstAt + 1000 * d.get (rCoalTime r)) then d.ringSignal r
  else d

def execCoalesceTimeout (r : RingId) (t : Nat) (s : State) : Host.Outcome State Fault Refusal :=
  if ringOk r then .next ((s.advance t).both fun p d => d.coalesceTimeout p r) else .next s

/-- The host unmasks vector v of a function: a pending message is sent and its pending bit clears (R78). -/
def Pkg.unmask (p : Pkg) (fn : Fn) (v : Nat) : Pkg :=
  let c := p.pci.setMsix fn v 3 (putBits (p.pci.msixWord fn v 3) 0 1 0)
  if c.isPend fn v then { p with pci := c.setPend fn v false }.send (.msix fn v) else { p with pci := c }

def execVectorUnmask (fn : Fn) (v : Nat) (s : State) : Host.Outcome State Fault Refusal :=
  if v < 128 then .next (s.asPosted ({ s with pkg := s.pkg.unmask fn v })) else .next s

/-! Bus Master Enable (R82). -/

def execBusMasterDisable (fn : Fn) (s : State) : Host.Outcome State Fault Refusal :=
  .next { s with pkg := { s.pkg with pci := s.pkg.pci.setBme fn false } }

/-- A function's completion and event rings whose pending writes have left read DISABLED (R89). -/
def Side.ringsDone (fn : Fn) (d : Side) : Side :=
  (((List.range 64).map RingId.cq) ++ [RingId.eq 0, RingId.eq 1]).foldl (fun d r =>
    if ringFn r = fn && d.get (rState r) == 3 then d.set (rState r) 0 else d) d

/-- Held packets of the function leave in order. -/
def State.bmeOn (s : State) (fn : Fn) : State :=
  { s with pkg := { s.pkg with pci := s.pkg.pci.setBme fn true }.flushHeld fn, sideA := s.sideA.ringsDone fn,
           sideB := s.sideB.ringsDone fn }

def execBusMasterEnable (fn : Fn) (s : State) : Host.Outcome State Fault Refusal := .next (s.bmeOn fn)

/-! The PCIe link (R88). -/

def Side.linkFields (up : Bool) (speed width : Nat) (d : Side) : Side :=
  ((d.set F.HIF_STATUS_LINK_UP (b2n up)).set F.HIF_STATUS_SPEED speed).set F.HIF_STATUS_WIDTH width

/-- The link's state: the hold die keeps it (R15), and both sides show it in HIF_STATUS, a booting side included. -/
def State.setLink (s : State) (up : Bool) (speed width : Nat) : State :=
  { s with pkg := { s.pkg with pci := { s.pkg.pci with linkUp := up, speed := speed, width := width } },
           sideA := s.sideA.linkFields up speed width, sideB := s.sideB.linkFields up speed width }

/-- PCIe generation 1 to 5 and width 1, 2, 4 or 8 (R54, R88). -/
def execPcieLinkUp (speed : Nat) (width : Nat) (s : State) : Host.Outcome State Fault Refusal :=
  if 1 ≤ speed && speed ≤ 5 && (width == 1 || width == 2 || width == 4 || width == 8) then .next (s.setLink true speed width)
  else .next s

def execPcieLinkDown (s : State) : Host.Outcome State Fault Refusal := .next (s.setLink false 0 0)

end Sys2Proof.Machine
end

