-- ==== Sys2Proof/Machine/Dma.lean ====
section
/-! DEFINITION. DMA channels (spec/04): transfers of rings and of shadow sets, their checks, the HALF event, fences,
errors in flight, and the hand-over of shadow sets. -/

namespace Sys2Proof.Machine

/-! Address spaces (R91 to R94). -/

/-- Bytes of DRAM that may be addressed: the smaller side's capacity less 64 MiB (R18, R91). -/
def Pkg.dramLimit (p : Pkg) : Nat := min p.dramA p.dramB * 2 ^ 30 - 2 ^ 26

/-- The SRAM bytes a DMA may read: heat-map store and trace store (R92). -/
def sramReadable (a n : Nat) : Bool := decide (0x800000 ≤ a) && decide (a + n ≤ 0xE00000)

/-- A range lies inside its space and outside the regions that R91 and R92 exclude. -/
def Pkg.inSpace (p : Pkg) (space a n : Nat) : Bool :=
  match space with
  | 0 => decide (a + n ≤ 2 ^ 64)
  | 1 => decide (a + n ≤ p.dramLimit)
  | 2 => sramReadable a n
  | _ => false

/-- A range of SRAM that holds a byte of class JOB: the heat-map store, and each trace area whose mark is set (R329,
R449). -/
def Side.jobBytes (d : Side) (a n : Nat) : Bool :=
  (decide (a < 0xA00000) && decide (0x800000 < a + n)) ||
  (List.range 16).any fun k =>
    d.flag (F.LAW_TR_STATE_AREA_CONF k) && decide (a < 0xA00000 + 0x40000 * (k + 1)) && decide (0xA00000 + 0x40000 * k < a + n)

/-- Bytes read from a space. -/
def Side.spaceRead (p : Pkg) (d : Side) (space a n : Nat) : List Byte :=
  match space with
  | 0 => memRead p.host a n
  | 1 => memRead d.dram a n
  | _ => d.sramRead (d.dev p) a n

/-- DRAM written; a stored error goes where all 8 bytes of its word are replaced (R495). -/
def Side.dramWrite (d : Side) (a : Nat) (l : List Byte) : Side :=
  { d with dram := memWrite d.dram a l,
           eccBad := d.eccBad.filter fun w => !(decide (a ≤ 8 * w) && decide (8 * w + 8 ≤ a + l.length)) }

/-- The first stored error in a range of DRAM that is read upward, or downward. -/
def Side.eccIn (d : Side) (down : Bool) (a n : Nat) : Option Nat :=
  let l := (d.eccBad.filter fun w => decide (a < 8 * w + 8) && decide (8 * w < a + n)).map fun w => max a (8 * w)
  if down then l.max? else l.min?

/-- The requests that carry a host write: none crosses 4 KiB or exceeds the maximum payload size (R95). -/
def cutHost (mps : Nat) : Nat → Nat → List Byte → List (Nat × List Byte)
  | 0, _, _ => []
  | fuel + 1, a, l =>
    if l.isEmpty then []
    else
      let k := max 1 (min mps (4096 - a % 4096))
      (a, l.take k) :: cutHost mps fuel (a + k) (l.drop k)

/-- Bytes written to a space; SRAM takes none (R91). -/
def Side.spaceWrite (p : Pkg) (d : Side) (fn : Fn) (space a : Nat) (l : List Byte) : Side :=
  match space with
  | 0 => (cutHost p.pci.mps l.length a l).foldl (fun d e => d.send (.hostWrite fn e.1 e.2)) d
  | 1 => d.dramWrite a l
  | _ => d

/-! Checks (R94, R95, R99). -/

def stDMA_BAD_SPACE : Nat := 0x20
def stDMA_RANGE : Nat := 0x21
def stDMA_ECC : Nat := 0x22

/-- The checks of a transfer in the order of R94, after reserved bits: x is the transfer, ring whether a ring drives
it; lenOff the offset of its length. -/
def Side.xferCheck (p : Pkg) (d : Side) (x : Xfer) : Option Res :=
  let copy := x.pattern.isNone
  if x.len = 0 then some (badField 24)
  else if x.dstSpace = 2 || x.dstSpace = 3 || (copy && (x.srcSpace = 3 || (x.srcSpace = 0 && x.dstSpace = 0))) then
    some ⟨stDMA_BAD_SPACE, 0, 0⟩
  else if copy && x.srcSpace = 2 && x.fn = .pf1 then some ⟨stPF_DENIED, 0, 0⟩
  else if copy && !p.inSpace x.srcSpace x.src x.len then some ⟨stDMA_RANGE, 0, 8⟩
  else if !p.inSpace x.dstSpace x.dst x.len then some ⟨stDMA_RANGE, 0, 16⟩
  else if copy && x.srcSpace = 2 && d.flag F.SEC_STATUS_GUARD && d.jobBytes x.src x.len then some ⟨stSECURITY, 0, 7⟩
  else none

/-- A copy runs descending (R101). -/
def xferDesc (x : Xfer) : Bool :=
  x.pattern.isNone && x.srcSpace == x.dstSpace && decide (x.src < x.dst) && decide (x.dst < x.src + x.len)

/-- The transfer of a COPY or FILL descriptor (R98). -/
def descXfer (fn : Fn) (n : Nat) (x : Desc) : Xfer :=
  let b := x.bytes
  let w := dFld b 4 4
  let t : Xfer := { sh := none, ring := n, tag := dTag b, fn := fn, srcSpace := bits w 0 2, src := dFld b 8 8,
                    dstSpace := bits w 2 2, dst := dFld b 16 8, len := dFld b 24 4,
                    pattern := if dOpcode b = 0x11 then some (dFld b 8 8) else none, half := bit w 4,
                    flushAfter := bit w 5, desc := false, written := 0, halfPosted := false, fence := none,
                    isFlush := false, slot := x.slot, full := false }
  { t with desc := xferDesc t }

/-- The transfer of a shadow set (R117); it belongs to PF0 (R113). -/
def Side.shXfer (d : Side) (ch s : Nat) : Xfer :=
  let t : Xfer := { sh := some s, ring := 0, tag := 0, fn := .pf0, srcSpace := d.get (F.DMA_SH_CTRL_SRC_SPACE ch s),
                    src := d.get64 (F.DMA_SH_SRC_LO_SRC ch s) (F.DMA_SH_SRC_HI_SRC ch s),
                    dstSpace := d.get (F.DMA_SH_CTRL_DST_SPACE ch s),
                    dst := d.get64 (F.DMA_SH_DST_LO_DST ch s) (F.DMA_SH_DST_HI_DST ch s),
                    len := d.get (F.DMA_SH_LEN_LEN ch s), pattern := none, half := d.flag (F.DMA_SH_CTRL_HALF ch s),
                    flushAfter := d.flag (F.DMA_SH_CTRL_FLUSH_AFTER ch s), desc := false, written := 0,
                    halfPosted := false, fence := none, isFlush := false, slot := 0,
                    full := d.flag (F.DMA_SH_CTRL_FULL ch s) }
  { t with desc := xferDesc t }

/-! Channels. -/

def Side.ch (d : Side) (n : Nat) : DmaCh := tget {} d.dma n

def Side.setCh (d : Side) (n : Nat) (c : DmaCh) : Side := { d with dma := tset d.dma n c }

def Side.setCur (d : Side) (n : Nat) (x : Option Xfer) : Side :=
  (d.setCh n { d.ch n with cur := x }).set (F.DMA_STATUS_BUSY n) (b2n x.isSome)

/-- The bytes of positions [i, i+k) of a transfer, counted from its low end: its source's or its pattern's (R98). -/
def Side.xferData (p : Pkg) (d : Side) (x : Xfer) (i k : Nat) : List Byte :=
  match x.pattern with
  | some pat => (List.range k).map fun j => BitVec.ofNat 8 (pat / 2 ^ (8 * ((x.dst + i + j) % 8)))
  | none => d.spaceRead p x.srcSpace (x.src + i) k

/-- Progress to n bytes written: the next bytes in the transfer's direction move (R101, R103). -/
def Side.xferMove (p : Pkg) (d : Side) (x : Xfer) (n : Nat) : Side :=
  let k := n - x.written
  let i := if x.desc then x.len - n else x.written
  d.spaceWrite p x.fn x.dstSpace (x.dst + i) (d.xferData p x i k)

/-! Bursts (R95). -/

/-- The address that the bursts are laid on: the DRAM or SRAM address, the destination's where both are, or a FILL's destination. -/
def Xfer.lay (x : Xfer) : Nat := if x.pattern.isNone && x.dstSpace == 0 then x.src else x.dst

/-- Bytes of a first burst that runs up to the next multiple of 64; 0 where the address is one. -/
def Xfer.short (x : Xfer) : Nat := if x.lay % 64 = 0 then 0 else min x.len (64 - x.lay % 64)

/-- Bytes of the burst that follows w bytes, in the transfer's direction: the bursts of an ascending copy, from the top in a descending
one. -/
def Xfer.burst (x : Xfer) (w : Nat) : Nat :=
  if x.desc then
    let e := x.len - w
    if e ≤ x.short then e else e - max x.short ((x.lay + e - 1) / 512 * 512 - x.lay)
  else if w = 0 && x.short ≠ 0 then x.short
  else min (x.len - w) (512 - (x.lay + w) % 512)

/-- The channel's HALF event, once, when ceil(LENGTH ÷ 2) bytes have left the engine (R106, R476). -/
def Side.postHalf (p : Pkg) (ch : Nat) (x : Xfer) (d : Side) : Side :=
  if x.half && !x.halfPosted then d.notice p (0x0C0 + ch) 0 (x.sh.getD x.tag) 0 else d

/-- A transfer may run: its host work waits for Bus Master Enable of its function (R82), and a shadow set waits for PF0's between any two
bursts (R113). -/
def Xfer.mayRun (x : Xfer) (p : Pkg) : Bool :=
  p.pci.bme x.fn || !(x.sh.isSome || (x.pattern.isNone && !x.isFlush && x.srcSpace == 0) || x.dstSpace == 0)

/-! Shadow sets (R108 to R113). -/

/-- The finished set's result is posted and its RUNNING clears (R110 step 1); a failed one sets ERR (R116). -/
def Side.shPost (p : Pkg) (ch s : Nat) (r : Res) (bytes : Nat) (d : Side) : Side :=
  let d1 := (d.set (F.DMA_SH_RESULT_BYTES ch s) bytes).set (F.DMA_SH_STATE_CODE ch s) r.status
  let d2 := (d1.inc (F.DMA_SH_STATE_SEQ ch s) 1).set (F.DMA_SH_STATE_VALID ch s) 1
  let d3 := (d2.set (F.DMA_SH_STATE_RUNNING ch s) 0).set (F.DMA_PROGRESS_BYTES ch) bytes
  let d4 := d3.faultIf p (r.status != stSUCCESS) (0x0C0 + ch) (F.DMA_STATUS_ERR ch)
  if r.status == stSECURITY then d4.secDenied p else d4

/-- DONE of a set (R110 step 3, R476), posted and stamped at the close of the k-th window that opens here. -/
def Side.shDone (p : Pkg) (ch s : Nat) (full : Bool) (bytes k : Nat) (d : Side) : Side :=
  if full && !srcAbsent p.fuses.is7708 (0x0C0 + ch) then
    d.routePost p ⟨0x0C0 + ch, 1, s, bytes⟩ (d.devAt (p.now + 5 * (k + 1) / 2))
  else d

/-- The registers of a channel as they stand. -/
def Side.chRegs (d : Side) (ch : Nat) : Tab Word := d.rf.filter fun e => e.1 / 0x1000 == 0x100 + ch

/-- The k-th hand-over window from now opens for a finished set; before: the channel's registers until then. -/
def Side.openWin (p : Pkg) (ch s k : Nat) (before : Tab Word) (d : Side) : Side :=
  let c := d.ch ch
  d.setCh ch { c with wins := c.wins.filter (fun w => decide (2 * p.now ≤ w.1)) ++ [(2 * p.now + 5 * k, s, before)] }

/-- The hand-over window that a channel is in (R110): 4 core cycles, 2.5 ns. -/
def DmaCh.winNow (c : DmaCh) (now : Nat) : Option (Nat × Nat × Tab Word) :=
  c.wins.find? fun w => decide (w.1 ≤ 2 * now) && decide (2 * now < w.1 + 5)

/-- An idle channel takes the set armed first (R109), and the finished set's DONE follows, at the close of the window (R110): it
is the argument `after`. A set that R94 or R95 refuses then retires at once, with a window of its own, and the next is taken (R108). -/
def Side.shTake (p : Pkg) (ch : Nat) : Nat → Nat → (Side → Side) → Side → Side
  | 0, _, after, d => after d
  | fuel + 1, k, after, d =>
    match (d.ch ch).armed with
    | [] => after (d.dmaRefresh ch)
    | head :: rest =>
      let s := head.val
      if !d.groupOn 0 then after (d.dmaRefresh ch) else
      let d1 := (d.setCh ch { d.ch ch with armed := rest }).set (F.DMA_SH_STATE_ARMED ch s) 0
      let d2 := (d1.set (F.DMA_SH_STATE_RUNNING ch s) 1).set (F.DMA_STATUS_CUR_SH ch) s
      let x := d2.shXfer ch s
      match d2.xferCheck p x with
      | none => after ((d2.setCur ch (some x)).dmaRefresh ch)
      | some r =>
        let d3 := after (d2.dmaRefresh ch)
        ((d3.shPost p ch s r 0).openWin p ch s k (d3.chRegs ch)).shTake p ch fuel (k + 1) (Side.shDone p ch s x.full 0 k)

/-- The hand-over of a finished set (R110). -/
def Side.shHandover (p : Pkg) (ch s : Nat) (x : Xfer) (r : Res) (bytes : Nat) (d : Side) : Side :=
  let d1 := ((d.setCur ch none).shPost p ch s r bytes).openWin p ch s 0 (d.chRegs ch)
  d1.shTake p ch 3 1 (Side.shDone p ch s x.full bytes 0)

/-- A transfer ends with an outcome and a count of bytes written: its descriptor is finished, or its set is handed over;
PROGRESS keeps the count, but for FLUSH (R107, R117). -/
def Side.xferEnd (p : Pkg) (ch : Nat) (x : Xfer) (r : Res) (bytes : Nat) (d : Side) : Side :=
  match x.sh with
  | some s => d.shHandover p ch s x r bytes
  | none =>
    let d1 := (d.setCur ch none).finish x.ring x.slot r
    if x.isFlush then d1 else d1.set (F.DMA_PROGRESS_BYTES ch) bytes

/-! Starting ring descriptors (R97 to R99). -/

/-- The first bad field of COPY and FILL: reserved bits and bytes, a length of 0 (R94). -/
def copyDescBad (b : List Byte) : Option Nat :=
  firstSome [firstBad [(bits (dFld b 4 4) 6 26 != 0, 4), (dFld b 24 4 == 0, 24)], firstNonZero b 28 36]

/-- The first bad field of FLUSH: reserved bits and bytes, a FENCE_ADDR that its space does not take (R99). -/
def flushDescBad (b : List Byte) : Option Nat :=
  let space := bits (dFld b 4 4) 2 2
  let a := dFld b 16 8
  firstSome [if dFld b 4 4 ≠ 4 * space then some 4 else none, firstNonZero b 8 8,
    if (space = 1 && a ≠ 0) || (space = 0 && a % 4 ≠ 0) then some 16 else none, firstNonZero b 24 40]

/-- A COPY (op 0x10) or FILL (op 0x11) starts on its idle channel, or retires with its first failed check. -/
def Side.startXfer (p : Pkg) (op n : Nat) (d : Side) : Side :=
  let ch := d.sqTarget n
  match d.nextStart n op with
  | none => d
  | some e =>
    if 32 ≤ ch || (d.ch ch).cur.isSome || !d.groupOn 0 then d
    else
      let x := descXfer (ringFnNum n) n e
      match copyDescBad e.bytes with
      | some o => (d.startDone n (badField o)).set (F.DMA_PROGRESS_BYTES ch) 0
      | none =>
        match d.xferCheck p x with
        | some r => (d.startDone n r).set (F.DMA_PROGRESS_BYTES ch) 0
        | none => (d.startRun n).setCur ch (some x)

/-- A FLUSH starts its fence, or retires with its first failed check (R99, R104). -/
def Side.startFlush (n : Nat) (d : Side) : Side :=
  let ch := d.sqTarget n
  match d.nextStart n 0x12 with
  | none => d
  | some e =>
    if 32 ≤ ch || (d.ch ch).cur.isSome || !d.groupOn 0 then d
    else
      let x := descXfer (ringFnNum n) n e
      match flushDescBad e.bytes with
      | some o => d.startDone n (badField o)
      | none =>
        if 2 ≤ x.dstSpace then d.startDone n ⟨stDMA_BAD_SPACE, 0, 0⟩
        else (d.startRun n).setCur ch (some { x with isFlush := true, fence := some x.dst, desc := false })

def execCopy (n : Nat) (s : State) : Host.Outcome State Fault Refusal :=
  if n < 64 then .next (s.both (Side.timed fun p d => d.startXfer p 0x10 n)) else .next s

def execFill (n : Nat) (s : State) : Host.Outcome State Fault Refusal :=
  if n < 64 then .next (s.both (Side.timed fun p d => d.startXfer p 0x11 n)) else .next s

def execFlush (n : Nat) (s : State) : Host.Outcome State Fault Refusal :=
  if n < 64 then .next (s.both (Side.timed fun _ d => d.startFlush n)) else .next s

/-! Progress, completion, fences, errors. -/

/-- The successful outcome of a COPY or FILL (R98). -/
def xferRes (x : Xfer) : Res := ⟨stSUCCESS, x.len, b2n x.desc + 2 * b2n x.flushAfter⟩

/-- The 4-byte-aligned address of the byte written last in time (R104). -/
def fenceAddr (x : Xfer) : Nat :=
  let last := if x.desc then x.dst else x.dst + x.len - 1
  last - last % 4

/-- A failure in flight at an address with n bytes written (R107): the bytes written stand, every other destination
byte takes a free value, and the transfer ends. -/
def Side.xferFail (p : Pkg) (ch : Nat) (x : Xfer) (r : Res) (n : Nat) (d : Side) : Side :=
  let d0 := d.xferMove p x n
  let d1 := if ceilDiv x.len 2 ≤ n then d0.postHalf p ch x else d0
  let i := if x.desc then 0 else n
  let junk := (List.range (x.len - n)).map fun j => BitVec.ofNat 8 (Config.free p.free (0x10000 + j))
  (d1.spaceWrite p x.fn x.dstSpace (x.dst + i) junk).xferEnd p ch x r n

/-- The first stored DRAM error in the source of a transfer's next burst (R495). -/
def Side.burstEcc (d : Side) (x : Xfer) : Option Nat :=
  if x.pattern.isNone && x.srcSpace == 1 then
    let k := x.burst x.written
    d.eccIn x.desc (if x.desc then x.src + x.len - x.written - k else x.src + x.written) k
  else none

/-- The next burst of a channel's transfer: it moves, and HALF posts where it first brings ceil(LENGTH ÷ 2) bytes out of the engine
(R106); or the transfer stops at an error in what the burst reads, with the bursts before it written (R107; log entry 144). -/
def Side.burstOne (p : Pkg) (ch : Nat) (d : Side) : Side :=
  match (d.ch ch).cur with
  | none => d
  | some x =>
    match d.burstEcc x with
    | some a => d.xferFail p ch x ⟨stDMA_ECC, x.written, a % 2 ^ 32⟩ x.written
    | none =>
      let n := x.written + x.burst x.written
      let at_ := decide (ceilDiv x.len 2 ≤ n)
      let d1 := (d.xferMove p x n).setCur ch (some { x with written := n, halfPosted := x.halfPosted || at_ })
      if at_ then d1.postHalf p ch x else d1

/-- A transfer moves data: no fence runs, it may run and no pause holds it. -/
def Side.xferMoves (p : Pkg) (d : Side) (ch : Nat) (x : Xfer) : Bool := x.fence.isNone && x.mayRun p && !d.paused ch

/-- Channel c may take a burst for the sake of channel ch's progress: a last burst is left to the channel's own completion. -/
def Side.mayBurst (p : Pkg) (d : Side) (ch c : Nat) : Bool :=
  match (d.ch c).cur with
  | none => false
  | some y => d.xferMoves p c y && decide (y.written < y.len) && (c == ch || decide (y.written + y.burst y.written < y.len))

/-- A new round: each channel may take WEIGHT + 1 bursts (R96). -/
def Side.newRound (d : Side) : Side :=
  (List.range 32).foldl (fun d c => d.setCh c { d.ch c with quota := d.get (F.DMA_CFG_WEIGHT c) + 1 }) d

/-- The channel of a list that takes the next burst, and the side with that burst of its round used (R96). -/
def Side.dmaPick (l : List Nat) (d : Side) : Option (Nat × Side) :=
  let e := if l.any fun c => (d.ch c).quota ≠ 0 then d else d.newRound
  (l.find? fun c => (e.ch c).quota ≠ 0).map fun c => (c, e.setCh c { e.ch c with quota := (e.ch c).quota - 1 })

/-- The engine is shared by weighted round robin at burst granularity (R96) until channel ch's transfer has n bytes out. A throttle's
pause follows each burst (R464), so that under it a channel takes one burst at a time; used: channels that have. -/
def Side.dmaServe (p : Pkg) (ch n : Nat) : Nat → List Nat → Side → Side
  | 0, _, d => d
  | fuel + 1, used, d =>
    match (d.ch ch).cur with
    | none => d
    | some x =>
      if n ≤ x.written || used.contains ch then d
      else
        match d.dmaPick ((List.range 32).filter fun c => d.mayBurst p ch c && !used.contains c) with
        | none => d
        | some (c, d1) =>
          let one := d1.flag F.THM_STATUS_THROTTLE && !d1.exempt c
          (d1.burstOne p c).dmaServe p ch n fuel (if one then c :: used else used)

/-- Bytes that the running transfers still have to move: no more bursts can come. -/
def Side.dmaLeft (d : Side) : Nat :=
  ((List.range 32).map fun c => ((d.ch c).cur.map fun x => x.len - x.written).getD 0).sum

/-- The HALF point of the running transfer: ceil(LENGTH ÷ 2) bytes have left the engine (R106). -/
def Side.half (p : Pkg) (ch : Nat) (d : Side) : Side :=
  match (d.ch ch).cur with
  | none => d
  | some x =>
    if x.half && !x.halfPosted && d.xferMoves p ch x then d.dmaServe p ch (ceilDiv x.len 2) (d.dmaLeft + 1) [] else d

/-- The last write of the running transfer leaves the engine (R103): with FLUSH_AFTER the fence begins, else it ends. -/
def Side.xferComplete (p : Pkg) (ch : Nat) (d : Side) : Side :=
  match (d.ch ch).cur with
  | none => d
  | some x =>
    if !d.xferMoves p ch x then d
    else
      let d1 := d.dmaServe p ch x.len (d.dmaLeft + 1) []
      match (d1.ch ch).cur with
      | none => d1
      | some y =>
        if y.written < y.len then d1
        else if y.flushAfter then d1.setCur ch (some { y with fence := some (fenceAddr y) })
        else d1.xferEnd p ch y (xferRes y) y.len

/-- The fence of the running transfer completes, or its read fails (R104). -/
def Side.fenceComplete (p : Pkg) (ch : Nat) (ok : Bool) (d : Side) : Side :=
  match (d.ch ch).cur with
  | none => d
  | some x =>
    match x.fence with
    | none => d
    | some a =>
      if x.dstSpace = 0 && !p.pci.bme x.fn then d
      else if !ok && x.dstSpace = 0 then d.xferEnd p ch x (hostFaultRes a) x.written
      else if x.isFlush then d.xferEnd p ch x ⟨stSUCCESS, if x.dstSpace = 0 then leNat (memRead p.host a 4) else 0, 0⟩ 0
      else d.xferEnd p ch x (xferRes x) x.len

/-- Bursts of one channel, as long as they stay within n bytes. -/
def Side.burstsTo (p : Pkg) (ch n : Nat) : Nat → Side → Side
  | 0, d => d
  | fuel + 1, d =>
    match (d.ch ch).cur with
    | none => d
    | some x => if x.written < x.len && x.written + x.burst x.written ≤ n then (d.burstOne p ch).burstsTo p ch n fuel else d

/-- The running transfer meets an error with n bytes written (R107): a host access that fails, or an uncorrectable error
of the DRAM or SRAM it reads. -/
def Side.xferError (p : Pkg) (ch : Nat) (e : DmaErr) (n : Nat) (d : Side) : Side :=
  match (d.ch ch).cur with
  | none => d
  | some x =>
    let m := max x.written n
    if x.fence.isSome || decide (x.len ≤ m) || d.paused ch then d
    else
      match e with
      | .hostFault a =>
        if (x.pattern.isNone && x.srcSpace == 0) || x.dstSpace == 0 then d.xferFail p ch x (hostFaultRes a) m else d
      | .ecc a => if x.pattern.isNone && x.srcSpace != 0 then d.xferFail p ch x ⟨stDMA_ECC, m, a % 2 ^ 32⟩ m else d

def execDmaTransferComplete (ch : Nat) (s : State) : Host.Outcome State Fault Refusal :=
  if ch < 32 then .next (s.both (Side.timed fun p d => d.xferComplete p ch)) else .next s

def execFenceComplete (ch : Nat) (ok : Bool) (s : State) : Host.Outcome State Fault Refusal :=
  if ch < 32 then .next (s.both (Side.timed fun p d => d.fenceComplete p ch ok)) else .next s

def execHalf (ch : Nat) (s : State) : Host.Outcome State Fault Refusal :=
  if ch < 32 then .next (s.both (Side.timed fun p d => d.half p ch)) else .next s

def execDmaTransferError (ch : Nat) (err : DmaErr) (written : Nat) (s : State) : Host.Outcome State Fault Refusal :=
  if ch < 32 then .next (s.both (Side.timed fun p d => d.xferError p ch err written)) else .next s

/-! Writes of a shadow set's CTRL (R108, R109, R111). -/

/-- A write of CTRL: refused while the set is armed or running or the channel is in RING mode, if it changes a field or
sets ARM; ARM in the hand-over window of 4 core cycles of the set just finished is dropped; DISARM takes an armed set
out. DESIGN CHOICE (log entry 145): a write of both arms first, which clears VALID, and then disarms. -/
def Side.shCtrlWrite (p : Pkg) (ch s v : Nat) (d : Side) : Side :=
  let off := (F.DMA_SH_CTRL_ARM ch s).off
  let arm := bit v 8
  let touches := bits v 0 7 ≠ d.word off || arm
  if touches && (d.shBusy ch s || d.dmaMode ch = 1) then d.fault p (0x0C0 + ch) (F.DMA_STATUS_WINDOW_VIOL ch)
  else
    let d1 := d.setWord off (bits v 0 7)
    let inWin := (d.ch ch).wins.any fun w => w.2.1 == s && decide (w.1 ≤ 2 * p.now) && decide (2 * p.now < w.1 + 5)
    let d2 :=
      if arm && inWin then d1.fault p (0x0C0 + ch) (F.DMA_STATUS_ARM_DROPPED ch)
      else if arm then
        let d2 := (d1.set (F.DMA_SH_STATE_ARMED ch s) 1).set (F.DMA_SH_STATE_VALID ch s) 0
        d2.setCh ch { d2.ch ch with armed := (d2.ch ch).armed ++ [Fin.ofNat 2 s] }
      else d1
    let d3 :=
      if bit v 9 && !d2.flag (F.DMA_SH_STATE_RUNNING ch s) then
        (d2.set (F.DMA_SH_STATE_ARMED ch s) 0).setCh ch { d2.ch ch with armed := (d2.ch ch).armed.filter (·.val ≠ s) }
      else d2
    if (d3.ch ch).cur.isNone then d3.shTake p ch 3 0 id else d3.dmaRefresh ch

def execShadowArm (ch : Nat) (sh : Nat) (v : Word) (s : State) : Host.Outcome State Fault Refusal :=
  if ch < 32 && sh < 2 && bit v.toNat 8 then .next (s.asWrite true (F.DMA_SH_CTRL_ARM ch sh).off v.toNat (s.both (Side.timed fun p d => d.shCtrlWrite p ch sh v.toNat))) else .next s

def execShadowDisarm (ch : Nat) (sh : Nat) (v : Word) (s : State) : Host.Outcome State Fault Refusal :=
  if ch < 32 && sh < 2 && bit v.toNat 9 && !bit v.toNat 8 then .next (s.asWrite true (F.DMA_SH_CTRL_ARM ch sh).off v.toNat (s.both (Side.timed fun p d => d.shCtrlWrite p ch sh v.toNat)))
  else .next s

/-- Work in progress moves on by an open number of bursts, none of them its last, before it is cut off: the spec does not say how far
a transfer has come (log entry 146). -/
def Side.someBursts (p : Pkg) (ch : Nat) (d : Side) : Side :=
  match (d.ch ch).cur with
  | none => d
  | some x =>
    if d.xferMoves p ch x then d.burstsTo p ch (x.len - 1) (Config.free p.free (0xB0000 + ch) % (x.len / 512 + 2)) else d

/-- PF0 is reset or leaves D0: a running set stops with ABORTED and every armed set is disarmed without running (R113). -/
def Side.shAbort (p : Pkg) (ch : Nat) (d0 : Side) : Side :=
  let d := if ((d0.ch ch).cur.bind (·.sh)).isSome then d0.someBursts p ch else d0
  let d1 := ((d.setCh ch { d.ch ch with armed := [] }).set (F.DMA_SH_STATE_ARMED ch 0) 0).set (F.DMA_SH_STATE_ARMED ch 1) 0
  match (d1.ch ch).cur with
  | some x => if x.sh.isSome then d1.xferEnd p ch x ⟨stABORTED, 0, 0⟩ x.written else d1.dmaRefresh ch
  | none => d1.dmaRefresh ch

end Sys2Proof.Machine
end

