-- ==== Sys2Proof/Machine/Strudel.lean ====
section
/-! DEFINITION. The Strudel dispatcher (spec/05): job slots, decompression and compression on request, and the plate feed
into the stream buffers. -/

namespace Sys2Proof.Machine

/-! Job keys (R432, R439) and GUARD (R450), as the dispatcher sees them. -/

/-- The JOB_ID of key slot k. -/
def Side.keyId (d : Side) (k : Nat) : Nat := d.get64 (F.SEC_KEY_ID_LO_JOB_ID k) (F.SEC_KEY_ID_HI_JOB_ID k)

/-- The slot that holds a job's key. -/
def Side.keySlot (d : Side) (job : Nat) : Option Nat :=
  (List.range 16).find? fun k => d.flag (F.SEC_KEY_STATE_PRESENT k) && d.keyId k == job

/-- A present key is locked (R439). -/
def Side.keyLocked (d : Side) (k : Nat) : Bool :=
  d.flag (F.SEC_KEY_STATE_HOST_LOCK k) || d.flag (F.SEC_KEY_STATE_OBS_LOCK k) || d.get F.THM_PWR_STATE_STATE == 2

/-- A job's key for use, or the SECURITY reason (R455): 1 absent, 2 locked. -/
def Side.jobKey (d : Side) (job : Nat) : Except Nat Nat :=
  match d.keySlot job with
  | none => .error 1
  | some k => if d.keyLocked k then .error 2 else .ok (tget 0 d.sec.keys k)

/-- A job slot is open. -/
def Side.slotOpen (d : Side) (j : Nat) : Bool := d.get (F.STR_JOB_STATE_STATE j) == 1

/-- GUARD's first two conditions (R450). -/
def Side.guardHeld (d : Side) : Bool :=
  (List.range 16).any (fun k => d.flag (F.SEC_KEY_STATE_PRESENT k)) ||
  (List.range 4).any (fun j => d.slotOpen j && d.flag (F.STR_JOB_STATE_ENC j))

/-- GUARD after a change of keys or slots: set while they hold; when they end, a clear becomes pending (R450). -/
def Side.guardRefresh (d : Side) : Side :=
  if d.guardHeld then d.set F.SEC_STATUS_GUARD 1
  else if d.flag F.SEC_STATUS_GUARD then d.set F.SEC_STATUS_CLEARING 1
  else d

/-! Records and spoil causes, as engines see them (R181, R183). -/

def Side.recState (d : Side) (p : Nat) : Nat := d.get (F.PLN_PLATE_STATE_STATE p)

def Side.recSlot (d : Side) (p : Nat) : Nat := d.get (F.PLN_PLATE_STATE_SLOT p)

def Side.recPlate (d : Side) (p : Nat) : Nat := d.get (F.PLN_PLATE_ID_PLATE p)

def Side.recd (d : Side) (p : Nat) : Rec := tget {} d.pln.recs p

def Side.setRec (d : Side) (p : Nat) (r : Rec) : Side := { d with pln := { d.pln with recs := tset d.pln.recs p r } }

/-- A PLN history entry of a spoil cause (R183; log entry 14): SPOIL_SEEN with reason, record and plate, and the JOB_ID. -/
def Side.causeEntry (p : Pkg) (r reason : Nat) (d : Side) : Side :=
  d.faultD p 0x0F0 F.PLN_STATUS_SPOIL_SEEN (reason + 2 ^ 8 * r + 2 ^ 16 * d.recPlate r) (d.recd r).jobId

/-- A spoil cause is posted for record r (R181): it waits for the next control tick edge; after the spoil edge it is
entered in the history queue alone, and a plate that is DONE, or no plate, takes none (R183). -/
def Side.spoilCause (p : Pkg) (r reason : Nat) (d : Side) : Side :=
  if d.recActive r then { d with pln := { d.pln with causes := d.pln.causes ++ [(r, reason)] } }
  else if d.recState r = 6 then d.causeEntry p r reason
  else d

/-- A plate that is released or DONE before the spoil edge takes none of the causes posted for it (R181, R183). -/
def Side.dropCauses (r : Nat) (d : Side) : Side :=
  { d with pln := { d.pln with causes := d.pln.causes.filter fun c => c.1 != r } }

/-- A cause for every plate that is STARTED or ENDING. -/
def Side.spoilRunning (p : Pkg) (reason : Nat) (d : Side) : Side :=
  (List.range 4).foldl (fun d r => if d.recRunning r then d.spoilCause p r reason else d) d

/-! Engines. -/


def Side.decWork (d : Side) (e : Nat) : Work := tget .idle d.str.dec e

def Side.cmpWork (d : Side) (e : Nat) : Work := tget .idle d.str.cmp e

/-- A decompress engine takes or drops work; ENG_BUSY shows it. -/
def Side.setDec (d : Side) (e : Nat) (w : Work) : Side :=
  let d1 := { d with str := { d.str with dec := tset d.str.dec e w } }
  d1.set ⟨F.STR_ENG_BUSY_DEC.off, e, 1⟩ (b2n (w != .idle))

def Side.setCmp (d : Side) (e : Nat) (w : Work) : Side :=
  let d1 := { d with str := { d.str with cmp := tset d.str.cmp e w } }
  d1.set ⟨F.STR_ENG_BUSY_DEC.off, 8 + e, 1⟩ (b2n (w != .idle))

/-- The lowest free decompress engine, and compress engine (log entry 15). -/
def Side.freeDec (d : Side) : Option Nat := (List.range 8).find? fun e => d.decWork e == .idle && !d.paused (32 + e)

def Side.freeCmp (d : Side) : Option Nat := (List.range 2).find? fun e => d.cmpWork e == .idle && !d.paused (40 + e)

def Work.isReq : Work → Bool
  | .req _ _ => true
  | _ => false

/-- Decompress engines that requests hold. -/
def Side.reqCount (d : Side) : Nat := ((List.range 8).filter fun e => (d.decWork e).isReq).length

/-- A requested block may start on an engine now (R140). -/
def Side.reqRoom (d : Side) : Bool := d.plateWindow || decide (d.reqCount < d.get F.STR_CFG_HOST_ENG_MAX)

/-! Contexts (R149). -/

def Side.ctxOf (d : Side) (c : Nat) : Option Ctx := tget none d.str.ctx c

def Side.setCtx (d : Side) (c : Nat) (x : Option Ctx) : Side :=
  let d1 := { d with str := { d.str with ctx := tset d.str.ctx c x } }
  d1.set ⟨F.STR_CTX_BUSY_SUSPENDED.off, c, 1⟩ (b2n x.isSome)

/-! ERR and its count (R158). -/

/-- A code that sets STR_STATUS.ERR. -/
def strErrCode (st : Nat) : Bool := 0x40 ≤ st && st ≤ 0x4D && st != stSTR_OUT_FULL && st != stSTR_NO_GAIN

def Side.strErr (p : Pkg) (st : Nat) (d : Side) : Side :=
  if strErrCode st then (d.inc F.STR_ERRORS_COUNT 1).fault p 0x0E0 F.STR_STATUS_ERR else d

/-- A dispatcher command starts and is finished at once. -/
def Side.strDone (p : Pkg) (n : Nat) (r : Res) (d : Side) : Side := (d.startDone n r).strErr p r.status

/-- The running dispatcher command of a slot is finished. -/
def Side.strFinish (p : Pkg) (n slot : Nat) (r : Res) (d : Side) : Side := (d.finish n slot r).strErr p r.status

/-- A 64-bit count raised by one. -/
def Side.inc64 (d : Side) (lo hi : Fld) : Side := d.set64 lo hi ((d.get64 lo hi + 1) % 2 ^ 64)

def Side.blockCount (d : Side) : Side := d.inc64 F.STR_BLOCKS_LO_COUNT F.STR_BLOCKS_HI_COUNT

/-! Job slots (R131 to R139). -/

def Side.job (d : Side) (j : Nat) : Job := tget {} d.str.jobs j

def Side.setJob (d : Side) (j : Nat) (x : Job) : Side := { d with str := { d.str with jobs := tset d.str.jobs j x } }

def Side.jobId (d : Side) (j : Nat) : Nat := d.get64 (F.STR_JOB_ID_LO_JOB_ID j) (F.STR_JOB_ID_HI_JOB_ID j)

def Side.staged (d : Side) (j : Nat) : Nat := d.get64 (F.STR_JOB_STAGED_LO_STAGED j) (F.STR_JOB_STAGED_HI_STAGED j)

def Side.consumed (d : Side) (j : Nat) : Nat :=
  d.get64 (F.STR_JOB_CONSUMED_LO_CONSUMED j) (F.STR_JOB_CONSUMED_HI_CONSUMED j)

/-- CONSUMED: the offset of the lowest-indexed block not yet consumed, or STREAM_LEN (R138). -/
def Side.consumedRefresh (j : Nat) (d : Side) : Side :=
  let x := d.job j
  let v := match x.ents.find? (fun e => e.st ≠ .consumed) with
    | some e => e.off
    | none => x.len
  d.set64 (F.STR_JOB_CONSUMED_LO_CONSUMED j) (F.STR_JOB_CONSUMED_HI_CONSUMED j) v

/-- The index entry in 16 bytes (R132). -/
def entOf (b : List Byte) : Ent :=
  { off := leAt b 0 8, size := leAt b 8 3, kind := byteAt b 11, plate := leAt b 12 2, chan := byteAt b 14 }

/-- An entry is well formed after the one before it (R132, R133); first is the least offset the first block may have. -/
def entOk (p : Pkg) (plates len first : Nat) (b : List Byte) (prev : Option Ent) (e : Ent) : Bool :=
  e.off % 16 == 0 && decide (e.plate < plates) && byteAt b 15 == 0 && decide (e.off + e.size ≤ len) &&
  (match prev with
    | none => decide (first ≤ e.off) && e.kind == 2
    | some q => decide (q.off < e.off) && decide (q.off + q.size ≤ e.off) && decide (q.plate ≤ e.plate) &&
                (decide (q.plate < e.plate) == (e.kind == 2))) &&
  (if e.kind = 2 then e.chan == 0xFF else decide (e.kind < 2) && decide (e.chan < p.beams))

/-- The index of the first entry that fails, from the table's bytes. DESIGN CHOICE (log entry 148): where a condition joins two entries,
the later one fails. -/
def tabBad (p : Pkg) (plates len first : Nat) : Nat → Option Ent → List (List Byte) → Option Nat
  | _, _, [] => none
  | i, prev, b :: t =>
    if entOk p plates len first b prev (entOf b) then tabBad p plates len first (i + 1) (some (entOf b)) t else some i

/-- n pieces of 16 bytes. -/
def chunks16 (l : List Byte) : Nat → List (List Byte)
  | 0 => []
  | n + 1 => l.take 16 :: chunks16 (l.drop 16) n

/-- Reserved bytes and field values of JOB_OPEN, by first bad offset (R136 step 1). -/
def jobOpenBad (b : List Byte) : Option Nat :=
  if byteAt b 4 / 4 ≠ 0 then some 4
  else match firstNonZero b 5 3 with
    | some o => some o
    | none =>
      if dFld b 8 8 % 16 ≠ 0 then some 8
      else if dFld b 16 8 % 4096 ≠ 0 then some 16
      else if dFld b 24 4 % 4096 ≠ 0 ∨ dFld b 24 4 < 0x40000 then some 24
      else firstNonZero b 28 36

/-- JOB_OPEN's checks after step 1 on slot j (R136): the failure, or the header and table bytes. -/
def Side.jobOpenCheck (p : Pkg) (d : Side) (j : Nat) (b : List Byte) : Except Res (List Byte × List (List Byte)) :=
  let hdr := dFld b 8 8
  if d.slotOpen j then .error ⟨stREFUSED, 0, 0⟩
  else if !p.inSpace 1 hdr 64 then .error ⟨stSTR_RANGE, 0, 8⟩
  else if !p.inSpace 1 (dFld b 16 8) (dFld b 24 4) then .error ⟨stSTR_RANGE, 0, 16⟩
  else match d.eccIn false hdr 64 with
    | some a => .error ⟨stSTR_ECC, 0, a % 2 ^ 32⟩
    | none =>
      let h := memRead d.dram hdr 64
      let cnt := leAt h 16 4
      if leAt h 0 4 ≠ 0x4A7D5A01 ∨ leAt h 4 2 ≠ 1 ∨ leAt h 60 4 ≠ foldXor (leWords h 0 15) ∨ 1 < leAt h 6 2 ∨
          leAt h 22 2 ≠ 0 ∨ (firstNonZero h 36 24).isSome ∨ cnt = 0 ∨ 0x7FFFFFFF < cnt ∨ leAt h 20 2 = 0 then
        .error ⟨stSTR_JOB, 0, 0xFFFFFFFF⟩
      else if !p.inSpace 1 (hdr + 64) (16 * cnt) then .error ⟨stSTR_RANGE, 0, 8⟩
      else match d.eccIn false (hdr + 64) (16 * cnt) with
        | some a => .error ⟨stSTR_ECC, 0, a % 2 ^ 32⟩
        | none =>
          let tb := memRead d.dram (hdr + 64) (16 * cnt)
          if leAt h 32 4 ≠ foldXor (leWords tb 0 (4 * cnt)) then .error ⟨stSTR_JOB, 0, 0xFFFFFFFF⟩
          else
            let rows := chunks16 tb cnt
            match tabBad p (leAt h 20 2) (leAt h 24 8) (64 + 16 * cnt) 0 none rows with
            | some i => .error ⟨stSTR_JOB, 0, i⟩
            | none => .ok (h, rows)

/-- JOB_OPEN (R136). -/
def Side.jobOpen (p : Pkg) (n : Nat) (d : Side) : Side :=
  match d.nextStart n 0x30 with
  | none => d
  | some x =>
    let b := x.bytes
    let j := byteAt b 4 % 4
    match jobOpenBad b with
    | some o => d.strDone p n (badField o)
    | none =>
      match d.jobOpenCheck p j b with
      | .error r => d.strDone p n r
      | .ok (h, rows) =>
        let ents := rows.map entOf
        let first := ((ents.head?).map (·.off)).getD 0
        let d1 := d.setJob j { base := dFld b 16 8, win := dFld b 24 4, len := leAt h 24 8, ents := ents }
        let d2 := ((d1.set (F.STR_JOB_STATE_STATE j) 1).set (F.STR_JOB_STATE_ENC j) (leAt h 6 2 % 2)).set
          (F.STR_JOB_STATE_PLATES j) (leAt h 20 2)
        let d3 := d2.set64 (F.STR_JOB_ID_LO_JOB_ID j) (F.STR_JOB_ID_HI_JOB_ID j) (leAt h 8 8)
        let d4 := d3.set64 (F.STR_JOB_STAGED_LO_STAGED j) (F.STR_JOB_STAGED_HI_STAGED j) first
        let d5 := (d4.set (F.STR_JOB_LAST_ERR_VALID j) 0).set (F.STR_JOB_LAST_ERR_BLOCK j) 0
        let d6 := { d5 with pln := { d5.pln with stagedAt := tset d5.pln.stagedAt j first } }
        ((d6.consumedRefresh j).guardRefresh).strDone p n ⟨stSUCCESS, leAt h 16 4, leAt h 20 2⟩

/-- JOB_STAGED (R137). -/
def Side.jobStaged (p : Pkg) (n : Nat) (d : Side) : Side :=
  match d.nextStart n 0x31 with
  | none => d
  | some x =>
    let b := x.bytes
    let j := byteAt b 4 % 4
    let upTo := dFld b 8 8
    let bad := if byteAt b 4 / 4 ≠ 0 then some 4 else rsvCheck b [(5, 3), (16, 48)]
    match bad with
    | some o => d.strDone p n (badField o)
    | none =>
      let c := d.consumed j
      if !d.slotOpen j then d.strDone p n ⟨stREFUSED, 0, 1⟩
      else if upTo < d.staged j then d.strDone p n ⟨stREFUSED, c, 2⟩
      else if (d.job j).len < upTo then d.strDone p n ⟨stREFUSED, c, 3⟩
      else if c + (d.job j).win < upTo then d.strDone p n ⟨stREFUSED, c, 4⟩
      else (d.set64 (F.STR_JOB_STAGED_LO_STAGED j) (F.STR_JOB_STAGED_HI_STAGED j) upTo).strDone p n ⟨stSUCCESS, c, 0⟩

/-- Some record in the states COMMITTED to ENDING belongs to a job slot. -/
def Side.slotInUse (d : Side) (j : Nat) : Bool := (List.range 4).any fun r => d.recActive r && d.recSlot r == j

/-- A job slot closes (R139). -/
def Side.slotClose (j : Nat) (d : Side) : Side :=
  let d1 := ((d.set (F.STR_JOB_STATE_STATE j) 0).set (F.STR_JOB_STATE_ENC j) 0).set (F.STR_JOB_STATE_PLATES j) 0
  let d2 := d1.set64 (F.STR_JOB_ID_LO_JOB_ID j) (F.STR_JOB_ID_HI_JOB_ID j) 0
  let d3 := d2.set64 (F.STR_JOB_STAGED_LO_STAGED j) (F.STR_JOB_STAGED_HI_STAGED j) 0
  let d4 := d3.set64 (F.STR_JOB_CONSUMED_LO_CONSUMED j) (F.STR_JOB_CONSUMED_HI_CONSUMED j) 0
  ({ d4.setJob j {} with pln := { d4.pln with stagedAt := tset d4.pln.stagedAt j 0 } }).guardRefresh

/-- JOB_CLOSE (R139). -/
def Side.jobClose (p : Pkg) (n : Nat) (d : Side) : Side :=
  match d.nextStart n 0x32 with
  | none => d
  | some x =>
    let b := x.bytes
    let j := byteAt b 4 % 4
    match (if byteAt b 4 / 4 ≠ 0 then some 4 else firstNonZero b 5 59) with
    | some o => d.strDone p n (badField o)
    | none =>
      if d.slotInUse j then d.strDone p n ⟨stREFUSED, 0, 0⟩
      else (if d.slotOpen j then d.slotClose j else d).strDone p n ⟨stSUCCESS, 0, 0⟩

def execJobOpen (n : Nat) (s : State) : Host.Outcome State Fault Refusal :=
  if n < 64 then .next (s.both fun p d => d.jobOpen p n) else .next s

def execJobStaged (n : Nat) (s : State) : Host.Outcome State Fault Refusal :=
  if n < 64 then .next (s.both fun p d => d.jobStaged p n) else .next s

def execJobClose (n : Nat) (s : State) : Host.Outcome State Fault Refusal :=
  if n < 64 then .next (s.both fun p d => d.jobClose p n) else .next s

/-! Requests (R145 to R154). -/

/-- Two ranges share a byte. -/
def rangesMeet (a n b m : Nat) : Bool := decide (0 < n) && decide (0 < m) && decide (a < b + m) && decide (b < a + n)

def reqCtx (b : List Byte) : Nat := bits (dFld b 4 4) 8 4

/-- Some requested command that is running names context c (log entry 16). -/
def Side.ctxRunning (d : Side) (c : Nat) : Bool :=
  (List.range 8).any fun e =>
    match d.decWork e with
    | .req n slot =>
      (d.sqList n).any fun x => x.slot == slot && x.st == .running && dOpcode x.bytes != 0x38 && reqCtx x.bytes == c
    | _ => false

/-- Step 1 of R146 for DECOMPRESS, by first bad offset. -/
def decBad (b : List Byte) : Option Nat :=
  let w := dFld b 4 4
  if 2 ≤ bits w 0 2 ∨ 2 ≤ bits w 2 2 ∨ bits w 4 4 ≠ 0 ∨ bits w 12 20 ≠ 0 then some 4
  else if dFld b 28 4 = 0 ∨ 65536 < dFld b 28 4 then some 28
  else firstNonZero b 32 32

/-- Steps 1 to 3 of a DECOMPRESS. -/
def Side.decCheck (p : Pkg) (d : Side) (b : List Byte) : Option Res :=
  let w := dFld b 4 4
  match decBad b with
  | some o => some (badField o)
  | none =>
    if (d.ctxOf (reqCtx b)).isSome then some ⟨stSTR_CONTEXT, 0, reqCtx b⟩
    else if !p.inSpace (bits w 0 2) (dFld b 8 8) (dFld b 24 4) then some ⟨stSTR_RANGE, 0, 8⟩
    else if !p.inSpace (bits w 2 2) (dFld b 16 8) (dFld b 28 4) then some ⟨stSTR_RANGE, 0, 16⟩
    else if bits w 0 2 = bits w 2 2 && rangesMeet (dFld b 8 8) (dFld b 24 4) (dFld b 16 8) (dFld b 28 4) then
      some ⟨stSTR_OVERLAP, 0, 0⟩
    else if dFld b 24 4 < 16 then some ⟨stSTR_SRC_SHORT, 0, 16⟩
    else none

/-- The checks of DECOMPRESS_CONTINUE (R148, R149, R151). -/
def contBad (b : List Byte) : Option Nat :=
  let w := dFld b 4 4
  if 2 ≤ bits w 2 2 ∨ bits w 0 2 ≠ 0 ∨ bits w 4 4 ≠ 0 ∨ bits w 12 20 ≠ 0 then some 4
  else match firstNonZero b 8 8 with
    | some o => some o
    | none =>
      match firstNonZero b 24 4 with
      | some o => some o
      | none => if dFld b 28 4 = 0 ∨ 65536 < dFld b 28 4 then some 28 else firstNonZero b 32 32

def Side.contCheck (p : Pkg) (d : Side) (b : List Byte) : Option Res :=
  let w := dFld b 4 4
  match contBad b with
  | some o => some (badField o)
  | none =>
    match d.ctxOf (reqCtx b) with
    | none => some ⟨stSTR_CONTEXT, 0, reqCtx b⟩
    | some x =>
      if !p.inSpace (bits w 2 2) (dFld b 16 8) (dFld b 28 4) then some ⟨stSTR_RANGE, 0, 16⟩
      else if x.space = bits w 2 2 && rangesMeet x.src x.srcLen (dFld b 16 8) (dFld b 28 4) then
        some ⟨stSTR_OVERLAP, 0, 0⟩
      else none

/-- The checks of COMPRESS (R152). -/
def cmpBad (b : List Byte) : Option Nat :=
  let w := dFld b 4 4
  if 2 ≤ bits w 0 2 ∨ 2 ≤ bits w 2 2 ∨ bits w 4 28 ≠ 0 then some 4
  else if dFld b 24 4 = 0 ∨ 65536 < dFld b 24 4 then some 24
  else match firstNonZero b 30 2 with
    | some o => some o
    | none => if dFld b 32 4 < dFld b 24 4 + 19 then some 32 else firstNonZero b 36 28

def Side.cmpCheck (p : Pkg) (_ : Side) (b : List Byte) : Option Res :=
  let w := dFld b 4 4
  match cmpBad b with
  | some o => some (badField o)
  | none =>
    if !p.inSpace (bits w 0 2) (dFld b 8 8) (dFld b 24 4) then some ⟨stSTR_RANGE, 0, 8⟩
    else if !p.inSpace (bits w 2 2) (dFld b 16 8) (dFld b 32 4) then some ⟨stSTR_RANGE, 0, 16⟩
    else if bits w 0 2 = bits w 2 2 && rangesMeet (dFld b 8 8) (dFld b 24 4) (dFld b 16 8) (dFld b 32 4) then
      some ⟨stSTR_OVERLAP, 0, 0⟩
    else none

/-! Finishing a request (R146 to R150, R152, R153). -/

/-- Output of a block from count p0 into a space of cap bytes (R147): the outcome and, if the block suspends, its
context; out is the block's output so far in its stream's order and err its failure, crcOk the trailer's value. -/
def Side.deliverOut (p : Pkg) (n : Nat) (x : Desc) (c : Ctx) (dc : Dec) (d : Side) : Side :=
  let b := x.bytes
  let w := dFld b 4 4
  let fn := ringFnNum n
  let cap := dFld b 28 4
  let p0 := c.out.length
  let ulen := hULen c.blk
  let cx := reqCtx b
  let put (d : Side) (l : List Byte) : Side := d.spaceWrite p fn (bits w 2 2) (dFld b 16 8) l
  let part := (dc.out.drop p0).take cap
  if p0 + cap < ulen && decide (p0 + cap ≤ dc.out.length) then
    ((put d part).setCtx cx (some { c with out := c.out ++ part })).strFinish p n x.slot
      ⟨stSTR_OUT_FULL, cap, ulen - (p0 + cap)⟩
  else
    let d1 := (put d part).setCtx cx none
    match dc.err with
    | some st => d1.strFinish p n x.slot ⟨st, 0, dc.out.length⟩
    | none =>
      let crc := crc32c dc.out
      if leAt c.blk (16 + hCLen c.blk) 4 ≠ crc then d1.strFinish p n x.slot ⟨stSTR_CRC, 0, crc⟩
      else (d1.blockCount).strFinish p n x.slot ⟨stSUCCESS, part.length, crc⟩

/-- The steps of R146 from the header on. -/
def Side.decFinish (p : Pkg) (n : Nat) (x : Desc) (d : Side) : Side :=
  let b := x.bytes
  let sp := bits (dFld b 4 4) 0 2
  let src := dFld b 8 8
  let ecc (k : Nat) : Option Nat := if sp = 1 then d.eccIn false src k else none
  match ecc 16 with
  | some a => d.strFinish p n x.slot ⟨stSTR_ECC, 0, a % 2 ^ 32⟩
  | none =>
    let h := d.spaceRead p sp src 16
    match headerCheck h with
    | some (st, r1) => d.strFinish p n x.slot ⟨st, 0, r1⟩
    | none =>
      if dFld b 24 4 < hSize h then d.strFinish p n x.slot ⟨stSTR_SRC_SHORT, 0, hSize h⟩
      else if hEnc h then d.strFinish p n x.slot ⟨stSECURITY, 0, 6⟩
      else match ecc (hSize h) with
        | some a => d.strFinish p n x.slot ⟨stSTR_ECC, 0, a % 2 ^ 32⟩
        | none =>
          let blk := d.spaceRead p sp src (hSize h)
          d.deliverOut p n x ⟨ringFnNum n, sp, src, dFld b 24 4, blk, []⟩ (payloadDecode h ((blk.drop 16).take (hCLen h)))

/-- What a continued block whose source bytes have changed gives (R148): the output is unspecified, so it is free, and so is whether and
where its payload breaks the stream's rules (R123, R126); a MODE 1 payload has none. -/
def contFree (p : Pkg) (c : Ctx) : Dec :=
  let rest := (List.range (hULen c.blk - c.out.length)).map fun i => BitVec.ofNat 8 (Config.free p.free (0x20000 + i))
  if Config.free p.free 0x1FFFF % 2 = 0 || hMode c.blk = 1 then ⟨c.out ++ rest, none⟩
  else ⟨c.out ++ rest.take (Config.free p.free 0x1FFFE % (rest.length + 1)), some (if hMode c.blk = 0 then stSTR_TOKEN else stSTR_DEFLATE)⟩

/-- A continued block (R148), checked against the trailer as it now stands. A failed read of its source ends the suspension: DESIGN
CHOICE (log entry 151), R149 names the block's final retirement. -/
def Side.contFinish (p : Pkg) (n : Nat) (x : Desc) (d : Side) : Side :=
  match d.ctxOf (reqCtx x.bytes) with
  | none => d.strFinish p n x.slot ⟨stSTR_CONTEXT, 0, reqCtx x.bytes⟩
  | some c =>
    let now := d.spaceRead p c.space c.src c.blk.length
    let ecc := if c.space = 1 then d.eccIn false c.src c.blk.length else none
    match ecc with
    | some a => (d.setCtx (reqCtx x.bytes) none).strFinish p n x.slot ⟨stSTR_ECC, 0, a % 2 ^ 32⟩
    | none =>
      if now = c.blk then d.deliverOut p n x c (payloadDecode c.blk ((c.blk.drop 16).take (hCLen c.blk)))
      else
        let blk := c.blk.take (16 + hCLen c.blk) ++ now.drop (16 + hCLen c.blk)
        d.deliverOut p n x { c with blk := blk } (contFree p c)

/-- COMPRESS ends with a block or with no gain (R152, R153); then the bytes at DST are unspecified: free values. -/
def Side.cmpFinish (p : Pkg) (n : Nat) (x : Desc) (d : Side) : Side :=
  let b := x.bytes
  let w := dFld b 4 4
  let len := dFld b 24 4
  let pitch := dFld b 28 2
  let fn := ringFnNum n
  let ecc := if bits w 0 2 = 1 then d.eccIn false (dFld b 8 8) len else none
  match ecc with
  | some a => d.strFinish p n x.slot ⟨stSTR_ECC, 0, a % 2 ^ 32⟩
  | none =>
    let input := d.spaceRead p (bits w 0 2) (dFld b 8 8) len
    match compressPayload input pitch with
    | some t =>
      (d.spaceWrite p fn (bits w 2 2) (dFld b 16 8) (mkBlock 0 input pitch t)).strFinish p n x.slot
        ⟨stSUCCESS, 20 + t.length, crc32c input⟩
    | none =>
      let junk := (List.range (min (dFld b 32 4) (len + 19))).map fun i => BitVec.ofNat 8 (Config.free p.free (0x30000 + i))
      (d.spaceWrite p fn (bits w 2 2) (dFld b 16 8) junk).strFinish p n x.slot ⟨stSTR_NO_GAIN, 0, crc32c input⟩

/-- The engine that runs a request leaves it. -/
def Side.reqFree (n slot : Nat) (d : Side) : Side :=
  let d1 := (List.range 8).foldl (fun d e => if d.decWork e = .req n slot then d.setDec e .idle else d) d
  (List.range 2).foldl (fun d e => if d.cmpWork e = .req n slot then d.setCmp e .idle else d) d1

/-- Some engine runs a request. -/
def Side.reqRuns (d : Side) (n slot : Nat) : Bool :=
  (List.range 8).any (fun e => d.decWork e == .req n slot) || (List.range 2).any (fun e => d.cmpWork e == .req n slot)

/-- A request names HOST (its source, its output or its suspended source). -/
def Side.reqHost (d : Side) (x : Desc) : Bool :=
  let w := dFld x.bytes 4 4
  bits w 2 2 == 0 || (dOpcode x.bytes != 0x35 && bits w 0 2 == 0) ||
  (dOpcode x.bytes == 0x35 && ((d.ctxOf (reqCtx x.bytes)).map (·.space)) == some 0)

/-- A requested decompress or compress finishes on its engine; herr is the address at which its host access failed, if
it did (R79), which ends a suspension too (log entry 151). Host work waits for Bus Master Enable (R82). -/
def Side.requestDone (p : Pkg) (n slot : Nat) (herr : Option Nat) (d : Side) : Side :=
  match (d.sqList n).find? (fun x => x.slot == slot && x.st == .running) with
  | none => d
  | some x =>
    if !d.reqRuns n slot || (d.reqHost x && !p.pci.bme (ringFnNum n)) then d
    else
      let d1 := d.reqFree n slot
      match herr with
      | some a =>
        if d.reqHost x then (if dOpcode x.bytes = 0x35 then d1.setCtx (reqCtx x.bytes) none else d1).strFinish p n slot (hostFaultRes a)
        else d
      | none =>
        if dOpcode x.bytes = 0x34 then d1.decFinish p n x
        else if dOpcode x.bytes = 0x35 then d1.contFinish p n x
        else if dOpcode x.bytes = 0x38 then d1.cmpFinish p n x
        else d

def execStrudelRequestDone (n : Nat) (slot : Nat) (herr : Option Nat) (s : State) : Host.Outcome State Fault Refusal :=
  if n < 64 then .next (s.both (Side.timed fun p d => d.requestDone p n slot herr)) else .next s

/-! Blocks of a job (R134, R141, R142). -/

/-- Bytes of the data window at a stream offset (R136). -/
def Side.winRead (d : Side) (x : Job) (o : Nat) : Nat → List Byte
  | 0 => []
  | n + 1 => memByte d.dram (x.base + o % x.win) :: d.winRead x (o + 1) n

/-- The first stored error in n window bytes at a stream offset. -/
def Side.winEcc (d : Side) (x : Job) (o n : Nat) : Option Nat :=
  let a := o % x.win
  let k := min n (x.win - a)
  match d.eccIn false (x.base + a) k with
  | some e => some e
  | none => d.eccIn false x.base (n - k)

/-- IV of a block: JOB_ID, then the block index (R128). -/
def blockIv (job idx : Nat) : List Byte := leBytes 8 job ++ leBytes 4 idx

/-- Bytes 8 to 15 of an index entry (R132). -/
def entTail (e : Ent) : List Byte :=
  leBytes 4 (e.size + 2 ^ 24 * e.kind) ++ leBytes 2 e.plate ++ leBytes 2 e.chan

/-- A block of job slot j read and decoded under a key: its output, or status and RESULT1 of the first failure. DESIGN CHOICE (log entry
149): the header is judged first, then STR_JOB, then key and tag, then the payload and its CRC. -/
def Side.blockDecode (d : Side) (j idx : Nat) (e : Ent) (key : Except Nat Nat) : Except (Nat × Nat) (List Byte) :=
  let x := d.job j
  match d.winEcc x e.off e.size with
  | some a => .error (stSTR_ECC, a % 2 ^ 32)
  | none =>
    let h := d.winRead x e.off 16
    match headerCheck h with
    | some f => .error f
    | none =>
      if hSize h ≠ e.size || (d.flag (F.STR_JOB_STATE_ENC j) && !hEnc h) || (e.kind == 1 && hULen h % 32 != 0) then
        .error (stSTR_JOB, idx)
      else
        let body := d.winRead x (e.off + 16) (e.size - 16)
        let clear : Except (Nat × Nat) (List Byte) :=
          if hEnc h then
            match key with
            | .error why => .error (stSECURITY, why)
            | .ok k =>
              match gcmOpen (leBytes 32 k) (blockIv (d.jobId j) idx) (h ++ entTail e) (body.take (hCLen h + 4))
                  ((body.drop (hCLen h + 4)).take 16) with
              | some pt => .ok pt
              | none => .error (stSTR_AUTH, 0)
          else .ok body
        match clear with
        | .error f => .error f
        | .ok pt =>
          let dc := payloadDecode h (pt.take (hCLen h))
          match dc.err with
          | some st => .error (st, dc.out.length)
          | none =>
            if leAt pt (hCLen h) 4 = crc32c dc.out then .ok dc.out else .error (stSTR_CRC, crc32c dc.out)

/-- A failed block is recorded (R141, R155). -/
def Side.blockErr (p : Pkg) (j idx st : Nat) (d : Side) : Side :=
  let d1 := (d.inc F.STR_ERRORS_COUNT 1).faultD p 0x0E0 F.STR_STATUS_ERR idx st
  let d2 := d1.faultIf p (st == stSTR_AUTH) 0x0E0 F.STR_STATUS_AUTH_FAIL
  (d2.set (F.STR_JOB_LAST_ERR_BLOCK j) idx).set (F.STR_JOB_LAST_ERR_VALID j) 1

/-! The plate feed (R138, R140, R141). -/

def Side.buf (d : Side) (c : Nat) : List Piece := tget [] d.str.bufs c

def Side.setBuf (d : Side) (c : Nat) (l : List Piece) : Side := { d with str := { d.str with bufs := tset d.str.bufs c l } }

/-- Bytes a channel's buffer holds or reserves. -/
def Side.bufHeld (d : Side) (c : Nat) : Nat := ((d.buf c).map (·.ulen)).sum

/-- A channel's allotment in force: the one computed last, or the old one while the fill is above it (R174). -/
def Side.allotOf (d : Side) (c : Nat) : Nat :=
  let cur := tget 0 d.str.allot c
  let upTo := tget 0 d.str.allotTo c
  if upTo < cur && upTo < d.bufHeld c then cur else upTo

/-- The allotment kept in step with the fill. -/
def Side.allotKeep (c : Nat) (d : Side) : Side :=
  { d with str := { d.str with allot := tset d.str.allot c (d.allotOf c) } }

/-- Pieces of a record on a channel, in index order. -/
def Side.recPieces (d : Side) (r c : Nat) : List Piece := (d.buf c).filter fun x => x.pl == r

/-- The visible data of a record on a channel (R140). -/
def Side.visible (d : Side) (r c : Nat) : List Byte :=
  (((d.recPieces r c).takeWhile fun x => x.data.isSome).map fun x => x.data.getD []).flatten

/-- fill_c of a record: its visible bytes. -/
def Side.recFill (d : Side) (r c : Nat) : Nat := (d.visible r c).length

/-- Entries of a plate in a job slot, with their indexes. -/
def Side.plateEnts (d : Side) (j pl : Nat) : List (Nat × Ent) :=
  (((d.job j).ents.zipIdx).filter fun e => e.1.plate == pl).map fun e => (e.2, e.1)

/-- The channel holds the whole of the plate's data: every block of it has been decoded and is visible (R171). -/
def Side.recWhole (d : Side) (r c : Nat) : Bool :=
  ((d.plateEnts (d.recSlot r) (d.recPlate r)).all fun e => e.2.chan != c || e.2.st == .decoded || e.2.st == .consumed) &&
  (d.recPieces r c).all fun x => x.data.isSome

/-- The first block of a record that can be assigned: in index order, each channel held back by its own first block that
lacks room, every channel by a block not staged (R140). -/
def Side.feedNext (d : Side) (j : Nat) : List Nat → List (Nat × Ent) → Option (Nat × Ent)
  | _, [] => none
  | held, (i, e) :: t =>
    if e.kind = 2 || e.st ≠ .waiting then d.feedNext j held t
    else if d.staged j < e.off + e.size then none
    else if held.contains e.chan then d.feedNext j held t
    else if d.bufHeld e.chan + hULen (d.winRead (d.job j) e.off 16) ≤ d.allotOf e.chan then some (i, e)
    else d.feedNext j (e.chan :: held) t

/-- Records by precedence: the STARTED plate, then the others in commit order (R140). -/
def Side.feedOrder (d : Side) : List Nat :=
  let rs := (List.range 4).filter fun r => let s := d.recState r; s == 1 || s == 2 || s == 3
  sortBy (fun r => if d.recState r == 3 then 0 else (d.recd r).seq + 1) rs

/-- The next block to assign: record, index, entry. -/
def Side.feedPick (d : Side) : Option (Nat × Nat × Ent) :=
  (d.feedOrder).findSome? fun r =>
    (d.feedNext (d.recSlot r) [] (d.plateEnts (d.recSlot r) (d.recPlate r))).map fun e => (r, e.1, e.2)

/-- An entry of a job slot changes its standing. -/
def Side.setEnt (j idx : Nat) (st : EntSt) (d : Side) : Side :=
  let x := d.job j
  d.setJob j { x with ents := x.ents.modify idx fun e => { e with st := st } }

/-- BLOCK_ASSIGN: the next plate-feed block takes the lowest free engine and reserves its bytes; without its key it fails
with SECURITY and its plate is spoiled with KEY (R140, R141). -/
def Side.blockAssign (p : Pkg) (d : Side) : Side :=
  if !d.groupOn 1 then d
  else match d.freeDec, d.feedPick with
    | some eng, some (r, idx, e) =>
      let j := d.recSlot r
      let h := d.winRead (d.job j) e.off 16
      let key := d.jobKey (d.jobId j)
      match (if d.flag (F.STR_JOB_STATE_ENC j) || hEnc h then key else .ok 0) with
      | .error _ => ((d.setEnt j idx .failed).blockErr p j idx stSECURITY).spoilCause p r 4
      | .ok k =>
        let d1 := (d.setEnt j idx .onEngine).setDec eng (.feed j idx r k)
        d1.setBuf e.chan (d1.buf e.chan ++ [⟨r, idx, hULen h, none⟩])
    | _, _ => d

/-- BLOCK_DECODED: the block on an engine is decoded; its output joins its channel's data, or nothing of it is visible and
its plate is spoiled (R140, R141). -/
def Side.blockDecoded (p : Pkg) (eng : Nat) (d : Side) : Side :=
  match d.decWork eng with
  | .feed j idx r k =>
    let e := (d.job j).ents.getD idx default
    let d1 := d.setDec eng .idle
    match d.blockDecode j idx e (.ok k) with
    | .error (st, _) => ((d1.setEnt j idx .failed).blockErr p j idx st).spoilCause p r 3
    | .ok out =>
      let d2 := (d1.blockCount).setBuf e.chan ((d1.buf e.chan).map fun x =>
        if x.pl = r && x.idx = idx then { x with ulen := out.length, data := some out } else x)
      (d2.setEnt j idx (if d.recRunning r then .consumed else .decoded)).consumedRefresh j
  | _ => d

def execBlockAssign (s : State) : Host.Outcome State Fault Refusal := .next (s.both (Side.timed Side.blockAssign))

def execBlockDecoded (eng : Nat) (s : State) : Host.Outcome State Fault Refusal :=
  if eng < 8 then .next (s.both (Side.timed fun p d => d.blockDecoded p eng)) else .next s

/-! Requests start (R140, R146 to R154, R298). -/

/-- A DECOMPRESS (0x34) or DECOMPRESS_CONTINUE (0x35) starts on a free engine, or retires with its first failed check; a
command whose context a running one names waits for it, and plate feed goes first: while it has a block to assign, none starts (R140). -/
def Side.startDec (p : Pkg) (op n : Nat) (d : Side) : Side :=
  match d.nextStart n op with
  | none => d
  | some x =>
    if !d.groupOn 1 || d.ctxRunning (reqCtx x.bytes) then d
    else match (if op = 0x34 then d.decCheck p x.bytes else d.contCheck p x.bytes) with
      | some r => d.strDone p n r
      | none =>
        match d.freeDec with
        | none => d
        | some e => if d.reqRoom && d.feedPick.isNone then (d.startRun n).setDec e (.req n x.slot) else d

/-- A closed chunk of telemetry waits for a compress engine (R298). -/
def Side.chunkWaits (d : Side) : Bool := d.mpl.chunks.any fun c => c.closed && c.block.isNone

/-- A COMPRESS starts on a free engine, behind telemetry that waits for one (R298), or retires with its first failed check. -/
def Side.startCmp (p : Pkg) (n : Nat) (d : Side) : Side :=
  match d.nextStart n 0x38 with
  | none => d
  | some x =>
    if !d.groupOn 2 then d
    else match d.cmpCheck p x.bytes with
      | some r => d.strDone p n r
      | none =>
        match d.freeCmp with
        | none => d
        | some e => if d.chunkWaits then d else (d.startRun n).setCmp e (.req n x.slot)

/-- CONTEXT_DROP (R149). -/
def Side.ctxDrop (p : Pkg) (n : Nat) (d : Side) : Side :=
  match d.nextStart n 0x36 with
  | none => d
  | some x =>
    let b := x.bytes
    let c := reqCtx b
    if d.ctxRunning c then d
    else match (if dFld b 4 4 - 2 ^ 8 * c ≠ 0 then some 4 else firstNonZero b 8 56) with
      | some o => d.strDone p n (badField o)
      | none =>
        match d.ctxOf c with
        | none => d.strDone p n ⟨stSTR_CONTEXT, 0, c⟩
        | some _ => (d.setCtx c none).strDone p n ⟨stSUCCESS, 0, 0⟩

def execDecompress (n : Nat) (s : State) : Host.Outcome State Fault Refusal :=
  if n < 64 then .next (s.both (Side.timed fun p d => d.startDec p 0x34 n)) else .next s

def execDecompressContinue (n : Nat) (s : State) : Host.Outcome State Fault Refusal :=
  if n < 64 then .next (s.both (Side.timed fun p d => d.startDec p 0x35 n)) else .next s

def execContextDrop (n : Nat) (s : State) : Host.Outcome State Fault Refusal :=
  if n < 64 then .next (s.both fun p d => d.ctxDrop p n) else .next s

def execCompress (n : Nat) (s : State) : Host.Outcome State Fault Refusal :=
  if n < 64 then .next (s.both (Side.timed fun p d => d.startCmp p n)) else .next s

/-- Entries of a plate changed by a function. -/
def Side.mapPlate (j pl : Nat) (f : EntSt → EntSt) (d : Side) : Side :=
  let x := d.job j
  (d.setJob j { x with ents := x.ents.map fun e => if e.plate = pl then { e with st := f e.st } else e }).consumedRefresh j

/-- A record's data leaves every buffer and engine. -/
def Side.dropFeed (r : Nat) (d : Side) : Side :=
  let d1 := (List.range 8).foldl (fun d e =>
    match d.decWork e with
    | .feed _ _ q _ => if q = r then d.setDec e .idle else d
    | _ => d) d
  (List.range 16).foldl (fun d c => (d.setBuf c ((d.buf c).filter fun x => x.pl != r)).allotKeep c) d1

/-- A plate that starts: its metadata and its decoded blocks are consumed (R138). -/
def Side.feedStart (r : Nat) (d : Side) : Side :=
  let x := d.job (d.recSlot r)
  let mine (e : Ent) : Bool := e.plate == d.recPlate r && (e.kind == 2 || e.st == .decoded)
  let es := x.ents.map fun e => if mine e then { e with st := .consumed } else e
  (d.setJob (d.recSlot r) { x with ents := es }).consumedRefresh (d.recSlot r)

/-- A released plate: its data is discarded, its blocks are decoded afresh if it is committed again (R138). -/
def Side.feedRelease (r : Nat) (d : Side) : Side :=
  (d.dropFeed r).mapPlate (d.recSlot r) (d.recPlate r) fun st => if st = .consumed then .consumed else .waiting

/-- A spoiled plate: blocks in flight are discarded and CONSUMED passes its last block (R181). -/
def Side.feedSpoil (r : Nat) (d : Side) : Side :=
  (d.dropFeed r).mapPlate (d.recSlot r) (d.recPlate r) fun _ => .consumed

/-- The pieces left after n visible bytes of record r are taken from the front. -/
def takePieces (r : Nat) : Nat → List Piece → List Piece
  | _, [] => []
  | n, x :: t =>
    if x.pl ≠ r then x :: takePieces r n t
    else
      let l := x.data.getD []
      if n < l.length then { x with ulen := l.length - n, data := some (l.drop n) } :: t
      else takePieces r (n - l.length) t

/-- The pipeline of channel c takes the next n bytes of record r's data. -/
def Side.takeStream (r c n : Nat) (d : Side) : Side := (d.setBuf c (takePieces r n (d.buf c))).allotKeep c

end Sys2Proof.Machine
end

