-- ==== Sys2Proof/Machine/Planner.lean ====
section
/-! DEFINITION. Plate records, their ends, the allotment and the energy ledger (spec/06): what the planner does with a
plate that is committed; the commit gate and the start are in Machine/Gate.lean. -/

namespace Sys2Proof.Machine

/-! Metadata (R162). -/

def mKind (m : List Byte) : Nat := byteAt m 6
def mPolicy (m : List Byte) : Nat := byteAt m 7 % 4
def mDuration (m : List Byte) : Nat := leAt m 8 8
def mRise (m : List Byte) : Nat := leAt m 16 2
def mMargin (m : List Byte) : Nat := leAt m 18 2
def mWm (m : List Byte) (i : Nat) : Nat := byteAt m (20 + i)
def mSf (m : List Byte) (i : Nat) : Nat := byteAt m (24 + i)
def mHyst (m : List Byte) : Nat := byteAt m 28
def mStop (m : List Byte) : Nat := byteAt m 29
def mResume (m : List Byte) : Nat := byteAt m 30
def mBackup (m : List Byte) : Nat := leAt m 32 2
def mDot (m : List Byte) (c : Nat) : Nat := leAt m (64 + 16 * c) 4
def mStream (m : List Byte) (c : Nat) : Nat := leAt m (68 + 16 * c) 4
def mEnergy (m : List Byte) (j : Nat) : Nat := leAt m (320 + 4 * j) 4
def mPeak (m : List Byte) (j : Nat) : Nat := leAt m (448 + 2 * j) 2

/-- Channels of a plate: those with a stream rate (R162). -/
def mChans (m : List Byte) : List Nat := (List.range 16).filter fun c => mStream m c != 0

def mDotSum (m : List Byte) : Nat := ((List.range 16).map (mDot m)).sum
def mPeakSum (m : List Byte) : Nat := ((List.range 32).map (mPeak m)).sum

def Side.mdat (d : Side) (r : Nat) : List Byte := (d.recd r).mdat

/-- Records in the states COMMITTED to ENDING. -/
def Side.activeRecs (d : Side) : List Nat := (List.range 4).filter fun r => d.recActive r

def Side.runningRecs (d : Side) : List Nat := (List.range 4).filter fun r => d.recRunning r

/-- The record that is STARTED (R160). -/
def Side.startedRec (d : Side) : Option Nat := (List.range 4).find? fun r => d.recState r == 3

/-- STARTED_REC and STARTED_VALID brought up to date (R189). -/
def Side.startedRefresh (d : Side) : Side :=
  match d.startedRec with
  | some r => (d.set F.PLN_STATUS_STARTED_VALID 1).set F.PLN_STATUS_STARTED_REC r
  | none => (d.set F.PLN_STATUS_STARTED_VALID 0).set F.PLN_STATUS_STARTED_REC 0

def Side.setRecState (d : Side) (r st : Nat) : Side := (d.set (F.PLN_PLATE_STATE_STATE r) st).startedRefresh

/-- A record's notice (R476). -/
def Side.recNotice (p : Pkg) (r code detail : Nat) (d : Side) : Side := d.notice p (0x0F4 + r) code detail (d.recd r).jobId

/-! The allotment (R174). -/

/-- The largest stream rate of a channel over the active records. -/
def Side.rateOf (d : Side) (c : Nat) : Nat := ((d.activeRecs).map fun r => mStream (d.mdat r) c).foldl max 0

/-- The division of the stream buffers recomputed. -/
def Side.realloc (d : Side) : Side :=
  let sum := ((List.range 16).map d.rateOf).sum
  let d0 := (List.range 16).foldl (fun d c => d.allotKeep c) d
  let upTo := (List.range 16).map fun c => (c, if sum = 0 then 0 else 65536 * (192 * d.rateOf c / sum))
  let d1 := { d0 with str := { d0.str with allotTo := upTo } }
  (List.range 16).foldl (fun d c => d.allotKeep c) d1

/-! Waits (R167). -/

/-- Every command that waits for record r retires with an outcome. -/
def Side.endWaits (r status t r1 : Nat) (d : Side) : Side :=
  let mine := d.pln.waits.filter fun w => w.1 == r
  let d1 := { d with pln := { d.pln with waits := d.pln.waits.filter fun w => w.1 != r } }
  mine.foldl (fun d w => d.finish w.2.1 w.2.2 ⟨status, t, r1⟩) d1

def stPLN_GATE : Nat := 0x60
def stPLN_META : Nat := 0x61
def stPLN_BUSY : Nat := 0x62
def stPLN_STATE : Nat := 0x63
def stPLN_START_FAIL : Nat := 0x64

/-! Release, spoil, done (R166, R181 to R184, R159). -/

/-- A COMMITTED or WAITING record is released (R166, R184). -/
def Side.release (p : Pkg) (r : Nat) (d : Side) : Side :=
  let d1 := ((d.dropCauses r).setRecState r 0).feedRelease r
  let d2 := (d1.endWaits r stABORTED (d.dev p) 0).recNotice p r 3 (d.recPlate r)
  d2.realloc

/-- COMMITTED or WAITING. -/
def Side.recPending (d : Side) (r : Nat) : Bool := d.recState r == 1 || d.recState r == 2

/-- Releases after a spoil (R184): every pending record, or those of one job slot. -/
def Side.releaseAll (p : Pkg) (slot : Option Nat) (d : Side) : Side :=
  (List.range 4).foldl (fun d r =>
    if d.recPending r && (slot.isNone || slot == some (d.recSlot r)) then d.release p r else d) d

/-- The end time of a record: device time now; ends are counted (R161). -/
def Side.stampEnd (p : Pkg) (r : Nat) (d : Side) : Side :=
  let n := d.pln.endSeq + 1
  let d1 := d.set64 (F.PLN_PLATE_END_LO_TIME r) (F.PLN_PLATE_END_HI_TIME r) (d.dev p)
  let d2 := { d1 with pln := { d1.pln with endSeq := n } }
  d2.setRec r { d2.recd r with endSeq := n }

/-- The spoil of record r at the spoil edge, for the causes posted (R181, R183, R184). -/
def Side.spoil (p : Pkg) (r : Nat) (causes : List Nat) (d : Side) : Side :=
  let reason := causes.foldl min (causes.headD 0)
  let d1 := causes.foldl (fun d c => d.causeEntry p r c) d
  let d2 := ((d1.setRecState r 6).set (F.PLN_PLATE_STATE_REASON r) reason).set (F.PLN_PLATE_STATE_LATE_MODE r) 0
  let d3 := ((d2.stampEnd p r).feedSpoil r).endWaits r stSPOILED (d.dev p) reason
  let d4 := (d3.recNotice p r 2 (reason + 2 ^ 16 * d.recPlate r)).realloc
  let d4 := { d4 with pln := { d4.pln with spoilHeld := true } }
  if reason = 5 || reason = 6 || d.flag F.PLN_CFG_HALT_ON_SPOIL then d4.releaseAll p none
  else if reason = 4 then d4.releaseAll p (some (d.recSlot r))
  else d4

/-- Every cause posted before this edge takes effect: by record in commit order; a record that is not active any more gets
its entries alone (R181, R183). The records spoiled are those that end SPOILED. -/
def Side.spoilEdge (p : Pkg) (d : Side) : Side :=
  let cs := d.pln.causes
  let d1 := { d with pln := { d.pln with causes := [] } }
  let rs := sortBy (fun r => (d.recd r).seq) ((List.range 4).filter fun r => cs.any fun c => c.1 == r)
  rs.foldl (fun d r =>
    let mine := (cs.filter fun c => c.1 == r).map (·.2)
    if d.recActive r then d.spoil p r mine else mine.foldl (fun d c => d.causeEntry p r c) d) d1

/-! The energy ledger (R185 to R187). -/

def Side.jarOn (d : Side) (j : Nat) : Bool := d.flag (F.PLN_JAR_CFG_EN j)

/-- E′ in mJ (R172). -/
def Side.ePrime (d : Side) (m : List Byte) (j : Nat) : Rat := ((mEnergy m j * d.get (F.PLN_JAR_K_K j) : Nat) : Rat) / 4096

def Side.setLevel (j : Nat) (l : Rat) (d : Side) : Side :=
  ({ d with pln := { d.pln with level := tset d.pln.level j l } }).set (F.PLN_JAR_LEVEL_MJ j) (ofSigned 32 (l / 1000).floor)

/-- Running plates that draw from jar j by forecast. -/
def Side.jarUsers (d : Side) (j : Nat) : List Nat := (d.runningRecs).filter fun r => mEnergy (d.mdat r) j != 0

/-- A plate's forecast rate on jar j, E′ ÷ DURATION, in mJ per ns. -/
def Side.jarRate (d : Side) (r j : Nat) : Rat := d.ePrime (d.mdat r) j / (mDuration (d.mdat r) : Rat)

/-- Energy metered from jar j over a tick of len ns, in µJ (R186). The sigma-delta mean product and the PWM duty are those
of their units (Machine/Foc.lean): given here as fractions of full scale. -/
def Side.metered (d : Side) (j len : Nat) (pwm : Nat → Rat) (sdp : Nat → Rat) : Rat :=
  let scale : Rat := (d.get (F.PLN_JAR_SCALE_MW j) : Rat)
  let ix := d.get (F.PLN_JAR_CFG_INDEX j)
  match d.get (F.PLN_JAR_CFG_SRC j) with
  | 0 => ((d.jarUsers j).map fun r => d.jarRate r j * 1000 * len).sum
  | 1 => (((List.range 16).filter fun c => bit (d.get (F.PLN_JAR_CFG_CHMASK j)) c).map
          fun c => tget 0 d.pln.laser c).sum * scale / 1000000
  | 2 => pwm ix * scale * len / 1000000
  | 3 => ((tget 0 d.pln.ssrOn (ix % 8) : Nat) : Rat) * scale / 1000000
  | 4 => sdp ix * scale * len / 1000000
  | _ => scale * len / 1000000

/-- Each running plate's share of the energy metered from jar j (R187). -/
def Side.shareOut (j : Nat) (m : Rat) (d : Side) : Side :=
  let us := d.jarUsers j
  let tot := (us.map fun r => d.jarRate r j).sum
  us.foldl (fun d r =>
    let x := d.recd r
    d.setRec r { x with metered := tset x.metered j (tget 0 x.metered j + (if tot = 0 then 0 else m * d.jarRate r j / tot)) }) d

/-- One jar's update over the tick just ended, of len ns (R185). -/
def Side.jarUpdate (p : Pkg) (len : Nat) (pwm sdp : Nat → Rat) (d : Side) (j : Nat) : Side :=
  if !d.jarOn j then d
  else
    let m := d.metered j len pwm sdp
    let old : Rat := tget 0 d.pln.level j
    let cap : Rat := (d.get (F.PLN_JAR_CAP_MJ j) : Rat) * 1000
    let new := min cap (old + (d.get (F.PLN_JAR_REFILL_MW j) * len : Nat) / 1000000 - m)
    let d1 := (d.shareOut j m).setLevel j new
    let low := decide (new < (d.get (F.PLN_JAR_RESERVE_MJ j) : Rat) * 1000)
    let d2 := d1.faultIf p (low && !tget false d.pln.low j) 0x0F0 F.PLN_STATUS_JAR_LOW
    let high := decide ((d.get (F.PLN_JAR_CEIL_W j) * len : Nat) < m * 1000)
    let run := if high then tget 0 d.pln.peakRun j + 1 else 0
    let d3 := d2.faultIf p (run == 3) 0x0F0 F.PLN_STATUS_JAR_PEAK
    let d4 := { d3 with pln := { d3.pln with low := tset d3.pln.low j low, peakRun := tset d3.pln.peakRun j run,
                                             prev := tset d3.pln.prev j old } }
    if new < 0 then
      (d4.jarUsers j).foldl (fun d r => if d.pln.causes.contains (r, 0x0A) then d else d.spoilCause p r 0x0A) d4
    else d4

/-- The ledger's work at a control tick edge (R185): the tick just ended was len ns long. -/
def Side.ledgerEdge (p : Pkg) (len : Nat) (pwm sdp : Nat → Rat) (d : Side) : Side :=
  let d1 := (List.range 32).foldl (fun d j => d.jarUpdate p len pwm sdp j) d
  { d1 with pln := { d1.pln with laser := [], ssrOn := [] } }

/-- Nearest integer, exact halves to even. -/
def ratEven (q : Rat) : Int := divEven q.num q.den

/-- A ratio refined toward an observation (R187), and whether the clamp acted. -/
def refineK (k : Nat) (obs : Rat) (alpha : Nat) : Nat × Bool :=
  let v := ratEven ((k : Rat) + (obs - k) / (2 ^ alpha : Nat))
  let c := clampI 2048 8191 v
  (c.toNat, c != v)

/-- Θ, the hottest enabled sensor (R462), in 1/16 °C. -/
def Side.theta (d : Side) : Int := toSigned 16 (d.get F.THM_THETA_TEMP)

/-- K and K_T refined when plate r becomes DONE (R187). -/
def Side.refine (p : Pkg) (r : Nat) (d : Side) : Side :=
  let m := d.mdat r
  let jar (acc : Side × Bool) (j : Nat) : Side × Bool :=
    let d := acc.1
    if !d.jarOn j || mEnergy m j = 0 || d.get (F.PLN_JAR_CFG_SRC j) = 0 then acc
    else
      let k := refineK (d.get (F.PLN_JAR_K_K j)) (4096 * tget 0 (d.recd r).metered j / (1000 * mEnergy m j : Nat))
        (d.get (F.PLN_JAR_CFG_ALPHA j))
      (d.set (F.PLN_JAR_K_K j) k.1, acc.2 || k.2)
  let a := (List.range 32).foldl jar (d, false)
  let b :=
    if mRise m = 0 then a
    else
      let k := refineK (a.1.get F.PLN_THERM_K_K_T) (4096 * ((d.theta - (d.recd r).theta0 : Int) : Rat) / (mRise m : Nat))
        (a.1.get F.PLN_CFG_ALPHA_T)
      (a.1.set F.PLN_THERM_K_K_T k.1, a.2 || k.2)
  b.1.faultIf p b.2 0x0F0 F.PLN_STATUS_K_CLAMPED

/-- An ENDING plate whose last output has left becomes DONE (R159, R187). -/
def Side.recDone (p : Pkg) (r : Nat) (d : Side) : Side :=
  let d1 := (((d.dropCauses r).setRecState r 5).set (F.PLN_PLATE_STATE_LATE_MODE r) 0).stampEnd p r
  let d2 := ((d1.dropFeed r).refine p r).endWaits r stSUCCESS (d.dev p) 0
  (d2.recNotice p r 1 (d.recPlate r)).realloc

/-- Setting a jar's EN from 0 to 1 sets its level to its capacity (R185, R189). -/
def Side.jarEnable (j : Nat) (d : Side) : Side :=
  let d1 := d.setLevel j ((d.get (F.PLN_JAR_CAP_MJ j) : Rat) * 1000)
  { d1 with pln := { d1.pln with low := tset d1.pln.low j false, peakRun := tset d1.pln.peakRun j 0 } }

/-! Ingest (R189). -/

/-- The first multiple of 1 ms after a device time. -/
def nextMs (t : Nat) : Nat := align64 1000000 0 (t + 1)

/-- A 1 ms interval of device time ends: each slot's ten most recent complete intervals are summed. -/
def Side.ingestEnd (p : Pkg) (d : Side) : Side :=
  if !reached (d.dev p) d.pln.ingestAt then d
  else
    let step (d : Side) (j : Nat) : Side :=
      let adv := d.staged j - tget 0 d.pln.stagedAt j
      let l := (adv :: tget [] d.pln.ingest j).take 10
      let d1 := { d with pln := { d.pln with ingest := tset d.pln.ingest j l, stagedAt := tset d.pln.stagedAt j (d.staged j) } }
      d1.set (F.PLN_INGEST_BYTES j) l.sum
    let d1 := (List.range 4).foldl step d
    { d1 with pln := { d1.pln with ingestAt := nextMs (d.dev p) } }

def execIngestIntervalEnd (t : Nat) (s : State) : Host.Outcome State Fault Refusal :=
  .next ((s.advance t).both fun p d => d.ingestEnd p)

/-! Late data (R177 to R180). -/

/-- The fill f of a started plate, in 1/256 of the allotment (R177); a vector channel that holds every remaining word counts
as 256 (R252). -/
def Side.planFill (d : Side) (r : Nat) : Nat :=
  let cs := (mChans (d.mdat r)).filter fun c => d.allotOf c != 0 && !(mKind (d.mdat r) == 1 && d.recWhole r c)
  (cs.map fun c => 256 * d.recFill r c / d.allotOf c).foldl min 256

/-- Engaged watermarks after an edge (R179). -/
def engage (m : List Byte) (f : Nat) : Nat → Nat → Nat
  | 0, k => k
  | n + 1, k => if k < 4 && decide (f < mWm m k) then engage m f n (k + 1) else k

def disengage (m : List Byte) (f : Nat) : Nat → Nat
  | 0 => 0
  | k + 1 => if mWm m k + mHyst m ≤ f then disengage m f k else k + 1

/-- DRIZZLE's step of PLN_SPEED (R179). -/
def Side.drizzle (r : Nat) (d : Side) : Side :=
  let m := d.mdat r
  let f := d.planFill r
  let k := disengage m f (engage m f 4 (d.recd r).k)
  let target : Int := if k = 0 then 65536 else (mSf m (k - 1) : Int) * 256
  let step : Int := ((d.get F.PLN_CFG_DRIZZLE_SLEW * 256 * d.tim.tickNs / 1000000 : Nat) : Int)
  let speed : Int := d.get F.PLN_SPEED_FACTOR
  let d1 := d.set F.PLN_SPEED_FACTOR (speed + clampI (-step) step (target - speed)).toNat
  (d1.setRec r { d1.recd r with k := k }).set (F.PLN_PLATE_STATE_LATE_MODE r) (b2n (k ≠ 0))

/-- REROLL begins and ends (R180): LATE_MODE 2 from a fill below RR_STOP; writing resumes at a fill of RR_RESUME. -/
def Side.reroll (r : Nat) (d : Side) : Side :=
  let m := d.mdat r
  let f := d.planFill r
  let lm := d.get (F.PLN_PLATE_STATE_LATE_MODE r)
  if lm ≠ 2 && f < mStop m then d.set (F.PLN_PLATE_STATE_LATE_MODE r) 2
  else if lm = 2 && mResume m ≤ f then d.set (F.PLN_PLATE_STATE_LATE_MODE r) 0
  else d

/-- A plate that has become ENDING while rerolling holds all its data: rerolling ends (R180, R252). -/
def Side.rerollEnd (r : Nat) (d : Side) : Side :=
  if d.recState r = 4 && d.get (F.PLN_PLATE_STATE_LATE_MODE r) = 2 then d.reroll r else d

/-- The policies' work on the started plate at a control tick edge. -/
def Side.policyEdge (d0 : Side) : Side :=
  let d := (List.range 4).foldl (fun d r => d.rerollEnd r) d0
  match d.startedRec with
  | none => d
  | some r => if mPolicy (d.mdat r) = 1 then d.drizzle r else if mPolicy (d.mdat r) = 2 then d.reroll r else d

/-- A pipeline finds late data on a started plate (R177 to R180): it is spoiled with DATA_LATE. -/
def Side.dataLate (p : Pkg) (r : Nat) (d : Side) : Side :=
  if d.pln.causes.contains (r, 2) then d else d.spoilCause p r 2

/-! PLATE_ENDING and PLATE_DONE (R159). -/

/-- Every channel of a plate is in a list. -/
def Side.chansIn (d : Side) (r : Nat) (l : List Nat) : Bool := (mChans (d.mdat r)).all fun c => l.contains c

/-- A STARTED plate whose every pipeline has taken its last track's data becomes ENDING. -/
def Side.plateEnding (r : Nat) (d : Side) : Side :=
  if d.recState r = 3 && d.chansIn r (d.recd r).taken then d.setRecState r 4 else d

def execPlateEnding (p : Nat) (s : State) : Host.Outcome State Fault Refusal :=
  if p < 4 then .next (s.both fun _ d => d.plateEnding p) else .next s

/-- The pipeline of channel c has taken the plate's last data; its last output has left. -/
def Side.chanTaken (r c : Nat) (d : Side) : Side := d.setRec r { d.recd r with taken := c :: (d.recd r).taken }

def Side.chanLeft (r c : Nat) (d : Side) : Side := d.setRec r { d.recd r with left := c :: (d.recd r).left }

end Sys2Proof.Machine
end

