-- ==== Sys2Proof/Machine/Framer.lean ====
section
/-! DEFINITION. The block stream of a BeamLink port (spec/07): blocks and lanes, frames, the framer that gives each slot its
blocks, and the frames that wait for a slot. -/

namespace Sys2Proof

/-- Phase of a port's slots against raw time, in 1/100 ns (log entry 153). -/
opaque Config.slotPhase : Nat → Nat

/-- The 58 bits that a lane's scrambler holds when the port is enabled (log entry 154). -/
opaque Config.scramblerSeed : Nat → Nat → List Bool

end Sys2Proof

namespace Sys2Proof.Machine

/-! Blocks (R190, R191, R193). -/

def ctlBlk (bytes : List Byte) : Blk := ⟨2, bytes⟩

def dataBlk (bytes : List Byte) : Blk := ⟨1, bytes⟩

def idleBlk : Blk := ctlBlk (0x1E :: List.replicate 7 0)

/-- The Eorra's TRAIN block on a port. -/
def trainBlk (n tstate : Nat) : Blk := ctlBlk ([0x2D] ++ leBytes 1 tstate ++ [1, 0] ++ leBytes 4 n)

def alignBlk (lane count : Nat) : Blk := ctlBlk ([0x4B] ++ leBytes 1 lane ++ leBytes 2 count ++ [0, 0, 0, 0])

def blankBlk (mask cause : Nat) : Blk :=
  let b := leBytes 4 mask ++ leBytes 1 cause
  let x := b.foldl (· ^^^ ·) 0
  ctlBlk ([0x66] ++ b ++ [x, ~~~x])

/-- Sync header 00 or 11, or a control block of no type: a block error (R190, R193). -/
def Blk.bad (b : Blk) : Bool :=
  !(b.hd == 1 || (b.hd == 2 && [0x1E, 0x2D, 0x4B, 0x66, 0x78].contains (byteAt b.bytes 0)))

def Blk.isStart (b : Blk) : Bool := b.hd == 2 && byteAt b.bytes 0 == 0x78

/-- A received block: sync header and payload, byte k in bits 8k+7 to 8k (R191). -/
def blkOf (x : Nat × DWord) : Blk := ⟨x.1, leBytes 8 x.2.toNat⟩

/-! Lanes (R190, R192, IEEE 802.3 clause 49). -/

/-- The sync header's two bits in the order of the wire. -/
def syncBits (hd : Nat) : List Bool := [bit hd 1, bit hd 0]

/-- The self-synchronous scrambler 1 + x^39 + x^58: the last 58 bits sent, the latest first, and the payload. -/
def scramble : List Bool → List Bool → List Bool × List Bool
  | h, [] => ([], h)
  | h, b :: t =>
    let o := Bool.xor b (Bool.xor (h.getD 38 false) (h.getD 57 false))
    let r := scramble ((o :: h).take 58) t
    (o :: r.1, r.2)

/-- The same lane at the other end: what arrives goes into its history as it stands. -/
def descramble : List Bool → List Bool → List Bool × List Bool
  | h, [] => ([], h)
  | h, o :: t =>
    let r := descramble ((o :: h).take 58) t
    (Bool.xor o (Bool.xor (h.getD 38 false) (h.getD 57 false)) :: r.1, r.2)

/-- A lane's bits: each block's sync header, which is not scrambled, then its scrambled payload. -/
def laneBits (h : List Bool) : List Blk → List Bool
  | [] => []
  | b :: t =>
    let r := scramble h (b.bytes.flatMap byteBits)
    syncBits b.hd ++ r.1 ++ laneBits r.2 t

/-- The block of a port's stream at a position: one that was placed there, else what fills the stream since the last change; none
where the lanes are off. -/
def Port.blockAt (x : Port) (pos : Nat) : Option Blk :=
  let placed := x.wire.findSome? fun e => match e with
    | .blk q b => if q = pos then some b else none
    | .fill _ _ => none
  match placed with
  | some b => some b
  | none => x.wire.foldl (fun r e => match e with
      | .fill q f => if q ≤ pos then f else r
      | .blk _ _ => r) none

/-- Block 2m goes on lane 0 and block 2m + 1 on lane 1, both in slot m (R192). -/
def laneOf (pos : Nat) : Nat := pos % 2

def slotOf (pos : Nat) : Nat := pos / 2

/-- What lane l of port n has on the wire in slots a to b − 1. -/
def Port.laneWire (x : Port) (n l a b : Nat) : List Bool :=
  laneBits (Config.scramblerSeed n l) ((List.range (b - a)).filterMap fun k => x.blockAt (2 * (a + k) + l))

/-! Slots (R192). -/

/-- Slots of port n that begin before raw time t, a slot being 5.28 ns. -/
def slotsBefore (n t : Nat) : Nat := (100 * t + (527 - Config.slotPhase n % 528)) / 528

/-- The start of slot k of port n, in 1/100 ns of raw time. -/
def slotStart (n k : Nat) : Nat := 528 * k + Config.slotPhase n % 528

/-- The origin of a frame that starts in slot k: device time in ns and its fraction in 1/64 ns (R207, R208). -/
def Side.origin (d : Side) (n k : Nat) : Nat × Nat := (d.devAt (slotStart n k / 100), slotStart n k % 100 * 64 / 100)

/-- Both lanes send an ALIGN block every 16,384 blocks of a lane, in the same slot (R194). -/
def alignPeriod : Nat := 16384

/-! Frames (R198, R199). -/

/-- A frame's header bytes 1 to 7 and its data bytes: padding, then the CRC over all before it. -/
def mkFrame (ftype seq ts : Nat) (body : List Byte) : List Byte :=
  let data := body ++ List.replicate ((12 - body.length % 8) % 8) 0
  let h := leBytes 1 (ftype + 16 * (seq % 16)) ++ leBytes 2 ((data.length + 4) / 8) ++ leBytes 4 ts
  h ++ data ++ leBytes 4 (crc32c (h ++ data))

/-- Bytes cut into n data blocks. -/
def dataBlks : Nat → List Byte → List Blk
  | 0, _ => []
  | n + 1, l => dataBlk (l.take 8) :: dataBlks n (l.drop 8)

/-- A frame as blocks: START with the header, then its data blocks. -/
def frameBlks (f : List Byte) : List Blk := ctlBlk (0x78 :: f.take 7) :: dataBlks ((f.length - 7) / 8) (f.drop 7)

def ftDOT : Nat := 1
def ftSET : Nat := 2
def ftSYNC : Nat := 3
def ftCTRL : Nat := 4

/-- Data blocks of an upstream frame type: STAT 4, ENC and ACK 2 (R210, R216, R217). -/
def upLen (ftype : Nat) : Option Nat :=
  match ftype with
  | 9 => some 4
  | 10 => some 2
  | 11 => some 2
  | _ => none

/-- A received upstream frame is errored (R199): a block error, a START where a data block is due, an FTYPE that is reserved or of
the other direction, a LEN that is not its type's, or a CRC that does not match. -/
def upErrored (l : List Blk) : Bool :=
  match l with
  | [] => true
  | s :: data =>
    let h := s.bytes.drop 1
    let len := bits (leAt s.bytes 2 2) 0 11
    let all := data.flatMap (·.bytes)
    !s.isStart || (s :: data).any Blk.bad || data.any (fun b => b.hd != 1) || upLen (byteAt s.bytes 1 % 16) != some len ||
    data.length != len || leAt all (all.length - 4) 4 != crc32c (h ++ all.take (all.length - 4))

/-! Setpoints in a SET frame (R206). -/

/-- The data bytes of a SET frame before its CRC. -/
def setBody (l : List (Nat × Nat)) : List Byte :=
  (l.flatMap fun e => leBytes 2 e.1 ++ [0, 0] ++ leBytes 4 e.2) ++ [0, 0, 0, 0]

/-- The receiver's powers after SET entries leave the balls at a device time (R206, R397). -/
def Port.applySet (x : Port) (leaves : Nat) (l : List (Nat × Nat)) : Port :=
  l.foldl (fun x e =>
    if e.1 < 32 then
      { x with onAt := if tget 0 x.pow e.1 = 0 && e.2 != 0 then tset x.onAt e.1 leaves else x.onAt, pow := tset x.pow e.1 e.2 }
    else x) x

/-! The framer (R200, R201, R218). -/

/-- A frame's blocks take the port, with the next SEQ of its FTYPE; an injection corrupts the CRC to a value that is open but
wrong (R495, kind 7; log entry 155). -/
def Port.emit (x : Port) (wrong ftype ts : Nat) (body : List Byte) : Port × List Blk :=
  let q := tget 0 x.seq ftype
  let f := mkFrame ftype q ts body
  let bad := x.badCrc == some ftype
  let crc := leAt f (f.length - 4) 4
  let g := if bad then f.take (f.length - 4) ++ leBytes 4 ((crc + 1 + wrong % (2 ^ 32 - 1)) % 2 ^ 32) else f
  ({ x with seq := tset x.seq ftype ((q + 1) % 16), txFrames := (x.txFrames + 1) % 2 ^ 32, badCrc := if bad then none else x.badCrc },
   frameBlks g)

/-- A waiting frame starts, its origin being device time o.1 and o.2 ÷ 64 ns: a SYNC frame carries it (R207), a SET frame's values take
effect by it, a CTRL frame's answer is awaited from it (R210). -/
def Port.start (x : Port) (wrong : Nat) (o : Nat × Nat) (f : Fr) : Port :=
  match f with
  | .sync edge tick =>
    let r := x.emit wrong ftSYNC (o.1 % 2 ^ 32) (leBytes 8 o.1 ++ leBytes 1 o.2 ++ leBytes 1 (tdiff o.1 edge).toNat ++ leBytes 2 tick)
    { r.1 with cur := r.2 }
  | .set l =>
    let r := (x.applySet (o.1 + 180) l).emit wrong ftSET (o.1 % 2 ^ 32) (setBody l)
    { r.1 with cur := r.2 }
  | .ctrl c arg1 =>
    let r := x.emit wrong ftCTRL (o.1 % 2 ^ 32)
      (leBytes 1 c.op ++ leBytes 1 0 ++ leBytes 2 c.ctag ++ leBytes 4 c.arg0 ++ leBytes 4 arg1)
    { r.1 with cur := r.2, ctrl := r.1.ctrl ++ [{ c with sentAt := o.1, frac := o.2 }] }

/-- Precedence: SYNC, SET, CTRL (R201). -/
def Fr.rank : Fr → Nat
  | .sync _ _ => 0
  | .set _ => 1
  | .ctrl _ _ => 2

/-- The waiting frame that starts next, and the others: the first of the highest precedence. -/
def pickFr (l : List Fr) : Option (Fr × List Fr) :=
  match (List.range 3).findSome? fun r => l.findIdx? fun f => f.rank == r with
  | some i => (l[i]?).map fun f => (f, l.eraseIdx i)
  | none => none

/-- The START block cannot leave before T0 − 500 ns any more (R205, R208). -/
def dotLate (dev t0 : Nat) : Bool := reached (dev + 180 + 500) t0

/-- A released DOT frame starts: another frame may stand between its data blocks, not before the first of them (R200). -/
def Port.startDot (x : Port) (wrong : Nat) (f : DotF) : Port :=
  let r := x.emit wrong ftDOT f.ts f.body
  { r.1 with cur := r.2.take 2, dot := r.2.drop 2, dotOwner := some f.owner }

/-- A block takes the next position. -/
def Port.place (x : Port) (b : Blk) : Port := { x with blk := x.blk + 1, wire := x.wire ++ [.blk x.blk b] }

/-- Nothing waits for a slot. -/
def Port.quiet (x : Port) : Bool := x.cur.isEmpty && x.dot.isEmpty && x.blanks.isEmpty && x.wait.isEmpty && x.ready.isEmpty

/-- The next position of the stream: it is kept for ALIGN, or takes a BLANK block that is due in its slot, the next block of the frame
that is open, the first frame of those that wait, the next block of an open DOT frame, or a released DOT frame; or it is passed over
(R194, R200, R201, R212). -/
def Port.slotStep (origin : Nat → Nat × Nat) (wrong : Nat) (x : Port) : Port :=
  let k := slotOf x.blk
  if k % alignPeriod = 0 then { x with blk := 2 * k + 2 }
  else match x.blanks.findIdx? fun e => e.1 ≤ k with
    | some i => { x with blanks := x.blanks.eraseIdx i }.place ((x.blanks.getD i (0, idleBlk)).2)
    | none => match x.cur with
      | b :: t => { x with cur := t }.place b
      | [] => match pickFr x.wait with
        | some (f, rest) => { x with wait := rest }.start wrong (origin k) f
        | none => match x.dot with
          | b :: t => { x with dot := t }.place b
          | [] => match x.ready with
            | f :: rest =>
              if dotLate (origin k).1 f.t0 then { x with blk := x.blk + 1 } else { x with ready := rest }.startDot wrong f
            | [] => { x with blk := x.blk + 1 }

/-- The stream runs to a position, or until nothing waits; n bounds the steps. -/
def Port.run (origin : Nat → Nat × Nat) (wrong limit : Nat) : Nat → Port → Port
  | 0, x => x
  | n + 1, x => if limit ≤ x.blk || x.quiet then x else Port.run origin wrong limit n (x.slotStep origin wrong)

/-- A bound on the steps that empty a port: two for each block that waits, eight for each BLANK, and those of the frames to start. -/
def Port.todo (x : Port) : Nat :=
  2 * (x.cur.length + x.dot.length) + 8 * x.blanks.length + 48 * x.wait.length + (x.ready.map fun f => f.body.length + 16).sum + 64

def State.setHold (s : State) (h : Hold) : State := { s with pkg := { s.pkg with hold := h } }

def State.updPort (s : State) (n : Nat) (f : Port → Port) : State :=
  s.setHold (s.pkg.hold.setPort n (f (s.pkg.hold.port n)))

/-- The port's stream is brought to raw time now: frames that waited have started in the slots that have begun. -/
def State.runPort (s : State) (n : Nat) : State :=
  s.updPort n fun x => Port.run (s.actSide.origin n) (Config.free s.pkg.free (0x90000 + n)) (2 * slotsBefore n s.pkg.now) x.todo x

/-- The same, and what is put into the port now takes no slot that has begun. -/
def State.portNow (s : State) (n : Nat) : State :=
  (s.runPort n).updPort n fun x => { x with blk := max x.blk (2 * slotsBefore n s.pkg.now) }

/-- Every port's stream is brought to now. -/
def State.runPorts (s : State) : State := (List.range s.pkg.beams).foldl State.runPort s

/-- UP or TIMED. -/
def Port.up (x : Port) : Bool := decide (3 ≤ x.st)

def Port.training (x : Port) : Bool := x.st == 1 || x.st == 2

/-- A frame waits for its slot on a port that is UP. -/
def State.sendFrame (s : State) (n : Nat) (f : Fr) : State :=
  if (s.pkg.hold.port n).up then (s.portNow n).updPort n fun x => { x with wait := x.wait ++ [f] } else s

/-- A CTRL frame waits for its slot, with the next CTAG. One that the host asks for of a port that is not UP has no frame, and its
missing ACK is reported like any other (R210; log entry 21). -/
def State.sendCtrl (s : State) (n op arg0 arg1 : Nat) (host : Bool) : State :=
  let x := s.pkg.hold.port n
  let c : Ctrl := ⟨x.ctag, op, arg0, s.dev, 0, host⟩
  let next (y : Port) : Port := { y with ctag := (y.ctag + 1) % 2 ^ 16 }
  if x.up then (s.sendFrame n (.ctrl c arg1)).updPort n next
  else if host then s.updPort n fun y => next { y with ctrl := y.ctrl ++ [c] }
  else s

/-- Every beam of a port. -/
def allBeams : Nat := 0xFFFFFFFF

/-- BLANK blocks of a cause in the next slots of a port whose lanes are on, ahead of any other block. -/
def State.putBlanks (s : State) (n slots : Nat) (causes : List (Nat × Nat)) : State :=
  let k := slotsBefore n s.pkg.now
  let new := causes.flatMap fun c => (List.range slots).map fun i => (k + i, blankBlk c.1 c.2)
  if (s.pkg.hold.port n).st = 0 then s else (s.portNow n).updPort n fun x => { x with blanks := x.blanks ++ new }

/-- BLANK for a cause that begins: in each of the next 4 slots (R212). -/
def State.sendBlank (s : State) (n mask cause : Nat) : State :=
  (s.putBlanks n 4 [(mask, cause)]).updPort n fun x => { x with owed := Nat.lor x.owed mask }

/-- From now on the stream is filled with a block, or its lanes are off. -/
def Port.fillWith (x : Port) (b : Option Blk) : Port := { x with wire := x.wire ++ [.fill x.blk b] }

/-- The frames that wait or are open are lost: they are not sent again, and the commands among them go without an answer (R210). -/
def Port.drop (x : Port) (now : Nat) : Port :=
  let lost := x.wait.filterMap fun f => match f with
    | .ctrl c _ => some { c with sentAt := now }
    | _ => none
  { x with cur := [], dot := [], dotOwner := none, wait := [], ready := [], ctrl := x.ctrl ++ lost }

end Sys2Proof.Machine
end

