-- ==== Sys2Proof/Machine/BeamLink.lean ====
section
/-! DEFINITION. BeamLink (spec/07): training, the elastic FIFOs, blanking, the frames and commands of a port. Its block stream is in
Machine/Framer.lean, STAT and ENC frames are in Machine/Upstream.lean. -/

namespace Sys2Proof.Machine

/-- Beams that a cause of R212 holds: a dwell guard's, or every beam. -/
def Hold.blanked (h : Hold) (n : Nat) : Nat :=
  let x := h.port n
  if h.beOpen || x.training || x.cause3 then allBeams else x.cut

/-- BLKn_STATUS shows the port (R220). -/
def Side.portMirror (p : Pkg) (n : Nat) (d : Side) : Side :=
  let x := p.hold.port n
  (((d.set (F.BLK_STATUS_STATE n) x.st).set (F.BLK_STATUS_LOCK0 n) (b2n x.lock0)).set (F.BLK_STATUS_LOCK1 n)
    (b2n x.lock1)).set (F.BLK_STATUS_BLANKING n) (b2n (p.hold.blanked n != 0))

def State.mirror (s : State) (n : Nat) : State := s.both fun p d => d.portMirror p n

/-- The port exists on the part (R3, R219). -/
def State.portOk (s : State) (n : Nat) : Bool := decide (n < s.pkg.beams)

def srcBlk (n : Nat) : Nat := 0x100 + n

/-! Training (R196, R197). -/

/-- The lanes of the port carry TRAIN with a TSTATE from the next block on. -/
def Port.sendTrain (x : Port) (n tstate : Nat) : Port := { x.fillWith (some (trainBlk n tstate)) with tx := tstate }

/-- TSTATE 1 once both lanes are locked and two consecutive ALIGN markers have deskewed them (R196); STATE reads ALIGN
from the locks on (log entry 17). -/
def Port.settle (x : Port) (n : Nat) : Port :=
  if x.training then
    let x1 := { x with st := if x.lock0 && x.lock1 then 2 else 1 }
    if x1.st = 2 && decide (2 ≤ x.agree) && x.tx = 0 then { x1.sendTrain n 1 with trains := 0 } else x1
  else x

/-- The port trains from the start: TRAIN with TSTATE 0, and what it was sending is lost (R196, R210). -/
def Port.restart (x : Port) (n now : Nat) : Port :=
  let y := (x.drop now).sendTrain n 0
  { y with st := 1, agree := 0, disagree := 0, trains := 0, echo := [], echoLeft := 0 }.settle n

/-- Training starts, with BLANK for all beams of cause 2 (R197). -/
def State.train (s : State) (n : Nat) : State :=
  (((s.portNow n).updPort n fun x => x.restart n s.dev).sendBlank n allBeams 2).mirror n

/-- The plates that are STARTED or ENDING on a channel get a cause. -/
def Side.spoilChan (p : Pkg) (c reason : Nat) (d : Side) : Side :=
  (List.range 4).foldl (fun d r => if d.recRunning r && mStream (d.mdat r) c != 0 then d.spoilCause p r reason else d) d

/-- The link goes down (R197): LINK_LOST, the plate on its channel spoiled with BEAMLINK_DOWN, training again. -/
def State.linkDown (s : State) (n : Nat) : State :=
  let s1 := s.train n
  s1.both fun p d => (d.fault p (srcBlk n) (F.BLK_STATUS_LINK_LOST n)).spoilChan p n 0x0B

/-- The first ECHO of a measurement leaves (R209). -/
def State.echoStart (s : State) (n : Nat) : State :=
  (s.updPort n fun x => { x with echo := [], echoLeft := 15 }).sendCtrl n 3 0 0 false

/-- The port enters UP (R196): 64 TRAIN blocks with TSTATE 2 and then IDLE and frames (log entry 156); the count, and the path delay's
measurement. -/
def State.portUp (s : State) (n : Nat) : State :=
  let go (x : Port) : Port :=
    { x.fillWith (some idleBlk) with st := 3, tx := 2, cur := List.replicate 64 (trainBlk n 2), statSeen := false, silent := false,
                                     statAt := s.dev }
  ((((s.portNow n).updPort n go).mirror n).both fun _ d => d.inc (F.BLK_LINKUPS_COUNT n) 1).echoStart n

/-- A lane gains block lock (R190, R196). -/
def execBlockLock (p : Nat) (lane : Nat) (s : State) : Host.Outcome State Fault Refusal :=
  if s.portOk p && lane < 2 && (s.pkg.hold.port p).training then
    .next (((s.portNow p).updPort p fun x => ({ x with lock0 := x.lock0 || lane == 0, lock1 := x.lock1 || lane == 1 }).settle p).mirror p)
  else .next s

/-- ALIGN markers arrive on both lanes with their counts: they agree, or not (R194, R196, R197). -/
def State.alignMarker (s : State) (n : Nat) (ok : Bool) : State :=
  let x := s.pkg.hold.port n
  if x.st = 0 then s
  else if ok then ((s.portNow n).updPort n fun x => ({ x with agree := x.agree + 1, disagree := 0 }).settle n).mirror n
  else if x.up && decide (1 ≤ x.disagree) then s.linkDown n
  else (s.updPort n fun x => { x with agree := 0, disagree := x.disagree + 1 }).mirror n

def execAlignMarker (p : Nat) (counts : Nat × Nat) (s : State) : Host.Outcome State Fault Refusal :=
  if s.portOk p then .next (s.alignMarker p (counts.1 % 2 ^ 16 == counts.2 % 2 ^ 16)) else .next s

/-- TSTATE of a control block that is a TRAIN block; of a receiver of this version, or none (R193; log entry 157). -/
def trainState (b : DWord) : Option (Option Nat) :=
  let l := leBytes 8 b.toNat
  if byteAt l 0 ≠ 0x2D then none
  else if byteAt l 2 = 1 && byteAt l 3 = 1 then some (some (byteAt l 1)) else some none

/-- A TRAIN block arrives: it takes an UP link down; at TSTATE 1 the sixteenth in a row from the partner with TSTATE 1 or 2 brings
the port UP; at TSTATE 0 it does not advance it (R196, R197). -/
def State.trainBlock (s : State) (n : Nat) (tstate : Option Nat) : State :=
  let x := s.pkg.hold.port n
  if x.up then s.linkDown n
  else if x.training && x.tx = 1 then
    let k := if tstate = some 1 ∨ tstate = some 2 then x.trains + 1 else 0
    if 16 ≤ k then s.portUp n else s.updPort n fun x => { x with trains := k }
  else s

def execTrainBlockReceived (p : Nat) (b : DWord) (s : State) : Host.Outcome State Fault Refusal :=
  if s.portOk p then
    match trainState b with
    | some t => .next (s.trainBlock p t)
    | none => .next s
  else .next s

/-- A lane loses block lock. -/
def Port.unlock (x : Port) (lane : Nat) : Port := { x with lock0 := x.lock0 && lane != 0, lock1 := x.lock1 && lane != 1 }

/-- A lane loses block lock: an UP link goes down; a training one trains again from the start (R197). -/
def execLinkDown (l : LaneId) (s : State) : Host.Outcome State Fault Refusal :=
  let s1 := s.updPort l.port fun x => x.unlock l.lane
  if !s.portOk l.port || 2 ≤ l.lane then .next s
  else if (s.pkg.hold.port l.port).up then .next (s1.linkDown l.port)
  else if (s.pkg.hold.port l.port).training then .next (s1.train l.port)
  else .next s

/-- A new interval of STAT or ENC is sent with RATE (R220). -/
def State.sendRate (s : State) (n : Nat) : State :=
  let d := s.actSide
  s.sendCtrl n 5 (10 * d.get (F.BLK_CFG_STAT_10US n)) (d.get (F.BLK_CFG_ENC_FT n) * d.tim.fineNs) false

/-- The lanes are turned off: what was sent is lost, the receiver loses lock and blanks (R220). -/
def Port.off (x : Port) (now : Nat) : Port :=
  { (x.drop now).fillWith none with st := 0, lock0 := false, lock1 := false, tx := 0, agree := 0, disagree := 0, trains := 0, echo := [],
                                    echoLeft := 0, blanks := [], owed := allBeams }

def State.portOff (s : State) (n : Nat) : State :=
  if (s.pkg.hold.port n).st = 0 then s else ((s.portNow n).updPort n fun x => x.off s.dev).mirror n

/-- BLKn_CFG written: EN starts training or turns the lanes off; a new interval is sent at once if the port is TIMED (R220). -/
def State.portCfg (s : State) (n : Nat) (old : Nat) : State :=
  let d := s.actSide
  let x := s.pkg.hold.port n
  let en := d.flag (F.BLK_CFG_EN n)
  if en && x.st = 0 then s.train n
  else if !en then s.portOff n
  else if x.st = 4 && bits old 8 16 ≠ bits (d.word (F.BLK_CFG_EN n).off) 8 16 then s.sendRate n
  else s

/-! A command bit refused sets WINDOW_VIOL (R220). -/

def State.blkViol (s : State) (n : Nat) : State :=
  s.both fun p d => d.fault p (srcBlk n) (F.BLK_STATUS_WINDOW_VIOL n)

/-- A command bit of BLKn_CMD is written: a side that runs no engine takes it no further. -/
def State.blkCmd (s : State) (n word : Nat) (t : State) : State :=
  if s.portOk n && !s.pkg.hold.deep then s.asWrite true (0x400008 + 0x1000 * n) word t else s

/-- RETRAIN: in the PLATE window training restarts. -/
def State.retrain (s : State) (n : Nat) : State :=
  if !s.actSide.plateWindow then s.blkViol n
  else if (s.pkg.hold.port n).st = 0 then s
  else s.train n

def execRetrain (p : Nat) (s : State) : Host.Outcome State Fault Refusal := .next (s.blkCmd p 1 (s.retrain p))

/-- ECHO: in the PLATE window, on a port that is UP or TIMED, the measurement is repeated. -/
def State.echoCmd (s : State) (n : Nat) : State :=
  if s.actSide.plateWindow && (s.pkg.hold.port n).up then s.echoStart n else s.blkViol n

def execEcho (p : Nat) (s : State) : Host.Outcome State Fault Refusal := .next (s.blkCmd p 2 (s.echoCmd p))

/-- BLANK: cause 3 holds every beam of the port until the next plate start. -/
def State.blankCmd (s : State) (n : Nat) : State :=
  ((s.updPort n fun x => { x with cause3 := true }).sendBlank n allBeams 3).mirror n

def execBlank (p : Nat) (s : State) : Host.Outcome State Fault Refusal := .next (s.blkCmd p 4 (s.blankCmd p))

/-- The command of a CTRL_GO waits for its slot or its answer. -/
def Port.hostBusy (x : Port) : Bool :=
  x.ctrl.any (·.host) || x.wait.any fun f => match f with
    | .ctrl c _ => c.host
    | _ => false

/-- CTRL_GO: refused while a result is due or OP is below 0x80; else the command leaves and VALID clears (R83, R220). -/
def State.ctrlGo (s : State) (n : Nat) : State :=
  let d := s.actSide
  let op := d.get (F.BLK_CTRL_OP_OP n)
  if op < 0x80 || (s.pkg.hold.port n).hostBusy then s.blkViol n
  else
    (s.sendCtrl n op (d.get (F.BLK_CTRL_ARG0_ARG n)) (d.get (F.BLK_CTRL_ARG1_ARG n)) true).both fun _ d => d.set (F.BLK_CTRL_RESULT_VALID n) 0

def execCtrlGo (p : Nat) (s : State) : Host.Outcome State Fault Refusal := .next (s.blkCmd p 8 (s.ctrlGo p))

/-- The blanking causes that hold on a port, with their masks. -/
def Hold.causes (h : Hold) (n : Nat) : List (Nat × Nat) :=
  let x := h.port n
  (if x.cut ≠ 0 then [(x.cut, 0)] else []) ++ (if h.beOpen then [(allBeams, 1)] else []) ++
  (if x.training then [(allBeams, 2)] else []) ++ (if x.cause3 then [(allBeams, 3)] else [])

/-- BLANK_REPEAT: the BLANK block of each cause that holds is sent again, in the next slot (R212). -/
def State.blankRepeat (s : State) (n : Nat) : State := s.putBlanks n 1 (s.pkg.hold.causes n)

def execBlankRepeat (x : PortAt) (s : State) : Host.Outcome State Fault Refusal :=
  if s.portOk x.port then .next ((s.advance x.t).blankRepeat x.port) else .next s

/-- UNBLANK at a plate start: on each port that is TIMED, for the beams that were blanked and that no cause holds any
more; cause 3 ends there (R213, R220). -/
def State.unblank (s : State) : State :=
  (List.range s.pkg.beams).foldl (fun s n =>
    let s1 := s.updPort n fun x => { x with cause3 := false }
    let h := s1.pkg.hold
    let x := h.port n
    let mask := Nat.xor (Nat.lor x.owed (h.blanked n)) (h.blanked n)
    let s2 := if x.st = 4 && mask ≠ 0 then
        (s1.updPort n fun x => { x with owed := Nat.land x.owed (h.blanked n) }).sendCtrl n 1 mask 0 false
      else s1
    s2.mirror n) s

/-! ALIGN blocks (R194, R467). -/

/-- The pre-emphasis the hold die's band asks for (R467). -/
def State.preWanted (s : State) : Nat := s.actSide.get F.THM_BANDS_BAND_HLD

/-- A slot for ALIGN has begun since the last one: both lanes send an ALIGN block in it, and a pending pre-emphasis takes effect at it. -/
def State.alignSend (s : State) (n : Nat) : State :=
  let x := s.pkg.hold.port n
  let k := (slotsBefore n s.pkg.now - 1) / alignPeriod * alignPeriod
  if x.st = 0 || k ≤ x.alignSlot then s
  else
    (s.runPort n).updPort n fun x =>
      { x with marks := (x.marks + 1) % 2 ^ 16, pre := s.preWanted, alignSlot := k,
               wire := x.wire ++ [.blk (2 * k) (alignBlk 0 x.marks), .blk (2 * k + 1) (alignBlk 1 x.marks)] }

def execAlignBlockSend (x : PortAt) (s : State) : Host.Outcome State Fault Refusal :=
  if s.portOk x.port then .next ((s.advance x.t).alignSend x.port) else .next s

/-! DOT frames (R23, R204, R205, R218). -/

/-- The FIFO's emission time: DOT_LEAD µs and the 180 ns of R208 before T0. -/
def emissionOf (d : Side) (n t0 : Nat) : Nat := ofSigned 64 ((t0 : Int) - 1000 * d.get (F.BLK_CFG_DOT_LEAD n) - 180)

def State.emission (s : State) (n t0 : Nat) : Nat := emissionOf s.actSide n t0

/-- Bytes of a DOT frame in the elastic FIFO: its blocks. -/
def DotF.size (f : DotF) : Nat := 8 + (f.body.length + 4 + 7) / 8 * 8

def Port.fifoBytes (x : Port) : Nat := (x.fifo.map DotF.size).sum

/-- Each port's elastic FIFO holds 64 KiB (R23, R218). -/
def fifoSize : Nat := 65536

/-- Frames whose time to enter the elastic FIFO has come enter it while it has room; the others stay in the output stage. -/
def takeIn (due : DotF → Bool) : List DotF → List DotF → List DotF × List DotF
  | fifo, [] => (fifo, [])
  | fifo, f :: t =>
    if due f && decide ((fifo.map DotF.size).sum + f.size ≤ fifoSize) then takeIn due (fifo ++ [f]) t else (fifo, f :: t)

def Port.intake (x : Port) (due : DotF → Bool) : Port :=
  let r := takeIn due x.fifo x.stage
  { x with fifo := r.1, stage := r.2 }

/-- A frame enters the FIFO 32 µs before its emission time (R23). -/
def State.entryDue (s : State) (n : Nat) (f : DotF) : Bool := reached (s.dev + 32000) (s.emission n f.t0)

def State.dotIntake (s : State) (n : Nat) : State := s.updPort n fun x => x.intake (s.entryDue n)

/-- The oldest frame whose emission time has come is released with its TS and waits for its slot; a port that is not TIMED drops it. -/
def State.dotRelease (s : State) (n : Nat) : State :=
  let s0 := (s.dotIntake n).portNow n
  match (s0.pkg.hold.port n).fifo with
  | [] => s0
  | f :: rest =>
    if reached s.dev (s.emission n f.t0) && !dotLate s.dev f.t0 then
      s0.updPort n fun x =>
        { x with fifo := rest, ready := if x.st = 4 then x.ready ++ [{ f with ts := s.dev % 2 ^ 32 }] else x.ready }
    else s0

def execDotFrameRelease (p : Nat) (t : Nat) (s : State) : Host.Outcome State Fault Refusal :=
  if s.portOk p then .next ((s.advance t).dotRelease p) else .next s

/-- A frame is discarded as late, and counted. -/
def Side.dotLateCount (p : Pkg) (n : Nat) (d : Side) : Side :=
  (d.inc (F.BLK_DOT_LATE_COUNT n) 1).fault p (srcBlk n) (F.BLK_STATUS_DOT_LATE n)

/-- The oldest frame that has not left by T0 − 500 ns is discarded (R205): one that was released and found no slot, or one in the
FIFO. -/
def State.dotLateDrop (s : State) (n : Nat) : State :=
  let s0 := (s.dotIntake n).runPort n
  let x := s0.pkg.hold.port n
  match x.ready, x.fifo with
  | f :: rest, _ =>
    if dotLate s.dev f.t0 then (s0.updPort n fun x => { x with ready := rest }).both fun p d => d.dotLateCount p n else s0
  | [], f :: rest =>
    if dotLate s.dev f.t0 then (s0.updPort n fun x => { x with fifo := rest }).both fun p d => d.dotLateCount p n else s0
  | [], [] => s0

def execDotLate (p : Nat) (t : Nat) (s : State) : Host.Outcome State Fault Refusal :=
  if s.portOk p then .next ((s.advance t).dotLateDrop p) else .next s

/-- No DOT frame of a plate is in the port any more. -/
def Port.dotsLeft (x : Port) (owner : Nat) : Bool :=
  ((x.stage ++ x.fifo ++ x.ready).all fun f => f.owner != owner) &&
  (x.dotOwner != some owner || (x.dot.isEmpty && x.cur.isEmpty))

/-- FIFO fill in 64-byte units (R220). -/
def Port.fifoFill (x : Port) : Nat := ceilDiv x.fifoBytes 64

/-! SYNC (R207). -/

/-- A side holds the grant and runs: SET and SYNC frames are its work, and none leaves in a failover gap (R218). -/
def State.sends (s : State) : Bool := s.pkg.hold.granted && s.pkg.hold.running s.pkg.hold.active

/-- A SYNC frame on every port that is UP (R207, R218), for the first slot at or after the edge that no other frame has; edge is its
device time. -/
def State.syncFrames (s : State) (edge : Nat) : State :=
  if !s.sends then s
  else (List.range s.pkg.beams).foldl (fun s n => s.sendFrame n (.sync edge s.actSide.tim.tickNs)) s

/-! CTRL answers (R209 to R211). -/

/-- The median of the ECHO results in 1/64 ns: the mean of the middle two of an even count, halves upward
(log entry 19). -/
def echoMedian (l : List Int) : Int :=
  let key (x : Int) : Nat := (x + 2 ^ 80).toNat
  let a := sortBy key l
  let n := a.length
  if n % 2 = 1 then Int.fdiv (a.getD (n / 2) 0 + 1) 2 else Int.fdiv (a.getD (n / 2 - 1) 0 + a.getD (n / 2) 0 + 2) 4

/-- After an ECHO is answered or not: the next one, or the DELAY command with the median. -/
def State.echoNext (s : State) (n : Nat) : State :=
  let x := s.pkg.hold.port n
  if 0 < x.echoLeft then (s.updPort n fun x => { x with echoLeft := x.echoLeft - 1 }).sendCtrl n 3 0 0 false
  else if x.echo.isEmpty then s
  else
    let v := ofSigned 32 (echoMedian x.echo)
    ((s.updPort n fun x => { x with echo := [] }).sendCtrl n 4 v 0 false).both fun _ d => d.set (F.BLK_RTT_DELAY n) v

/-- The result of a CTRL_GO command is posted (R83). -/
def Side.ctrlPost (n result op data : Nat) (d : Side) : Side :=
  let d1 := ((d.set (F.BLK_CTRL_RESULT_RESULT n) result).set (F.BLK_CTRL_RESULT_OP n) op).set (F.BLK_CTRL_DATA_DATA n) data
  (d1.inc (F.BLK_CTRL_RESULT_SEQ n) 1).set (F.BLK_CTRL_RESULT_VALID n) 1

/-- A WAVE_SEL of table t was not done (R468): after the first it is sent again at each of the next 3 edges; WAVE_ERR once
every one has failed. -/
def State.waveFail (s : State) (n t : Nat) : State :=
  match (s.pkg.hold.port n).wave with
  | some (u, k, bad) =>
    if u ≠ t then s
    else if bad = 3 then (s.updPort n fun x => { x with wave := none }).both fun p d => d.fault p 0x290 F.THM_STATUS_WAVE_ERR
    else s.updPort n fun x => { x with wave := some (u, if bad = 0 then 3 else k, bad + 1) }
  | none => s

/-- WAVE_SEL is sent at a control tick edge on each port that has a table to select and a send left (R468). -/
def State.waveEdge (s : State) : State :=
  if !s.sends then s else
  (List.range s.pkg.beams).foldl (fun s n =>
    let x := s.pkg.hold.port n
    match x.wave with
    | some (t, k + 1, bad) => if x.up then (s.updPort n fun x => { x with wave := some (t, k, bad) }).sendCtrl n 2 t 0 false else s
    | _ => s) s

/-- An ACK frame arrives (R209, R210): CTAG, RESULT, OP, DATA; its arrival stamp is device time. -/
def State.ack (s : State) (n ctag result op data : Nat) : State :=
  let x := s.pkg.hold.port n
  if !x.up then s
  else
    let s0 := s.both fun _ d => d.inc (F.BLK_RX_FRAMES_COUNT n) 1
    match x.ctrl.find? (fun c => c.ctag == ctag) with
    | none => s0
    | some c =>
      let s1 := s0.updPort n fun x => { x with ctrl := x.ctrl.filter fun y => y.ctag != ctag }
      if c.host then s1.both fun _ d => d.ctrlPost n result op data
      else if c.op = 3 then
        let r : Int := 64 * (tdiff s.dev (c.sentAt + 180)) - c.frac - data
        (s1.updPort n fun x => { x with echo := x.echo ++ [r] }).echoNext n
      else if c.op = 4 then
        if x.st = 4 then s1 else
        let s2 := s1.updPort n fun x => { x with st := 4 }
        ((s2.sendRate n).mirror n).both fun _ d => d.set (F.RAS_HEAD_TEMP_VALID n) 0
      else if c.op = 2 then
        if result = 0 then s1.updPort n fun x => { x with waveAck := some (c.arg0 % 256), wave := if (x.wave.map (·.1)) = some c.arg0 then none else x.wave, waveBad := 0 }
        else s1.waveFail n c.arg0
      else s1

def execAckReceived (p : Nat) (ctag : Nat) (result : Nat) (op : Nat) (data : Nat) (t : Nat) (s : State) :
    Host.Outcome State Fault Refusal :=
  if s.portOk p then .next (((s.advance t).runPort p).ack p (ctag % 2 ^ 16) (result % 256) (op % 256) (data % 2 ^ 32)) else .next s

/-- No ACK of the oldest CTRL by 20 µs after it was sent: RESULT 0xFF and CTRL_NOACK (R210). -/
def State.noAck (s : State) (n : Nat) : State :=
  match (s.pkg.hold.port n).ctrl with
  | [] => s
  | c :: rest =>
    if !reached s.dev (c.sentAt + 20000) then s
    else
      let s1 := s.updPort n fun x => { x with ctrl := rest }
      let s2 := s1.both fun p d =>
        (d.ctrlPost n 0xFF c.op 0).fault p (srcBlk n) (F.BLK_STATUS_CTRL_NOACK n)
      if c.op = 3 && !c.host then s2.echoNext n else if c.op = 2 && !c.host then s2.waveFail n c.arg0 else s2

def execCtrlNoack (p : Nat) (t : Nat) (s : State) : Host.Outcome State Fault Refusal :=
  if s.portOk p then .next (((s.advance t).runPort p).noAck p) else .next s

/-- The blocks of an upstream frame arrive: an errored frame is discarded and counted (R199, R215). A valid one is what STAT_RECEIVED,
ENC_RECEIVED and ACK_RECEIVED stand for. -/
def execUpstreamFrameError (f : UpFrame) (s : State) : Host.Outcome State Fault Refusal :=
  if s.portOk f.port && (s.pkg.hold.port f.port).up && upErrored (f.blocks.map blkOf) then
    .next (s.both fun k d => (d.inc (F.BLK_RX_ERR_COUNT f.port) 1).fault k (srcBlk f.port) (F.BLK_STATUS_RX_ERR f.port))
  else .next s

end Sys2Proof.Machine
end

