-- ==== Sys2Proof/Machine/Motion.lean ====
section
/-! DEFINITION. Motion profiles and encoders (spec/12): segment tables, the generators' work at a fine-tick boundary and
at a control tick edge, the reroll sequence, encoder ports and filtered positions. -/

namespace Sys2Proof.Machine

def Side.axis (d : Side) (n : Nat) : Axis := tget {} d.axes n
def Side.setAxis (d : Side) (n : Nat) (x : Axis) : Side := { d with axes := tset d.axes n x }
def Side.enc (d : Side) (e : Nat) : Enc := tget {} d.encs e
def Side.setEnc (d : Side) (e : Nat) (x : Enc) : Side := { d with encs := tset d.encs e x }

def srcMot (n : Nat) : Nat := 0x1E0 + n
def srcEnc (e : Nat) : Nat := 0x200 + e

/-- STATE of an axis (R355): 0 IDLE, 1 RUNNING, 2 PAUSED, 3 REROLL. -/
def Side.motState (d : Side) (n : Nat) : Nat := d.get (F.MOT_STATUS_STATE n)

/-! Segment tables (R340 to R343). -/

/-- End time of the last segment, T_NSEG. -/
def profEnd (l : List (Nat × Int × Int)) : Nat := (l.map (·.1)).sum

/-- Time, offset and velocity of knot k (R340). -/
def knotTime (l : List (Nat × Int × Int)) (k : Nat) : Nat := profEnd (l.take k)
def knotP (l : List (Nat × Int × Int)) (k : Nat) : Int := if k = 0 then 0 else (l.getD (k - 1) (0, 0, 0)).2.1
def knotV (l : List (Nat × Int × Int)) (k : Nat) : Int := if k = 0 then 0 else (l.getD (k - 1) (0, 0, 0)).2.2

/-- The segment in use at profile time τ: the later one on a knot, the last one at the end (R342). -/
def segIndex : List (Nat × Int × Int) → Nat → Nat → Rat → Nat
  | [], k, _, _ => k
  | [_], k, _, _ => k
  | (dt, _, _) :: t, k, start, tau =>
    if tau < ((start + dt : Nat) : Rat) then k else segIndex t (k + 1) (start + dt) tau

/-- What the generator forms at a profile time: offset, first and second derivative, segment and time into it. -/
structure ProfVal where
  p : Rat
  v : Rat
  acc : Rat
  seg : Nat
  into : Rat
  deriving DecidableEq, Repr

/-- Rounded toward minus infinity to 2^−16 microstep (R342). -/
def floor16 (q : Rat) : Rat := ((q * 65536).floor : Rat) / 65536

/-- The cubic Hermite interpolant of R342 and its derivatives within the table. -/
def profCubic (l : List (Nat × Int × Int)) (tau : Rat) : ProfVal :=
  let k := segIndex l 0 0 tau
  let t0 : Rat := (knotTime l k : Nat)
  let dt : Rat := ((l.getD k (1, 0, 0)).1 : Nat)
  let s : Rat := if dt = 0 then 0 else (tau - t0) / dt
  let p0 : Rat := (knotP l k : Int)
  let p1 : Rat := (knotP l (k + 1) : Int)
  let m0 : Rat := dt * (knotV l k : Int) / 65536
  let m1 : Rat := dt * (knotV l (k + 1) : Int) / 65536
  let p := (2 * s * s * s - 3 * s * s + 1) * p0 + (s * s * s - 2 * s * s + s) * m0 + (3 * s * s - 2 * s * s * s) * p1 +
    (s * s * s - s * s) * m1
  let v := (6 * s * s - 6 * s) * p0 + (3 * s * s - 4 * s + 1) * m0 + (6 * s - 6 * s * s) * p1 + (3 * s * s - 2 * s) * m1
  let a := (12 * s - 6) * p0 + (6 * s - 4) * m0 + (6 - 12 * s) * p1 + (6 * s - 2) * m1
  ⟨floor16 p, if dt = 0 then 0 else floor16 (v / dt), if dt = 0 then 0 else floor16 (a / (dt * dt)), k, tau - t0⟩

/-- The table evaluated at τ, looped past its end if it loops (R342, R343). -/
def profAt (l : List (Nat × Int × Int)) (loop : Option Nat) (tau : Rat) : ProfVal :=
  match loop with
  | none => profCubic l tau
  | some k =>
    let tn : Rat := (profEnd l : Nat)
    let tl : Rat := (knotTime l k : Nat)
    if tau < tn || tn ≤ tl then profCubic l tau
    else
      let w := ((tau - tl) / (tn - tl)).floor
      let x := profCubic l (tau - w * (tn - tl))
      { x with p := x.p + w * ((knotP l l.length - knotP l k : Int) : Rat) }

/-- LOOP of an axis's table, if it loops. -/
def Side.motLoop (d : Side) (n : Nat) : Option Nat :=
  if d.flag (F.MOT_TBL_LOOP_EN n) then some (d.get (F.MOT_TBL_LOOP n)) else none

def Side.prof (d : Side) (n : Nat) : ProfVal :=
  profAt (d.axis n).segs (d.motLoop n) (((d.axis n).tau : Rat) / 16777216)

/-- A table entry's fields (R340). -/
def segOf (b : List Byte) : Nat × Int × Int := (leAt b 0 3, toSigned 32 (leAt b 4 4), toSigned 32 (leAt b 8 4))

/-- Segment k keeps R341 by itself: reserved bits 0, DT in its range, |P_k − P_{k−1}| < 2^31. -/
def segOk (b : List Byte) (prev : Int) : Bool :=
  byteAt b 3 == 0 && allZero ((b.drop 12).take 4) && leAt b 0 3 != 0 && decide (((segOf b).2.1 - prev).natAbs < 2 ^ 31)

/-- The first segment that breaks R341 by itself, from segment k on. -/
def segBad : List (List Byte) → Nat → Int → Option Nat
  | [], _, _ => none
  | b :: t, k, prev => if segOk b prev then segBad t (k + 1) (segOf b).2.1 else some k

/-- A list of bytes cut into n entries of 16. -/
def cut16 : Nat → List Byte → List (List Byte)
  | 0, _ => []
  | n + 1, l => l.take 16 :: cut16 n (l.drop 16)

/-- The first segment at which a table breaks R341; the conditions on the last knot and on LOOP name the last segment. -/
def tableBad (rows : List (List Byte)) (loopEn : Bool) (loop : Nat) : Option Nat :=
  let l := rows.map segOf
  let n := l.length
  match segBad rows 0 0 with
  | some k => some k
  | none =>
    if loopEn then (if loop < n && knotV l loop == knotV l n then none else some (n - 1))
    else if knotV l n = 0 then none else some (n - 1)

/-- The first bad field of a MOT_PROF_LOAD descriptor (R345, step 1). -/
def motLoadBad (b : List Byte) : Option Nat :=
  if bits (byteAt b 4) 5 2 ≠ 0 then some 4
  else match firstNonZero b 5 3 with
    | some o => some o
    | none =>
      if dFld b 8 8 % 16 ≠ 0 then some 8
      else if dFld b 16 2 = 0 || 4096 < dFld b 16 2 then some 16
      else firstNonZero b 24 40

/-- MOT_PROF_LOAD (R345); herr is the address at which the host read failed, if it did. -/
def Side.motProfLoad (p : Pkg) (n : Nat) (herr : Option Nat) (d : Side) : Side :=
  match d.nextHost p n 0x70 with
  | none => d
  | some x =>
    let b := x.bytes
    let a := bits (byteAt b 4) 0 5
    let loopEn := bit (byteAt b 4) 7
    let nseg := dFld b 16 2
    let raw := memRead p.host (dFld b 8 8) (16 * nseg)
    match motLoadBad b, herr with
    | some o, _ => d.startDone n (badField o)
    | none, some e => d.startDone n (hostFaultRes e)
    | none, none =>
      if p.axes ≤ a then d.startDone n ⟨stREFUSED, 0, 2⟩
      else if d.motState a ≠ 0 || d.flag (F.MOT_STATUS_START_PEND a) then d.startDone n ⟨stREFUSED, 0, 1⟩
      else if crc32c raw ≠ dFld b 20 4 then d.startDone n ⟨stREFUSED, 0, 3⟩
      else match tableBad (cut16 nseg raw) loopEn (dFld b 18 2) with
        | some k => d.startDone n ⟨stREFUSED, 0, 4 + 2 ^ 16 * k⟩
        | none =>
          let d1 := d.setAxis a { d.axis a with segs := (cut16 nseg raw).map segOf }
          let d2 := ((d1.set (F.MOT_TBL_NSEG a) nseg).set (F.MOT_TBL_LOOP a) (dFld b 18 2)).set (F.MOT_TBL_LOOP_EN a) (b2n loopEn)
          (d2.set (F.MOT_TBL_CRC_CRC a) (dFld b 20 4)).startDone n ⟨stSUCCESS, 0, 0⟩

def execMotProfLoad (n : Nat) (herr : Option Nat) (s : State) : Host.Outcome State Fault Refusal :=
  if n < 64 then .next (s.both fun p d => d.motProfLoad p n herr) else .next s

/-! Starting and ending (R346, R347). -/

def Side.motViol (p : Pkg) (n : Nat) (d : Side) : Side := d.fault p (srcMot n) (F.MOT_STATUS_WINDOW_VIOL n)

/-- START: refused unless the axis is IDLE with a table; m becomes +1 (R346, R353). -/
def Side.motStart (p : Pkg) (n : Nat) (d : Side) : Side :=
  if d.motState n = 0 && d.get (F.MOT_TBL_NSEG n) != 0 then
    (d.set (F.MOT_STATUS_START_PEND n) 1).setAxis n { d.axis n with fwd := true }
  else d.motViol p n

/-- GO: every axis of MOT_START_MASK; each that cannot start is skipped and sets its WINDOW_VIOL (R346, R355). -/
def Side.motGo (p : Pkg) (d : Side) : Side :=
  (List.range p.axes).foldl (fun d n => if bit (d.get F.MOT_START_MASK_MASK) n then d.motStart p n else d) d

/-- END: a PAUSED axis becomes IDLE, keeping u; refused in every other state (R347). -/
def Side.motEnd (p : Pkg) (n : Nat) (d : Side) : Side :=
  if d.motState n = 2 then d.set (F.MOT_STATUS_STATE n) 0 else d.motViol p n

def execMotStart (a : Nat) (s : State) : Host.Outcome State Fault Refusal :=
  if a < s.pkg.axes then .next (s.asWrite true (0xA00008 + 0x1000 * a) 1 (s.both fun p d => d.motStart p a)) else .next s

def execGo (s : State) : Host.Outcome State Fault Refusal := .next (s.asWrite true 0xA30004 1 (s.both Side.motGo))

def execMotEnd (a : Nat) (s : State) : Host.Outcome State Fault Refusal :=
  if a < s.pkg.axes then .next (s.asWrite true (0xA00008 + 0x1000 * a) 2 (s.both fun p d => d.motEnd p a)) else .next s

/-- The rate target of an axis (R348). -/
def Side.motTarget (d : Side) (n : Nat) : Int :=
  let sp := d.get (F.MOT_SPEED_FACTOR n)
  if bit (d.get F.PLN_MEDIUM_AXES_MASK) n && (d.anyRunning || d.pln.spoilHeld) then
    ((sp * d.get F.PLN_SPEED_FACTOR / 65536 * 256 : Nat) : Int)
  else ((sp * 256 : Nat) : Int)

def Side.motSlew (d : Side) (n : Nat) : Int := (d.get (F.MOT_SLEW_A n) : Int)

/-- The registers that show the generator (R355). -/
def Side.motPost (n : Nat) (d : Side) : Side :=
  let x := d.axis n
  let v := d.prof n
  ((d.set (F.MOT_RATE_R n) (ofSigned 32 x.r)).set (F.MOT_STATUS_SEG n) v.seg).set (F.MOT_SEGT_T n) v.into.floor.toNat

/-- u of R342 at the axis's profile time. -/
def Side.motU (d : Side) (n : Nat) : Nat := ofSigned 32 (((d.axis n).uStart : Int) + (d.prof n).p.floor)

/-- The axis moves to a profile time at a rate. -/
def Side.motMove (d : Side) (n : Nat) (r tau : Int) : Side :=
  let x := d.axis n
  let d1 := d.setAxis n { x with r := r, dr := r - x.r, tau := tau }
  (d1.set (F.MOT_UPOS_U n) (d1.motU n)).motPost n

/-- The end of a table that does not loop (R344). -/
def Side.motFinish (p : Pkg) (n : Nat) (d : Side) : Side :=
  let x := d.axis n
  let u := ofSigned 32 ((x.uStart : Int) + knotP x.segs x.segs.length)
  let d1 := d.setAxis n { x with r := 0, dr := -x.r, tau := (profEnd x.segs * 16777216 : Nat) }
  (((d1.set (F.MOT_UPOS_U n) u).motPost n).set (F.MOT_STATUS_STATE n) 0).fault p (srcMot n) (F.MOT_STATUS_END_SEEN n)

/-- r moved toward a target by at most a. -/
def rateToward (r tgt a : Int) : Int := r + clampI (-a) a (tgt - r)

/-- A running or paused axis at a boundary (R347): a paused one resumes when the target rises. -/
def Side.motRun (p : Pkg) (n : Nat) (d : Side) : Side :=
  let x := d.axis n
  let tgt := d.motTarget n
  let d0 := d.setAxis n { x with tgt := tgt }
  if d.motState n = 2 && tgt ≤ x.tgt then d0.setAxis n { x with tgt := tgt, dr := 0 }
  else
    let r := rateToward x.r tgt (d.motSlew n)
    let tau := x.tau + r
    let d1 := d0.set (F.MOT_STATUS_STATE n) 1
    if (d.motLoop n).isNone && decide (((profEnd x.segs * 16777216 : Nat) : Int) ≤ tau) then d1.motFinish p n
    else
      let d2 := d1.motMove n r tau
      if r = 0 && tgt = 0 then d2.set (F.MOT_STATUS_STATE n) 2 else d2

/-- The stopping distance r² ÷ (2 a) of R349, compared: 2 a (τ − τ_b) ≤ r². -/
def mustSlow (tau back r a : Int) : Bool := decide (2 * a * (tau - back) ≤ r * r)

/-- A boundary of the reroll sequence (R349); a ramp to rest that reaches the end of its table ends there (R344). -/
def Side.motReroll (p : Pkg) (n : Nat) (d : Side) : Side :=
  let x := d.axis n
  let a := d.motSlew n
  let toRest (next : Nat) : Side :=
    let r := rateToward x.r 0 a
    if (d.motLoop n).isNone && decide (((profEnd x.segs * 16777216 : Nat) : Int) ≤ x.tau + r) then
      (d.setAxis n { x with phase := 0 }).motFinish p n
    else
    let d1 := d.motMove n r (x.tau + r)
    if r = 0 then d1.setAxis n { d1.axis n with phase := next } else d1
  let backward (r : Int) (ph : Nat) : Side :=
    if x.tau + r ≤ x.back then
      let d1 := d.motMove n 0 x.back
      d1.setAxis n { d1.axis n with phase := 4 }
    else
      let d1 := d.motMove n r (x.tau + r)
      d1.setAxis n { d1.axis n with phase := if ph = 3 && r = 0 then 4 else ph }
  match x.phase with
  | 1 => toRest 2
  | 2 =>
    if mustSlow x.tau x.back x.r a then backward (rateToward x.r 0 a) 3
    else backward (rateToward x.r (-256 * (d.get (F.MOT_REWIND_FACTOR n) : Int)) a) 2
  | 3 => backward (rateToward x.r 0 a) 3
  | 5 =>
    let d1 := toRest 0
    if d1.motState n = 3 && (d1.axis n).r = 0 then
      (d1.set (F.MOT_STATUS_STATE n) 2).setAxis n { d1.axis n with phase := 0, tgt := d.motTarget n }
    else d1
  | _ => d.setAxis n { x with dr := 0 }

/-- The started plate is rerolling (R180). -/
def Side.rerolling (d : Side) : Bool :=
  match d.startedRec with
  | some r => d.get (F.PLN_PLATE_STATE_LATE_MODE r) == 2
  | none => false

/-- The generator of axis n at a fine-tick boundary: a waiting axis goes on once the planner has resumed. -/
def Side.motTick (p : Pkg) (n : Nat) (d : Side) : Side :=
  match d.motState n with
  | 0 => if (d.axis n).dr = 0 then d else d.setAxis n { d.axis n with dr := 0 }
  | 3 =>
    let x := d.axis n
    if x.phase = 4 && !d.rerolling then
      ((d.setAxis n { x with phase := 0, tgt := 0 }).set (F.MOT_STATUS_STATE n) 1).motRun p n
    else d.motReroll p n
  | _ => d.motRun p n

/-- A pending start takes effect at the control tick edge (R346). -/
def Side.motAxisStart (d : Side) (n : Nat) : Side :=
  if d.flag (F.MOT_STATUS_START_PEND n) then
    let tgt := d.motTarget n
    let x := { d.axis n with tau := 0, r := tgt, dr := 0, tgt := tgt, phase := 0, uStart := d.get (F.MOT_UPOS_U n) }
    (((d.setAxis n x).set (F.MOT_STATUS_START_PEND n) 0).set (F.MOT_STATUS_STATE n) 1).motPost n
  else d

/-- The starts of a control tick edge. -/
def Side.motStarts (p : Pkg) (d : Side) : Side := (List.range p.axes).foldl Side.motAxisStart d

/-- A running medium axis enters REROLL (R349): backup is the plate's BACKUP_TRACKS. -/
def Side.motEnter (p : Pkg) (backup : Nat) (d : Side) (n : Nat) : Side :=
  if bit (d.get F.PLN_MEDIUM_AXES_MASK) n && d.motState n == 1 then
    let x := d.axis n
    let v := (d.prof n).v
    let va : Rat := if v < 0 then -v else v
    let db : Rat := if v = 0 then 0 else ((backup * d.get (F.MOT_PITCH_STEPS n) : Nat) : Rat) / (256 * va)
    let r : Rat := (d.motTarget n : Int)
    let tr : Rat := if d.motSlew n = 0 then 0 else r * r / (2 * (d.motSlew n : Int) * 16777216)
    let back : Int := ((x.tau : Rat) - 16777216 * max db tr).floor
    let short := v = 0 || back < 0
    ((d.setAxis n { x with phase := 1, back := max 0 back }).set (F.MOT_STATUS_STATE n) 3).faultIf p short (srcMot n)
      (F.MOT_STATUS_REWIND_SHORT n)
  else d

/-- The planner has entered rerolling on a raster plate. -/
def Side.motRerollAll (p : Pkg) (backup : Nat) (d : Side) : Side := (List.range p.axes).foldl (Side.motEnter p backup) d

/-- A plate was spoiled during the sequence: every axis in it ramps to rest and reads PAUSED. -/
def Side.motSpoil (p : Pkg) (d : Side) : Side :=
  (List.range p.axes).foldl (fun d n =>
    if d.motState n = 3 then d.setAxis n { d.axis n with phase := 5 } else d) d

/-- The edge's reroll work: axes enter REROLL where the started plate has just begun rerolling, and leave it where a plate
was spoiled; was tells whether it was rerolling before the edge's policy ran. -/
def Side.motPolicy (p : Pkg) (was : Bool) (d : Side) : Side :=
  match d.startedRec with
  | some r =>
    if d.rerolling && !was && mKind (d.mdat r) = 0 then d.motRerollAll p (mBackup (d.mdat r)) else d
  | none => d

/-! The law engine's axis inputs (R350). -/

def Side.encBound (d : Side) (n : Nat) : Bool := d.flag (F.MOT_CFG_ENC_EN n)

/-- Filtered position if an encoder is bound, u if none is. -/
def Side.axPos (d : Side) (n : Nat) : Nat := if d.encBound n then d.get (F.MOT_FPOS_XF n) else d.get (F.MOT_UPOS_U n)

def Side.axVel (d : Side) (n : Nat) : Rat := 20 * ((d.axis n).r : Rat) * (d.prof n).v / 16777216

def Side.axAcc (d : Side) (n : Nat) : Rat :=
  let x := d.axis n
  let v := d.prof n
  400 * ((x.r : Rat) * (x.r : Rat) * v.acc / 2 ^ 48 + (x.dr : Rat) * v.v / 16777216)

/-! Encoder ports (R352). -/

def Side.encMode (d : Side) (e : Nat) : Nat := d.get (F.MOT_ENC_CFG_MODE e)

/-- An edge comes less than 25 ns after the previous edge of the same input. -/
def tooSoon (last : Option Nat) (t : Nat) : Bool :=
  match last with
  | none => false
  | some u => !reached t (u + 25)

/-- The count's step from levels (a, b) to (a', b'), one edge: up where A leads (log entry 29). -/
def quadUp (a b a' : Bool) : Bool := if a' ≠ a then a' ≠ b else b != a

/-- An errored sample or frame: the count is left, the flag is set, the port counts it. -/
def Side.encError (p : Pkg) (e : Nat) (f : Fld) (d : Side) : Side :=
  ((d.set (F.MOT_ENC_STATUS_OK e) 0).inc (F.MOT_ENC_ERRS_COUNT e) 1).fault p (srcEnc e) f

/-- A sample at which input A or B has changed. -/
def Side.quadEdge (p : Pkg) (e : Nat) (a b : Bool) (d : Side) : Side :=
  let x := d.enc e
  let ca := a != x.a
  let cb := b != x.b
  if d.encMode e ≠ 1 || (!ca && !cb) then d.setEnc e { x with a := a, b := b }
  else
    let t := p.now
    let bad := (ca && cb) || (ca && tooSoon x.aAt t) || (cb && tooSoon x.bAt t)
    let x1 := { x with a := a, b := b, aAt := if ca then some t else x.aAt, bAt := if cb then some t else x.bAt }
    if bad then (d.setEnc e x1).encError p e (F.MOT_ENC_STATUS_QUAD_ERR e)
    else
      let up := quadUp x.a x.b a != d.flag (F.MOT_ENC_CFG_INVERT e)
      let c := if up then x.count + 1 else x.count + 2 ^ 32 - 1
      (d.setEnc e { x1 with count := c % 2 ^ 32 }).set (F.MOT_ENC_STATUS_OK e) 1

def execQuadEdge (e : Nat) (a : Bool) (b : Bool) (t : Nat) (s : State) : Host.Outcome State Fault Refusal :=
  if e < 24 then .next ((s.advance t).both fun p d => d.quadEdge p e a b) else .next s

/-- A rising edge of Z latches the raw count. -/
def Side.indexEdge (p : Pkg) (e : Nat) (d : Side) : Side :=
  if d.encMode e = 1 then
    (d.set (F.MOT_ENC_INDEX_COUNT e) (d.enc e).count).fault p (srcEnc e) (F.MOT_ENC_STATUS_INDEX_SEEN e)
  else d

def execIndexEdge (e : Nat) (s : State) : Host.Outcome State Fault Refusal :=
  if e < 24 then .next (s.both fun p d => d.indexEdge p e) else .next s

/-- Data bits of an SSI frame; a value below the range counts as its low end (log entry 30). -/
def Side.ssiBits (d : Side) (e : Nat) : Nat := max 8 (min 32 (d.get (F.MOT_ENC_CFG_SSI_BITS e)))

/-- Length of an SSI frame in ns. -/
def Side.ssiNs (d : Side) (e : Nat) : Nat :=
  (d.ssiBits e + d.get (F.MOT_ENC_CFG_ERRBIT e)) * 2 * max 25 (d.get (F.MOT_ENC_CFG_SSI_NS e))

/-- A w-bit Gray-coded reading decoded: bit k is the exclusive or of bits k and above. -/
def grayDecode : Nat → Nat → Nat
  | 0, v => v
  | w + 1, v => Nat.xor v (grayDecode w (v / 2))

/-- The frame that is running ends: line high before its first clock, its data bits, its error bit. -/
def Side.ssiFrame (p : Pkg) (e : Nat) (high : Bool) (w : Nat) (err : Bool) (d : Side) : Side :=
  let x := d.enc e
  match x.frame with
  | none => d
  | some t0 =>
    if d.encMode e ≠ 2 || !reached (d.dev p) (t0 + d.ssiNs e) then d
    else
      let nb := d.ssiBits e
      let x1 := { x with frame := none }
      if !high || (d.flag (F.MOT_ENC_CFG_ERRBIT e) && err) then
        (d.setEnc e x1).encError p e (F.MOT_ENC_STATUS_SSI_ERR e)
      else
        let raw := w % 2 ^ nb
        let v := if d.flag (F.MOT_ENC_CFG_GRAY e) then grayDecode nb raw % 2 ^ nb else raw
        let v := if d.flag (F.MOT_ENC_CFG_INVERT e) then (2 ^ nb - v) % 2 ^ nb else v
        let step := toSigned nb (v + 2 ^ nb - x.count % 2 ^ nb)
        (d.setEnc e { x1 with count := ofSigned 32 ((x.count : Int) + step), stamp := t0 }).set (F.MOT_ENC_STATUS_OK e) 1

def execSsiFrame (e : Nat) (high : Bool) (w : Word) (err : Bool) (t : Nat) (s : State) : Host.Outcome State Fault Refusal :=
  if e < 24 then .next ((s.advance t).both fun p d => d.ssiFrame p e high w.toNat err) else .next s

/-- An encoder port at the fine-tick boundary of device time t: a quadrature port's count is latched (R47), an SSI port starts a frame
every SSI_FT fine ticks. -/
def Side.encTick (t : Nat) (d : Side) (e : Nat) : Side :=
  let x := d.enc e
  match d.encMode e with
  | 1 => (d.setEnc e { x with lat := x.count, stamp := t }).set (F.MOT_ENC_STATUS_OK e) 1
  | 2 =>
    if x.frame.isNone && decide (max 1 (d.get (F.MOT_ENC_CFG_SSI_FT e)) ≤ x.ticks + 1) then
      d.setEnc e { x with ticks := 0, frame := some t }
    else d.setEnc e { x with ticks := x.ticks + 1 }
  | _ => if d.flag (F.MOT_ENC_STATUS_OK e) then d.set (F.MOT_ENC_STATUS_OK e) 0 else d

/-- The raw count that a port shows at a boundary: a quadrature port's latched one, an SSI port's last reading. -/
def Side.encRaw (d : Side) (e : Nat) : Nat := if d.encMode e = 1 then (d.enc e).lat else (d.enc e).count

/-- The filtered position of an axis at the boundary of device time t (R353), the registers and the latch of R239. -/
def Side.posFilter (t : Nat) (d : Side) (n : Nat) : Side :=
  if !d.encBound n then d
  else
    let c := d.encRaw (d.get (F.MOT_CFG_ENC n))
    let xf := d.get (F.MOT_FPOS_XF n)
    let x := d.axis n
    let dd := sdiff32 c xf
    let ahead := if x.fwd then decide (0 < dd) else decide (dd < 0)
    let jump := dd ≠ 0 && d.get (F.MOT_CFG_JWIN n) < dd.natAbs
    let new := if ahead || jump then c else xf
    let d1 := if !ahead && !jump && dd ≠ 0 then d.inc (F.MOT_JREJ_COUNT n) 1 else d
    let d2 := (d1.set (F.MOT_FPOS_XF n) new).set (F.MOT_RPOS_C n) c
    d2.setAxis n { x with fwd := if !ahead && jump then !x.fwd else x.fwd, latch := ((t, new) :: x.latch).take 2 }

/-- The ports' and axes' work at the fine-tick boundary of device time t: latch and filter, then the generators. -/
def Side.motFine (p : Pkg) (t : Nat) (d : Side) : Side :=
  let d1 := (List.range 24).foldl (Side.encTick t) d
  let d2 := (List.range p.axes).foldl (Side.posFilter t) d1
  (List.range p.axes).foldl (fun d n => d.motTick p n) d2

/-- R337: a written MOTn_CFG names a unit that is present and bound to no other axis, and an encoder port. -/
def Side.motCfgOk (p : Pkg) (d : Side) (n v : Nat) : Bool :=
  let ty := bits v 5 2
  let unit := bits v 0 5
  (ty == 0 || (decide (unit < (if ty = 1 then p.focs else p.stps)) &&
    (List.range p.axes).all fun k => k == n || d.get (F.MOT_CFG_UTYPE k) != ty || d.get (F.MOT_CFG_UNIT k) != unit))

end Sys2Proof.Machine
end

