-- ==== Sys2Proof/Machine/Raster.lean ====
section
/-! DEFINITION. Raster writing (spec/08): sweeps and lock, stripes, dot placement and DOT frames, row delays, the plate
check and the pool requirement, beam health and head temperature. Times are device times in 1/64 ns. -/

namespace Sys2Proof.Machine

def Side.rasCh (d : Side) (c : Nat) : Ras := tget {} d.ras c
def Side.setRas (d : Side) (c : Nat) (x : Ras) : Side := { d with ras := tset d.ras c x }

def srcRas (c : Nat) : Nat := 0x110 + c

/-- The signed difference of two stamps of 64 + 6 bits (R37). -/
def rasDiff (a b : Int) : Int := toSigned 70 (ofSigned 70 (a - b))

/-- A stamp beside the last sweep's: the instant nearest to it that the stamp can mean. -/
def Side.rasLift (d : Side) (c : Nat) (t : Int) : Int :=
  if (d.rasCh c).held then (d.rasCh c).t + rasDiff t (d.rasCh c).t else t

/-- F, the number of facets. -/
def Side.rasF (d : Side) (c : Nat) : Nat := d.get (F.RAS_CFG_FACETS_M1 c) + 1

/-- I while the channel is ACQUIRING: 64 × the nominal interval (R227). -/
def Side.rasNom (d : Side) (c : Nat) : Int := ((64 * d.get (F.RAS_SOS_PERIOD_NS c) : Nat) : Int)

/-- PER of a facet, 0 until the facet identity is known (R227). -/
def Side.rasPer (d : Side) (c f : Nat) : Int :=
  if (d.rasCh c).known then toSigned 32 (d.get (F.RAS_FACET_PER_PER c f)) else 0

/-- The prediction k sweeps after the last one (R224). -/
def Side.rasPred (d : Side) (c k : Nat) : Int :=
  let x := d.rasCh c
  x.t + k * x.mean + ((List.range k).map fun i => d.rasPer c ((x.f + i + 1) % d.rasF c)).sum

def Side.rasWin (d : Side) (c : Nat) : Int := ((64 * d.get (F.RAS_SOS_WIN_NS c) : Nat) : Int)

/-- Opening and close of the window of the next sweep; overlapping windows are taken in turn (R225; log entry 32). -/
def Side.rasOpen (d : Side) (c : Nat) : Int :=
  let o := d.rasPred c 1 - d.rasWin c
  match (d.rasCh c).winFrom with
  | some w => max o w
  | none => o

def Side.rasClose (d : Side) (c : Nat) : Int := d.rasPred c 1 + d.rasWin c

def Side.rasLocked (d : Side) (c : Nat) : Bool := d.flag (F.RAS_STATUS_LOCK c)

/-- The registers that show the tracking (R246). -/
def Side.rasPost (d : Side) (c misses : Nat) : Side :=
  let x := d.rasCh c
  ((d.set (F.RAS_STATUS_FACET c) x.f).set (F.RAS_STATUS_MISSES c) misses).set (F.RAS_MEAN_INT_I c) (ofSigned 32 x.mean)

/-- Acquisition begins anew (R227). -/
def Side.acquire (c : Nat) (d : Side) : Side :=
  let x := { d.rasCh c with held := false, acc := 0, known := false, zero := false, index := false, winFrom := none, mean := d.rasNom c }
  ((d.setRas c x).set (F.RAS_STATUS_LOCK c) 0).rasPost c 0

/-- Lock is lost (R228): no further frame of a plate in progress on the channel, which is spoiled with SOS_MISS. -/
def Side.loseLock (p : Pkg) (c : Nat) (d : Side) : Side :=
  let d1 := d.fault p (srcRas c) (F.RAS_STATUS_LOCK_LOST c)
  let x := d1.rasCh c
  let d2 := d1.setRas c { x with jobs := x.jobs.map fun j => { j with stopped := true } }
  (d2.spoilChan p c 0x09).acquire c

/-- Floor of the mean of a list, 0 of none. -/
def meanI (l : List Int) : Int := if l.isEmpty then 0 else Int.fdiv l.sum l.length

/-- I brought up to date (R224, R227). -/
def Side.rasMean (d : Side) (c : Nat) : Side :=
  let x := d.rasCh c
  let l := x.ivs.take (2 ^ d.get (F.RAS_CFG_AVG c))
  d.setRas c { x with mean := if d.rasLocked c && !l.isEmpty then meanI l else d.rasNom c }

/-- The figures of R230 are shown once per revolution, as facet 0 comes round. -/
def Side.rasFigures (d : Side) (c : Nat) : Side :=
  let x := d.rasCh c
  if x.f ≠ 0 then d
  else
    (List.range (d.rasF c)).foldl (fun d f =>
      (d.set (F.RAS_FACET_MEAS_VALUE c f) (ofSigned 32 (meanI (tget [] x.meas f)))).set (F.RAS_FACET_SWEEP_VALUE c f)
        (if d.flag (F.RAS_CFG_FACET_SRC c) then 0 else ofSigned 32 (meanI (tget [] x.eos f)))) d

/-- Under INDEX the first sweep after an index edge is facet 0; if the count disagrees lock is lost (R226). -/
def Side.rasIndex (d : Side) (c : Nat) : Bool × Side :=
  let x := d.rasCh c
  if !x.index then (true, d)
  else if x.known && x.f ≠ 0 then (false, d)
  else (true, d.setRas c { x with index := false, known := true, f := 0 })

/-- The sweep at stamp t enters: number, facet, interval; err tells the prediction error of an accepted edge. -/
def Side.sweep (p : Pkg) (c : Nat) (t : Int) (accepted : Bool) (win : Option Int) (d : Side) : Side :=
  let x := d.rasCh c
  let prev := x.t
  let had := x.held
  let misses := d.get (F.RAS_STATUS_MISSES c) + 1
  let x1 := { x with held := true, t := t, winFrom := win, eosSeen := false, s := if had then x.s + 1 else x.s,
                     f := if had then (x.f + 1) % d.rasF c else x.f,
                     acc := if accepted then x.acc + 1 else 0 }
  let x2 := if accepted && x.zero then { x1 with zero := false, f := 0, known := true } else x1
  let r := (d.setRas c x2).rasIndex c
  let d1 := if accepted then r.2 else r.2.inc (F.RAS_MISSES_COUNT c) 1
  if !r.1 then (d1.fault p (srcRas c) (F.RAS_STATUS_FACET_SLIP c)).loseLock p c
  else
    let y := d1.rasCh c
    let iv := t - prev - d1.rasPer c y.f
    let y1 := if had then
        { y with ivs := (iv :: y.ivs).take 16, meas := tset y.meas y.f (((t - prev - y.mean) :: tget [] y.meas y.f).take 16) }
      else y
    let d2 := (d1.setRas c y1).rasFigures c
    if !accepted && 3 ≤ misses then d2.loseLock p c
    else
      let lock := accepted && y1.known && decide (2 * d.rasF c ≤ y1.acc)
      let d3 := if lock then d2.set (F.RAS_STATUS_LOCK c) 1 else d2
      let d4 := (d3.rasMean c).rasPost c (if accepted then 0 else misses)
      d4.faultIf p (!accepted) (srcRas c) (F.RAS_STATUS_SOS_MISS c)

/-- The error of an accepted edge against its prediction, of largest magnitude since the plate started (R246). -/
def Side.predErr (c : Nat) (t ref : Int) (d : Side) : Side :=
  let e := t - ref
  if (toSigned 32 (d.get (F.RAS_PRED_ERR_ERR c))).natAbs < e.natAbs then d.set (F.RAS_PRED_ERR_ERR c) (ofSigned 32 e) else d

/-- An SOS edge stamped t (R225, R227). -/
def Side.sosEdge (p : Pkg) (c : Nat) (stamp : Int) (d : Side) : Side :=
  let x := d.rasCh c
  let t := d.rasLift c stamp
  if !x.held then d.sweep p c t true none
  else if t < d.rasOpen c || d.rasClose c < t then d.inc (F.RAS_SPURIOUS_COUNT c) 1
  else
    let close := d.rasClose c
    let built := ((x.preds.find? fun e => e.1 == x.s + 1).map (·.2)).getD (d.rasPred c 1)
    let d1 := if x.ran then d.predErr c t built else d
    d1.sweep p c t true (some close)

/-- The stamp of an edge: device time with 6 fractional bits (R47). -/
def Side.stamp64 (p : Pkg) (frac : Nat) (d : Side) : Int := ((64 * d.dev p + frac % 64 : Nat) : Int)

def execSosEdge (c : Nat) (t : Nat) (frac : Nat) (s : State) : Host.Outcome State Fault Refusal :=
  if c < s.pkg.beams then .next ((s.advance t).both (Side.grouped 4 fun p d => d.sosEdge p c (d.stamp64 p frac))) else .next s

/-- An EOS edge: the index under INDEX, the end of the sweep under COUNT (R226, R230). -/
def Side.eosEdge (c : Nat) (t : Int) (d : Side) : Side :=
  let x := d.rasCh c
  if d.flag (F.RAS_CFG_FACET_SRC c) then d.setRas c { x with index := true }
  else if x.held && !x.eosSeen then
    d.setRas c { x with eosSeen := true, eos := tset x.eos x.f ((rasDiff t x.t :: tget [] x.eos x.f).take 16) }
  else d

def execEosEdge (c : Nat) (t : Nat) (frac : Nat) (s : State) : Host.Outcome State Fault Refusal :=
  if c < s.pkg.beams then .next ((s.advance t).both (Side.grouped 4 fun p d => d.eosEdge c (d.stamp64 p frac))) else .next s

/-- The window closes with no edge: the sweep is counted as missed and the prediction stands in; a channel that is ACQUIRING starts
over (R227, R228). -/
def Side.sosMissed (p : Pkg) (c : Nat) (d : Side) : Side :=
  if !(d.rasCh c).held || d.rasLift c (d.stamp64 p 0) < d.rasClose c then d
  else if d.rasLocked c then d.sweep p c (d.rasPred c 1) false (some (d.rasClose c))
  else
    (((d.acquire c).inc (F.RAS_MISSES_COUNT c) 1).set (F.RAS_STATUS_MISSES c) 1).fault p (srcRas c) (F.RAS_STATUS_SOS_MISS c)

def execSosMissed (c : Nat) (t : Nat) (s : State) : Host.Outcome State Fault Refusal :=
  if c < s.pkg.beams then .next ((s.advance t).both (Side.grouped 4 fun p d => d.sosMissed p c)) else .next s

/-- A new nominal interval is I at once while the channel is ACQUIRING (R227). -/
def Side.rasNomWritten (c : Nat) (d : Side) : Side :=
  if d.rasLocked c then d else (d.rasMean c).set (F.RAS_MEAN_INT_I c) (ofSigned 32 (d.rasNom c))

/-- A command bit outside the PLATE window is refused (R246). -/
def Side.rasViol (p : Pkg) (c : Nat) (d : Side) : Side := d.fault p (srcRas c) (F.RAS_STATUS_WINDOW_VIOL c)

/-- FACET_ZERO: the next accepted edge is facet 0; no effect under INDEX (R226). -/
def Side.facetZero (p : Pkg) (c : Nat) (d : Side) : Side :=
  if !d.plateWindow || d.stale 4 then d.rasViol p c
  else if d.flag (F.RAS_CFG_FACET_SRC c) then d
  else d.setRas c { d.rasCh c with zero := true }

/-- RELOCK restarts acquisition (R227). -/
def Side.relock (p : Pkg) (c : Nat) (d : Side) : Side :=
  if d.plateWindow && !d.stale 4 then d.acquire c else d.rasViol p c

def execFacetZero (c : Nat) (s : State) : Host.Outcome State Fault Refusal :=
  if c < s.pkg.beams then .next (s.asWrite true (0x500008 + 0x10000 * c) 1 (s.both fun p d => d.facetZero p c)) else .next s

def execRelock (c : Nat) (s : State) : Host.Outcome State Fault Refusal :=
  if c < s.pkg.beams then .next (s.asWrite true (0x500008 + 0x10000 * c) 2 (s.both fun p d => d.relock p c)) else .next s

/-- A jump step of j ns shifts every stamp the pipelines hold (R229). -/
def Side.rasJump (j : Int) (d : Side) : Side :=
  let w := 64 * j
  { d with ras := d.ras.map fun e =>
      let x := e.2
      (e.1, { x with t := x.t + w, winFrom := x.winFrom.map (· + w), preds := x.preds.map fun q => (q.1, q.2 + w) }) }

/-! Placing the dots (R221, R231 to R235). -/

/-- The dot data of a channel: dots, depth in bits, logical beams, bytes of a track. -/
def Side.rasN (d : Side) (c : Nat) : Nat := d.get (F.RAS_LINE_DOTS_M1 c) + 1
def Side.rasW (d : Side) (c : Nat) : Nat := 2 ^ d.get (F.RAS_CFG_DEPTH c)
def Side.rasB (d : Side) (c : Nat) : Nat := d.get (F.RAS_CFG_BEAMS_M1 c) + 1
def Side.rasTB (d : Side) (c : Nat) : Nat := ceilDiv (d.rasN c * d.rasW c) 8

/-- g_j = floor(j N ÷ 256). -/
def segDot (n j : Nat) : Nat := j * n / 256

/-- The segment a dot lies in; dot N counts to the last one (R231). -/
def segOfDot (n i : Nat) : Nat :=
  (((List.range 256).filter fun j => segDot n j ≤ i && i < segDot n (j + 1)).head?).getD 255

def Side.rasLin (d : Side) (c j : Nat) : Int := toSigned 16 (d.get (F.RAS_LIN_LIN c j))

/-- LIN(i) of a dot, LIN(N) being LIN_256. -/
def Side.linAt (d : Side) (c i : Nat) : Int :=
  let n := d.rasN c
  if n ≤ i then d.rasLin c 256
  else
    let j := segOfDot n i
    let a := segDot n j
    let b := segDot n (j + 1)
    d.rasLin c j + Int.fdiv ((d.rasLin c (j + 1) - d.rasLin c j) * (i - a : Nat)) (b - a : Nat)

/-- u_i of R231 for physical beam q on facet f. -/
def Side.dotU (d : Side) (c q f i : Nat) : Int :=
  ((64 * (d.get (F.RAS_LINE_START c) + i) : Nat) : Int) + toSigned 20 (d.get (F.RAS_BEAM_OFS_OFS c q)) +
  toSigned 20 (d.get (F.RAS_FACET_DLY_DLY c f)) + d.linAt c i +
  Int.fdiv (((64 * i : Nat) : Int) * toSigned 32 (d.get (F.RAS_FACET_SCL_SCL c f))) 16777216

/-- D_eff of R232, in 2^−16 ns. -/
def Side.dotPeriod (d : Side) (c : Nat) : Int :=
  Int.fdiv (((d.get (F.RAS_DOT_PERIOD_PERIOD c) * 256 : Nat) : Int) * (d.rasCh c).mean) (max 1 (d.rasNom c))

/-- τ_i of R232 on a sweep predicted at th. -/
def Side.dotTime (d : Side) (c q f i : Nat) (th : Int) : Int := th + Int.fdiv (d.dotU c q f i * d.dotPeriod c) 65536

/-- Segments per frame, 2^m (R234). -/
def Side.rasMerge (d : Side) (c : Nat) : Nat :=
  let fit := (List.range 9).filter fun m => 2 ^ m * ceilDiv (d.rasN c) 256 * d.rasW c ≤ 32768
  2 ^ min (d.get (F.RAS_CFG_MERGE c)) (fit.foldl max 0)

/-- The groups of a track that hold a dot, as (first dot, dot past the end). -/
def Side.rasGroups (d : Side) (c : Nat) : List (Nat × Nat) :=
  let m := d.rasMerge c
  ((List.range (ceilDiv 256 m)).map fun k => (segDot (d.rasN c) (k * m), segDot (d.rasN c) (min 256 ((k + 1) * m)))).filter
    fun g => g.1 < g.2

/-- Sum of the n levels of w bits in a bit string. -/
def levelSum (w : Nat) : Nat → Nat → Nat
  | 0, _ => 0
  | n + 1, v => v % 2 ^ w + levelSum w n (v / 2 ^ w)

/-- A built frame: its plate's commit number, first dot's time in 1/64 ns, beam, data bytes (R202), and its laser energy in full-scale
ns (R186). -/
structure BuiltFrame where
  owner : Nat
  t0 : Int
  beam : Nat
  body : List Byte
  energy : Rat
  deriving DecidableEq, Repr

/-- The frame of dots [a, b) of a track of physical beam q (R202, R234, R235). -/
def Side.rasFrame (d : Side) (c q f line : Nat) (th : Int) (track : Nat) (a b : Nat) (last : Bool) : BuiltFrame :=
  let w := d.rasW c
  let cnt := b - a
  let ta := d.dotTime c q f a th
  let tb := d.dotTime c q f b th
  let per := (clampI 16 16777215 (Int.fdiv (8 * (tb - ta) + cnt) (2 * cnt))).toNat
  let v := bits track (a * w) (cnt * w)
  let dots := if v = 0 then [] else leBytes (ceilDiv (cnt * w) 8) v
  let ns := (Int.fdiv ta 64 % (2 ^ 32 : Nat)).toNat
  let fr := (ta % 64).toNat
  let body := leBytes 4 ns ++ leBytes 1 (fr + 64 * d.get (F.RAS_CFG_DEPTH c)) ++ leBytes 3 per ++ leBytes 1 q ++
    leBytes 1 (b2n last + 2 * b2n (v = 0)) ++ leBytes 2 line ++ leBytes 2 a ++ leBytes 2 (cnt - 1) ++ dots
  ⟨0, ta, q, body, ((levelSum w cnt v * per : Nat) : Rat) / ((256 * (2 ^ w - 1) : Nat) : Rat)⟩

/-- Every frame of one track. -/
def Side.rasTrack (d : Side) (c q f line : Nat) (th : Int) (track : Nat) : List BuiltFrame :=
  let gs := d.rasGroups c
  (gs.zipIdx).map fun g => d.rasFrame c q f line th track g.1.1 g.1.2 (g.2 + 1 == gs.length)

/-! The substitution map, the pool and the plate check (R237, R242, R243). -/

/-- The map in the registers: (physical, logical) of every beam with EN 1 (R242). -/
def Side.rasMap (d : Side) (c : Nat) : List (Nat × Nat) :=
  ((List.range 32).filter fun q => d.flag (F.RAS_BEAM_SUB_EN c q)).map fun q => (q, d.get (F.RAS_BEAM_SUB_SRC c q))

/-- The pool requirement of a channel under a map (R237). -/
def Side.rasPool (d : Side) (c : Nat) (m : List (Nat × Nat)) : Nat :=
  let slot := 64 * ceilDiv (d.rasTB c) 64
  (m.map fun e => 4096 * ceilDiv (d.get (F.RAS_BEAM_CFG_ROWDLY c e.1) * slot) 4096).sum

/-- R233 for one beam and facet: no dot lies before the sweep's SOS. -/
def Side.dotsOk (d : Side) (c q f : Nat) : Bool := (List.range (d.rasN c)).all fun i => decide (0 ≤ d.dotU c q f i)

/-- The first failed check of R243 on a channel, 0 for none. -/
def Side.rasCheck (d : Side) (c : Nat) (mdat : List Byte) : Nat :=
  let m := d.rasMap c
  let b := d.rasB c
  if !(m.all (fun e => e.2 < b) && (List.range b).all fun l => (m.filter fun e => e.2 == l).length == 1) then 1
  else if !(m.all fun e => (List.range (d.rasF c)).all fun f => d.dotsOk c e.1 f) then 2
  else if mPolicy mdat = 2 && !d.flag (F.RAS_CFG_FEED_SRC c) then 3
  else if d.flag (F.RAS_CFG_FEED_SRC c) && d.get (F.RAS_FEED_SCALE_SCALE c) = 0 then 4
  else 0

/-- The raster plate check: reason and channel of the first failure, from the lowest channel upward. -/
def Side.rasterCheck (d : Side) (mdat : List Byte) : Option (Nat × Nat) :=
  (mChans mdat).findSome? fun c => if d.rasCheck c mdat = 0 then none else some (d.rasCheck c mdat, c)

/-- A raster plate's pool requirement under the current maps. -/
def Side.rasterPool (d : Side) (mdat : List Byte) : Nat :=
  if mKind mdat = 0 then ((mChans mdat).map fun c => d.rasPool c (d.rasMap c)).sum else 0

/-- The maps of a raster plate's channels, sampled at its commit. -/
def Side.rasterMaps (d : Side) (mdat : List Byte) : Tab (List (Nat × Nat)) :=
  if mKind mdat = 0 then (mChans mdat).map fun c => (c, d.rasMap c) else []

/-! Plates on a channel (R236 to R239). -/

/-- A raster plate starts on its channels; edge is device time of the start edge; a channel that is ACQUIRING spoils it
with SOS_MISS (R228). -/
def Side.rasterStart (p : Pkg) (r edge : Nat) (d : Side) : Side :=
  if mKind (d.mdat r) ≠ 0 then d
  else
    (mChans (d.mdat r)).foldl (fun d c =>
      let x := d.rasCh c
      let j : RJob := { pl := r, start := edge, x0 := d.axPos (d.get (F.RAS_CFG_FEED_AXIS c)),
                        y := toSigned 32 (d.get (F.RAS_FEED_ORG_ORG c)) }
      let d1 := ((d.setRas c { x with jobs := x.jobs ++ [j], ran := true }).set (F.RAS_PRED_ERR_ERR c) 0).set (F.RAS_FEED_ERR_ERR c) 0
      if d1.rasLocked c || d1.pln.causes.contains (r, 9) then d1 else d1.spoilCause p r 9) d

/-- A plate's jobs leave every channel: it is spoiled (R181) or done. -/
def Side.rasterDrop (r : Nat) (d : Side) : Side :=
  { d with ras := d.ras.map fun e => (e.1, { e.2 with jobs := e.2.jobs.filter fun j => j.pl != r }) }

def Side.setJobs (d : Side) (c : Nat) (l : List RJob) : Side := d.setRas c { d.rasCh c with jobs := l }

def Side.putJob (d : Side) (c : Nat) (j : RJob) : Side :=
  d.setJobs c ((d.rasCh c).jobs.map fun x => if x.pl = j.pl then j else x)

/-- The map a plate runs on at channel c. -/
def Side.jobMap (d : Side) (r c : Nat) : List (Nat × Nat) := tget [] (d.recd r).maps c

/-- d_max, the largest row delay the plate uses on a channel. -/
def Side.jobDelay (d : Side) (r c : Nat) : Nat :=
  ((d.jobMap r c).map fun e => d.get (F.RAS_BEAM_CFG_ROWDLY c e.1)).foldl max 0

/-- A plate's stripe 0 comes at or after position K of the plate before, and its later positions not ahead of that plate's drain, so
that no beam gets a track of both (R236). -/
def jobMayRun (due : RJob → Bool) (me : RJob) : List RJob → Bool
  | [] => true
  | j :: t =>
    if j.pl = me.pl then true
    else
      let past := match j.total with
        | some k => j.built || decide (k + me.pos < j.pos) || (decide (k + me.pos = j.pos) && due j)
        | none => false
      past && jobMayRun due me t

/-- ŷ_s of R239: the medium position at th extrapolated from the last two latches, in 1/256 line (log entry 33). -/
def Side.mediumAt (d : Side) (c : Nat) (j : RJob) (th : Int) : Int :=
  let n := d.get (F.RAS_CFG_FEED_AXIS c)
  let x : Int := match (d.axis n).latch with
    | [(t1, x1), (t0, x0)] =>
      let den := 64 * tdiff t1 t0
      sdiff32 x1 j.x0 + (if den = 0 then 0 else Int.fdiv (sdiff32 x1 x0 * rasDiff th (64 * t1)) den)
    | (_, x1) :: _ => sdiff32 x1 j.x0
    | [] => 0
  Int.fdiv (x * toSigned 32 (d.get (F.RAS_FEED_SCALE_SCALE c))) 65536

/-- What POSITION mode says of the next position: not yet; or written, with the error. -/
def Side.feedDue (d : Side) (c : Nat) (j : RJob) (th : Int) : Option Int :=
  if d.flag (F.RAS_CFG_FEED_SRC c) then
    let e := d.mediumAt c j th - j.y
    if e < -(d.get (F.RAS_FEED_TOL_TOL c) : Int) then none else some e
  else some 0

/-- FEED_ERR and PLACE_LATE of a written stripe (R239). -/
def Side.feedNote (p : Pkg) (c : Nat) (e : Int) (d : Side) : Side :=
  if !d.flag (F.RAS_CFG_FEED_SRC c) then d
  else
    let late := decide ((d.get (F.RAS_FEED_TOL_TOL c) : Int) ≤ e)
    let d1 := if late then (d.inc (F.RAS_LATE_STRIPES_COUNT c) 1).fault p (srcRas c) (F.RAS_STATUS_PLACE_LATE c) else d
    if (toSigned 32 (d1.get (F.RAS_FEED_ERR_ERR c))).natAbs < e.natAbs then d1.set (F.RAS_FEED_ERR_ERR c) (ofSigned 32 e) else d1

/-- What the pipeline finds at position pos: a stripe of data with whether it was completed (R223); the drain; late data. -/
inductive StripeData where
  | data (l : List Byte) (short : Bool) (lastOne : Bool)
  | drain (total : Nat)
  | late
  deriving DecidableEq, Repr

def Side.stripeData (d : Side) (c : Nat) (j : RJob) : StripeData :=
  match j.total with
  | some k => .drain k
  | none =>
    let need := d.rasB c * d.rasTB c
    let l := d.visible j.pl c
    let whole := d.recWhole j.pl c
    if need ≤ l.length then .data (l.take need) false (whole && l.length == need)
    else if !whole then .late
    else if l.isEmpty then .drain j.pos
    else .data (l ++ List.replicate (need - l.length) 0) true true

/-- The frames of a position: beam q writes the track of stripe pos − d_q (R236). -/
def Side.posFrames (d : Side) (c f : Nat) (j : RJob) (th : Int) : List BuiltFrame :=
  let tb := d.rasTB c
  ((d.jobMap j.pl c).map fun e =>
    let dly := d.get (F.RAS_BEAM_CFG_ROWDLY c e.1)
    if j.pos < dly then []
    else match j.stripes.find? (fun x => x.1 == j.pos - dly) with
      | none => []
      | some (k, l) => d.rasTrack c e.1 f k th (leNat ((l.drop (tb * e.2)).take tb))).flatten

/-- Frames of a sweep leave for the elastic FIFO in ascending T0, then beam (R235), numbered in that order (R218), and their energy is
metered (R186). -/
def Side.sendFrames (c : Nat) (l : List BuiltFrame) (d : Side) : Side :=
  let key (x : BuiltFrame) : Nat := (x.t0 + 2 ^ 100).toNat * 32 + x.beam
  let n := (d.rasCh c).num
  let fs := (sortBy key l).zipIdx.map fun e => Outbound.dot c (n + e.2) e.1.owner (ofSigned 64 (Int.fdiv e.1.t0 64)) e.1.body
  let d1 := ({ d with out := d.out ++ fs }).setRas c { d.rasCh c with num := n + l.length }
  { d1 with pln := { d1.pln with laser := tmod 0 d1.pln.laser c fun e => e + (l.map BuiltFrame.energy).sum } }

/-- One position of a plate's job is built on a sweep of facet f, predicted at th (R232, R236 to R239): its frames join those of the
sweep. -/
def Side.buildPos (p : Pkg) (c f : Nat) (th : Int) (acc : Side × List BuiltFrame) (pl : Nat) : Side × List BuiltFrame :=
  let d := acc.1
  let own (l : List BuiltFrame) : List BuiltFrame := acc.2 ++ l.map fun x => { x with owner := (d.recd pl).seq }
  match (d.rasCh c).jobs.find? (fun j => j.pl == pl) with
  | none => acc
  | some j =>
    match d.feedDue c j th with
    | none => acc
    | some e =>
      match d.stripeData c j with
      | .late => ((d.putJob c { j with stopped := true }).dataLate p pl, acc.2)
      | .drain k =>
        let fin := decide (k + d.jobDelay pl c ≤ j.pos + 1)
        let j1 := { j with total := some k }
        let fr := d.posFrames c f j1 th
        let d0 := if j.total.isNone then d.chanTaken pl c else d
        if k + d.jobDelay pl c ≤ j.pos then (d0.putJob c { j1 with built := true }, acc.2)
        else
          let step := (d.get (F.RAS_FEED_FEED c (j.pos % (d.get (F.RAS_CFG_FEED_LEN_M1 c) + 1))) : Int)
          let j2 := { j1 with pos := j.pos + 1, y := j.y + step, built := fin }
          (((d0.feedNote p c e).putJob c j2).set (F.RAS_STRIPE_K c) j.pos, own fr)
      | .data l short lastOne =>
        let dm := d.jobDelay pl c
        let d1 := (d.takeStream pl c (min (d.recFill pl c) l.length)).faultIf p short (srcRas c) (F.RAS_STATUS_SHORT_TAIL c)
        let j1 := { j with stripes := ((j.pos, l) :: j.stripes).take (dm + 1) }
        let fr := d1.posFrames c f j1 th
        let step := (d.get (F.RAS_FEED_FEED c (j.pos % (d.get (F.RAS_CFG_FEED_LEN_M1 c) + 1))) : Int)
        let j2 := { j1 with pos := j.pos + 1, y := j.y + step, total := if lastOne then some (j.pos + 1) else none,
                            built := lastOne && dm == 0 }
        let d2 := if lastOne then d1.chanTaken pl c else d1
        (((d2.feedNote p c e).putJob c j2).set (F.RAS_STRIPE_K c) j.pos, own fr)

/-- G of the next sweep to build, its number and its prediction. -/
def Side.nextBuild (d : Side) (c : Nat) : Nat × Int × Int :=
  let x := d.rasCh c
  let s := max x.next (x.s + 1)
  let th := d.rasPred c (s - x.s)
  (s, th, th - 64 * ((32000 + 1000 * d.get (F.BLK_CFG_DOT_LEAD c) : Nat) : Int))

/-- A medium axis is in the reroll sequence of the plate that runs: it stops, backs up or waits there (R349). -/
def Side.backingUp (d : Side) : Bool :=
  (List.range 24).any fun n => bit (d.get F.PLN_MEDIUM_AXES_MASK) n && d.motState n == 3 && (d.axis n).phase != 5

/-- A job writes at a sweep: it is not over, its start edge lies before G, the plate before it is at or past position K, and it
is not rerolling: it writes again once the medium has backed up and runs forward (R180, R240). -/
def Side.jobRuns (d : Side) (c : Nat) (th g : Int) (j : RJob) : Bool :=
  !j.stopped && !j.built && decide (rasDiff (64 * (j.start : Int)) g < 0) && jobMayRun (fun i => (d.feedDue c i th).isSome) j (d.rasCh c).jobs &&
  d.get (F.PLN_PLATE_STATE_LATE_MODE j.pl) != 2 && !d.backingUp

/-- STRIPE_BUILD: at G_s of the next sweep of a LOCKED channel its frames are built (R232). -/
def Side.stripeBuild (p : Pkg) (c : Nat) (d : Side) : Side :=
  let (s, th, g) := d.nextBuild c
  if !d.rasLocked c || d.rasLift c (d.stamp64 p 63) < g then d
  else
    let x := d.rasCh c
    let f := (x.f + (s - x.s)) % d.rasF c
    let d1 := d.setRas c { x with next := s + 1, preds := ((s, th) :: x.preds).take 64 }
    let pls := (x.jobs.filter (d.jobRuns c th g)).map (·.pl)
    let r := pls.foldl (Side.buildPos p c f th) (d1, [])
    r.1.sendFrames c r.2

def execStripeBuild (c : Nat) (t : Nat) (s : State) : Host.Outcome State Fault Refusal :=
  if c < s.pkg.beams then .next ((s.advance t).both (Side.grouped 4 fun p d => d.stripeBuild p c)) else .next s

/-- Every frame of a plate on channel c is built, and none waits in the channel's elastic FIFO (R236). -/
def Side.rasterLeft (p : Pkg) (d : Side) (r c : Nat) : Bool :=
  (match (d.rasCh c).jobs.find? (fun j => j.pl == r) with
   | some j => j.built
   | none => true) &&
  (p.hold.port c).dotsLeft (d.recd r).seq

/-! Beam health and head temperature (R241, R244). -/

/-- HEALTH of a STAT frame: the registers, HEALTH_CHG and the mask of beams that changed. -/
def Side.health (p : Pkg) (c h : Nat) (d : Side) : Side :=
  let old := d.get64 (F.RAS_HEALTH_LO_HEALTH c) (F.RAS_HEALTH_HI_HEALTH c)
  if h = old then d
  else
    let mask := ((List.range 32).map fun b => if bits h (2 * b) 2 = bits old (2 * b) 2 then 0 else 2 ^ b).sum
    (d.set64 (F.RAS_HEALTH_LO_HEALTH c) (F.RAS_HEALTH_HI_HEALTH c) h).faultD p (srcRas c) (F.RAS_STATUS_HEALTH_CHG c) mask 0

/-- A head reads temp (1/16 °C): HEAD_HOT with its hysteresis, and the hard limit (R244). -/
def Side.headTemp (p : Pkg) (c : Nat) (temp : Int) (d : Side) : Side :=
  let soft := toSigned 16 (d.get (F.RAS_HEAD_LIMIT_SOFT c))
  let hard := toSigned 16 (d.get (F.RAS_HEAD_LIMIT_HARD c))
  let d1 := d.set (F.RAS_HEAD_TEMP_TEMP c) (ofSigned 16 temp)
  if soft ≤ temp then
    let d2 := (d1.set (F.RAS_STATUS_HEAD_HOT c) 1).fault p (srcRas c) (F.RAS_STATUS_HEAD_SOFT c)
    let uses := (List.range 4).any fun r => d2.recRunning r && mStream (d2.mdat r) c != 0
    if hard ≤ temp && uses then
      let x := d2.rasCh c
      let d3 := d2.setRas c { x with jobs := x.jobs.map fun j => { j with stopped := true } }
      (d3.fault p (srcRas c) (F.RAS_STATUS_HEAD_HARD c)).spoilChan p c 0x08
    else d2
  else if temp < soft - 16 then d1.set (F.RAS_STATUS_HEAD_HOT c) 0
  else d1

/-- RASc_CFG names a present axis; HARD exceeds SOFT (R246). -/
def Side.rasCfgOk (p : Pkg) (v : Nat) : Bool := decide (bits v 24 5 < p.axes)

def headLimitOk (v : Nat) : Bool := decide (toSigned 16 v < toSigned 16 (v / 65536))

end Sys2Proof.Machine
end

