-- ==== Sys2Proof/Machine/Vector.lean ====
section
/-! DEFINITION. Vector writing (spec/09): vector words, placement, look-ahead and speed planning, exact begin and end
instants, stops, setpoints and grids. Times are device times in ns, lengths field units, speeds field units per ns, all exact
rationals but for irrational square roots and long fractions, which are cut to 2^−64 (log entry 34). -/

namespace Sys2Proof.Machine

def Side.vehCh (d : Side) (c : Nat) : Veh := tget {} d.veh c
def Side.setVeh (d : Side) (c : Nat) (x : Veh) : Side := { d with veh := tset d.veh c x }
def srcVec (c : Nat) : Nat := 0x120 + c

/-- VECc_STATUS.STATE: 0 IDLE, 1 RUN, 2 STOPPING, 3 STOPPED. -/
def Side.vecState (d : Side) (c : Nat) : Nat := d.get (F.VEC_STATUS_STATE c)

/-- A device time as an instant of a channel: the one nearest to the last instant it holds, so that its order survives the wrap of
device time (R37). -/
def Side.vnow (d : Side) (c t : Nat) : Int :=
  let r := (d.vehCh c).ready.floor
  r + tdiff t (ofSigned 64 r)

/-! Square roots (log entry 34). -/

/-- The greatest r + (a number below 2^k) whose square is at most n. -/
def isqrtAux : Nat → Nat → Nat → Nat
  | 0, _, r => r
  | k + 1, n, r => isqrtAux k n (if (r + 2 ^ k) * (r + 2 ^ k) ≤ n then r + 2 ^ k else r)

/-- Integer square root of numbers below 2^256. -/
def isqrt (n : Nat) : Nat := isqrtAux 128 n 0

/-- Square root of a rational: exact where it is rational and small, else cut to 2^−64. -/
def sqrtR (q : Rat) : Rat :=
  let n := isqrt q.num.toNat
  let e := isqrt q.den
  if n * n = q.num.toNat && e * e = q.den then (n : Rat) / e
  else (isqrt (q * 2 ^ 128).floor.toNat : Rat) / 2 ^ 64

/-- A time, cut to 2^−64 ns where it has a larger denominator. -/
def cutT (q : Rat) : Rat := if q.den ≤ 2 ^ 64 then q else ((q * 2 ^ 64).floor : Rat) / 2 ^ 64

/-! Set-up in field units. -/

/-- mm/s in field units per ns; m/s² in field units per ns². -/
def speedU (v : Nat) : Rat := (v * 256 : Nat) / 1000000
def accU (a : Nat) : Rat := (a * 256 : Nat) / 1000000000000

def Side.vecA (d : Side) (c : Nat) : Rat := accU (d.get (F.VEC_ACCEL_MPS2 c))
def Side.vecMax (d : Side) (c : Nat) : Nat := d.get (F.VEC_SPEED_LIM_VMAX c)
def Side.vecHalf (d : Side) (c : Nat) : Int := ((256 * d.get (F.VEC_FIELD_HALF_UM c) : Nat) : Int)
def Side.fineNs (d : Side) : Nat := d.tim.fineNs

/-- A bed point in the field of a channel's head (R250). -/
def Side.toField (d : Side) (c : Nat) (b : Int × Int × Int) : Int × Int × Int :=
  let x := b.1 - toSigned 32 (d.get (F.VEC_ORG_X_ORG c))
  let y := b.2.1 - toSigned 32 (d.get (F.VEC_ORG_Y_ORG c))
  (Int.fdiv (toSigned 32 (d.get (F.VEC_M00_M c)) * x + toSigned 32 (d.get (F.VEC_M01_M c)) * y) (2 ^ 30 : Nat),
   Int.fdiv (toSigned 32 (d.get (F.VEC_M10_M c)) * x + toSigned 32 (d.get (F.VEC_M11_M c)) * y) (2 ^ 30 : Nat),
   b.2.2 - toSigned 32 (d.get (F.VEC_ORG_Z_ORG c)))

/-- The bed point of a field point, by the inverse map: where a plate's first vector starts on the bed (log entry 35). -/
def Side.toBed (d : Side) (c : Nat) (f : Int × Int × Int) : Int × Int × Int :=
  let a := toSigned 32 (d.get (F.VEC_M00_M c))
  let b := toSigned 32 (d.get (F.VEC_M01_M c))
  let e := toSigned 32 (d.get (F.VEC_M10_M c))
  let g := toSigned 32 (d.get (F.VEC_M11_M c))
  let det := a * g - b * e
  let two := ((2 ^ 30 : Nat) : Int)
  (toSigned 32 (d.get (F.VEC_ORG_X_ORG c)) + Int.fdiv (two * (g * f.1 - b * f.2.1)) det,
   toSigned 32 (d.get (F.VEC_ORG_Y_ORG c)) + Int.fdiv (two * (a * f.2.1 - e * f.1)) det,
   f.2.2 + toSigned 32 (d.get (F.VEC_ORG_Z_ORG c)))

def Side.inField (d : Side) (c : Nat) (f : Int × Int × Int) : Bool :=
  decide (f.1.natAbs ≤ (d.vecHalf c).natAbs) && decide (f.2.1.natAbs ≤ (d.vecHalf c).natAbs)

/-! Vector words (R248, R249). -/

def wVid (w : List Byte) : Nat := leAt w 0 4
def wType (w : List Byte) : Nat := byteAt w 4 % 4
def wMig (w : List Byte) : Bool := bit (byteAt w 4) 2
def wEnd (w : List Byte) : Int × Int × Int := (toSigned 32 (leAt w 8 4), toSigned 32 (leAt w 12 4), toSigned 32 (leAt w 16 4))
def wSpeed (w : List Byte) : Nat := leAt w 20 2
def wCand (w : List Byte) : Nat := leAt w 24 2

/-- The stitch arbiter is in use: enabled, the started plate a vector plate (R271). -/
def Side.arbOn (d : Side) : Bool :=
  d.flag F.STI_CFG_EN && (match d.startedRec with
    | some r => mKind (d.mdat r) == 1
    | none => false)

/-- Reason 5 of R249: the migration rules; MIG and CAND are ignored while the arbiter is not enabled (R271; log
entry 36). -/
def Side.migBad (p : Pkg) (d : Side) (c : Nat) (prevOk : Bool) (w : List Byte) : Bool :=
  d.flag F.STI_CFG_EN &&
  ((wMig w && (wType w == 0 || !prevOk || !bit (wCand w) c || decide (2 ^ p.beams ≤ wCand w))) || (!wMig w && wCand w != 0))

/-- The first reason for which a word fails on the head that runs it, from a start point in its field; origin is the channel
whose stream holds it. -/
def Side.wordReason (p : Pkg) (d : Side) (run origin : Nat) (prevOk : Bool) (start : Int × Int × Int) (w : List Byte) :
    Option Nat :=
  let f := d.toField run (wEnd w)
  if 2 ≤ wType w || byteAt w 4 / 8 ≠ 0 || (firstNonZero w 26 6).isSome then some 1
  else if 20000 < wSpeed w || (wType w = 1 && wSpeed w = 0) then some 2
  else if !d.inField run f then some 3
  else if wType w = 1 && f.1 = start.1 && f.2.1 = start.2.1 then some 4
  else if d.migBad p origin prevOk w then some 5
  else none

/-! Profiles (R255). -/

/-- Path distance between two field points in X and Y. -/
def pathLen (a b : Int × Int × Int) : Rat :=
  let x := b.1 - a.1
  let y := b.2.1 - a.2.1
  sqrtR ((x * x + y * y : Int) : Rat)

/-- A planned profile: speeds at entry, cruise and exit; times of its phases; distances of the first and last. -/
structure Prof where
  v0 : Rat
  vp : Rat
  v1 : Rat
  ta : Rat
  tc : Rat
  td : Rat
  sa : Rat
  sd : Rat
  deriving DecidableEq, Repr

/-- The time a cruise at speed 0 takes: it has no end (log entry 161). -/
def never : Rat := (2 ^ 128 : Nat)

/-- The profile of a length between squared end speeds under a speed limit, all changes of speed at rate acc. -/
def mkProf (len w0 w1 vl acc : Rat) : Prof :=
  if len = 0 then ⟨0, 0, 0, 0, 0, 0, 0, 0⟩
  else
    let wp := max (max w0 w1) (min (vl * vl) ((w0 + w1) / 2 + acc * len))
    let v0 := sqrtR w0
    let v1 := sqrtR w1
    let vp := sqrtR wp
    let sa := (wp - w0) / (2 * acc)
    let sd := (wp - w1) / (2 * acc)
    let tc := if vp = 0 then never else cutT (max 0 (len - sa - sd) / vp)
    ⟨v0, vp, v1, cutT ((vp - v0) / acc), tc, cutT ((vp - v1) / acc), sa, sd⟩

def Prof.time (x : Prof) : Rat := x.ta + x.tc + x.td

/-- Distance done and speed a time after the entry. -/
def Prof.at (x : Prof) (len acc tau : Rat) : Rat × Rat :=
  if tau ≤ 0 then (0, x.v0)
  else if tau ≤ x.ta then (min len (x.v0 * tau + acc * tau * tau / 2), x.v0 + acc * tau)
  else if tau ≤ x.ta + x.tc then (min len (x.sa + x.vp * (tau - x.ta)), x.vp)
  else if tau ≤ x.time then
    let r := x.time - tau
    (max 0 (len - (x.v1 * r + acc * r * r / 2)), x.v1 + acc * r)
  else (len, x.v1)

/-- Duration of a rest-to-rest plan. -/
def restTime (len vl acc : Rat) : Rat := (mkProf len 0 0 vl acc).time

def Side.vecProf (d : Side) (c : Nat) (v : Vec) : Prof := mkProf v.len v.w0 v.w1 (speedU v.vlim) (d.vecA c)

/-- Square of the joint speed of R254; none where the joint has no limit of its own. A vector without length crosses at rest
(log entry 37). -/
def jointW (dv : Nat) (a b : Vec) : Option Rat :=
  let ax := a.f1.1 - a.f0.1
  let ay := a.f1.2.1 - a.f0.2.1
  let bx := b.f1.1 - b.f0.1
  let yy := b.f1.2.1 - b.f0.2.1
  if a.settle ≠ 0 || a.len = 0 || b.len = 0 then some 0
  else if ax * yy = ay * bx && 0 < ax * bx + ay * yy then none
  else
    let ux := (bx : Rat) / b.len - (ax : Rat) / a.len
    let uy := (yy : Rat) / b.len - (ay : Rat) / a.len
    let m := max (if ux < 0 then -ux else ux) (if uy < 0 then -uy else uy)
    if m = 0 then none else some (speedU dv * speedU dv / (m * m))

/-- The backward pass: every vector's greatest squared entry and exit speeds, the last one's exit being 0. -/
def planBack (dv : Nat) (acc : Rat) : List Vec → List Vec
  | [] => []
  | v :: t =>
    let vl := speedU v.vlim * speedU v.vlim
    match planBack dv acc t with
    | [] => [{ v with w1 := 0, w0 := min vl (2 * acc * v.len) }]
    | u :: r =>
      let out := min vl (match jointW dv v u with
        | some w => min w u.w0
        | none => u.w0)
      { v with w1 := out, w0 := min vl (out + 2 * acc * v.len) } :: u :: r

/-- The forward pass from a fixed squared entry speed. -/
def planFwd (acc : Rat) : Rat → List Vec → List Vec
  | _, [] => []
  | w, v :: t =>
    let out := min v.w1 (w + 2 * acc * v.len)
    { v with w0 := w, w1 := out } :: planFwd acc out t

/-- The look-ahead planned again; the entry speed of its first vector is fixed (R255). -/
def Side.replan (d : Side) (c : Nat) (q : List Vec) : List Vec :=
  match q with
  | [] => []
  | v :: _ => planFwd (d.vecA c) v.w0 (planBack (d.get (F.VEC_SPEED_LIM_CORNER_DV c)) (d.vecA c) q)

/-! Instants (R256). -/

/-- The vectors of a list with their begin and end instants, from the first one's begin. -/
def Side.vecTimes (d : Side) (c : Nat) : Rat → List Vec → List (Vec × Rat × Rat)
  | _, [] => []
  | b, v :: t =>
    let e := b + (d.vecProf c v).time
    (v, b, e) :: d.vecTimes c (e + (v.settle * d.fineNs : Nat)) t

/-- The plan of a channel's look-ahead. -/
def Side.vecPlan (d : Side) (c : Nat) : List (Vec × Rat × Rat) :=
  let x := d.vehCh c
  d.vecTimes c (x.begun.getD x.ready) x.q

/-- The first boundary at or after an instant of a channel. -/
def Side.boundaryFrom (d : Side) (t : Rat) : Int :=
  let n := ofSigned 64 t.ceil
  t.ceil + tdiff (align64 d.fineNs (d.tim.phase % d.fineNs) n) n

/-- The last boundary at or before it: in a new lap of device time before its first boundary, the last one of the lap before. -/
def Side.boundaryTo (d : Side) (t : Rat) : Int :=
  let n := ofSigned 64 t.floor
  let ph := d.tim.phase % d.fineNs
  if ph ≤ n then t.floor - (((n - ph) % d.fineNs : Nat) : Int) else t.floor - ((n + 1 + (2 ^ 64 - 1 - ph) % d.fineNs : Nat) : Int)

/-- The laser window of a MARK (R261). -/
def Side.vecWin (d : Side) (v : Vec) (b e : Rat) : LWin :=
  let s := d.boundaryFrom b
  { on := s + (v.lon * d.fineNs : Nat), off := max s (d.boundaryTo e) + (v.loff * d.fineNs : Nat), vid := v.vid, power := v.power,
    vnom := v.vnom, vlim := v.vlim, origin := v.origin }

/-- The windows of a channel, latest beginning first: those of the plan, then those of ended MARKs. -/
def Side.vecWins (d : Side) (c : Nat) : List LWin :=
  (((d.vecPlan c).filter fun e => e.1.mark).map fun e => d.vecWin e.1 e.2.1 e.2.2).reverse ++ (d.vehCh c).wins

/-- The window that holds a boundary. -/
def Side.winAt (d : Side) (c : Nat) (t : Int) : Option LWin := (d.vecWins c).find? fun w => w.on ≤ t && t ≤ w.off

/-! Where the head is (R257, R265). -/

/-- Position, bed position and path speed at an instant. -/
structure Head where
  x : Rat
  y : Rat
  z : Int
  bed : Int × Int
  v : Rat
  deriving DecidableEq, Repr

/-- Times of an overshoot and of its return, and its length. -/
def Side.coastTimes (d : Side) (c : Nat) (k : Coast) : Rat × Rat × Rat :=
  let a := d.vecA c
  let len := if a = 0 then 0 else k.v * k.v / (2 * a)
  (if a = 0 then 0 else cutT (k.v / a), if k.back then restTime len (speedU (d.vecMax c)) a else 0, len)

/-- Where an overshoot or its return is at an instant: distance from its start and path speed. -/
def Side.coastRun (d : Side) (c : Nat) (k : Coast) (t : Rat) : Rat × Rat :=
  let (t1, t2, len) := d.coastTimes c k
  let tau := t - k.t0
  if tau ≤ 0 then (0, k.v)
  else if tau ≤ t1 then (k.v * tau - d.vecA c * tau * tau / 2, k.v - d.vecA c * tau)
  else if !k.back then (len, 0)
  else if t1 + t2 ≤ tau then (0, 0)
  else
    let r := (mkProf len 0 0 (speedU (d.vecMax c)) (d.vecA c)).at len (d.vecA c) (tau - t1)
    (len - r.1, r.2)

/-- Position and path speed of an overshoot or its return at an instant. -/
def Side.coastAt (d : Side) (c : Nat) (k : Coast) (t : Rat) : Rat × Rat × Rat :=
  let r := d.coastRun c k t
  (k.x + k.ux * r.1, k.y + k.uy * r.1, r.2)

/-- What a spoil makes of an overshoot or its return: no return follows; a return under way decelerates to rest at A (R267; log entry
162). -/
def Side.coastEnd (d : Side) (c : Nat) (t : Rat) (k : Coast) : Coast :=
  let (t1, _, _) := d.coastTimes c k
  if !k.back || t - k.t0 ≤ t1 then { k with back := false }
  else
    let q := d.coastAt c k t
    ⟨t, q.1, q.2.1, -k.ux, -k.uy, q.2.2, false⟩

/-- A point a path distance along a vector. -/
def Vec.along (v : Vec) (s : Rat) : Rat × Rat × Int :=
  if v.len = 0 then (v.f1.1, v.f1.2.1, v.f1.2.2)
  else
    let q := s / v.len
    ((v.f0.1 : Rat) + ((v.f1.1 - v.f0.1 : Int) : Rat) * q, (v.f0.2.1 : Rat) + ((v.f1.2.1 - v.f0.2.1 : Int) : Rat) * q,
     v.f0.2.2 + (((v.f1.2.2 - v.f0.2.2 : Int) : Rat) * q).floor)

/-- The bed point of R283. -/
def Vec.bedAt (v : Vec) (s : Rat) : Int × Int :=
  let q := if v.len = 0 then 1 else s / v.len
  (v.b0.1 + (((v.b1.1 - v.b0.1 : Int) : Rat) * q).floor, v.b0.2.1 + (((v.b1.2.1 - v.b0.2.1 : Int) : Rat) * q).floor)

/-- The vector that holds an instant, the earlier one at a joint, or the last one that has ended before it. -/
def holding (t : Rat) : List (Vec × Rat × Rat) → Option (Vec × Rat × Rat) → Option (Vec × Rat × Rat)
  | [], last => last
  | e :: r, last => if t ≤ e.2.1 && (last.isSome || t < e.2.1) then last else if t ≤ e.2.2 then some e else holding t r (some e)

def Side.headAt (d : Side) (c : Nat) (t : Rat) : Head :=
  let x := d.vehCh c
  match x.coast with
  | some k => ⟨(d.coastAt c k t).1, (d.coastAt c k t).2.1, x.z, x.bed, (d.coastAt c k t).2.2⟩
  | none =>
    match holding t (d.vecPlan c) none with
    | none => ⟨x.x, x.y, x.z, x.bed, 0⟩
    | some (v, b, e) =>
      let pf := d.vecProf c v
      let sv := if e ≤ t then (v.len, (0 : Rat)) else pf.at v.len (d.vecA c) (t - b)
      let sv := if t = e then (v.len, pf.v1) else sv
      let q := v.along sv.1
      ⟨q.1, q.2.1, q.2.2, v.bedAt sv.1, sv.2⟩

/-- The interpolated power at a boundary (R261, R262). -/
def Side.powerAt (d : Side) (c : Nat) (t : Int) : Nat :=
  match d.winAt c t with
  | none => 0
  | some w =>
    match d.get (F.VEC_CFG_PWR_MODE c) with
    | 1 => w.power * w.vlim / max 1 w.vnom
    | 2 =>
      let v := (d.headAt c t).v / 256 * 1000000
      w.power * max (v * 65536 / (max 1 w.vnom : Nat)).floor.toNat (d.get (F.VEC_PWR_MIN_FRAC c)) / 65536
    | _ => w.power

/-! The look-ahead (R251 to R256, R275, R276). -/

/-- Where the running order of a channel ends, in its field. -/
def Side.vecTail (d : Side) (c : Nat) : Int × Int × Int :=
  let x := d.vehCh c
  match (x.q ++ x.held).getLast? with
  | some v => v.f1
  | none => (x.x.floor, x.y.floor, x.z)

def Side.laFill (d : Side) (c : Nat) : Nat := (d.vehCh c).q.length + (d.vehCh c).held.length

/-- Where the running order of a channel ends on the bed. -/
def Side.bedTail (d : Side) (c : Nat) : Int × Int × Int :=
  let x := d.vehCh c
  match (x.q ++ x.held).getLast? with
  | some v => v.b1
  | none => x.bedEnd.getD (d.toBed c (d.vecTail c))

/-- LA_FILL brought up to date. -/
def Side.vecPost (d : Side) (c : Nat) : Side := d.set (F.VEC_STATUS_LA_FILL c) (d.laFill c)

/-- A vector of a head from a point in its field to a bed point. -/
def Side.mkVecAt (d : Side) (c : Nat) (f0 : Int × Int × Int) (mark : Bool) (b0 b1 : Int × Int × Int) (vnom : Nat) : Vec :=
  let f1 := d.toField c b1
  { vid := 0, mark := mark, lon := 0, loff := 0, settle := 0, power := 0, origin := c, own := false, b0 := b0, b1 := b1,
    f0 := f0, f1 := f1, len := pathLen f0 f1, vnom := vnom, vlim := vnom * d.get F.PLN_SPEED_FACTOR / 65536 }

/-- The vector of a word on the head that runs it, from a point in its field (R253). -/
def Side.wordVecAt (d : Side) (run origin : Nat) (own : Bool) (f0 b0 : Int × Int × Int) (w : List Byte) : Vec :=
  let vmax := d.vecMax run
  let vnom := if wSpeed w = 0 then vmax else min (wSpeed w) vmax
  { d.mkVecAt run f0 (wType w == 1) b0 (wEnd w) vnom with
    vid := wVid w, lon := byteAt w 5, loff := byteAt w 6, settle := byteAt w 7, power := leAt w 22 2, origin := origin, own := own }

/-- The same from the end of the head's running order. -/
def Side.wordVec (d : Side) (run origin : Nat) (own : Bool) (b0 : Int × Int × Int) (w : List Byte) : Vec :=
  d.wordVecAt run origin own (d.vecTail run) b0 w

/-- A vector joins the running order: behind those held back by a stop, or into the look-ahead, which is planned again. Into an empty
look-ahead it comes ready at once; a plate's first own vector was ready when its plate began on the channel (R268; log entry 163). -/
def Side.pushVec (p : Pkg) (c : Nat) (v : Vec) (d : Side) : Side :=
  let x := d.vehCh c
  if d.vecState c = 2 || d.vecState c = 3 then (d.setVeh c { x with held := x.held ++ [v] }).vecPost c
  else
    let x1 := if x.q.isEmpty && !(v.own && x.prev.isNone) then { x with ready := max x.ready (d.vnow c (d.dev p)) } else x
    (d.setVeh c { x1 with q := d.replan c (x1.q ++ [v]) }).vecPost c

/-- The bridge before a MARK that does not start where the running order ends (R276). -/
def Side.bridge (d : Side) (c : Nat) (start : Int × Int × Int) : Vec :=
  { d.mkVecAt c (d.vecTail c) false (d.bedTail c) start (d.vecMax c) with settle := d.get F.STI_CFG_BRIDGE_SETTLE }

/-- A failed word: recorded, and the plate spoiled with BLOCK_ERR (R249). -/
def Side.wordFail (p : Pkg) (c r reason vid : Nat) (d : Side) : Side :=
  let d1 := (d.set (F.VEC_WORD_ERR_REASON c) reason).set (F.VEC_ERR_VID_VID c) vid
  let d2 := d1.faultD p (srcVec c) (F.VEC_STATUS_WORD_ERR c) reason vid
  if d2.pln.causes.contains (r, 3) then d2 else d2.spoilCause p r 3

/-- A word enters a head's look-ahead, preceded by a bridge where R276 asks for one; false: only the bridge entered. A JUMP starts where
the running order ends. -/
def Side.enterWord (p : Pkg) (c r origin : Nat) (own prevOk : Bool) (b0 : Option (Int × Int × Int)) (w : List Byte) (d : Side) :
    Side × Bool :=
  let tail := d.vecTail c
  let start := (b0.map (d.toField c)).getD tail
  if wType w = 1 && start ≠ tail then
    (d.pushVec p c (d.bridge c (b0.getD (d.bedTail c))), false)
  else
    match d.wordReason p c origin prevOk tail w with
    | some k => (d.wordFail p c r k (wVid w), true)
    | none => (d.pushVec p c (d.wordVec c origin own (if wType w = 1 then b0.getD (d.bedTail c) else d.bedTail c) w), true)

/-- The next word of a channel's own stream, if it is in the buffer. -/
def Side.nextWord (d : Side) (r c : Nat) : Option (List Byte) :=
  let l := (d.visible r c).take 32
  if l.length = 32 then some l else none

/-- A word leaves its stream: what follows it starts at its end; the plate's last one is taken (R159). -/
def Side.wordTaken (r c : Nat) (w : List Byte) (d : Side) : Side :=
  let x := d.vehCh c
  let d1 := (d.takeStream r c 32).setVeh c { x with prev := some (wEnd w), prevOk := wType w == 0 || wMig w, kept := false }
  if d1.recWhole r c && d1.recFill r c < 32 && !(d1.recd r).taken.contains c then d1.chanTaken r c else d1

/-- Every word of the plate's own stream has been taken. -/
def Side.vecStreamDone (d : Side) (r c : Nat) : Bool := d.recWhole r c && decide (d.recFill r c < 32)

/-- Own words taken, and the sum of their rest-to-rest durations (R278). -/
def Side.countWord (c : Nat) (v : Vec) (d : Side) : Side :=
  let x := d.vehCh c
  d.setVeh c { x with words := x.words + 1,
                      durSum := x.durSum + restTime v.len (speedU v.vlim) (d.vecA c) + (v.loff * d.fineNs : Nat) }

/-- An own word enters its origin's look-ahead; behind its bridge it is the next to enter (R276). -/
def Side.enterOwn (p : Pkg) (c r : Nat) (w : List Byte) (d : Side) : Side :=
  let x := d.vehCh c
  let v := d.wordVec c c true (x.prev.getD (d.bedTail c)) w
  match d.enterWord p c r c true x.prevOk x.prev w with
  | (d1, true) => (d1.wordTaken r c w).countWord c v
  | (d1, false) => d1.setVeh c { d1.vehCh c with kept := true }

/-- The word waits for a decision of the arbiter (R274). -/
def Side.wordWaits (p : Pkg) (d : Side) (c : Nat) (w : List Byte) : Bool :=
  d.arbOn && wMig w && !(d.vehCh c).kept && !d.flag F.STI_STATUS_LOG_FULL &&
  !(2 ≤ wType w || byteAt w 4 / 8 ≠ 0 || (firstNonZero w 26 6).isSome) && !(20000 < wSpeed w || (wType w = 1 && wSpeed w = 0)) &&
  !d.migBad p c (d.vehCh c).prevOk w

/-- The inbox fill of a channel in STI_INBOX. -/
def Side.inboxPost (d : Side) (c : Nat) : Side :=
  let n := (d.vehCh c).inbox.length
  let f := if c < 8 then F.STI_INBOX_LO_FILL else F.STI_INBOX_HI_FILL
  d.set ⟨f.off, 4 * (c % 8), 4⟩ n

/-- The last boundary of the last window, the last end and its SETTLE have passed, and nothing is left to run (R268). -/
def Side.vecIdle (d : Side) (c : Nat) (dev : Nat) : Bool :=
  let x := d.vehCh c
  x.q.isEmpty && x.held.isEmpty && x.inbox.isEmpty && x.coast.isNone && decide (x.ready ≤ (d.vnow c dev : Rat)) &&
  x.wins.all fun w => w.off ≤ d.vnow c dev

/-- The channel has finished record r: it is past it, or idle at its end. -/
def Side.vectorLeft (p : Pkg) (d : Side) (r c : Nat) : Bool :=
  let x := d.vehCh c
  (d.recd r).left.contains c || (x.pl == some r && d.vecStreamDone r c && d.vecIdle c (d.dev p))

/-- A channel that has finished its plate goes on to the next one, from the later of that instant and its start edge
(R268). -/
def Side.vecSwitch (p : Pkg) (c : Nat) (d : Side) : Side :=
  let x := d.vehCh c
  let past := match x.pl with
    | none => x.q.isEmpty && x.coast.isNone
    | some r => d.vectorLeft p r c
  match x.next with
  | [] => d
  | (r, e) :: rest =>
    if !past then d
    else
      let fin := x.wins.foldl (fun m w => max m (w.off : Rat)) x.ready
      let d1 := match x.pl with
        | some o => d.chanLeft o c
        | none => d
      let y := { x with pl := some r, edge := e, next := rest, ready := max fin (d.vnow c e), prev := none, prevOk := false, kept := false, bedEnd := none,
                        words := 0, durSum := 0, wins := [] }
      (d1.setVeh c y).set (F.VEC_STATUS_STATE c) 1

/-- The head of a channel's inbox enters, or its bridge. -/
def Side.enterInbox (p : Pkg) (c : Nat) (i : Inb) (rest : List Inb) (d : Side) : Side :=
  match d.enterWord p c i.pl i.origin false true (some i.start) i.word with
  | (d1, true) => (d1.setVeh c { d1.vehCh c with inbox := rest }).inboxPost c
  | (d1, false) => d1

/-- The next word of the channel's own stream enters, if it does not wait for the arbiter; one that the arbiter cannot record is
counted (R297). -/
def Side.enterNext (p : Pkg) (c r : Nat) (d : Side) : Side :=
  match d.nextWord r c with
  | none => d
  | some w =>
    if d.wordWaits p c w then d
    else
      let d1 := d.enterOwn p c r w
      if d.arbOn && wMig w && !(d.vehCh c).kept && d.flag F.STI_STATUS_LOG_FULL then d1.inc F.STI_UNLOGGED_COUNT 1 else d1

/-- LOOKAHEAD_ENTRY: one vector enters a free place: an own word whose bridge has entered or that the arbiter has left here, else the
head of the inbox, else the next own word (R275). The inbox waits while the channel is STOPPING or STOPPED (R284). -/
def Side.lookahead (p : Pkg) (c : Nat) (d0 : Side) : Side :=
  let d := d0.vecSwitch p c
  let x := d.vehCh c
  match x.pl with
  | none => d
  | some r =>
    if !d.recRunning r || 32 ≤ d.laFill c || x.coast.isSome && d.vecState c = 1 then d
    else match x.kept, x.inbox with
      | false, i :: rest => if d.vecState c = 2 || d.vecState c = 3 then d else d.enterInbox p c i rest
      | _, _ => d.enterNext p c r

def execLookaheadEntry (c : Nat) (s : State) : Host.Outcome State Fault Refusal :=
  if c < s.pkg.beams then .next (s.both (Side.grouped 5 fun p d => d.lookahead p c)) else .next s

/-- VECTOR_BEGIN: the first vector begins at its exact instant; vector k + 31 is needed there (R251, R256). -/
def Side.vectorBegin (p : Pkg) (c : Nat) (d : Side) : Side :=
  let x := d.vehCh c
  match x.q, x.begun with
  | v :: _, none =>
    if (d.vnow c (d.dev p) : Rat) < x.ready || d.vecState c = 3 then d
    else
      let d1 := (d.setVeh c { x with begun := some x.ready }).set (F.VEC_VID_VID c) v.vid
      match x.pl with
      | none => d1
      | some r =>
        let have_ := d.laFill c + x.inbox.length + d.recFill r c / 32
        if have_ < 32 && !d.recWhole r c && d.recState r = 3 then d1.dataLate p r else d1
  | _, _ => d

def execVectorBegin (c : Nat) (t : Nat) (s : State) : Host.Outcome State Fault Refusal :=
  if c < s.pkg.beams then .next ((s.advance t).both (Side.grouped 5 fun p d => d.vectorBegin p c)) else .next s

/-- What follows the last vector of a stop or of a spoiled plate: an overshoot if it exits moving (R265, R267). -/
def Side.vecRest (c : Nat) (v : Vec) (e : Rat) (back : Bool) (d : Side) : Side :=
  let x := d.vehCh c
  if v.w1 = 0 || v.len = 0 then
    if d.vecState c = 2 then d.set (F.VEC_STATUS_STATE c) 3 else d
  else
    let ux := ((v.f1.1 - v.f0.1 : Int) : Rat) / v.len
    let uy := ((v.f1.2.1 - v.f0.2.1 : Int) : Rat) / v.len
    d.setVeh c { x with coast := some ⟨e, v.f1.1, v.f1.2.1, ux, uy, sqrtR v.w1, back⟩, bedEnd := if back then x.bedEnd else none }

/-- VECTOR_END: the first vector ends at its exact instant (R256). -/
def Side.vectorEnd (p : Pkg) (c : Nat) (d : Side) : Side :=
  let x := d.vehCh c
  match x.q, x.begun with
  | v :: rest, some b =>
    let e := b + (d.vecProf c v).time
    if (d.vnow c (d.dev p) : Rat) < e then d
    else
      let wins := if v.mark then d.vecWin v b e :: x.wins else x.wins
      let y := { x with q := rest, begun := none, ready := e + (v.settle * d.fineNs : Nat), x := v.f1.1, y := v.f1.2.1,
                        z := v.f1.2.2, bed := (v.b1.1, v.b1.2.1), bedEnd := some v.b1, wins := wins }
      let d1 := ((d.setVeh c y).inc (F.VEC_VDONE_COUNT c) 1).vecPost c
      if rest.isEmpty && d.vecState c = 2 then d1.vecRest c v e x.pl.isSome
      else if x.pl.isNone then d1.vecRest c v e false
      else d1
  | _, _ => d

def execVectorEnd (c : Nat) (t : Nat) (s : State) : Host.Outcome State Fault Refusal :=
  if c < s.pkg.beams then .next ((s.advance t).both (Side.grouped 5 fun p d => d.vectorEnd p c)) else .next s

/-! Stops, resumes, spoils (R265 to R267). -/

/-- The look-ahead split behind the vector that holds an instant. -/
def stopSplit (t : Rat) : List (Vec × Rat × Rat) → List Vec × List Vec
  | [] => ([], [])
  | e :: r =>
    match r with
    | [] => ([e.1], [])
    | f :: _ => if t ≤ f.2.1 then ([e.1], r.map (·.1)) else (e.1 :: (stopSplit t r).1, (stopSplit t r).2)

/-- A stop cause at a control tick edge: the vector that holds the next boundary is the last (R265). -/
def Side.vecStop (p : Pkg) (c : Nat) (d : Side) : Side :=
  let x := d.vehCh c
  let next : Rat := (d.vnow c (d.dev p) + (d.fineNs : Nat) : Int)
  let pl := d.vecPlan c
  let begins := match pl with
    | e :: _ => decide (e.2.1 < next)
    | [] => false
  let sp := if begins then stopSplit next pl else ([], x.q)
  let d1 := (d.setVeh c { x with q := sp.1, held := sp.2 }).inc (F.VEC_STOPS_COUNT c) 1
  let d2 := (d1.set (F.VEC_STATUS_STATE c) (if sp.1.isEmpty then 3 else 2)).fault p (srcVec c) (F.VEC_STATUS_STOP_SEEN c)
  d2

/-- The causes of a channel at an edge: a REROLL stop of the plate it writes, and a throttle request that reaches it (R265). A plate that
is ENDING holds all its words, so its REROLL stop has ended (R252, R266). -/
def Side.vecCauses (p : Pkg) (thr : Bool) (d : Side) (c : Nat) : Side :=
  let x := d.vehCh c
  let rr := match x.pl with
    | some r => d.recState r == 3 && d.get (F.PLN_PLATE_STATE_LATE_MODE r) == 2
    | none => false
  let th := match x.pl with
    | some r => thr && d.recRunning r && mPolicy (d.mdat r) == 2
    | none => false
  let d1 := (d.set (F.VEC_STATUS_STOP_RR c) (b2n rr)).set (F.VEC_STATUS_STOP_THR c) (b2n th)
  if (rr || th) && x.pl.isSome && d.vecState c = 1 then d1.vecStop p c
  else if !rr && !th && d.vecState c = 3 then d1.setVeh c { x with resume := true }
  else d1

/-- The channels with a vector plate. -/
def Side.vecChans (p : Pkg) (d : Side) : List Nat :=
  (List.range p.beams).filter fun c => let x := d.vehCh c
    x.pl.isSome || !x.next.isEmpty || !x.q.isEmpty || x.coast.isSome || !x.wins.isEmpty

def Side.vecEdge (p : Pkg) (thr : Bool) (d : Side) : Side := (d.vecChans p).foldl (Side.vecCauses p thr) d

/-- A resume at the first fine-tick boundary after the edge: the vectors held run on from rest (R266). -/
def Side.vecResume (p : Pkg) (c : Nat) (d : Side) : Side :=
  let x := d.vehCh c
  if !x.resume || d.tim.fine = 0 then d
  else
    let q := match x.held with
      | [] => []
      | v :: r => { v with w0 := 0 } :: r
    ((d.setVeh c { x with q := d.replan c q, held := [], resume := false, ready := d.vnow c (d.dev p) }).set
      (F.VEC_STATUS_STATE c) 1).vecPost c

/-- A vector plate starts on its channels (R268). -/
def Side.vectorStart (r edge : Nat) (d : Side) : Side :=
  if mKind (d.mdat r) ≠ 1 then d
  else (mChans (d.mdat r)).foldl (fun d c =>
    let x := d.vehCh c
    d.setVeh c { x with next := x.next ++ [(r, edge)] }) d

/-- No stop holds on a channel. -/
def Side.vecFree (c : Nat) (d : Side) : Side :=
  ((d.set (F.VEC_STATUS_STATE c) 0).set (F.VEC_STATUS_STOP_RR c) 0).set (F.VEC_STATUS_STOP_THR c) 0

/-- A spoiled plate leaves a channel at the spoil edge: its windows close from the next boundary, the vector in progress runs on with the
laser off to an overshoot, nothing of the look-ahead and of the plate's inbox is left (R267, R284). -/
def Side.vecSpoil (p : Pkg) (c r : Nat) (d : Side) : Side :=
  let x := d.vehCh c
  let x0 := { x with next := x.next.filter (fun e => e.1 != r), inbox := x.inbox.filter fun i => i.pl != r }
  if x.pl ≠ some r then (d.setVeh c x0).inboxPost c
  else
    let now := d.vnow c (d.dev p)
    let q := match x.q, x.begun with
      | v :: _, some _ => [{ v with mark := false }]
      | _, _ => []
    let wins := (d.vecWins c).map fun w => { w with off := min w.off now }
    let co := x.coast.map (d.coastEnd c now)
    let y := { x0 with pl := none, q := q, held := [], wins := wins, resume := false, kept := false, coast := co,
                       bedEnd := if co.isSome then none else x.bedEnd }
    (((d.setVeh c y).vecFree c).vecPost c).inboxPost c

def Side.vectorSpoil (p : Pkg) (r : Nat) (d : Side) : Side := (List.range p.beams).foldl (fun d c => d.vecSpoil p c r) d

/-- A done plate leaves its channels. -/
def Side.vectorDone (p : Pkg) (r : Nat) (d : Side) : Side :=
  (List.range p.beams).foldl (fun d c =>
    let x := d.vehCh c
    if x.pl = some r then (d.setVeh c { x with pl := none, wins := [] }).vecFree c else d) d

/-- A step of device time moves every instant a channel holds (R33). -/
def Side.vecJump (j : Int) (d : Side) : Side :=
  { d with veh := d.veh.map fun e =>
      (e.1, { e.2 with ready := e.2.ready + j, begun := e.2.begun.map (· + j), coast := e.2.coast.map fun k => { k with t0 := k.t0 + j },
                       wins := e.2.wins.map fun w => { w with on := w.on + j, off := w.off + j } }) }

/-! Grids (R258, R263). -/

/-- Entry (q, r) of a grid: component k of DX, DY, DZ; every entry of a head without a grid is 0. -/
def gridAt (g : List Byte) (q r k : Nat) : Int := toSigned 16 (leAt g (8 * (129 * r + q) + 2 * k) 2)

/-- The correction of component k at a setpoint (R258). -/
def Side.gridFix (d : Side) (c : Nat) (x y : Int) (k : Nat) : Int :=
  let h := d.vecHalf c
  let pg : Int := ((4 * d.get (F.VEC_FIELD_HALF_UM c) : Nat) : Int)
  if pg = 0 then 0
  else
    let q := (clampI 0 127 (Int.fdiv (x + h) pg)).toNat
    let r := (clampI 0 127 (Int.fdiv (y + h) pg)).toNat
    let a := x + h - q * pg
    let b := y + h - r * pg
    let g := (d.vehCh c).grid
    Int.fdiv (16 * ((pg - a) * (pg - b) * gridAt g q r k + a * (pg - b) * gridAt g (q + 1) r k +
      (pg - a) * b * gridAt g q (r + 1) k + a * b * gridAt g (q + 1) (r + 1) k)) (pg * pg)

/-- The first bad field of VEC_GRID_LOAD. -/
def gridLoadBad (b : List Byte) : Option Nat :=
  if byteAt b 4 / 16 ≠ 0 then some 4
  else match firstNonZero b 5 3 with
    | some o => some o
    | none => if dFld b 8 8 % 8 ≠ 0 then some 8 else firstNonZero b 20 44

/-- An entry with a reserved byte that is not 0. -/
def gridBad : Nat → List Byte → Bool
  | 0, _ => false
  | n + 1, l => byteAt l 6 != 0 || byteAt l 7 != 0 || gridBad n (l.drop 8)

/-- VEC_GRID_LOAD (R263); herr is the address at which the host read failed, if it did. -/
def Side.vecGridLoad (p : Pkg) (n : Nat) (herr : Option Nat) (d : Side) : Side :=
  match d.nextHost p n 0x74 with
  | none => d
  | some x =>
    let b := x.bytes
    let c := byteAt b 4 % 16
    let img := memRead p.host (dFld b 8 8) 133128
    match gridLoadBad b, herr with
    | some o, _ => d.startDone n (badField o)
    | none, some a => d.startDone n (hostFaultRes a)
    | none, none =>
      if !d.plateWindow then d.startDone n ⟨stREFUSED, 0, 1⟩
      else if p.beams ≤ c then d.startDone n ⟨stREFUSED, 0, 2⟩
      else if crc32c img ≠ dFld b 16 4 then d.startDone n ⟨stREFUSED, 0, 3⟩
      else if gridBad 16641 img then d.startDone n ⟨stREFUSED, 0, 4⟩
      else
        let d1 := d.setVeh c { d.vehCh c with grid := img }
        (((d1.set (F.VEC_GRID_CRC_CRC c) (dFld b 16 4)).set (F.VEC_STATUS_GRID_VALID c) 1)).startDone n ⟨stSUCCESS, 0, 0⟩

def execVecGridLoad (n : Nat) (herr : Option Nat) (s : State) : Host.Outcome State Fault Refusal :=
  if n < 64 then .next (s.both fun p d => d.vecGridLoad p n herr) else .next s

/-- The vector plate check of R264: reason and channel of the first failure. -/
def Side.vectorCheck (d : Side) (mdat : List Byte) : Option (Nat × Nat) :=
  (mChans mdat).findSome? fun c =>
    if !d.flag (F.VEC_STATUS_GRID_VALID c) then some (1, c)
    else if d.get (F.VEC_ENC_SCALE_X_SCALE c) = 0 || d.get (F.VEC_ENC_SCALE_Y_SCALE c) = 0 then some (2, c)
    else none

/-! The setpoint of a boundary (R257 to R260). -/

/-- An overshoot or return that has come to rest. -/
def Side.vecSettle (c : Nat) (t : Int) (d : Side) : Side :=
  let x := d.vehCh c
  match x.coast with
  | none => d
  | some k =>
    let (t1, t2, _) := d.coastTimes c k
    if (t : Rat) < k.t0 + t1 + t2 then d
    else
      let q := d.coastAt c k t
      let y := { x with coast := none, x := q.1, y := q.2.1, ready := max x.ready (k.t0 + t1 + t2) }
      let d1 := d.setVeh c y
      if d.vecState c = 2 then d1.set (F.VEC_STATUS_STATE c) 3 else d1

/-- The windows that still count at a boundary; past them all, the one that closed last. -/
def liveWins (t : Int) (l : List LWin) : List LWin :=
  let live := l.filter fun w => decide (t ≤ w.off)
  if live.isEmpty then l.filter (fun w => l.all fun u => decide (u.off ≤ w.off)) |>.take 1 else live

/-- A channel with nothing to run has no instant to wait for: its clock follows the boundaries. -/
def Side.vecRestAt (c : Nat) (t : Int) (d : Side) : Side :=
  let x := d.vehCh c
  if x.pl.isNone && x.next.isEmpty && x.q.isEmpty && x.coast.isNone then d.setVeh c { x with ready := max x.ready t } else d

/-- The setpoint at boundary t: position, its correction, scanner counts; the focus setpoint. -/
def Side.vecSetpoint (c : Nat) (t : Int) (d : Side) : Side × Int :=
  let d1 := (d.vecSettle c t).vecRestAt c t
  let h := d1.headAt c t
  let x := h.x.floor
  let y := h.y.floor
  let nx := Int.fdiv ((x + d1.gridFix c x y 0) * toSigned 32 (d1.get (F.VEC_ENC_SCALE_X_SCALE c))) (2 ^ 32 : Nat)
  let ny := Int.fdiv ((y + d1.gridFix c x y 1) * toSigned 32 (d1.get (F.VEC_ENC_SCALE_Y_SCALE c))) (2 ^ 32 : Nat)
  let v := d1.vehCh c
  (d1.setVeh c { v with sx := x, sy := y, sz := h.z, bed := h.bed, nx := (nx :: v.nx).take 3, ny := (ny :: v.ny).take 3,
                        wins := liveWins t v.wins }, h.z + d1.gridFix c x y 2)

/-- The commanded acceleration: the second difference of the last three counts (R259). -/
def secondDiff (l : List Int) : Int :=
  match l with
  | [a, b, e] => a - 2 * b + e
  | _ => 0

end Sys2Proof.Machine
end

