-- ==== Sys2Proof/Machine/Telemetry.lean ====
section
/-! DEFINITION. Job telemetry (R295 to R299): records, the staging store, chunks, their encoding and sealing, and the
circular window in DRAM. -/

namespace Sys2Proof.Machine

/-- Chunks that are free (R297). -/
def Side.telFree (d : Side) : Nat := 32 - d.mpl.chunks.length

/-- The open chunk of a job. -/
def Side.telOpen (d : Side) (job : Nat) : Option Chunk := d.mpl.chunks.find? fun x => x.job == job && !x.closed

/-- Records the store can still take of a job. -/
def Side.telRoom (d : Side) (job : Nat) : Nat :=
  2048 * d.telFree + (match d.telOpen job with
    | some x => 2048 - x.recs.length
    | none => 0)

/-- What a record belongs to: JOB_ID, whether the job is encrypted, plate number. -/
structure TelJob where
  job : Nat
  enc : Bool
  plate : Nat
  deriving DecidableEq, Repr

def Side.telJob (d : Side) (r : Nat) : TelJob :=
  ⟨(d.recd r).jobId, d.flag (F.STR_JOB_STATE_ENC (d.recSlot r)), d.recPlate r⟩

/-- The header of a record (R295). -/
def telHead (type laser origin b23 vid stamp : Nat) : List Byte :=
  leBytes 1 type ++ leBytes 1 (laser % 16 + 16 * (origin % 16)) ++ leBytes 2 b23 ++ leBytes 4 vid ++ leBytes 8 stamp

/-- A record joins its job's open chunk or a new one; the chunk closes when full or after a last record (R298). A record
for which there is no room is lost, and so is one of a job whose telemetry has stopped (R130). -/
def Side.telAdd (t : TelJob) (now : Nat) (last : Bool) (rec_ : List Byte) (d : Side) : Side :=
  let m := d.mpl
  if m.stopped.contains t.job then d else
  match d.telOpen t.job with
  | some _ =>
    let put (x : Chunk) : Chunk :=
      if x.job = t.job && !x.closed then
        { x with recs := x.recs ++ [rec_], closed := last || decide (2048 ≤ x.recs.length + 1) }
      else x
    { d with mpl := { m with chunks := m.chunks.map put } }
  | none =>
    if d.telFree = 0 then d
    else { d with mpl := { m with chunks := m.chunks ++ [⟨t.job, t.enc, t.plate, now, [rec_], last, none⟩] } }

/-- A SAMPLE record: dropped while fewer than two chunks are free; a LOSS record comes before the next one kept (R297). -/
def Side.telSample (p : Pkg) (t : TelJob) (rec_ : List Byte) (d : Side) : Side :=
  if d.telFree < 2 then
    let d1 := { d with mpl := { d.mpl with lost := d.mpl.lost + 1 } }
    (d1.inc F.MPL_TEL_LOST_COUNT 1).fault p 0x150 F.MPL_STATUS_TEL_DROP
  else
    let now := d.dev p
    let d1 := if d.mpl.lost = 0 then d
      else ({ d with mpl := { d.mpl with lost := 0 } }).telAdd t now false
        (telHead 5 0 0 0 0 now ++ leBytes 4 d.mpl.lost ++ leBytes 12 0)
    d1.telAdd t now false rec_

/-- A PLATE record: what is 0 at the start, 1 when done, 2 when spoiled with a reason (R295, R298). -/
def Side.telPlate (p : Pkg) (r what reason : Nat) (d : Side) : Side :=
  let t := d.telJob r
  d.telAdd t (d.dev p) (what != 0)
    (telHead 4 0 0 t.plate 0 (d.dev p) ++ leBytes 1 what ++ leBytes 1 reason ++ leBytes 6 0 ++ leBytes 8 t.job)

/-- CHUNK_TIMEOUT: 10 ms have passed since the first record of chunk k (R298). -/
def Side.chunkTimeout (p : Pkg) (k : Nat) (d : Side) : Side :=
  match d.mpl.chunks[k]? with
  | none => d
  | some x =>
    if x.closed || !reached (d.dev p) (x.at_ + 10000000) then d
    else { d with mpl := { d.mpl with chunks := d.mpl.chunks.set k { x with closed := true } } }

def execChunkTimeout (k : Nat) (t : Nat) (s : State) : Host.Outcome State Fault Refusal :=
  .next ((s.advance t).both fun p d => d.chunkTimeout p k)

/-- A job's telemetry key, present while its key is present and unlocked with POLICY.TELEM 1 (R440). -/
def Side.telKey (d : Side) (job : Nat) : Option Nat :=
  match d.keySlot job with
  | none => none
  | some k =>
    if d.keyLocked k || !d.flag (F.SEC_KEY_STATE_TELEM k) then none
    else some (leNat (hkdf384 (leBytes 32 (tget 0 d.sec.keys k)) (leBytes 8 job)
      ("EORRA-TELEM-1".toList.map fun c => BitVec.ofNat 8 c.toNat) 32))

/-- A chunk's records as a block, by MODE, PITCH and payload: MODE 0 with PITCH 32, or MODE 1, whose PITCH is 0, where there is no gain
(R120, R298). -/
def chunkClear (x : Chunk) : Nat × Nat × List Byte :=
  match compressPayload x.recs.flatten 32 with
  | some t => (0, 32, t)
  | none => (1, 0, x.recs.flatten)

/-- The sealed block of an encrypted job (R128, R130, R298): idx is its block index. -/
def chunkSealed (key idx : Nat) (x : Chunk) : List Byte :=
  let input := x.recs.flatten
  let (mode, pitch, payload) := chunkClear x
  let h := mkHeader mode true input.length pitch payload.length
  let size := 16 + payload.length + 4 + 16
  let aad := h ++ leBytes 4 (size + 2 ^ 24 * 0x80) ++ leBytes 2 x.plate ++ leBytes 2 0xFF
  let s := gcmSeal (leBytes 32 key) (blockIv x.job idx) aad (payload ++ leBytes 4 (crc32c input))
  h ++ s.1 ++ s.2

/-- The chunk at a place leaves the store. -/
def Side.chunkDrop (k : Nat) (d : Side) : Side := { d with mpl := { d.mpl with chunks := d.mpl.chunks.eraseIdx k } }

/-- A job's telemetry stops: the chunks it has not encoded are given up (R130). -/
def Side.telStop (job : Nat) (d : Side) : Side :=
  { d with mpl := { d.mpl with stopped := d.mpl.stopped ++ [job], chunks := d.mpl.chunks.filter fun x => x.job != job || x.block.isSome } }

def Side.chunkBlock (k : Nat) (x : Chunk) (b : List Byte) (d : Side) : Side :=
  { d with mpl := { d.mpl with chunks := d.mpl.chunks.set k { x with block := some b } } }

/-- TELEMETRY_ENCODE: idle compress engine e encodes the oldest closed chunk (R298); a job whose key is absent loses it; a
job that has used its last block index is stopped (R130). -/
def Side.telEncode (p : Pkg) (e : Nat) (d : Side) : Side :=
  match d.mpl.chunks.findIdx? (fun x => x.closed && x.block.isNone) with
  | none => d
  | some k =>
    if !d.groupOn 2 || d.cmpWork e != .idle then d
    else
      let x := d.mpl.chunks.getD k default
      if !x.enc then
        d.chunkBlock k x (mkBlock (chunkClear x).1 x.recs.flatten (chunkClear x).2.1 (chunkClear x).2.2)
      else match d.telKey x.job with
        | none => ((d.chunkDrop k).inc F.MPL_TEL_LOST_COUNT x.recs.length).fault p 0x150 F.MPL_STATUS_TEL_KEY
        | some key =>
          let idx := tget 0x80000000 d.mpl.ivs x.job
          if 0xFFFFFFFF < idx then (d.telStop x.job).fault p 0x150 F.MPL_STATUS_TEL_EXHAUSTED
          else
            let d1 := { d with mpl := { d.mpl with ivs := tset d.mpl.ivs x.job (idx + 1) } }
            d1.chunkBlock k x (chunkSealed key idx x)

def execTelemetryEncode (k : Nat) (s : State) : Host.Outcome State Fault Refusal :=
  if k < 2 then .next (s.both fun p d => d.telEncode p k) else .next s

/-- Bytes written to the circular window from a count up (R299). -/
def Side.winWrite (base size : Nat) : Nat → List Byte → Side → Side
  | _, [], d => d
  | w, b :: t, d => Side.winWrite base size (w + 1) t (d.dramWrite (base + w % size) [b])

/-- TELEMETRY_BLOCK_WRITE: the oldest encoded block is written if the window has room for it; WR moves on and TEL_BLOCK posts
(R299, R476). -/
def Side.telWrite (p : Pkg) (d : Side) : Side :=
  match d.mpl.chunks.findIdx? (fun x => x.block.isSome) with
  | none => d
  | some k =>
    let b := ((d.mpl.chunks.getD k default).block).getD []
    let s := 16 * ceilDiv b.length 16
    let size := d.get F.MPL_TEL_SIZE_SIZE
    let wr := d.get64 F.MPL_TEL_WR_LO_COUNT F.MPL_TEL_WR_HI_COUNT
    let rd := d.get64 F.MPL_TEL_RD_LO_COUNT F.MPL_TEL_RD_HI_COUNT
    if size = 0 || size < wr + s - rd then d
    else
      let base := d.get64 F.MPL_TEL_BASE_LO_BASE F.MPL_TEL_BASE_HI_BASE
      let d1 := Side.winWrite base size wr b (d.chunkDrop k)
      (d1.set64 F.MPL_TEL_WR_LO_COUNT F.MPL_TEL_WR_HI_COUNT (wr + s)).notice p 0x150 8 s wr

def execTelemetryBlockWrite (s : State) : Host.Outcome State Fault Refusal := .next (s.both Side.telWrite)

/-- TEL_RD_WRITE: a half of RD written; a value above WR or below the current RD is refused (R299). -/
def Side.telRdWrite (p : Pkg) (hi : Bool) (v : Nat) (d : Side) : Side :=
  let rd := d.get64 F.MPL_TEL_RD_LO_COUNT F.MPL_TEL_RD_HI_COUNT
  let new := if hi then rd % 2 ^ 32 + 2 ^ 32 * v else rd / 2 ^ 32 * 2 ^ 32 + v
  if new < rd || d.get64 F.MPL_TEL_WR_LO_COUNT F.MPL_TEL_WR_HI_COUNT < new then d.fault p 0x150 F.MPL_STATUS_WINDOW_VIOL
  else d.set64 F.MPL_TEL_RD_LO_COUNT F.MPL_TEL_RD_HI_COUNT new

def execTelRdWrite (hi : Bool) (v : Word) (s : State) : Host.Outcome State Fault Refusal :=
  .next (s.asWrite true (if hi then F.MPL_TEL_RD_HI_COUNT.off else F.MPL_TEL_RD_LO_COUNT.off) v.toNat (s.both fun p d => d.telRdWrite p hi v.toNat))

end Sys2Proof.Machine
end

