-- ==== Sys2Proof/Machine/Stitch.lean ====
section
/-! DEFINITION. The stitch arbiter (R271 to R284): zones, forecasts, the four rules, decisions and their records, and the
check of burning lasers at a boundary. -/

namespace Sys2Proof.Machine

def srcSti : Nat := 0x130

/-- LOG_FULL kept in step with the store: it holds while the store cannot take 16 more records (R297). -/
def Side.logFull (p : Pkg) (d : Side) : Side :=
  let full := match d.startedRec with
    | some r => decide (d.telRoom (d.telJob r).job < 16)
    | none => decide (2048 * d.telFree < 16)
  if full = d.flag F.STI_STATUS_LOG_FULL then d
  else (d.set F.STI_STATUS_LOG_FULL (b2n full)).faultIf p full srcSti F.STI_STATUS_LOG_FULL_SEEN

/-! Zones (R272). -/

def Side.zoneHas (d : Side) (z : Nat) (b : Int × Int × Int) : Bool :=
  decide (toSigned 32 (d.get (F.STI_ZONE_X0_COORD z)) ≤ b.1) && decide (b.1 ≤ toSigned 32 (d.get (F.STI_ZONE_X1_COORD z))) &&
  decide (toSigned 32 (d.get (F.STI_ZONE_Y0_COORD z)) ≤ b.2.1) && decide (b.2.1 ≤ toSigned 32 (d.get (F.STI_ZONE_Y1_COORD z)))

/-- The zone of a vector: the lowest that contains both its end points and names its origin. -/
def Side.zoneOf (d : Side) (origin : Nat) (b0 b1 : Int × Int × Int) : Option Nat :=
  (List.range 16).find? fun z => bit (d.get (F.STI_ZONE_MASK_MASK z)) origin && d.zoneHas z b0 && d.zoneHas z b1

/-! Forecasts (R277, R278). -/

/-- Duration of a rest-to-rest plan of a vector on a head, with its LOFF. -/
def Side.restPlan (d : Side) (c : Nat) (v : Vec) : Rat :=
  restTime v.len (speedU v.vlim) (d.vecA c) + (v.loff * d.fineNs : Nat)

/-- Vectors appended on rest-to-rest plans from an instant. -/
def Side.restTimes (d : Side) (c : Nat) : Rat → List Vec → List (Vec × Rat × Rat)
  | _, [] => []
  | b, v :: t =>
    let e := b + d.restPlan c v
    (v, b, e) :: d.restTimes c (e + (v.settle * d.fineNs : Nat)) t

/-- The inbox of a head as vectors. -/
def Side.inboxVecs (d : Side) (c : Nat) : List Vec :=
  ((d.vehCh c).inbox).map fun i => d.wordVecAt c i.origin false (d.toField c i.start) i.start i.word

/-- The vectors a channel holds that its current plan does not cover, rest-to-rest behind it: those held back by a stop and the inbox
(R277). -/
def Side.heldTimes (d : Side) (c : Nat) (now : Rat) : List (Vec × Rat × Rat) :=
  let x := d.vehCh c
  let first := match (d.vecPlan c).getLast? with
    | some e => e.2.2 + (e.1.settle * d.fineNs : Nat)
    | none => max x.ready now
  d.restTimes c first (x.held ++ d.inboxVecs c)

/-- Every vector a channel holds in running order, with begin and end: the look-ahead by its plan, the rest rest-to-rest. -/
def Side.holdings (d : Side) (c : Nat) (now : Rat) : List (Vec × Rat × Rat) := d.vecPlan c ++ d.heldTimes c now

/-- The same with the ends of their laser intervals: a planned vector's LOFF follows its end, a rest-to-rest plan includes it (R277). -/
def Side.litTimes (d : Side) (c : Nat) (now : Rat) : List (Vec × Rat × Rat) :=
  (d.vecPlan c).map (fun e => (e.1, e.2.1, e.2.2 + ((e.1.loff * d.fineNs : Nat) : Rat))) ++ d.heldTimes c now

/-- Where the running order of a channel ends, its inbox included. -/
def Side.runTail (d : Side) (c : Nat) : Int × Int × Int :=
  match (d.inboxVecs c).getLast? with
  | some v => v.f1
  | none => d.vecTail c

/-- The forecasts of a candidate: E, J, D and Φ. -/
structure Cast where
  e : Rat
  j : Rat
  dd : Rat
  phi : Rat
  deriving DecidableEq, Repr

/-- What a decision looks at: origin channel, word, start on the bed, decision time as a device time and as an instant of the channels,
record. -/
structure Due where
  c : Nat
  w : List Byte
  b0 : Int × Int × Int
  now : Nat
  at_ : Int
  r : Nat
  deriving DecidableEq, Repr

def Side.forecast (d : Side) (u : Due) (b : Nat) : Cast :=
  let e := match (d.holdings b u.at_).getLast? with
    | some h => h.2.2
    | none => (u.at_ : Rat)
  let start := d.toField b u.b0
  let v := d.wordVecAt b u.c (b == u.c) start u.b0 u.w
  let tail := d.runTail b
  let jump := d.mkVecAt b tail false u.b0 u.b0 (d.vecMax b)
  let j : Rat := if start = tail then 0 else d.restPlan b jump + (d.get F.STI_CFG_BRIDGE_SETTLE * d.fineNs : Nat)
  let dd := d.restPlan b v
  let m := d.mdat u.r
  let nw := mStream m b * mDuration m / 256000
  let x := d.vehCh b
  let taken := if b = u.c then x.words + 1 else x.words
  let mean : Rat := if x.words = 0 then (if nw = 0 then 0 else (mDuration m : Rat) / nw) else x.durSum / x.words
  ⟨e, j, dd, e + j + dd + ((nw - taken : Nat) : Rat) * mean⟩

/-! The rules (R279 to R281). -/

/-- The MARKs other channels hold whose intervals overlap a candidate's guarded interval. -/
def Side.rivals (p : Pkg) (d : Side) (u : Due) (b : Nat) (k : Cast) : List Vec :=
  let g : Rat := (1000 * d.get F.STI_TIMING_TGUARD_US : Nat)
  let lo := k.e + k.j - g
  let hi := k.e + k.j + k.dd + g
  ((List.range p.beams).filter fun c => c != b).flatMap fun c =>
    ((d.litTimes c u.at_).filter fun h => h.1.mark && decide (h.2.1 ≤ hi) && decide (lo ≤ h.2.2)).map (·.1)

/-- Squared distance of a point from a segment in X and Y. -/
def ptSeg2 (q a b : Int × Int × Int) : Rat :=
  let dx := b.1 - a.1
  let dy := b.2.1 - a.2.1
  let px := q.1 - a.1
  let py := q.2.1 - a.2.1
  let l2 := dx * dx + dy * dy
  let k := px * dx + py * dy
  if l2 = 0 || k ≤ 0 then ((px * px + py * py : Int) : Rat)
  else if l2 ≤ k then (((px - dx) * (px - dx) + (py - dy) * (py - dy) : Int) : Rat)
  else (((px * dy - py * dx) * (px * dy - py * dx) : Int) : Rat) / (l2 : Int)

/-- The sign of the turn from a to b to q. -/
def turn (a b q : Int × Int × Int) : Int := (b.1 - a.1) * (q.2.1 - a.2.1) - (b.2.1 - a.2.1) * (q.1 - a.1)

/-- Squared distance of two segments: 0 where they cross. -/
def segSeg2 (a b e f : Int × Int × Int) : Rat :=
  let cross := ((0 < turn a b e && turn a b f < 0) || (turn a b e < 0 && 0 < turn a b f)) &&
    ((0 < turn e f a && turn e f b < 0) || (turn e f a < 0 && 0 < turn e f b))
  if cross then 0 else min (min (ptSeg2 a e f) (ptSeg2 b e f)) (min (ptSeg2 e a b) (ptSeg2 f a b))

/-- A distance in bed units, squared, in whole µm (R279). -/
def um2 (q : Rat) : Nat := isqrt (q / 65536).floor.toNat

/-- A point lies in the downwind cone of an apex (R280). -/
def Side.inCone (d : Side) (apex q : Int × Int) : Bool :=
  let dx := q.1 - apex.1
  let dy := q.2 - apex.2
  let gx := toSigned 16 (d.get F.STI_GAS_GX)
  let gy := toSigned 16 (d.get F.STI_GAS_GY)
  let dot := dx * gx + dy * gy
  let cr := dx * gy - dy * gx
  decide (0 < dot) && decide (dot ≤ ((d.get F.STI_CONE_LEN_MM * 256000 * 32768 : Nat) : Int)) &&
  decide (((cr.natAbs * 65536 : Nat) : Int) ≤ dot * (d.get F.STI_CONE_TAN : Int))

def bedXY (b : Int × Int × Int) : Int × Int := (b.1, b.2.1)

/-- End points of two vectors lie in each other's cones. -/
def Side.coneHit (d : Side) (a0 a1 b0 b1 : Int × Int × Int) : Bool :=
  let a := [bedXY a0, bedXY a1]
  let b := [bedXY b0, bedXY b1]
  a.any fun x => b.any fun y => d.inCone x y || d.inCone y x

/-- The largest heat of a vector's start, midpoint and end (R281). -/
def Side.hotOf (d : Side) (u : Due) : Nat :=
  let e := wEnd u.w
  let h (x y : Int) : Nat := d.heatOf u.now x y
  max (h u.b0.1 u.b0.2.1) (max (h (Int.fdiv (u.b0.1 + e.1) 2) (Int.fdiv (u.b0.2.1 + e.2.1) 2)) (h e.1 e.2.1))

/-- The exclusion code of channel b of the zone, 6 where it passes every check (R273). -/
def Side.exclude (p : Pkg) (d : Side) (u : Due) (b : Nat) : Nat :=
  let x := d.vehCh b
  let own := b == u.c
  let e := wEnd u.w
  if !own && !bit (wCand u.w) b then 0
  else if !own && !(d.inField b (d.toField b u.b0) && d.inField b (d.toField b e)) then 1
  else if !own && (mStream (d.mdat u.r) b == 0 || d.vecState b == 2 || d.vecState b == 3 ||
      d.flag (F.VEC_STATUS_STOP_RR b) || d.flag (F.VEC_STATUS_STOP_THR b) || decide (8 ≤ x.inbox.length)) then 2
  else
    let k := d.forecast u b
    let ws := d.rivals p u b k
    if ws.any fun v => decide (um2 (segSeg2 u.b0 e v.b0 v.b1) < d.get F.STI_SEP_UM) then 3
    else if d.get F.STI_CONE_LEN_MM ≠ 0 && ws.any (fun v => d.coneHit u.b0 e v.b0 v.b1) then 4
    else if d.get F.STI_HEAT_HI ≠ 0 && d.get F.STI_HEAT_HI ≤ d.hotOf u &&
        k.e + k.j < (u.at_ : Rat) + (10000 * d.get F.STI_HEAT_COOL_10US : Nat) then 5
    else 6

/-- The channel with the least Φ among some, ties to the lowest. -/
def Side.least (d : Side) (u : Due) : List Nat → Option Nat
  | [] => none
  | b :: t =>
    match d.least u t with
    | none => some b
    | some a => if (d.forecast u a).phi < (d.forecast u b).phi then some a else some b

/-- The choice of R282: channel and outcome, 0 KEPT, 1 MIGRATED, 2 FORCED. -/
def Side.choose (d : Side) (u : Due) (pass : List Nat) : Nat × Nat :=
  let others := pass.filter fun b => b != u.c
  if pass.contains u.c then
    let gain : Rat := (1000 * d.get F.STI_TIMING_GAIN_US : Nat)
    let ok := others.filter fun b => (d.forecast u b).phi + gain ≤ (d.forecast u u.c).phi
    match d.least u ok with
    | some b => (b, 1)
    | none => (u.c, 0)
  else match d.least u others with
    | some b => (b, 1)
    | none => (u.c, 2)

/-- Φ in plate µs, its low 32 bits. -/
def Side.phiUs (d : Side) (u : Due) (b : Nat) : Nat :=
  ofSigned 32 (((d.forecast u b).phi - d.vnow u.c (d.vehCh u.c).edge) / 1000).floor

/-- The ASSIGN record of a decision (R295): outcome, chosen channel, exclusion codes. -/
def Side.assignRec (d : Side) (u : Due) (b outcome excl : Nat) : List Byte :=
  telHead 2 b u.c outcome (wVid u.w) u.now ++ leBytes 8 excl ++ leBytes 4 (d.phiUs u b) ++ leBytes 4 (d.phiUs u u.c)

/-- The word goes to a channel: into its origin's look-ahead at once, behind its bridge where it needs one, or to the tail of an inbox
(R275, R276). -/
def Side.assign (p : Pkg) (u : Due) (b : Nat) (d : Side) : Side :=
  if b = u.c then
    let d1 := (d.setVeh b { d.vehCh b with kept := true }).enterOwn p u.c u.r u.w
    if (d1.vehCh b).kept && d1.laFill b < 32 then d1.enterOwn p u.c u.r u.w else d1
  else
    let x := d.vehCh b
    let v := d.wordVecAt u.c u.c true (d.toField u.c u.b0) u.b0 u.w
    let d1 := (d.setVeh b { x with inbox := x.inbox ++ [⟨u.r, u.c, u.b0, u.w⟩] }).inboxPost b
    (d1.wordTaken u.r u.c u.w).countWord u.c v

/-- The decision on a due word. -/
def Side.decide_ (p : Pkg) (u : Due) (d : Side) : Side :=
  let t := d.telJob u.r
  match d.zoneOf u.c u.b0 (wEnd u.w) with
  | none => (d.telAdd t u.now false (d.assignRec u u.c 3 0)).assign p u u.c
  | some z =>
    let zone := (List.range p.beams).filter fun b => bit (d.get (F.STI_ZONE_MASK_MASK z)) b
    let codes := zone.map fun b => (b, d.exclude p u b)
    let (b, outcome) := d.choose u ((codes.filter fun e => e.2 == 6).map (·.1))
    let excl := (codes.map fun e => (if e.1 = b && e.2 = 6 then 7 else e.2) * 16 ^ e.1).sum
    let d1 := (d.telAdd t u.now false (d.assignRec u b outcome excl)).inc F.STI_DECISIONS_COUNT 1
    (if outcome = 1 then d1.inc F.STI_MIGRATED_COUNT 1 else d1).assign p u b

/-- The lowest channel whose next word is due for a decision (R274). -/
def Side.arbDue (p : Pkg) (d : Side) : Option Due :=
  match d.startedRec with
  | none => none
  | some r =>
    (List.range p.beams).findSome? fun c =>
      let x := d.vehCh c
      if x.pl ≠ some r || x.kept || 32 ≤ d.laFill c then none
      else match d.nextWord r c with
        | none => none
        | some w =>
          if d.wordWaits p c w then some ⟨c, w, x.prev.getD (d.bedTail c), d.dev p, d.vnow c (d.dev p), r⟩ else none

/-- ARBITER_DECISION. -/
def Side.arbiter (p : Pkg) (d0 : Side) : Side :=
  let d := d0.logFull p
  match d.arbDue p with
  | none => d
  | some u => d.decide_ p u

def execArbiterDecision (s : State) : Host.Outcome State Fault Refusal := .next (s.both (Side.grouped 6 Side.arbiter))

/-! Burning lasers (R283). -/

/-- A laser that burns at a boundary: channel, VID, origin, bed position. -/
structure Burn where
  c : Nat
  vid : Nat
  origin : Nat
  bed : Int × Int
  deriving DecidableEq, Repr

def bedDist2 (a b : Int × Int) : Rat :=
  let x := a.1 - b.1
  let y := a.2 - b.2
  ((x * x + y * y : Int) : Rat)

/-- One pair at a boundary: a new breach is counted, posted and recorded. -/
def Side.breachPair (p : Pkg) (a b : Burn) (d : Side) : Side :=
  let um := um2 (bedDist2 a.bed b.bed)
  let near := bedDist2 a.bed b.bed < ((256 * d.get F.STI_SEP_UM) ^ 2 : Nat)
  let cone := d.get F.STI_CONE_LEN_MM ≠ 0 && (d.inCone a.bed b.bed || d.inCone b.bed a.bed)
  if !(near || cone) || d.mpl.breach.contains (a.vid, b.vid) then d
  else
    let d1 := { d with mpl := { d.mpl with breach := (a.vid, b.vid) :: d.mpl.breach } }
    let d2 := (d1.inc F.STI_BREACHES_COUNT 1).fault p srcSti F.STI_STATUS_BREACH
    match d.startedRec with
    | some r =>
      if d.flag F.STI_STATUS_LOG_FULL then d2
      else d2.telAdd (d.telJob r) (d.dev p) false
        (telHead 3 a.c a.origin (b2n (!near) + 256 * b.c) a.vid (d.dev p) ++ leBytes 4 b.vid ++ leBytes 4 um ++ leBytes 8 0)
    | none => d2

/-- Every pair of burning lasers at a boundary, while the arbiter is in use. -/
def Side.breaches (p : Pkg) : List Burn → Side → Side
  | [], d => d
  | a :: t, d => Side.breaches p t (t.foldl (fun d b => if d.arbOn then d.breachPair p a b else d) d)

end Sys2Proof.Machine
end

