-- ==== Sys2Proof/Machine/Melt.lean ====
section
/-! DEFINITION. The melt-pool processors (R285 to R296) and the vector pipelines' work at a fine-tick boundary: setpoints,
power correction, deposits, SAMPLE records. -/

namespace Sys2Proof.Machine

def Side.mpCh (d : Side) (c : Nat) : MpCh := tget {} d.mpl.chs c
def Side.setMp (d : Side) (c : Nat) (x : MpCh) : Side := { d with mpl := { d.mpl with chs := tset d.mpl.chs c x } }
def srcMpl (c : Nat) : Nat := 0x140 + c

/-- Q, conversions in a fine tick (R285). -/
def Side.mpQ (d : Side) (c : Nat) : Nat := min (d.get (F.MPL_CH_CFG_SPF c)) (d.fineNs / 100)

/-! The sensor port (R285, R286). -/

/-- A rising edge of MPn_CNV, if one is due: at the boundary, and every F ÷ Q after it. -/
def Side.convEdge (p : Pkg) (c : Nat) (d : Side) : Side :=
  let x := d.mpCh c
  let q := d.mpQ c
  let dev := d.dev p
  if !d.flag (F.MPL_CH_CFG_EN c) || q ≤ x.convI || tdiff dev x.convB * q < (x.convI * d.fineNs : Nat) then d
  else
    let locked := match x.convs with
      | [] => false
      | v :: _ => v.word.isSome
    (d.setMp c { x with convs := (⟨dev, x.nextIdx, none⟩ :: x.convs).take 64, nextIdx := x.nextIdx + 1,
                        convI := x.convI + 1 }).set (F.MPL_CH_STATUS_PORT_LOCK c) (b2n locked)

def execMpConversionEdge (c : Nat) (t : Nat) (s : State) : Host.Outcome State Fault Refusal :=
  if c < s.pkg.beams then .next ((s.advance t).both (Side.grouped 7 fun p d => d.convEdge p c)) else .next s

/-- A complete word arrives on both data lanes: it follows the last conversion edge. -/
def Side.mpWord (p : Pkg) (c a b : Nat) (d : Side) : Side :=
  let x := d.mpCh c
  match x.convs with
  | v :: t =>
    if v.word.isSome || !d.flag (F.MPL_CH_CFG_EN c) then d
    else d.setMp c { x with convs := { v with word := some (a, b, d.dev p, d.flag (F.MPL_CH_STATUS_PORT_LOCK c)) } :: t }
  | [] => d

def execMpWordReceived (c : Nat) (a : Word) (b : Word) (t : Nat) (s : State) : Host.Outcome State Fault Refusal :=
  if c < s.pkg.beams then .next ((s.advance t).both (Side.grouped 7 fun p d => d.mpWord p c (a.toNat % 65536) (b.toNat % 65536))) else .next s

/-- The codes that mark a sample invalid. -/
def badCode (v : Nat) : Bool := v == 0x7FFF || v == 0x8000

/-- The samples of the window that a correction uses, none where one is missing, late or invalid (R286, R287). -/
def Side.mpWindow (d : Side) (c : Nat) (e : MpPend) : Option (List (Int × Int)) :=
  let x := d.mpCh c
  let f := d.fineNs
  let ws := d.get (F.MPL_CH_CFG_WSHIFT c)
  let inWin := x.convs.filter fun v =>
    decide (0 ≤ tdiff v.at_ e.t + ((ws + 1) * f : Nat)) && decide (tdiff v.at_ e.t + (ws * f : Nat) < 0)
  if inWin.length ≠ d.mpQ c || inWin.isEmpty then none
  else inWin.mapM fun v =>
    match x.convs.find? (fun u => u.idx == v.idx + d.get (F.MPL_CH_CFG_LAT c)) with
    | some u =>
      match u.word with
      | some (a, b, arr, ok) =>
        if ok && reached (e.t + 400) arr && !badCode a && !badCode b then some (toSigned 16 a, toSigned 16 b) else none
      | none => none
    | none => none

/-- S of R287 from the two means. -/
def Side.mpS (d : Side) (c : Nat) (ma mb : Int) : Int :=
  let term (m : Int) (ofs gain : Fld) : Int := Int.fdiv ((m - toSigned 16 (d.get ofs)) * toSigned 16 (d.get gain)) 4096
  clampI (-32767) 32767 (term ma (F.MPL_CH_CAL_A_OFS c) (F.MPL_CH_CAL_A_GAIN c) + term mb (F.MPL_CH_CAL_B_OFS c) (F.MPL_CH_CAL_B_GAIN c))

/-! The correction (R287, R291, R292, R294). -/

/-- Whether a boundary counts as invalid, with its flags: SIG_BAD; MP_LOST at the BAD_MAX-th in a row. -/
def Side.mpInvalid (p : Pkg) (c : Nat) (d : Side) : Side :=
  let x := d.mpCh c
  let n := x.badRun + 1
  let d1 := (d.setMp c { x with badRun := n }).fault p (srcMpl c) (F.MPL_CH_STATUS_SIG_BAD c)
  d1.faultIf p (n == d.get (F.MPL_CH_LIMIT_BAD_MAX c)) (srcMpl c) (F.MPL_CH_STATUS_MP_LOST c)

/-- The correction of boundary k computed: the filtered sample, feed-forward and feedback. -/
def Side.mpCompute (p : Pkg) (c : Nat) (e : MpPend) (d : Side) : Side × MpPend :=
  if !d.flag (F.MPL_CH_CFG_EN c) then (d, { e with done := true })
  else
    let x := d.mpCh c
    let w := d.mpWindow c e
    let l := w.getD []
    let ma := meanI (l.map (·.1))
    let mb := meanI (l.map (·.2))
    let f := if w.isSome then x.f + Int.fdiv (d.mpS c ma mb - x.f) ((2 ^ d.get (F.MPL_CH_CFG_LP c) : Nat)) else x.f
    let active := e.due && w.isSome
    let ilim : Int := ((256 * d.get (F.MPL_CH_ILIM_ILIM c) : Nat) : Int)
    let er := e.ref - f
    let i := if active then clampI (-ilim) ilim (x.integ + e.ki * er) else if e.dark then 0 else x.integ
    let fb := if active then Int.fdiv (e.kp * er) 256 + Int.fdiv i 256 else 0
    let ff : Int := -((e.p * min (e.h * d.get (F.MPL_CH_FF_KFF c)) (2 ^ 24) / 2 ^ 24 : Nat) : Int)
    let d1 := (d.setMp c { x with f := f, integ := i, badRun := if active then 0 else x.badRun }).set (F.MPL_CH_LIVE_F c)
      (ofSigned 16 f)
    let d2 := if w.isSome then d1 else d1.inc (F.MPL_CH_BAD_COUNT c) 1
    let d3 := if e.due && w.isNone then d2.mpInvalid p c else d2
    (d3, { e with done := true, c := ff + fb, f := f, ma := ma, mb := mb, bad := w.isNone, active := active })

/-- The corrections of boundaries up to number k computed, oldest first; their samples have arrived by then. -/
def Side.mpCatch (p : Pkg) (c k : Nat) (d : Side) : Side :=
  (d.mpCh c).pend.reverse.foldl (fun d e =>
    if e.done || k < e.k then d
    else
      let r := d.mpCompute p c e
      let x := r.1.mpCh c
      r.1.setMp c { x with pend := x.pend.map fun u => if u.k = e.k then r.2 else u }) d

/-- The power set at a boundary, from the interpolated power there and the correction of three boundaries before (R293):
correction applied, setpoint, and whether a limit acted. -/
def Side.mpApply (p : Pkg) (c k pe : Nat) (d : Side) : Side × Int × Nat × Bool :=
  if !d.flag (F.MPL_CH_CFG_EN c) then (d, 0, pe, false)
  else
    let cor := match (d.mpCh c).pend.find? (fun e => e.k + 3 == k) with
      | some e => e.c
      | none => 0
    let b : Int := ((min (d.get (F.MPL_CH_LIMIT_CMAX c)) (pe * d.get (F.MPL_CH_LIMIT_CREL c) / 256) : Nat) : Int)
    let c1 := clampI (-b) b cor
    let v := (pe : Int) + c1
    let set_ := if pe = 0 then 0 else (min 65535 v).toNat
    let d1 := d.set (F.MPL_CH_LIVE_CORR c) (ofSigned 16 c1)
    let lim := c1 != cor || decide (65535 < v)
    (d1.faultIf p lim (srcMpl c) (F.MPL_CH_STATUS_LIMITED c), c1, set_, lim)

/-- The SAMPLE record of the correction that takes effect now (R296); its LIMITED bit tells of this correction (log entry 164). -/
def Side.mpSample (p : Pkg) (c k : Nat) (c1 : Int) (pset : Nat) (lim : Bool) (d : Side) : Side :=
  match (d.mpCh c).pend.find? (fun e => e.k + 3 == k) with
  | none => d
  | some e =>
    match e.tel with
    | none => d
    | some t =>
      let dec := d.get (F.MPL_CH_CFG_DECIM c)
      if e.p = 0 || dec = 7 || e.ix % 2 ^ dec ≠ 0 || !d.flag F.MPL_TEL_CFG_SAMPLES then d
      else
        let flags := b2n e.active + 2 * b2n e.bad + 4 * b2n lim + 8 * b2n e.outside
        let w (v : Int) : List Byte := leBytes 2 (ofSigned 16 v)
        d.telSample p ⟨t.1, t.2.1, t.2.2⟩ (telHead 1 c e.origin flags e.vid e.t ++ w e.f ++ leBytes 2 e.h ++ leBytes 2 e.p ++ w c1 ++
          w e.ma ++ w e.mb ++ leBytes 2 pset ++ leBytes 2 0)

/-- A deposit at a boundary (R289); the rows that the sweep has reached by then are decayed first (R290). -/
def Side.mpDeposit (c pset : Nat) (bed : Int × Int) (d : Side) : Side :=
  if pset = 0 || !d.flag (F.MPL_CH_CFG_EN c) then d
  else
    let x := d.mpCh c
    let a := x.acc + pset * d.get (F.MPL_CH_DEP_DEP c)
    let d1 := d.setMp c { x with acc := a % 2 ^ 32 }
    match d1.heatCell bed.1 bed.2 with
    | none => d1.inc F.MPL_HM_OUTSIDE_COUNT 1
    | some n => d1.heatSet n (min 65535 (tget 0 d1.mpl.heat n + a / 2 ^ 32))

/-- The correction of boundary k begins: what is sampled at k (R291, R292). -/
def Side.mpBegin (c k t : Nat) (d : Side) : Side :=
  let v := d.vehCh c
  let here := d.vnow c t
  let lit := if d.powerAt c here = 0 then 0 else v.lit + 1
  let ahead := here + (3 * d.fineNs : Nat)
  let bed := (d.headAt c ahead).bed
  let w := d.winAt c ahead
  let e : MpPend :=
    { t := t, k := k, p := d.powerAt c ahead, h := d.heatOf (t + 20) bed.1 bed.2, outside := (d.heatCell bed.1 bed.2).isNone,
      ref := toSigned 16 (d.get (F.MPL_CH_REF_REF c)), kp := d.get (F.MPL_CH_PI_KP c), ki := d.get (F.MPL_CH_PI_KI c),
      due := d.flag (F.MPL_CH_CFG_FB_EN c) && decide (d.get (F.MPL_CH_CFG_HOLD c) < lit), dark := lit == 0,
      vid := (w.map (·.vid)).getD 0, origin := (w.map (·.origin)).getD 0, ix := 20 * d.tim.count + d.tim.fine,
      tel := v.pl.map fun r => ((d.telJob r).job, (d.telJob r).enc, (d.telJob r).plate) }
  let x := d.mpCh c
  (d.setVeh c { v with lit := lit }).setMp c
    { x with pend := (e :: x.pend).take 4, convB := t, convI := if d.flag (F.MPL_CH_CFG_EN c) then 0 else 16 }

/-! A fine-tick boundary (R257 to R262, R283, R289, R291 to R296). -/

/-- What a channel emits at a boundary: setpoints to its port (R260), and the laser that burns. -/
def Side.vecEmit (p : Pkg) (k t : Nat) (acc : Side × List (Nat × Nat)) (c : Nat) : Side × List (Nat × Nat) :=
  let d0 := (acc.1.vecResume p c).mpCatch p c (k - 2)
  let here := d0.vnow c t
  let (d1, z) := d0.vecSetpoint c here
  let pe := d1.powerAt c here
  let (d2, c1, pset, lim) := d1.mpApply p c k pe
  let d3 := d2.mpSample p c k c1 pset lim
  let d4 := (d3.send (.setpt c 0x0102 (ofSigned 32 z))).send (.setpt c (d3.get (F.VEC_CFG_BEAM c)) pset)
  let e : Rat := ((pset * d4.fineNs : Nat) : Rat) / 65535
  let d5 := if pset = 0 then d4 else { d4 with pln := { d4.pln with laser := tmod 0 d4.pln.laser c fun x => x + e } }
  (d5.set (F.MPL_CH_STATUS_SPF_EFF c) (d5.mpQ c), acc.2 ++ [(c, pset)])

/-- The vector pipelines and melt-pool processors at boundary number k, of device time t: every channel of the part emits at every
boundary (R260; log entry 38). -/
def Side.vectorFine (p : Pkg) (k t : Nat) (d : Side) : Side :=
  let (d1, sets) := (List.range p.beams).foldl (Side.vecEmit p k t) (d, [])
  let burns : List Burn := (sets.filter fun e => e.2 != 0).map fun e =>
    let w := d1.winAt e.1 (d1.vnow e.1 t)
    ⟨e.1, (w.map (·.vid)).getD 0, (w.map (·.origin)).getD 0, (d1.vehCh e.1).bed⟩
  let d2 := Side.breaches p burns (d1.logFull p)
  let d3 := if burns.isEmpty then d2 else d2.heatUpTo (rowsSwept (tdiff (t + 20) d2.mpl.edge))
  let d4 := sets.foldl (fun d e => d.mpDeposit e.1 e.2 (d.vehCh e.1).bed) d3
  (List.range p.beams).foldl (fun d c => d.mpBegin c k t) d4

/-- At each plate start every deposit remainder is 0 and no pair is in breach yet (R283, R289). -/
def Side.mpStart (d : Side) : Side :=
  { d with mpl := { d.mpl with chs := d.mpl.chs.map fun e => (e.1, { e.2 with acc := 0 }), breach := [] } }

end Sys2Proof.Machine
end

