-- ==== Sys2Proof/Machine/Signal.lean ====
section
/-! DEFINITION. Signal words and the law engine's arithmetic (R305 to R308), and the sine that R330 and R378 name. -/

namespace Sys2Proof.Machine

/-- Zero (R305). -/
def Sig.zero : Sig := ⟨0, -128⟩

/-- m × 2^k rounded to a 24-bit mantissa, ties to even, with the exponent not yet bounded (R307). -/
def sigRound (v k : Int) : Sig :=
  if v = 0 then Sig.zero
  else
    let n : Nat := if 0 < v then v.natAbs.log2 else if v = -1 then 0 else (v.natAbs - 1).log2
    let v' : Int := if v = -1 then -2 else v
    let k' : Int := if v = -1 then k - 1 else k
    let m : Int := if n ≤ 22 then v' * (2 ^ (22 - n) : Nat) else divEven v' (2 ^ (n - 22))
    let e := k' + n + 1
    if m = 8388608 then ⟨4194304, e + 1⟩ else if m = -4194304 then ⟨-8388608, e - 1⟩ else ⟨m, e⟩

/-- A result held to the exponents of a signal word, and whether it saturates (R308). -/
def sigBound (s : Sig) : Sig × Bool :=
  if s.m = 0 then (Sig.zero, false)
  else if 127 < s.e then (⟨if 0 < s.m then 8388607 else -8388608, 127⟩, true)
  else if s.e < -128 then (Sig.zero, false)
  else (s, false)

/-- A supplied word is read at its value, be it smaller than any normalised word's (R305). -/
def sigOf (w : Nat) : Sig := sigRound (toSigned 24 (bits w 0 24)) (toSigned 8 (bits w 24 8) - 23)

/-- The word of a signal, normalised (R305, R308). -/
def Sig.word (s : Sig) : Nat := ofSigned 24 (sigBound s).1.m + 2 ^ 24 * ofSigned 8 (sigBound s).1.e

/-- An integer as a signal word (R315). -/
def sigInt (v : Int) : Sig := (sigBound (sigRound v 0)).1

/-- A rational as a signal word: a sticky bit below 64 more places keeps ties exact. -/
def sigRat (q : Rat) : Sig :=
  if q = 0 then Sig.zero
  else
    let k := 64 + q.den.log2
    let n := q.num.natAbs * 2 ^ k
    let v : Int := ((2 * (n / q.den) + (if n % q.den = 0 then 0 else 1) : Nat) : Int)
    (sigBound (sigRound (if q.num < 0 then -v else v) (-(k : Int) - 1))).1

/-- The exact value, times 2^256. -/
def Sig.scaled (s : Sig) : Int := s.m * (2 ^ (s.e + 233).toNat : Nat)

def Sig.lt (a b : Sig) : Bool := decide (a.scaled < b.scaled)

def Sig.neg (s : Sig) : Sig := (sigBound (sigRound (-s.m) (s.e - 23))).1

/-- clamp(x, LO, HI), made exactly on values (R307). -/
def sigClamp (x lo hi : Sig) : Sig := if x.lt lo then lo else if hi.lt x then hi else x

/-! Terms (R307): a product M × 2^(e − 46), or a single operand in the same form. -/

structure Term where
  m : Int
  e : Int

def tSig (a : Sig) : Term := ⟨a.m * 8388608, a.e⟩
def tNeg (a : Term) : Term := ⟨-a.m, a.e⟩
def tMul (a b : Sig) : Term := ⟨a.m * b.m, a.e + b.e⟩

/-- A coefficient of exponent es times a signal (R306). -/
def tCoef (es c : Int) (b : Sig) : Term := ⟨c * b.m, es + b.e⟩

/-- A coefficient alone. -/
def tOnly (es c : Int) : Term := ⟨c * 8388608, es⟩

/-- What a sum gives: the result, whether it saturates, and whether normalising it needs a left shift of more than 4
places (R310). -/
structure SumR where
  s : Sig := {}
  sat : Bool := false
  slow : Bool := false
  deriving DecidableEq, Repr, Inhabited

/-- A sum of terms in the 48-bit accumulator, normalised and rounded (R307). -/
def sigSum (l : List Term) : SumR :=
  let emax := (l.map (·.e)).foldl max ((l.map (·.e)).headD 0)
  let acc := (l.map fun t => Int.fdiv t.m (2 ^ (4 + (emax - t.e).toNat) : Nat)).sum
  let n : Nat := if 0 < acc then acc.natAbs.log2 else (acc.natAbs - 1).log2
  let r := sigBound (sigRound acc (emax - 42))
  ⟨r.1, r.2, acc != 0 && decide (n + 4 < 46)⟩

/-- A group takes the exponent of its largest member; the others are shifted right to it, ties to even (R307). -/
def sigGroup (ref : List Sig) (l : List Sig) : List Sig :=
  let es := ((ref ++ l).filter (·.m != 0)).map (·.e)
  let emax := es.foldl max (es.headD (-128))
  l.map fun s =>
    if s.m = 0 then s
    else (sigBound (sigRound (divEven s.m (2 ^ (emax - s.e).toNat)) (emax - 23))).1

/-- v × 2^k as the nearest integer, ties to even. -/
def sigToInt (s : Sig) (k : Int) : Int :=
  let e := s.e - 23 + k
  if 0 ≤ e then s.m * (2 ^ e.toNat : Nat) else divEven s.m (2 ^ (-e).toNat)

/-! The sine (R330, R378), in units of 2^−128 (log entry 41). -/

/-- π × 2^128, cut. -/
def piQ : Nat := 1069028584064966747859680373161870783300

/-- Taylor's series from the term t of degree 2k − 1 on, at x² = x2 × 2^−128. -/
def sinSeries (x2 : Int) : Nat → Nat → Int → Int
  | 0, _, _ => 0
  | n + 1, k, t => t + sinSeries x2 n (k + 1) (-(Int.fdiv (t * x2) (2 ^ 128 : Nat)) / ((2 * k * (2 * k + 1) : Nat) : Int))

/-- sin(2π × ph ÷ 2^b) × 2^128, exact at whole quarter turns. -/
def sinTurn (ph b : Nat) : Int :=
  let q := 2 ^ b
  let x := ph % q
  let half := q / 2
  let y := x % half
  let z := if 2 * y ≤ half then y else half - y
  let a : Int := ((2 * piQ * z / q : Nat) : Int)
  let s := if 4 * z = q then 2 ^ 128 else sinSeries (Int.fdiv (a * a) (2 ^ 128 : Nat)) 40 1 a
  if x < half then s else -s

/-- A × sin(2π φ ÷ 2^32) as a signal word (R330). -/
def sigSine (a : Sig) (ph : Nat) : Sig := (sigBound (sigRound (a.m * sinTurn ph 32) (a.e - 151))).1

end Sys2Proof.Machine
end

