-- ==== Sys2Proof/Machine/Law.lean ====
section
/-! DEFINITION. The law engine (spec/11): set images and their checks, loading, the run of the programs at a control tick
edge, traces and injection. -/

namespace Sys2Proof.Machine

/-! Set images (R309 to R314). -/

/-- Words of a stage type from byte 16: limit words before the coefficients, coefficients, limit words after; none for a
reserved type (R310). -/
def stageShape (ty : Nat) : Option (Nat × Nat × Nat) :=
  match ty with
  | 1 => some (0, 5, 0)
  | 2 => some (0, 3, 2)
  | 3 => some (0, 64, 0)
  | 4 => some (3, 0, 0)
  | 5 => some (1, 0, 0)
  | 6 => some (2, 33, 0)
  | 7 => some (0, 1, 1)
  | 8 => some (0, 0, 2)
  | _ => none

/-- Base cycles (R310). -/
def stageCycles (ty : Nat) : Nat :=
  match ty with
  | 1 => 10
  | 2 => 14
  | 3 => 36
  | 5 => 3
  | 6 => 8
  | _ => 4

/-- Words a stage record holds from byte 16. -/
def wordsAt (b : List Byte) (n : Nat) : List Nat := (List.range n).map fun k => leAt b (16 + 4 * k) 4

def sigNoOk (n : Nat) : Bool := n < 32 || n == 0xFF

/-- A stage record that keeps R306, R309 and R310. -/
def parseStage (b : List Byte) : Option LStage :=
  match stageShape (byteAt b 0) with
  | none => none
  | some (l0, c, l1) =>
    let ty := byteAt b 0
    let ws := wordsAt b (l0 + c + l1)
    let sigs := (List.range 8).map fun k => byteAt b (4 + k)
    let ok := (byteAt b 1 == 0 || (ty == 2 && byteAt b 1 == 1)) && sigs.all sigNoOk &&
      decide (16 + 4 * (l0 + c + l1) ≤ b.length) && allZero (b.drop (16 + 4 * (l0 + c + l1))) &&
      (ty == 8 || leAt b 12 4 == 0) && (((ws.drop l0).take c).all fun w => w < 2 ^ 24) &&
      (ty != 8 || ws.headD 0 < 256)
    if ok then some ⟨ty, byteAt b 1, toSigned 8 (byteAt b 2), sigs.take 4, sigs.drop 4, leAt b 12 2, leAt b 14 2, ws⟩ else none

/-- n stage records from the start of a list, and what follows them. -/
def parseStages : Nat → List Byte → Option (List LStage × List Byte)
  | 0, b => some ([], b)
  | n + 1, b =>
    let len := 32 * byteAt b 3
    if len = 0 || 288 < len || b.length < len then none
    else match parseStage (b.take len), parseStages n (b.drop len) with
      | some x, some (l, rest) => some (x :: l, rest)
      | _, _ => none

/-- An input class of integer values (R315). -/
def clsInt (c : Nat) : Bool := 3 ≤ c && c ≤ 6

/-- An index that the input class has (R315). -/
def inputOk (c ix : Nat) : Bool :=
  match c with
  | 0 => true
  | 1 => ix < 64
  | 2 => ix < 64
  | 3 => ix < 32
  | 4 => ix < 32
  | 5 => ix < 48
  | 6 => ix < 24
  | 7 => ix < 24
  | 8 => ix < 24
  | 9 => bits ix 5 3 == 0 && ix < 2 ^ 14
  | _ => false

/-- Input i of a program header. -/
def parseInput (h : List Byte) (i : Nat) : LIn :=
  ⟨byteAt h (8 + 4 * i), bits (byteAt h (9 + 4 * i)) 0 5, bit (byteAt h (9 + 4 * i)) 5, leAt h (10 + 4 * i) 2⟩

/-- The inputs of a program that write a signal: every used one but one that another is reduced by (R314). -/
def inputWriters : Bool → List LIn → List LIn
  | _, [] => []
  | skip, x :: t => if skip || x.cls == 0 then inputWriters false t else x :: inputWriters x.sub t

/-- The signals they write. -/
def inputWrites (skip : Bool) (l : List LIn) : List Nat := (inputWriters skip l).map (·.sig)

/-- SUB 1 needs a next input with SUB 0, both of an integer class (R314). -/
def subsOk : List LIn → Bool
  | [] => true
  | [x] => x.cls == 0 || !x.sub
  | x :: y :: t => (x.cls == 0 || !x.sub || (y.cls != 0 && !y.sub && clsInt x.cls && clsInt y.cls)) && subsOk (y :: t)

/-- Results a stage writes to signals. -/
def LStage.writes (x : LStage) : List Nat :=
  (x.outs.take (if x.ty = 3 then 4 else if x.ty = 8 then 0 else 1)).filter (· != 0xFF)

/-- No value stands twice in a list. -/
def distinct : List Nat → Bool
  | [] => true
  | a :: t => !t.contains a && distinct t

/-- A program record that keeps R306, R309, R310 and R314, and what follows it. -/
def parseProg (b : List Byte) : Option (LProg × List Byte) :=
  let ins := (List.range 8).map (parseInput b)
  let ok := decide (192 ≤ b.length) && bits (byteAt b 2) 4 4 == 0 && decide (1 ≤ byteAt b 3) && decide (byteAt b 3 ≤ 32) &&
    leAt b 4 4 == 0 && allZero ((b.drop 40).take 24) && ins.all (fun x => inputOk x.cls x.idx) && subsOk ins
  if !ok then none
  else match parseStages (byteAt b 3) (b.drop 192) with
    | none => none
    | some (st, rest) =>
      let w := inputWrites false ins
      if distinct w && (st.flatMap LStage.writes).all (fun k => !w.contains k) then
        some (⟨leAt b 0 2, bits (byteAt b 2) 0 2, bit (byteAt b 2) 2, bit (byteAt b 2) 3,
          (List.range 32).map (fun k => leAt b (64 + 4 * k) 4), ins, st⟩, rest)
      else none

/-- n program records from slot k on, with the stages before them; the failing slot. -/
def parseProgs : Nat → Nat → Nat → List Byte → Except Nat (List LProg)
  | 0, _, _, b => if b.isEmpty then .ok [] else .error 0
  | n + 1, k, stages, b =>
    match parseProg b with
    | none => .error k
    | some (x, rest) =>
      if 1024 < stages + x.stages.length then .error k
      else match parseProgs n (k + 1) (stages + x.stages.length) rest with
        | .ok l => .ok (x :: l)
        | .error e => .error e

/-- A set image (R313): the set, or the failing slot (0 for the header). -/
def parseSet (b : List Byte) (crc : Nat) : Except Nat LSet :=
  let mt := leAt b 12 2
  let ok := decide (64 ≤ b.length) && leAt b 0 4 == 0x4C415731 && leAt b 4 2 == 1 && decide (byteAt b 6 ≤ 64) && byteAt b 7 == 0 && leAt b 14 2 == 0 &&
    allZero ((b.drop 20).take 44) && decide (5000 ≤ mt) && decide (mt ≤ 50000) && mt % 20 == 0 && leAt b 16 4 == b.length
  if !ok then .error 0
  else match parseProgs (byteAt b 6) 0 0 (b.drop 64) with
    | .ok l => .ok ⟨leAt b 8 4, crc, mt, l⟩
    | .error e => .error e

/-! Destinations, feed-forward, schedule (R312, R317, R319 to R321). -/

/-- PWM output o belongs to no field-control unit, stepper unit or chopper that uses it (R356). -/
def Side.outFree (d : Side) (o : Nat) : Bool :=
  if o < 64 then d.get (F.FOC_CFG_MODE (o / 4)) == 0
  else if o < 104 then !d.flag (F.FOC_STP_CFG_USE ((o - 64) / 5))
  else if o < 108 then !d.flag (F.FOC_BUS_CFG_CHOP_EN (o - 104))
  else decide (o < 128)

def LStage.dest (x : LStage) : Option (Nat × Nat) := if x.ty = 8 then some (x.cls, x.idx) else none

/-- Destinations of a program, in order. -/
def LProg.dests (x : LProg) : List (Nat × Nat) := x.stages.filterMap LStage.dest

/-- A destination that R317 permits. -/
def destOk (p : Pkg) (d : Side) (e : Nat × Nat) : Bool :=
  match e.1 with
  | 1 => decide (e.2 / 2 < p.beams)
  | 2 => decide (e.2 / 256 < p.beams)
  | 3 => decide (e.2 < 128) && d.outFree e.2
  | 4 => decide (e.2 < 8)
  | 5 => decide (e.2 < p.focs)
  | _ => false

/-- The first slot that breaks R317, with the destinations before it. -/
def destBad (p : Pkg) (d : Side) : Nat → List (Nat × Nat) → List LProg → Option Nat
  | _, _, [] => none
  | k, before, x :: t =>
    let l := x.dests
    let dup := l.any (fun e => before.contains e) || !distinct (l.map fun e => 65536 * e.1 + e.2)
    if l.all (destOk p d) && !dup then destBad p d (k + 1) (before ++ l) t else some k

/-- IN1 of every FF stage is a signal that inputs of class VBUS, VACC or AXACC alone write, and no stage (R312). -/
def ffOk (x : LProg) : Bool :=
  let w := x.stages.flatMap LStage.writes
  x.stages.all fun s => s.ty != 7 ||
    (let k := s.ins.getD 1 0xFF
     let l := (inputWriters false x.ins).filter fun i => i.sig == k
     !l.isEmpty && l.all (fun i => i.cls == 2 || i.cls == 4 || i.cls == 8) && !w.contains k)

def LProg.minCycles (x : LProg) : Nat := 2 + (x.stages.map fun s => stageCycles s.ty).sum

def LProg.maxCycles (x : LProg) : Nat := 2 + (x.stages.map fun s => stageCycles s.ty + 1).sum

/-- W_d (R321). -/
def LSet.work (x : LSet) (dp : Nat) : Nat := ((x.progs.filter fun y => y.dp == dp).map LProg.maxCycles).sum

def LSet.maxWork (x : LSet) : Nat := ((List.range 4).map x.work).foldl max 0

/-- B (R321). -/
def LSet.budget (x : LSet) : Nat := 144 * x.minTick / 100

/-- Cycles up to and including the first and the last OUTPUT stage of a stage list, each stage at base cycles plus x. -/
def firstOut (x : Nat) : Nat → List LStage → Nat
  | _, [] => 0
  | n, s :: t => if s.ty = 8 then n + stageCycles 8 + x else firstOut x (n + stageCycles s.ty + x) t

def lastOut (x : Nat) : Nat → List LStage → Nat
  | _, [] => 0
  | n, s :: t => max (if s.ty = 8 then n + stageCycles 8 + x else 0) (lastOut x (n + stageCycles s.ty + x) t)

/-- EMIT_MIN and EMIT_MAX of slot k (R320). -/
def LSet.emit (x : LSet) (k : Nat) : Nat × Nat :=
  match x.progs[k]? with
  | none => (0, 0)
  | some y =>
    let before := (x.progs.take k).filter fun z => z.dp == y.dp
    (firstOut 0 ((before.map LProg.minCycles).sum + 2) y.stages, lastOut 1 ((before.map LProg.maxCycles).sum + 2) y.stages)

/-! LAW_SET_LOAD (R323). -/

/-- The first bad field of the descriptor. -/
def lawLoadBad (b : List Byte) : Option Nat :=
  match firstNonZero b 4 4 with
  | some o => some o
  | none =>
    if dFld b 8 8 % 32 ≠ 0 then some 8
    else if dFld b 16 4 % 32 ≠ 0 || 262144 < dFld b 16 4 then some 16
    else firstNonZero b 24 40

def lawRefused (reason slot : Nat) : Res := ⟨stREFUSED, 0, reason + 256 * slot⟩

/-- Steps 5 to 9 of R323. -/
def Side.lawCheck (p : Pkg) (d : Side) (raw : List Byte) (crc : Nat) : Except Res LSet :=
  match parseSet raw crc with
  | .error k => .error (lawRefused 3 k)
  | .ok x =>
    match destBad p d 0 [] x.progs with
    | some k => .error (lawRefused 4 k)
    | none =>
      match (List.range x.progs.length).find? fun k => (x.progs[k]?).any fun y => !ffOk y with
      | some k => .error (lawRefused 5 k)
      | none =>
        if d.tim.tickNs < x.minTick || d.get F.TIM_TICK_NS < x.minTick then .error (lawRefused 6 0)
        else match (List.range 4).find? fun k => decide (x.budget < x.work k) with
          | some k => .error (lawRefused 7 k)
          | none => .ok x

/-- LAW_SET_LOAD (R323); herr is the address at which the host read failed, if it did. -/
def Side.lawSetLoad (p : Pkg) (n : Nat) (herr : Option Nat) (d : Side) : Side :=
  match d.nextHost p n 0x78 with
  | none => d
  | some x =>
    let b := x.bytes
    let raw := memRead p.host (dFld b 8 8) (dFld b 16 4)
    match lawLoadBad b, herr with
    | some o, _ => d.startDone n (badField o)
    | none, some e => d.startDone n (hostFaultRes e)
    | none, none =>
      if !d.plateWindow then d.startDone n (lawRefused 1 0)
      else if crc32c raw ≠ dFld b 20 4 then d.startDone n (lawRefused 2 0)
      else match d.lawCheck p raw (dFld b 20 4) with
        | .error r => d.startDone n r
        | .ok y =>
          let d1 := { d with law := { d.law with next := some y, halt := false } }
          (d1.set F.LAW_STATUS_LOAD_PENDING 1).startDone n ⟨stSUCCESS, y.maxWork, y.id⟩

def execLawSetLoad (n : Nat) (herr : Option Nat) (s : State) : Host.Outcome State Fault Refusal :=
  if n < 64 then .next (s.both fun p d => d.lawSetLoad p n herr) else .next s

/-! Emission (R317). -/

/-- A value takes effect at a destination: a SET item goes to its port, a duty, demand or reference stands until the next emission. -/
def Side.lawEmit (d : Side) (cls idx : Nat) (v : Int) : Side :=
  match cls with
  | 1 => d.send (.setpt (idx / 2) (0x100 + idx % 2) (ofSigned 32 v))
  | 2 => d.send (.setpt (idx / 256) (0x200 + idx % 256) (ofSigned 32 v))
  | 3 => { d with law := { d.law with duty := tset d.law.duty idx v.toNat } }
  | 4 => { d with law := { d.law with ssr := tset d.law.ssr idx v.toNat } }
  | 5 => { d with law := { d.law with iref := tset d.law.iref idx v } }
  | _ => d

/-- Device time at which an output of count n reaches the output hold stage, in whole ns upward (R319). -/
def Side.emitAt (d : Side) (n : Nat) : Nat := (d.pln.lastEdge + ceilDiv (8 * d.tim.tickNs + 250 * n) 400) % 2 ^ 64

/-- An OUTPUT's value is on its way to the output hold stage: SET items wait for their port's next frame, the others for their time. -/
def Side.lawPut (n : Nat) (cls idx : Nat) (v : Int) (d : Side) : Side :=
  if cls ≤ 2 then d.lawEmit cls idx v
  else { d with law := { d.law with due := d.law.due ++ [⟨cls, idx, v, d.emitAt n⟩] } }

/-- The values that have reached the output hold stage (R317, R319). -/
def Side.lawTake (p : Pkg) (d : Side) : Side :=
  let l := d.law.due
  let d0 := { d with law := { d.law with due := l.filter fun e => !reached (d.dev p) e.at_ } }
  (l.filter fun e => reached (d.dev p) e.at_).foldl (fun d e => d.lawEmit e.cls e.idx e.v) d0

/-- The value held to a destination's range. -/
def destClamp (cls : Nat) (v : Int) : Int :=
  match cls with
  | 3 => clampI 0 65535 v
  | 4 => clampI 0 65535 v
  | 5 => clampI (-32768) 32767 v
  | _ => clampI (-2147483648) 2147483647 v

/-- The OUTPUT stages of a set. -/
def LSet.outputs (x : LSet) : List LStage := (x.progs.flatMap (·.stages)).filter fun s => s.ty == 8

/-- An OUTPUT stage's destination goes to its SAFE value. -/
def Side.lawSafe (d : Side) (s : LStage) : Side :=
  d.lawEmit s.cls s.idx (destClamp s.cls (toSigned 32 (s.words.getD 1 0)))

/-- All of them: the last output of a tick arrives before the tick ends (R321). -/
def Side.lawFlush (d : Side) : Side :=
  d.law.due.foldl (fun d e => d.lawEmit e.cls e.idx e.v) { d with law := { d.law with due := [] } }

/-! Confidentiality (R329). -/

def LProg.confOwn (x : LProg) : Bool := x.conf || x.ins.any fun i => i.cls == 3 || i.cls == 4 || i.cls == 5

/-- Confidential slots after n rounds of reading PUB. -/
def LSet.confSlots (x : LSet) : Nat → List Nat
  | 0 => (List.range x.progs.length).filter fun k => (x.progs[k]?).any LProg.confOwn
  | n + 1 =>
    let l := x.confSlots n
    (List.range x.progs.length).filter fun k => l.contains k ||
      (x.progs[k]?).any fun y => y.ins.any fun i => i.cls == 9 && l.contains (i.idx / 256)

/-- Slot k of the set in use is confidential. -/
def Side.slotConf (d : Side) (k : Nat) : Bool :=
  match d.law.set with
  | some x => (x.confSlots x.progs.length).contains k
  | none => false

/-! Halt and switch (R322, R324, R325). -/

/-- Every running injection stops and every trace channel that is armed or capturing is DONE (R325). -/
def Side.lawStopAll (d : Side) : Side :=
  let d1 := (List.range 4).foldl (fun d g =>
    if d.get (F.LAW_INJ_STATE_STATE g) = 2 then
      ({ d with law := { d.law with gens := tset d.law.gens g {} } }).set (F.LAW_INJ_STATE_STATE g) 3
    else d) d
  (List.range 16).foldl (fun d t =>
    let st := d.get (F.LAW_TR_STATE_STATE t)
    if st = 1 || st = 2 then d.set (F.LAW_TR_STATE_STATE t) 3 else d) d1

/-- The set in use is halted: every destination at SAFE, no program active. -/
def Side.lawHalt (d : Side) : Side :=
  match d.law.set with
  | none => d
  | some x =>
    if d.get F.LAW_STATUS_STATE ≠ 1 then d
    else
      let d1 := (x.outputs.foldl Side.lawSafe d).set F.LAW_STATUS_STATE 2
      ((List.range 64).foldl (fun d k => d.set (F.LAW_P_STATUS_ACTIVE k) 0) d1).lawStopAll

/-- LAW_LOAD (R321). -/
def Side.lawLoad (d : Side) : Side :=
  match d.law.set with
  | none => d
  | some x => d.set F.LAW_LOAD_L (x.maxWork * 6553600 / (144 * d.tim.tickNs))

/-- State words a stage keeps (R310, R311). -/
def stageState (ty : Nat) : List Sig :=
  List.replicate (match ty with | 1 => 2 | 2 => 3 | 3 => 4 | 4 => 1 | _ => 0) Sig.zero

/-- A program's initial run. -/
def LProg.start (x : LProg) : LRun := ⟨x.init.map sigOf, x.stages.map fun s => stageState s.ty, true⟩

/-- The old program that a new one with CARRY takes its state from: same PROG_ID and sequence of TYPEs. -/
def LSet.carrier (old : LSet) (x : LProg) : Option Nat :=
  (List.range old.progs.length).find? fun k =>
    (old.progs[k]?).any fun y => y.id == x.id && y.stages.map (·.ty) == x.stages.map (·.ty)

/-- Signals that an input or a stage of a program writes. -/
def LProg.written (x : LProg) : List Nat := inputWrites false x.ins ++ x.stages.flatMap LStage.writes

/-- The run a program starts with at the switch, and whether it is carried. -/
def Side.lawStart (d : Side) (x : LProg) : LRun × Bool :=
  match (if x.carry then d.law.set.bind fun o => o.carrier x else none) with
  | none => (x.start, false)
  | some k =>
    let r := tget {} d.law.runs k
    let w := x.written
    (⟨(List.range 32).map fun i => if w.contains i then r.sigs.getD i Sig.zero else sigOf (x.init.getD i 0), r.st, r.fresh⟩, true)

/-- The registers of slot k under a set just switched to. -/
def Side.lawSlot (x : LSet) (carried : List Bool) (d : Side) (k : Nat) : Side :=
  match x.progs[k]? with
  | none =>
    (List.range 5).foldl (fun d w => d.setWord (0x900100 + 0x20 * k + 4 * w) 0) d
  | some y =>
    let d1 := ((d.set (F.LAW_P_STATUS_ACTIVE k) 1).set (F.LAW_P_STATUS_CONF k) (b2n ((x.confSlots x.progs.length).contains k))).set
      (F.LAW_P_STATUS_CARRIED k) (b2n (carried.getD k false))
    let d2 := (d1.set (F.LAW_P_STATUS_NSTAGES k) y.stages.length).set (F.LAW_P_STATUS_DP k) y.dp
    (d2.set (F.LAW_P_EMIT_MIN_N k) (x.emit k).1).set (F.LAW_P_EMIT_MAX_N k) (x.emit k).2

/-- The accepted set replaces the set in use at the edge (R324). -/
def Side.lawSwitch (d : Side) : Side :=
  match d.law.next with
  | none => d
  | some x =>
    let new := x.outputs.map (fun (s : LStage) => (s.cls, s.idx))
    let olds := (match d.law.set with | some o => o.outputs | none => []).filter (fun (s : LStage) => !new.contains (s.cls, s.idx))
    let starts := x.progs.map d.lawStart
    let runs : Tab LRun := (List.range starts.length).map fun k => (k, (starts.getD k ({}, false)).1)
    let d1 := (olds.foldl Side.lawSafe d).lawStopAll
    let d2 := { d1 with law := { d1.law with set := some x, next := none, runs := runs } }
    let d3 := (d2.set F.LAW_STATUS_LOAD_PENDING 0).set F.LAW_STATUS_STATE (if x.progs.isEmpty then 0 else 1)
    let d4 := ((d3.set F.LAW_SET_ID_VALUE x.id).set F.LAW_SET_CRC_VALUE x.crc).set F.LAW_MIN_TICK_NS x.minTick
    let d5 := (List.range 4).foldl (fun d k => d.set (F.LAW_DP_CYC_W k) (x.work k)) d4
    (List.range 64).foldl (Side.lawSlot x (starts.map (·.2))) d5.lawLoad

/-- LAW_CMD.HALT: in the PLATE window, at the next edge (R325); else refused. -/
def Side.lawHaltCmd (p : Pkg) (d : Side) : Side :=
  if d.plateWindow then { d with law := { d.law with halt := true } } else d.fault p 0x160 F.LAW_STATUS_WINDOW_VIOL

def execHalt (s : State) : Host.Outcome State Fault Refusal := .next (s.asWrite true 0x900004 1 (s.both Side.lawHaltCmd))

/-! Stages (R310, R311). -/

/-- What a stage computes: results by signal, new state words, results that saturate, the renormalisation cycle. -/
structure StageR where
  ys : List (Nat × Sig) := []
  st : List Sig := []
  sats : Nat := 0
  slow : Bool := false
  deriving DecidableEq, Repr, Inhabited

def sumSats (l : List SumR) : Nat := (l.filter (·.sat)).length

def sumSlow (l : List SumR) : Bool := l.any (·.slow)

/-- Coefficient k of a stage whose coefficients begin at word o. -/
def LStage.coef (x : LStage) (o k : Nat) : Int := toSigned 24 (x.words.getD (o + k) 0)

def LStage.lim (x : LStage) (k : Nat) : Sig := sigOf (x.words.getD k 0)

/-- Operand k of a stage. -/
def LStage.arg (x : LStage) (sigs : List Sig) (k : Nat) : Sig :=
  let i := x.ins.getD k 0xFF
  if i = 0xFF then Sig.zero else sigs.getD i Sig.zero

/-- Result k of a stage, if it is used. -/
def LStage.res (x : LStage) (k : Nat) (y : Sig) : List (Nat × Sig) :=
  let o := x.outs.getD k 0xFF
  if o = 0xFF then [] else [(o, y)]

def biquad (x : LStage) (sigs st : List Sig) : StageR :=
  let u := x.arg sigs 0
  let s1 := st.getD 0 Sig.zero
  let s2 := st.getD 1 Sig.zero
  let c := x.coef 0
  let y := sigSum [tCoef x.es (c 0) u, tSig s1]
  let n1 := sigSum [tCoef x.es (c 1) u, tNeg (tCoef x.es (c 3) y.s), tSig s2]
  let n2 := sigSum [tCoef x.es (c 2) u, tNeg (tCoef x.es (c 4) y.s)]
  ⟨x.res 0 y.s, sigGroup [y.s] [n1.s, n2.s], sumSats [y, n1, n2], sumSlow [y, n1, n2]⟩

def pid (x : LStage) (sigs st : List Sig) (fresh : Bool) : StageR :=
  let in0 := x.arg sigs 0
  let in1 := x.arg sigs 1
  let i := st.getD 0 Sig.zero
  let kp := x.coef 0 0
  let ki := x.coef 0 1
  let kd := x.coef 0 2
  let lo := x.lim 3
  let hi := x.lim 4
  let e := sigSum [tSig in0, tNeg (tSig in1)]
  let ep := if fresh then e.s else st.getD 1 Sig.zero
  let fp := if fresh then in1 else st.getD 2 Sig.zero
  let dd := if x.flags = 0 then sigSum [tSig e.s, tNeg (tSig ep)] else sigSum [tNeg (tSig in1), tSig fp]
  let inew := sigSum [tSig i, tCoef x.es ki e.s]
  let u := sigSum [tCoef x.es kp e.s, tSig inew.s, tCoef x.es kd dd.s]
  let grow := ki * e.s.m
  let held := (hi.lt u.s && decide (0 < grow)) || (u.s.lt lo && decide (grow < 0))
  let iv := if held then { inew with s := i } else inew
  let uv := if held then sigSum [tCoef x.es kp e.s, tSig i, tCoef x.es kd dd.s] else u
  let y := sigClamp uv.s lo hi
  ⟨x.res 0 y, sigGroup [y] [iv.s, e.s, in1], sumSats [e, dd, inew, u] + (if held then b2n uv.sat else 0), sumSlow [iv, uv]⟩

def ss4 (x : LStage) (sigs st : List Sig) : StageR :=
  let u := (List.range 4).map (x.arg sigs)
  let row (o : Nat) (v : List Sig) (r : Nat) : List Term := (List.range 4).map fun j => tCoef x.es (x.coef o (4 * r + j)) (v.getD j Sig.zero)
  let ys := (List.range 4).map fun r => sigSum (row 32 st r ++ row 48 u r)
  let xs := (List.range 4).map fun r => sigSum (row 0 st r ++ row 16 u r)
  let yg := sigGroup [] (ys.map (·.s))
  ⟨(List.range 4).flatMap (fun r => x.res r (yg.getD r Sig.zero)), sigGroup [] (xs.map (·.s)), sumSats (ys ++ xs), sumSlow (ys ++ xs)⟩

def limitStage (x : LStage) (sigs st : List Sig) : StageR :=
  let c := sigClamp (x.arg sigs 0) (x.lim 0) (x.lim 1)
  let rate := x.lim 2
  let prev := st.getD 0 Sig.zero
  let up := sigSum [tSig prev, tSig rate]
  let down := sigSum [tSig prev, tNeg (tSig rate)]
  let y := if rate.m = 0 then c else sigClamp c down.s up.s
  let slow := rate.m != 0 && (if c.lt down.s then down.slow else up.s.lt c && up.slow)
  ⟨x.res 0 y, [y], if rate.m = 0 then 0 else sumSats [up, down], slow⟩

def deadband (x : LStage) (sigs : List Sig) : StageR :=
  let v := x.arg sigs 0
  let w := x.lim 0
  if v.scaled.natAbs ≤ w.scaled then ⟨x.res 0 Sig.zero, [], 0, false⟩
  else
    let y := sigSum [tSig v, if v.m < 0 then tSig w else tNeg (tSig w)]
    ⟨x.res 0 y.s, [], sumSats [y], y.slow⟩

def lut (x : LStage) (sigs : List Sig) : StageR :=
  let v := x.arg sigs 0
  let d := sigSum [tSig v, tNeg (tSig (x.lim 0))]
  let t := sigSum [tMul d.s (x.lim 1)]
  let tc := sigClamp t.s Sig.zero (sigInt 32)
  let i : Nat := min 31 (Int.fdiv tc.scaled (2 ^ 256 : Nat)).toNat
  let fr := sigSum [tSig tc, tNeg (tSig (sigInt i))]
  let dy := sigSum [tOnly x.es (x.coef 2 (i + 1)), tNeg (tOnly x.es (x.coef 2 i))]
  let y := sigSum [tOnly x.es (x.coef 2 i), tMul dy.s fr.s]
  ⟨x.res 0 y.s, [], sumSats [d, t, fr, dy, y], y.slow⟩

def feedFwd (x : LStage) (sigs : List Sig) : StageR :=
  let d := sigSum [tSig (x.arg sigs 1), tNeg (tSig (x.lim 1))]
  let y := sigSum [tSig (x.arg sigs 0), tCoef x.es (x.coef 0 0) d.s]
  ⟨x.res 0 y.s, [], sumSats [d, y], y.slow⟩

/-- A stage other than OUTPUT. -/
def stageRun (x : LStage) (sigs st : List Sig) (fresh : Bool) : StageR :=
  match x.ty with
  | 1 => biquad x sigs st
  | 2 => pid x sigs st fresh
  | 3 => ss4 x sigs st
  | 4 => limitStage x sigs st
  | 5 => deadband x sigs
  | 6 => lut x sigs
  | _ => feedFwd x sigs

/-- A program under way in a tick: signals, state words done, cycles of its datapath, n of its last OUTPUT, results that
saturated, emissions as (class, index, value, n). -/
structure Prun where
  sigs : List Sig
  st : List (List Sig) := []
  n : Nat
  act : Nat := 0
  sats : Nat := 0
  outs : List (Nat × Nat × Int × Nat) := []
  deriving DecidableEq, Repr, Inhabited

/-- Generator values added to a signal that has just been written (R330). -/
def injAdd (inj : List (Nat × Sig)) (k : Nat) (v : Sig) : SumR :=
  let l := (inj.filter fun e => e.1 == k).map fun e => tSig e.2
  if l.isEmpty then ⟨v, false, false⟩ else sigSum (tSig v :: l)

def listSet (l : List Sig) (k : Nat) (v : Sig) : List Sig := (List.range 32).map fun i => if i = k then v else l.getD i Sig.zero

def Prun.write (inj : List (Nat × Sig)) (r : Prun) (e : Nat × Sig) : Prun :=
  let v := injAdd inj e.1 (sigBound e.2).1
  { r with sigs := listSet r.sigs e.1 v.s, sats := r.sats + b2n v.sat }

/-- The stages of a program in record order. -/
def Prun.stages (inj : List (Nat × Sig)) (fresh : Bool) : Prun → List LStage → List (List Sig) → Prun
  | r, [], _ => r
  | r, x :: t, sts =>
    let st := sts.headD []
    if x.ty = 8 then
      let v := sigToInt (x.arg r.sigs 0) (toSigned 8 (x.words.headD 0))
      let c := destClamp x.cls v
      let n := r.n + 4
      Prun.stages inj fresh { r with st := r.st ++ [[]], n := n, act := n, sats := r.sats + b2n (v != c),
                                     outs := r.outs ++ [(x.cls, x.idx, c, n)] } t (sts.drop 1)
    else
      let y := stageRun x r.sigs st fresh
      let r1 := y.ys.foldl (Prun.write inj) r
      Prun.stages inj fresh { r1 with st := r1.st ++ [y.st], n := r1.n + stageCycles x.ty + b2n y.slow, sats := r1.sats + y.sats }
        t (sts.drop 1)

/-! Inputs (R315, R318). -/

/-- An integer input's value. -/
def Side.lawInt (p : Pkg) (d : Side) (x : LIn) : Int :=
  match x.cls with
  | 3 => (if x.idx % 2 = 0 then (d.vehCh (x.idx / 2)).nx else (d.vehCh (x.idx / 2)).ny).headD 0
  | 4 => secondDiff (if x.idx % 2 = 0 then (d.vehCh (x.idx / 2)).nx else (d.vehCh (x.idx / 2)).ny)
  | 5 =>
    let e := (p.hold.port (x.idx / 3)).enc
    toSigned 32 (if x.idx % 3 = 0 then e.1 else if x.idx % 3 = 1 then e.2.1 else e.2.2)
  | 6 => d.axPos x.idx
  | _ => 0

/-- The value of an input of any class; PUB reads the signals of the last tick's runs. -/
def Side.lawVal (p : Pkg) (d : Side) (runs : Tab LRun) (x : LIn) : Sig :=
  match x.cls with
  | 1 => sigRat ((toSigned 16 (d.get (F.FOC_SDC_VAL_VALUE x.idx)) : Rat) / 32768)
  | 2 => sigRat ((toSigned 16 (d.get (F.FOC_SDC_VAL_VALUE x.idx)) : Rat) / 32768)
  | 7 => sigRat (d.axVel x.idx)
  | 8 => sigRat (d.axAcc x.idx)
  | 9 => ((tget {} runs (x.idx / 256)).sigs).getD (x.idx % 32) Sig.zero
  | _ => sigInt (d.lawInt p x)

/-- The values that a program's inputs write to signals. -/
def Side.lawInputs (p : Pkg) (d : Side) (runs : Tab LRun) : Bool → List LIn → List (Nat × Sig)
  | _, [] => []
  | skip, x :: t =>
    if skip || x.cls == 0 then d.lawInputs p runs false t
    else if x.sub then (x.sig, sigInt (d.lawInt p x - d.lawInt p (t.headD ⟨0, 0, false, 0⟩))) :: d.lawInputs p runs true t
    else (x.sig, d.lawVal p runs x) :: d.lawInputs p runs false t

/-- The last ENC frame of a port is older than 4 ENC intervals, or none has come (R318). -/
def Side.encStale (p : Pkg) (d : Side) (c : Nat) : Bool :=
  match (p.hold.port c).encAt with
  | none => true
  | some t => decide ((4 * d.get (F.BLK_CFG_ENC_FT c) * d.tim.fineNs : Nat) < tdiff (d.dev p) t)

/-! Injection (R330). -/

/-- A generator's state at an edge: a stop, a cut, a start, or its next tick; its value in the tick that begins. -/
def Side.genEdge (d : Side) (g : Nat) : Side :=
  let x := tget {} d.law.gens g
  let st := d.get (F.LAW_INJ_STATE_STATE g)
  if x.stop || (d.law.cut && (st = 1 || st = 2)) then
    ({ d with law := { d.law with gens := tset d.law.gens g {} } }).set (F.LAW_INJ_STATE_STATE g) 3
  else if st = 1 || st = 2 then
    let n := if st = 1 then 0 else x.n + 1
    let dur := d.get (F.LAW_INJ_DUR_TICKS g)
    if dur ≤ n then
      ({ d with law := { d.law with gens := tset d.law.gens g {} } }).set (F.LAW_INJ_STATE_STATE g) 3
    else
      let a := sigOf (d.get (F.LAW_INJ_AMP_A g))
      let f0 := d.get (F.LAW_INJ_F0_F g)
      let f1 := d.get (F.LAW_INJ_F1_F g)
      let wave := d.get (F.LAW_INJ_CFG_WAVE g)
      let hold := d.get (F.LAW_INJ_CFG_HOLD g)
      let phase : Nat := if n = 0 then 0
        else if wave = 1 then n * f0 % 2 ^ 32
        else ofSigned 32 ((x.phase : Int) + f0 + Int.fdiv (((f1 : Int) - f0) * ((n : Int) - 1)) dur)
      let shift := n ≠ 0 && x.hold = 0
      let reg := if n = 0 then 0x7FFF
        else if shift then (2 * x.reg + (x.reg / 2 ^ 14 + x.reg / 2 ^ 13) % 2) % 2 ^ 15 else x.reg
      let left := if n = 0 || shift then hold else x.hold - 1
      let v := match wave with
        | 0 => a
        | 3 => if reg / 2 ^ 14 % 2 = 1 then a else a.neg
        | _ => sigSine a phase
      ({ d with law := { d.law with gens := tset d.law.gens g ⟨n, phase, reg, left, v, false⟩ } }).set
        (F.LAW_INJ_STATE_STATE g) 2
  else d

/-- The generators at an edge; a plate commit that has passed stops them all and sets INJ_CUT (R330). -/
def Side.gensEdge (p : Pkg) (d : Side) : Side :=
  let d1 := (List.range 4).foldl Side.genEdge d
  ({ d1 with law := { d1.law with cut := false } }).faultIf p d.law.cut 0x160 F.LAW_STATUS_INJ_CUT

/-- Generator values that a slot's signals take in the tick. -/
def Side.slotInj (d : Side) (k : Nat) : List (Nat × Sig) :=
  ((List.range 4).filter fun g => d.get (F.LAW_INJ_STATE_STATE g) == 2 && d.get (F.LAW_INJ_CFG_PROG g) == k).map fun g =>
    (d.get (F.LAW_INJ_CFG_SIG g), (tget {} d.law.gens g).val)

/-- START: in the PLATE window (R330). -/
def Side.injStart (p : Pkg) (g : Nat) (d : Side) : Side :=
  if d.plateWindow then
    ({ d with law := { d.law with gens := tset d.law.gens g {} } }).set (F.LAW_INJ_STATE_STATE g) 1
  else d.fault p 0x160 F.LAW_STATUS_WINDOW_VIOL

def Side.injStop (g : Nat) (d : Side) : Side :=
  { d with law := { d.law with gens := tmod {} d.law.gens g fun x => { x with stop := true } } }

def execInjStart (g : Nat) (s : State) : Host.Outcome State Fault Refusal :=
  if g < 4 then .next (s.asWrite true (0x902014 + 0x20 * g) 1 (s.both fun p d => d.injStart p g)) else .next s

def execInjStop (g : Nat) (s : State) : Host.Outcome State Fault Refusal :=
  if g < 4 then .next (s.asWrite true (0x902014 + 0x20 * g) 2 (s.both fun _ d => d.injStop g)) else .next s

/-! The run of a tick (R319, R320). -/

/-- Slot k runs: cyc holds the cycles used so far on each datapath. -/
def Side.slotRun (p : Pkg) (x : LSet) (before : Tab LRun) (acc : Side × List Nat) (k : Nat) : Side × List Nat :=
  match x.progs[k]? with
  | none => acc
  | some y =>
    let d := acc.1
    let r0 := tget {} d.law.runs k
    let inj := d.slotInj k
    let w := y.written
    let base := (List.range 32).map fun i =>
      if w.contains i then ⟨r0.sigs.getD i Sig.zero, false, false⟩ else injAdd inj i (sigOf (y.init.getD i 0))
    let a : Prun := { sigs := base.map (·.s), n := acc.2.getD y.dp 0 + 2, sats := sumSats base }
    let a1 := (d.lawInputs p before false y.ins).foldl (Prun.write inj) a
    let a2 := Prun.stages inj r0.fresh a1 y.stages r0.st
    let d1 := { d with law := { d.law with runs := tset d.law.runs k ⟨a2.sigs, a2.st, false⟩ } }
    let d2 := a2.outs.foldl (fun d o => d.lawPut o.2.2.2 o.1 o.2.1 o.2.2.1) d1
    let d3 := (d2.set (F.LAW_P_ACT_N k) a2.act).inc (F.LAW_P_SAT_COUNT k) a2.sats
    let d4 := d3.faultIf p (a2.sats != 0) 0x160 F.LAW_STATUS_SAT
    let stale := y.ins.any fun i => i.cls == 5 && d.encStale p (i.idx / 3)
    let d5 := (d4.faultIf p stale 0x160 F.LAW_STATUS_ENC_STALE).faultIf p stale (0x180 + k) (F.LAW_P_STATUS_ENC_STALE k)
    (d5, (List.range 4).map fun i => if i = y.dp then a2.n else acc.2.getD i 0)

/-- The set runs once. -/
def Side.lawRun (p : Pkg) (d : Side) : Side :=
  match d.law.set with
  | none => d
  | some x =>
    if d.get F.LAW_STATUS_STATE = 1 then
      ((List.range x.progs.length).foldl (Side.slotRun p x d.law.runs) (d, [0, 0, 0, 0])).1
    else d

/-! Traces (R327 to R329). -/

/-- The slot a trace channel's source depends on. -/
def Side.traceSlot (d : Side) (t : Nat) : Nat :=
  if d.flag (F.LAW_TR_CFG_SRC t) then d.get (F.LAW_INJ_CFG_PROG (d.get (F.LAW_TR_CFG_GEN t))) else d.get (F.LAW_TR_CFG_PROG t)

/-- A trace channel is confidential. -/
def Side.traceConf (d : Side) (t : Nat) : Bool := d.slotConf (d.traceSlot t)

/-- The sample of a trace channel in the tick. -/
def Side.traceVal (d : Side) (t : Nat) : Sig :=
  if d.flag (F.LAW_TR_CFG_SRC t) then (tget {} d.law.gens (d.get (F.LAW_TR_CFG_GEN t))).val
  else ((tget {} d.law.runs (d.get (F.LAW_TR_CFG_PROG t))).sigs).getD (d.get (F.LAW_TR_CFG_SIG t)) Sig.zero

/-- The trigger of a channel holds at this edge; seen postings came before the edge (R328). -/
def Side.traceTrig (d : Side) (seen t : Nat) (x : Trc) : Bool :=
  match d.get (F.LAW_TR_CFG_TRIG t) with
  | 0 => true
  | 1 => d.get (F.LAW_INJ_STATE_STATE (d.get (F.LAW_TR_CFG_GEN t))) == 2 && (tget {} d.law.gens (d.get (F.LAW_TR_CFG_GEN t))).n == 0
  | _ => ((d.posted.take seen).drop x.mark).any fun e => e.1 == d.get (F.LAW_TR_PRE_EVENT t)

/-- A sample stored: the area's mark is set if the channel is confidential (R329). -/
def Side.traceStore (t : Nat) (d : Side) : Side :=
  let k := d.get (F.LAW_TR_COUNT_COUNT t)
  let a := 0xA00000 + 0x40000 * t + 4 * (k % 65536)
  let d1 := { d with sram := memWrite d.sram a (leBytes 4 (d.traceVal t).word) }
  let d2 := d1.set (F.LAW_TR_COUNT_COUNT t) (k + 1)
  if d.traceConf t then d2.set (F.LAW_TR_STATE_AREA_CONF t) 1 else d2

/-- A trace channel at an edge, after the set has run. -/
def Side.traceEdge (seen : Nat) (d : Side) (t : Nat) : Side :=
  let x := tget {} d.law.trcs t
  let st := d.get (F.LAW_TR_STATE_STATE t)
  let put (y : Trc) (d : Side) : Side := { d with law := { d.law with trcs := tset d.law.trcs t y } }
  if x.stop then (put {} d).set (F.LAW_TR_STATE_STATE t) 3
  else if st = 1 || st = 2 then
    let single := d.get (F.LAW_TR_CFG_MODE t) = 2
    let trig := x.trig || d.traceTrig seen t x
    let ran := d.get F.LAW_STATUS_STATE = 1
    let due := ran && x.n % 2 ^ d.get (F.LAW_TR_CFG_DECIM t) == 0 && (trig || single)
    let first := trig && due && x.since == 0
    let k := d.get (F.LAW_TR_COUNT_COUNT t)
    let d1 := if trig then d.set (F.LAW_TR_STATE_STATE t) 2 else d
    let d2 := if first then d1.set (F.LAW_TR_TRIGIDX_INDEX t) (k % 65536) else d1
    let d3 := if due then d2.traceStore t else d2
    let since := if due && trig then x.since + 1 else x.since
    let d4 := put ⟨x.n + 1, trig, since, false, 0⟩ d3
    if single && trig && 65536 - d.get (F.LAW_TR_PRE_PRE t) ≤ since then d4.set (F.LAW_TR_STATE_STATE t) 3 else d4
  else d

/-- ARM: refused while MODE is 0 (R335). -/
def Side.traceArm (p : Pkg) (t : Nat) (d : Side) : Side :=
  if d.get (F.LAW_TR_CFG_MODE t) = 0 then d.fault p 0x160 F.LAW_STATUS_WINDOW_VIOL
  else
    let d1 := { d with law := { d.law with trcs := tset d.law.trcs t { mark := d.posted.length } } }
    (d1.set (F.LAW_TR_COUNT_COUNT t) 0).set (F.LAW_TR_STATE_STATE t) 1

def Side.traceStop (t : Nat) (d : Side) : Side :=
  { d with law := { d.law with trcs := tmod {} d.law.trcs t fun x => { x with stop := true } } }

def execTraceArm (k : Nat) (s : State) : Host.Outcome State Fault Refusal :=
  if k < 16 then .next (s.asWrite true (0x901008 + 0x20 * k) 1 (s.both fun p d => d.traceArm p k)) else .next s

def execTraceStop (k : Nat) (s : State) : Host.Outcome State Fault Refusal :=
  if k < 16 then .next (s.asWrite true (0x901008 + 0x20 * k) 2 (s.both fun _ d => d.traceStop k)) else .next s

/-! The law engine's part of a control tick edge. -/

/-- The edge: the accepted set takes over, a halt acts, generators move on, the programs run, traces are sampled. ticked:
a new tick length has taken effect at this edge (R322); seen: postings that came before it. -/
def Side.lawEdge (p : Pkg) (ticked : Bool) (seen : Nat) (d : Side) : Side :=
  let d1 := d.lawSwitch
  let d2 := if d1.law.halt then ({ d1 with law := { d1.law with halt := false } }).lawHalt else d1
  let unfit := ticked && d2.get F.LAW_STATUS_STATE != 0 && decide (d2.tim.tickNs < d2.get F.LAW_MIN_TICK_NS)
  let d3 := if unfit then d2.lawHalt.fault p 0x160 F.LAW_STATUS_TICK_UNFIT else d2
  let d4 := if ticked then d3.lawLoad else d3
  (List.range 16).foldl (Side.traceEdge seen) ((d4.gensEdge p).lawRun p)

/-- The law engine's check of a plate (R326): reason and channel of the first failure. -/
def Side.lawPlateCheck (d : Side) (mdat : List Byte) : Option (Nat × Nat) :=
  if d.get F.LAW_STATUS_STATE = 2 then some (1, 0)
  else if mKind mdat = 1 then
    let l := match d.law.set with
      | some x => if d.get F.LAW_STATUS_STATE = 1 then x.outputs.map (fun (s : LStage) => (s.cls, s.idx)) else []
      | none => []
    ((mChans mdat).find? fun c => !(l.contains (1, 2 * c) && l.contains (1, 2 * c + 1))).map fun c => (2, c)
  else none

end Sys2Proof.Machine
end

