-- ==== Sys2Proof/Machine/ProcessIo.lean ====
section
/-! DEFINITION. The process I/O (R331, R332, R336): zero-cross inputs and SSR outputs. -/

namespace Sys2Proof.Machine

def Side.setPio (d : Side) (x : Pio) : Side := { d with pio := x }

/-- The SSR outputs of a zero-cross input. -/
def Side.ssrsOf (d : Side) (z : Nat) : List Nat := (List.range 8).filter fun k => d.get (F.PIO_SSR_CFG_ZX k) == z

/-- The line of an SSR goes on or off; its on-time in the tick is metered (R186). -/
def Side.ssrLine (p : Pkg) (k : Nat) (on : Bool) (d : Side) : Side :=
  match tget none d.pio.on k, on with
  | none, true => d.setPio { d.pio with on := tset d.pio.on k (some (d.dev p)) }
  | some t, false =>
    let d1 := d.setPio { d.pio with on := tset d.pio.on k none }
    { d1 with pln := { d1.pln with ssrOn := tmod 0 d1.pln.ssrOn k fun x => x + (tdiff (d.dev p) t).toNat } }
  | _, _ => d

/-- On-times up to a control tick edge are metered in the tick that ends there. -/
def Side.ssrMeter (edge : Nat) (d : Side) : Side :=
  (List.range 8).foldl (fun d k =>
    match tget none d.pio.on k with
    | none => d
    | some t =>
      let d1 := d.setPio { d.pio with on := tset d.pio.on k (some edge) }
      { d1 with pln := { d1.pln with ssrOn := tmod 0 d1.pln.ssrOn k fun x => x + (tdiff edge t).toNat } }) d

/-- An SSR is off and keeps acc 0 (R332). -/
def Side.ssrOff (p : Pkg) (k : Nat) (d : Side) : Side :=
  let d1 := ((d.set (F.PIO_SSR_STATE_ON k) 0).set (F.PIO_SSR_STATE_ACC k) 0).ssrLine p k false
  d1.setPio { d1.pio with next := tset d1.pio.next k [] }

/-- A written PIO_SSRs_CFG acts: EN 0 turns the output off. -/
def Side.ssrCfg (p : Pkg) (k : Nat) (d : Side) : Side := if d.flag (F.PIO_SSR_CFG_EN k) then d else d.ssrOff p k

/-- An SSR's half-cycle is decided (R331). -/
def Side.ssrDecide (p : Pkg) (d : Side) (k : Nat) : Side :=
  if !d.flag (F.PIO_SSR_CFG_EN k) then d
  else
    let acc := d.get (F.PIO_SSR_STATE_ACC k) + tget 0 d.law.ssr k
    let on := decide (65536 ≤ acc)
    let d1 := (d.set (F.PIO_SSR_STATE_ACC k) (if on then acc - 65536 else acc)).set (F.PIO_SSR_STATE_ON k) (b2n on)
    let d2 := if on then d1.inc (F.PIO_SSR_HALFS_COUNT k) 1 else d1
    let at_ := (d.dev p + 1000 * d.get (F.PIO_SSR_CFG_DELAY_US k)) % 2 ^ 64
    d2.setPio { d2.pio with next := tmod [] d2.pio.next k fun l => l ++ [(at_, on)] }

/-- An edge of ZXz, rising or falling: the half-cycle's length, and every SSR of the input (R331, R336). -/
def Side.zeroCross (p : Pkg) (z : Nat) (d0 : Side) : Side :=
  let d := d0.lawTake p
  let now := d.dev p
  let d1 := if tget false d.pio.seen z then d.set (F.PIO_ZX_PERIOD_NS z) (ofSigned 32 (tdiff now (tget 0 d.pio.zx z))) else d
  let ok := d1.get F.PIO_STATUS_ZX_OK
  let d2 := d1.set F.PIO_STATUS_ZX_OK (Nat.lor ok (2 ^ z))
  let d3 := d2.setPio { d2.pio with zx := tset d2.pio.zx z now, seen := tset d2.pio.seen z true, lost := tset d2.pio.lost z false }
  (d.ssrsOf z).foldl (Side.ssrDecide p) d3

def execZeroCrossEdge (z : Nat) (t : Nat) (s : State) : Host.Outcome State Fault Refusal :=
  if z < 4 then .next ((s.advance t).both fun p d => d.zeroCross p z) else .next s

/-- The SSR lines whose DELAY_US has passed are driven to their decided state (R331). -/
def Side.ssrSwitch (p : Pkg) (k : Nat) (d : Side) : Side :=
  match tget [] d.pio.next k with
  | [] => d
  | (t, on) :: rest =>
    if reached (d.dev p) t then (d.setPio { d.pio with next := tset d.pio.next k rest }).ssrLine p k on else d

def execSsrSwitch (k : Nat) (t : Nat) (s : State) : Host.Outcome State Fault Refusal :=
  if k < 8 then .next ((s.advance t).both fun p d => d.ssrSwitch p k) else .next s

/-- No edge of ZXz for 25 ms: its SSRs are off and start again from acc 0, once until the next edge (R332). -/
def Side.zxLost (p : Pkg) (z : Nat) (d : Side) : Side :=
  if !tget false d.pio.lost z && reached (d.dev p) (tget 0 d.pio.zx z + 25000000) then
    let d1 := d.set F.PIO_STATUS_ZX_OK (d.get F.PIO_STATUS_ZX_OK - (if bit (d.get F.PIO_STATUS_ZX_OK) z then 2 ^ z else 0))
    let d2 := d1.setPio { d1.pio with lost := tset d1.pio.lost z true }
    ((d.ssrsOf z).foldl (fun d k => d.ssrOff p k) d2).fault p 0x240 F.PIO_STATUS_ZX_LOST
  else d

def execZxLost (z : Nat) (t : Nat) (s : State) : Host.Outcome State Fault Refusal :=
  if z < 4 then .next ((s.advance t).both fun p d => d.zxLost p z) else .next s

end Sys2Proof.Machine
end

