-- ==== Sys2Proof/Machine/Foc.lean ====
section
/-! DEFINITION. Motor commutation and field control (spec/13): PWM carriers, sigma-delta values, field-control and stepper
units, buses. Unit u is field-control unit u below 16 and stepper unit u − 16 from 16 on. -/

namespace Sys2Proof.Machine

def Side.focU (d : Side) (u : Nat) : FocU := tget {} d.foc.us u
def Side.setFocU (d : Side) (u : Nat) (x : FocU) : Side := { d with foc := { d.foc with us := tset d.foc.us u x } }
def Side.busU (d : Side) (b : Nat) : BusU := tget {} d.foc.bus b
def Side.setBusU (d : Side) (b : Nat) (x : BusU) : Side := { d with foc := { d.foc with bus := tset d.foc.bus b x } }

/-! Fields of either kind of unit (R382, R383). -/

def isStp (u : Nat) : Bool := decide (16 ≤ u)

def uSTATE (u : Nat) : Fld := pickF F.FOC_STATUS_STATE F.FOC_STP_STATUS_STATE u
def uREASON (u : Nat) : Fld := pickF F.FOC_STATUS_REASON F.FOC_STP_STATUS_REASON u
def uLOST (u : Nat) : Fld := pickF F.FOC_STATUS_LOST F.FOC_STP_STATUS_LOST u
def uPHASE_LOST (u : Nat) : Fld := pickF F.FOC_STATUS_PHASE_LOST F.FOC_STP_STATUS_PHASE_LOST u
def uBUS_CUT (u : Nat) : Fld := pickF F.FOC_STATUS_BUS_CUT F.FOC_STP_STATUS_BUS_CUT u
def uFORCED (u : Nat) : Fld := pickF F.FOC_STATUS_FORCED F.FOC_STP_STATUS_FORCED u
def uBIND_LOST (u : Nat) : Fld := pickF F.FOC_STATUS_BIND_LOST F.FOC_STP_STATUS_BIND_LOST u
def uCAR (u : Nat) : Fld := pickF F.FOC_CFG_CAR F.FOC_STP_CFG_CAR u
def uBUS (u : Nat) : Fld := pickF F.FOC_CFG_BUS F.FOC_STP_CFG_BUS u
def uSKIP_MAX (u : Nat) : Fld := pickF F.FOC_CFG_SKIP_MAX F.FOC_STP_CFG_SKIP_MAX u
def uPRED (u : Nat) : Fld := pickF F.FOC_CFG_PRED F.FOC_STP_CFG_PRED u
def uKP (u : Nat) : Fld := pickF F.FOC_PI_KP F.FOC_STP_PI_KP u
def uKI (u : Nat) : Fld := pickF F.FOC_PI_KI F.FOC_STP_PI_KI u
def uWIN (u : Nat) : Fld := pickF F.FOC_PHASE_WIN F.FOC_STP_PHASE_WIN u
def uRATIO (u : Nat) : Fld := pickF F.FOC_PHASE_RATIO F.FOC_STP_PHASE_RATIO u
def uCOUNT (u : Nat) : Fld := pickF F.FOC_PHASE_COUNT F.FOC_STP_PHASE_COUNT u
def uIMIN (u : Nat) : Fld := pickF F.FOC_PHASE_IMIN F.FOC_STP_PHASE_IMIN u
def uSKIPPED (u : Nat) : Fld := pickF F.FOC_SKIPS_SKIPPED F.FOC_STP_SKIPS_SKIPPED u
def uFORCEDS (u : Nat) : Fld := pickF F.FOC_SKIPS_FORCED F.FOC_STP_SKIPS_FORCED u

/-- The command register of a unit. -/
def uCmdOff (u : Nat) : Nat := if u < 16 then 0xB00008 + 0x1000 * u else 0xB10008 + 0x1000 * (u - 16)

/-- The unit is present (R3). -/
def Pkg.unitOk (p : Pkg) (u : Nat) : Bool := if u < 16 then decide (u < p.focs) else decide (u - 16 < p.stps)

def Side.uState (d : Side) (u : Nat) : Nat := d.get (uSTATE u)

/-- CATCH, ALIGN or RUN. -/
def Side.uRuns (d : Side) (u : Nat) : Bool := d.uState u == 1 || d.uState u == 2 || d.uState u == 3

/-- VECTOR mode. -/
def Side.uVector (d : Side) (u : Nat) : Bool := u < 16 && d.get (F.FOC_CFG_MODE u) == 2

/-- The axis bound to the unit (R337). -/
def Side.unitAxis (d : Side) (u : Nat) : Option Nat :=
  (List.range 24).find? fun n =>
    d.get (F.MOT_CFG_UTYPE n) == (if u < 16 then 1 else 2) && d.get (F.MOT_CFG_UNIT n) == (if u < 16 then u else u - 16)

/-- Position u of the unit's axis. -/
def Side.unitPos (d : Side) (u : Nat) : Nat :=
  match d.unitAxis u with
  | some n => d.get (F.MOT_UPOS_U n)
  | none => 0

/-- An encoder is bound to the unit's axis. -/
def Side.unitEnc (d : Side) (u : Nat) : Option Nat :=
  (d.unitAxis u).bind fun n => if d.flag (F.MOT_CFG_ENC_EN n) then some (d.get (F.MOT_CFG_ENC n)) else none

/-! Carriers and outputs (R356 to R360). -/

/-- T of a carrier in ns. -/
def Side.carT (d : Side) (g : Nat) : Nat := d.get (F.FOC_CAR_CFG_PER_FT g) * d.tim.fineNs

def carInRange (t : Nat) : Bool := 10000 ≤ t && t ≤ 1000000

/-- High time, in 1/8 ns, of a period of T ns at duty D: to the nearest 0.625 ns, ties upward; below 100 ns low, within
100 ns of T high (R358). -/
def pwmHigh (duty t : Nat) : Nat :=
  let h := 5 * ((16 * duty * t + 327680) / 655360)
  if h < 800 then 0 else if 8 * t < h + 800 then 8 * t else h

/-- An output takes its duty for the period. -/
def Side.outDuty (o duty t : Nat) (d : Side) : Side :=
  { d with foc := { d.foc with duty := tset d.foc.duty o duty, high := tset d.foc.high o (pwmHigh duty t) } }

def Side.outLow (d : Side) (o : Nat) : Side := d.outDuty o 0 0

/-- First output and number of half-bridges of a unit; its bridge enable follows them (R356). -/
def unitOuts (u : Nat) : Nat × Nat := if u < 16 then (4 * u, 3) else (64 + 5 * (u - 16), 4)

/-- The unit's outputs are assigned to it (R356). -/
def Side.unitUsed (d : Side) (u : Nat) : Bool := if u < 16 then d.get (F.FOC_CFG_MODE u) != 0 else d.flag (F.FOC_STP_CFG_USE (u - 16))

/-- Every output of a unit low, if they are its own (R356, R357). -/
def Side.unitLow (u : Nat) (d : Side) : Side :=
  if d.unitUsed u then (List.range ((unitOuts u).2 + 1)).foldl (fun d k => d.outLow ((unitOuts u).1 + k)) d else d

/-- Half-bridge duties and a high bridge enable. -/
def Side.unitDrive (u t : Nat) (duties : List Nat) (d : Side) : Side :=
  let b := unitOuts u
  ((List.range b.2).foldl (fun d k => d.outDuty (b.1 + k) (duties.getD k 0) t) d).outDuty (b.1 + b.2) 65536 t

/-- The unit goes to OFF. -/
def Side.unitOff (u : Nat) (d : Side) : Side := ((d.set (uSTATE u) 0).setFocU u {}).unitLow u

/-- The unit goes to CUT with a reason (R359, R362, R374). -/
def Side.unitCut (u reason : Nat) (d : Side) : Side :=
  (((d.set (uSTATE u) 4).set (uREASON u) reason).setFocU u {}).unitLow u

/-! Current sensing (R361). -/

/-- Weight k of the sinc3 filter of ratio r, k from 0 to 3r − 3. -/
def sincW (r k : Nat) : Int :=
  let c (n : Int) : Int := if n < 0 then 0 else (n + 1) * (n + 2) / 2
  c k - 3 * c ((k : Int) - r) + 3 * c ((k : Int) - 2 * r)

/-- The filter sum over a window of modulator bits, each +1 or −1; the 3r − 2 weights stand in the window's middle. -/
def sincSum (r : Nat) : Nat → List Bool → Int
  | _, [] => 0
  | i, b :: t => (if i = 0 ∨ 3 * r - 1 ≤ i then 0 else if b then sincW r (i - 1) else -(sincW r (i - 1))) + sincSum r (i + 1) t

/-- The value of a window (R361). -/
def sdValue (r : Nat) (bs : List Bool) : Int := min 32767 (Int.fdiv (32768 * sincSum r 0 bs) (r ^ 3 : Nat))

def Side.osr (d : Side) (ch : Nat) : Nat := d.get (F.FOC_SDC_CFG_OSR ch)

/-- The last value of a channel, signed. -/
def Side.sdVal (d : Side) (ch : Nat) : Int := toSigned 16 (d.get (F.FOC_SDC_VAL_VALUE ch))

/-- Bit time of the modulators in ns. -/
def Side.bitNs (d : Side) : Nat := if d.get F.FOC_SD_CFG_CLK = 1 then 50 else 100

/-- A channel completes a window of W modulator bits: its value is stamped at the window's centre (R47). -/
def Side.sdPost (p : Pkg) (ch : Nat) (bs : List Bool) (d : Side) : Side :=
  if bs.length = 3 * d.osr ch then
    let at_ := ofSigned 64 ((d.dev p : Int) - (bs.length * d.bitNs / 2 : Nat))
    ({ d with foc := { d.foc with sdAt := tset d.foc.sdAt ch at_ } }).set (F.FOC_SDC_VAL_VALUE ch) (ofSigned 16 (sdValue (d.osr ch) bs))
  else d

/-- SD_VALUE on every side; an injection of kind 9 holds the channel at ones on its target (R495). -/
def State.sdValue (ch : Nat) (bs : List Bool) (s : State) : State :=
  let s1 := s.both fun p d => d.sdPost p ch bs
  let x := s.pkg.hold.injSide
  if s.pkg.injActing 9 && s.pkg.hold.get F.HLD_INJ_LOC_LOC == ch && s.pkg.hold.running x then
    s1.setSide x ((s1.side x).sdPost s1.pkg ch (bs.map fun _ => true))
  else s1

def execSdValue (ch : Nat) (bs : List Bool) (s : State) : Host.Outcome State Fault Refusal :=
  if ch < 64 then .next (s.sdValue ch bs) else .next s

/-- First channel of a unit's two (R361). -/
def unitCh (u : Nat) : Nat := if u < 16 then 2 * u else 32 + 2 * (u - 16)

/-- W × t_b of a unit in ns: of the longer window of its two channels. -/
def Side.winNs (d : Side) (u : Nat) : Nat := 3 * max (d.osr (unitCh u)) (d.osr (unitCh u + 1)) * d.bitNs

/-- R362: W × t_b ÷ 2 + t_b + 250 ns ≤ T ÷ 2. -/
def Side.unitFits (d : Side) (u : Nat) : Bool := decide (d.winNs u + 2 * d.bitNs + 500 ≤ d.carT (d.get (uCAR u)))

/-- W × t_b + 2 × B (R363). -/
def Side.winNeed (d : Side) (u : Nat) : Nat := d.winNs u + 20 * d.get (F.FOC_CAR_CFG_BLANK (d.get (uCAR u)))

/-- The period whose largest duty was dMax holds a clear window (R363). -/
def Side.winClear (d : Side) (u dMax : Nat) : Bool := decide (65536 * d.winNeed u ≤ (65536 - dMax) * d.carT (d.get (uCAR u)))

/-- D_lim (R364). -/
def Side.dLim (d : Side) (u : Nat) : Nat :=
  let t := d.carT (d.get (uCAR u))
  65536 - ceilDiv (65536 * d.winNeed u) (max t 1)

/-- i_pred (R364). -/
def predict (i ref : Int) (pred : Nat) : Int := i + Int.fdiv ((ref - i) * pred) 256

/-! Commands (R369). -/

/-- A bus's voltage as value × VFS, in 0.1 V × 32,768 (R371). -/
def Side.busV (d : Side) (b : Nat) : Int := d.sdVal (d.get (F.FOC_BUS_CFG_VCH b)) * d.get (F.FOC_BUS_SCALE_VFS b)

/-- What the bus read at the last fine-tick boundary, in the same unit (R371). -/
def Side.busRead (d : Side) (b : Nat) : Int := (d.busU b).v

/-- The bus read at or above a threshold in 0.1 V. -/
def Side.busAtLeast (d : Side) (b x : Nat) : Bool := decide ((32768 * x : Nat) ≤ d.busRead b)

/-- The first reason that refuses ENABLE. -/
def Side.enableBad (d : Side) (u : Nat) : Option Nat :=
  let b := d.get (uBUS u)
  if (if u < 16 then d.get (F.FOC_CFG_MODE u) == 0 else !d.flag (F.FOC_STP_CFG_USE (u - 16))) then some 1
  else if (d.unitAxis u).isNone then some 2
  else if d.uVector u && (d.unitEnc u).isNone then some 3
  else if u < 16 && d.get (F.FOC_CFG_MODE u) == 1 && d.flag (F.FOC_CFG_CATCH u) && d.get (F.FOC_CATCH_TGT u) != 0 then some 4
  else if !d.unitFits u then some 5
  else if d.uState u ≠ 0 then some 6
  else if d.busAtLeast b (d.get (F.FOC_BUS_VLIM2_V_HARD b)) then some 7
  else none

def Side.unitRefuse (p : Pkg) (u reason : Nat) (d : Side) : Side :=
  (d.set (uREASON u) reason).fault p (srcUnit u) (uWINDOW_VIOL u)

def Side.unitCmd (u c : Nat) (d : Side) : Side := d.setFocU u { d.focU u with cmds := (d.focU u).cmds ++ [c] }

def Side.focEnable (p : Pkg) (u : Nat) (d : Side) : Side :=
  match d.enableBad u with
  | some r => d.unitRefuse p u r
  | none => d.unitCmd u 0

def Side.focClear (p : Pkg) (u : Nat) (d : Side) : Side :=
  let b := d.get (uBUS u)
  if d.uState u ≠ 4 || d.busAtLeast b (d.get (F.FOC_BUS_VLIM1_V_OFF b)) then d.unitRefuse p u 8 else d.unitCmd u 2

def execEnable (u : Nat) (s : State) : Host.Outcome State Fault Refusal :=
  if u < 24 && s.pkg.unitOk u then .next (s.asWrite true (uCmdOff u) 1 (s.both fun p d => d.focEnable p u)) else .next s

def execDisable (u : Nat) (s : State) : Host.Outcome State Fault Refusal :=
  if u < 24 && s.pkg.unitOk u then .next (s.asWrite true (uCmdOff u) 2 (s.both fun _ d => d.unitCmd u 1)) else .next s

def execClear (u : Nat) (s : State) : Host.Outcome State Fault Refusal :=
  if u < 24 && s.pkg.unitOk u then .next (s.asWrite true (uCmdOff u) 4 (s.both fun p d => d.focClear p u)) else .next s

/-- Rotor angle of a raw count (R365). -/
def Side.rotor (d : Side) (u c : Nat) : Nat :=
  (c * d.get (F.FOC_KANG_K u) + 65536 * d.get (F.FOC_ANGOFS_OFS u)) % 2 ^ 32 / 65536

/-- A command acts at the period start. The count latched for an earlier window is not known of a unit that was OFF: the present one
stands for it (log entry 165). -/
def Side.unitAct (p : Pkg) (u : Nat) (d : Side) (c : Nat) : Side :=
  let st := d.uState u
  let now := d.dev p
  if c = 0 then
    if st ≠ 0 then d
    else
      let lat := if d.uVector u then (match d.unitEnc u with | some e => (d.enc e).count | none => 0) else d.unitPos u
      let x : FocU := { u := d.unitPos u, lat := lat, latAt := now, start := ofSigned 64 ((now : Int) - d.carT (d.get (uCAR u))),
                        alignAt := now, uSince := now, ang := if d.uVector u then d.rotor u lat else 0,
                        field := 64 * (d.unitPos u % 1024), cn := 0 }
      let to_ := if u < 16 && d.flag (F.FOC_CFG_CATCH u) then 1 else if u < 16 && d.get (F.FOC_CFG_MODE u) = 1 then 2 else 3
      (d.set (uSTATE u) to_).setFocU u x
  else if c = 1 then (if st = 4 then d else d.unitOff u)
  else if st = 4 then d.unitOff u else d

/-! The loop of a period (R363 to R368, R373). -/

/-- The sign of an integer. -/
def sgn (i : Int) : Int := if 0 < i then 1 else if i < 0 then -1 else 0

/-- adv(ω) (R367). -/
def Side.advance_ (d : Side) (u : Nat) (w : Int) : Int :=
  let step := max 1 (d.get (F.FOC_ADV_CFG_ADV_STEP u))
  let a (k : Nat) : Int := toSigned 16 (d.get (if k % 2 = 0 then F.FOC_ADV_EVEN u (k / 2) else F.FOC_ADV_ODD u (k / 2)))
  let m := min w.natAbs (15 * step)
  let k := min 14 (m / step)
  let num := a k * step + (a (k + 1) - a k) * ((m : Int) - k * step)
  sgn w * Int.tdiv num step

/-- A turn of w Hz over t ns, in 2^−16 turn. -/
def turnOver (site : Nat) (w : Rat) (t : Nat) : Int := rounded site (w * t * 65536 / 1000000000)

def norm16 (i : Int) : Nat := (i % 65536).toNat

/-- The encoder count latched for the centre, as an angle at the centre: extrapolated at ω. -/
def Side.rotorAt (d : Side) (u : Nat) (x : FocU) (t : Nat) (w : Int) : Nat :=
  norm16 ((d.rotor u x.lat : Int) + turnOver 11 w (tdiff (x.start + t / 2) x.latAt).toNat)

/-- P_u in W (R373). -/
def Side.regenLimit (d : Side) (u : Nat) : Nat :=
  let b := d.get (uBUS u)
  let v : Rat := (d.busRead b : Rat) / 327680
  let vs : Rat := (d.get (F.FOC_BUS_VLIM2_V_SOFT b) : Rat) / 10
  let pb : Nat := if d.flag (F.FOC_BUS_STATUS_NOCHOP b)
    then ((d.get (F.FOC_BUS_CAP_CAP b) : Rat) / 1000000 * (vs * vs - v * v) * 1000 /
      (2 * (max 1 (d.get (F.FOC_BUS_CAP_HORIZON b)) : Nat))).floor.toNat
    else d.get (F.FOC_BUS_PCHOP_W b)
  pb * d.get (F.FOC_CFG_REGEN_SHARE u) / 256

/-- p in W (R373). -/
def Side.unitPower (d : Side) (u : Nat) (vd vq : Rat) (id iq : Int) : Rat :=
  3 / 2 * ((d.busRead (d.get (uBUS u)) : Rat) / 327680) * ((d.get (F.FOC_IFS_MA u) : Rat) / 1000) * (vd * id + vq * iq) / 2 ^ 30

/-! Transforms of field control (R365, R366), exact but for the sine cut to 2^−128 and √3 cut to 2^−125 (log entry 40). -/

/-- √3, cut to 2^−125. -/
def root3 : Rat := (isqrt (3 * 2 ^ 250) : Rat) / 2 ^ 125

/-- Sine and cosine of an angle in 2^−16 turn. -/
def angSin (a : Nat) : Rat := (sinTurn a 16 : Rat) / 2 ^ 128
def angCos (a : Nat) : Rat := angSin (a + 16384)

/-- Phase currents i_U and i_V as i_d and i_q at an angle (R366, step 1). -/
def park (iu iv : Int) (a : Nat) : Int × Int :=
  let al : Rat := iu
  let be : Rat := (iu + 2 * iv : Int) / root3
  (rounded 1 (al * angCos a + be * angSin a), rounded 2 (be * angCos a - al * angSin a))

/-- A vector (d, q) at an angle as the phases U, V and W (R366, steps 4 and 5; R370). -/
def phases (d q : Rat) (a : Nat) : Rat × Rat × Rat :=
  let al := d * angCos a - q * angSin a
  let be := d * angSin a + q * angCos a
  (al, (root3 * be - al) / 2, (-al - root3 * be) / 2)

/-- The reference (0, q) turned ahead by an angle in 2^−16 turn (R366). -/
def turnRef (q adv : Int) : Int × Int :=
  let a := norm16 adv
  (rounded 3 (-(q : Rat) * angSin a), rounded 4 ((q : Rat) * angCos a))

/-- A voltage vector of larger magnitude scaled to 18,918, direction kept (R366, step 3). -/
def limitV (vd vq : Rat) : Rat × Rat :=
  let k := 18918 / sqrtR (vd * vd + vq * vq)
  (vd * k, vq * k)

/-- The duty D_x of a phase voltage, given the sum of the largest and the smallest one (R366, step 5). -/
def dutyOf (y mm : Rat) : Nat := (clampI 0 65535 (rounded 5 (32768 + 2 * y - mm))).toNat

/-- How far an angle in 2^−32 turn, below half a turn, goes before it passes (α, β): the largest c, built from bit k down. -/
def angleBits (al be : Rat) : Nat → Nat → Nat
  | 0, c => c
  | k + 1, c =>
    let e := c + 2 ^ k
    let s : Rat := sinTurn e 32
    let o : Rat := sinTurn (e + 2 ^ 30) 32
    angleBits al be k (if 0 ≤ o * be - s * al then e else c)

/-- The angle of the current vector of phase currents i_U and i_V in 2^−16 turn (R375); a zero vector has none stated. -/
def vectorAngle (iu iv : Int) : Nat :=
  let al : Rat := iu
  let be : Rat := (iu + 2 * iv : Int) / root3
  if al = 0 && be = 0 then norm16 (Config.round 9 0)
  else
    let neg := decide (be < 0) || (be = 0 && decide (al < 0))
    let c := if neg then angleBits (-al) (-be) 31 0 + 2 ^ 31 else angleBits al be 31 0
    norm16 (rounded 7 ((c : Rat) / 65536))

/-- The current vector of phase currents i_U and i_V is shorter than m (R375). -/
def vectorBelow (iu iv : Int) (m : Nat) : Bool := decide (3 * iu * iu + (iu + 2 * iv) * (iu + 2 * iv) < 3 * (m : Int) * m)

/-- Duties lowered to force a window, and whether they are (R364). -/
def Side.forceWin (d : Side) (u skips : Nat) (l : List Nat) : List Nat × Bool :=
  let m := l.foldl max 0
  let lim := d.dLim u
  if d.get (uSKIP_MAX u) ≤ skips && lim < m then (l.map fun x => x - (m - lim), true) else (l, false)

/-- Reference magnitude below IMIN × IFS ÷ 256 (R370). -/
def refSmall (r1 r2 : Int) (imin : Nat) : Bool := decide (r1 * r1 + r2 * r2 < ((128 * imin) ^ 2 : Nat))

/-- Missing-phase accounting of a period in RUN (R370): measured and reference currents by phase, none in a skip. -/
def Side.phaseWatch (p : Pkg) (u : Nat) (small : Bool) (meas : Option (List Nat × List Nat)) (d : Side) : Side :=
  let x := d.focU u
  let win := d.get (uWIN u)
  if win = 0 || d.uState u ≠ 3 then d
  else if small then d.setFocU u { x with win := 0, sumI := [0, 0, 0], sumR := [0, 0, 0] }
  else
    let add (a b : List Nat) : List Nat := (List.range 3).map fun k => a.getD k 0 + b.getD k 0
    let si := match meas with | some m => add x.sumI m.1 | none => x.sumI
    let sr := match meas with | some m => add x.sumR m.2 | none => x.sumR
    if x.win + 1 < win then d.setFocU u { x with win := x.win + 1, sumI := si, sumR := sr }
    else
      let susp := (List.range 3).map fun k =>
        if 256 * si.getD k 0 < d.get (uRATIO u) * sr.getD k 0 then x.susp.getD k 0 + 1 else 0
      let d1 := d.setFocU u { x with win := 0, sumI := [0, 0, 0], sumR := [0, 0, 0], susp := susp }
      match (List.range 3).find? fun k => decide (0 < susp.getD k 0) && decide (d.get (uCOUNT u) ≤ susp.getD k 0) with
      | none => d1
      | some k => ((d1.unitCut u (d1.get (uREASON u))).set (uLOST u) k).fault p (srcUnit u) (uPHASE_LOST u)

/-- The axes and reference of a period: angle at the centre, speed, reference (d, q). -/
structure FocRef where
  ang : Nat
  w : Int
  d : Int
  q : Int

/-- The references by mode and state (R365, R366, R368, R376, R377). -/
def Side.focRef (d : Side) (u t : Nat) : FocRef :=
  let x := d.focU u
  let iang : Int := d.get (F.FOC_IANG_I u)
  let cut (q : Int) : Int := match x.lim with
    | some r => sgn q * ((q.natAbs : Rat) * r).floor
    | none => q
  if d.uState u = 2 then ⟨x.field, 0, iang, 0⟩
  else if d.uVector u then
    let a := d.rotor u x.lat
    let w := Config.speed x.omega (toSigned 16 (a + 65536 - x.ang)) t
    let c := d.rotorAt u x t w
    let q := if d.uState u = 3 then cut (tget 0 d.law.iref u)
      else cut (clampI (-iang) iang (rounded 12 ((d.get (F.FOC_ADV_CFG_KSPD u) : Rat) * (x.ramp - w) / 256)))
    let r := turnRef q (d.advance_ u w)
    ⟨c, w, r.1, r.2⟩
  else if d.uState u = 1 then ⟨x.field, rounded 13 x.ramp, iang, 0⟩
  else
    let w := rounded 14 ((sdiff32 x.lat x.u : Rat) * 1000000000 / (1024 * (max 1 t : Nat)))
    ⟨norm16 ((64 * (x.lat % 1024) : Nat) + d.advance_ u w), w, iang, 0⟩

/-- Field control over a period: currents measured or predicted, PI, limit, duties, power, missing phase. -/
def Side.focLoop (p : Pkg) (u t : Nat) (d : Side) : Side :=
  let x := d.focU u
  let r := d.focRef u t
  let iu := d.sdVal (unitCh u)
  let iv := d.sdVal (unitCh u + 1)
  let ok := x.forced || d.winClear u x.dMax
  let i := if ok then park iu iv r.ang else (predict x.i1 x.r1 (d.get (uPRED u)), predict x.i2 x.r2 (d.get (uPRED u)))
  let skips := if ok then 0 else x.skips + 1
  let kp : Rat := d.get (uKP u)
  let ki : Rat := d.get (uKI u)
  let vd := kp * (r.d - i.1 : Int) / 4096 + x.int1
  let vq := kp * (r.q - i.2 : Int) / 4096 + x.int2
  let lim := decide ((18918 * 18918 : Rat) < vd * vd + vq * vq)
  let v := if lim then limitV vd vq else (vd, vq)
  let n1 := if lim then x.int1 else x.int1 + ki * (r.d - i.1 : Int) / 65536
  let n2 := if lim then x.int2 else x.int2 + ki * (r.q - i.2 : Int) / 65536
  let ph := phases v.1 v.2 (norm16 ((r.ang : Int) + turnOver 15 r.w t))
  let mm := max ph.1 (max ph.2.1 ph.2.2) + min ph.1 (min ph.2.1 ph.2.2)
  let fw := d.forceWin u skips [dutyOf ph.1 mm, dutyOf ph.2.1 mm, dutyOf ph.2.2 mm]
  let vec := d.uVector u
  let pw := d.unitPower u v.1 v.2 i.1 i.2
  let pu := d.regenLimit u
  let hot := vec && decide (pw < -(pu : Rat))
  let rp := phases x.r1 x.r2 r.ang
  let meas := if ok then some ([iu.natAbs, iv.natAbs, (iu + iv).natAbs], [rp.1, rp.2.1, rp.2.2].map fun r => (rounded 6 r).natAbs) else none
  let small := refSmall x.r1 x.r2 (d.get (uIMIN u))
  let y : FocU := { x with i1 := i.1, i2 := i.2, r1 := r.d, r2 := r.q, int1 := n1, int2 := n2, omega := r.w,
                           ang := if vec then d.rotor u x.lat else r.ang, u := x.lat, skips := if fw.2 then 0 else skips, dMax := fw.1.foldl max 0,
                           forced := fw.2, start := d.dev p, lim := if hot then some ((pu : Rat) / -pw) else none,
                           ran := d.uState u == 3 }
  let d1 := (d.setFocU u y).unitDrive u t fw.1
  let d2 := if ok then d1 else d1.inc (uSKIPPED u) 1
  let d3 := if fw.2 then (d2.inc (uFORCEDS u) 1).fault p (srcUnit u) (uFORCED u) else d2
  let d4 := (d3.set (F.FOC_IDQ_ID u) (ofSigned 16 i.1)).set (F.FOC_IDQ_IQ u) (ofSigned 16 i.2)
  let d5 := (d4.set (F.FOC_SPEED_HZ u) (ofSigned 16 r.w)).set (F.FOC_SPEED_ANGLE u) r.ang
  let d6 := (d5.set (F.FOC_REGEN_W u) (if vec then ofSigned 32 (rounded 16 pw) else 0)).set (F.FOC_STATUS_REGEN_LIM u) (b2n hot)
  if x.ran then d6.phaseWatch p u small meas else d6

/-! Catching (R375, R376). -/

/-- The unit enters ALIGN at a field angle. -/
def Side.enterAlign (p : Pkg) (u field : Nat) (caught : Bool) (d : Side) : Side :=
  (d.set (uSTATE u) 2).setFocU u { d.focU u with field := field, caught := caught, alignAt := d.dev p }

def Side.catchFail (p : Pkg) (u : Nat) (d : Side) : Side := (d.unitOff u).fault p (srcUnit u) (F.FOC_STATUS_CATCH_FAIL u)

/-- Changes of the measured angles, oldest first: the angles come newest first. -/
def angleSteps : List Nat → List Int
  | a :: b :: t => angleSteps (b :: t) ++ [toSigned 16 (a + 65536 - b)]
  | _ => []

/-- The rotor is found at rest, or turning at w from an angle. -/
def Side.caughtAt (p : Pkg) (u : Nat) (w : Int) (ang : Nat) (d : Side) : Side :=
  let x := d.focU u
  if w.natAbs < d.get (F.FOC_CATCH2_REST_HZ u) then
    if d.uVector u then d.set (uSTATE u) 3 else d.enterAlign p u (64 * (d.unitPos u % 1024)) false
  else d.setFocU u { x with turning := true, ramp := w, omega := w, field := ang, ang := ang }

/-- The measurement of a period, and its finding after the eighth. -/
def Side.catchMeasure (p : Pkg) (u t : Nat) (d : Side) : Side :=
  let x := d.focU u
  let n := x.cn + 1
  match d.unitEnc u with
  | some e =>
    let c := (d.enc e).count
    let d1 := d.setFocU u { x with cn := n, start := d.dev p, c0 := if n = 1 then c else x.c0 }
    if n < 9 then d1
    else
      let w := rounded 17 ((sdiff32 c x.c0 * d.get (F.FOC_KANG_K u) : Int) * 1000000000 / (2 ^ 32 * (8 * max 1 t : Nat)))
      d1.caughtAt p u w (d.rotorAt u x t w)
  | none =>
    let iu := d.sdVal (unitCh u)
    let iv := d.sdVal (unitCh u + 1)
    let angs := if n = 1 then [] else vectorAngle iu iv :: x.angs
    let still := n = 1 || (x.still && vectorBelow iu iv (d.get (F.FOC_CATCH2_IMIN u)))
    let d1 := d.setFocU u { x with cn := n, start := d.dev p, angs := angs, still := still }
    if n < 9 then d1
    else if still then d1.caughtAt p u 0 0
    else
      let l := angleSteps angs
      let bad := l.any (fun a => decide (16384 < a.natAbs)) || l.any fun a => l.any fun b => decide (a * b < 0)
      if bad then d1.catchFail p u
      else
        let w := rounded 18 ((l.sum : Rat) / 7 * 1000000000 / (65536 * (max 1 t : Nat)))
        d1.caughtAt p u w (norm16 ((angs.headD 0 : Int) + 32768 - sgn w * 16384 + turnOver 19 w (t / 2)))

/-- What the bridge does while the rotor is measured: off with an encoder; else all half-bridges low and the enable high for
ZV × 10 ns. -/
def Side.catchDrive (u : Nat) (d : Side) : Side :=
  let d1 := d.unitLow u
  if (d.unitEnc u).isSome then d1
  else { d1 with foc := { d1.foc with high := tset d1.foc.high (4 * u + 3) (80 * d.get (F.FOC_CATCH2_ZV u)) } }

/-- The ramp of a rotor that is caught while turning (R376). -/
def Side.catchRamp (p : Pkg) (u t : Nat) (d : Side) : Side :=
  let x := d.focU u
  let tgt : Rat := toSigned 16 (d.get (F.FOC_CATCH_TGT u))
  let step : Rat := (d.get (F.FOC_CATCH_ACC u) * t : Nat) / 1000000
  let ramp := if x.lim.isSome then x.ramp else if tgt < x.ramp then max tgt (x.ramp - step) else min tgt (x.ramp + step)
  if d.uVector u then
    let d1 := d.setFocU u { x with ramp := ramp }
    if ramp = tgt && decide (|(x.omega : Rat) - tgt| < (d.get (F.FOC_CATCH2_REST_HZ u) : Rat))
    then (d1.set (uSTATE u) 3).fault p (srcUnit u) (F.FOC_STATUS_CATCH_DONE u) else d1
  else
    let field := norm16 ((x.field : Int) + turnOver 20 x.ramp t)
    let d1 := d.setFocU u { x with ramp := ramp, field := field }
    if ramp = 0 then d1.enterAlign p u field true else d1

/-- ALIGN ends (R377): after a catch u is set to name the field, if the axis is IDLE. -/
def Side.alignDone (p : Pkg) (u : Nat) (d : Side) : Side :=
  let x := d.focU u
  if d.uState u ≠ 2 || !reached (d.dev p) (x.alignAt + 1000000 * d.get (F.FOC_IANG_ALIGN_MS u)) then d
  else if !x.caught then d.set (uSTATE u) 3
  else match d.unitAxis u with
    | none => d.catchFail p u
    | some n =>
      if d.motState n ≠ 0 then d.catchFail p u
      else
        let pos := d.get (F.MOT_UPOS_U n)
        let dd := toSigned 10 (x.field / 64 + 1024 - pos % 1024)
        (d.set (F.MOT_UPOS_U n) (ofSigned 32 ((pos : Int) + dd))).set (uSTATE u) 3

def execAlignDone (f : Nat) (t : Nat) (s : State) : Host.Outcome State Fault Refusal :=
  if f < s.pkg.focs then .next ((s.advance t).both fun p d => d.alignDone p f) else .next s

/-! Steppers (R378, R379). -/

/-- Entry k of the built-in table. -/
def stpBuiltIn (k : Nat) : Int × Int :=
  (divEven (32767 * sinTurn (k + 256) 10) (2 ^ 128), divEven (32767 * sinTurn k 10) (2 ^ 128))

def Side.stpEntry (d : Side) (s k : Nat) : Int × Int :=
  match tget [] d.foc.tbl s with
  | [] => stpBuiltIn k
  | l => (toSigned 16 (leAt l (4 * k) 2), toSigned 16 (leAt l (4 * k + 2) 2))

/-- One phase's PI: voltage held to ±32,767, and the integrator (R366, R379). -/
def phasePi (kp ki e : Rat) (integ : Rat) : Rat × Rat :=
  let v := kp * e / 4096 + integ
  if 32767 < v then (32767, integ) else if v < -32767 then (-32767, integ) else (v, integ + ki * e / 65536)

/-- A stepper unit over a period. -/
def Side.stpLoop (p : Pkg) (u t : Nat) (d : Side) : Side :=
  let x := d.focU u
  let s := u - 16
  let pos := d.unitPos u
  let hold := reached (d.dev p) (x.uSince + 1000000 * d.get (F.FOC_STP_HOLD_HOLD_MS s))
  let amp := if hold then d.get (F.FOC_STP_CUR_I_HOLD s) else d.get (F.FOC_STP_CUR_I_RUN s)
  let e := d.stpEntry s (pos % 1024)
  let ra := rounded 21 ((e.1 * amp : Int) / 32768)
  let rb := rounded 22 ((e.2 * amp : Int) / 32768)
  let ma := d.sdVal (unitCh u)
  let mb := d.sdVal (unitCh u + 1)
  let ok := x.forced || d.winClear u x.dMax
  let ia := if ok then ma else predict x.i1 x.r1 (d.get (uPRED u))
  let ib := if ok then mb else predict x.i2 x.r2 (d.get (uPRED u))
  let skips := if ok then 0 else x.skips + 1
  let va := phasePi (d.get (uKP u)) (d.get (uKI u)) (ra - ia : Int) x.int1
  let vb := phasePi (d.get (uKP u)) (d.get (uKI u)) (rb - ib : Int) x.int2
  let plus (v : Rat) : Nat := (32768 + (v * 32767 / 32768).floor).toNat
  let fw := d.forceWin u skips [plus va.1, 65536 - plus va.1, plus vb.1, 65536 - plus vb.1]
  let meas := if ok then some ([ma.natAbs, mb.natAbs, 0], [x.r1.natAbs, x.r2.natAbs, 0]) else none
  let small := refSmall x.r1 x.r2 (d.get (uIMIN u))
  let y : FocU := { x with i1 := ia, i2 := ib, r1 := ra, r2 := rb, int1 := va.2, int2 := vb.2, u := pos,
                           skips := if fw.2 then 0 else skips, dMax := fw.1.foldl max 0, forced := fw.2, start := d.dev p, ran := true }
  let d1 := (d.setFocU u y).unitDrive u t fw.1
  let d2 := if ok then d1 else d1.inc (uSKIPPED u) 1
  let d3 := if fw.2 then (d2.inc (uFORCEDS u) 1).fault p (srcUnit u) (uFORCED u) else d2
  let d4 := (d3.set (F.FOC_STP_IAB_IA s) (ofSigned 16 ia)).set (F.FOC_STP_IAB_IB s) (ofSigned 16 ib)
  let d5 := d4.set (F.FOC_STP_STATUS_HOLDING s) (b2n hold)
  if x.ran then d5.phaseWatch p u small meas else d5

/-- A unit at the start of its carrier's period: commands, the check of R362, then its state's work. -/
def Side.unitPeriod (p : Pkg) (t : Nat) (d : Side) (u : Nat) : Side :=
  let cs := (d.focU u).cmds
  let d0 := d.setFocU u { d.focU u with cmds := [] }
  let d1 := cs.foldl (Side.unitAct p u) d0
  if !d1.uRuns u then d1
  else if !d1.unitFits u then d1.unitCut u 5
  else if isStp u then d1.stpLoop p u t
  else if d1.uState u = 1 && !(d1.focU u).turning then
    let d2 := d1.catchMeasure p u t
    if d2.uState u = 1 && !(d2.focU u).turning then d2.catchDrive u
    else if d2.uRuns u then d2.focLoop p u t else d2
  else if d1.uState u = 1 then
    let d2 := d1.catchRamp p u t
    d2.focLoop p u t
  else d1.focLoop p u t

/-- At a boundary: position or count latched for the centre of the running period (R365); a stepper's last change of u (R379). -/
def Side.unitLatch (p : Pkg) (d : Side) (u : Nat) : Side :=
  if isStp u then
    let x := d.focU u
    if d.uRuns u && x.lat != d.unitPos u then d.setFocU u { x with lat := d.unitPos u, uSince := d.dev p } else d
  else
  let g := d.get (uCAR u)
  let since := d.foc.n + 1 - tget 0 d.foc.car g
  if d.uRuns u && 2 * since ≤ d.get (F.FOC_CAR_CFG_PER_FT g) then
    let x := d.focU u
    d.setFocU u { x with latAt := d.dev p, lat := if d.uVector u then
      (match d.unitEnc u with | some e => (d.enc e).count | none => 0) else d.unitPos u }
  else d

/-- Carrier g starts a period at its boundary (R358): its units act, and its free outputs take the last duty that has
reached the output hold stage (R319, R360). -/
def Side.carrierStart (p : Pkg) (g : Nat) (d0 : Side) : Side :=
  let d := d0.lawTake p
  let per := d.get (F.FOC_CAR_CFG_PER_FT g)
  let t := d.carT g
  if per ≠ 0 && d.foc.n % per = 0 && tget 0 d.foc.car g ≠ d.foc.n + 1 && carInRange t && !d.flag (F.FOC_CAR_CFG_RANGE_BAD g) then
    let d1 := { d with foc := { d.foc with car := tset d.foc.car g (d.foc.n + 1) } }
    let us := (List.range 24).filter fun u => p.unitOk u && d1.get (uCAR u) == g
    let d2 := us.foldl (Side.unitLatch p) (us.foldl (Side.unitPeriod p t) d1)
    let outs := (List.range 128).filter fun o => d2.outFree o && d2.get (F.FOC_OUT_CFG_CAR o) == g
    outs.foldl (fun d o => d.outDuty o (tget 0 d.law.duty o) t) d2
  else d

def execCarrierPeriodStart (g : Nat) (s : State) : Host.Outcome State Fault Refusal :=
  if g < 8 then .next (s.both fun p d => d.carrierStart p g) else .next s

/-! Fine-tick work: range of the carriers, buses, latches (R359, R371, R372, R374). -/

/-- A carrier whose period has left or entered its range (R359). -/
def Side.carrierRange (p : Pkg) (d : Side) (g : Nat) : Side :=
  let ok := carInRange (d.carT g)
  if !ok && !d.flag (F.FOC_CAR_CFG_RANGE_BAD g) then
    let us := (List.range 24).filter fun u => p.unitOk u && d.get (uCAR u) == g
    let outs := (List.range 128).filter fun o => d.outFree o && d.get (F.FOC_OUT_CFG_CAR o) == g
    outs.foldl Side.outLow (us.foldl (fun d u => d.unitCut u 5) (d.set (F.FOC_CAR_CFG_RANGE_BAD g) 1))
  else if ok && d.flag (F.FOC_CAR_CFG_RANGE_BAD g) then d.set (F.FOC_CAR_CFG_RANGE_BAD g) 0
  else d



/-- The chopper of a bus (R371, R372). -/
def Side.chopper (p : Pkg) (b : Nat) (d : Side) : Side :=
  let x := d.busU b
  let was := d.flag (F.FOC_BUS_STATUS_CHOP_ON b)
  let on := d.flag (F.FOC_BUS_CFG_CHOP_EN b) && (d.busAtLeast b (d.get (F.FOC_BUS_VLIM1_V_ON b)) ||
    (was && decide ((32768 * d.get (F.FOC_BUS_VLIM1_V_OFF b) : Nat) < d.busRead b)))
  let since := if on && was then x.since + 1 else 0
  let cifs := d.get (F.FOC_BUS_SCALE_CIFS b)
  let check := on && was && decide (d.get (F.FOC_BUS_PCHOP_SETTLE b) ≤ since)
  let fails := decide (256 * d.sdVal (d.get (F.FOC_BUS_CFG_ICH b)) * cifs < (32768 * d.get (F.FOC_BUS_PCHOP_CIMIN b) * cifs : Nat))
  let bad := if check && fails then x.bad + 1 else if check || !on then 0 else x.bad
  let d1 := (d.setBusU b { x with since := since, bad := bad }).set (F.FOC_BUS_STATUS_CHOP_ON b) (b2n on)
  let d2 := if d.flag (F.FOC_BUS_CFG_CHOP_EN b) then
    { d1 with foc := { d1.foc with duty := tset d1.foc.duty (104 + b) (if on then 65536 else 0) } } else d1
  if check && fails && bad = 3 then (d2.set (F.FOC_BUS_STATUS_NOCHOP b) 1).fault p (srcBus b) (F.FOC_BUS_STATUS_CHOP_FAULT b) else d2

/-- A bus at a boundary: its voltage, its chopper, and the cut at V_HARD (R374). -/
def Side.busWatch (p : Pkg) (d : Side) (b : Nat) : Side :=
  let d0 := d.setBusU b { d.busU b with v := d.busV b }
  let d1 := (d0.set (F.FOC_BUS_STATUS_V b) (ofSigned 16 (rounded 23 ((d0.busRead b : Rat) / 32768)))).chopper p b
  let hard := d0.busAtLeast b (d0.get (F.FOC_BUS_VLIM2_V_HARD b))
  let first := hard && !(d0.busU b).hard
  let d2 := d1.setBusU b { d1.busU b with hard := hard }
  if !first then d2
  else
    let us := (List.range 24).filter fun u => p.unitOk u && d2.get (uBUS u) == b && d2.uState u != 0
    (us.foldl (fun d u => (d.unitCut u 7).fault p (srcUnit u) (uBUS_CUT u)) d2).fault p (srcBus b) (F.FOC_BUS_STATUS_HARD b)

/-- Products of neighbouring channels summed for the jars that meter them (R186). -/
def Side.sdMeter (d : Side) : Side :=
  let chs := ((List.range 32).filter fun j => d.get (F.PLN_JAR_CFG_SRC j) == 4).map fun j => d.get (F.PLN_JAR_CFG_INDEX j)
  let pr := chs.eraseDups.foldl (fun (t : Tab Int) ch => tmod 0 t ch fun x => x + d.sdVal ch * d.sdVal (ch + 1)) d.foc.prod
  { d with foc := { d.foc with prod := pr, prodN := d.foc.prodN + 1 } }

/-- Mean product of channels ch and ch + 1 over the tick, as fractions of full scale. -/
def Side.sdMean (d : Side) (ch : Nat) : Rat :=
  if d.foc.prodN = 0 then 0 else ((tget 0 d.foc.prod ch : Int) : Rat) / (d.foc.prodN : Nat) / 1073741824

/-- Duty of a PWM output as a fraction. -/
def Side.pwmFrac (d : Side) (o : Nat) : Rat := ((tget 0 d.foc.duty o : Nat) : Rat) / 65536

/-- Stepper tables that wait take effect (R378). -/
def Side.tblSwitch (d : Side) (s : Nat) : Side :=
  let e := tget ([], 0) d.foc.tblNext s
  if e.1.isEmpty then d
  else ({ d with foc := { d.foc with tbl := tset d.foc.tbl s e.1, tblNext := tset d.foc.tblNext s ([], 0) } }).set
    (F.FOC_STP_TBL_CRC_CRC s) e.2

/-- Field control's work at a fine-tick boundary. -/
def Side.focFine (p : Pkg) (d : Side) : Side :=
  let d1 := { d with foc := { d.foc with n := d.foc.n + 1 } }
  let d2 := (List.range 8).foldl Side.tblSwitch d1
  let d3 := (List.range 8).foldl (Side.carrierRange p) d2
  let d4 := (List.range 4).foldl (Side.busWatch p) d3
  ((List.range 24).foldl (Side.unitLatch p) d4).sdMeter

/-- CHOP_CLR: refused while V ≥ V_OFF (R372). -/
def Side.chopClr (p : Pkg) (b : Nat) (d : Side) : Side :=
  if d.busAtLeast b (d.get (F.FOC_BUS_VLIM1_V_OFF b)) then d.fault p (srcBus b) (F.FOC_BUS_STATUS_WINDOW_VIOL b)
  else d.set (F.FOC_BUS_STATUS_NOCHOP b) 0

def execChopClr (b : Nat) (s : State) : Host.Outcome State Fault Refusal :=
  if b < 4 then .next (s.asWrite true (0xB20008 + 0x100 * b) 1 (s.both fun p d => d.chopClr p b)) else .next s

/-- A unit that is not OFF whose axis binding has changed goes to OFF (R369); before is the side before the write. -/
def Side.focRebind (p : Pkg) (before : Side) (d : Side) : Side :=
  (List.range 24).foldl (fun d u =>
    if d.uState u ≠ 0 && d.unitAxis u != before.unitAxis u then (d.unitOff u).fault p (srcUnit u) (uBIND_LOST u) else d) d

/-! STP_TABLE_LOAD (R378). -/

def stpLoadBad (b : List Byte) : Option Nat :=
  if bits (byteAt b 4) 3 5 ≠ 0 then some 4
  else match firstNonZero b 5 3 with
    | some o => some o
    | none => if dFld b 8 8 % 4 ≠ 0 then some 8 else firstNonZero b 20 44

/-- STP_TABLE_LOAD; herr is the address at which the host read failed, if it did. -/
def Side.stpTableLoad (p : Pkg) (n : Nat) (herr : Option Nat) (d : Side) : Side :=
  match d.nextHost p n 0x7A with
  | none => d
  | some x =>
    let b := x.bytes
    let s := bits (byteAt b 4) 0 3
    let raw := memRead p.host (dFld b 8 8) 4096
    match stpLoadBad b, herr with
    | some o, _ => d.startDone n (badField o)
    | none, some e => d.startDone n (hostFaultRes e)
    | none, none =>
      if p.stps ≤ s then d.startDone n ⟨stREFUSED, 0, 2⟩
      else if (d.unitAxis (16 + s)).any fun a => d.motState a != 0 then d.startDone n ⟨stREFUSED, 0, 1⟩
      else if crc32c raw ≠ dFld b 16 4 then d.startDone n ⟨stREFUSED, 0, 3⟩
      else ({ d with foc := { d.foc with tblNext := tset d.foc.tblNext s (raw, dFld b 16 4) } }).startDone n ⟨stSUCCESS, 0, 0⟩

def execStpTableLoad (n : Nat) (herr : Option Nat) (s : State) : Host.Outcome State Fault Refusal :=
  if n < 64 then .next (s.both fun p d => d.stpTableLoad p n herr) else .next s

/-- R356: a write may not assign an output that the loaded law set writes. -/
def Side.lawOuts (d : Side) : List Nat :=
  match d.law.set with
  | some x => (x.outputs.filter fun s => s.cls == 3).map (·.idx)
  | none => []

end Sys2Proof.Machine
end

