-- ==== Sys2Proof/Machine/FaultPair.lean ====
section
/-! DEFINITION. The fault pair FLT_P and FLT_N (R489 to R493) and the beam-enable chain (R519). -/

namespace Sys2Proof.Machine

def State.setFlt (s : State) (x : Flt) : State := s.setHold { s.pkg.hold with flt := x }

/-- The conditions that hold (R490), as (key, place of the cause after BOOT): a bus has a key of its own, so that each bus that
reaches V_HARD starts the cause. A masked cause does not hold. -/
def State.fltConds (s : State) : List (Nat × Nat) :=
  let h := s.pkg.hold
  let d := s.actSide
  (if h.flt.boot then [(0, 0)] else []) ++
  (if h.flag F.HLD_TWN_STATUS_SAFE then [(2, 2)] else []) ++
  (if d.flag F.THM_STATUS_ABOVE_HARD && h.flag F.HLD_FLT_CFG_THERMAL_EN then [(3, 3)] else []) ++
  (if h.beOpen && h.flag F.HLD_FLT_CFG_BE_EN then [(5, 5)] else []) ++
  (if ((List.range s.pkg.beams).any fun n => h.flag (F.HLD_DWELL_STATUS_CUT n)) && h.flag F.HLD_FLT_CFG_DWELL_EN then [(6, 6)]
   else []) ++
  (if h.flt.wdog && h.flag F.HLD_FLT_CFG_WDOG_EN then [(7, 7)] else []) ++
  (if h.flag F.HLD_FLT_CFG_BUS_EN then ((List.range 4).filter fun b => (d.busU b).hard).map fun b => (16 + b, 4) else [])

/-- The flag of a cause. -/
def fltFlag (k : Nat) : Fld := ⟨F.HLD_FLT_STATUS_BOOT.off, 9 + k, 1⟩

/-- Causes start (R490): the pair is in SAFE_STOP, t_a is the instant, and the flags are posted in the order of their codes. -/
def State.fltStart (s : State) (causes : List Nat) : State :=
  let h := s.pkg.hold
  let h1 := h.set64 F.HLD_FLT_ASSERTED_LO_TIME F.HLD_FLT_ASSERTED_HI_TIME s.pkg.now
  let h2 := if h.get F.HLD_FLT_STATUS_STATE = 0 then h1.inc F.HLD_FLT_COUNT_COUNT 1 else h1
  let s1 := (s.setHold (h2.set F.HLD_FLT_STATUS_STATE 1)).holdFault 0x420 F.HLD_FLT_STATUS_ASSERT_SEEN
  (List.range 8).foldl (fun s k => if causes.contains k then s.holdFault 0x420 (fltFlag k) else s) s1

/-- The causes are judged again: those newly true start. -/
def State.fltRefresh (s : State) : State :=
  let cs := s.fltConds
  let new := (cs.filter fun e => !tget false s.pkg.hold.flt.on e.1).map (·.2)
  let s1 := s.setFlt { s.pkg.hold.flt with on := cs.map fun e => (e.1, true) }
  if new.isEmpty then s1 else s1.fltStart new

/-- The cause DWELL starts at each cut (R490). -/
def State.fltAgain (s : State) (key : Nat) : State :=
  s.setFlt { s.pkg.hold.flt with on := s.pkg.hold.flt.on.filter fun e => e.1 ≠ key }

/-- HLD_FLT_CMD.ASSERT: the cause SW. -/
def execAssert (s : State) : Host.Outcome State Fault Refusal := .next (s.asWrite true 0x3F02008 1 (s.fltStart [1]))

/-- Why a RELEASE is refused, in order of precedence (R491); 0 where it is accepted. -/
def State.relReason (s : State) : Nat :=
  let h := s.pkg.hold
  let ta := h.get F.HLD_FLT_ASSERTED_LO_TIME + 2 ^ 32 * h.get F.HLD_FLT_ASSERTED_HI_TIME
  if !h.granted || h.flag F.HLD_TWN_STATUS_SAFE then 3
  else if !s.fltConds.isEmpty then 2
  else if tdiff s.pkg.now ta < 1000000 then 1
  else 0

/-- HLD_FLT_CMD.RELEASE: accepted, the pair is HEALTHY and toggles from the next raw multiple of 50,000 ns; refused,
REL_REFUSED is set with the reason. A cause that starts in this core cycle is taken first (R491). -/
def State.fltRelease (s0 : State) : State :=
  let s := s0.fltRefresh
  let h := s.pkg.hold
  match s.relReason with
  | 0 =>
    if h.get F.HLD_FLT_STATUS_STATE = 0 then s
    else (s.setHold (h.set F.HLD_FLT_STATUS_STATE 0)).setFlt { h.flt with live := ceilDiv s.pkg.now 50000 * 50000 }
  | r => (s.setHold (h.set F.HLD_FLT_STATUS_REASON r)).holdFault 0x420 F.HLD_FLT_STATUS_REL_REFUSED

def execRelease (s : State) : Host.Outcome State Fault Refusal := .next (s.asWrite true 0x3F02008 2 s.fltRelease)

/-- HLD_FLT_CMD.KICK: the watchdog's period restarts and WDOG ends. -/
def State.kick (s : State) : State :=
  (s.setFlt { s.pkg.hold.flt with kick := s.pkg.now, wdog := false }).fltRefresh

def execKick (s : State) : Host.Outcome State Fault Refusal := .next (s.asWrite true 0x3F02008 4 s.kick)

/-- WDOG_MS ms have passed without KICK while WDOG_EN is 1: the cause WDOG. -/
def State.wdogExpire (s : State) : State :=
  let h := s.pkg.hold
  if h.flag F.HLD_FLT_CFG_WDOG_EN && reached s.pkg.now (h.flt.kick + 1000000 * h.get F.HLD_FLT_CFG_WDOG_MS) then
    (s.setFlt { h.flt with wdog := true }).fltRefresh
  else s

def execWatchdogExpiry (t : Nat) (s : State) : Host.Outcome State Fault Refusal := .next (s.advance t).wdogExpire

/-- HLD_FLT_CFG written: the watchdog's period restarts (R493), and a cause that is unmasked while its condition holds
starts. -/
def State.fltCfg (s : State) : State := (s.setFlt { s.pkg.hold.flt with kick := s.pkg.now }).fltRefresh

/-- The levels of FLT_P and FLT_N (R489), or none where neither is driven. -/
def State.fltPair (s : State) : Option (Bool × Bool) :=
  let h := s.pkg.hold
  if h.flt.lost then none
  else if h.get F.HLD_FLT_STATUS_STATE = 1 || s.pkg.now < h.flt.live then some (false, true)
  else
    let p := s.pkg.now / 50000 % 2 == 0
    some (p, !p)

/-! The beam-enable chain. -/

/-- The chain opens (R519): BLANK cause 1 on every port, every STARTED or ENDING plate spoiled with BEAM_ENABLE, and the
cause BEAM_ENABLE of the fault pair. -/
def State.beOpens (s : State) : State :=
  if s.pkg.hold.beOpen then s
  else
    let h := { s.pkg.hold with beOpen := true }.set F.HLD_FLT_STATUS_BE_OPEN 1
    let s0 := (List.range s.pkg.beams).foldl (fun s n => if (s.pkg.hold.port n).st = 0 then s else s.sendBlank n allBeams 1) (s.setHold h)
    let s1 := s0.both fun p d => (d.spoilRunning p 0x0C)
    ((List.range s.pkg.beams).foldl (fun s n => s.mirror n) s1).fltRefresh

def execBeamEnableOpen (s : State) : Host.Outcome State Fault Refusal := .next s.beOpens

/-- The chain closes after both inputs have read high for 1 ms; blanking lasts until the next plate start (R213). -/
def State.beCloses (s : State) : State :=
  let h := { s.pkg.hold with beOpen := false }.set F.HLD_FLT_STATUS_BE_OPEN 0
  ((List.range s.pkg.beams).foldl (fun s n => s.mirror n) (s.setHold h)).fltRefresh

def execBeamEnableClose (s : State) : Host.Outcome State Fault Refusal := .next s.beCloses

end Sys2Proof.Machine
end

