-- ==== Sys2Proof/Machine/Thermal.lean ====
section
/-! DEFINITION. Temperature (R458 to R468): sensors, Θ, throttle causes, the hard limit, temperature bands. Power states are in
Machine/Power.lean. -/

namespace Sys2Proof.Machine

/-- A sensor takes part: it lies on the hold die, or on a side whose health is STALE or SYNCED (R462). -/
def Hold.counted (h : Hold) (k : Nat) : Bool :=
  decide (128 ≤ k) || decide (2 ≤ h.health (if k < 64 then .a else .b))

/-- The two measured points of a sensor (R459; log entry 52). -/
def Fuses.points (f : Fuses) (k : Nat) : Nat × Int × Nat × Int := tget (1600, -1024, 6400, 2400) f.sens k

/-- The reading of a count (R459). -/
def Fuses.reading (f : Fuses) (k n : Nat) : Int :=
  let q := f.points k
  clampI (-1024) 2400 (q.2.1 + Int.fdiv (((n : Int) - q.1) * (q.2.2.2 - q.2.1)) ((q.2.2.1 : Int) - q.1))

def countBad (n : Nat) : Bool := n < 1600 || 6400 < n

/-- Some 4 consecutive numbers of a list are equal. -/
def run4 : List Nat → Bool
  | a :: b :: c :: d :: t => (a == b && b == c && c == d) || run4 (b :: c :: d :: t)
  | _ => false

/-- 16 samples that make a broken sensor whole (R460). -/
def whole (l : List Nat) : Bool := l.length == 16 && !l.any countBad && !run4 l

/-- Readings of the last 1 ms, and the one before them. -/
def keepReads (now : Nat) (l : List (Nat × Int)) : List (Nat × Int) :=
  (l.takeWhile fun e => now - e.1 < 1000000) ++ ((l.dropWhile fun e => now - e.1 < 1000000).head?).toList

/-- The newest reading exceeds that of 1 ms earlier by more than RATE (R463; log entry 53). -/
def risen (now rate : Nat) (l : List (Nat × Int)) : Bool :=
  match l, l.find? (fun e => decide (1000000 ≤ now - e.1)) with
  | x :: _, some y => decide ((rate : Int) < x.2 - y.2)
  | _, _ => false

/-- The hottest enabled sensor of n from lo up that has been sampled, the lowest of equals. -/
def Side.hottest (p : Pkg) (d : Side) (lo n : Nat) : Option (Nat × Int) :=
  (List.range n).foldl (fun best i =>
    let k := lo + i
    if p.hold.counted k && d.flag (F.THM_SNS_CFG_EN k) && d.flag (F.THM_SNS_VAL_VALID k) then
      let t := toSigned 16 (d.get (F.THM_SNS_VAL_TEMP k))
      match best with
      | some b => if b.2 < t then some (k, t) else best
      | none => some (k, t)
    else best) none

/-- Lower edges of the bands above COLD (R467). -/
def bandEdges : List Int := [0, 720, 1360, 1680]

/-- A band with edges, from the last band and a temperature: it rises at an edge and falls at hyst below one. -/
def bandOf (edges : List Int) (hyst : Int) (old : Nat) (t : Int) : Nat :=
  let up := (edges.filter fun e => decide (e ≤ t)).length
  let down := (edges.filter fun e => decide (e - hyst < t)).length
  if old < up then up else if down < old then down else old

/-- The band of a die from its hottest enabled sensor; it stays while the die has none (R467). -/
def Side.bandEval (p : Pkg) (f : Fld) (lo n : Nat) (d : Side) : Side :=
  match d.hottest p lo n with
  | none => d
  | some h => d.set f (bandOf bandEdges 32 (d.get f) h.2)

/-- Throttle causes, limits and bands evaluated (R462 to R467); met: a sensor just sampled meets the start condition of
RISE. -/
def Side.thmEval (p : Pkg) (met : Bool) (d0 : Side) : Side :=
  let hot := (d0.hottest p 0 144).getD (0, -1024)
  let d := (d0.set F.THM_THETA_TEMP (ofSigned 16 hot.2)).set F.THM_THETA_SENSOR hot.1
  let d := if met then { d with thm := { d.thm with rise := p.now } } else d
  let thr : Int := (d.get F.THM_LIMIT_THROTTLE : Nat)
  let hard : Int := (d.get F.THM_LIMIT_HARD : Nat)
  let temp := if d.flag F.THM_STATUS_CAUSE_TEMP then decide (thr - 32 ≤ hot.2) else decide (thr ≤ hot.2)
  let oldRise := d.flag F.THM_STATUS_CAUSE_RISE
  let rise := met || (oldRise && decide (p.now - d.thm.rise < 10000000))
  let head := (List.range p.beams).any fun c => d.flag (F.RAS_STATUS_HEAD_HOT c)
  let on := temp || rise || head
  let first := on && !d.flag F.THM_STATUS_THROTTLE
  let above := if d.flag F.THM_STATUS_ABOVE_HARD then decide (hard - 32 ≤ hot.2) else decide (hard ≤ hot.2)
  let hits := above && !d.flag F.THM_STATUS_ABOVE_HARD
  let d1 := (((d.set F.THM_STATUS_CAUSE_TEMP (b2n temp)).set F.THM_STATUS_CAUSE_RISE (b2n rise)).set
    F.THM_STATUS_CAUSE_HEAD (b2n head)).set F.THM_STATUS_THROTTLE (b2n on)
  let d2 := (d1.set F.THM_STATUS_ABOVE_HARD (b2n above)).faultIf p first 0x290 F.THM_STATUS_THR_SEEN
  let d3 := (d2.faultIf p hits 0x290 F.THM_STATUS_HARD_SEEN).faultIf p (rise && !oldRise) 0x290 F.THM_STATUS_RISE_SEEN
  let d4 := if hits then d3.spoilRunning p 0x08 else d3
  ((d4.bandEval p F.THM_BANDS_BAND_A 0 64).bandEval p F.THM_BANDS_BAND_B 64 64).bandEval p F.THM_BANDS_BAND_HLD 128 16

/-- The count a sensor gives: an injection may hold it (R495, kind 6). -/
def Pkg.sensCount (p : Pkg) (k n : Nat) : Nat :=
  if p.injActing 6 && p.hold.get F.HLD_INJ_LOC_LOC == k then 1600 + 320 * p.hold.get F.HLD_INJ_CFG_ARG else n

def Side.setSens (d : Side) (k : Nat) (x : Sens) : Side := { d with thm := { d.thm with sens := tset d.thm.sens k x } }

/-- A sensor is sampled (R458 to R463): its reading, BROKEN and FAST, and the evaluation. A sensor that takes no part reads 0
with VALID 0 (R462). -/
def Side.thmSample (p : Pkg) (k count : Nat) (d : Side) : Side :=
  if !p.hold.counted k then (d.setWord (F.THM_SNS_VAL_TEMP k).off 0).setSens k {}
  else
    let n := p.sensCount k count
    let x := tget {} d.thm.sens k
    let was := d.flag (F.THM_SNS_VAL_BROKEN k)
    let counts := (n :: x.counts).take 4
    let good := (n :: x.good).take 16
    let broken := if was then !whole good else countBad n || run4 counts
    let t : Int := if broken then 2400 else p.fuses.reading k n
    let fast := broken || decide (((d.get F.THM_LIMIT_THROTTLE : Nat) : Int) - 160 ≤ t)
    let reads := keepReads p.now ((p.now, t) :: x.reads)
    let d1 := (((d.set (F.THM_SNS_VAL_TEMP k) (ofSigned 16 t)).set (F.THM_SNS_VAL_BROKEN k) (b2n broken)).set
      (F.THM_SNS_VAL_FAST k) (b2n fast)).set (F.THM_SNS_VAL_VALID k) 1
    let d2 := d1.setSens k { counts := counts, good := if was && broken then good else [], reads := reads }
    let d3 := d2.thmEval p (d.flag (F.THM_SNS_CFG_EN k) && risen p.now (d.get F.THM_RISE_RATE) reads)
    d3.faultIf p (broken && !was) 0x290 F.THM_STATUS_BROKEN

def execThermalSample (k count t : Nat) (s : State) : Host.Outcome State Fault Refusal :=
  if k < 144 then .next (((s.advance t).both fun p d => d.thmSample p k count).fltRefresh) else .next s

/-! Settings that follow the bands (R467). -/

/-- The band of a side's own die. -/
def Side.ownBand (d : Side) (x : SideId) : Nat :=
  match x with
  | .a => d.get F.THM_BANDS_BAND_A
  | .b => d.get F.THM_BANDS_BAND_B

/-- The refresh multiplier a band asks for. -/
def bandRefresh (b : Nat) : Nat := if b = 4 then 4 else if b = 3 then 2 else 1

/-- A side's refresh multiplier (R467). -/
def State.refresh (s : State) (x : SideId) : Nat :=
  max (bandRefresh ((s.side x).ownBand x)) (match x with | .a => s.pkg.mr4A | .b => s.pkg.mr4B)

/-- SRAM read assist is on in COLD, HOT and CRIT (R467). -/
def State.readAssist (s : State) (x : SideId) : Bool :=
  let b := (s.side x).ownBand x
  b == 0 || decide (3 ≤ b)

/-- A side reads the refresh-rate field of mode register 4 of its two channels, as the multipliers c0 and c1 it demands. -/
def execRefreshRateRead (side : SideId) (c0 c1 : Nat) (s : State) : Host.Outcome State Fault Refusal :=
  if s.pkg.hold.running side then
    match side with
    | .a => .next { s with pkg := { s.pkg with mr4A := max c0 c1 } }
    | .b => .next { s with pkg := { s.pkg with mr4B := max c0 c1 } }
  else .next s

end Sys2Proof.Machine
end

