-- ==== Sys2Proof/Machine/Upstream.lean ====
section
/-! DEFINITION. SET frames (R201, R206), upstream STAT and ENC frames (R216, R217), laser-module bands (R468) and the dwell
guards (R397 to R399). -/

namespace Sys2Proof.Machine

/-! SET frames and the release of cut beams. -/

/-- Cut beams that entries of value 0 release (R398). -/
def Port.released (x : Port) (l : List (Nat × Nat)) : Nat :=
  ((List.range 32).map fun b => if bit x.cut b && l.contains (b, 0) then 2 ^ b else 0).sum

/-- HLD_DWELLn_BEAMS and CUT show the beams that are cut. -/
def Hold.dwellShow (h : Hold) (n : Nat) : Hold :=
  let c := (h.port n).cut
  (h.set (F.HLD_DWELL_BEAMS_MASK n) c).set (F.HLD_DWELL_STATUS_CUT n) (b2n (c ≠ 0))

/-- The port's first 16 gathered setpoints wait for their SET frame, in the order of ITEM; a cut beam whose power it sets to 0 is
released, and UNBLANK follows for it unless another cause holds it. -/
def State.setFrame (s : State) (n : Nat) : State :=
  let x := s.pkg.hold.port n
  if !s.sends || x.st ≠ 4 || x.pend.isEmpty then s
  else
    let l := x.pend.take 16
    let rel := x.released l
    let s1 := (s.sendFrame n (.set l)).updPort n fun x => { x with pend := x.pend.drop 16, cut := x.cut - rel }
    let s2 := s1.setHold (s1.pkg.hold.dwellShow n)
    let go := rel - Nat.land rel (s2.pkg.hold.blanked n)
    let s3 := s2.updPort n fun x => { x with owed := x.owed - Nat.land x.owed go }
    ((if go = 0 then s3 else s3.sendCtrl n 1 go 0 false).mirror n).fltRefresh

def execSetFrameSend (p t : Nat) (s : State) : Host.Outcome State Fault Refusal :=
  if s.portOk p then .next ((s.advance t).setFrame p) else .next s

/-! Dwell guards. -/

/-- The later of two device times. -/
def later (a b : Nat) : Nat := if reached a b then a else b

/-- Beams of a port whose power has stood above 0 for longer than the limit since they were turned on and since the scanner
last moved (R397). -/
def State.dwellDue (s : State) (n : Nat) : Nat :=
  let x := s.pkg.hold.port n
  let lim : Int := (s.pkg.hold.get (F.HLD_DWELL_CFG_LIMIT_NS n) : Nat)
  ((List.range 32).map fun b =>
    if tget 0 x.pow b ≠ 0 && !bit x.cut b && decide (lim < tdiff s.dev (later x.tMove (tget 0 x.onAt b))) then 2 ^ b else 0).sum

/-- The guard cuts the beams that are due: BLANK with cause 0 for every cut beam, the registers, and the fault with the mask. -/
def State.dwellCut (s : State) (n : Nat) : State :=
  let h := s.pkg.hold
  let m := s.dwellDue n
  if !h.flag (F.HLD_DWELL_CFG_EN n) || m = 0 then s
  else
    let c := Nat.lor (h.port n).cut m
    let h1 := (((s.updPort n fun x => { x with cut := c }).sendBlank n c 0).pkg.hold).dwellShow n
    let s1 := (s.setHold (h1.inc (F.HLD_DWELL_CUTS_COUNT n) 1)).holdFaultD (0x410 + n) (F.HLD_DWELL_STATUS_CUT_SEEN n) c
    ((s1.mirror n).fltAgain 6).fltRefresh

def execDwellCut (p t : Nat) (s : State) : Host.Outcome State Fault Refusal :=
  if s.portOk p then .next (((s.advance t).runPort p).dwellCut p) else .next s

/-- The plate check of the dwell guards (R399): the first channel that fails, with its reason. -/
def Side.dwellPlateCheck (p : Pkg) (m : List Byte) (d : Side) : Option (Nat × Nat) :=
  (mChans m).findSome? fun c =>
    if !p.hold.flag (F.HLD_DWELL_CFG_EN c) then some (1, c)
    else if p.hold.get (F.HLD_DWELL_CFG_LIMIT_NS c) < 2 * (d.get (F.BLK_CFG_ENC_FT c) * d.tim.fineNs) then some (2, c)
    else none

/-! ENC frames. -/

/-- The scanner has moved: X or Y differs from the reference by no less than MOVE counts. -/
def moved (a b : Nat × Nat) (mv : Nat) : Bool :=
  decide (mv ≤ (sdiff32 a.1 b.1).natAbs) || decide (mv ≤ (sdiff32 a.2 b.2).natAbs)

/-- A valid ENC frame: its counts and sample time are held, and the dwell guard sees a movement (R217, R397). -/
def State.encFrame (s : State) (n x y z ts : Nat) : State :=
  let q := s.pkg.hold.port n
  if !q.up then s
  else
    let tm := extendStamp ts s.dev
    let hit := s.pkg.hold.flag (F.HLD_DWELL_CFG_EN n) && moved (x, y) q.ref (s.pkg.hold.get (F.HLD_DWELL_CFG_MOVE n))
    let s1 := s.updPort n fun q =>
      { q with enc := (x, y, z), encAt := some tm, rxAt := s.dev, ref := if hit then (x, y) else q.ref, tMove := if hit then tm else q.tMove }
    s1.both fun _ d => d.inc (F.BLK_RX_FRAMES_COUNT n) 1

def execEncReceived (p : Nat) (x y z ts : Word) (t : Nat) (s : State) : Host.Outcome State Fault Refusal :=
  if s.portOk p then .next ((s.advance t).encFrame p x.toNat y.toNat z.toNat ts.toNat) else .next s

/-! STAT frames. -/

/-- Port n's module band (R468). -/
def modBand (n : Nat) : Fld := ⟨F.THM_MOD_BANDS_BAND0.off, 2 * n, 2⟩

/-- The band edges of WAVE_SEL. -/
def Side.waveEdges (d : Side) : List Int :=
  [toSigned 16 (d.get F.THM_WAVE_E12_E1), toSigned 16 (d.get F.THM_WAVE_E12_E2), toSigned 16 (d.get F.THM_WAVE_E3_E3)]

/-- The band of a module temperature on port n. -/
def Side.modBandOf (d : Side) (n : Nat) (temp : Int) : Nat := bandOf d.waveEdges 16 (d.get (modBand n)) temp

/-- The waveform table of a band. -/
def Side.waveTable (d : Side) (b : Nat) : Nat := d.get ⟨F.THM_WAVE_MAP_TABLE0.off, 8 * b, 8⟩

/-- Words 4 to 6 of a STAT frame hold its counters. -/
def Side.statAdvanced (d : Side) (n : Nat) (w : Nat → Nat) : Bool :=
  [4, 5, 6].any fun k => d.get (F.BLK_STATW_WORD n k) != w k

/-- A side's work on a valid STAT frame of words w: stored and stamped; counters that advance; health; head temperature; the
module band; the throttle causes (R216, R241, R244, R463, R468). -/
def Side.stat (p : Pkg) (n : Nat) (w : Nat → Nat) (seen waveErr : Bool) (d : Side) : Side :=
  let adv := seen && d.statAdvanced n w
  let temp := toSigned 16 (w 0)
  let d1 := (List.range 7).foldl (fun d k => d.set (F.BLK_STATW_WORD n k) (w k)) d
  let d2 := (d1.set (F.BLK_STAT_TS_TIME n) (d.dev p % 2 ^ 32)).inc (F.BLK_RX_FRAMES_COUNT n) 1
  let d3 := d2.faultIf p adv (srcBlk n) (F.BLK_STATUS_REMOTE_ERR n)
  let d4 := ((d3.health p n (w 2 + 2 ^ 32 * w 3)).set (F.RAS_HEAD_TEMP_VALID n) (max (d3.get (F.RAS_HEAD_TEMP_VALID n)) (b2n ((p.hold.port n).st == 4)))).headTemp p n temp
  ((d4.set (modBand n) (d4.modBandOf n temp)).thmEval p false).faultIf p waveErr 0x290 F.THM_STATUS_WAVE_ERR

/-- A valid STAT frame arrives. -/
def State.statFrame (s : State) (n : Nat) (l : List Word) : State :=
  let x := s.pkg.hold.port n
  if !x.up then s
  else
    let w (k : Nat) : Nat := (l.getD k 0).toNat
    let d := s.actSide
    let band := d.modBandOf n (toSigned 16 (w 0))
    let change := band ≠ d.get (modBand n)
    let differs := match x.waveAck with
      | some t => bits (w 1) 8 8 != t
      | none => false
    let bad := if differs then x.waveBad + 1 else 0
    let s1 := s.updPort n fun x =>
      { x with statAt := s.dev, statSeen := true, silent := false, waveBad := bad,
               wave := if change then some (d.waveTable band, 1, 0) else x.wave }
    (s1.both fun p d => d.stat p n w x.statSeen (bad == 4)).fltRefresh

def execStatReceived (p : Nat) (w : List Word) (t : Nat) (s : State) : Host.Outcome State Fault Refusal :=
  if s.portOk p then .next ((s.advance t).statFrame p w) else .next s

/-- No valid STAT for 4 intervals: SILENT, and the head reads as 150 °C (R216, R244). -/
def State.statSilent (s : State) (n : Nat) : State :=
  let x := s.pkg.hold.port n
  if !x.up || x.silent || !reached s.dev (x.statAt + 40000 * s.actSide.get (F.BLK_CFG_STAT_10US n)) then s
  else
    ((s.updPort n fun x => { x with silent := true }).both fun p d =>
      ((d.fault p (srcBlk n) (F.BLK_STATUS_SILENT n)).headTemp p n 2400).thmEval p false).fltRefresh

def execStatSilent (p t : Nat) (s : State) : Host.Outcome State Fault Refusal :=
  if s.portOk p then .next ((s.advance t).statSilent p) else .next s

end Sys2Proof.Machine
end

