-- ==== Sys2Proof/Machine/Twins.lean ====
section
/-! DEFINITION. Active and standby sides (R385 to R412): beats and declarations, failover, SAFE, the comparison of signatures,
the copy of state, role swaps. REVIVE is in Machine/Boot.lean, PEEK in Machine/Access.lean. -/

namespace Sys2Proof.Machine

def sideIx : SideId → Nat
  | .a => 0
  | .b => 1

def Hold.look (h : Hold) (x : SideId) : Watch := tget {} h.watch (sideIx x)

def Hold.setWatch (h : Hold) (x : SideId) (w : Watch) : Hold := { h with watch := tset h.watch (sideIx x) w }

/-- The side that does not hold the grant. -/
def Hold.standby (h : Hold) : SideId := otherSide h.active

def hbNs (h : Hold) : Nat := 1000 * h.get F.HLD_TWN_CFG_HB_MISS

/-- A flag of Side A, or the one after it for Side B. -/
def sideFlag (f : Fld) (x : SideId) : Fld := ⟨f.off, f.lo + sideIx x, 1⟩

/-! SAFE (R392). -/

/-- The hold die enters SAFE: PWM and SSR outputs off, TRAIN on every port, the fault pair safe. -/
def State.enterSafe (s : State) : State :=
  let h := ((s.pkg.hold.set F.HLD_TWN_STATUS_SAFE 1).set F.HLD_TWN_STATUS_GRANTED 0)
  let s1 := s.setHold { h with gap := none, ack := none, copy := none, pwm := [], ssr := [] }
  let s2 := (List.range s.pkg.beams).foldl (fun s n => if (s.pkg.hold.port n).st = 0 then s else s.train n) s1
  (s2.holdFault 0x400 F.HLD_TWN_STATUS_DEVICE_LOST).fltRefresh

/-- HOLD_DIE_ERROR: the pair reads LOST and the hold die enters SAFE (R489). -/
def execHoldDieError (s : State) : Host.Outcome State Fault Refusal :=
  .next (s.setFlt { s.pkg.hold.flt with lost := true }).enterSafe

/-! A side is lost (R388, R393, R396). -/

/-- The sensors of a side that runs no more read 0 with VALID 0 (R462). -/
def Side.dropSensors (p : Pkg) (x : SideId) (d : Side) : Side :=
  let d1 := (List.range 64).foldl (fun d i =>
    let k := 64 * sideIx x + i
    (d.setWord (F.THM_SNS_VAL_TEMP k).off 0).setSens k {}) d
  d1.thmEval p false

/-- COMPARE_LOST reads 1 while the active side's path 1 is faulted (R388). -/
def Hold.compareShow (h : Hold) : Hold := h.set F.HLD_TWN_STATUS_COMPARE_LOST (b2n (h.look h.active).bad1)

/-- Neither copy nor comparison goes on. -/
def Side.noCompare (d : Side) : Side :=
  ((d.set F.TWN_STATUS_XFER 0).set F.TWN_STATUS_COMPARING 0).set F.TWN_STATUS_MATCHES 0

/-- Side x is lost, its last valid beat or its RESIGN beat having arrived at raw time last: FAILED; the gap of a failover begins
if it was active and the standby is SYNCED, SAFE if no standby is; DEGRADED if it was standby. -/
def State.sideLost (s : State) (x : SideId) (last : Nat) : State :=
  let h := s.pkg.hold
  if h.health x = 0 then s
  else
    let wasActive := h.active == x
    let h1 := { h.setHealth x 0 with copy := none, stopped := h.stopped.filter (· ≠ x) }
    let s1 := (s.setHold h1).both fun p d => (d.dropSensors p x).noCompare
    if !wasActive then
      if s1.pkg.hold.gap.isSome then s1.enterSafe else s1.holdFault 0x400 F.HLD_TWN_STATUS_DEGRADED
    else if h.health (otherSide x) = 3 then
      s1.setHold { s1.pkg.hold.set F.HLD_TWN_STATUS_GRANTED 0 with gap := some ⟨x, last, s.pkg.now⟩ }
    else s1.enterSafe

/-- RESIGN: a side detects an uncorrectable error, a watchdog expiry or the loss of its clock in itself, and is declared lost on
its RESIGN beat (R389). -/
def State.resign (s : State) (x : SideId) : State :=
  if s.pkg.hold.alive x then ((s.holdFault 0x400 F.HLD_TWN_STATUS_RESIGN).sideLost x s.pkg.now).fltRefresh else s

def execResign (side : SideId) (t : Nat) (s : State) : Host.Outcome State Fault Refusal := .next ((s.advance t).resign side)

/-! Signatures (R400, R401, R407). -/

/-- The writes that the signature leaves out (R480). -/
def signedOff (off : Nat) : Bool :=
  off != F.EVT_LOCAL_INJECTED.off && off != F.EVT_LOCAL_SRAM_COUNT.off && off != F.EVT_LOCAL_DRAM_COUNT.off

/-- A value delivered to the output hold stage, as bytes: its kind, where it goes, and what it is. -/
def Outbound.signBytes : Outbound → List Byte
  | .hostWrite fn a l => leBytes 1 (1 + 16 * fnNum fn) ++ leBytes 8 a ++ l
  | .msix fn v => leBytes 1 (2 + 16 * fnNum fn) ++ leBytes 2 v
  | .dot n _ _ t0 body => leBytes 1 3 ++ leBytes 1 n ++ leBytes 8 t0 ++ body
  | .setpt n item v => leBytes 1 4 ++ leBytes 1 n ++ leBytes 2 item ++ leBytes 4 v
  | .ptp n _ m => leBytes 1 5 ++ leBytes 1 n ++ leBytes 2 m.seq ++ leBytes 10 m.ts ++ leBytes 8 (ofSigned 64 m.corr)

/-- Writes of a store between two instants, as address and data in the order of addresses: what it holds now where that differs. -/
def tabWrites {α : Type} [DecidableEq α] (dft : Nat → α) (enc : α → List Byte) (base : Nat) (was now : Tab α) : List Byte :=
  ((now.filter fun e => e.2 != tget (dft e.1) was e.1).flatMap fun e => leBytes 8 (base + e.1) ++ enc e.2) ++
  ((was.filter fun e => (now.all fun f => f.1 != e.1)).flatMap fun e => leBytes 8 (base + e.1) ++ enc (dft e.1))

/-- A side's signature of a control tick (R400): CRC-32C over what it delivered, in delivery order, and over its writes of the tick.
DESIGN CHOICE (log entry 57): the layout of a value, the order of writes and that a write of the value held does not count. -/
def Side.signature (given : List Outbound) (d : Side) : Nat :=
  crc32c (given.flatMap Outbound.signBytes ++
    tabWrites (fun off => BitVec.ofNat 32 (resetWord off)) (fun w => leBytes 4 w.toNat) 0 (d.twn.was.filter fun e => signedOff e.1)
      (d.rf.filter fun e => signedOff e.1) ++
    tabWrites (fun _ => 0) (fun b => [b]) (2 ^ 40) d.twn.sramWas d.sram ++
    tabWrites (fun _ => 0) (fun b => [b]) (2 ^ 41) d.twn.dramWas d.dram)

/-- The signature of the tick that has ended, and the base of the next. -/
def Side.sign (given : List Outbound) (d : Side) : Side :=
  { d with twn := { d.twn with sig := some (d.tim.count - 1, d.signature given), was := d.rf, sramWas := d.sram, dramWas := d.dram } }

/-- What side x has delivered since its last signature. -/
def Pkg.givenBy (p : Pkg) (x : SideId) : List Outbound := (p.given.filter fun e => e.1 == x).map (·.2)

/-- Each side that runs forms its signature of the tick that has ended. -/
def State.signTick (s : State) : State :=
  let one (x : SideId) (d : Side) : Side := if s.pkg.hold.running x then d.sign (s.pkg.givenBy x) else d
  { s with sideA := one .a s.sideA, sideB := one .b s.sideB, pkg := { s.pkg with given := [] } }

/-- The copy of R406 begins. -/
def State.startCopy (s : State) : State :=
  let d := s.actSide
  let s1 := s.setHold { s.pkg.hold with copy := some { dram := d.dram, sram := d.sram } }
  s1.both fun _ d => d.noCompare.set F.TWN_STATUS_XFER 1

/-- The signatures of tick m differ: recorded and posted; the standby is STALE and the copy begins; a SYNCED standby's mismatch
spoils the plates with SHADOW if MISMATCH_SPOIL is 1. -/
def State.mismatch (s : State) (m : Nat) : State :=
  let h := s.pkg.hold
  let synced := h.health h.standby == 3
  let h1 := (h.set64 F.HLD_CMP_TICK_LO_TICK F.HLD_CMP_TICK_HI_TICK m).setHealth h.standby 2
  let s1 := (s.setHold h1).holdFault 0x400 F.HLD_TWN_STATUS_MISMATCH
  let s2 := if synced then
      s1.both fun p d => if d.flag F.TWN_CFG_MISMATCH_SPOIL then d.spoilRunning p 0x0D else d
    else s1
  s2.startCopy

/-- The signatures of a tick are equal: during the comparison of R407 the third in a row makes the standby SYNCED. -/
def State.match3 (s : State) : State :=
  let d := s.actSide
  if !d.flag F.TWN_STATUS_COMPARING then s
  else
    let k := d.get F.TWN_STATUS_MATCHES + 1
    let s1 := s.both fun _ d => d.set F.TWN_STATUS_MATCHES k
    if k < 3 then s1
    else
      let s2 := s1.both fun _ d => d.set F.TWN_STATUS_COMPARING 0
      s2.setHold (s2.pkg.hold.setHealth s2.pkg.hold.standby 3)

/-- The standby takes part in the comparison: SYNCED, or under R407's. -/
def State.comparing (s : State) : Bool :=
  let h := s.pkg.hold
  h.granted && !h.flag F.HLD_TWN_STATUS_COMPARE_LOST &&
  (h.health h.standby == 3 || (h.health h.standby == 2 && s.actSide.flag F.TWN_STATUS_COMPARING))

/-- The interlock compares the signatures of a tick once it holds both. -/
def State.compareSigs (s : State) : State :=
  let h := s.pkg.hold
  match (h.look .a).sig, (h.look .b).sig with
  | some (m, x), some (n, y) =>
    if m ≠ n || m < h.cmpTick || !s.comparing then s
    else
      let s1 := s.setHold { h with cmpTick := m + 1 }
      if x = y then s1.match3 else s1.mismatch m
  | _, _ => s

/-! Beats (R387). -/

/-- The beat a side sends. -/
def State.mkBeat (s : State) (x : SideId) : Beat :=
  let h := s.pkg.hold
  { seq := (h.look x).seq + 1, role := b2n (h.active == x), health := h.health x, peer := (h.look x).seen, resign := false,
    sig := (s.side x).twn.sig }

/-- An injection suppresses the beats of a side on a path (R495, kinds 3 and 4). -/
def Pkg.suppressed (p : Pkg) (x : SideId) (path : Nat) : Bool :=
  p.injActing (2 + path) && p.hold.get F.HLD_INJ_CFG_TARGET == sideIx x

/-- A side sends a beat on path 1, and on path 2 too unless it is the extra beat of a change of PEER_SEEN. -/
def State.sendBeat (s : State) (x : SideId) (extra : Bool) : State :=
  let b := s.mkBeat x
  let w := s.pkg.hold.look x
  s.setHold (s.pkg.hold.setWatch x
    { w with seq := b.seq, out1 := if s.pkg.suppressed x 1 then w.out1 else w.out1 ++ [b],
             out2 := if extra || s.pkg.suppressed x 2 then w.out2 else w.out2 ++ [b] })

/-- HEARTBEAT: at a raw time that is a multiple of 1,000 ns each running side sends a beat on both paths. -/
def State.heartbeat (s : State) : State :=
  if s.pkg.now % 1000 ≠ 0 then s
  else
    let s1 := if s.pkg.hold.running .a then s.sendBeat .a false else s
    if s1.pkg.hold.running .b then s1.sendBeat .b false else s1

def execHeartbeat (t : Nat) (s : State) : Host.Outcome State Fault Refusal := .next (s.advance t).heartbeat

/-- PEER_SEEN of a side changes: an extra beat leaves on path 1. -/
def State.setSeen (s : State) (x : SideId) (v : Bool) : State :=
  if (s.pkg.hold.look x).seen == v then s
  else
    let s1 := s.setHold (s.pkg.hold.setWatch x { s.pkg.hold.look x with seen := v })
    if s1.pkg.hold.running x then s1.sendBeat x true else s1

/-- A beat of side x arrives on path 1 at the interlock. -/
def State.beat1 (s : State) (x : SideId) (ok : Bool) : State :=
  let h := s.pkg.hold
  let w := h.look x
  match w.out1 with
  | [] => s
  | b :: rest =>
    if ok && decide (2 ≤ h.health x) && decide (w.last1.getD 0 < b.seq) then
      let h1 := h.setWatch x { w with out1 := rest, last1 := some b.seq, at1 := s.pkg.now, hb1 := hbNs h, bad1 := false, sig := b.sig }
      let h2 := { h1.compareShow with ack := if h.ack = some x then none else h.ack }
      (s.setHold h2).compareSigs
    else s.setHold (h.setWatch x { w with out1 := rest })

/-- A beat of side x arrives on path 2 at the other side. -/
def State.beat2 (s : State) (x : SideId) (ok : Bool) : State :=
  let h := s.pkg.hold
  let w := h.look x
  match w.out2 with
  | [] => s
  | b :: rest =>
    if ok && decide (2 ≤ h.health x) && decide (w.last2.getD 0 < b.seq) then
      (s.setHold (h.setWatch x { w with out2 := rest, last2 := some b.seq, at2 := s.pkg.now, hb2 := hbNs h, bad2 := false })).setSeen
        (otherSide x) true
    else s.setHold (h.setWatch x { w with out2 := rest })

/-- HEARTBEAT_RECEIVED: the oldest beat on its way on a path arrives; ok: its check word matches. -/
def execHeartbeatReceived (side : SideId) (path : Nat) (ok : Bool) (t : Nat) (s : State) : Host.Outcome State Fault Refusal :=
  if path = 1 then .next ((s.advance t).beat1 side ok)
  else if path = 2 then .next ((s.advance t).beat2 side ok)
  else .next s

/-- The declaration of R388 for side x. -/
def State.deadline (s0 : State) (x : SideId) : State :=
  let y := otherSide x
  let h := s0.pkg.hold
  if h.deep || h.health x < 2 then s0
  else
    let w := h.look x
    let now := s0.pkg.now
    let dead1 := reached now (w.at1 + w.hb1)
    let dead2 := reached now (w.at2 + w.hb2)
    let s := if dead2 then s0.setSeen y false else s0
    let quiet := decide (h.health y < 2) || reached now ((h.look y).at1 + (h.look y).hb1)
    if dead1 && (dead2 || quiet) then (s.sideLost x w.at1).fltRefresh
    else if dead1 && !w.bad1 then
      let h1 := s.pkg.hold
      let h2 := (h1.setWatch x { h1.look x with bad1 := true }).compareShow
      (s.setHold h2).holdFault 0x400 (sideFlag F.HLD_TWN_STATUS_PATH1_A x)
    else if !dead1 && dead2 && !quiet && !w.bad2 then
      let h1 := s.pkg.hold
      (s.setHold (h1.setWatch x { h1.look x with bad2 := true })).holdFault 0x400 (sideFlag F.HLD_TWN_STATUS_PATH2_A x)
    else s

def execHeartbeatDeadline (side : SideId) (t : Nat) (s : State) : Host.Outcome State Fault Refusal :=
  .next ((s.advance t).deadline side)

/-! The grant of a failover (R391, R393, R394). -/

/-- This instant is a fine-tick boundary of a side: device time passes an aligned instant in it. -/
def Side.atFine (p : Pkg) (d : Side) : Bool :=
  let f := d.tim.fineNs
  let n := d.dev p + f - d.tim.phase % f
  let m := d.devAt (p.now - 1) + f - d.tim.phase % f
  decide (f ≠ 0) && n / f != m / f

/-- A SET frame for every item on each TIMED port: the new active side's latest values (R394). -/
def Hold.loadItems (h : Hold) (d : Side) (beams : Nat) : Hold :=
  d.twn.items.foldl (fun h e =>
    let n := e.1 / 65536
    let x := h.port n
    if n < beams && x.st = 4 then h.setPort n { x with pend := tset x.pend (e.1 % 65536) e.2 } else h) h

/-- The interlock gives the grant to the standby at the first fine-tick boundary after the microsecond of isolation; FAILOVER_SEEN
and the failover event follow (R85). -/
def State.grant (s : State) : State :=
  match s.pkg.hold.gap with
  | none => s
  | some g =>
    let x := otherSide g.lost
    let h := s.pkg.hold
    if h.health x ≠ 3 || !reached s.pkg.now (g.declared + 1000) || !(s.side x).atFine s.pkg then s
    else
      let h1 := ((h.set F.HLD_TWN_STATUS_ACTIVE (sideIx x)).set F.HLD_TWN_STATUS_GRANTED 1).inc F.HLD_FAILOVERS_COUNT 1
      let gapNs := s.pkg.now - g.lastBeat
      let h2 := { h1.set F.HLD_LAST_GAP_NS gapNs with gap := none, ack := some x }
      let s1 := s.setHold ((h2.loadItems (s.side x) s.pkg.beams).compareShow)
      (s1.holdFault 0x400 F.HLD_TWN_STATUS_FAILOVER).both fun p d =>
        (d.fault p 0 F.HIF_STATUS_FAILOVER_SEEN).notice p 0x250 0 (sideIx x) gapNs

def execGrant (t : Nat) (s : State) : Host.Outcome State Fault Refusal := .next (s.advance t).grant

/-- The side that was granted has not acknowledged within 4 core cycles: it is lost as well (R391). -/
def State.ackTimeout (s : State) : State :=
  match s.pkg.hold.ack with
  | none => s
  | some x => ((s.setHold { s.pkg.hold with ack := none }).sideLost x s.pkg.now).fltRefresh

def execGrantAckTimeout (s : State) : Host.Outcome State Fault Refusal := .next s.ackTimeout

/-! The copy (R406). -/

/-- Bytes that the copy sends: the DRAM capacity in use, then 32 MiB of SRAM. -/
def Pkg.dramUse (p : Pkg) : Nat := min p.dramA p.dramB * 2 ^ 30

def Pkg.copyGranules (p : Pkg) : Nat := (p.dramUse + 2 ^ 25) / 4096

/-- Granules of a memory that differ between two instants, from a first granule number. -/
def diffGranules (base : Nat) (a b : Tab Byte) : List Nat :=
  ((a ++ b).filter (fun e => memByte a e.1 != memByte b e.1)).map fun e => base + e.1 / 4096

/-- XFER_LEFT in MiB. -/
def Copy.left (c : Copy) (total : Nat) : Nat := ceilDiv ((total - c.pos + c.dirty.length) * 4096) (2 ^ 20)

/-- The copy's work of a control tick: granules written after they were sent are sent again; it is complete at the first edge at
which none remains. -/
def State.copyEdge (s : State) : State :=
  match s.pkg.hold.copy with
  | none => s
  | some c =>
    let d := s.actSide
    let total := s.pkg.copyGranules
    let again := ((diffGranules 0 c.dram d.dram ++ diffGranules (s.pkg.dramUse / 4096) c.sram d.sram).filter
      (· < c.pos)).foldl (fun l g => if l.contains g then l else l ++ [g]) c.dirty
    let budget := c.spare + d.get F.TWN_XFER_GBPS * d.tim.tickNs
    let k := min (budget / 4096) (total - c.pos)
    let c1 : Copy := { pos := c.pos + k, spare := budget % 4096, dirty := again.drop (budget / 4096 - k), dram := d.dram,
                       sram := d.sram }
    if c1.pos = total && c1.dirty.isEmpty then
      let s1 := (s.setHold { s.pkg.hold with copy := none, cmpTick := d.tim.count }).setSide s.pkg.hold.standby d
      s1.both fun p d =>
        (((d.set F.TWN_STATUS_XFER 0).set F.TWN_STATUS_COMPARING 1).set F.TWN_XFER_LEFT_MIB 0).fault p 0x250
          F.TWN_STATUS_XFER_DONE
    else (s.setHold { s.pkg.hold with copy := some c1 }).both fun _ d => d.set F.TWN_XFER_LEFT_MIB (c1.left total)

/-! Role swaps (R173, R402 to R404). -/

def Side.compat (d : Side) : Bool := d.flag F.TWN_CFG_COMPAT

/-- The due time and the latest time of the next periodic swap. -/
def Side.swapDue (d : Side) : Nat := (d.twn.base + 1000000000 * d.get F.TWN_SWAP_PERIOD_S) % 2 ^ 64

def Side.swapLatest (d : Side) : Nat := (d.swapDue + 1000000000 * d.get F.TWN_SWAP_SLACK_S) % 2 ^ 64

/-- A periodic swap is scheduled. -/
def Side.periodic (d : Side) : Bool := d.flag F.TWN_CFG_PERIODIC_EN && !d.compat

/-- A swap is to be made at the edge: ran: some plate was STARTED or ENDING before the edge's starts; dur: DURATION of the plate
that starts at the edge. -/
def Side.swapWanted (d : Side) (edge : Nat) (ran : Bool) (dur : Option Nat) : Bool :=
  let per := d.periodic &&
    ((reached edge d.swapDue && (!ran || dur.isSome)) ||
     (match dur with | some t => !reached d.swapLatest (edge + t) | none => false))
  let fix := d.flag F.TWN_STATUS_FIXED_ARMED && reached edge d.twn.fixedAt && !ran
  !d.compat && (per || fix)

/-- A side's registers after a swap that is made. -/
def Side.swapped (p : Pkg) (edge : Nat) (d : Side) : Side :=
  let d1 := ((d.inc F.TWN_SWAPS_COUNT 1).set F.TWN_STATUS_FIXED_ARMED 0).fault p 0x250 F.TWN_STATUS_SWAP_DONE
  { d1 with twn := { d1.twn with base := edge, skipped := false, late := false } }

/-- The standby is not SYNCED: the swap is skipped, once for each wait. -/
def Side.swapSkip (p : Pkg) (d : Side) : Side :=
  if d.twn.skipped then d
  else
    let d1 := d.fault p 0x250 F.TWN_STATUS_SWAP_SKIPPED
    { d1 with twn := { d1.twn with skipped := true } }

/-- A due swap waits past its latest time. -/
def Side.swapLate (p : Pkg) (edge : Nat) (ran : Bool) (d : Side) : Side :=
  if d.periodic && ran && !d.twn.late && reached edge d.swapDue && !reached d.swapLatest edge then
    let d1 := d.fault p 0x250 F.TWN_STATUS_SWAP_LATE
    { d1 with twn := { d1.twn with late := true } }
  else d

/-- The swap at a control tick edge: made, skipped, or waiting. -/
def State.swapEdge (s : State) (edge : Nat) (ran : Bool) (dur : Option Nat) : State :=
  let h := s.pkg.hold
  if !h.granted then s
  else if s.actSide.swapWanted edge ran dur then
    if h.health h.standby = 3 && h.health h.active = 3 then
      let h1 := (h.set F.HLD_TWN_STATUS_ACTIVE (sideIx h.standby)).compareShow
      (s.setHold h1).both fun p d => d.swapped p edge
    else s.both Side.swapSkip
  else s.both fun p d => d.swapLate p edge ran

/-- A time lies at or before the forecast end of a plate that is STARTED or ENDING (R402). -/
def Side.insidePlate (d : Side) (t : Nat) : Bool :=
  (d.runningRecs).any fun r =>
    reached (d.get64 (F.PLN_PLATE_START_LO_TIME r) (F.PLN_PLATE_START_HI_TIME r) + mDuration (d.mdat r)) t

/-- TWN_CMD.FIXED_ARM: a swap is requested at TWN_FIXED, or refused. -/
def Side.fixedArm (p : Pkg) (d : Side) : Side :=
  let t := d.get64 F.TWN_FIXED_LO_TIME F.TWN_FIXED_HI_TIME
  if d.compat || d.insidePlate t then d.fault p 0x250 F.TWN_STATUS_WINDOW_VIOL
  else
    let d1 := d.set F.TWN_STATUS_FIXED_ARMED 1
    { d1 with twn := { d1.twn with fixedAt := t } }

def execFixedArm (s : State) : Host.Outcome State Fault Refusal := .next (s.asWrite true 0xD00008 1 (s.both Side.fixedArm))

def execFixedDisarm (s : State) : Host.Outcome State Fault Refusal :=
  .next (s.asWrite true 0xD00008 2 (s.both fun _ d => d.set F.TWN_STATUS_FIXED_ARMED 0))

end Sys2Proof.Machine
end

