-- ==== Sys2Proof/Machine/Gate.lean ====
section
/-! DEFINITION. The commit gate and the start of a plate (spec/06): PLATE_COMMIT, GATE_QUERY, PLATE_ABORT, PLATE_WAIT, the
start check of a control tick edge, and a plate's end. -/

namespace Sys2Proof.Machine

/-! Postings of PLN_COMMIT_STATUS (R83, R165). -/

/-- An outcome is posted: every field changes at once and SEQ is raised. -/
def Side.gatePost (code failed jar : Nat) (d : Side) : Side :=
  ((((d.set F.PLN_COMMIT_STATUS_CODE code).set F.PLN_COMMIT_STATUS_FAILED failed).set F.PLN_COMMIT_STATUS_JAR jar).inc
    F.PLN_COMMIT_STATUS_SEQ 1).set F.PLN_COMMIT_STATUS_VALID 1

/-! The checks of the gate (R169 to R173). -/

/-- Entries of a plate. -/
def Side.plateIx (d : Side) (j pl : Nat) : List Ent := (d.plateEnts j pl).map (·.2)

/-- Policy and staging at commit (R171); the metadata block is staged. -/
def Side.stagingCommit (d : Side) (j pl : Nat) (m : List Byte) : Bool :=
  let es := d.plateIx j pl
  let fin := (es.map fun e => e.off + e.size).foldl max 0
  let sum := (es.map (·.size)).sum
  mPolicy m != 0 || decide (fin ≤ d.staged j) || decide (2 * sum * 10000000 ≤ d.get (F.PLN_INGEST_BYTES j) * mDuration m)

/-- STAGING at a start: every channel is full or holds the whole of its data (R171). -/
def Side.stagingStart (d : Side) (r : Nat) : Bool :=
  let m := d.mdat r
  d.stagingCommit (d.recSlot r) (d.recPlate r) m &&
  (mChans m).all fun c => decide (d.allotOf c ≤ d.recFill r c) || d.recWhole r c

/-- The first enabled jar that fails ENERGY, with the levels it is judged by in mJ (R172). -/
def Side.badJar (d : Side) (m : List Byte) (level : Nat → Rat) : Option Nat :=
  (List.range 32).find? fun j =>
    d.jarOn j && mEnergy m j != 0 &&
    !(decide ((d.get (F.PLN_JAR_RESERVE_MJ j) : Rat) ≤
        level j + ((d.get (F.PLN_JAR_REFILL_MW j) * mDuration m : Nat) : Rat) / 1000000000 - d.ePrime m j) &&
      decide (mPeak m j ≤ d.get (F.PLN_JAR_CEIL_W j)))

/-- THERMAL (R169, R465). -/
def Side.thermalOk (d : Side) (m : List Byte) : Bool :=
  let limit : Int := if d.flag F.THM_STATUS_THROTTLE then -2048 else (d.get F.THM_LIMIT_THROTTLE : Int)
  decide ((d.theta + mMargin m) * 4096 + mRise m * d.get F.PLN_THERM_K_K_T ≤ limit * 4096)

/-- SWAP: no fixed-time swap falls in the window from an edge (R169, R173). -/
def Side.swapOk (d : Side) (edge dur : Nat) : Bool :=
  d.compat || !d.flag F.TWN_STATUS_FIXED_ARMED || !(reached d.twn.fixedAt edge && reached (edge + dur) d.twn.fixedAt)

/-- KEY: the job is not encrypted, or its key is present and unlocked (R169). -/
def Side.keyOk (d : Side) (j : Nat) : Bool :=
  !d.flag (F.STR_JOB_STATE_ENC j) ||
  match d.jobKey (d.jobId j) with
  | .ok _ => true
  | .error _ => false

/-- Check bits of the checks that fail, from (bit, passes). -/
def failBits (l : List (Nat × Bool)) : Nat := (l.map fun e => if e.2 then 0 else 2 ^ e.1).sum

/-- The edge that SWAP uses at commit (R170): under AT the first edge at or after START_AT, of the tick that is then in force
(R35, R43). -/
def Side.swapFrom (d : Side) (mode at_ : Nat) : Nat :=
  let n := d.tim.nextEdge
  if mode ≠ 1 || reached n at_ then n
  else if d.flag F.TIM_STATUS_TICK_PENDING then
    let t := { d.tim with tickNs := d.get F.TIM_TICK_NS, phase := d.get F.TIM_TICK_PHASE }
    if reached (t.realigned n) at_ then t.realigned n else align64 t.tickNs t.phase at_
  else align64 d.tim.tickNs d.tim.phase at_

/-- A commit that is judged: job slot, plate, START_MODE, START_AT, metadata. -/
structure Bid where
  slot : Nat
  plate : Nat
  mode : Nat
  startAt : Nat
  mdat : List Byte
  deriving DecidableEq, Repr

/-- The gate at commit: failing bits and first failing jar (R169 to R172). -/
def Side.gateCommit (d : Side) (b : Bid) : Nat × Nat :=
  let m := b.mdat
  let others := d.activeRecs
  let jar := d.badJar m fun j => (d.get (F.PLN_JAR_CAP_MJ j) : Rat)
  let pool := if mKind m = 0 then d.rasterPool m else 0
  (failBits [(0, d.stagingCommit b.slot b.plate m),
    (1, decide (mDotSum m + (others.map fun r => mDotSum (d.mdat r)).sum ≤ d.get F.PLN_DOT_CEIL_MBPS)),
    (2, decide (pool + (others.map fun r => (d.recd r).pool).sum ≤ 8388608)),
    (3, jar.isNone),
    (4, decide (mPeakSum m + (others.map fun r => mPeakSum (d.mdat r)).foldl max 0 ≤ d.get F.PLN_SUPPLY_CEIL_W)),
    (5, d.thermalOk m), (6, d.swapOk (d.swapFrom b.mode b.startAt) (mDuration m)), (7, d.keyOk b.slot)], jar.getD 0)

/-- Plates of a job slot start in plate order (R176): an unfinished plate of the slot holds record r back. -/
def Side.heldBack (d : Side) (r : Nat) : Bool :=
  (d.activeRecs).any fun q =>
    q != r && d.recSlot q == d.recSlot r &&
    (if d.recPending q then decide (d.recPlate q < d.recPlate r) else decide (d.recPlate r ≤ d.recPlate q))

/-- The start check of record r but for SWAP: failing bits and first failing jar (R169 to R172). A plate held back by plate
order fails SEQUENCE. -/
def Side.gateStart (d : Side) (r : Nat) : Nat × Nat :=
  let m := d.mdat r
  let others := d.activeRecs.filter fun q => q != r
  let jar := d.badJar m fun j => ((tget 0 d.pln.prev j / 1000).floor : Rat)
  let ending := others.filter fun q => d.recState q == 4
  (failBits [(0, d.stagingStart r),
    (1, decide (mDotSum m + (others.map fun q => mDotSum (d.mdat q)).sum ≤ d.get F.PLN_DOT_CEIL_MBPS)),
    (3, jar.isNone),
    (4, decide (mPeakSum m + (ending.map fun q => mPeakSum (d.mdat q)).sum ≤ d.get F.PLN_SUPPLY_CEIL_W)),
    (5, d.thermalOk m), (7, d.keyOk (d.recSlot r)), (8, d.startedRec.isNone && !d.heldBack r)], jar.getD 0)

/-! Metadata (R162, R163). -/

/-- Bytes that are reserved in the metadata block, as (offset, length). -/
def metaRsv : List (Nat × Nat) := [(31, 1), (34, 26)] ++ (List.range 16).map fun c => (72 + 16 * c, 8)

/-- Conditions of R163 by the offset of the field that fails; chans are the channels that have a block of the plate. -/
def metaConds (m : List Byte) (plate : Nat) (chans : List Nat) : List (Nat × Bool) :=
  [(0, leAt m 0 4 == 0x4D7D5A02), (4, leAt m 4 2 == plate), (6, decide (mKind m ≤ 1)),
   (7, mPolicy m != 3 && byteAt m 7 / 4 == 0), (8, decide (1 ≤ mDuration m) && decide (mDuration m ≤ 2 ^ 40))] ++
  (List.range 3).map (fun i => (21 + i, decide (mWm m (i + 1) ≤ mWm m i))) ++
  (List.range 3).map (fun i => (25 + i, decide (mSf m (i + 1) ≤ mSf m i))) ++
  [(27, decide (16 ≤ mSf m 3)), (30, decide (mStop m < mResume m)),
   (60, leAt m 60 4 == foldXor (leWords m 0 15 ++ leWords m 64 112))] ++
  (List.range 16).map (fun c => (64 + 16 * c, decide (mDot m c ≤ 20000) && (mKind m != 1 || mDot m c == 0))) ++
  (List.range 16).map (fun c => (68 + 16 * c, (mStream m c != 0) == chans.contains c))

/-- The offset of the first bad field of a metadata block, 0xFFFF_FFFF where its length is not 512 (R163). -/
def metaBad (m : List Byte) (plate : Nat) (chans : List Nat) : Option Nat :=
  if m.length ≠ 512 then some 0xFFFFFFFF
  else
    let rsv := metaRsv.filterMap fun e => firstNonZero m e.1 e.2
    let bad := rsv ++ ((metaConds m plate chans).filter (!·.2)).map (·.1)
    match bad with
    | [] => none
    | o :: t => some (t.foldl min o)

/-! The checks before the gate (R243, R264, R326, R399, R444). -/

/-- The dwell guard's check of a vector plate (R399): reason and channel. -/
def dwellCheck (p : Pkg) (d : Side) (m : List Byte) : Option (Nat × Nat) :=
  if mKind m ≠ 1 then none
  else (mChans m).findSome? fun c =>
    if !p.hold.flag (F.HLD_DWELL_CFG_EN c) then some (1, c)
    else if p.hold.get (F.HLD_DWELL_CFG_LIMIT_NS c) < 2 * (d.get (F.BLK_CFG_ENC_FT c) * d.fineNs) then some (2, c)
    else none

/-- The key store's check (R444). -/
def secCheck (p : Pkg) (d : Side) : Option (Nat × Nat) :=
  if p.fuses.recipeReq && !d.flag F.SEC_STATUS_RECIPE then some (1, 0)
  else if d.get F.SEC_STATUS_LIFECYCLE = 4 then some (2, 0)
  else none

/-- RESULT1 of the first check that fails. -/
def Side.plateCheck (p : Pkg) (d : Side) (m : List Byte) : Option Nat :=
  let tag (n : Nat) (x : Option (Nat × Nat)) : Option Nat := x.map fun e => e.1 + 2 ^ 8 * e.2 + 2 ^ 16 * n
  (if mKind m = 0 then tag 1 (d.rasterCheck m) else tag 2 (d.vectorCheck m)).orElse fun _ =>
    (tag 3 (d.lawPlateCheck m)).orElse fun _ => (tag 4 (dwellCheck p d m)).orElse fun _ => tag 5 (secCheck p d)

/-! PLATE_COMMIT and GATE_QUERY (R161, R165). -/

/-- An outcome of a commit: result, and the check bits and jar to post. -/
structure Verdict where
  res : Res
  failed : Nat := 0
  jar : Nat := 0
  deriving DecidableEq, Repr

/-- The first bad field of the descriptor. -/
def commitBad (b : List Byte) : Option Nat :=
  if bits (byteAt b 4) 2 2 ≠ 0 ∨ 2 < bits (byteAt b 4) 4 3 then some 4
  else match firstNonZero b 5 3 with
    | some o => some o
    | none => if 8 ≤ byteAt b 11 then some 11 else rsvCheck b [(12, 4), (24, 40)]

/-- The record that the next commit takes (R161). -/
def Side.freeRec (d : Side) : Option Nat :=
  match (List.range 4).find? fun r => d.recState r == 0 with
  | some r => some r
  | none => (sortBy (fun r => (d.recd r).endSeq) ((List.range 4).filter fun r => 5 ≤ d.recState r)).head?

/-- The checks of R165, before the metadata is read: the failure, or the metadata's index and entry. -/
def Side.commitEarly (d : Side) (b : List Byte) (query : Bool) : Except Verdict (Nat × Ent) :=
  let j := byteAt b 4 % 4
  let pl := dFld b 8 2
  match commitBad b with
  | some o => .error ⟨badField o, 0, 0⟩
  | none =>
    if !d.slotOpen j then .error ⟨⟨stPLN_STATE, 0, 0xFF⟩, 0, 0⟩
    else match (d.plateEnts j pl).find? fun e => e.2.kind == 2 with
      | none => .error ⟨badField 8, 0, 0⟩
      | some e =>
        match (d.activeRecs).find? fun r => d.recSlot r == j && d.recPlate r == pl with
        | some r => .error ⟨⟨stPLN_STATE, 0, d.recState r⟩, 0, 0⟩
        | none =>
          if e.2.st = .consumed then .error ⟨⟨stPLN_STATE, 0, 0xFE⟩, 0, 0⟩
          else if !query && d.freeRec.isNone then .error ⟨⟨stPLN_BUSY, 0, 0⟩, 0, 0⟩
          else if d.staged j < e.2.off + e.2.size then .error ⟨⟨stPLN_GATE, 0, 1⟩, 1, 0⟩
          else if !d.keyOk j then .error ⟨⟨stPLN_GATE, 0, 0x80⟩, 0x80, 0⟩
          else .ok e

/-- The metadata decoded (R163, R141): the side, and the block or the failure. -/
def Side.commitMeta (p : Pkg) (d : Side) (j idx : Nat) (e : Ent) : Side × Except Verdict (List Byte) :=
  match d.blockDecode j idx e (d.jobKey (d.jobId j)) with
  | .error (st, r1) => (d.blockErr p j idx st, .error ⟨⟨st, 0, r1⟩, 0, 0⟩)
  | .ok m =>
    let chans := ((d.plateIx j e.plate).filter fun x => x.kind != 2).map (·.chan)
    match metaBad m e.plate chans with
    | some o => (d.blockCount, .error ⟨⟨stPLN_META, 0, o⟩, 0, 0⟩)
    | none => (d.blockCount, .ok m)

/-- A plate is committed into record r: its reservations are made and running generators are cut (R161, R169, R174, R330). -/
def Side.commitRec (r : Nat) (b : List Byte) (x : Bid) (d : Side) : Side :=
  let n := d.pln.seq + 1
  let kind0 := mKind x.mdat = 0
  let y : Rec := { seq := n, mode := x.mode, mayPass := bit (byteAt b 4) 7, startEvent := dFld b 10 2, startAt := x.startAt,
                   jobId := d.jobId x.slot, mdat := x.mdat, pool := if kind0 then d.rasterPool x.mdat else 0,
                   mark := d.posted.length, maps := if kind0 then d.rasterMaps x.mdat else [] }
  let d1 := { d with pln := { d.pln with seq := n }, law := { d.law with cut := true } }
  let d2 := ((d1.setRec r y).setWord (F.PLN_PLATE_STATE_STATE r).off 0).set (F.PLN_PLATE_STATE_SLOT r) x.slot
  let d3 := (d2.set (F.PLN_PLATE_ID_PLATE r) x.plate).set64 (F.PLN_PLATE_START_LO_TIME r) (F.PLN_PLATE_START_HI_TIME r) 0
  ((d3.set64 (F.PLN_PLATE_END_LO_TIME r) (F.PLN_PLATE_END_HI_TIME r) 0).setRecState r 1).realloc

/-- A commit or query from its descriptor. -/
def Side.commitRun (p : Pkg) (query : Bool) (b : List Byte) (d : Side) : Side × Verdict :=
  let j := byteAt b 4 % 4
  match d.commitEarly b query with
  | .error v => (d, v)
  | .ok (idx, e) =>
    match d.commitMeta p j idx e with
    | (d1, .error v) => (d1, v)
    | (d1, .ok m) =>
      let x : Bid := ⟨j, e.plate, bits (byteAt b 4) 4 3, dFld b 16 8, m⟩
      match d1.plateCheck p m with
      | some r1 => (d1, ⟨⟨stREFUSED, 0, r1⟩, 0, 0⟩)
      | none =>
        let g := d1.gateCommit x
        if g.1 ≠ 0 then (d1, ⟨⟨stPLN_GATE, 0, g.1 + 2 ^ 9 * g.2⟩, g.1, g.2⟩)
        else if query then (d1, ⟨⟨stSUCCESS, 0, 0⟩, 0, 0⟩)
        else match d1.freeRec with
          | none => (d1, ⟨⟨stPLN_BUSY, 0, 0⟩, 0, 0⟩)
          | some r => (d1.commitRec r b x, ⟨⟨stSUCCESS, r, 0⟩, 0, 0⟩)

/-- PLATE_COMMIT or GATE_QUERY; in NAP it wakes the package and waits for the decompress engines (R471). -/
def Side.commit (p : Pkg) (query : Bool) (n : Nat) (d : Side) : Side :=
  match d.nextStart n (if query then 0x41 else 0x40) with
  | none => d
  | some x =>
    if !d.groupOn 1 then d.napWake
    else
      let r := d.commitRun p query x.bytes
      (r.1.gatePost r.2.res.status r.2.failed r.2.jar).startDone n r.2.res

def execPlateCommit (n : Nat) (s : State) : Host.Outcome State Fault Refusal :=
  if n < 64 then .next (s.both fun p d => d.commit p false n) else .next s

def execGateQuery (n : Nat) (s : State) : Host.Outcome State Fault Refusal :=
  if n < 64 then .next (s.both fun p d => d.commit p true n) else .next s

/-! PLATE_ABORT and PLATE_WAIT (R166, R167). -/

/-- The first bad field of a descriptor that names a record. -/
def recFieldBad (b : List Byte) : Option Nat := if 4 ≤ byteAt b 4 then some 4 else firstNonZero b 5 59

/-- PLATE_ABORT. -/
def Side.abort (p : Pkg) (n : Nat) (d : Side) : Side :=
  match d.nextStart n 0x42 with
  | none => d
  | some x =>
    match recFieldBad x.bytes with
    | some o => d.startDone n (badField o)
    | none =>
      let r := byteAt x.bytes 4 % 4
      if d.recPending r then (d.release p r).startDone n ⟨stSUCCESS, 0, 0⟩
      else if d.recRunning r then (d.spoilCause p r 1).startDone n ⟨stSUCCESS, 0, 0⟩
      else d.startDone n ⟨stPLN_STATE, 0, d.recState r⟩

def execPlateAbort (n : Nat) (s : State) : Host.Outcome State Fault Refusal :=
  if n < 64 then .next (s.both fun p d => d.abort p n) else .next s

/-- The end time a record shows. -/
def Side.recEnd (d : Side) (r : Nat) : Nat := d.get64 (F.PLN_PLATE_END_LO_TIME r) (F.PLN_PLATE_END_HI_TIME r)

/-- PLATE_WAIT: at once for a plate that has ended, else when it ends. -/
def Side.plateWait (n : Nat) (d : Side) : Side :=
  match d.nextStart n 0x43 with
  | none => d
  | some x =>
    match recFieldBad x.bytes with
    | some o => d.startDone n (badField o)
    | none =>
      let r := byteAt x.bytes 4 % 4
      match d.recState r with
      | 0 => d.startDone n ⟨stPLN_STATE, 0, 0⟩
      | 5 => d.startDone n ⟨stSUCCESS, d.recEnd r, 0⟩
      | 6 => d.startDone n ⟨stSPOILED, d.recEnd r, d.get (F.PLN_PLATE_STATE_REASON r)⟩
      | _ => { d.startRun n with pln := { d.pln with waits := d.pln.waits ++ [(r, n, x.slot)] } }

def execPlateWait (n : Nat) (s : State) : Host.Outcome State Fault Refusal :=
  if n < 64 then .next (s.both fun _ d => d.plateWait n) else .next s

/-- JAR_ENABLE: PLN_JARj_CFG is written, in the PLATE window and within R186; EN going from 0 to 1 fills the jar (R185,
R189). While the jar is enabled no other field changes. -/
def Side.jarWrite (p : Pkg) (j v : Nat) (d : Side) : Side :=
  let f := F.PLN_JAR_CFG_EN j
  let cur := d.word f.off
  let new := putBits (putBits (putBits cur 0 7 (bits v 0 7)) 8 8 (bits v 8 8)) 16 16 (bits v 16 16)
  if new = cur then d
  else if !d.plateWindow || (5 < bits v 1 3 && bits v 1 3 != bits cur 1 3) ||
      (bit cur 0 && putBits new 0 1 1 != cur) then d.fault p 0x0F0 F.PLN_STATUS_WINDOW_VIOL
  else
    let d1 := d.setWord f.off new
    if bit new 0 && !bit cur 0 then d1.jarEnable j else d1

def execJarEnable (j : Nat) (v : Word) (s : State) : Host.Outcome State Fault Refusal :=
  if j < 32 then .next (s.asWrite true (F.PLN_JAR_CFG_EN j).off v.toNat (s.both fun p d => d.jarWrite p j v.toNat)) else .next s

/-! The end of a plate (R159, R181). -/

/-- What a spoiled plate leaves behind it in the pipelines: raster tracks and vectors to come are dropped, axes in the
reroll sequence come to rest, a PLATE record is written (R181, R265, R295, R349). -/
def Side.spoilOut (p : Pkg) (r : Nat) (d : Side) : Side :=
  (((d.rasterDrop r).vectorSpoil p r).motSpoil p).telPlate p r 2 (d.get (F.PLN_PLATE_STATE_REASON r))

/-- The spoil edge (R181). -/
def Side.spoils (p : Pkg) (d : Side) : Side :=
  let was := d.runningRecs
  let d1 := d.spoilEdge p
  was.foldl (fun d r => if d.recState r = 6 then d.spoilOut p r else d) d1

/-- The last output of every channel of a plate has left the hold die (R236, R268). -/
def Side.outputLeft (p : Pkg) (d : Side) (r : Nat) : Bool :=
  (mChans (d.mdat r)).all fun c => if mKind (d.mdat r) = 0 then d.rasterLeft p r c else d.vectorLeft p r c

/-- An ENDING plate whose last output has left the hold die becomes DONE. -/
def Side.plateDone (p : Pkg) (r : Nat) (d : Side) : Side :=
  if d.recState r = 4 && d.outputLeft p r then
    (((d.recDone p r).rasterDrop r).vectorDone p r).telPlate p r 1 0
  else d

def execPlateDone (p : Nat) (s : State) : Host.Outcome State Fault Refusal :=
  if p < 4 then .next (s.runPorts.both fun k d => d.plateDone k p) else .next s

/-! The start (R159, R175, R176). -/

/-- A record's start is due at an edge (R175). -/
def Side.startIsDue (d : Side) (edge r : Nat) : Bool :=
  d.recPending r &&
  match (d.recd r).mode with
  | 0 => true
  | 1 => reached edge (d.recd r).startAt
  | _ => (d.recd r).eventSeen

/-- Postings since the last edge are seen by the records that wait for their event (R175); n of them came before this
edge. -/
def Side.seeEvents (n : Nat) (d : Side) : Side :=
  (List.range 4).foldl (fun d r =>
    let x := d.recd r
    let hit := ((d.posted.take n).drop x.mark).any fun e => e.1 == x.startEvent
    if d.recState r = 1 && x.mode = 2 then d.setRec r { x with eventSeen := x.eventSeen || hit, mark := 0 } else d) d

/-- Record r may pass the plates before it in commit order that have failed, given as (record, failing bits) (R176). -/
def Side.mayGo (d : Side) (r : Nat) (failed : List (Nat × Nat)) : Bool :=
  failed.all fun q =>
    d.recState r == 2 && (d.recd r).mayPass && d.recSlot q.1 != d.recSlot r && Nat.land q.2 0x28 != 0 &&
    Nat.land q.2 0x28 == q.2

/-- What an edge finds of the records that are due: the one that starts; those that fail, with their bits and jar. -/
structure Starts where
  pick : Option Nat := none
  failed : List (Nat × Nat) := []
  out : List (Nat × Nat × Nat) := []
  wait : List Nat := []
  deriving DecidableEq, Repr

/-- One due record, in commit order; swap tells whether SWAP passes for a duration. -/
def Side.startJudge (d : Side) (swap : Nat → Bool) (a : Starts) (r : Nat) : Starts :=
  let g := d.gateStart r
  let bits := if swap (mDuration (d.mdat r)) then g.1 else g.1 + 0x40
  if (d.recd r).mode = 0 then
    if bits = 0 && a.pick.isNone && d.mayGo r a.failed then { a with pick := some r }
    else { a with failed := if a.pick.isNone then a.failed ++ [(r, bits)] else a.failed, wait := a.wait ++ [r] }
  else if bits ≠ 0 then { a with out := a.out ++ [(r, bits, g.2)] }
  else if a.pick.isNone then { a with pick := some r }
  else a

/-- The records due at an edge, judged in commit order. -/
def Side.starts (d : Side) (edge : Nat) (swap : Nat → Bool) : Starts :=
  (sortBy (fun r => (d.recd r).seq) ((List.range 4).filter (d.startIsDue edge))).foldl (d.startJudge swap) {}

/-- No plate starts at an edge while an accepted jump waits or its realignment runs (R33): where no plate was running too, which is the
model's choice (log entry 138). -/
def Side.startsHeld (d : Side) (stepped : Bool) : Bool := stepped || d.flag F.TIM_STATUS_JUMP_ACCEPTED

/-- DURATION of the plate that would start at an edge, SWAP aside (R173). -/
def Side.startDur (d : Side) (edge : Nat) (stepped : Bool) : Option Nat :=
  if d.startsHeld stepped then none else ((d.starts edge fun _ => true).pick).map fun r => mDuration (d.mdat r)

/-- A due AT or EVENT record that fails its check becomes FREE (R175). -/
def Side.startFail (p : Pkg) (r bits jar : Nat) (d : Side) : Side :=
  let d1 := ((((d.dropCauses r).setRecState r 0).feedRelease r)).gatePost stPLN_START_FAIL bits jar
  let d2 := d1.endWaits r stPLN_START_FAIL (d.dev p) (bits + 2 ^ 9 * jar)
  (d2.recNotice p r 4 bits).realloc

/-- A port of the plate's channels is not TIMED (R197). -/
def Side.portsTimed (p : Pkg) (d : Side) (r : Nat) : Bool := (mChans (d.mdat r)).all fun c => (p.hold.port c).st == 4

/-- Record r starts at an edge (R160, R175, R181, R197, R228). -/
def Side.start (p : Pkg) (edge r : Nat) (d : Side) : Side :=
  let d1 := (d.setRecState r 3).set64 (F.PLN_PLATE_START_LO_TIME r) (F.PLN_PLATE_START_HI_TIME r) edge
  let d2 := (d1.setRec r { d1.recd r with theta0 := d.theta }).set F.PLN_SPEED_FACTOR 65536
  let d3 := { d2 with pln := { d2.pln with spoilHeld := false } }
  let d4 := (((d3.feedStart r).recNotice p r 0 (d.recPlate r)).mpStart).telPlate p r 0 0
  let d5 := if d4.portsTimed p r then d4 else d4.spoilCause p r 0x0B
  let d6 := (d5.rasterStart p r edge).vectorStart r edge
  if d6.pln.causes.contains (r, 9) then
    let mine := (d6.pln.causes.filter fun c => c.1 == r).map (·.2)
    let d7 := { d6 with pln := { d6.pln with causes := d6.pln.causes.filter fun c => c.1 != r } }
    (d7.spoil p r mine).spoilOut p r
  else d6.plateEnding r

/-- The starts of an edge. -/
def Side.startEdge (p : Pkg) (edge : Nat) (stepped : Bool) (d : Side) : Side :=
  if d.startsHeld stepped then d
  else
    let a := d.starts edge fun dur => d.swapOk edge dur
    let d1 := (a.wait).foldl (fun d r => if d.recState r = 1 then d.setRecState r 2 else d) d
    let d2 := (a.out).foldl (fun d e => d.startFail p e.1 e.2.1 e.2.2) d1
    match a.pick with
    | some r => d2.start p edge r
    | none => d2

end Sys2Proof.Machine
end

