-- ==== Sys2Proof/Machine/Ecc.lean ====
section
/-! DEFINITION. The curve P-384: agreement (R437) and the verification of signatures (R433, R441), as FIPS 186 and SP 800-56A
define them (log entry 12). -/

namespace Sys2Proof.Machine

/-- The field's prime. -/
def ecP : Nat := 2 ^ 384 - 2 ^ 128 - 2 ^ 96 + 2 ^ 32 - 1

/-- The group's order. -/
def ecN : Nat :=
  0xFFFFFFFFFFFFFFFFFFFFFFFFFFFFFFFFFFFFFFFFFFFFFFFFC7634D81F4372DDF581A0DB248B0A77AECEC196ACCC52973

/-- The curve's coefficient b; a is −3. -/
def ecB : Nat :=
  0xB3312FA7E23EE7E4988E056BE3F82D19181D9C6EFE8141120314088F5013875AC656398D8A2ED19D2A85C8EDD3EC2AEF

/-- A point as (X, Y, Z) with x = X/Z² and y = Y/Z³ (Jacobian coordinates); Z is 0 for the point at infinity. -/
abbrev EcPt := Nat × Nat × Nat

def ecInf : EcPt := (1, 1, 0)

def ecG : EcPt :=
  (0xAA87CA22BE8B05378EB1C71EF320AD746E1D3B628BA79B9859F741E082542A385502F25DBF55296C3A545E3872760AB7,
    0x3617DE4A96262C6F5D9E98BF9292DC29F8F41DBD289A147CE9DA3113B5F0B8C00A60B1CE1D7E819D7A431D7C90EA0E5F, 1)

/-- b to the power e modulo m, for e below 2^n. -/
def powMod (m : Nat) : Nat → Nat → Nat → Nat
  | 0, _, _ => 1
  | n + 1, b, e =>
    let t := powMod m n (b * b % m) (e / 2)
    if e % 2 = 1 then t * b % m else t

/-- The inverse modulo a prime of 384 bits. -/
def invMod (m x : Nat) : Nat := powMod m 384 (x % m) (m - 2)

/-- Product and difference in the field. -/
def fpMul (a b : Nat) : Nat := a * b % ecP

def fpSub (a b : Nat) : Nat := (a + ecP - b % ecP) % ecP

/-- Twice a point, for a = −3. -/
def ecDouble (q : EcPt) : EcPt :=
  let zz := fpMul q.2.2 q.2.2
  let yy := fpMul q.2.1 q.2.1
  let s := fpMul (4 * q.1) yy
  let m := fpMul (3 * fpSub q.1 zz) (q.1 + zz)
  let x := fpSub (fpMul m m) (2 * s)
  (x, fpSub (fpMul m (fpSub s x)) (8 * fpMul yy yy), fpMul (2 * q.2.1) q.2.2)

/-- The sum of two points. -/
def ecAdd (p q : EcPt) : EcPt :=
  if p.2.2 = 0 then q
  else if q.2.2 = 0 then p
  else
    let pz := fpMul p.2.2 p.2.2
    let qz := fpMul q.2.2 q.2.2
    let u := fpMul p.1 qz
    let s := fpMul p.2.1 (fpMul qz q.2.2)
    let h := fpSub (fpMul q.1 pz) u
    let r := fpSub (fpMul q.2.1 (fpMul pz p.2.2)) s
    if h = 0 then (if r = 0 then ecDouble p else ecInf)
    else
      let hh := fpMul h h
      let v := fpMul u hh
      let hhh := fpMul h hh
      let x := fpSub (fpMul r r) (hhh + 2 * v)
      (x, fpSub (fpMul r (fpSub v x)) (fpMul s hhh), fpMul h (fpMul p.2.2 q.2.2))

/-- k times a point, for k below 2^n. -/
def ecMul : Nat → Nat → EcPt → EcPt
  | 0, _, _ => ecInf
  | n + 1, k, q =>
    let t := ecMul n (k / 2) (ecDouble q)
    if k % 2 = 1 then ecAdd t q else t

/-- The x coordinate of a point; none at infinity. -/
def ecX (q : EcPt) : Option Nat := if q.2.2 = 0 then none else some (fpMul q.1 (invMod ecP (fpMul q.2.2 q.2.2)))

/-- The point of an uncompressed public key of 97 bytes; none where it is not a point of the curve. -/
def ecPoint (l : List Byte) : Option EcPt :=
  let x := beNat ((l.drop 1).take 48)
  let y := beNat ((l.drop 49).take 48)
  if l.length = 97 ∧ l.head? = some 4 ∧ x < ecP ∧ y < ecP ∧ (y * y + 3 * x) % ecP = (x * x * x + ecB) % ecP then some (x, y, 1)
  else none

/-- Z of an agreement: the X coordinate of private key times public point, 48 bytes. -/
def ecdh (d : Nat) (pub : List Byte) : Option (List Byte) :=
  ((ecPoint pub).bind fun q => ecX (ecMul 384 d q)).map fun x => beBytes 48 x

/-- ECDSA with SHA-384 verifies: public key, message, signature r then s. -/
def ecdsaOk (pub m sig : List Byte) : Bool :=
  let r := beNat (sig.take 48)
  let s := beNat ((sig.drop 48).take 48)
  match ecPoint pub with
  | none => false
  | some q =>
    if 1 ≤ r && decide (r < ecN) && 1 ≤ s && decide (s < ecN) then
      let w := invMod ecN s
      let e := beNat (sha384 m)
      match ecX (ecAdd (ecMul 384 (e * w % ecN) ecG) (ecMul 384 (r * w % ecN) q)) with
      | none => false
      | some x => x % ecN == r
    else false

end Sys2Proof.Machine
end

