-- ==== Sys2Proof/Machine/Security.lean ====
section
/-! DEFINITION. Keys, statements, debug levels and the clear (R426 to R457). RECIPE_LOAD is in Machine/Access.lean. -/

namespace Sys2Proof.Machine

def stSEC_FORMAT : Nat := 0x80
def stSEC_DEVICE : Nat := 0x81
def stSEC_NONCE : Nat := 0x82
def stSEC_EXPIRED : Nat := 0x83
def stSEC_LEVEL : Nat := 0x84
def stSEC_SIGNATURE : Nat := 0x85
def stSEC_UNWRAP : Nat := 0x86
def stSEC_STORE_FULL : Nat := 0x87
def stSEC_NO_KEY : Nat := 0x88
def stSEC_IN_USE : Nat := 0x89

def Side.lifecycle (d : Side) : Nat := d.get F.SEC_STATUS_LIFECYCLE
def Side.level (d : Side) : Nat := d.get F.SEC_STATUS_DEBUG
def Side.mono (d : Side) : Nat := d.get F.SEC_MONO_COUNT
def Side.nonce (d : Side) : Nat := d.get64 F.SEC_NONCE_LO_NONCE F.SEC_NONCE_HI_NONCE

def Side.setNonce (d : Side) (v : Nat) : Side := d.set64 F.SEC_NONCE_LO_NONCE F.SEC_NONCE_HI_NONCE v

/-! Keys (R432, R439). -/

def Side.keyPresent (d : Side) (k : Nat) : Bool := d.flag (F.SEC_KEY_STATE_PRESENT k)

/-- A DENY_OBSERVE key is locked at OBSERVE, and only there (R439, R448). -/
def Side.obsLock (d : Side) (k : Nat) : Side :=
  d.set (F.SEC_KEY_STATE_OBS_LOCK k) (b2n (d.keyPresent k && tget false d.sec.deny k && d.level == 1))

/-- The debug level changes: LEVEL_CHG, and the locks of OBSERVE set or lift (R445, R448, R457). -/
def Side.toLevel (p : Pkg) (v signer : Nat) (d : Side) : Side :=
  if d.level = v then d
  else
    let d1 := (d.set F.SEC_STATUS_DEBUG v).set F.SEC_STATUS_LVL_SIGNER signer
    ((List.range 16).foldl Side.obsLock d1).fault p 0x280 F.SEC_STATUS_LEVEL_CHG

/-- Key slot k is emptied. -/
def Side.keyDrop (d : Side) (k : Nat) : Side :=
  let d1 := (d.set64 (F.SEC_KEY_ID_LO_JOB_ID k) (F.SEC_KEY_ID_HI_JOB_ID k) 0).setWord (F.SEC_KEY_STATE_PRESENT k).off 0
  { d1 with sec := { d1.sec with keys := tset d1.sec.keys k 0, deny := tset d1.sec.deny k false } }

/-- Every key that is present is zeroised (R432). -/
def Side.keysZero (p : Pkg) (d : Side) : Side :=
  if (List.range 16).any d.keyPresent then
    ((((List.range 16).foldl Side.keyDrop d)).fault p 0x280 F.SEC_STATUS_ZEROISED).guardRefresh
  else d

/-- A record of a job is COMMITTED, WAITING, STARTED or ENDING. -/
def Side.jobRec (d : Side) (job : Nat) : Option Nat :=
  (List.range 4).find? fun r => d.recActive r && (d.recd r).jobId == job

/-- No recipe is in force (R443). -/
def Side.recipeClear (d : Side) : Side :=
  let d1 := (d.set F.SEC_STATUS_RECIPE 0).set F.SEC_RECIPE_ID_ID 0
  { d1 with sec := { d1.sec with recipe := [] } }

/-- A clear becomes pending (R450). -/
def Side.clearPend (d : Side) : Side := (d.set F.SEC_STATUS_GUARD 1).set F.SEC_STATUS_CLEARING 1

/-! CHALLENGE (R435). -/

def Side.challenge (p : Pkg) (n : Nat) (d : Side) : Side :=
  match d.nextStart n 0x60 with
  | none => d
  | some x =>
    match firstNonZero x.bytes 4 60 with
    | some o => d.startDone n (badField o)
    | none =>
      let v := 1 + Config.free p.free 0x60000 % (2 ^ 64 - 1)
      (d.setNonce v).startDone n ⟨stSUCCESS, v, 0⟩

def execChallenge (n : Nat) (s : State) : Host.Outcome State Fault Refusal :=
  if n < 64 then .next (s.both fun p d => d.challenge p n) else .next s

/-! KEY_LOAD (R436 to R438). -/

/-- Reserved bytes, and an SRC that is not 8-byte aligned. -/
def keyLoadBad (b : List Byte) : Option Nat :=
  firstSome [firstNonZero b 4 4, if dFld b 8 8 % 8 ≠ 0 then some 8 else none, firstNonZero b 16 48]

/-- The first malformed field of a key package. -/
def pkgBad (k : List Byte) : Option Nat :=
  firstSome [firstBad [(leAt k 0 4 != 0x4B597D01, 0), (leAt k 4 2 != 1, 4), (leAt k 6 2 / 4 != 0, 6)], firstNonZero k 125 3,
    firstNonZero k 168 8]

/-- "EORRA-JOBKEY-1" (R437). -/
def jobKeyInfo : List Byte := [0x45, 0x4F, 0x52, 0x52, 0x41, 0x2D, 0x4A, 0x4F, 0x42, 0x4B, 0x45, 0x59, 0x2D, 0x31]

/-- The job key of a package under the device's key (R437), its 32 bytes as a little-endian number. -/
def Pkg.jobKeyOf (p : Pkg) (k : List Byte) : Option Nat :=
  if p.fuses.devKey = 0 then none
  else
    (ecdh p.fuses.devKey ((k.drop 28).take 97)).bind fun z =>
      (keyUnwrap (hkdf384 z (k.take 28) jobKeyInfo 32) ((k.drop 128).take 40)).map leNat

/-- The checks of a package in the order of R438: the failure, or the key. -/
def Side.keyCheck (p : Pkg) (d : Side) (k : List Byte) : Except Res Nat :=
  let job := leAt k 8 8
  match pkgBad k with
  | some o => .error ⟨stSEC_FORMAT, 0, o⟩
  | none =>
    if leAt k 16 8 ≠ d.get64 F.SEC_ID_LO_DEVICE_ID F.SEC_ID_HI_DEVICE_ID then .error ⟨stSEC_DEVICE, 0, 0⟩
    else if leAt k 24 4 ≠ 0 && leAt k 24 4 < d.mono then .error ⟨stSEC_EXPIRED, 0, d.mono⟩
    else if d.lifecycle ≠ 1 && d.lifecycle ≠ 2 then .error ⟨stSECURITY, 0, 3⟩
    else if d.level = 2 then .error ⟨stSECURITY, 0, 4⟩
    else match p.jobKeyOf k with
      | none => .error ⟨stSEC_UNWRAP, 0, 0⟩
      | some key =>
        if (d.keySlot job).isNone && (List.range 16).all d.keyPresent then .error ⟨stSEC_STORE_FULL, 0, 0⟩
        else if (d.keySlot job).isSome then
          match d.jobRec job with
          | some r => .error ⟨stSEC_IN_USE, 0, r⟩
          | none => .ok key
        else .ok key

/-- A key stored in a slot. -/
def Side.keyStore (slot key job policy : Nat) (d : Side) : Side :=
  let d1 := d.set64 (F.SEC_KEY_ID_LO_JOB_ID slot) (F.SEC_KEY_ID_HI_JOB_ID slot) job
  let d2 := (d1.set (F.SEC_KEY_STATE_PRESENT slot) 1).set (F.SEC_KEY_STATE_TELEM slot) (b2n (bit policy 1))
  let d3 := { d2 with sec := { d2.sec with keys := tset d2.sec.keys slot key, deny := tset d2.sec.deny slot (bit policy 0) } }
  (d3.obsLock slot).guardRefresh

def Side.keyLoad (p : Pkg) (n : Nat) (herr : Option Nat) (d : Side) : Side :=
  match d.nextHost p n 0x61 with
  | none => d
  | some x =>
    match keyLoadBad x.bytes, herr with
    | some o, _ => d.startDone n (badField o)
    | none, some e => d.startDone n (hostFaultRes e)
    | none, none =>
      let k := memRead p.host (dFld x.bytes 8 8) 176
      match d.keyCheck p k with
      | .error r => d.startDone n r
      | .ok key =>
        let job := leAt k 8 8
        let slot := (d.keySlot job).getD (((List.range 16).find? fun i => !d.keyPresent i).getD 0)
        (d.keyStore slot key job (leAt k 6 2)).startDone n ⟨stSUCCESS, job, slot⟩

def execKeyLoad (n : Nat) (herr : Option Nat) (s : State) : Host.Outcome State Fault Refusal :=
  if n < 64 then .next (s.both fun p d => d.keyLoad p n herr) else .next s

/-! KEY_REMOVE and KEY_LOCK (R439). -/

def Side.keyRemove (p : Pkg) (n : Nat) (d : Side) : Side :=
  match d.nextStart n 0x62 with
  | none => d
  | some x =>
    let job := dFld x.bytes 8 8
    match firstSome [firstNonZero x.bytes 4 4, firstNonZero x.bytes 16 48] with
    | some o => d.startDone n (badField o)
    | none =>
      match d.keySlot job with
      | none => d.startDone n ⟨stSEC_NO_KEY, 0, 0⟩
      | some k =>
        match d.jobRec job with
        | some r => d.startDone n ⟨stSEC_IN_USE, 0, r⟩
        | none => (((d.keyDrop k).fault p 0x280 F.SEC_STATUS_ZEROISED).guardRefresh).startDone n ⟨stSUCCESS, 0, 0⟩

def execKeyRemove (n : Nat) (s : State) : Host.Outcome State Fault Refusal :=
  if n < 64 then .next (s.both fun p d => d.keyRemove p n) else .next s

def Side.keyLock (n : Nat) (d : Side) : Side :=
  match d.nextStart n 0x63 with
  | none => d
  | some x =>
    let b := x.bytes
    match firstSome [if 2 ≤ byteAt b 4 then some 4 else none, firstNonZero b 5 3, firstNonZero b 16 48] with
    | some o => d.startDone n (badField o)
    | none =>
      match d.keySlot (dFld b 8 8) with
      | none => d.startDone n ⟨stSEC_NO_KEY, 0, 0⟩
      | some k => (d.set (F.SEC_KEY_STATE_HOST_LOCK k) (byteAt b 4)).startDone n ⟨stSUCCESS, 0, 0⟩

def execKeyLock (n : Nat) (s : State) : Host.Outcome State Fault Refusal :=
  if n < 64 then .next (s.both fun _ d => d.keyLock n) else .next s

/-! Statements (R433 to R435, R445, R447, R452). -/

def stType (m : List Byte) : Nat := byteAt m 4
def stArg (m : List Byte) : Nat := byteAt m 5
def stSigner (m : List Byte) : Nat := byteAt m 6
def stPub (m : List Byte) : List Byte := (m.drop 28).take 97

/-- A lifecycle statement to FIELD. -/
def stToField (m : List Byte) : Bool := stType m == 2 && stArg m == 2

/-- Step 3: the first malformed field. -/
def stmtBad (m : List Byte) : Option Nat :=
  firstSome [firstBad [
      (leAt m 0 4 != 0x53547D01, 0), (stType m != 1 && stType m != 2, 4),
      (stArg m == 0 || decide ((if stType m = 1 then 2 else 4) < stArg m), 5), (decide (1 < stSigner m), 6),
      (decide (1 < byteAt m 7) || (byteAt m 7 == 1 && !stToField m), 7)],
    firstNonZero m 125 3, if !stToField m && !allZero ((m.drop 128).take 48) then some 128 else none]

/-- Step 7: signer, type, level and lifecycle are permitted (R428, R445). -/
def stmtAllowed (life level : Nat) (m : List Byte) : Bool :=
  let vareatu := stSigner m == 0
  if stType m = 1 then
    decide (level < stArg m) &&
    (if life = 2 then stArg m == 1 || vareatu else (life == 1 || life == 3) && vareatu)
  else
    match life, stArg m with
    | 0, 1 => vareatu
    | 0, 4 => vareatu
    | 1, 2 => !vareatu
    | 1, 3 => vareatu
    | 1, 4 => vareatu
    | 2, 3 => true
    | 2, 4 => true
    | 3, 4 => vareatu
    | _, _ => false

/-- Step 8: the hash that the key must have. -/
def Pkg.stmtHash (p : Pkg) (m : List Byte) : Option Nat :=
  if stSigner m = 0 then some p.fuses.root
  else if stToField m then some (beNat ((m.drop 128).take 48))
  else p.fuses.oem

/-- The last value of the counter (R431). -/
def monoEnd : Nat := 0xFFFFF

/-- Steps 5 to 9 of R434. -/
def Side.stmtRest (p : Pkg) (d : Side) (m : List Byte) : Option Res :=
  if leAt m 20 8 ≠ 0 && leAt m 20 8 ≠ d.nonce then some ⟨stSEC_NONCE, 0, 0⟩
  else if leAt m 16 4 < d.mono + 1 || monoEnd ≤ d.mono then some ⟨stSEC_EXPIRED, 0, d.mono⟩
  else if !stmtAllowed p.fuses.lifecycle d.level m then some ⟨stSEC_LEVEL, 0, d.lifecycle + 8 * d.level⟩
  else if p.stmtHash m ≠ some (beNat (sha384 (stPub m))) then some ⟨stSEC_SIGNATURE, 0, 0⟩
  else if !ecdsaOk (stPub m) (m.take 176) ((m.drop 176).take 96) then some ⟨stSEC_SIGNATURE, 0, 1⟩
  else if stType m = 2 && !d.plateWindow then some ⟨stREFUSED, 0, 1⟩
  else none

/-- Steps 3 to 9: none where the statement is accepted. -/
def Side.stmtCheck (p : Pkg) (d : Side) (m : List Byte) : Option Res :=
  match stmtBad m with
  | some o => some ⟨stSEC_FORMAT, 0, o⟩
  | none =>
    if leAt m 8 8 ≠ d.get64 F.SEC_ID_LO_DEVICE_ID F.SEC_ID_HI_DEVICE_ID then some ⟨stSEC_DEVICE, 0, 0⟩ else d.stmtRest p m

/-- The counter advances by 1 and does not pass its last value; near that value MONO_LOW is set (R431). -/
def Side.monoNext (p : Pkg) (d : Side) : Side :=
  let v := min monoEnd (d.mono + 1)
  (d.set F.SEC_MONO_COUNT v).faultIf p (decide (monoEnd ≤ v + 1024)) 0x280 F.SEC_STATUS_MONO_LOW

/-- A FULL token is accepted (R447): plates are spoiled with DEBUG or released now, keys are zeroised at the edge. -/
def Side.fullEntry (p : Pkg) (d : Side) : Side :=
  let d1 := (d.spoilRunning p 5).releaseAll p none
  { d1 with sec := { d1.sec with zero := true } }

/-- The edge after a FULL token (R447): keys zeroised, encrypted job slots closed, and so the clear pending. -/
def Side.secEdge (p : Pkg) (d : Side) : Side :=
  if !d.sec.zero then d
  else
    let d1 := d.keysZero p
    let d2 := (List.range 4).foldl (fun d j => if d.slotOpen j && d.flag (F.STR_JOB_STATE_ENC j) then d.slotClose j else d) d1
    { d2 with sec := { d2.sec with zero := false } }

/-- The lifecycle moves on (R428, R452). -/
def Side.lifeTo (p : Pkg) (m : List Byte) (d : Side) : Side :=
  let d1 := (d.set F.SEC_STATUS_LIFECYCLE (stArg m)).toLevel p 0 0
  if stArg m = 2 then (d1.set F.SEC_STATUS_OEM_FUSED 1).set F.SEC_STATUS_RECIPE_REQ (byteAt m 7 % 2)
  else if 3 ≤ stArg m then ((d1.keysZero p).recipeClear).clearPend
  else d1

/-- An accepted statement takes effect on a side. -/
def Side.stmtTake (p : Pkg) (m : List Byte) (d : Side) : Side :=
  let d1 := d.monoNext p
  if stType m = 2 then d1.lifeTo p m
  else if stArg m = 2 then (d1.toLevel p 2 (stSigner m)).fullEntry p
  else d1.toLevel p 1 (stSigner m)

/-- A non-zero NONCE that passes step 4 consumes the challenge (R435). -/
def Side.stmtNonce (m : List Byte) (res : Option Res) (d : Side) : Side :=
  let early := match res with
    | some r => r.status == stSEC_FORMAT || r.status == stSEC_DEVICE
    | none => false
  if leAt m 20 8 ≠ 0 && !early then d.setNonce 0 else d

/-- A statement's effect on a side, accepted or refused. -/
def Side.stmtApply (p : Pkg) (m : List Byte) (d : Side) : Side :=
  match d.stmtCheck p m with
  | some r => (d.stmtNonce m (some r)).fault p 0x280 F.SEC_STATUS_STMT_REFUSED
  | none => (d.stmtNonce m none).stmtTake p m

/-- The fuses after an accepted statement (R428, R429, R431). -/
def Fuses.take (f : Fuses) (m : List Byte) : Fuses :=
  let f1 := { f with mono := min monoEnd (f.mono + 1) }
  if stType m = 1 then f1
  else
    let f2 := { f1 with lifecycle := stArg m }
    if stArg m = 2 then { f2 with oem := some (beNat ((m.drop 128).take 48)), recipeReq := byteAt m 7 % 2 == 1 }
    else if stArg m = 4 then { f2 with devKey := 0 }
    else f2

/-- The fuses of both dies as a statement leaves them; the active side decides. -/
def State.stmtFuses (s : State) (m : List Byte) : State :=
  if s.pkg.hold.running s.pkg.hold.active && (s.actSide.stmtCheck s.pkg m).isNone then
    { s with pkg := { s.pkg with fuses := s.pkg.fuses.take m } }
  else s

/-- Reserved bytes, and an SRC that is not 8-byte aligned. -/
def stmtCmdBad (b : List Byte) : Option Nat := keyLoadBad b

/-- The statement that ring n's next command presents, if it gets as far as step 3. -/
def Side.stmtMsg (p : Pkg) (n : Nat) (herr : Option Nat) (d : Side) : Option (List Byte) :=
  match d.nextHost p n 0x64 with
  | none => none
  | some x => if (stmtCmdBad x.bytes).isSome || herr.isSome then none else some (memRead p.host (dFld x.bytes 8 8) 272)

def Side.statement (p : Pkg) (n : Nat) (herr : Option Nat) (d : Side) : Side :=
  match d.nextHost p n 0x64 with
  | none => d
  | some x =>
    match stmtCmdBad x.bytes, herr with
    | some o, _ => d.startDone n (badField o)
    | none, some e => d.startDone n (hostFaultRes e)
    | none, none =>
      let m := memRead p.host (dFld x.bytes 8 8) 272
      let d1 := d.stmtApply p m
      match d.stmtCheck p m with
      | some r => d1.startDone n r
      | none => d1.startDone n ⟨stSUCCESS, d1.mono, 0⟩

/-- STATEMENT: both sides check and apply it, and the fuses of both dies are programmed. -/
def State.statementCmd (s : State) (n : Nat) (herr : Option Nat) : State :=
  let s1 := s.both fun p d => d.statement p n herr
  match s.actSide.stmtMsg s.pkg n herr with
  | none => s1
  | some m => { s1 with pkg := { s1.pkg with fuses := (s.stmtFuses m).pkg.fuses } }

def execStatement (n : Nat) (herr : Option Nat) (s : State) : Host.Outcome State Fault Refusal :=
  if n < 64 then .next (s.statementCmd n herr) else .next s

/-- A Praline token presented through the debug port's protocol (R445): the checks of R434 from step 3. -/
def State.portToken (s : State) (m : List Byte) : State :=
  if stType m ≠ 1 then s.both fun p d => d.fault p 0x280 F.SEC_STATUS_STMT_REFUSED
  else
    let s1 := s.both fun p d => d.stmtApply p m
    { s1 with pkg := { s1.pkg with fuses := (s.stmtFuses m).pkg.fuses } }

def execDebugPortToken (tok : List Byte) (s : State) : Host.Outcome State Fault Refusal := .next (s.portToken tok)

/-! DEBUG_CLOSE (R448). -/

def Side.debugClose (p : Pkg) (n : Nat) (d : Side) : Side :=
  match d.nextStart n 0x66 with
  | none => d
  | some x =>
    match firstNonZero x.bytes 4 60 with
    | some o => d.startDone n (badField o)
    | none =>
      if d.level = 2 then d.startDone n ⟨stREFUSED, 0, 2⟩ else (d.toLevel p 0 0).startDone n ⟨stSUCCESS, 0, 0⟩

def execDebugClose (n : Nat) (s : State) : Host.Outcome State Fault Refusal :=
  if n < 64 then .next (s.both fun p d => d.debugClose p n) else .next s

/-! CERT_READ (R430, R453). -/

def Side.certRead (n : Nat) (d : Side) : Side :=
  match d.nextStart n 0x67 with
  | none => d
  | some x =>
    let b := x.bytes
    match firstSome [firstNonZero b 4 12, firstNonZero b 28 36] with
    | some o => d.startDone n (badField o)
    | none =>
      if d.lifecycle = 4 then d.startDone n ⟨stSECURITY, 0, 3⟩
      else if dFld b 24 4 < Config.certs.length then d.startDone n ⟨stREFUSED, 0, Config.certs.length⟩
      else
        (d.send (.hostWrite (ringFnNum n) (dFld b 16 8) Config.certs)).startDone n ⟨stSUCCESS, Config.certs.length, 0⟩

def execCertRead (n : Nat) (s : State) : Host.Outcome State Fault Refusal :=
  if n < 64 then .next (s.both fun _ d => d.certRead n) else .next s

/-! The clear (R450). -/

/-- Zero written over a range of a memory. -/
def memZero (m : Tab Byte) (a n : Nat) : Tab Byte := m.filter fun e => !(decide (a ≤ e.1) && decide (e.1 < a + n))

/-- Every JOB region is zeroed (R449): stream buffers, line-delay pool, heat map, marked trace areas, MPLc_LIVE, telemetry, the
arbiter's plans. -/
def Side.jobZero (d : Side) : Side :=
  let marked := (List.range 16).filter fun k => d.flag (F.LAW_TR_STATE_AREA_CONF k)
  let d1 := marked.foldl (fun d k =>
    { d.set (F.LAW_TR_STATE_AREA_CONF k) 0 with sram := memZero d.sram (0xA00000 + 0x40000 * k) 0x40000 }) d
  let d2 := (List.range 16).foldl (fun d c => d.setWord (F.MPL_CH_LIVE_F c).off 0) d1
  { d2 with str := { d2.str with bufs := [] }, ras := d2.ras.map fun e => (e.1, { e.2 with jobs := [] }),
            mpl := { d2.mpl with heat := [], swept := 4096, chunks := [], lost := 0, breach := [] },
            veh := d2.veh.map fun e => (e.1, { e.2 with q := [], held := [], wins := [], inbox := [], coast := none }) }

/-- JOB_CLEAR: a pending clear starts once no record is active. -/
def Side.jobClear (d : Side) : Side :=
  if d.flag F.SEC_STATUS_CLEARING && d.plateWindow && !d.sec.clearing then
    { d.jobZero with sec := { d.sec with clearing := true } }
  else d

def execJobClear (s : State) : Host.Outcome State Fault Refusal := .next (s.both fun _ d => d.jobClear)

/-- JOB_CLEAR_DONE: the clear is complete; GUARD stays while R450's first two conditions hold. -/
def Side.jobClearDone (d : Side) : Side :=
  if d.sec.clearing then
    let d1 := (d.set F.SEC_STATUS_CLEARING 0).set F.SEC_STATUS_GUARD (b2n d.guardHeld)
    { d1 with sec := { d1.sec with clearing := false } }
  else d

def execJobClearDone (s : State) : Host.Outcome State Fault Refusal := .next (s.both fun _ d => d.jobClearDone)

end Sys2Proof.Machine
end

