-- ==== Sys2Proof/Machine/Power.lean ====
section
/-! DEFINITION. Power states (R469 to R472): NAP, DEEP and the restoration of a group. WAKE is in Machine/Boot.lean, since the
wake from DEEP boots. -/

namespace Sys2Proof.Machine

/-- A DMA channel runs or has an armed set, a Strudel engine is busy, or a context is suspended. -/
def Side.jobBusy (d : Side) : Bool :=
  (d.dma.any fun e => e.2.cur.isSome || !e.2.armed.isEmpty) || (List.range 8).any (fun e => d.decWork e != .idle) ||
  (List.range 2).any (fun e => d.cmpWork e != .idle) || (List.range 16).any fun c => (d.ctxOf c).isSome

/-- A field-control or stepper unit is not OFF, or an axis is not IDLE. -/
def Side.moving (p : Pkg) (d : Side) : Bool :=
  (List.range 24).any (fun u => d.uState u != 0) || (List.range p.axes).any fun n => d.motState n != 0

/-- The reason for which NAP or DEEP is refused, 0 for none (R470). -/
def Side.pwrReason (p : Pkg) (deep : Bool) (d : Side) : Nat :=
  if !d.plateWindow then 1
  else if d.jobBusy then 2
  else if d.get F.THM_PWR_STATE_STATE ≠ 0 || d.flag F.THM_PWR_STATE_WAKING then 3
  else if deep && d.moving p then 4
  else if deep && p.hold.copy.isSome then 5
  else 0

def Side.pwrRefused (p : Pkg) (reason : Nat) (d : Side) : Side :=
  (d.set F.THM_PWR_STATE_REASON reason).fault p 0x290 F.THM_STATUS_WINDOW_VIOL

/-- NAP on a side. -/
def Side.nap (p : Pkg) (d : Side) : Side :=
  match d.pwrReason p false with
  | 0 => d.set F.THM_PWR_STATE_STATE 2
  | r => d.pwrRefused p r

def execNap (s : State) : Host.Outcome State Fault Refusal := .next (s.asWrite true 0x1100034 1 (s.both Side.nap))

/-- DEEP on a side (R470, R451, R483): the law set is halted, keys, level and recipe are gone, the clear has run, the history
queues are empty. -/
def Side.deep (p : Pkg) (d : Side) : Side :=
  let d1 := ((d.lawHalt.keysZero p).toLevel p 0 0).recipeClear
  let d2 := ((d1.jobZero).set F.SEC_STATUS_CLEARING 0).set F.SEC_STATUS_GUARD 0
  { d2.set F.THM_PWR_STATE_STATE 3 with hist := [] }

/-- DEEP: refused, or every port goes down and both sides stop. -/
def State.deep (s : State) : State :=
  if s.actSide.pwrReason s.pkg true ≠ 0 || !s.pkg.hold.running s.pkg.hold.active then
    s.both fun p d => match d.pwrReason p true with
      | 0 => d
      | r => d.pwrRefused p r
  else
    let s1 := (List.range s.pkg.beams).foldl State.portOff s
    let s2 := s1.both Side.deep
    s2.setHold { s2.pkg.hold with deep := true }

def execDeep (s : State) : Host.Outcome State Fault Refusal := .next (s.asWrite true 0x1100034 2 s.deep)

/-- The context of group g is restored and its bit cleared (R471): armed sets are taken, raster channels acquire, the heat map
is cleared; with the last bit the state is ACTIVE. -/
def Side.groupBack (p : Pkg) (g : Nat) (d : Side) : Side :=
  if !d.flag F.THM_PWR_STATE_WAKING || !d.stale g then d
  else
    let d1 := d.set ⟨F.THM_PWR_STALE_GROUP.off, g, 1⟩ 0
    let d2 := match g with
      | 0 => (List.range 32).foldl (fun d ch => if (d.ch ch).cur.isNone then d.shTake p ch 3 0 id else d) d1
      | 4 => (List.range p.beams).foldl (fun d c => d.acquire c) d1
      | 7 => { d1 with mpl := { d1.mpl with heat := [], swept := 4096 } }
      | _ => d1
    if d2.get F.THM_PWR_STALE_GROUP = 0 then (d2.set F.THM_PWR_STATE_STATE 0).set F.THM_PWR_STATE_WAKING 0 else d2

def execWakeGroupRestored (g : Nat) (s : State) : Host.Outcome State Fault Refusal :=
  if g < 8 then .next (s.both (Side.timed fun p d => d.groupBack p g)) else .next s

end Sys2Proof.Machine
end

