-- ==== Sys2Proof/Machine/Ptp.lean ====
section
/-! DEFINITION. Network time (R413 to R425): PTP messages in and out, one-step insertion, the offset from the master, the clock
servo, ALIGNED. What IEEE 1588-2019 states and the spec takes from it by reference (message fields, port states, the best master
clock algorithm, clause 11) is presumed (log entry 61). -/

namespace Sys2Proof.Machine

def Side.pport (d : Side) (n : Nat) : PPort := tget {} d.ptp.ports n

def Side.setPport (d : Side) (n : Nat) (x : PPort) : Side := { d with ptp := { d.ptp with ports := tset d.ptp.ports n x } }

def srcPtp : Nat := 0x270

/-! portState codes of IEEE 1588-2019. -/

def psFaulty : Nat := 2
def psDisabled : Nat := 3
def psListening : Nat := 4
def psMaster : Nat := 6
def psPassive : Nat := 7
def psUncal : Nat := 8
def psSlave : Nat := 9

def Side.pst (d : Side) (n : Nat) : Nat := d.get (F.PTP_P_STATUS_STATE n)

def Side.setPst (d : Side) (n st : Nat) : Side := d.set (F.PTP_P_STATUS_STATE n) st

/-- The port runs the protocol: enabled, its link up. -/
def Side.pOn (d : Side) (n : Nat) : Bool := d.flag (F.PTP_P_CFG_EN n) && d.flag (F.PTP_P_STATUS_LINK n)

def Side.clockId (d : Side) : Nat := d.get64 F.PTP_ID_LO_ID F.PTP_ID_HI_ID

/-! Stamps (R416), in 2^−16 ns. -/

/-- The stamp of an instant with frac 1/64 ns: device time, less INGRESS or with EGRESS. -/
def Side.rxStamp (p : Pkg) (n frac : Nat) (d : Side) : Int :=
  1024 * (64 * (d.dev p : Int) + (frac % 64 : Nat) - (d.get (F.PTP_P_LAT_INGRESS n) : Nat))

def Side.txStamp (p : Pkg) (n frac : Nat) (d : Side) : Int :=
  1024 * (64 * (d.dev p : Int) + (frac % 64 : Nat) + (d.get (F.PTP_P_LAT_EGRESS n) : Nat))

/-- delayAsymmetry of the link. -/
def Side.asym (d : Side) (n : Nat) : Int := 1024 * toSigned 32 (d.get (F.PTP_P_ASYM_ASYM n))

/-! The servo (R421 to R423). -/

def Side.servo (d : Side) : Nat := d.get F.PTP_OFS_STATUS_SERVO

def Side.setServo (p : Pkg) (st : Nat) (d : Side) : Side := (d.set F.PTP_OFS_STATUS_SERVO st).alignRefresh p

/-- HOLDOVER (R422): the flag is set; a jump that is pending but not accepted is discarded; the median window is cleared. -/
def Side.holdover (p : Pkg) (f : Fld) (d : Side) : Side :=
  let d1 := if d.flag F.TIM_STATUS_JUMP_PENDING then d.set F.TIM_STATUS_JUMP_PENDING 0 else d
  let d2 := { d1 with ptp := { d1.ptp with fresh := 0, drops := 0 } }
  (d2.setServo p 4).fault p srcPtp f

/-- An adjustment goes to TIM_ADJ and is submitted with ADJ_GO. -/
def Side.servoAdj (p : Pkg) (adj : Int) (d : Side) : Side :=
  (d.set64 F.TIM_ADJ_LO_VAL F.TIM_ADJ_HI_VAL (ofSigned 64 adj)).adjGo p

/-- A rate goes to TIM_NEWRATE and is submitted with RATE_GO. -/
def Side.servoRate (p : Pkg) (r : Int) (d : Side) : Side :=
  let v := ofSigned 40 r
  ((d.set F.TIM_NEWRATE_LO_VAL (v % 2 ^ 32)).set F.TIM_NEWRATE_HI_VAL (v / 2 ^ 32)).rateGo p

/-- An adjustment slews (R31). -/
def Side.slews (d : Side) (adj : Int) : Bool := decide ((d.slewRem + adj).natAbs ≤ d.get F.TIM_JUMP_LIMIT_VAL)

/-- JUMP_WAIT is entered (R421). -/
def Side.toJumpWait (p : Pkg) (d : Side) : Side :=
  (d.setServo p 3).fault p srcPtp F.PTP_STATUS_JUMP_WAIT

/-- T_s in ns for a logMessageInterval, and the rate term floor(−KI × θ × 2^40 ÷ (65,536 × T_s)) (R421). -/
def intervalNs (l : Int) : Rat := 1000000000 * (2 : Rat) ^ l

def rateStep (ki : Nat) (theta : Int) (ts : Rat) : Int :=
  if ts = 0 then 0 else (-(ki : Rat) * theta * 2 ^ 40 / (65536 * ts)).floor

/-- The servo's action on an accepted θ with Sync interval l (R421). -/
def Side.servoAct (p : Pkg) (theta l : Int) (d : Side) : Side :=
  match d.servo with
  | 1 =>
    let adj := -theta - d.slewRem
    let ok := d.slews adj
    let d1 := d.servoAdj p adj
    if ok then d1.setServo p 2 else d1.toJumpWait p
  | 2 =>
    let adj := -(Int.fdiv (d.get F.PTP_SERVO_KP * theta) 256) - d.slewRem
    let ok := d.slews adj
    let d1 := d.servoAdj p adj
    if ok then
      d1.servoRate p (clampI (-1099511628) 1099511628 (d.rate + rateStep (d.get F.PTP_SERVO_KI) theta (intervalNs l)))
    else d1.toJumpWait p
  | 3 => if d.flag F.TIM_STATUS_JUMP_PENDING then d.servoAdj p (-theta - d.slewRem) else d
  | _ => d

/-- The median of the last 8 accepted values, doubled: the sum of the middle two (log entry 61). -/
def median2 (l : List Int) : Int :=
  let a := sortBy (fun (x : Int) => (x + 2 ^ 80).toNat) (l.take 8)
  a.getD 3 0 + a.getD 4 0

/-- θ is discarded as an outlier (R420). -/
def Side.outlier (d : Side) (theta : Int) : Bool :=
  d.ptp.fresh == 8 && decide (d.ptp.drops < 8) &&
  decide (2 * d.get F.PTP_LIMITS_OUTLIER_NS < (2 * theta - median2 d.ptp.vals).natAbs)

/-- A θ from a Sync of port n, with twice the mean path delay (R420, R421): discarded, or accepted, posted and acted on. -/
def Side.theta1 (p : Pkg) (n : Nat) (theta l mpd : Int) (d : Side) : Side :=
  if d.outlier theta then { d.inc F.PTP_OUTLIERS_COUNT 1 with ptp := { d.ptp with drops := d.ptp.drops + 1 } }
  else
    let d1 := (d.set64 F.PTP_OFS_LO_THETA F.PTP_OFS_HI_THETA (ofSigned 64 theta)).set F.PTP_MPD_DELAY
      (ofSigned 32 (rounded 60 ((mpd : Rat) / 2048)))
    let d1a := (d1.set64 F.PTP_PARENT_LO_ID F.PTP_PARENT_HI_ID d.ptp.parent.1).set F.PTP_PARENT_PORT_PORT_NUM d.ptp.parent.2
    let d2 := ((d1a.inc F.PTP_OFS_STATUS_SEQ 1).set F.PTP_OFS_STATUS_VALID 1).set F.PTP_PARENT_PORT_OUR_PORT n
    let en := d.flag F.PTP_CFG_SERVO_EN
    let d3 := if !en then d2.set F.PTP_OFS_STATUS_SERVO 0
      else if d.servo = 0 || d.servo = 4 then
        { d2.set F.PTP_OFS_STATUS_SERVO 1 with ptp := { d2.ptp with fresh := 0, drops := 0 } }
      else d2
    let d4 := { d3 with ptp := { d3.ptp with vals := (theta :: d3.ptp.vals).take 16, fresh := min 8 (d3.ptp.fresh + 1), drops := 0 } }
    ((if en then d4.servoAct p theta l else d4)).alignRefresh p

/-- Port n's Sync pair and the mean path delay give θ; an UNCALIBRATED port becomes SLAVE (log entry 61). -/
def Side.offset (p : Pkg) (n : Nat) (d : Side) : Side :=
  let x := d.pport n
  match x.pair, x.mpd with
  | some (t1, t2), some m =>
    if d.pst n = psUncal || d.pst n = psSlave then
      (d.setPst n psSlave).theta1 p n (Int.fdiv (2 * (t2 - t1) - m) (2 * 65536)) x.logSync m
    else d
  | _, _ => d

/-! Messages out (R415 to R419). -/

/-- RFC 1624: a checksum after a 16-bit word changes (R419). -/
def udpAdd (c : Nat) (w : Nat × Nat) : Nat :=
  let fold (x : Nat) : Nat := x % 65536 + x / 65536
  0xFFFF - fold (fold ((0xFFFF - c) + (0xFFFF - w.1) + w.2))

/-- The UDP checksum after insertion, over the words (before, after) that it changed (R419). -/
def udpUpdate (transport c : Nat) (words : List (Nat × Nat)) : Nat :=
  if transport = 0 then c
  else if transport = 1 && c = 0 then 0
  else
    let r := (words.filter fun w => w.1 != w.2).foldl udpAdd c
    if r = 0 then 0xFFFF else r

/-- The 16-bit words of a timestamp (48-bit seconds, 32-bit nanoseconds) and of a correctionField, as transmitted. -/
def tsWords (ts : Nat) : List Nat :=
  let s := ts / 1000000000
  let q := ts % 1000000000
  [s / 2 ^ 32 % 65536, s / 65536 % 65536, s % 65536, q / 65536, q % 65536]

def corrWords (c : Int) : List Nat :=
  let v := ofSigned 64 c
  [v / 2 ^ 48, v / 2 ^ 32 % 65536, v / 65536 % 65536, v % 65536]

def kindIx : PtpKind → Nat
  | .sync => 0 | .followUp => 1 | .delayReq => 2 | .delayResp => 3 | .pdelayReq => 4 | .pdelayResp => 5
  | .pdelayRespFollowUp => 6 | .announce => 7 | .other => 8

/-- A message of port n's own, with its next sequence number. -/
def Side.ptpOwn (d : Side) (n : Nat) (k : PtpKind) (l : Int) (udp : Nat) : PtpMsg :=
  { kind := k, transport := d.get (F.PTP_P_CFG_TRANSPORT n), domain := d.get F.PTP_DS_DOMAIN, srcId := d.clockId,
    srcPort := n + 1, seq := tget 0 (d.pport n).seqs (kindIx k), logInt := l, udp := udp }

/-- Octets of a MAC address as a number with the first octet the most significant, and its modified EUI-64 (R414). -/
def macOctet (m k : Nat) : Nat := m / 256 ^ k % 256

def eui64 (m : Nat) : Nat :=
  [macOctet m 0 ^^^ 2, macOctet m 1, macOctet m 2, 0xFF, 0xFE, macOctet m 3, macOctet m 4, macOctet m 5].foldl
    (fun acc b => 256 * acc + b) 0

/-- Messages of the peer delay mechanism go to the peer addresses; event messages go to UDP port 319 (R413). -/
def ptpPeer (k : PtpKind) : Bool := k == .pdelayReq || k == .pdelayResp || k == .pdelayRespFollowUp
def ptpEvent (k : PtpKind) : Bool := k == .sync || k == .delayReq || k == .pdelayReq || k == .pdelayResp

/-- The addresses of a message on port n (R413, R414). -/
def Side.ptpAddr (d : Side) (n : Nat) (k : PtpKind) : PtpAddr :=
  let mac := d.get64 (F.PTP_P_MAC_LO_MAC n) (F.PTP_P_MAC_HI_MAC n)
  let port := some (if ptpEvent k then 319 else 320)
  match d.get (F.PTP_P_CFG_TRANSPORT n) with
  | 0 =>
    { mac := mac, dst := if ptpPeer k then 0x0E0000C28001 else 0x000000191B01, src := mac,
      vlan := if d.flag (F.PTP_P_CFG_VLAN_EN n) then some (8192 * d.get (F.PTP_P_CFG_PCP n) + d.get (F.PTP_P_CFG_VID n)) else none }
  | 1 => { mac := mac, dst := if ptpPeer k then 0xE000006B else 0xE0000181, src := d.get (F.PTP_P_IPV4_ADDR n), udpPort := port }
  | _ =>
    { mac := mac, dst := if ptpPeer k then 0xFF02 * 2 ^ 112 + 0x6B else 0xFF0E * 2 ^ 112 + 0x181,
      src := 0xFE80 * 2 ^ 112 + eui64 mac, udpPort := port }

/-- A message leaves port n: TX counts it, and its sequence number advances. -/
def Side.ptpOut (d : Side) (n : Nat) (m : PtpMsg) : Side :=
  let x := d.pport n
  let d1 := d.setPport n { x with seqs := tset x.seqs (kindIx m.kind) ((m.seq + 1) % 65536) }
  (d1.inc (F.PTP_P_TX_COUNT n) 1).send (.ptp n (d.ptpAddr n m.kind) m)

/-- The parts of a stamp: whole ns and the fraction in 2^−16 ns. -/
def wholeNs (s : Int) : Nat := (Int.fdiv s 65536).toNat
def fracNs (s : Int) : Int := s % 65536

def Side.logSync (d : Side) (n : Nat) : Int := toSigned 4 (d.get (F.PTP_P_CFG_LOG_SYNC n))

/-- A Sync leaves: one-step with its time inserted, or two-step with a Follow_Up owed (R418). -/
def Side.sendSync (n : Nat) (st : Int) (udp : Nat) (d : Side) : Side :=
  let m := d.ptpOwn n .sync (d.logSync n) udp
  if d.flag (F.PTP_P_CFG_ONE_STEP n) then
    d.ptpOut n { m with ts := wholeNs st, corr := fracNs st,
                        udp := udpUpdate m.transport udp
                          ((tsWords 0 ++ corrWords 0).zip (tsWords (wholeNs st) ++ corrWords (fracNs st))) }
  else
    let d1 := d.ptpOut n { m with twoStep := true }
    let f := { m with kind := PtpKind.followUp, ts := wholeNs st, corr := fracNs st }
    d1.setPport n { d1.pport n with owed := (d1.pport n).owed ++ [(f, 0)] }

/-- An answer that is owed leaves: a Pdelay_Resp gets t3 − t2 (one-step) or owes its Follow_Up. -/
def Side.sendOwed (n : Nat) (k : PtpKind) (st : Int) (udp : Nat) (d : Side) : Side :=
  let x := d.pport n
  match x.owed.find? fun e => e.1.kind == k with
  | none => d
  | some e =>
    let d1 := d.setPport n { x with owed := x.owed.erase e }
    if k = .pdelayResp then
      if d.flag (F.PTP_P_CFG_ONE_STEP n) then
        let c := e.1.corr + (st - e.2)
        d1.ptpOut n { e.1 with corr := c, udp := udpUpdate e.1.transport udp ((corrWords e.1.corr).zip (corrWords c)) }
      else
        let d2 := d1.ptpOut n { e.1 with twoStep := true, ts := wholeNs e.2, corr := -fracNs e.2, udp := udp }
        let f := { e.1 with kind := PtpKind.pdelayRespFollowUp, ts := wholeNs st, corr := e.1.corr + fracNs st }
        d2.setPport n { d2.pport n with owed := (d2.pport n).owed ++ [(f, 0)] }
    else d1.ptpOut n { e.1 with udp := udp }

/-- The firmware sends a message of a kind on port n, departing now (R417, R418): a master's, a slave's or a peer's own, or an
answer that is owed. -/
def Side.ptpSend (p : Pkg) (n : Nat) (k : PtpKind) (udp frac : Nat) (d : Side) : Side :=
  let st := d.txStamp p n frac
  let ps := d.pst n
  if !d.pOn n then d
  else
    match k with
    | .sync => if ps = psMaster then d.sendSync n st udp else d
    | .announce =>
      if ps = psMaster then
        d.ptpOut n { d.ptpOwn n .announce (toSigned 4 (d.get (F.PTP_P_CFG_LOG_ANN n))) udp with
          prio1 := d.get F.PTP_DS_PRIORITY1, cls := d.get F.PTP_DS_CLOCK_CLASS, acc := Config.clockAccuracy,
          var := Config.clockVariance, prio2 := d.get F.PTP_DS_PRIORITY2, gm := d.clockId,
          utc := toSigned 16 (d.get F.PTP_UTC_OFS), timeSource := 0xA0 }
      else d
    | .delayReq =>
      if d.get F.PTP_CFG_DELAY_MECH = 0 && (ps = psUncal || ps = psSlave) then
        let m := { d.ptpOwn n .delayReq (toSigned 4 (d.get (F.PTP_P_CFG_LOG_DREQ n))) udp with corr := -d.asym n }
        let d1 := d.ptpOut n m
        d1.setPport n { d1.pport n with dreq := some (m.seq, st) }
      else d
    | .pdelayReq =>
      if d.get F.PTP_CFG_DELAY_MECH = 1 && psListening ≤ ps then
        let m := { d.ptpOwn n .pdelayReq (toSigned 4 (d.get (F.PTP_P_CFG_LOG_DREQ n))) udp with corr := -d.asym n }
        let d1 := d.ptpOut n m
        d1.setPport n { d1.pport n with preq := some (m.seq, st) }
      else d
    | .other => d
    | _ => d.sendOwed n k st udp

def execPtpMessageSend (p : Nat) (kind : PtpKind) (udp frac t : Nat) (s : State) : Host.Outcome State Fault Refusal :=
  if p < 2 && s.pkg.hold.granted then .next ((s.advance t).both fun k d => d.ptpSend k p kind (udp % 65536) frac) else .next s

/-! The best master clock algorithm (log entry 61). -/

/-- A clock identity as IEEE 1588 orders it: its first octet is the most significant. -/
def idKey (id : Nat) : Nat := (List.range 8).foldl (fun acc k => 256 * acc + id / 256 ^ k % 256) 0

/-- The order of two data sets: the better one's key is less (dataset comparison). -/
def annKey (m : PtpMsg) : List Nat := [m.prio1, m.cls, m.acc, m.var, m.prio2, idKey m.gm]

def listLt : List Nat → List Nat → Bool
  | a :: s, b :: t => if a < b then true else if b < a then false else listLt s t
  | _, _ => false

/-- Announce a, received on port n, is better than b on port k. -/
def annBetter (a : PtpMsg) (n : Nat) (b : PtpMsg) (k : Nat) : Bool :=
  if a.gm = b.gm then listLt [a.steps, idKey a.srcId, a.srcPort, n] [b.steps, idKey b.srcId, b.srcPort, k]
  else listLt (annKey a) (annKey b)

/-- The clock's own data set. -/
def Side.ownAnn (d : Side) : PtpMsg :=
  { prio1 := d.get F.PTP_DS_PRIORITY1, cls := d.get F.PTP_DS_CLOCK_CLASS, acc := Config.clockAccuracy,
    var := Config.clockVariance, prio2 := d.get F.PTP_DS_PRIORITY2, gm := d.clockId, srcId := d.clockId }

/-- announceInterval of port n in ns. -/
def Side.annNs (d : Side) (n : Nat) : Nat := (intervalNs (toSigned 4 (d.get (F.PTP_P_CFG_LOG_ANN n)))).floor.toNat

/-- The best qualified foreign master of a port: two Announces within 4 intervals. -/
def Side.erbest (d : Side) (n : Nat) : Option PtpMsg :=
  let win := 4 * d.annNs n
  let q := (d.pport n).foreign.filter fun e =>
    match e.2.2 with
    | some t0 => decide (tdiff e.2.1 t0 ≤ win)
    | none => false
  q.foldl (fun best e =>
    match best with
    | none => some e.1
    | some b => if annBetter e.1 n b n then some e.1 else best) none

/-- The best foreign master of the enabled ports, with its port. -/
def Side.ebest (d : Side) : Option (PtpMsg × Nat) :=
  (List.range 2).foldl (fun best n =>
    if !d.pOn n then best
    else
      match d.erbest n, best with
      | none, _ => best
      | some a, none => some (a, n)
      | some a, some b => if annBetter a n b.1 b.2 then some (a, n) else best) none

/-- The state that port n is to take, from its state. -/
def Side.decideSt (d : Side) (n : Nat) : Nat :=
  let own := d.ownAnn
  let st := d.pst n
  let slave := if st = psSlave then psSlave else psUncal
  match d.ebest, d.erbest n with
  | none, _ => st
  | some b, e =>
    if d.flag F.PTP_CFG_SLAVE_ONLY then (if b.2 = n then slave else psListening)
    else if own.cls ≤ 127 then
      match e with
      | none => psMaster
      | some a => if annBetter own 2 a n then psMaster else psPassive
    else if annBetter own 2 b.1 b.2 then psMaster
    else if b.2 = n then slave
    else
      match e with
      | none => psMaster
      | some a => if a.gm = b.1.gm then psPassive else psMaster

/-- A port's state changes; leaving SLAVE is a loss of the master (R422). -/
def Side.movePort (p : Pkg) (n st : Nat) (d : Side) : Side :=
  let was := d.pst n
  let d1 := d.setPst n st
  if was = psSlave && st ≠ psSlave then d1.holdover p F.PTP_STATUS_MASTER_LOST else d1

/-- The parent is a port's master; a change of the parent while the port is SLAVE is MASTER_CHG, and the port is UNCALIBRATED
anew. -/
def Side.takeParent (p : Pkg) (n : Nat) (m : PtpMsg) (d : Side) : Side :=
  let same := d.ptp.parent == (m.srcId, m.srcPort)
  let d1 := d.set F.PTP_UTC_PARENT_OFS (ofSigned 16 m.utc)
  if same then d1
  else
    let d2 := { d1 with ptp := { d1.ptp with parent := (m.srcId, m.srcPort) } }
    let d3 := d2.setPport n { d2.pport n with pair := none, mpd := none, wait := none, dreq := none }
    if d.pst n = psSlave then (d3.setPst n psUncal).holdover p F.PTP_STATUS_MASTER_CHG else d3

/-- The state decision for both ports. -/
def Side.bmca (p : Pkg) (d : Side) : Side :=
  let d1 := (List.range 2).foldl (fun d n => if d.pOn n then d.movePort p n (d.decideSt n) else d) d
  match d1.ebest with
  | some (m, n) => if d1.pst n = psUncal || d1.pst n = psSlave then d1.takeParent p n m else d1
  | none => d1

/-! Messages in (R414, R416, R420). -/

/-- The message is one the port supports, of its transport and domain, and not its own. -/
def Side.ptpOk (d : Side) (n : Nat) (m : PtpMsg) : Bool :=
  m.kind != .other && m.transport == d.get (F.PTP_P_CFG_TRANSPORT n) && m.domain == d.get F.PTP_DS_DOMAIN && m.srcId != d.clockId

/-- The message comes from port n's parent. -/
def Side.fromParent (d : Side) (n : Nat) (m : PtpMsg) : Bool :=
  (d.pst n == psUncal || d.pst n == psSlave) && d.ptp.parent == (m.srcId, m.srcPort)

/-- An Announce joins the port's foreign masters. -/
def Side.rxAnnounce (p : Pkg) (n : Nat) (m : PtpMsg) (d : Side) : Side :=
  let x := d.pport n
  let old := x.foreign.find? fun e => e.1.srcId == m.srcId && e.1.srcPort == m.srcPort
  let rest := x.foreign.filter fun e => !(e.1.srcId == m.srcId && e.1.srcPort == m.srcPort)
  (d.setPport n { x with foreign := (m, p.now, old.map (·.2.1)) :: rest, annAt := p.now }).bmca p

/-- A Sync pair is complete: θ under the mean path delay known. -/
def Side.syncPair (p : Pkg) (n : Nat) (t1 t2 : Int) (d : Side) : Side :=
  (d.setPport n { d.pport n with pair := some (t1, t2), wait := none }).offset p n

/-- A message received on port n, its timestamp point frac 1/64 ns after the instant. -/
def Side.ptpRx (p : Pkg) (n : Nat) (m : PtpMsg) (frac : Nat) (d0 : Side) : Side :=
  if !d0.pOn n then d0
  else if !d0.ptpOk n m then d0.inc (F.PTP_P_DROP_COUNT n) 1
  else
    let d := d0.inc (F.PTP_P_RX_COUNT n) 1
    let x := d.pport n
    let st := d.rxStamp p n frac
    match m.kind with
    | .announce => d.rxAnnounce p n m
    | .sync =>
      if !d.fromParent n m then d
      else
        let c := m.corr + d.asym n
        let d1 := d.setPport n { x with syncAt := p.now, logSync := m.logInt, wait := some (m.seq, st, c) }
        if m.twoStep then d1 else d1.syncPair p n (65536 * (m.ts : Int) + c) st
    | .followUp =>
      match x.wait with
      | some (q, t2, c) =>
        if d.fromParent n m && q == m.seq then d.syncPair p n (65536 * (m.ts : Int) + c + m.corr) t2 else d
      | none => d
    | .delayReq =>
      if d.pst n = psMaster && d.get F.PTP_CFG_DELAY_MECH = 0 then
        let r := { d.ptpOwn n .delayResp m.logInt 0 with
                   seq := m.seq, ts := wholeNs st, corr := m.corr - fracNs st, reqId := m.srcId, reqPort := m.srcPort }
        d.setPport n { x with owed := x.owed ++ [(r, st)] }
      else d
    | .delayResp =>
      match x.dreq, x.pair with
      | some (q, t3), some (t1, t2) =>
        if d.fromParent n m && q == m.seq && m.reqId == d.clockId && m.reqPort == n + 1 then
          d.setPport n { x with dreq := none, mpd := some ((t2 - t3) + (65536 * (m.ts : Int) - m.corr - t1)) }
        else d
      | _, _ => d
    | .pdelayReq =>
      if d.get F.PTP_CFG_DELAY_MECH = 1 then
        let r := { d.ptpOwn n .pdelayResp m.logInt 0 with seq := m.seq, corr := m.corr, reqId := m.srcId, reqPort := m.srcPort }
        d.setPport n { x with owed := x.owed ++ [(r, st)] }
      else d
    | .pdelayResp =>
      match x.preq with
      | some (q, t1) =>
        if q == m.seq && m.reqId == d.clockId && m.reqPort == n + 1 then
          let c := m.corr + d.asym n
          if m.twoStep then d.setPport n { x with presp := some (q, 65536 * (m.ts : Int), st, c) }
          else d.setPport n { x with preq := none, mpd := some (st - t1 - c) }
        else d
      | none => d
    | .pdelayRespFollowUp =>
      match x.preq, x.presp with
      | some (q, t1), some (r, t2, t4, c) =>
        if q == m.seq && r == m.seq && m.reqId == d.clockId then
          d.setPport n { x with preq := none, presp := none, mpd := some ((t4 - t1) - (65536 * (m.ts : Int) - t2) - c - m.corr) }
        else d
      | _, _ => d
    | .other => d

def execPtpMessageReceived (p : Nat) (m : PtpMsg) (frac t : Nat) (s : State) : Host.Outcome State Fault Refusal :=
  if p < 2 then .next ((s.advance t).both fun k d => d.ptpRx k p m frac) else .next s

/-! Timeouts and links (R422, R425). -/

/-- announceReceiptTimeout expires on port n: its foreign masters are forgotten; the port is MASTER, or LISTENING where only a
slave. -/
def Side.annTimeout (p : Pkg) (n : Nat) (d : Side) : Side :=
  let x := d.pport n
  let st := d.pst n
  if !d.pOn n || st = psMaster || st < psListening ||
      !reached p.now (x.annAt + d.get F.PTP_LIMITS_ANN_TMO * d.annNs n) then d
  else
    let d1 := d.setPport n { x with foreign := [], annAt := p.now, pair := none, mpd := none, wait := none }
    (d1.movePort p n (if d.flag F.PTP_CFG_SLAVE_ONLY then psListening else psMaster))

def execAnnounceTimeout (p t : Nat) (s : State) : Host.Outcome State Fault Refusal :=
  if p < 2 then .next ((s.advance t).both fun k d => d.annTimeout k p) else .next s

/-- No Sync for SYNC_TMO intervals on the SLAVE port: MASTER_LOST and HOLDOVER. -/
def Side.syncTimeout (p : Pkg) (n : Nat) (d : Side) : Side :=
  let x := d.pport n
  let lim := ((d.get F.PTP_LIMITS_SYNC_TMO : Nat) : Rat) * intervalNs x.logSync
  if d.pst n ≠ psSlave || d.servo = 4 || ((tdiff p.now x.syncAt : Rat) < lim) then d
  else d.holdover p F.PTP_STATUS_MASTER_LOST

def execSyncTimeout (p t : Nat) (s : State) : Host.Outcome State Fault Refusal :=
  if p < 2 then .next ((s.advance t).both fun k d => d.syncTimeout k p) else .next s

/-- The state of a port whose EN or link has changed: DISABLED, FAULTY without a link, or LISTENING anew. -/
def Side.portStart (p : Pkg) (n : Nat) (d : Side) : Side :=
  let st := if !d.flag (F.PTP_P_CFG_EN n) then psDisabled else if d.flag (F.PTP_P_STATUS_LINK n) then psListening else psFaulty
  (d.setPport n { annAt := p.now, seqs := (d.pport n).seqs }).movePort p n st

/-- The PHY's link of a port, kept outside the sides. -/
def State.ethPort (s : State) (n : Nat) (up : Bool) : State :=
  let l := s.pkg.hold.ethUp.filter (· ≠ n)
  s.setHold { s.pkg.hold with ethUp := if up then n :: l else l }

def Side.linkDrop (p : Pkg) (n : Nat) (d : Side) : Side :=
  if d.flag (F.PTP_P_STATUS_LINK n) then
    ((d.set (F.PTP_P_STATUS_LINK n) 0).portStart p n).fault p (0x271 + n) (F.PTP_P_STATUS_LINK_LOST n)
  else d

def execEthLinkDown (p : Nat) (s : State) : Host.Outcome State Fault Refusal :=
  if p < 2 then .next ((s.ethPort p false).both fun k d => d.linkDrop k p) else .next s

def Side.linkRise (p : Pkg) (n : Nat) (d : Side) : Side :=
  if d.flag (F.PTP_P_STATUS_LINK n) then d else (d.set (F.PTP_P_STATUS_LINK n) 1).portStart p n

def execEthLinkUp (p : Nat) (s : State) : Host.Outcome State Fault Refusal :=
  if p < 2 then .next ((s.ethPort p true).both fun k d => d.linkRise k p) else .next s

/-- PTPp_CFG written: a change of EN starts or stops the port. -/
def Side.ptpCfg (p : Pkg) (n old : Nat) (d : Side) : Side :=
  if bit old 0 == d.flag (F.PTP_P_CFG_EN n) then d else d.portStart p n

end Sys2Proof.Machine
end

