-- ==== Sys2Proof/Machine/RegCheck.lean ====
section
/-! DEFINITION. When a register write is refused (R11, R12): windows, idle tests, ranges, conditions between fields of a
register and between registers, and the flag that a refusal sets. -/

namespace Sys2Proof.Machine

/-! Idle tests (R335, R339, R381, R424). -/

/-- Every unit whose setting names x reads OFF. -/
def Side.unitsOff (d : Side) (f : Nat → Fld) (x : Nat) : Bool :=
  (List.range 24).all fun u => d.get (f u) != x || d.uState u == 0

/-- The unit or block that a side's register belongs to is idle. -/
def Side.idleOpen (d : Side) (off : Nat) : Bool :=
  let o := off % 0x100000
  match off / 0x100000 with
  | 0x9 => let st := d.get (F.LAW_TR_STATE_STATE (o % 0x1000 / 0x20)); st != 1 && st != 2
  | 0xA => d.get (F.MOT_STATUS_STATE (o / 0x1000)) == 0
  | 0xB =>
    if o < 0x10000 then d.uState (o / 0x1000) == 0
    else if o < 0x20000 then d.uState (16 + (o - 0x10000) / 0x1000) == 0
    else if o < 0x30000 then d.unitsOff uBUS ((o - 0x20000) / 0x100)
    else if o < 0x31000 then d.unitsOff uCAR ((o - 0x30100) / 4)
    else match chUnit ((o - 0x32000) / 4) with
      | some u => d.uState u == 0
      | none => true
  | 0xF =>
    if o < 0x1000 then (List.range 2).all fun n => d.get (F.PTP_P_CFG_EN n) == 0
    else d.get (F.PTP_P_CFG_EN ((o - 0x1000) / 0x100)) == 0
  | _ => true

/-- The boot of the side is not complete: PHASE does not read READY. -/
def Side.booting (d : Side) : Bool := d.get F.CFG_STATUS_PHASE != 2

/-- A window is open for a side's register (R11). -/
def Side.winOpen (d : Side) (off : Nat) : Win → Bool
  | .any => true
  | .idle => d.idleOpen off
  | .plate => d.plateWindow
  | .boot => d.booting

/-- A jar's fields but EN stay closed while the jar is enabled (R189). -/
def Side.jarOpen (d : Side) (off lo : Nat) : Bool :=
  if 0x301000 ≤ off && off < 0x301400 then
    !d.flag (F.PLN_JAR_CFG_EN ((off - 0x301000) / 0x20)) || (off % 0x20 == 0 && lo == 0)
  else true

/-! Fields of a write (R9, R12). -/

/-- A field lets a write of v over cur pass: a closed one only with the value it holds, an open one within its range (R12). -/
def fldOk (isOpen : Nat → Win → Bool) (cur v : Nat) (f : FldRow) : Bool :=
  let b := bits v f.lo f.w
  match f.acc with
  | .ro => true
  | .rw => if isOpen f.lo f.win then decide (f.min ≤ b) && decide (b ≤ f.max) else bits cur f.lo f.w == b
  | _ => b == 0 || isOpen f.lo f.win

/-- The word after a field's part of an accepted write: RW takes the value, W1C clears where 1 is written. -/
def fldNew (v : Nat) (cur : Nat) (f : FldRow) : Nat :=
  let b := bits v f.lo f.w
  match f.acc with
  | .rw => putBits cur f.lo f.w b
  | .w1c => if b = 1 then putBits cur f.lo f.w 0 else cur
  | _ => cur

def rowNew (r : RegRow) (cur v : Nat) : Nat := r.flds.foldl (fldNew v) cur

/-- The two halves of a word as signed numbers. -/
def lo16 (v : Nat) : Int := toSigned 16 v
def hi16 (v : Nat) : Int := toSigned 16 (v / 65536)

/-- The conditions within one register's word, by the base of its row (R41, R245, R302, R299, R337, R383, R425, R474, R486,
R496). -/
def wordOk (p : Pkg) (base : Nat) (ix : List Nat) (v : Nat) : Bool :=
  match base with
  | 0xE00090 => tickOk (bits v 0 16) (bits v 16 16)
  | 0x500000 => decide (bits v 24 5 < p.axes)
  | 0x50001C => decide (lo16 v < hi16 v)
  | 0x501004 => decide ((toSigned 20 v).natAbs ≤ 262144)
  | 0x502004 => decide ((toSigned 20 v).natAbs ≤ 262144)
  | 0x502008 => decide ((toSigned 32 v).natAbs ≤ 2 ^ 20)
  | 0x70000C => decide ((lo16 v * lo16 v + hi16 v * hi16 v - 2 ^ 30).natAbs ≤ 2 ^ 24)
  | 0x880024 => v % 4096 == 0
  | 0x88002C => v == 0 || (v % 4096 == 0 && decide (0x40000 ≤ v))
  | 0xA00000 =>
    (match bits v 5 2 with
      | 1 => decide (bits v 0 5 < p.focs)
      | 2 => decide (bits v 0 5 < p.stps)
      | _ => true) && decide (bits v 7 5 < 24)
  | 0xB2000C => decide (bits v 16 16 < bits v 0 16)
  | 0xB20010 => decide (bits v 0 16 < bits v 16 16)
  | 0xD00004 => !(bit v 0 && bit v 2)
  | 0xF01000 =>
    decide (-7 ≤ toSigned 4 (v / 2 ^ 20)) && decide (toSigned 4 (v / 2 ^ 20) ≤ 1) &&
    decide (-3 ≤ toSigned 4 (v / 2 ^ 24)) && decide (toSigned 4 (v / 2 ^ 24) ≤ 4) &&
    decide (-7 ≤ toSigned 4 (v / 2 ^ 28)) && decide (toSigned 4 (v / 2 ^ 28) ≤ 5)
  | 0x1100008 => decide (bits v 0 16 < bits v 16 16)
  | 0x1100020 => decide (lo16 v < hi16 v)
  | 0x3F03000 => !([3, 4, 6, 8, 9].contains (bits v 8 4)) || bits v 16 16 != 0
  | 0x1210000 => !bit v 1 || srcFunc1 (ix.getD 0 0)
  | _ => true

/-- The conditions between the register at an offset and others (R337, R358, R384, R474), on a register file, with the fine tick
that carriers count in. -/
def crossOk (p : Pkg) (rf : Tab Word) (fine base : Nat) (ix : List Nat) : Bool :=
  let i := ix.getD 0 0
  if base = 0x1100020 || base = 0x1100024 then
    decide (toSigned 16 (rfGet rf F.THM_WAVE_E12_E2) < toSigned 16 (rfGet rf F.THM_WAVE_E3_E3))
  else if base = 0xB2000C || base = 0xB20010 then
    decide (rfGet rf (F.FOC_BUS_VLIM1_V_ON i) ≤ rfGet rf (F.FOC_BUS_VLIM2_V_SOFT i))
  else if base = 0xB30100 then carInRange (rfGet rf (F.FOC_CAR_CFG_PER_FT i) * fine)
  else if base = 0xA00000 then
    let t := rfGet rf (F.MOT_CFG_UTYPE i)
    t == 0 || (List.range p.axes).all fun a =>
      a == i || rfGet rf (F.MOT_CFG_UTYPE a) != t || rfGet rf (F.MOT_CFG_UNIT a) != rfGet rf (F.MOT_CFG_UNIT i)
  else true

end Sys2Proof.Machine
end

