-- ==== Sys2Proof/Machine/Boot.lean ====
section
/-! DEFINITION. Reset, boot and configuration (R497 to R509), REVIVE (R405), the supply monitors (R515) and the wake from a
power state (R471, R472). -/

namespace Sys2Proof

/-- VERSION and FLOOR of a firmware slot of the flash, and whether its image verifies under the fused root hash (R501): the
image's layout is not in the spec (log entry 62). -/
opaque Config.fwVersion : Tab Byte → Nat → Nat
opaque Config.fwFloor : Tab Byte → Nat → Nat
opaque Config.fwGood : Tab Byte → Nat → Nat → Bool

end Sys2Proof

namespace Sys2Proof.Machine

/-! The configuration flash (R500): a byte that is not listed is erased and reads 0xFF (log entry 63). -/

def flashByte (f : Tab Byte) (a : Nat) : Byte := tget 0xFF f a

def flashRead (f : Tab Byte) (a : Nat) : Nat → List Byte
  | 0 => []
  | n + 1 => flashByte f a :: flashRead f (a + 1) n

def flashErase (f : Tab Byte) (a n : Nat) : Tab Byte := f.filter fun e => !(a ≤ e.1 && e.1 < a + n)

def flashProgram (f : Tab Byte) (a : Nat) : List Byte → Tab Byte
  | [] => f
  | b :: t => flashProgram (if b = 0xFF then f.filter (fun e => e.1 ≠ a) else tset f a b) (a + 1) t

/-- Offset and size of an area by its number in FLASH_PROGRAM (R500, R505). -/
def flashArea (n : Nat) : Nat × Nat :=
  match n with
  | 0 => (0, 0x10000)
  | 1 => (0x200000, 0x40000)
  | 2 => (0x240000, 0x40000)
  | 3 => (0x1000000, 0x800000)
  | _ => (0x1800000, 0x800000)

/-! Firmware (R501). -/

/-- Why the boot ROM chose a slot: its number, and whether it fell back to it. -/
structure FwPick where
  slot : Nat
  fallback : Bool
  deriving DecidableEq, Repr

def Pkg.fwOk (p : Pkg) (slot : Nat) : Bool :=
  Config.fwGood p.flash slot p.fuses.root && decide (p.fuses.minVer ≤ Config.fwVersion p.flash slot)

/-- The slot of higher VERSION first, slot 0 where they are equal; none where both fail. -/
def Pkg.fwPick (p : Pkg) : Option FwPick :=
  let first := if Config.fwVersion p.flash 0 < Config.fwVersion p.flash 1 then 1 else 0
  if p.fwOk first then some ⟨first, false⟩
  else if p.fwOk (1 - first) then some ⟨1 - first, true⟩
  else none

/-! The configuration block (R502 to R504). -/

/-- A configuration copy: HOLD_BOOT, GEN, SUBSYS, CHECK, entries as (offset, value). -/
structure CfgCopy where
  hold : Bool
  gen : Nat
  subsys : Nat
  check : Nat
  ents : List (Nat × Nat)
  deriving DecidableEq, Repr

def cfgEnts (f : Tab Byte) (a : Nat) : Nat → List (Nat × Nat)
  | 0 => []
  | n + 1 => (leNat (flashRead f a 4), leNat (flashRead f (a + 4) 4)) :: cfgEnts f (a + 8) n

/-- The copy at an address, if its header and CHECK keep R502. -/
def cfgParse (f : Tab Byte) (a : Nat) : Option CfgCopy :=
  let h := flashRead f a 32
  let n := leAt h 12 4
  if leAt h 0 4 ≠ 0x43467D01 ∨ leAt h 4 2 ≠ 1 ∨ 2 ≤ leAt h 6 2 ∨ 32763 < n ∨ (firstNonZero h 20 12).isSome then none
  else
    let check := leNat (flashRead f (a + 32 + 8 * n) 4)
    if crc32c (flashRead f a (32 + 8 * n)) ≠ check then none
    else some ⟨leAt h 6 2 == 1, leAt h 8 4, leAt h 16 4, check, cfgEnts f (a + 32) n⟩

/-- The fields of a register that a configuration mask covers. -/
def cfgFlds (r : RegRow) : List FldRow := r.flds.filter fun f => f.acc == .rw && bits r.cfg f.lo f.w == 2 ^ f.w - 1

/-- A word with its configuration fields taken from a value. -/
def cfgWord (r : RegRow) (cur v : Nat) : Nat := (cfgFlds r).foldl (fun w f => putBits w f.lo f.w (bits v f.lo f.w)) cur

/-- An entry breaks a condition that looks at its own register alone. -/
def entryBad (p : Pkg) (e : Nat × Nat) : Bool :=
  match regFind e.1 with
  | none => true
  | some (r, ix) =>
    if regAbsent p.fuses.is7708 r ix then false
    else
      r.cfg == 0 || Nat.lor e.2 r.cfg != r.cfg ||
      !((cfgFlds r).all fun f => decide (f.min ≤ bits e.2 f.lo f.w) && decide (bits e.2 f.lo f.w ≤ f.max)) ||
      !wordOk p r.base ix (cfgWord r (resetWord e.1) e.2)

/-- The entry's register is present. -/
def entryHere (p : Pkg) (e : Nat × Nat) : Bool :=
  match regFind e.1 with
  | none => false
  | some (r, ix) => !regAbsent p.fuses.is7708 r ix

/-- One entry written to a register file. -/
def entryPut (rf : Tab Word) (e : Nat × Nat) : Tab Word :=
  match regFind e.1 with
  | none => rf
  | some (r, _) => rfPutWord rf e.1 (cfgWord r (rfWord rf e.1) e.2)

/-- Entries applied in index order; those of absent units are skipped. -/
def entriesPut (p : Pkg) (rf : Tab Word) (l : List (Nat × Nat)) : Tab Word := (l.filter (entryHere p)).foldl entryPut rf

/-- An entry breaks a condition between registers in the configuration rf that the whole copy produces. -/
def entryCross (p : Pkg) (rf : Tab Word) (e : Nat × Nat) : Bool :=
  match regFind e.1 with
  | none => false
  | some (r, ix) => !regAbsent p.fuses.is7708 r ix && !crossOk p rf (rfGet rf F.TIM_TICK_NS / 20) r.base ix

/-- The index of the first failing entry of a copy (R503). -/
def copyBad (p : Pkg) (c : CfgCopy) : Option Nat :=
  let rf := entriesPut p [] (c.ents.filter fun e => !entryBad p e)
  c.ents.findIdx? fun e => entryBad p e || entryCross p rf e

/-- What the load takes (R503): SOURCE, the copy, DETAIL of COPY_BAD. -/
structure CfgLoad where
  source : Nat
  copy : Option CfgCopy
  bad : Option Nat
  deriving DecidableEq, Repr

/-- A copy, or the DETAIL that tells why it is bad. -/
def Pkg.cfgJudge (p : Pkg) (k : Nat) : Except Nat CfgCopy :=
  match cfgParse p.flash (flashArea (1 + k)).1 with
  | none => .error (2 ^ 31 * k + 0x7FFFFFFF)
  | some c =>
    match copyBad p c with
    | some i => .error (2 ^ 31 * k + i)
    | none => .ok c

def Pkg.cfgLoad (p : Pkg) : CfgLoad :=
  match p.cfgJudge 0, p.cfgJudge 1 with
  | .ok a, .ok b => if 0 < sdiff32 b.gen a.gen then ⟨1, some b, none⟩ else ⟨0, some a, none⟩
  | .ok a, .error x => ⟨0, some a, some x⟩
  | .error x, .ok b => ⟨1, some b, some x⟩
  | .error _, .error _ => ⟨2, none, none⟩

def CfgLoad.ents (l : CfgLoad) : List (Nat × Nat) := (l.copy.map (·.ents)).getD []

/-! The factory area (R500). -/

/-- The MAC of a PTP port, octet 0 lowest, and whether the area is bad. -/
def Pkg.mac (p : Pkg) (n : Nat) : Nat × Bool :=
  let b := flashRead p.flash 0 20
  if leAt b 0 4 = 0x46417D01 && crc32c (b.take 16) = leAt b 16 4 then (leAt b (4 + 6 * n) 6, false)
  else (leNat ([(2 : Byte)] ++ leBytes 4 p.fuses.devId ++ [BitVec.ofNat 8 n]), true)

/-! A side comes out of reset. -/

/-- Registers that warm reset keeps (R508, R339). -/
def warmKeep (off : Nat) : Bool :=
  (0xE00040 ≤ off && off ≤ 0xE00054) || (List.range 24).any fun n => off == (F.MOT_UPOS_U n).off

/-- Registers of the always-on domain (R469). -/
def alwaysOn (off : Nat) : Bool :=
  (0xE00040 ≤ off && off ≤ 0xE00054) || off == 0xE00090 || off == 0xE00094 || (0x10000 ≤ off && off < 0x40000) ||
  (0x1100030 ≤ off && off ≤ 0x1100038)

/-- A die after warm reset (R508): raw-bound time, the tick in force, axis positions and DRAM are kept. -/
def Side.warmBase (d : Side) : Side :=
  let t := d.tim
  { rf := d.rf.filter fun e => warmKeep e.1,
    tim := { tickNs := t.tickNs, phase := t.phase, nextEdge := t.nextEdge, nextFine := t.nextFine, count := t.count,
             fine := t.fine },
    foc := { n := d.foc.n }, pln := { lastEdge := d.pln.lastEdge },
    dram := d.dram, eccBad := d.eccBad }

/-- A die after DEEP: the always-on domain and DRAM are kept (R469, R472). -/
def Side.deepBase (d : Side) : Side :=
  { rf := d.rf.filter fun e => alwaysOn e.1, tim := d.tim, hif := d.hif, foc := { n := d.foc.n },
    pln := { lastEdge := d.pln.lastEdge }, dram := d.dram,
    eccBad := d.eccBad }

/-- Identity, capability and fuse registers, and the MAC addresses (R2, R5, R18, R427, R431, R500, R509). -/
def Side.identity (p : Pkg) (fw : FwPick) (ld : CfgLoad) (d : Side) : Side :=
  let f := p.fuses
  let d1 := (((d.set F.CFG_CAP0_CHANNELS p.beams).set F.CFG_CAP0_AXES p.axes).set F.CFG_CAP0_FOC p.focs).set F.CFG_CAP0_STP p.stps
  let d2 := ((d1.set F.CFG_CAP1_DRAM_GIB (min p.dramA p.dramB)).set F.CFG_CAP1_DRAM_MISMATCH (b2n (p.dramA ≠ p.dramB))).set
    F.CFG_CAP1_PART (b2n f.is7708)
  let d3 := (d2.set F.PLN_DOT_CEIL_MBPS (if f.is7708 then 160000 else 192000)).set F.CFG_FW_VERSION
    (Config.fwVersion p.flash fw.slot)
  let d4 := (((d3.set F.CFG_FW_MIN f.minVer).set F.CFG_STATUS_FW_SLOT fw.slot).set F.CFG_STATUS_SOURCE ld.source).set
    F.CFG_GEN_GEN ((ld.copy.map (·.gen)).getD 0)
  let d5 := ((d4.set F.CFG_CRC_CHECK ((ld.copy.map (·.check)).getD 0)).set F.SEC_STATUS_LIFECYCLE f.lifecycle).set F.SEC_STATUS_DEBUG
    (if f.lifecycle = 0 then 2 else 0)
  let d6 := ((d5.set F.SEC_STATUS_OEM_FUSED (b2n f.oem.isSome)).set F.SEC_STATUS_RECIPE_REQ (b2n f.recipeReq)).set F.SEC_MONO_COUNT
    f.mono
  let d7 := d6.set64 F.SEC_ID_LO_DEVICE_ID F.SEC_ID_HI_DEVICE_ID f.devId
  let m0 := (p.mac 0).1
  let d8 := (d7.set64 (F.PTP_P_MAC_LO_MAC 0) (F.PTP_P_MAC_HI_MAC 0) m0).set64 (F.PTP_P_MAC_LO_MAC 1) (F.PTP_P_MAC_HI_MAC 1)
    (p.mac 1).1
  let d9 := d8.set64 F.PTP_ID_LO_ID F.PTP_ID_HI_ID (m0 % 2 ^ 24 + 2 ^ 24 * 0xFEFF + 2 ^ 40 * (m0 / 2 ^ 24))
  ((d9.set (F.PTP_P_STATUS_LINK 0) (b2n (p.hold.ethUp.contains 0))).set (F.PTP_P_STATUS_LINK 1)
    (b2n (p.hold.ethUp.contains 1))).linkFields p.pci.linkUp p.pci.speed p.pci.width

/-- The flags of the boot are set and posted (R431, R500, R501, R503). -/
def Side.bootFlags (p : Pkg) (fw : FwPick) (ld : CfgLoad) (powerOn : Bool) (d : Side) : Side :=
  let d1 := d.faultIf p fw.fallback 0x2B0 F.CFG_STATUS_FW_FALLBACK
  let d2 := d1.faultIf p (p.mac 0).2 0x2B0 F.CFG_STATUS_FACTORY_BAD
  let d3 := match ld.bad with
    | some x => d2.faultD p 0x2B0 F.CFG_STATUS_COPY_BAD x 0
    | none => d2
  let d4 := d3.faultIf p (ld.source == 2) 0x2B0 F.CFG_STATUS_CFG_DEFAULTED
  d4.faultIf p (powerOn && decide (monoEnd ≤ p.fuses.mono + 1024)) 0x280 F.SEC_STATUS_MONO_LOW

/-- The tick that a load gives waits for the next edge where it differs from the one in force: after power-on reset that is the
Sponge value (R41), else the one that ran on (R508). -/
def Side.bootTick (d : Side) : Side :=
  (d.set F.TIM_FINE_NS (d.tim.tickNs / 20)).set F.TIM_STATUS_TICK_PENDING
    (b2n (d.tim.tickNs ≠ d.get F.TIM_TICK_NS || d.tim.phase ≠ d.get F.TIM_TICK_PHASE))

/-- Jars that the configuration enables are full (R185). -/
def Side.bootJars (d : Side) : Side := (List.range 32).foldl (fun d j => if d.jarOn j then d.jarEnable j else d) d

/-- A side from its kept state to the end of the configuration load, HELD where HOLD_BOOT is 1 (R504, R506). The entries are laid
over the Sponge values, the MAC addresses and PTP_ID among them; a wake from DEEP, which kept THM_PWR_STATE, keeps the always-on
domain (R472). -/
def Side.load (p : Pkg) (fw : FwPick) (ld : CfgLoad) (powerOn : Bool) (d : Side) : Side :=
  let side := ld.ents.filter fun e => e.1 < 0x3F00000 && !(d.flag F.THM_PWR_STATE_WAKING && alwaysOn e.1)
  let d0 := d.identity p fw ld
  let d1 := { d0 with rf := entriesPut p d0.rf side }
  let d2 := ((d1.bootTick).bootJars).bootFlags p fw ld powerOn
  let d3 := d2.set F.CFG_STATUS_PHASE (b2n ((ld.copy.map (·.hold)).getD false))
  { d3 with twn := { d3.twn with base := d3.dev p }, out := [], posted := [] }

/-- The hold die's registers take the configuration again: Sponge values of the fields with Reset CFG, then the entries. -/
def holdLoad (p : Pkg) (ld : CfgLoad) (rf : Tab Word) : Tab Word :=
  let back := rf.map fun e =>
    match regFind e.1 with
    | some (r, _) => (e.1, BitVec.ofNat 32 (cfgWord r e.2.toNat (resetWord e.1)))
    | none => e
  entriesPut p back (ld.ents.filter fun e => 0x3F00000 ≤ e.1)

/-- The default SUBSYS (R504), or the one of the copy that is loaded. -/
def Pkg.subsysOf (p : Pkg) (ld : CfgLoad) : Nat :=
  match ld.copy with
  | some c => c.subsys
  | none => if p.fuses.is7708 then 0x77081F3D else 0x77161F3D

/-! Boots begin. -/

/-- A watch at the start of a boot. -/
def Watch.fresh (w : Watch) (now : Nat) (revived : Bool) : Watch :=
  { seq := 0, at1 := now, at2 := now, lostPower := w.lostPower, revived := revived }

/-- The readings of side x's sensors, which read 0 and are not valid while it boots (R462). -/
def Side.sensDrop (x : SideId) (d : Side) : Side :=
  (List.range 64).foldl (fun d i =>
    let k := (if x = .a then 0 else 64) + i
    (d.setWord (F.THM_SNS_VAL_TEMP k).off 0).setSens k {}) d

/-- A side begins its boot from a kept state; where no firmware slot verifies it fails at once (R386, R501). -/
def State.beginBoot (s : State) (x : SideId) (base : Side) (powerOn revived : Bool) : State :=
  let p := s.pkg
  let h := (p.hold.setWatch x ((p.hold.look x).fresh p.now revived))
  match p.fwPick with
  | none => (s.setHold (h.setHealth x 0)).setSide x { base with out := [] }
  | some fw =>
    let s1 := (s.setHold (h.setHealth x 1)).setSide x (base.load p fw p.cfgLoad powerOn)
    s1.setSide (otherSide x) ((s1.side (otherSide x)).sensDrop x)

/-- Both sides have failed their boot: SAFE; one has: nothing more until the other ends its own (R386). -/
def State.bootsFailed (s : State) : State :=
  if s.pkg.hold.health .a = 0 && s.pkg.hold.health .b = 0 && !s.pkg.hold.flag F.HLD_TWN_STATUS_SAFE then s.enterSafe else s

/-- POWER_ON_RESET: everything but fuses, flash, host memory and fitted DRAM starts anew; the counter advances by 1 (R431,
R498, R508). -/
def State.powerOn (s : State) : State :=
  let q := s.pkg
  let f := { q.fuses with mono := min monoEnd (q.fuses.mono + 1) }
  let p0 : Pkg := { fuses := f, host := q.host, flash := q.flash, dramA := q.dramA, dramB := q.dramB, free := q.free }
  let ld := p0.cfgLoad
  let p := { p0 with hold := { p0.hold with rf := holdLoad p0 ld p0.hold.rf }, pci := { p0.pci with subsys := p0.subsysOf ld } }
  let s1 : State := { s with pkg := p, sideA := {}, sideB := {} }
  (((s1.beginBoot .a {} true false).beginBoot .b {} true false)).bootsFailed

def execPowerOnReset (s : State) : Host.Outcome State Fault Refusal := .next s.powerOn

/-- A warm reset (R508): the hold die enters SAFE, both control dies reset and boot; a die without power stays FAILED. -/
def State.warm (s : State) : State :=
  let s1 := s.enterSafe
  let ld := s1.pkg.cfgLoad
  let h := s1.pkg.hold
  let p := { s1.pkg with
    hold := { h with rf := holdLoad s1.pkg ld h.rf, deep := false, stopped := h.stopped.filter fun x => (h.look x).lostPower },
    pci := { s1.pkg.pci with pend := [], held := [], subsys := s1.pkg.subsysOf ld } }
  let s2 := { s1 with pkg := p }
  let boot (s : State) (x : SideId) : State :=
    if (s.pkg.hold.look x).lostPower then s.setSide x {} else s.beginBoot x (s.side x).warmBase false false
  (boot (boot s2 .a) .b).bootsFailed

/-- The hold die works: no monitor holds it in reset (R515). -/
def Hold.up (h : Hold) : Bool := !h.down

def execWarmReset (s : State) : Host.Outcome State Fault Refusal := if s.pkg.hold.up then .next s.warm else .next s

/-- Some side answers the CFG region (R392, R507). -/
def Hold.cfgAnswers (h : Hold) : Bool :=
  h.up && !h.deep && (h.health .a == 1 || h.health .b == 1 || (!h.flag F.HLD_TWN_STATUS_SAFE && h.granted))

/-- CFG_CMD.WARM: the same, where the CFG region takes writes. -/
def execWarm (s : State) : Host.Outcome State Fault Refusal := if s.pkg.hold.cfgAnswers then .next (s.asWrite true 0x1300004 2 s.warm) else .next s

/-- CFG_CMD.PROCEED: a held boot goes on (R507). -/
def Side.proceed (d : Side) : Side := if d.get F.CFG_STATUS_PHASE = 1 then d.set F.CFG_STATUS_PHASE 0 else d

def State.onBooting (s : State) (f : Side → Side) : State :=
  let a := if s.pkg.hold.health .a = 1 then f s.sideA else s.sideA
  let b := if s.pkg.hold.health .b = 1 then f s.sideB else s.sideB
  { s with sideA := a, sideB := b }

def execProceed (s : State) : Host.Outcome State Fault Refusal := .next (s.asWrite true 0x1300004 1 (s.onBooting Side.proceed))

/-! Boots end (R386, R405, R407). -/

/-- Regular edges of the tick in force up to device time n: its next edge and boundary, the count and the fine index follow. -/
def Side.passEdges (n : Nat) (d : Side) : Side :=
  let t := d.tim
  if reached n t.nextEdge then
    let k := (tdiff n t.nextEdge).toNat / t.tickNs
    let last := t.nextEdge + k * t.tickNs
    let t1 := { t with nextEdge := t.nextEdgeAfter last, count := (t.count + k + 1) % 2 ^ 64, fine := t.finesIn last n, nextFine := t.nextFineAfter n }
    { d with pln := { d.pln with lastEdge := last % 2 ^ 64 }, tim := t1 }
  else if reached n t.nextFine then
    { d with tim := { t with fine := t.fine + (tdiff n t.nextFine).toNat / t.fineNs + 1, nextFine := t.nextFineAfter n } }
  else d

/-- The ticks that have passed while the side was in reset. A waiting tick change took effect at the first edge after the load
(R41, R508): the instant of the load within the boot is open, so how many edges came before it is a free value (log entry 134). -/
def Side.catchUp (p : Pkg) (d : Side) : Side :=
  let n := d.dev p
  if d.edgeDue p && d.flag F.TIM_STATUS_TICK_PENDING then
    let t := d.tim
    let e := t.nextEdge + Config.free p.free 0xA0000 % ((tdiff n t.nextEdge).toNat / t.tickNs + 1) * t.tickNs
    let d1 := (d.passEdges e).tickChange
    ({ d1 with tim := { d1.tim with nextEdge := d1.tim.realigned e, nextFine := d1.tim.nextFineAfter e } }).passEdges n
  else d.passEdges n

/-- A side is READY (R506). -/
def Side.ready (p : Pkg) (ms : Nat) (d : Side) : Side :=
  let d1 := ((d.catchUp p).set F.CFG_STATUS_PHASE 2).set F.CFG_BOOT_MS_MS ms
  let d2 := if d1.get F.THM_PWR_STATE_STATE = 3 then (d1.set F.THM_PWR_STATE_STATE 0).set F.THM_PWR_STATE_WAKING 0 else d1
  (List.range 2).foldl (fun d n => d.portStart p n) d2

/-- Both sides' minimum version after rings ready (R501). -/
def State.raiseMin (s : State) (x : SideId) : State :=
  let v := max s.pkg.fuses.minVer (Config.fwFloor s.pkg.flash ((s.side x).get F.CFG_STATUS_FW_SLOT))
  { s with pkg := { s.pkg with fuses := { s.pkg.fuses with minVer := v } },
           sideA := s.sideA.set F.CFG_FW_MIN v, sideB := s.sideB.set F.CFG_FW_MIN v }

/-- Side x takes the grant at rings ready; a STALE side that waited is compared from now on (R386, R392, R407). -/
def State.takeGrant (s : State) (x : SideId) : State :=
  let h := s.pkg.hold
  let h1 := (((h.setHealth x 3).set F.HLD_TWN_STATUS_ACTIVE (sideIx x)).set F.HLD_TWN_STATUS_GRANTED 1).set F.HLD_TWN_STATUS_SAFE 0
  let h2 := { h1 with gap := none, ack := none, flt := { h1.flt with boot := false } }
  let s1 := (s.setHold h2.compareShow).raiseMin x
  let s2 := (List.range s1.pkg.beams).foldl (fun s n => s.portCfg n 0) s1
  let s3 := if s2.pkg.hold.health (otherSide x) = 2 then
      s2.both fun _ d => (d.set F.TWN_STATUS_COMPARING 1).set F.TWN_STATUS_MATCHES 0
    else s2
  (s3.setHold { s3.pkg.hold with cmpTick := (s3.side x).tim.count }).fltRefresh

/-- A side that boots beside a granted one takes over the power state (R472). -/
def Side.joinPower (o : Side) (d : Side) : Side := d.set F.THM_PWR_STATE_STATE (o.get F.THM_PWR_STATE_STATE)

/-- BOOT_COMPLETE: side x, BOOTING and not HELD, completes its boot after ms milliseconds. -/
def State.bootComplete (s : State) (x : SideId) (ms : Nat) : State :=
  let h := s.pkg.hold
  let y := otherSide x
  if h.health x ≠ 1 || (s.side x).get F.CFG_STATUS_PHASE = 1 then s
  else
    let w := h.look x
    let s1 := (s.setSide x ((s.side x).ready s.pkg ms)).setHold
      ((h.setHealth x 2).setWatch x { w with at1 := s.pkg.now, at2 := s.pkg.now, hb1 := hbNs h, hb2 := hbNs h, revived := false })
    if h.granted || h.gap.isSome then
      let s2 := s1.setSide x ((s.side y).joinPower (s1.side x))
      if w.revived then s2.startCopy else s2.both fun _ d => (d.set F.TWN_STATUS_COMPARING 1).set F.TWN_STATUS_MATCHES 0
    else if w.revived then s1.takeGrant x
    else if h.health y = 0 then (s1.takeGrant x).holdFault 0x400 F.HLD_TWN_STATUS_DEGRADED
    else if x == .a || h.health y == 2 then s1.takeGrant .a
    else s1

def execBootComplete (side : SideId) (ms : Nat) (s : State) : Host.Outcome State Fault Refusal := .next (s.bootComplete side ms)

/-- BOOT_FAIL: side x fails its boot and is FAILED (R386, R405). -/
def State.bootFail (s : State) (x : SideId) : State :=
  let h := s.pkg.hold
  let y := otherSide x
  if h.health x ≠ 1 then s
  else
    let s1 := s.setHold (h.setHealth x 0)
    if (h.look x).revived then
      (s1.setHold (s1.pkg.hold.set F.HLD_TWN_STATUS_REVIVE_REASON 3)).holdFault 0x400 F.HLD_TWN_STATUS_REVIVE_FAIL
    else if h.granted then s1.holdFault 0x400 F.HLD_TWN_STATUS_DEGRADED
    else if h.health y = 2 then (s1.takeGrant y).holdFault 0x400 F.HLD_TWN_STATUS_DEGRADED
    else s1.bootsFailed

def execBootFail (side : SideId) (s : State) : Host.Outcome State Fault Refusal := .next (s.bootFail side)

/-- HLD_TWN_CMD.REVIVE_A, REVIVE_B: a FAILED side is released into BOOTING with a warm reset of its die, or the command is
refused with its reason (R405). -/
def State.revive (s : State) (x : SideId) : State :=
  let h := s.pkg.hold
  let refuse (r : Nat) : State :=
    (s.setHold (h.set F.HLD_TWN_STATUS_REVIVE_REASON r)).holdFault 0x400 F.HLD_TWN_STATUS_REVIVE_FAIL
  if h.health x ≠ 0 then refuse 1
  else if (h.look x).lostPower then refuse 2
  else
    let s1 := s.setHold { h with stopped := h.stopped.filter (· ≠ x) }
    let s2 := s1.beginBoot x (s.side x).warmBase false true
    if s2.pkg.hold.health x = 0 then
      (s2.setHold (s2.pkg.hold.set F.HLD_TWN_STATUS_REVIVE_REASON 3)).holdFault 0x400 F.HLD_TWN_STATUS_REVIVE_FAIL
    else s2

def execRevive (side : SideId) (s : State) : Host.Outcome State Fault Refusal :=
  if s.pkg.hold.up then .next (s.asWrite true 0x3F00008 (2 ^ sideIx side) (s.revive side)) else .next s

/-! WAKE (R471, R472). -/

/-- The wake from DEEP boots from the configuration load onward; outputs stay off until rings ready. -/
def State.wakeDeep (s : State) : State :=
  let h := s.pkg.hold
  let ld := s.pkg.cfgLoad
  let h1 := { (h.set F.HLD_TWN_STATUS_GRANTED 0) with deep := false, gap := none, copy := none, pwm := [], ssr := [],
                                                       rf := holdLoad s.pkg ld (h.set F.HLD_TWN_STATUS_GRANTED 0).rf }
  let boot (s : State) (x : SideId) : State :=
    if h.health x < 2 then s else s.beginBoot x (((s.side x).deepBase).set F.THM_PWR_STATE_WAKING 1) false false
  (boot (boot (s.setHold h1) .a) .b).bootsFailed

/-- THM_PWR_CMD.WAKE. -/
def State.wake (s : State) : State := if s.pkg.hold.deep then s.wakeDeep else s.both fun _ d => d.napWake

def execWake (s : State) : Host.Outcome State Fault Refusal := .next (s.asWrite true 0x1100034 4 s.wake)

/-! Supply monitors (R515). -/

/-- A monitor trips: the hold die in reset, with everything off until a power-on reset; or a side die in reset, whose beats
stop. -/
def State.trip (s : State) : Monitor → State
  | .hold =>
    { s with pkg := { s.pkg with hold := { rf := rfSet (rfSet [] F.HLD_TWN_STATUS_HEALTH_A 0) F.HLD_TWN_STATUS_HEALTH_B 0,
                                           flt := { lost := true }, down := true },
                                 pci := {} },
             sideA := {}, sideB := {} }
  | .side x =>
    let h := s.pkg.hold
    let h1 := h.setWatch x { h.look x with lostPower := true, out1 := [], out2 := [] }
    let h2 := { h1 with stopped := if h1.stopped.contains x then h1.stopped else h1.stopped ++ [x] }
    if h.health x = 1 then (s.setHold h2).bootFail x else s.setHold h2

def execSupplyMonitorTrip (mon : Monitor) (s : State) : Host.Outcome State Fault Refusal := .next (s.trip mon)

/-- A monitor releases: the hold die stays in reset until a power-on reset; a side die may be revived. -/
def State.untrip (s : State) : Monitor → State
  | .hold => s
  | .side x => s.setHold (s.pkg.hold.setWatch x { s.pkg.hold.look x with lostPower := false })

def execSupplyMonitorRelease (mon : Monitor) (s : State) : Host.Outcome State Fault Refusal := .next (s.untrip mon)

/-! FLASH_PROGRAM (R505). -/

/-- The first bad field. -/
def flashBad (b : List Byte) : Option Nat :=
  let area := byteAt b 4
  let len := dFld b 16 4
  firstSome [if 4 < area then some 4 else none, firstNonZero b 5 3, if dFld b 8 8 % 8 ≠ 0 then some 8 else none,
    if len = 0 || (flashArea area).2 < len then some 16 else none, firstNonZero b 24 40]

/-- The outcome; herr: a host read failed at an address; readBackOk: the read-back equals the data. -/
def Side.flashRes (p : Pkg) (herr : Option Nat) (readBackOk : Bool) (d : Side) (b : List Byte) : Res :=
  match flashBad b, herr with
  | some o, _ => badField o
  | none, some a => hostFaultRes a
  | none, none =>
    if byteAt b 4 = 0 && 2 ≤ d.lifecycle then ⟨stREFUSED, 0, 1⟩
    else if crc32c (memRead p.host (dFld b 8 8) (dFld b 16 4)) ≠ dFld b 20 4 then ⟨stREFUSED, 0, 2⟩
    else if readBackOk then ⟨stSUCCESS, 0, 0⟩
    else ⟨stREFUSED, 0, 3⟩

def Side.flashCmd (n : Nat) (herr : Option Nat) (readBackOk : Bool) (p : Pkg) (d : Side) : Side :=
  match d.nextHost p n 0x7C with
  | none => d
  | some x =>
    let r := d.flashRes p herr readBackOk x.bytes
    (d.startDone n r).faultIf p (r.status == stREFUSED && r.r1 == 3) 0x2B0 F.CFG_STATUS_FLASH_ERR

/-- What a read-back that differs leaves in the area is open: free bytes (log entry 64). -/
def Pkg.flashAfter (p : Pkg) (b : List Byte) (ok : Bool) : Tab Byte :=
  let area := flashArea (byteAt b 4)
  let data := memRead p.host (dFld b 8 8) (dFld b 16 4)
  let put := if ok then data else (List.range data.length).map fun i => BitVec.ofNat 8 (Config.free p.free (0x70000 + i))
  flashProgram (flashErase p.flash area.1 area.2) area.1 put

/-- FLASH_PROGRAM on ring n: the area is erased and programmed. -/
def State.flashProg (s : State) (n : Nat) (herr : Option Nat) (ok : Bool) : State :=
  let d := s.actSide
  let s1 := s.both (Side.flashCmd n herr ok)
  match d.nextHost s.pkg n 0x7C with
  | none => s1
  | some x =>
    let r := d.flashRes s.pkg herr ok x.bytes
    if s.pkg.hold.running s.pkg.hold.active && (r.status = stSUCCESS || (r.status = stREFUSED && r.r1 = 3)) then
      { s1 with pkg := { s1.pkg with flash := s.pkg.flashAfter x.bytes ok } }
    else s1

def execFlashProgram (n : Nat) (herr : Option Nat) (readBackOk : Bool) (s : State) : Host.Outcome State Fault Refusal :=
  if n < 64 then .next (s.flashProg n herr readBackOk) else .next s

/-! PERST_N, TRST_N and the PCIe functions' resets (R82, R498). -/

/-- Submission ring n is DISABLED with nothing in it, and the work it has in engines is discarded. -/
def Side.dropRing (p : Pkg) (n : Nat) (d : Side) : Side :=
  let d1 := ((d.setSqList n []).set (F.HIF_SQ_CFG_ENABLE n) 0).set (F.HIF_SQ_STATUS_STATE n) 0
  let d2 := (List.range 32).foldl (fun d ch =>
    match (d.ch ch).cur with
    | some x => if x.sh.isNone && x.ring = n then (d.someBursts p ch).setCur ch none else d
    | none => d) d1
  let d3 := (List.range 8).foldl (fun d e => match d.decWork e with
    | .req r _ => if r = n then d.setDec e .idle else d
    | _ => d) d2
  let d4 := (List.range 2).foldl (fun d e => match d.cmpWork e with
    | .req r _ => if r = n then d.setCmp e .idle else d
    | _ => d) d3
  { d4.dmaRefreshSq n with pln := { d4.pln with waits := d4.pln.waits.filter fun w => w.2.1 ≠ n },
                           hif := { d4.hif with full := d4.hif.full.filter (· ≠ n) } }

/-- A completion or event ring is DISABLED. -/
def Side.dropOut (r : RingId) (d : Side) : Side :=
  let d1 := (d.set (rEnable r) 0).set (rState r) 0
  { d1 with hif := { d1.hif with msg := tset d1.hif.msg (ringIx r) {} } }

/-- A function's rings are disabled at once, without a completion entry; its in-flight work is discarded. -/
def Side.fnRings (p : Pkg) (fn : Fn) (d : Side) : Side :=
  let qs := (List.range 64).filter fun n => ringFnNum n == fn
  let d1 := qs.foldl (fun d n => d.dropRing p n) d
  (qs.foldl (fun d n => d.dropOut (.cq n)) d1).dropOut (.eq (fnNum fn))

/-- PF0's loss spoils any started plate with FUNCTION_RESET, and stops shadow transfers (R82, R184). -/
def Side.fnReset (p : Pkg) (fn : Fn) (d : Side) : Side :=
  match fn with
  | .pf1 => d.fnRings p .pf1
  | .pf0 =>
    let d1 := ((d.fnRings p .pf0).fnRings p .pf1).spoilRunning p 6
    (List.range 32).foldl (fun d ch => d.shAbort p ch) d1

/-- MSI-X table, pending bits and waiting packets of a function are gone. -/
def Pci.fnClear (c : Pci) (fn : Fn) : Pci :=
  let n := fnNum fn
  { c with msix := c.msix.filter (fun e => e.1 / 0x200 ≠ n), pend := c.pend.filter (fun e => e.1 / 0x80 ≠ n),
           held := c.held.filter fun o => o.fn != some fn }

/-- bme: the function enters D3hot, where Bus Master Enable stays; else it is in D0 with its command register at 0. -/
def State.fnReset (s : State) (fn : Fn) (bme : Bool) : State :=
  let c := s.pkg.pci.fnClear fn
  let c1 := if fn = .pf0 then { c with held := [] } else c
  let others := c1.d3hot.filter (· ≠ fn)
  let c2 := if bme then { c1 with d3hot := others ++ [fn] } else { c1.setBme fn false with d3hot := others }
  ({ s with pkg := { s.pkg with pci := c2 } }).bothOn fun p d => d.fnReset p fn

/-- FUNCTION_LEVEL_RESET: the function's command register returns to 0 too. -/
def execFunctionLevelReset (fn : Fn) (s : State) : Host.Outcome State Fault Refusal := .next (s.fnReset fn false)

def execD3hotEntry (fn : Fn) (s : State) : Host.Outcome State Fault Refusal := .next (s.fnReset fn true)

/-- PERST_N low: the link is down, configuration space returns to its reset values, both functions' rings are disabled. -/
def State.perst (s : State) : State := (((s.fnReset .pf0 false).fnReset .pf1 false)).setLink false 0 0

def execPerst (s : State) : Host.Outcome State Fault Refusal := .next s.perst

/-- TRST_N: the TAP controller alone is reset; its instruction is IDCODE (log entry 65). -/
def execTrst (s : State) : Host.Outcome State Fault Refusal := .next { s with pkg := { s.pkg with tap := .idcode } }

end Sys2Proof.Machine
end

