-- ==== Sys2Proof/Machine/Inject.lean ====
section
/-! DEFINITION. Factory injections (R494 to R496): INJ_ARM, INJ_DISARM, INJECTION_END, and what an injection does when it acts. -/

namespace Sys2Proof.Machine

/-- The injection registers exist: TEST (R494). -/
def Pkg.injOpen (p : Pkg) : Bool := p.fuses.lifecycle == 0

def Hold.injKind (h : Hold) : Nat := h.get F.HLD_INJ_CFG_KIND

def Hold.injLoc (h : Hold) : Nat := h.get F.HLD_INJ_LOC_LOC

/-- The kinds that take a side as TARGET. -/
def injSided (k : Nat) : Bool := k != 2 && k != 7 && k != 10

/-- The kinds with a duration. -/
def injTimed (k : Nat) : Bool := k == 3 || k == 4 || k == 6 || k == 8 || k == 9

/-- A kind of R495 with a TARGET that it takes, and a DUR of at least 1 where it has a duration. -/
def Hold.injValid (h : Hold) : Bool :=
  let k := h.injKind
  let g := h.get F.HLD_INJ_CFG_TARGET
  decide (k ≤ 10) && (!injTimed k || h.get F.HLD_INJ_CFG_DUR != 0) && (if k = 10 then g == 2 else !injSided k || decide (g < 2))

/-- A write to the injection registers is refused (R494, R495). -/
def State.injViol (s : State) : State := s.holdFault 0x400 F.HLD_TWN_STATUS_WINDOW_VIOL

/-- ARM. -/
def State.injArm (s : State) : State :=
  let h := s.pkg.hold
  if !s.pkg.injOpen || h.get F.HLD_INJ_STATUS_STATE ≠ 0 || !h.injValid then s.injViol
  else s.setHold (h.set F.HLD_INJ_STATUS_STATE 1)

def execInjArm (s : State) : Host.Outcome State Fault Refusal := .next (s.asWrite true 0x3F03010 1 s.injArm)

/-- DISARM: an armed injection returns to IDLE; it has no effect on one that acts. -/
def State.injDisarm (s : State) : State :=
  if !s.pkg.injOpen then s.injViol
  else if s.pkg.hold.get F.HLD_INJ_STATUS_STATE = 1 then s.setHold (s.pkg.hold.set F.HLD_INJ_STATUS_STATE 0)
  else s

def execInjDisarm (s : State) : Host.Outcome State Fault Refusal := .next (s.asWrite true 0x3F03010 2 s.injDisarm)

/-- An injection is over: IDLE, counted, and DONE posts with KIND. -/
def State.injDone (s : State) : State :=
  let h := s.pkg.hold
  let k := h.injKind
  let h1 := (h.set F.HLD_INJ_STATUS_STATE 0).inc F.HLD_INJ_COUNT_COUNT 1
  let h2 := if k = 8 then { h1 with stopped := h1.stopped.filter (· ≠ h.injSide) } else h1
  (s.setHold h2).holdFaultD 0x421 F.HLD_INJ_STATUS_DONE k

/-- A flag of EVT_LOCAL on one side (R480): its posting is routed by the active side alone (R479). -/
def State.localFault (s : State) (x : SideId) (f : Fld) : State :=
  let d := s.side x
  if s.pkg.hold.active = x then (s.setSide x (d.fault s.pkg 0x2C0 f)).deliver
  else
    let d1 := d.set f 1
    s.setSide x (d1.histPush ⟨0x2C0, f.lo, d1.word f.off, 0⟩ (d.dev s.pkg))

/-- The reaction of a kind that ends at once, or the start of one that lasts (R495). -/
def State.injReact (s : State) : State :=
  let h := s.pkg.hold
  let x := h.injSide
  match h.injKind with
  | 0 => (s.setSide x ((s.side x).inc F.EVT_LOCAL_SRAM_COUNT 1)).localFault x F.EVT_LOCAL_SRAM_CORR
  | 1 => s.resign x
  | 2 =>
    let mark (d : Side) : Side :=
      if h.injLoc * 8 < s.pkg.dramUse then { d with eccBad := h.injLoc :: d.eccBad.filter (· ≠ h.injLoc) } else d
    { s with sideA := mark s.sideA, sideB := mark s.sideB }
  | 5 =>
    let d := s.side x
    s.setSide x { d with twn := { d.twn with sig := d.twn.sig.map fun e => (e.1, 2 ^ 32 - 1 - e.2 % 2 ^ 32) } }
  | 7 =>
    if h.injLoc < s.pkg.beams then
      s.setHold (h.setPort h.injLoc { h.port h.injLoc with badCrc := some (h.get F.HLD_INJ_CFG_ARG) })
    else s
  | 8 => s.setHold { h with stopped := x :: h.stopped.filter (· ≠ x) }
  | 10 => (s.setFlt { h.flt with lost := true }).enterSafe
  | _ => s

/-- An armed injection acts at a control tick edge (R495). -/
def State.injEdge (s : State) (edge : Nat) : State :=
  let h := s.pkg.hold
  let due := !h.flag F.HLD_INJ_CFG_WHEN || reached edge (h.get F.HLD_INJ_AT_LO_TIME + 2 ^ 32 * h.get F.HLD_INJ_AT_HI_TIME)
  if h.get F.HLD_INJ_STATUS_STATE ≠ 1 || !due then s
  else
    let k := h.injKind
    let s1 := s.setHold { h.set F.HLD_INJ_STATUS_STATE 2 with injAt := s.pkg.now }
    let s2 := if injSided k && h.alive h.injSide then s1.localFault h.injSide F.EVT_LOCAL_INJECTED else s1
    let s3 := s2.injReact
    if injTimed k then s3 else s3.injDone

/-- INJECTION_END: DUR µs have passed. -/
def State.injEnd (s : State) : State :=
  let h := s.pkg.hold
  if h.get F.HLD_INJ_STATUS_STATE = 2 && reached s.pkg.now (h.injAt + 1000 * h.get F.HLD_INJ_CFG_DUR) then s.injDone else s

def execInjectionEnd (t : Nat) (s : State) : Host.Outcome State Fault Refusal := .next (s.advance t).injEnd

end Sys2Proof.Machine
end

