-- ==== Sys2Proof/Machine/Ticks.lean ====
section
/-! DEFINITION. CONTROL_TICK_EDGE and FINE_TICK_BOUNDARY (R41 to R46): all work bound to the ticks, in one order; TICK_OVERRUN. -/

namespace Sys2Proof.Machine

/-! Outputs before the work of an edge or a boundary (R46). -/

def Side.keepFine (p : Pkg) (d : Side) : Side :=
  { d with prev := { d.prev with items := d.twn.items,
                                 upos := (List.range p.axes).map fun n => (n, d.get (F.MOT_UPOS_U n)) } }

/-- What the law engine has put out by the edge, all of which has reached the output hold stage. -/
def Side.keepLaw (d0 : Side) : Side :=
  let d := d0.lawFlush
  { d with prev := { d.prev with duty := d.law.duty, ssr := d.law.ssr, iref := d.law.iref, lawItems := d.twn.items } }

/-- The boundary's work of the engines paced by fine ticks; t is its device time. Boundaries are numbered from power-on. -/
def Side.boundaryVec (p : Pkg) (t : Nat) (d : Side) : Side :=
  d.grouped 5 (fun p d => d.vectorFine p d.foc.n t) p

/-! The control tick edge. -/

/-- The planner's part before the timebase's: metering and ledger of the tick that ended at the edge (R185, R186). -/
def Side.ledgerTick (p : Pkg) (edge : Nat) (d : Side) : Side :=
  let d1 := d.ssrMeter edge
  let d2 := d1.ledgerEdge p (tdiff edge d1.pln.lastEdge).toNat d1.pwmFrac d1.sdMean
  { d2 with foc := { d2.foc with prod := [], prodN := 0 } }

/-- Causes posted before the edge take effect; the first n of those that wait (R181). -/
def Side.spoilsOf (p : Pkg) (n : Nat) (d : Side) : Side :=
  let new := d.pln.causes.drop n
  let d1 := ({ d with pln := { d.pln with causes := d.pln.causes.take n } }).spoils p
  new.foldl (fun d c => d.spoilCause p c.1 c.2) d1

/-- The timebase at the edge, and what a step of device time does beside it (R33, R34): the 1 ms interval that a step cuts ends at the
next multiple of 1 ms of the new device time (R189; log entry 152). -/
def Side.timeTick (p : Pkg) (d : Side) : Side :=
  let edge := d.tim.nextEdge
  let jump := d.jumpDue
  let j := toSigned 64 (d.get64 F.TIM_JUMP_PEND_LO_VAL F.TIM_JUMP_PEND_HI_VAL)
  let d1 := d.timEdge p
  if jump then
    let d2 := d1.rasJump j
    { d2.vecJump j with pln := { d2.pln with lastEdge := d2.dev p, ingestAt := nextMs (d2.dev p) } }
  else { d1 with pln := { d1.pln with lastEdge := edge } }

/-- Motion, planner policy and vector pipelines at the edge. -/
def Side.paceTick (p : Pkg) (d : Side) : Side :=
  let d1 := d.motFine p d.pln.lastEdge
  let was := d1.rerolling
  let d2 := ((d1.policyEdge).motPolicy p was).motStarts p
  d2.grouped 5 (fun p d => d.vecEdge p (d.flag F.THM_STATUS_THROTTLE)) p

/-- Postings in the order they came, but for those of the very instant of the edge, which wait for the next (R175, R328). -/
def Side.seenAt (p : Pkg) (d : Side) : Nat := (d.posted.takeWhile fun e => e.2 != p.now).length

/-- A side's work at a control tick edge before roles and starts. -/
def Side.edgeWork (p : Pkg) (d0 : Side) : Side :=
  if !d0.edgeDue p then { d0 with prev := { d0.prev with inEdge := false } }
  else
    let d := (d0.keepFine p).keepLaw
    let edge := d.tim.nextEdge
    let n := d.pln.causes.length
    let d1 := { d with prev := { d.prev with inEdge := true, ticked := d.flag F.TIM_STATUS_TICK_PENDING } }
    let d2 := ((d1.ledgerTick p edge).timeTick p).spoilsOf p n
    let d3 := (d2.grouped 7 (fun p d => d.heatEdge p) p).paceTick p
    (((d3.seeEvents (d.seenAt p)).grouped 6 (fun p d => d.logFull p) p).focFine p).secEdge p

/-- A side's work at the edge behind the starts: the boundary of the edge, then the law engine, whose inputs are those published for
it (R261, R315). -/
def Side.edgeRest (p : Pkg) (d : Side) : Side :=
  if !d.prev.inEdge then d
  else
    let seen := d.seenAt p
    let d1 := (d.boundaryVec p d.pln.lastEdge).lawEdge p d.prev.ticked seen
    { d1 with posted := d1.posted.drop seen, prev := { d1.prev with inEdge := false } }

/-- The side whose ticks lead the package: the active one, or the other while the active one does not run. -/
def State.lead (s : State) : Side :=
  if s.pkg.hold.running s.pkg.hold.active then s.actSide else s.side (otherSide s.pkg.hold.active)

/-- Some record became STARTED between two states of a side. -/
def Side.hasStarted (before after : Side) : Bool :=
  (List.range 4).any fun r => after.recState r == 3 && before.recState r != 3

/-- The starts of the edge, and UNBLANK for them (R169, R175, R213). -/
def State.startsEdge (s : State) (edge : Nat) (stepped : Bool) : State :=
  let s1 := s.both fun p d => if d.prev.inEdge then d.startEdge p edge stepped else d
  if s.lead.hasStarted s1.lead then s1.unblank else s1

/-- The edge: every side's work, signatures, injections, copy and role swap, then the starts, the boundary of the edge and the law engine,
then the frames of the edge. -/
def State.tickEdge (s : State) : State :=
  let d := s.lead
  if !d.edgeDue s.pkg then s
  else
    let edge := d.tim.nextEdge
    let stepped := d.jumpDue
    let s1 := (s.both Side.edgeWork).signTick
    let s2 := (s1.injEdge edge).copyEdge
    let s3 := s2.swapEdge edge s2.lead.anyRunning (s2.lead.startDur edge stepped)
    let s4 := (s3.startsEdge edge stepped).both Side.edgeRest
    ((s4.syncFrames (if stepped then s4.dev else edge)).waveEdge).fltRefresh

def execControlTickEdge (t : Nat) (s : State) : Host.Outcome State Fault Refusal := .next (s.advance t).tickEdge

/-! The fine-tick boundary. -/

/-- A side's work at a fine-tick boundary inside a tick. -/
def Side.fineWork (p : Pkg) (d : Side) : Side :=
  if !d.fineDue p then d
  else
    let t := d.tim.nextFine
    ((((d.keepFine p).timFine).motFine p t).focFine p).boundaryVec p t

def execFineTickBoundary (t : Nat) (s : State) : Host.Outcome State Fault Refusal :=
  .next (((s.advance t).both Side.fineWork).fltRefresh)

/-! TICK_OVERRUN (R46). -/

/-- The source of an engine whose work is late. -/
def overrunSrc : OverrunWork → Nat
  | .law => 0x160
  | .vector => 0x120
  | .meltPool => 0x150
  | .profile => 0x1E0
  | .heatMap => 0x150
  | .planner => 0x0F0
  | .timebase => 0x260

/-- SET items that are not what they were go back to that. -/
def Side.itemsBack (mine : Nat → Bool) (old : Tab Nat) (d : Side) : Side :=
  d.twn.items.foldl (fun d e =>
    let n := e.1 / 65536
    let k := e.1 % 65536
    if mine k && tget 0 old e.1 != e.2 then d.send (.setpt n k (tget 0 old e.1)) else d) d

/-- The law engine's items: scanner positions and laser parameters (R317). -/
def lawItem (k : Nat) : Bool := k == 0x100 || k == 0x101 || 0x200 ≤ k

/-- The outputs of an engine's last work go back to what they were. -/
def Side.outputsBack (p : Pkg) (work : OverrunWork) (d : Side) : Side :=
  match work with
  | .law =>
    ({ d with law := { d.law with duty := d.prev.duty, ssr := d.prev.ssr, iref := d.prev.iref, due := [] } }).itemsBack lawItem d.prev.lawItems
  | .vector => d.itemsBack (fun k => !lawItem k) d.prev.items
  | .meltPool => d.itemsBack (fun k => !lawItem k && k != 0x102) d.prev.items
  | .profile => (List.range p.axes).foldl (fun d n => d.set (F.MOT_UPOS_U n) (tget 0 d.prev.upos n)) d
  | .heatMap => d
  | .planner => d
  | .timebase => d

/-- Work bound to the tick is late on a side: the outputs keep their values, the engine's overrun flag is set and an entry of an open
code is made (log entry 66), a STARTED plate takes OVERRUN. -/
def Side.overrun (p : Pkg) (work : OverrunWork) (d : Side) : Side :=
  let e : Ev := ⟨overrunSrc work, Config.free p.free 0x80000 % 32, Config.free p.free 0x80001 % 2 ^ 32, 0⟩
  let flags := if d.prev.overruns.contains work then d.prev.overruns else d.prev.overruns ++ [work]
  let d0 := { d.outputsBack p work with prev := { d.prev with overruns := flags } }
  let d1 := (d0.histPush e (d.dev p)).routePost p e (d.dev p)
  match d1.startedRec with
  | some r => d1.spoilCause p r 7
  | none => d1

def State.tickOverrun (s : State) (x : SideId) (work : OverrunWork) : State :=
  if s.pkg.hold.running x then
    let s1 := s.setSide x ((s.side x).overrun s.pkg work)
    State.deliver { s1 with pkg := { s1.pkg with free := s1.pkg.free + 1 } }
  else s

def execTickOverrun (side : SideId) (work : OverrunWork) (s : State) : Host.Outcome State Fault Refusal :=
  .next (s.tickOverrun side work)

end Sys2Proof.Machine
end

