-- ==== Sys2Proof/Machine/Access.lean ====
section
/-! DEFINITION. Accesses from outside: register writes (R12, R57 to R60), what a register reads as, PEEK (R408), RECIPE_LOAD
(R441 to R444), the debug port (R446), EVENT_ARM (R485). -/

namespace Sys2Proof.Machine

/-! What a write meets (R12, R87, R108, R356, R471). -/

/-- The region's engines wait for their restoration (R471). -/
def Side.staleAt (d : Side) (off : Nat) : Bool :=
  match off / 0x100000 with
  | 0x1 => d.stale 0
  | 0x2 => d.stale 1 || d.stale 2
  | 0x5 => d.stale 4
  | 0x6 => d.stale 5
  | 0x7 => d.stale 6
  | 0x8 => d.stale 7
  | _ => false

/-- A register whose value stays while its ring or shadow set is in use (R87, R108). -/
def Side.fixedNow (d : Side) (base : Nat) (ix : List Nat) : Bool :=
  let i := ix.getD 0 0
  let k := ix.getD 1 0
  if base = 0x10000 || base = 0x10004 then d.sqState i != 0
  else if base = 0x20000 || base = 0x20004 then d.get (rState (.cq i)) != 0
  else if base = 0x30000 || base = 0x30004 then d.get (rState (.eq i)) != 0
  else if 0x100040 ≤ base && base ≤ 0x100050 then d.shBusy i k || d.dmaMode i == 1
  else false

/-- The law set in use or accepted writes PWM output o. -/
def Side.lawWrites (d : Side) (o : Nat) : Bool :=
  let outs (x : Option LSet) : List LStage := match x with
    | some l => l.outputs
    | none => []
  (outs d.law.set ++ outs d.law.next).any fun s => s.cls == 3 && s.idx == o

/-- The outputs that a write of a unit's or bus's CFG would assign (R356). -/
def Side.wouldAssign (d : Side) (base : Nat) (ix : List Nat) (new : Nat) : List Nat :=
  let i := ix.getD 0 0
  if base = 0xB00000 && d.get (F.FOC_CFG_MODE i) == 0 && bits new 0 2 != 0 then (List.range 4).map (4 * i + ·)
  else if base = 0xB10000 && !d.flag (F.FOC_STP_CFG_USE i) && bit new 0 then (List.range 5).map (64 + 5 * i + ·)
  else if base = 0xB20000 && !d.flag (F.FOC_BUS_CFG_CHOP_EN i) && bit new 12 then [104 + i]
  else []

def Side.lawTakes (d : Side) (base : Nat) (ix : List Nat) (new : Nat) : Bool := (d.wouldAssign base ix new).any d.lawWrites

/-- A write of v to a register meets windows, locks and ranges. -/
def Side.regOk (p : Pkg) (d : Side) (r : RegRow) (ix : List Nat) (off v : Nat) : Bool :=
  let cur := d.word off
  let new := rowNew r cur v
  !d.staleAt off && r.flds.all (fldOk (fun lo w => d.winOpen off w && d.jarOpen off lo) cur v) &&
  (new == cur || !d.fixedNow r.base ix) && wordOk p r.base ix new && crossOk p (rfPutWord d.rf off new) d.tim.fineNs r.base ix &&
    !d.lawTakes r.base ix new

/-- What follows a write that is accepted; before is the side before it. -/
def Side.written (p : Pkg) (base : Nat) (ix : List Nat) (v : Nat) (before d : Side) : Side :=
  let i := ix.getD 0 0
  if base = 0xA00000 then
    Side.focRebind p before d
  else if base = 0xC00100 then d.ssrCfg p i
  else if base = F.MPL_HM_DECAY_DK.off then { d with mpl := (before.heatUpTo (before.rowsAt (before.dev p))).mpl }
  else if base = F.PTP_LIMITS_ALIGN_NS.off then d.alignRefresh p
  else if base = 0xF01000 then d.ptpCfg p i (before.word (F.PTP_P_CFG_EN i).off)
  else if base = 0xB30100 then d.carrierRange p i
  else if base = 0xB00000 then (if before.unitUsed i then d else d.unitLow i)
  else if base = 0xB10000 then (if before.unitUsed (16 + i) then d else d.unitLow (16 + i))
  else if base = 0xB20000 && d.flag (F.FOC_BUS_CFG_CHOP_EN i) && !before.flag (F.FOC_BUS_CFG_CHOP_EN i) then d.outLow (104 + i)
  else if base = 0x500014 then d.rasNomWritten i
  else if base = 0x1210000 && bit v 5 then d.set (F.EVT_ROUTE_ARMED i) 1
  else d

/-- The unit or bus records reason 9 where the law set holds one of its outputs (R356); a bus has no register that shows it (log entry
166). -/
def Side.lawReason (base : Nat) (ix : List Nat) (d : Side) : Side :=
  if base = 0xB00000 then d.set (uREASON (ix.getD 0 0)) 9
  else if base = 0xB10000 then d.set (uREASON (16 + ix.getD 0 0)) 9
  else if base = 0xB20000 then d.setBusU (ix.getD 0 0) { d.busU (ix.getD 0 0) with reason := 9 }
  else d

/-- A write to a register of a side that has no rule of its own. -/
def Side.plainWrite (p : Pkg) (r : RegRow) (ix : List Nat) (off v : Nat) (d : Side) : Side :=
  let new := rowNew r (d.word off) v
  if d.regOk p r ix off v then Side.written p r.base ix v d (if new = d.word off then d else d.setWord off new)
  else (if d.lawTakes r.base ix new then d.lawReason r.base ix else d).refuse p off

/-- A write to a register of a side. -/
def Side.regWrite (p : Pkg) (r : RegRow) (ix : List Nat) (off v : Nat) (d : Side) : Side :=
  let i := ix.getD 0 0
  if d.staleAt off then d.refuse p off
  else if r.base = 0x10008 then d.sqCfgWrite p i v
  else if r.base = 0x20008 then d.ringCfgWrite p (.cq i) v
  else if r.base = 0x30008 then d.ringCfgWrite p (.eq i) v
  else if r.base = 0x100054 then d.timed (fun p d => d.shCtrlWrite p i (ix.getD 1 0) v) p
  else if r.base = 0xE00090 then d.tickWrite p v
  else if r.base = 0x301000 then d.jarWrite p i v
  else if r.base = 0x880038 then d.telRdWrite p false v
  else if r.base = 0x88003C then d.telRdWrite p true v
  else d.plainWrite p r ix off v

/-! Command registers: each bit is its row's command. -/

/-- A step's next state, or the state it found. -/
def after (f : State → Host.Outcome State Fault Refusal) (s : State) : State :=
  match f s with
  | .next t => t
  | _ => s

/-- A command of BLKn_CMD from a register write. -/
def State.blkBit (s : State) (t : State) : State := if s.pkg.hold.deep then s else t

/-- A read of the standby's register and its posting (R408) is below, so PEEK is an argument: the commands of a command register, by
bit. -/
def cmdBits (peek : State → State) (base i : Nat) : List (Nat × (State → State)) :=
  let sides (f : Pkg → Side → Side) (s : State) : State := s.both f
  let unit (u : Nat) : List (Nat × (State → State)) :=
    [(0, sides fun p d => d.focEnable p u), (1, sides fun _ d => d.unitCmd u 1), (2, sides fun p d => d.focClear p u)]
  if base = 0x1000C then [(0, fun s => s.bothOn fun _ d => d.sqResume i)]
  else if base = 0x400008 then
    [(0, fun s => s.blkBit (s.retrain i)), (1, fun s => s.blkBit (s.echoCmd i)), (2, fun s => s.blkBit (s.blankCmd i)),
     (3, fun s => s.blkBit (s.ctrlGo i))]
  else if base = 0x500008 then [(0, sides fun p d => d.facetZero p i), (1, sides fun p d => d.relock p i)]
  else if base = 0x880014 then [(0, sides Side.hmClear)]
  else if base = 0x900004 then [(0, sides Side.lawHaltCmd)]
  else if base = 0x901008 then [(0, sides fun p d => d.traceArm p i), (1, sides fun _ d => d.traceStop i)]
  else if base = 0x902014 then [(0, sides fun p d => d.injStart p i), (1, sides fun _ d => d.injStop i)]
  else if base = 0xA00008 then [(0, sides fun p d => d.motStart p i), (1, sides fun p d => d.motEnd p i)]
  else if base = 0xA30004 then [(0, sides Side.motGo)]
  else if base = 0xB00008 then unit i
  else if base = 0xB10008 then unit (16 + i)
  else if base = 0xB20008 then [(0, sides fun p d => d.chopClr p i)]
  else if base = 0xD00008 then
    [(0, sides Side.fixedArm), (1, sides fun _ d => d.set F.TWN_STATUS_FIXED_ARMED 0), (2, peek)]
  else if base = 0xE00004 then
    [(0, sides Side.snap), (1, sides Side.adjGo), (2, sides Side.rateGo), (3, sides Side.jumpAccept), (4, sides Side.jumpDiscard)]
  else if base = 0xE000A8 then [(0, sides fun p d => d.alarmArm p i), (1, sides fun _ d => d.alarmDisarm i)]
  else if base = 0x1100034 then [(0, sides Side.nap), (1, State.deep), (2, State.wake)]
  else if base = 0x1300004 then
    [(0, fun s => s.onBooting Side.proceed), (1, fun s => if s.pkg.hold.cfgAnswers then s.warm else s)]
  else if base = 0x3F00008 then [(0, fun s => s.revive .a), (1, fun s => s.revive .b)]
  else if base = 0x3F02008 then [(0, fun s => s.fltStart [1]), (1, State.fltRelease), (2, State.kick)]
  else if base = 0x3F03010 then [(0, State.injArm), (1, State.injDisarm)]
  else []

/-- Commands done in the order of their bits. -/
def runBits (l : List (Nat × (State → State))) (s : State) : State := l.foldl (fun s e => e.2 s) s

/-! What a register reads as (R4, R449, R450, R471, R481). -/

/-- An offset of a block's history queue (R481). -/
def histOff (off : Nat) : Bool :=
  let o := off % 0x100000
  (off / 0x100000 < 0x14 || off / 0x100000 == 0x3F) && (o == 0xFF000 || (0xFF100 ≤ o && o < 0xFF200))

/-- A word of a history queue. -/
def Hist.word (h : Hist) (o : Nat) : Nat :=
  if o = 0xFF000 then h.count
  else
    let e := tget {} h.slots ((o - 0xFF100) / 0x20)
    match o % 0x20 with
    | 0x00 => e.head
    | 0x04 => e.detail
    | 0x08 => e.stamp % 2 ^ 32
    | 0x0C => e.stamp / 2 ^ 32
    | 0x10 => e.detail2 % 2 ^ 32
    | 0x14 => e.detail2 / 2 ^ 32
    | _ => 0

/-- A register of class JOB (R449): MPLc_LIVE. -/
def jobReg (base : Nat) : Bool := base == 0x800028

/-- The word of a hold-die register: the injection registers read 0 outside TEST (R494). -/
def State.holdView (s : State) (off : Nat) : Nat :=
  let h := s.pkg.hold
  if histOff off then h.hist.word (off % 0x100000)
  else match regFind off with
    | none => 0
    | some (r, ix) =>
      if regAbsent s.pkg.fuses.is7708 r ix || (0x3F03000 ≤ off && !s.pkg.injOpen) then 0 else rfWord h.rf off

/-- THM_PWR_STATE shows IDLE while nothing is active (R469). -/
def Side.pwrView (d : Side) : Nat :=
  let w := d.word F.THM_PWR_STATE_STATE.off
  if d.get F.THM_PWR_STATE_STATE = 0 && d.plateWindow && !d.jobBusy then putBits w 0 3 1 else w

/-- The word that a side's register reads as, where its class may be read. -/
def Side.view (p : Pkg) (d : Side) (off : Nat) : Nat :=
  if histOff off then (tget {} d.hist (off / 0x100000)).word (off % 0x100000)
  else match regFind off with
    | none => 0
    | some (r, ix) =>
      let i := ix.getD 0 0
      if regAbsent p.fuses.is7708 r ix || d.staleAt off || ((r.base = 0x1210000 || r.base = 0x1210004) && !srcAssigned i) then 0
      else if off / 0x100000 = 1 then match (d.ch (off / 0x1000 % 0x100)).winNow p.now with
        | some w => rfWord w.2.2 off
        | none => d.word off
      else if r.base = 0x40000C then ((p.hold.port i).intake fun f => reached (d.dev p + 32000) (emissionOf d i f.t0)).fifoFill
      else if r.base = 0x400050 then (p.hold.port i).txFrames
      else if r.base = 0x502010 && d.flag (F.RAS_CFG_FACET_SRC i) then 0
      else if r.base = 0x50002C then d.rasPool i (d.rasMap i)
      else if r.base = 0x90100C then putBits (d.word off) 2 1 (b2n (d.traceConf i))
      else if r.base = 0xD00018 then d.swapDue % 2 ^ 32
      else if r.base = 0xD0001C then d.swapDue / 2 ^ 32
      else if r.base = 0x1100030 then d.pwrView
      else if r.base = 0x1102000 && !p.hold.counted i then 0
      else d.word off

/-- A register of class JOB that GUARD keeps from every reader (R450). -/
def State.guarded (s : State) (off : Nat) : Bool :=
  s.actSide.flag F.SEC_STATUS_GUARD &&
  match regFind off with
  | some (r, _) => jobReg r.base
  | none => false

/-- What a read of a side's register through the set-up window returns. -/
def State.regView (s : State) (x : SideId) (off : Nat) : Nat :=
  if off / 0x100000 = 0x3F then s.holdView off else if s.guarded off then 0 else (s.side x).view s.pkg off

/-! UNMAPPED_ACCESS, BAD_ACCESS (R58, R60). -/

/-- A flag of HIF_STATUS is set on both sides. -/
def State.hifFlag (s : State) (f : Fld) : State := s.bothOn fun p d => d.fault p 0 f

def State.unmapped (s : State) : State := if s.takes 0x10000 then s.hifFlag F.HIF_STATUS_UNMAPPED else s

/-- No register and no history queue lies at an offset of BAR0. -/
def bar0Free (off : Nat) : Bool := (regFind off).isNone && !histOff off

/-- Bytes of BAR0 of a function (R57). -/
def bar0Size (fn : Fn) : Nat := ((barOf fn 0).map (·.size)).getD 0

/-- An offset of a BAR holds nothing (R57, R60, R74): the rest of BAR2's doorbell pages, and of BAR4 beside the MSI-X table
and the pending bits. -/
def barFree (fn : Fn) (bar addr : Nat) : Bool :=
  match bar with
  | 0 => decide (addr < bar0Size fn) && bar0Free addr
  | 2 => decide (addr < 0x100000) && (addr % 4096 != 0 || decide (130 ≤ addr / 4096))
  | 4 => decide (addr < 0x4000) && !(decide (addr < 0x800) || (decide (0x2000 ≤ addr) && decide (addr < 0x2010)))
  | _ => false

def execUnmappedAccess (fn : Fn) (bar addr : Nat) (s : State) : Host.Outcome State Fault Refusal :=
  if addr % 4 = 0 && barFree fn bar addr then .next s.unmapped else .next s

def State.badAccess (s : State) : State := if s.takes 0x10000 then s.hifFlag F.HIF_STATUS_BAD_ACCESS else s

/-- BAD_ACCESS, through either function. -/
def State.badAccessBy (s : State) : Fn → State
  | .pf0 => s.badAccess
  | .pf1 => s.badAccess

def execBadAccess (fn : Fn) (s : State) : Host.Outcome State Fault Refusal := .next (s.badAccessBy fn)

/-! REGISTER_WRITE. -/

/-- A register of PF1's rings, or HIF_STATUS (R58). -/
def pf1Reg (r : RegRow) (ix : List Nat) (off : Nat) : Bool :=
  off == 0 ||
  (if r.base < 0x30000 then decide (0x10000 ≤ r.base) && decide (16 ≤ ix.getD 0 0)
   else decide (r.base < 0x40000) && ix.getD 0 0 == 1)

/-- The side that answers a read: the active one, or a side that boots while none is active (R19, R392, R507). -/
def Hold.answers (h : Hold) : SideId :=
  if h.granted || h.health h.active == 1 || h.health h.standby != 1 then h.active else h.standby

/-- What a 4-byte read of a BAR returns to the host: the active side completes it (R19). Through PF1 only its rings and HIF_STATUS
answer (R58); before rings ready and in SAFE the offsets of R507 and R392. A doorbell page reads its last accepted value (R75), through the function of its ring (log entry 137). -/
def State.hostRead (s : State) (fn : Fn) (bar off : Nat) : Nat :=
  if bar = 0 then
    if !s.takes off then 0
    else match fn with
      | .pf0 => s.regView s.pkg.hold.answers off
      | .pf1 => match regFind off with
        | some (r, ix) => if pf1Reg r ix off then s.regView s.pkg.hold.answers off else 0
        | none => 0
  else if bar = 2 then
    let n := off / 4096
    let h := (s.side s.pkg.hold.answers).hif
    if off % 4096 ≠ 0 || !s.takes 0x10000 then 0
    else if n < 64 then (if ringFnNum n = fn then tget 0 h.dbSq n else 0)
    else if n < 128 then (if ringFnNum (n - 64) = fn then tget 0 h.dbCq (n - 64) else 0)
    else if n < 130 && fnOf (n - 128) = fn then tget 0 h.dbCq (n - 64) else 0
  else if bar = 4 then
    if off < 0x800 then s.pkg.pci.msixWord fn (off / 16) (off / 4 % 4)
    else if 0x2000 ≤ off && off < 0x2010 then
      ((List.range 32).map fun k => 2 ^ k * b2n (s.pkg.pci.isPend fn (8 * (off - 0x2000) + k))).sum
    else 0
  else 0

/-- PEEK: the standby's register is read and the result posted (R408). -/
def State.peek (s : State) : State :=
  let off := 4 * s.actSide.get F.TWN_PEEK_ADDR_WORD
  let y := s.pkg.hold.standby
  let bad := decide (s.pkg.hold.health y < 2) || decide (0x13FFFFC < off)
  let v := if bad then 0 else s.regView y off
  let s1 := if !bad && s.guarded off then s.both fun p d => Side.secDenied p d else s
  s1.both fun _ d =>
    (((d.set F.TWN_PEEK_STATUS_ERR (b2n bad)).set F.TWN_PEEK_DATA_DATA v).inc F.TWN_PEEK_STATUS_SEQ 1).set F.TWN_PEEK_STATUS_VALID 1

/-- The hold die refuses a command bit (R12): its flag, cleared before, is set after it. -/
def State.holdRefuses (s : State) (f : Fld) (act : State → State) : Bool := (act (s.setHold (s.pkg.hold.set f 0))).pkg.hold.flag f

/-- Command bits written together: where one is refused the whole write is (R12). -/
def State.holdBits (s : State) (off : Nat) (l : List (Nat × (State → State))) : State :=
  let f := holdViolFlag off
  if 1 < l.length && l.any (fun e => s.holdRefuses f.2 e.2) then s.holdFault f.1 f.2 else runBits l s

/-- A write to a register of the hold die. -/
def State.holdWrite (s : State) (r : RegRow) (ix : List Nat) (off v : Nat) : State :=
  let h := s.pkg.hold
  let cur := rfWord h.rf off
  let isOpen (_ : Nat) (w : Win) : Bool := match w with
    | .any => true
    | .idle => h.get F.HLD_INJ_STATUS_STATE == 0
    | .plate => s.actSide.plateWindow
    | .boot => false
  if !r.flds.all (fldOk isOpen cur v) || !wordOk s.pkg r.base ix (rowNew r cur v) || (0x3F03000 ≤ off && !s.pkg.injOpen) then
    s.holdFault (holdViolFlag off).1 (holdViolFlag off).2
  else
    let s1 := s.setHold { h with rf := rfPutWord h.rf off (rowNew r cur v) }
    let s2 := s1.holdBits off ((cmdBits State.peek r.base (ix.getD 0 0)).filter fun e => bit v e.1)
    if r.base = 0x3F02004 then s2.fltCfg else s2

/-- A side refuses a command bit (R12): the flag of its register, cleared before, is set after it. -/
def State.sideRefuses (s : State) (x : SideId) (f : Fld) (act : State → State) : Bool :=
  ((act (s.setSide x ((s.side x).set f 0))).side x).flag f

/-- Command bits written together: each side takes all of them, or, where it refuses one, none (R12, R20). What they do outside the
sides follows the active side. -/
def State.sideBits (s : State) (r : RegRow) (ix : List Nat) (off v : Nat) (l : List (Nat × (State → State))) : State :=
  let bad (x : SideId) : Bool := !(s.side x).regOk s.pkg r ix off v ||
    (decide (1 < l.length) && l.any fun e => s.sideRefuses x (violFlag off).2 e.2)
  let act := s.pkg.hold.active
  let no := s.both fun p d => d.refuse p off
  let t := if bad act then no else runBits l s
  if bad act == bad (otherSide act) then t
  else t.setSide (otherSide act) ((if bad act then runBits l s else no).side (otherSide act))

/-- A write to a register of the sides: its commands, or each side's register, and what the hold die does of it. -/
def State.sideWrite (s : State) (r : RegRow) (ix : List Nat) (off v : Nat) : State :=
  let i := ix.getD 0 0
  let acts := cmdBits State.peek r.base i
  if !acts.isEmpty then s.sideBits r ix off v (acts.filter fun e => bit v e.1)
  else if off / 0x100000 = 0 then s.bothOn fun p d => d.regWrite p r ix off v
  else
    let s1 := s.both fun p d => d.regWrite p r ix off v
    if r.base = 0x400000 then s1.portCfg i (s.actSide.word off) else s1

def execPeek (s : State) : Host.Outcome State Fault Refusal := .next (s.asWrite true 0xD00008 4 s.peek)

/-- A held boot takes writes to fields with Window BOOT (R507). -/
def Side.heldWrite (p : Pkg) (r : RegRow) (ix : List Nat) (off v : Nat) (d : Side) : Side :=
  let cur := d.word off
  let mine := r.flds.filter fun f => f.win == .boot
  let new := mine.foldl (fldNew v) cur
  if d.get F.CFG_STATUS_PHASE ≠ 1 then d
  else if mine.all (fldOk (fun _ _ => true) cur v) && wordOk p r.base ix new then d.setWord off new
  else d.refuse p off

/-- A write of v to a register that exists. -/
def State.regPut (s : State) (pf0 : Bool) (r : RegRow) (ix : List Nat) (off v : Nat) : State :=
  if !s.takes off then (if s.pkg.hold.down then s else s.onBooting (Side.heldWrite s.pkg r ix off v))
  else if off / 0x100000 = 0x3F then s.asWrite pf0 off v (s.holdWrite r ix off v)
  else s.asWrite pf0 off v (s.sideWrite r ix off v)

/-- A write to BAR0: through: from PF1, from PF0, or, with pf0 false, from the debug port. -/
def State.bar0Write (s : State) (fn : Fn) (pf0 : Bool) (off v : Nat) : State :=
  if off % 4 ≠ 0 then s.badAccess
  else match regFind off with
    | none => if histOff off then s else s.unmapped
    | some (r, ix) =>
      if (fn = .pf1 && !pf1Reg r ix off) || regAbsent s.pkg.fuses.is7708 r ix ||
          ((r.base = 0x1210000 || r.base = 0x1210004) && !srcAssigned (ix.getD 0 0)) then s
      else s.regPut pf0 r ix off v

/-- A write to BAR2: a doorbell page (R74). -/
def State.bar2Write (s : State) (fn : Fn) (addr v : Nat) : State :=
  let n := addr / 4096
  if addr % 4 ≠ 0 then s.badAccess
  else if barFree fn 2 addr then s.unmapped
  else if n < 64 then after (execSqDoorbell fn n v) s
  else if n < 128 then after (execCqDoorbell fn (.cq (n - 64)) v) s
  else after (execCqDoorbell fn (.eq (n - 128)) v) s

/-- A write to BAR4: a word of the MSI-X table; clearing a vector's mask bit unmasks it (R57, R78). -/
def State.bar4Write (s : State) (fn : Fn) (addr v : Nat) : State :=
  if addr % 4 ≠ 0 then s.badAccess
  else if barFree fn 4 addr then s.unmapped
  else if 0x800 ≤ addr || !s.takes 0x10000 then s
  else
    let vec := addr / 16
    let k := addr / 4 % 4
    let s1 := { s with pkg := { s.pkg with pci := s.pkg.pci.setMsix fn vec k (if k = 0 then v / 4 * 4 else if k = 3 then v % 2 else v) } }
    if k = 3 && v % 2 = 0 then { s1 with pkg := s1.pkg.unmask fn vec } else s1

def State.regWriteCmd (s : State) (fn : Fn) (bar addr v : Nat) : State :=
  if bar = 0 then (if addr < bar0Size fn then s.bar0Write fn (fn == .pf0) addr v else s)
  else if bar = 2 then (if addr < 0x100000 then s.bar2Write fn addr v else s)
  else if bar = 4 then s.bar4Write fn addr v
  else s

/-- REGISTER_WRITE: a 4-byte write of v to a BAR of a function. -/
def execRegisterWrite (fn : Fn) (bar addr : Nat) (v : Word) (s : State) : Host.Outcome State Fault Refusal :=
  .next (s.regWriteCmd fn bar addr v.toNat)

/-- EVENT_ARM: EVT_ROUTEn.ARM is written 1. -/
def execEventArm (n : Nat) (s : State) : Host.Outcome State Fault Refusal :=
  if srcAssigned n then
    .next (s.asWrite true (F.EVT_ROUTE_ARM n).off (Nat.lor (s.actSide.word (F.EVT_ROUTE_ARM n).off) 0x20)
      (s.both fun _ d => d.set (F.EVT_ROUTE_ARMED n) 1))
  else .next s

/-! RECIPE_LOAD (R441 to R443, R453). -/

/-- Entry i of a recipe. -/
def recEntry (b : List Byte) (i : Nat) : RecEnt :=
  let w := leAt b (128 + 16 * i) 4
  ⟨w / 2 ^ 28, w % 2 ^ 26, leAt b (132 + 16 * i) 4, leAt b (136 + 16 * i) 4, leAt b (140 + 16 * i) 4⟩

/-- A mask of non-zero contiguous bits. -/
def maskOk (m : Nat) : Bool := m != 0 && m == (2 ^ maskOnes 32 (m / 2 ^ maskLo 32 m) - 1) * 2 ^ maskLo 32 m

/-- The word of an entry that is malformed (R442). -/
def entBad (b : List Byte) (i : Nat) : Option Nat :=
  let w := leAt b (128 + 16 * i) 4
  let e := recEntry b i
  let deny := e.kind == 3
  firstBad [(bits w 26 2 != 0 || decide (3 < e.kind) || (if deny then decide (256 ≤ e.off) else e.off % 4 != 0), 128 + 16 * i),
    (if deny then e.mask != 0 else !maskOk e.mask, 132 + 16 * i), (deny && e.a != 0, 136 + 16 * i),
    (2 ≤ e.kind && e.b != 0, 140 + 16 * i)]

/-- The first malformed field of a recipe. -/
def recipeBad (b : List Byte) : Option Nat :=
  let n := leAt b 6 2
  firstSome ([firstBad [(leAt b 0 4 != 0x52437D01, 0), (leAt b 4 2 != 1, 4), (n == 0 || decide (1024 < n), 6)],
    firstNonZero b 20 4, firstNonZero b 121 7] ++ (List.range n).map (entBad b))

/-- Bytes of a recipe of n entries. -/
def recipeLen (n : Nat) : Nat := 224 + 16 * n

/-- The first bad field of the descriptor. -/
def recipeCmdBad (b : List Byte) : Option Nat :=
  let len := dFld b 16 4
  firstSome [firstNonZero b 4 4, if dFld b 8 8 % 8 ≠ 0 then some 8 else none,
    if len < recipeLen 1 || recipeLen 1024 < len || (len - 224) % 16 ≠ 0 then some 16 else none, firstNonZero b 20 44]

/-- The word that a SET entry writes. -/
def State.setWordOf (s : State) (e : RecEnt) : Nat :=
  let cur := if e.off / 0x100000 = 0x3F then rfWord s.pkg.hold.rf e.off else s.actSide.word e.off
  putBits cur e.lo e.w e.a

/-- A SET entry's write. -/
def State.setEntry (s : State) (e : RecEnt) : State := s.bar0Write .pf0 false e.off (s.setWordOf e)

/-- A SET entry's write would be refused under R12: its register's flag, cleared before, is set after it. -/
def State.setRefused (s : State) (e : RecEnt) : Bool :=
  if e.off / 0x100000 = 0x3F then
    let f := (holdViolFlag e.off).2
    ((s.setHold (s.pkg.hold.set f 0)).setEntry e).pkg.hold.flag f
  else
    let f := (violFlag e.off).2
    (((s.both fun _ d => d.set f 0).setEntry e).actSide).flag f

/-- The SET entries of a recipe applied in order: refused, or the state after them. -/
def State.setAll (s : State) : List RecEnt → Option State
  | [] => some s
  | e :: t => if e.kind = 2 then (if s.setRefused e then none else (s.setEntry e).setAll t) else s.setAll t

/-- The value of an entry's register now. -/
def State.entWord (s : State) (e : RecEnt) : Nat :=
  if e.off / 0x100000 = 0x3F then rfWord s.pkg.hold.rf e.off else s.actSide.word e.off

/-- The first LIMIT entry whose field lies outside its bounds. -/
def State.limitOut (s : State) (l : List RecEnt) : Option Nat :=
  (List.range l.length).find? fun i =>
    match l[i]? with
    | some e => decide (e.kind < 2) && !e.holds (s.entWord e)
    | none => false

/-- The checks on a recipe that has been read, up to its signature. -/
def Side.recipeCheck (p : Pkg) (d : Side) (b : List Byte) (len : Nat) : Option Res :=
  let pub := (b.drop 24).take 97
  if len ≠ recipeLen (leAt b 6 2) then some (badField 16)
  else if !d.plateWindow then some ⟨stREFUSED, 0, 1⟩
  else match recipeBad b with
    | some o => some ⟨stSEC_FORMAT, 0, o⟩
    | none =>
      if leAt b 8 8 ≠ 0 && leAt b 8 8 ≠ d.get64 F.SEC_ID_LO_DEVICE_ID F.SEC_ID_HI_DEVICE_ID then some ⟨stSEC_DEVICE, 0, 0⟩
      else if d.lifecycle ≠ 2 then some ⟨stSEC_LEVEL, 0, d.lifecycle + 8 * d.level⟩
      else if p.fuses.oem ≠ some (beNat (sha384 pub)) then some ⟨stSEC_SIGNATURE, 0, 0⟩
      else if !ecdsaOk pub (b.take (len - 96)) ((b.drop (len - 96)).take 96) then some ⟨stSEC_SIGNATURE, 0, 1⟩
      else none

/-- A recipe is in force on a side. -/
def Side.recipeTake (b : List Byte) (l : List RecEnt) (d : Side) : Side :=
  let d1 := (d.set F.SEC_STATUS_RECIPE 1).set F.SEC_RECIPE_ID_ID (leAt b 16 4)
  { d1 with sec := { d1.sec with recipe := l } }

/-- The outcome of a recipe at a host address, and the state with it in force. -/
def State.recipeRun (s : State) (a len : Nat) : State × Res :=
  let b := memRead s.pkg.host a len
  let l := (List.range (leAt b 6 2)).map (recEntry b)
  match s.actSide.recipeCheck s.pkg b len with
  | some r => (s, r)
  | none =>
    match s.setAll l with
    | none => (s, ⟨stREFUSED, 0, 5⟩)
    | some s1 =>
      match s.limitOut l with
      | some i => (s, ⟨stREFUSED, 0, 6 + 65536 * i⟩)
      | none => (s1.both fun _ d => d.recipeTake b l, ⟨stSUCCESS, 0, leAt b 16 4⟩)

/-- RECIPE_LOAD: the active side's key store judges; SET writes go to both sides. -/
def State.recipeLoad (s : State) (n : Nat) (herr : Option Nat) : State :=
  match s.actSide.nextHost s.pkg n 0x65 with
  | none => s
  | some x =>
    match recipeCmdBad x.bytes, herr with
    | some o, _ => s.both fun _ d => d.startDone n (badField o)
    | none, some e => s.both fun _ d => d.startDone n (hostFaultRes e)
    | none, none =>
      let r := s.recipeRun (dFld x.bytes 8 8) (dFld x.bytes 16 4)
      r.1.both fun _ d => d.startDone n r.2

def execRecipeLoad (n : Nat) (herr : Option Nat) (s : State) : Host.Outcome State Fault Refusal :=
  if n < 64 then .next (s.recipeLoad n herr) else .next s

/-! DEBUG_PORT_ACCESS (R446, R450). -/

/-- An IEEE 1149.1 instruction is open at a level. -/
def tapOpen (level : Nat) : TapIr → Bool
  | .bypass => true
  | .idcode => true
  | .samplePreload => decide (1 ≤ level)
  | .extest => level == 2
  | .other => level == 2

/-- A byte of SRAM that holds class JOB: line-delay pool, heat map, marked trace area, stream buffer (R92, R449). -/
def Side.sramJob (d : Side) (a : Nat) : Bool :=
  decide (a < 0xA00000) || (decide (0x1200000 ≤ a) && decide (a < 0x1E00000)) || d.jobBytes a 1

/-- A byte of SRAM as the debug port reads it: 0 where GUARD hides it; the regions whose layout the spec does not give hold an
open value (log entry 67). -/
def Side.debugSram (p : Pkg) (d : Side) (a : Nat) : Byte :=
  if d.flag F.SEC_STATUS_GUARD && d.sramJob a then 0
  else if 0x800000 ≤ a && a < 0xE00000 then (d.sramRead (d.dev p) a 1).headD 0
  else BitVec.ofNat 8 (Config.free p.free (0x90000 + a))

/-- A debug read of memory is open at a level: all of SRAM and DRAM at FULL; at OBSERVE the trace store and, while GUARD is 0,
what class JOB holds (R446, R449, R450). -/
def Side.debugMemOk (p : Pkg) (d : Side) (space a n : Nat) : Bool :=
  let inside := if space = 1 then decide (a + n ≤ p.dramUse) else space == 2 && decide (a + n ≤ 0x2000000)
  inside && (d.level == 2 || (d.level == 1 && space == 2 &&
    (List.range n).all fun k =>
      let x := a + k
      if d.sramJob x then !d.flag F.SEC_STATUS_GUARD else decide (0xA00000 ≤ x) && decide (x < 0xE00000)))

/-- The bytes of a debug read. -/
def Side.debugMem (p : Pkg) (d : Side) (space a n : Nat) : List Byte :=
  if space = 1 then memRead d.dram a n else (List.range n).map fun k => d.debugSram p (a + k)

/-- A byte of the heat-map store written. -/
def Side.heatByteSet (dev a : Nat) (b : Byte) (d0 : Side) : Side :=
  let d := d0.heatUpTo (d0.rowsAt dev)
  let o := a - 0x800000
  d.heatSet (o / 2) (putBits (tget 0 d.mpl.heat (o / 2)) (8 * (o % 2)) 8 b.toNat)

/-- A byte of memory written through the debug port; regions of SRAM whose layout the spec does not give take it in store. -/
def Side.debugPut (p : Pkg) (space : Nat) (d : Side) (e : Nat × Byte) : Side :=
  if space = 2 && 0x800000 ≤ e.1 && e.1 < 0xA00000 then d.heatByteSet (d.dev p) e.1 e.2
  else { d with sram := memPut d.sram e.1 e.2 }

/-- Bytes written to a space, if they lie inside it. -/
def Side.debugWrite (p : Pkg) (space a : Nat) (l : List Byte) (d : Side) : Side :=
  if d.level ≠ 2 then d
  else if space = 1 then (if a + l.length ≤ p.dramUse then d.dramWrite a l else d)
  else if space = 2 && a + l.length ≤ 0x2000000 then ((l.zipIdx).map fun e => (a + e.2, e.1)).foldl (Side.debugPut p space) d
  else d

/-- The answer of a debug read. -/
def State.answer (s : State) (l : List Byte) : State :=
  { s with pkg := { s.pkg with dbg := l, free := s.pkg.free + 1 } }

/-- A register read through the debug port: refused at CLOSED, and of a side that does not run; a JOB register that GUARD hides
reads 0 and is counted. -/
def State.debugReg (s : State) (x : SideId) (off : Nat) : State :=
  if s.actSide.level = 0 || !s.pkg.hold.alive x || off % 4 ≠ 0 then s.answer []
  else
    let s1 := if s.guarded off then s.both fun p d => Side.secDenied p d else s
    s1.answer (leBytes 4 (s.regView x off))

def State.debugAccess (s : State) : DbgAcc → State
  | .ir i => if tapOpen s.actSide.level i then { s with pkg := { s.pkg with tap := i } } else s
  | .readReg x off => s.debugReg x off
  | .readMem x space a n =>
    let d := s.side x
    if s.pkg.hold.alive x && d.debugMemOk s.pkg space a n then s.answer (d.debugMem s.pkg space a n) else s.answer []
  | .writeReg off v => if s.actSide.level = 2 then s.bar0Write .pf0 false off (v % 2 ^ 32) else s
  | .writeMem space a l => s.both fun p d => d.debugWrite p space a l

def execDebugPortAccess (a : DbgAcc) (s : State) : Host.Outcome State Fault Refusal := .next (s.debugAccess a)

end Sys2Proof.Machine
end

