-- ==== Sys2Proof/Machine/Dispatch.lean ====
section
/-! DEFINITION. One arm per command: each calls its meaning. -/

namespace Sys2Proof.Machine

def exec (i : Instr) (s : State) : Host.Outcome State Fault Refusal :=
  match i with
  | .powerOnReset => Sys2Proof.Machine.execPowerOnReset s
  | .warmReset => Sys2Proof.Machine.execWarmReset s
  | .warm => Sys2Proof.Machine.execWarm s
  | .perst => Sys2Proof.Machine.execPerst s
  | .trst => Sys2Proof.Machine.execTrst s
  | .supplyMonitorTrip mon => Sys2Proof.Machine.execSupplyMonitorTrip mon s
  | .holdDieError => Sys2Proof.Machine.execHoldDieError s
  | .bootComplete side ms => Sys2Proof.Machine.execBootComplete side ms s
  | .bootFail side => Sys2Proof.Machine.execBootFail side s
  | .proceed => Sys2Proof.Machine.execProceed s
  | .flashProgram n herr readBackOk => Sys2Proof.Machine.execFlashProgram n herr readBackOk s
  | .controlTickEdge t => Sys2Proof.Machine.execControlTickEdge t s
  | .fineTickBoundary t => Sys2Proof.Machine.execFineTickBoundary t s
  | .snap => Sys2Proof.Machine.execSnap s
  | .snapPosted => Sys2Proof.Machine.execSnapPosted s
  | .adjGo => Sys2Proof.Machine.execAdjGo s
  | .rateGo => Sys2Proof.Machine.execRateGo s
  | .jumpAccept => Sys2Proof.Machine.execJumpAccept s
  | .jumpDiscard => Sys2Proof.Machine.execJumpDiscard s
  | .timTickWrite v => Sys2Proof.Machine.execTimTickWrite v s
  | .alarmArm n => Sys2Proof.Machine.execAlarmArm n s
  | .alarmDisarm n => Sys2Proof.Machine.execAlarmDisarm n s
  | .alarmFire n t => Sys2Proof.Machine.execAlarmFire n t s
  | .tickOverrun side work => Sys2Proof.Machine.execTickOverrun side work s
  | .registerWrite fn bar addr v => Sys2Proof.Machine.execRegisterWrite fn bar addr v s
  | .unmappedAccess fn bar addr => Sys2Proof.Machine.execUnmappedAccess fn bar addr s
  | .badAccess fn => Sys2Proof.Machine.execBadAccess fn s
  | .sqEnable n v => Sys2Proof.Machine.execSqEnable n v s
  | .sqDisable n v => Sys2Proof.Machine.execSqDisable n v s
  | .resume n => Sys2Proof.Machine.execResume n s
  | .cqEqEnable r v => Sys2Proof.Machine.execCqEqEnable r v s
  | .cqEqDisable r v => Sys2Proof.Machine.execCqEqDisable r v s
  | .sqDoorbell fn n v => Sys2Proof.Machine.execSqDoorbell fn n v s
  | .cqDoorbell fn r v => Sys2Proof.Machine.execCqDoorbell fn r v s
  | .descriptorFetched n ok => Sys2Proof.Machine.execDescriptorFetched n ok s
  | .descriptorRetire n => Sys2Proof.Machine.execDescriptorRetire n s
  | .coalesceTimeout r t => Sys2Proof.Machine.execCoalesceTimeout r t s
  | .vectorUnmask fn v => Sys2Proof.Machine.execVectorUnmask fn v s
  | .functionLevelReset fn => Sys2Proof.Machine.execFunctionLevelReset fn s
  | .d3hotEntry fn => Sys2Proof.Machine.execD3hotEntry fn s
  | .busMasterDisable fn => Sys2Proof.Machine.execBusMasterDisable fn s
  | .busMasterEnable fn => Sys2Proof.Machine.execBusMasterEnable fn s
  | .nop n => Sys2Proof.Machine.execNop n s
  | .barrier n => Sys2Proof.Machine.execBarrier n s
  | .copy n => Sys2Proof.Machine.execCopy n s
  | .fill n => Sys2Proof.Machine.execFill n s
  | .flush n => Sys2Proof.Machine.execFlush n s
  | .dmaTransferComplete ch => Sys2Proof.Machine.execDmaTransferComplete ch s
  | .fenceComplete ch ok => Sys2Proof.Machine.execFenceComplete ch ok s
  | .half ch => Sys2Proof.Machine.execHalf ch s
  | .dmaTransferError ch err written => Sys2Proof.Machine.execDmaTransferError ch err written s
  | .shadowArm ch sh v => Sys2Proof.Machine.execShadowArm ch sh v s
  | .shadowDisarm ch sh v => Sys2Proof.Machine.execShadowDisarm ch sh v s
  | .jobOpen n => Sys2Proof.Machine.execJobOpen n s
  | .jobStaged n => Sys2Proof.Machine.execJobStaged n s
  | .jobClose n => Sys2Proof.Machine.execJobClose n s
  | .decompress n => Sys2Proof.Machine.execDecompress n s
  | .decompressContinue n => Sys2Proof.Machine.execDecompressContinue n s
  | .contextDrop n => Sys2Proof.Machine.execContextDrop n s
  | .compress n => Sys2Proof.Machine.execCompress n s
  | .strudelRequestDone n slot herr => Sys2Proof.Machine.execStrudelRequestDone n slot herr s
  | .blockAssign => Sys2Proof.Machine.execBlockAssign s
  | .blockDecoded eng => Sys2Proof.Machine.execBlockDecoded eng s
  | .plateCommit n => Sys2Proof.Machine.execPlateCommit n s
  | .gateQuery n => Sys2Proof.Machine.execGateQuery n s
  | .plateAbort n => Sys2Proof.Machine.execPlateAbort n s
  | .plateWait n => Sys2Proof.Machine.execPlateWait n s
  | .plateEnding p => Sys2Proof.Machine.execPlateEnding p s
  | .plateDone p => Sys2Proof.Machine.execPlateDone p s
  | .ingestIntervalEnd t => Sys2Proof.Machine.execIngestIntervalEnd t s
  | .jarEnable j v => Sys2Proof.Machine.execJarEnable j v s
  | .trainBlockReceived p b => Sys2Proof.Machine.execTrainBlockReceived p b s
  | .alignMarker p counts => Sys2Proof.Machine.execAlignMarker p counts s
  | .linkDown l => Sys2Proof.Machine.execLinkDown l s
  | .blankRepeat x => Sys2Proof.Machine.execBlankRepeat x s
  | .setFrameSend p t => Sys2Proof.Machine.execSetFrameSend p t s
  | .dotFrameRelease p t => Sys2Proof.Machine.execDotFrameRelease p t s
  | .dotLate p t => Sys2Proof.Machine.execDotLate p t s
  | .ackReceived p ctag result op data t => Sys2Proof.Machine.execAckReceived p ctag result op data t s
  | .ctrlNoack p t => Sys2Proof.Machine.execCtrlNoack p t s
  | .statReceived p w t => Sys2Proof.Machine.execStatReceived p w t s
  | .statSilent p t => Sys2Proof.Machine.execStatSilent p t s
  | .encReceived p x y z ts t => Sys2Proof.Machine.execEncReceived p x y z ts t s
  | .upstreamFrameError f => Sys2Proof.Machine.execUpstreamFrameError f s
  | .retrain p => Sys2Proof.Machine.execRetrain p s
  | .echo p => Sys2Proof.Machine.execEcho p s
  | .blank p => Sys2Proof.Machine.execBlank p s
  | .ctrlGo p => Sys2Proof.Machine.execCtrlGo p s
  | .sosEdge c t frac => Sys2Proof.Machine.execSosEdge c t frac s
  | .eosEdge c t frac => Sys2Proof.Machine.execEosEdge c t frac s
  | .sosMissed c t => Sys2Proof.Machine.execSosMissed c t s
  | .facetZero c => Sys2Proof.Machine.execFacetZero c s
  | .relock c => Sys2Proof.Machine.execRelock c s
  | .stripeBuild c t => Sys2Proof.Machine.execStripeBuild c t s
  | .lookaheadEntry c => Sys2Proof.Machine.execLookaheadEntry c s
  | .vectorBegin c t => Sys2Proof.Machine.execVectorBegin c t s
  | .vectorEnd c t => Sys2Proof.Machine.execVectorEnd c t s
  | .vecGridLoad n herr => Sys2Proof.Machine.execVecGridLoad n herr s
  | .arbiterDecision => Sys2Proof.Machine.execArbiterDecision s
  | .hmClear => Sys2Proof.Machine.execHmClear s
  | .chunkTimeout k t => Sys2Proof.Machine.execChunkTimeout k t s
  | .telemetryEncode k => Sys2Proof.Machine.execTelemetryEncode k s
  | .telemetryBlockWrite => Sys2Proof.Machine.execTelemetryBlockWrite s
  | .telRdWrite hi v => Sys2Proof.Machine.execTelRdWrite hi v s
  | .lawSetLoad n herr => Sys2Proof.Machine.execLawSetLoad n herr s
  | .halt => Sys2Proof.Machine.execHalt s
  | .traceArm k => Sys2Proof.Machine.execTraceArm k s
  | .traceStop k => Sys2Proof.Machine.execTraceStop k s
  | .injStart g => Sys2Proof.Machine.execInjStart g s
  | .injStop g => Sys2Proof.Machine.execInjStop g s
  | .zeroCrossEdge z t => Sys2Proof.Machine.execZeroCrossEdge z t s
  | .ssrSwitch k t => Sys2Proof.Machine.execSsrSwitch k t s
  | .zxLost z t => Sys2Proof.Machine.execZxLost z t s
  | .motProfLoad n herr => Sys2Proof.Machine.execMotProfLoad n herr s
  | .motStart a => Sys2Proof.Machine.execMotStart a s
  | .go => Sys2Proof.Machine.execGo s
  | .motEnd a => Sys2Proof.Machine.execMotEnd a s
  | .quadEdge e a b t => Sys2Proof.Machine.execQuadEdge e a b t s
  | .indexEdge e => Sys2Proof.Machine.execIndexEdge e s
  | .ssiFrame e high w err t => Sys2Proof.Machine.execSsiFrame e high w err t s
  | .carrierPeriodStart g => Sys2Proof.Machine.execCarrierPeriodStart g s
  | .alignDone f t => Sys2Proof.Machine.execAlignDone f t s
  | .sdValue ch bs => Sys2Proof.Machine.execSdValue ch bs s
  | .enable u => Sys2Proof.Machine.execEnable u s
  | .disable u => Sys2Proof.Machine.execDisable u s
  | .clear u => Sys2Proof.Machine.execClear u s
  | .chopClr b => Sys2Proof.Machine.execChopClr b s
  | .stpTableLoad n herr => Sys2Proof.Machine.execStpTableLoad n herr s
  | .heartbeat t => Sys2Proof.Machine.execHeartbeat t s
  | .heartbeatReceived side path ok t => Sys2Proof.Machine.execHeartbeatReceived side path ok t s
  | .heartbeatDeadline side t => Sys2Proof.Machine.execHeartbeatDeadline side t s
  | .resign side t => Sys2Proof.Machine.execResign side t s
  | .grant t => Sys2Proof.Machine.execGrant t s
  | .grantAckTimeout => Sys2Proof.Machine.execGrantAckTimeout s
  | .dwellCut p t => Sys2Proof.Machine.execDwellCut p t s
  | .fixedArm => Sys2Proof.Machine.execFixedArm s
  | .fixedDisarm => Sys2Proof.Machine.execFixedDisarm s
  | .peek => Sys2Proof.Machine.execPeek s
  | .revive side => Sys2Proof.Machine.execRevive side s
  | .ptpMessageReceived p m frac t => Sys2Proof.Machine.execPtpMessageReceived p m frac t s
  | .ptpMessageSend p kind udp frac t => Sys2Proof.Machine.execPtpMessageSend p kind udp frac t s
  | .announceTimeout p t => Sys2Proof.Machine.execAnnounceTimeout p t s
  | .syncTimeout p t => Sys2Proof.Machine.execSyncTimeout p t s
  | .ethLinkDown p => Sys2Proof.Machine.execEthLinkDown p s
  | .challenge n => Sys2Proof.Machine.execChallenge n s
  | .keyLoad n herr => Sys2Proof.Machine.execKeyLoad n herr s
  | .keyRemove n => Sys2Proof.Machine.execKeyRemove n s
  | .keyLock n => Sys2Proof.Machine.execKeyLock n s
  | .statement n herr => Sys2Proof.Machine.execStatement n herr s
  | .recipeLoad n herr => Sys2Proof.Machine.execRecipeLoad n herr s
  | .debugClose n => Sys2Proof.Machine.execDebugClose n s
  | .certRead n => Sys2Proof.Machine.execCertRead n s
  | .debugPortToken tok => Sys2Proof.Machine.execDebugPortToken tok s
  | .debugPortAccess a => Sys2Proof.Machine.execDebugPortAccess a s
  | .jobClear => Sys2Proof.Machine.execJobClear s
  | .jobClearDone => Sys2Proof.Machine.execJobClearDone s
  | .thermalSample k count t => Sys2Proof.Machine.execThermalSample k count t s
  | .throttlePauseEnd e t => Sys2Proof.Machine.execThrottlePauseEnd e t s
  | .refreshRateRead side c0 c1 => Sys2Proof.Machine.execRefreshRateRead side c0 c1 s
  | .nap => Sys2Proof.Machine.execNap s
  | .deep => Sys2Proof.Machine.execDeep s
  | .wake => Sys2Proof.Machine.execWake s
  | .wakeGroupRestored g => Sys2Proof.Machine.execWakeGroupRestored g s
  | .eventArm n => Sys2Proof.Machine.execEventArm n s
  | .assert => Sys2Proof.Machine.execAssert s
  | .release => Sys2Proof.Machine.execRelease s
  | .kick => Sys2Proof.Machine.execKick s
  | .watchdogExpiry t => Sys2Proof.Machine.execWatchdogExpiry t s
  | .beamEnableOpen => Sys2Proof.Machine.execBeamEnableOpen s
  | .beamEnableClose => Sys2Proof.Machine.execBeamEnableClose s
  | .injArm => Sys2Proof.Machine.execInjArm s
  | .injDisarm => Sys2Proof.Machine.execInjDisarm s
  | .injectionEnd t => Sys2Proof.Machine.execInjectionEnd t s
  | .blockLock p lane => Sys2Proof.Machine.execBlockLock p lane s
  | .alignBlockSend x => Sys2Proof.Machine.execAlignBlockSend x s
  | .pcieLinkUp speed width => Sys2Proof.Machine.execPcieLinkUp speed width s
  | .pcieLinkDown => Sys2Proof.Machine.execPcieLinkDown s
  | .ethLinkUp p => Sys2Proof.Machine.execEthLinkUp p s
  | .supplyMonitorRelease mon => Sys2Proof.Machine.execSupplyMonitorRelease mon s
  | .mpWordReceived c a b t => Sys2Proof.Machine.execMpWordReceived c a b t s
  | .mpConversionEdge c t => Sys2Proof.Machine.execMpConversionEdge c t s

end Sys2Proof.Machine
end

