-- ==== Sys2Proof/Safety.lean ====
section
/-! DEFINITION. The terms that claims use: which register writes a block takes, what a command may change on a side, memories in
their canonical form, fuses that move one way only. -/

namespace Sys2Proof.Machine

/-- A write of a word to a register is taken: some block takes it in this state (R392, R507) and the recipe in force allows it
(R444). -/
def State.accepts (s : State) (pf0 : Bool) (off word : Nat) : Prop :=
  s.takes off = true ∧ (pf0 = true → s.actSide.breaks off word = false)

/-- Side e with everything that a posting may change (R476, R482, R485), and its output, put back to what side d has: registers,
history queues, the rings' message state, the list of postings. -/
def Side.unpost (d e : Side) : Side := { e with rf := d.rf, hist := d.hist, hif := d.hif, posted := d.posted, out := d.out }

/-- Nothing of a side changes but its registers, its history queues, its rings, its list of postings and its output: engines,
memories, key store and outputs stay. -/
def Side.onlyRegs (d e : Side) : Prop := d.unpost e = d

/-- Registers at offsets that a predicate does not name keep their words. -/
def Side.regsBut (names : Nat → Prop) (d e : Side) : Prop := ∀ o, ¬names o → e.word o = d.word o

/-- The registers that a posting changes: those of the two event rings and of the event block (R73, R485). -/
def postRegs (o : Nat) : Prop := 0x30000 ≤ o ∧ o < 0x30080 ∨ 0x1200000 ≤ o ∧ o < 0x1300000

/-- What the package keeps from step to step: the fuses, the flash, the fitted memory, the debug port. -/
def Pkg.keeps (p q : Pkg) : Prop :=
  q.fuses = p.fuses ∧ q.flash = p.flash ∧ q.dramA = p.dramA ∧ q.dramB = p.dramB ∧ q.tap = p.tap ∧ q.dbg = p.dbg

/-- Fuses move one way only (R427, R428, R431): the part stays, the lifecycle and the counter do not fall, a fused OEM hash
and RECIPE_REQ stay, a zeroised key stays zero. -/
def Fuses.onward (f g : Fuses) : Prop :=
  g.is7708 = f.is7708 ∧ f.lifecycle ≤ g.lifecycle ∧ f.mono ≤ g.mono ∧ (f.oem.isSome → g.oem = f.oem) ∧
  (f.recipeReq = true → g.recipeReq = true) ∧ (f.devKey = 0 → g.devKey = 0)

/-- Fuses in a state that statements can reach (R427 to R431): the counter no higher than its last value, one of the five lifecycle
states, no OEM hash and no RECIPE_REQ before FIELD, no device key in END. -/
def Fuses.sound (f : Fuses) : Prop :=
  f.mono ≤ monoEnd ∧ f.lifecycle ≤ 4 ∧ (f.lifecycle ≤ 1 → f.oem = none ∧ f.recipeReq = false) ∧ (f.lifecycle = 4 → f.devKey = 0)

/-- The canonical form of the flash: addresses strictly rising, no listed byte equal to what an erased byte reads (log entry 63). -/
def flashWf (f : Tab Byte) : Prop := f.Pairwise (fun a b => a.1 < b.1) ∧ ∀ e ∈ f, e.2 ≠ 0xFF

/-- From s to t, side x is declared lost, the side's last valid beat having arrived at raw time last (R388, R393, R396): it is FAILED and
the other side's health stays. An active side leaves the gap of a failover behind it where the standby is SYNCED, and SAFE where it is not; a
standby leaves the package DEGRADED, and SAFE where it is lost in the gap of a failover. -/
def State.lostTo (s t : State) (x : SideId) (last : Nat) : Prop :=
  t.pkg.hold.health x = 0 ∧ t.pkg.hold.health (otherSide x) = s.pkg.hold.health (otherSide x) ∧
  (s.pkg.hold.active = x → s.pkg.hold.health (otherSide x) = 3 → t.pkg.hold.granted = false ∧ t.pkg.hold.gap = some ⟨x, last, s.pkg.now⟩) ∧
  (s.pkg.hold.active ≠ x → s.pkg.hold.gap = none →
    t.pkg.hold.flag F.HLD_TWN_STATUS_DEGRADED = true ∧ t.pkg.hold.granted = s.pkg.hold.granted ∧ t.pkg.hold.active = s.pkg.hold.active) ∧
  ((s.pkg.hold.active = x ∧ s.pkg.hold.health (otherSide x) ≠ 3 ∨ s.pkg.hold.active ≠ x ∧ s.pkg.hold.gap.isSome = true) →
    t.pkg.hold.flag F.HLD_TWN_STATUS_SAFE = true ∧ t.pkg.hold.granted = false ∧ t.pkg.hold.gap = none)

/-- From s to t, side x sends PTP message m on Ethernet port n (R415, R417): the port counts it, the next message of its kind has the next
number, and from the side that holds the grant it leaves the port under the address that its kind has. -/
def State.ptpSent (s t : State) (x : SideId) (n : Nat) (m : PtpMsg) : Prop :=
  (t.side x).get (F.PTP_P_TX_COUNT n) = ((s.side x).get (F.PTP_P_TX_COUNT n) + 1) % 2 ^ 32 ∧
  tget 0 ((t.side x).pport n).seqs (kindIx m.kind) = (m.seq + 1) % 65536 ∧
  (s.pkg.hold.active = x → (n, (s.side x).ptpAddr n m.kind, m) ∈ t.pkg.hold.eth)

/-- The memories that the whole package shares, the host's and the flash, are in their canonical form. -/
def State.memOk (s : State) : Prop := memWf s.pkg.host = true ∧ flashWf s.pkg.flash

end Sys2Proof.Machine
end

