-- ==== Sys2Proof/Certificates/Slice0/Obligations.lean ====
section
/-! DEFINITION. The statements for the provers: what the commands of the block do, what every step keeps, what reset leaves. Each
command's statement concludes that exec answers a next state, and names the rules that its effect follows. -/

open Sys2Proof Sys2Proof.Machine

/-- What the package keeps (R427, R428, R431, R446, R498, R501, R505): no command changes the fuses, the flash, the fitted memory or
the debug port, but these. POWER_ON_RESET advances the counter and restarts the debug port. A boot that ends, or a
supply trip that ends one, may raise the minimum firmware version. A statement or a token may program the fuses, in the one way R428
sets out. FLASH_PROGRAM writes the flash. TRST_N and the debug port's own accesses change the TAP and the answer. -/
def Obligations.PackageKept : Prop :=
  ∀ (c : Instr) (s t : State), exec c s = .next t →
    match c with
    | .powerOnReset => t.pkg.fuses = { s.pkg.fuses with mono := min monoEnd (s.pkg.fuses.mono + 1) } ∧ t.pkg.flash = s.pkg.flash ∧
        t.pkg.dramA = s.pkg.dramA ∧ t.pkg.dramB = s.pkg.dramB
    | .bootComplete _ _ | .bootFail _ | .supplyMonitorTrip _ =>
        ∃ m, s.pkg.fuses.minVer ≤ m ∧ ({ s.pkg with fuses := { s.pkg.fuses with minVer := m } } : Pkg).keeps t.pkg
    | .statement _ _ | .debugPortToken _ =>
        s.pkg.keeps t.pkg ∨ ∃ m, s.actSide.stmtCheck s.pkg m = none ∧ ({ s.pkg with fuses := s.pkg.fuses.take m } : Pkg).keeps t.pkg
    | .flashProgram _ _ _ => ({ s.pkg with flash := t.pkg.flash } : Pkg).keeps t.pkg
    | .trst | .debugPortAccess _ => ({ s.pkg with tap := t.pkg.tap, dbg := t.pkg.dbg } : Pkg).keeps t.pkg
    | _ => s.pkg.keeps t.pkg

/-- The shared memories keep their canonical form (host memory and flash) at every step, from every state in which they have it. -/
def Obligations.EveryStepKeepsMemoriesCanonical : Prop :=
  ∀ s t : State, s.memOk → step s = .next t → t.memOk

/-- The fuses move one way only, at every step, from every state whose fuses statements can have left (R427 to R431): the lifecycle
never goes back, the counter never falls and never passes its last value, a fused OEM hash and RECIPE_REQ stay, a zeroised device
key stays zero, and what held of the fuses before holds of them again. -/
def Obligations.EveryStepMovesFusesOnward : Prop :=
  ∀ s t : State, s.pkg.fuses.sound → step s = .next t → s.pkg.fuses.onward t.pkg.fuses ∧ t.pkg.fuses.sound

/-- SQ_ENABLE, SQ_DISABLE and RESUME (R61 to R63, R80, R81, R89): on every side that is alive, a taken write of a DISABLED
ring's CFG with ENABLE 1 that meets the conditions leaves the ring RUNNING with HEAD, TAIL and OWN_STALL 0 and nothing
fetched; a taken write with ENABLE 0 that keeps SIZE, CQ and TARGET leaves a RUNNING or HALTED ring STOPPING, or DISABLED at once
where nothing is outstanding; RESUME leaves a HALTED ring RUNNING. Engines and memories stay, and RESUME changes no other register. -/
def Obligations.SubmissionRingControl : Prop :=
  ∀ (n : Nat) (v : Word) (s : State) (x : SideId), n < 64 → s.pkg.hold.alive x = true →
    (s.accepts (decide (n < 16)) (0x10008 + 0x40 * n) v.toNat → bit v.toNat 0 = true → (s.side x).sqState n = 0 →
      (s.side x).sqEnableOk n v.toNat = true →
      ∃ t, exec (.sqEnable n v) s = .next t ∧ (t.side x).sqState n = 1 ∧ (t.side x).get (F.HIF_SQ_STATE_HEAD n) = 0 ∧
        (t.side x).get (F.HIF_SQ_STATE_TAIL n) = 0 ∧ (t.side x).get (F.HIF_SQ_STATUS_OWN_STALL n) = 0 ∧
        (t.side x).sqTarget n = bits v.toNat 16 6 ∧ (t.side x).sqList n = [] ∧ (s.side x).onlyRegs (t.side x)) ∧
    (s.accepts (decide (n < 16)) (0x10008 + 0x40 * n) v.toNat → bit v.toNat 0 = false →
      ((s.side x).sqState n = 1 ∨ (s.side x).sqState n = 2) → (s.side x).sqCfgKeeps n v.toNat = true →
      ∃ t, exec (.sqDisable n v) s = .next t ∧ (t.side x).sqList n = abortUnstarted ((s.side x).sqList n) ∧
        (t.side x).sqState n = (if ((s.side x).sqList n).isEmpty then 0 else 3) ∧
        (t.side x).get (F.HIF_SQ_CFG_ENABLE n) = 0 ∧ (s.side x).onlyRegs (t.side x)) ∧
    (s.accepts (decide (n < 16)) (0x1000C + 0x40 * n) 1 → (s.side x).sqState n = 2 →
      ∃ t, exec (.resume n) s = .next t ∧ (t.side x).sqState n = 1 ∧
        (s.side x).regsBut (fun o => o = (F.HIF_SQ_STATUS_STATE n).off) (t.side x) ∧ (s.side x).onlyRegs (t.side x))

/-- CQ_EQ_ENABLE, CQ_EQ_DISABLE, SQ_DOORBELL, CQ_DOORBELL and COALESCE_TIMEOUT (R70, R75, R76, R78, R87, R89): a taken enabling
write of a DISABLED completion or event ring leaves it RUNNING with HEAD and TAIL 0 and PHASE 1; a taken disabling write of a running
ring that keeps SIZE, no submission ring being bound to it, leaves it DISABLED, or STOPPING while writes to it wait; an accepted doorbell sets TAIL (SQ) or HEAD (CQ, EQ)
to the value written, and the ring manager holds it as the last accepted; the timeout leaves no entry unsignalled. Engines and memories stay. -/
def Obligations.CompletionRingsAndDoorbells : Prop :=
  ∀ (r : RingId) (w : Word) (fn : Fn) (n v k : Nat) (s : State) (x : SideId), s.pkg.hold.alive x = true → ringOk r = true → n < 64 →
    v < 2 ^ 16 →
    (s.accepts (ringFn r == .pf0) (ringBase r + 8) w.toNat → bit w.toNat 0 = true → (s.side x).get (rState r) = 0 →
      4 ≤ bits w.toNat 1 4 → ringFits ((s.side x).ringMem r) (bits w.toNat 1 4) 32 = true →
      ∃ t, exec (.cqEqEnable r w) s = .next t ∧ (t.side x).get (rState r) = 1 ∧ (t.side x).get (rHead r) = 0 ∧
        (t.side x).get (rTail r) = 0 ∧ (t.side x).get (rPhase r) = 1 ∧ (t.side x).get (rSize r) = bits w.toNat 1 4 ∧
        (s.side x).onlyRegs (t.side x) ∧
        (s.side x).regsBut (fun o => ringBase r ≤ o ∧ o < ringBase r + 0x40) (t.side x)) ∧
    (s.accepts (ringFn r == .pf0) (ringBase r + 8) w.toNat → bit w.toNat 0 = false → (s.side x).get (rState r) = 1 →
      bits w.toNat 1 4 = (s.side x).get (rSize r) → (∀ m, r = .cq m → (s.side x).cqBound m = false) →
      ∃ t, exec (.cqEqDisable r w) s = .next t ∧ (t.side x).get (rState r) = (if Side.ringWaits s.pkg r (s.side x) then 3 else 0) ∧ (s.side x).onlyRegs (t.side x) ∧
        (s.side x).regsBut (fun o => ringBase r ≤ o ∧ o < ringBase r + 0x40) (t.side x)) ∧
    (s.takes 0x10000 = true → ringFnNum n = fn → (s.side x).get (F.HIF_SQ_CFG_ENABLE n) = 1 →
      v < 2 ^ (s.side x).get (F.HIF_SQ_CFG_SIZE n) →
      ((s.side x).get (F.HIF_SQ_STATE_TAIL n) + 2 ^ (s.side x).get (F.HIF_SQ_CFG_SIZE n) - (s.side x).get (F.HIF_SQ_STATE_HEAD n)) %
          2 ^ (s.side x).get (F.HIF_SQ_CFG_SIZE n) ≤
        (v + 2 ^ (s.side x).get (F.HIF_SQ_CFG_SIZE n) - (s.side x).get (F.HIF_SQ_STATE_HEAD n)) % 2 ^ (s.side x).get (F.HIF_SQ_CFG_SIZE n) →
      ∃ t, exec (.sqDoorbell fn n v) s = .next t ∧ (t.side x).get (F.HIF_SQ_STATE_TAIL n) = v ∧
        (t.side x).get (F.HIF_SQ_STATUS_OWN_STALL n) = 0 ∧ tget 0 (t.side x).hif.dbSq n = v ∧
        (t.side x).sqList n = (s.side x).sqList n ∧ (s.side x).onlyRegs (t.side x)) ∧
    (s.takes 0x10000 = true → ringFn r = fn → (s.side x).get (rEnable r) = 1 → v < 2 ^ (s.side x).get (rSize r) →
      (v + 2 ^ (s.side x).get (rSize r) - (s.side x).get (rHead r)) % 2 ^ (s.side x).get (rSize r) ≤ (s.side x).ringUsed r →
      ∃ t, exec (.cqDoorbell fn r v) s = .next t ∧ (t.side x).get (rHead r) = v ∧ (t.side x).get (rTail r) = (s.side x).get (rTail r) ∧
        tget 0 (t.side x).hif.dbCq (ringIx r) = v ∧ (s.side x).onlyRegs (t.side x)) ∧
    (s.pkg.hold.running x = true → (s.side x).get (rIrqEn r) = 1 → (s.side x).get (rCoalTime r) ≠ 0 →
      (tget {} (s.side x).hif.msg (ringIx r)).unsig ≠ 0 →
      reached (s.pkg.advance k).now ((tget {} (s.side x).hif.msg (ringIx r)).firstAt + 1000 * (s.side x).get (rCoalTime r)) = true →
      ∃ t, exec (.coalesceTimeout r k) s = .next t ∧ (tget {} (t.side x).hif.msg (ringIx r)).unsig = 0 ∧
        (t.side x).rf = (s.side x).rf ∧ (s.side x).onlyRegs (t.side x))

/-- DESCRIPTOR_FETCHED, NOP, BARRIER and DESCRIPTOR_RETIRE (R64 to R69, R77, R79, R80): for the ring whose turn it is, a fetched descriptor with OWN 1 joins its ring's
order as the checks receive it; one with OWN 0 stalls the ring; a failed read joins as FETCH_ERR and sets the flag; NOP and
BARRIER, where they are next to start, finish with SUCCESS and change no register; a finished first descriptor of status SUCCESS
retires: it leaves the order, HEAD moves past its slot, and unless NO_CPL is 1 the completion ring's TAIL moves on by one entry, its
coalescing aside. Engines and memories stay. -/
def Obligations.DescriptorsFetchedAndRetired : Prop :=
  ∀ (n : Nat) (s : State) (x : SideId), n < 64 → s.pkg.hold.running x = true →
    ((s.side x).sqPick s.pkg = some n →
      (dOwn (memRead s.pkg.host ((s.side x).sqMem n + 64 * (s.side x).sqNext n) 64) = true →
        ∃ t, exec (.descriptorFetched n true) s = .next t ∧
          (t.side x).sqList n = (s.side x).sqList n ++ [(s.side x).received n ((s.side x).sqNext n)
            (memRead s.pkg.host ((s.side x).sqMem n + 64 * (s.side x).sqNext n) 64)] ∧
          (t.side x).sqState n = (s.side x).sqState n ∧ (s.side x).onlyRegs (t.side x)) ∧
      (dOwn (memRead s.pkg.host ((s.side x).sqMem n + 64 * (s.side x).sqNext n) 64) = false →
        ∃ t, exec (.descriptorFetched n true) s = .next t ∧ (t.side x).get (F.HIF_SQ_STATUS_OWN_STALL n) = 1 ∧
          (t.side x).sqList n = (s.side x).sqList n ∧ (s.side x).onlyRegs (t.side x)) ∧
      ∃ t, exec (.descriptorFetched n false) s = .next t ∧
        (t.side x).sqList n = (s.side x).sqList n ++ [⟨(s.side x).sqNext n, [], .done stFETCH_ERR 0
          (((s.side x).sqMem n + 64 * (s.side x).sqNext n) % 2 ^ 32)⟩] ∧
        (t.side x).get (F.HIF_SQ_STATUS_FETCH_ERR n) = 1 ∧ (s.side x).onlyRegs (t.side x)) ∧
    (∀ d, (s.side x).nextStart n 0 = some d →
      ∃ t, exec (.nop n) s = .next t ∧ (t.side x).sqList n = startFirst (.done stSUCCESS 0 0) ((s.side x).sqList n) ∧
        (t.side x).rf = (s.side x).rf ∧ (s.side x).onlyRegs (t.side x)) ∧
    (∀ d, (s.side x).nextStart n 1 = some d →
      ∃ t, exec (.barrier n) s = .next t ∧ (t.side x).sqList n = startFirst (.done stSUCCESS 0 0) ((s.side x).sqList n) ∧
        (t.side x).rf = (s.side x).rf ∧ (s.side x).onlyRegs (t.side x)) ∧
    (∀ d rest r0 r1, (s.side x).sqList n = d :: rest → d.st = .done stSUCCESS r0 r1 →
      (s.side x).ringFull (.cq ((s.side x).get (F.HIF_SQ_CFG_CQ n))) = false → (s.side x).sqState n = 1 →
      ∃ t, exec (.descriptorRetire n) s = .next t ∧ (t.side x).sqList n = rest ∧
        (t.side x).get (F.HIF_SQ_STATE_HEAD n) = (d.slot + 1) % 2 ^ (s.side x).get (F.HIF_SQ_CFG_SIZE n) ∧
        (t.side x).get (rTail (.cq ((s.side x).get (F.HIF_SQ_CFG_CQ n)))) =
          (if dNoCpl d.bytes then (s.side x).get (rTail (.cq ((s.side x).get (F.HIF_SQ_CFG_CQ n))))
           else ((s.side x).get (rTail (.cq ((s.side x).get (F.HIF_SQ_CFG_CQ n)))) + 1) %
             2 ^ (s.side x).get (rSize (.cq ((s.side x).get (F.HIF_SQ_CFG_CQ n))))) ∧
        (s.side x).onlyRegs (t.side x))

/-- VECTOR_UNMASK, BUS_MASTER_ENABLE, BUS_MASTER_DISABLE, PCIE_LINK_UP, PCIE_LINK_DOWN and TRST (R54, R78, R82, R88, R498): an unmasked
vector of a function that MSI-X Enable and Function Mask leave open is neither masked nor pending, and a message that was pending is written to its address where Bus Master Enable is 1; clearing
Bus Master Enable changes that bit and nothing else; setting it sends the packets that the function held, in order, and
leaves every other function's held, and touches no register but those of completion and event rings; the link's state shows in HIF_STATUS on both sides and nowhere else; TRST_N resets the TAP alone. -/
def Obligations.HostLinkAndMessages : Prop :=
  ∀ (fn : Fn) (v sp wd : Nat) (s : State), v < 128 →
    (s.takes 0x10000 = true → tget false s.pkg.pci.msixOn (fnNum fn) = true → tget false s.pkg.pci.fnMask (fnNum fn) = false →
      ∃ t, exec (.vectorUnmask fn v) s = .next t ∧ t.pkg.pci.masked fn v = false ∧ t.pkg.pci.isPend fn v = false ∧
        t.sideA = s.sideA ∧ t.sideB = s.sideB ∧ t.pkg.hold = s.pkg.hold ∧
        (s.pkg.pci.isPend fn v = true → s.pkg.pci.bme fn = true →
          t.pkg.host = memWrite s.pkg.host (s.pkg.pci.msixWord fn v 0 + 2 ^ 32 * s.pkg.pci.msixWord fn v 1)
            (leBytes 4 (s.pkg.pci.msixWord fn v 2)))) ∧
    (∃ t, exec (.busMasterDisable fn) s = .next t ∧ t.pkg.pci.bme fn = false ∧
      (∀ g, g ≠ fn → t.pkg.pci.bme g = s.pkg.pci.bme g) ∧ t.pkg.pci.held = s.pkg.pci.held ∧ t.pkg.pci.msix = s.pkg.pci.msix ∧
      t.sideA = s.sideA ∧ t.sideB = s.sideB ∧ t.pkg.host = s.pkg.host ∧ t.pkg.hold = s.pkg.hold) ∧
    (∃ t, exec (.busMasterEnable fn) s = .next t ∧ t.pkg.pci.bme fn = true ∧
      t.pkg.pci.held = s.pkg.pci.held.filter (fun o => o.fn != some fn) ∧
      (∀ x, (s.side x).regsBut (fun o => 0x20000 ≤ o ∧ o < 0x40000) (t.side x) ∧ (s.side x).onlyRegs (t.side x)) ∧
      (s.pkg.pci.held.filter (fun o => o.fn == some fn) = [] → t.pkg.host = s.pkg.host) ∧
      ∀ a l, s.pkg.pci.held.filter (fun o => o.fn == some fn) = [.hostWrite fn a l] → t.pkg.host = memWrite s.pkg.host a l) ∧
    (1 ≤ sp → sp ≤ 5 → (wd = 1 ∨ wd = 2 ∨ wd = 4 ∨ wd = 8) →
      ∃ t, exec (.pcieLinkUp sp wd) s = .next t ∧ t.pkg.pci.linkUp = true ∧
        ∀ x, (t.side x).get F.HIF_STATUS_LINK_UP = 1 ∧ (t.side x).get F.HIF_STATUS_SPEED = sp ∧
          (t.side x).get F.HIF_STATUS_WIDTH = wd ∧ (s.side x).regsBut (fun o => o = F.HIF_STATUS_LINK_UP.off) (t.side x) ∧
          (s.side x).onlyRegs (t.side x)) ∧
    (∃ t, exec .pcieLinkDown s = .next t ∧ t.pkg.pci.linkUp = false ∧
      ∀ x, (t.side x).get F.HIF_STATUS_LINK_UP = 0 ∧ (s.side x).regsBut (fun o => o = F.HIF_STATUS_LINK_UP.off) (t.side x) ∧
        (s.side x).onlyRegs (t.side x)) ∧
    (∃ t, exec .trst s = .next t ∧ t.pkg.tap = .idcode ∧ t.sideA = s.sideA ∧ t.sideB = s.sideB ∧ t.pkg.hold = s.pkg.hold ∧
      t.pkg.fuses = s.pkg.fuses ∧ t.pkg.host = s.pkg.host)

/-- POWER_ON_RESET, WARM_RESET and WARM (R386, R431, R498, R501, R508). After a power-on reset raw time is 0, the counter has advanced
by 1, and flash and fitted DRAM stay; where a firmware slot verifies, both sides are BOOTING with nothing in DRAM and no job open, and host
memory stays; where none does, both sides are FAILED and the hold die is in SAFE. After a warm reset, by the pin or by CFG_CMD.WARM, the hold
die is in SAFE with no side granted and every plate record, job and stream gone, both sides are BOOTING, or FAILED where no slot
verifies, and raw time, fuses, flash and the sides' DRAM stay. -/
def Obligations.ResetsRestartTheBoot : Prop :=
  ∀ s : State,
    (∃ t, exec .powerOnReset s = .next t ∧ t.pkg.raw = 0 ∧ t.pkg.fuses = { s.pkg.fuses with mono := min monoEnd (s.pkg.fuses.mono + 1) } ∧
      t.pkg.flash = s.pkg.flash ∧ t.pkg.dramA = s.pkg.dramA ∧ t.pkg.dramB = s.pkg.dramB ∧ t.pending = s.pending ∧
      (s.pkg.fwPick.isSome = true → t.pkg.host = s.pkg.host ∧
        ∀ x, t.pkg.hold.health x = 1 ∧ (t.side x).dram = [] ∧ (t.side x).sram = [] ∧ (t.side x).str = {} ∧ (t.side x).hif.sq = []) ∧
      (s.pkg.fwPick = none → t.pkg.hold.flag F.HLD_TWN_STATUS_SAFE = true ∧ ∀ x, t.pkg.hold.health x = 0)) ∧
    (s.pkg.hold.up = true → (∀ x, (s.pkg.hold.look x).lostPower = false) →
      ∀ c, (c = .warmReset ∨ c = .warm ∧ s.pkg.hold.cfgAnswers = true ∧ s.accepts true 0x1300004 2) →
      ∃ t, exec c s = .next t ∧ t.pkg.raw = s.pkg.raw ∧ t.pkg.fuses = s.pkg.fuses ∧ t.pkg.flash = s.pkg.flash ∧ t.pending = s.pending ∧
        t.pkg.hold.flag F.HLD_TWN_STATUS_SAFE = true ∧ t.pkg.hold.granted = false ∧ t.pkg.hold.deep = false ∧
        ∀ x, t.pkg.hold.health x = (if s.pkg.fwPick.isSome then 1 else 0) ∧ (t.side x).dram = (s.side x).dram ∧ (t.side x).sram = [] ∧
          (t.side x).str = {} ∧ (t.side x).hif.sq = [])

/-- BOOT_COMPLETE, BOOT_FAIL, PROCEED and FLASH_PROGRAM (R386, R407, R501, R505, R507). A side that completes its boot beside a granted
one is STALE and compared from then on, and the grant stays; with no side granted and no failover under way, the end of Side A's boot, or of
Side B's after A's, gives the grant to Side A, which is SYNCED, and SAFE ends. A side that fails its boot beside a granted one is
FAILED and DEGRADED is set. PROCEED takes every held boot's PHASE out of HELD and changes no other register. FLASH_PROGRAM erases
the area and programs it from host memory where the read-back equals the data, and the command is finished with SUCCESS. -/
def Obligations.BootsEndAndFlashIsProgrammed : Prop :=
  ∀ (s : State) (x : SideId) (ms n : Nat),
    (s.pkg.hold.health x = 1 → (s.side x).get F.CFG_STATUS_PHASE ≠ 1 → (s.pkg.hold.look x).revived = false →
      (s.pkg.hold.granted = true → s.pkg.hold.running (otherSide x) = true →
        ∃ t, exec (.bootComplete x ms) s = .next t ∧ t.pkg.hold.health x = 2 ∧ t.pkg.hold.granted = true ∧
          t.pkg.hold.active = s.pkg.hold.active ∧ (t.side (otherSide x)).get F.TWN_STATUS_COMPARING = 1 ∧
          (t.side (otherSide x)).get F.TWN_STATUS_MATCHES = 0) ∧
      (s.pkg.hold.granted = false → s.pkg.hold.gap = none → s.pkg.hold.health (otherSide x) ≠ 0 →
        (x = .a ∨ s.pkg.hold.health .a = 2) →
        ∃ t, exec (.bootComplete x ms) s = .next t ∧ t.pkg.hold.health .a = 3 ∧ t.pkg.hold.granted = true ∧
          t.pkg.hold.active = .a ∧ t.pkg.hold.flag F.HLD_TWN_STATUS_SAFE = false)) ∧
    (s.pkg.hold.health x = 1 → (s.pkg.hold.look x).revived = false → s.pkg.hold.granted = true →
      ∃ t, exec (.bootFail x) s = .next t ∧ t.pkg.hold.health x = 0 ∧ t.pkg.hold.flag F.HLD_TWN_STATUS_DEGRADED = true ∧
        t.pkg.hold.granted = true ∧ t.pkg.hold.active = s.pkg.hold.active) ∧
    (s.accepts true 0x1300004 1 → s.pkg.hold.health x = 1 → (s.side x).get F.CFG_STATUS_PHASE = 1 →
      ∃ t, exec .proceed s = .next t ∧ (t.side x).get F.CFG_STATUS_PHASE = 0 ∧
        (s.side x).regsBut (fun o => o = F.CFG_STATUS_PHASE.off) (t.side x) ∧ (s.side x).onlyRegs (t.side x) ∧ t.pkg = s.pkg) ∧
    (n < 64 → s.pkg.hold.running s.pkg.hold.active = true → ∀ d, s.actSide.nextHost s.pkg n 0x7C = some d →
      s.actSide.flashRes s.pkg none true d.bytes = ⟨stSUCCESS, 0, 0⟩ →
      ∃ t, exec (.flashProgram n none true) s = .next t ∧
        t.pkg.flash = flashProgram (flashErase s.pkg.flash (flashArea (byteAt d.bytes 4)).1 (flashArea (byteAt d.bytes 4)).2)
          (flashArea (byteAt d.bytes 4)).1 (memRead s.pkg.host (dFld d.bytes 8 8) (dFld d.bytes 16 4)) ∧
        t.actSide.sqList n = startFirst (.done stSUCCESS 0 0) (s.actSide.sqList n) ∧ t.actSide.rf = s.actSide.rf)

/-- FUNCTION_LEVEL_RESET, D3HOT_ENTRY, PERST, SUPPLY_MONITOR_TRIP, SUPPLY_MONITOR_RELEASE and HOLD_DIE_ERROR (R82, R489, R498, R515). A
function's reset, or its transition to D3hot, leaves on every side that is alive each submission ring of the function (and of PF1 too where the
function is PF0) DISABLED with nothing in it and each completion ring DISABLED, and clears its MSI-X table; the first clears Bus
Master Enable, the second keeps it (model choice, log entry 80). PERST_N does the former to both functions and takes the link down. A trip of the hold
die's monitor leaves no side alive and no output driven; a trip of a side's monitor leaves that side not alive and the other as it
was, and the release gives the side its power back; a self-check error of the hold die enters SAFE with no side granted. -/
def Obligations.FunctionResetsAndSupplyMonitors : Prop :=
  (∀ (fn : Fn) (s : State) (c : Instr), (c = .functionLevelReset fn ∨ c = .d3hotEntry fn ∨ c = .perst) →
    ∃ t, exec c s = .next t ∧
      (∀ g, (g = fn ∨ c = .perst) → (∀ e ∈ t.pkg.pci.msix, e.1 / 0x200 ≠ fnNum g) ∧
        t.pkg.pci.bme g = (if c = .d3hotEntry fn then s.pkg.pci.bme g else false)) ∧
      (c = .perst → t.pkg.pci.linkUp = false) ∧
      ∀ x, s.pkg.hold.alive x = true → ∀ n, n < 64 → (fn = .pf0 ∨ ringFnNum n = .pf1 ∨ c = .perst) →
        (t.side x).sqState n = 0 ∧ (t.side x).sqList n = [] ∧ (t.side x).get (rState (.cq n)) = 0) ∧
  (∀ s : State, ∃ t, exec (.supplyMonitorTrip .hold) s = .next t ∧ t.pkg.hold.down = true ∧ (∀ x, t.pkg.hold.alive x = false) ∧
    t.pkg.hold.granted = false ∧ t.pkg.hold.pwm = [] ∧ t.pkg.hold.ssr = [] ∧ t.pkg.pci.linkUp = false ∧ t.pkg.fuses = s.pkg.fuses ∧
    t.pkg.host = s.pkg.host ∧ t.pkg.flash = s.pkg.flash) ∧
  (∀ (s : State) (x : SideId), s.pkg.hold.health x ≠ 1 → ∃ t, exec (.supplyMonitorTrip (.side x)) s = .next t ∧
    t.pkg.hold.alive x = false ∧ (t.pkg.hold.look x).lostPower = true ∧
    t.pkg.hold.alive (otherSide x) = s.pkg.hold.alive (otherSide x) ∧ t.sideA = s.sideA ∧ t.sideB = s.sideB) ∧
  (∀ (s : State) (x : SideId), ∃ t, exec (.supplyMonitorRelease (.side x)) s = .next t ∧ (t.pkg.hold.look x).lostPower = false ∧
    t.pkg.hold.rf = s.pkg.hold.rf ∧ t.sideA = s.sideA ∧ t.sideB = s.sideB) ∧
  ∀ s : State, ∃ t, exec .holdDieError s = .next t ∧ t.pkg.hold.flag F.HLD_TWN_STATUS_SAFE = true ∧ t.pkg.hold.granted = false ∧
    ∀ x, (s.side x).onlyRegs (t.side x)

/-- SNAP, SNAP_POSTED, ADJ_GO, RATE_GO, JUMP_ACCEPT, JUMP_DISCARD and TIM_TICK_WRITE (R30, R31, R33, R36, R43), on every side that
runs, each where its write is taken. SNAP clears VALID and captures raw time, device time, tick count and fine index; the posting
shows them, sets VALID and raises SEQ. An adjustment that keeps the slew remainder within JUMP_LIMIT joins it. A staged
rate of at most 1,000 ppm waits for the edge. JUMP_ACCEPT takes a pending jump, JUMP_DISCARD drops it. A permitted tick length in the PLATE
window waits for the edge with TICK_PENDING set. Nothing changes but these registers and the timebase's own state. -/
def Obligations.TimebaseCommands : Prop :=
  ∀ (v : Word) (s : State) (x : SideId), s.pkg.hold.running x = true →
    (s.accepts true 0xE00004 1 →
      ∃ t, exec .snap s = .next t ∧ (t.side x).get F.TIM_SNAP_STATUS_VALID = 0 ∧
        (t.side x).tim = { (s.side x).tim with snap := some (s.pkg.now, (s.side x).dev s.pkg, (s.side x).tim.count, (s.side x).tim.fine) } ∧
        (s.side x).regsBut (fun o => o = F.TIM_SNAP_STATUS_VALID.off) (t.side x)) ∧
    (∀ r dv c f, (s.side x).tim.snap = some (r, dv, c, f) → r < 2 ^ 64 → dv < 2 ^ 64 → c < 2 ^ 64 → f < 32 →
      ∃ t, exec .snapPosted s = .next t ∧ (t.side x).get64 F.TIM_SNAP_RAW_LO_VAL F.TIM_SNAP_RAW_HI_VAL = r ∧
        (t.side x).get64 F.TIM_SNAP_DEV_LO_VAL F.TIM_SNAP_DEV_HI_VAL = dv ∧
        (t.side x).get64 F.TIM_SNAP_TICK_LO_VAL F.TIM_SNAP_TICK_HI_VAL = c ∧ (t.side x).get F.TIM_SNAP_STATUS_FINE = f ∧
        (t.side x).get F.TIM_SNAP_STATUS_VALID = 1 ∧
        (t.side x).get F.TIM_SNAP_STATUS_SEQ = ((s.side x).get F.TIM_SNAP_STATUS_SEQ + 1) % 65536 ∧ (t.side x).tim.snap = none) ∧
    (s.accepts true 0xE00004 2 →
      ((s.side x).slewRem + toSigned 64 ((s.side x).get64 F.TIM_ADJ_LO_VAL F.TIM_ADJ_HI_VAL)).natAbs ≤ (s.side x).get F.TIM_JUMP_LIMIT_VAL →
      ((s.side x).slewRem + toSigned 64 ((s.side x).get64 F.TIM_ADJ_LO_VAL F.TIM_ADJ_HI_VAL)).natAbs < 2 ^ 31 →
      ∃ t, exec .adjGo s = .next t ∧
        (t.side x).slewRem = (s.side x).slewRem + toSigned 64 ((s.side x).get64 F.TIM_ADJ_LO_VAL F.TIM_ADJ_HI_VAL) ∧
        ((t.side x).get F.TIM_STATUS_SLEWING = 1 ↔ (t.side x).slewRem ≠ 0) ∧
        (s.side x).regsBut (fun o => o = F.TIM_SLEW_REM_VAL.off ∨ o = F.TIM_STATUS_SLEWING.off) (t.side x) ∧ (s.side x).onlyRegs (t.side x)) ∧
    (s.accepts true 0xE00004 4 →
      (toSigned 40 ((s.side x).get F.TIM_NEWRATE_LO_VAL + 2 ^ 32 * (s.side x).get F.TIM_NEWRATE_HI_VAL)).natAbs ≤ 1099511628 →
      ∃ t, exec .rateGo s = .next t ∧ (t.side x).get F.TIM_STATUS_RATE_PENDING = 1 ∧
        (t.side x).tim.stagedRate = ((s.side x).get F.TIM_NEWRATE_LO_VAL + 2 ^ 32 * (s.side x).get F.TIM_NEWRATE_HI_VAL) % 2 ^ 40 ∧
        (s.side x).regsBut (fun o => o = F.TIM_STATUS_RATE_PENDING.off) (t.side x)) ∧
    (s.accepts true 0xE00004 8 → (s.side x).flag F.TIM_STATUS_JUMP_PENDING = true →
      ∃ t, exec .jumpAccept s = .next t ∧ (t.side x).get F.TIM_STATUS_JUMP_PENDING = 0 ∧ (t.side x).get F.TIM_STATUS_JUMP_ACCEPTED = 1 ∧
        (s.side x).regsBut (fun o => o = F.TIM_STATUS_JUMP_PENDING.off) (t.side x) ∧ (s.side x).onlyRegs (t.side x)) ∧
    (s.accepts true 0xE00004 16 → ((s.side x).flag F.TIM_STATUS_JUMP_PENDING = true ∨ (s.side x).flag F.TIM_STATUS_JUMP_ACCEPTED = true) →
      ∃ t, exec .jumpDiscard s = .next t ∧ (t.side x).get F.TIM_STATUS_JUMP_PENDING = 0 ∧ (t.side x).get F.TIM_STATUS_JUMP_ACCEPTED = 0 ∧
        (t.side x).get64 F.TIM_OFFSET_LO_VAL F.TIM_OFFSET_HI_VAL = (s.side x).get64 F.TIM_OFFSET_LO_VAL F.TIM_OFFSET_HI_VAL ∧
        (t.side x).tim = (s.side x).tim) ∧
    (s.accepts true 0xE00090 v.toNat → (s.side x).plateWindow = true → tickOk (bits v.toNat 0 16) (bits v.toNat 16 16) = true →
      ∃ t, exec (.timTickWrite v) s = .next t ∧ (t.side x).get F.TIM_STATUS_TICK_PENDING = 1 ∧
        (t.side x).get F.TIM_TICK_NS = bits v.toNat 0 16 ∧ (t.side x).get F.TIM_TICK_PHASE = bits v.toNat 16 16 ∧
        (t.side x).tim = (s.side x).tim ∧
        (s.side x).regsBut (fun o => o = F.TIM_TICK_NS.off ∨ o = F.TIM_STATUS_TICK_PENDING.off) (t.side x) ∧ (s.side x).onlyRegs (t.side x))

/-- ALARM_ARM, ALARM_DISARM and ALARM_FIRE (R39, R40, R52, R476): arming copies the target, sets ARMED and clears FIRED and LATE, and
keeps whether the target is reached already; disarming clears ARMED; an armed alarm whose target device time has reached fires:
ARMED clears, FIRED is set, LATE tells whether the target was reached when it was armed; an alarm whose target is not reached does not
fire. -/
def Obligations.AlarmsArmAndFire : Prop :=
  ∀ (n k : Nat) (s : State) (x : SideId), n < 8 → s.pkg.hold.running x = true →
    (s.accepts true (0xE000A8 + 0x10 * n) 1 →
      ∃ t, exec (.alarmArm n) s = .next t ∧ (t.side x).get (F.TIM_ALM_CTRL_ARMED n) = 1 ∧ (t.side x).get (F.TIM_ALM_CTRL_FIRED n) = 0 ∧
        (t.side x).get (F.TIM_ALM_CTRL_LATE n) = 0 ∧
        tget (0, false) (t.side x).tim.alarms n = ((s.side x).get64 (F.TIM_ALM_LO_VAL n) (F.TIM_ALM_HI_VAL n),
          reached ((s.side x).dev s.pkg) ((s.side x).get64 (F.TIM_ALM_LO_VAL n) (F.TIM_ALM_HI_VAL n))) ∧
        (s.side x).regsBut (fun o => o = (F.TIM_ALM_CTRL_ARMED n).off) (t.side x)) ∧
    (s.accepts true (0xE000A8 + 0x10 * n) 2 →
      ∃ t, exec (.alarmDisarm n) s = .next t ∧ (t.side x).get (F.TIM_ALM_CTRL_ARMED n) = 0 ∧
        (t.side x).get (F.TIM_ALM_CTRL_FIRED n) = (s.side x).get (F.TIM_ALM_CTRL_FIRED n) ∧
        (s.side x).regsBut (fun o => o = (F.TIM_ALM_CTRL_ARMED n).off) (t.side x) ∧ (s.side x).onlyRegs (t.side x)) ∧
    ((s.side x).flag (F.TIM_ALM_CTRL_ARMED n) = true →
      reached ((s.side x).dev (s.pkg.advance k)) (tget (0, false) (s.side x).tim.alarms n).1 = true →
      ∃ t, exec (.alarmFire n k) s = .next t ∧ (t.side x).get (F.TIM_ALM_CTRL_ARMED n) = 0 ∧ (t.side x).get (F.TIM_ALM_CTRL_FIRED n) = 1 ∧
        (t.side x).get (F.TIM_ALM_CTRL_LATE n) = b2n (tget (0, false) (s.side x).tim.alarms n).2 ∧
        (t.side x).tim = (s.side x).tim ∧
        (s.side x).regsBut (fun o => o = (F.TIM_ALM_CTRL_ARMED n).off ∨ postRegs o) (t.side x) ∧ (s.side x).onlyRegs (t.side x)) ∧
    (reached ((s.side x).dev (s.pkg.advance k)) (tget (0, false) (s.side x).tim.alarms n).1 = false →
      ∃ t, exec (.alarmFire n k) s = .next t ∧ (t.side x).rf = (s.side x).rf ∧ (s.side x).onlyRegs (t.side x))

/-- CONTROL_TICK_EDGE, FINE_TICK_BOUNDARY and TICK_OVERRUN (R34, R36, R41, R42, R46). On the active side, running, with no
injection armed: a control tick edge that device time has reached raises the tick count by 1 and is fine index 0 of its tick; with
neither a step nor a tick change due, the next edge is the first edge of the tick in force after it, and the next boundary the first
boundary after it. Before the edge nothing but time moves. A fine-tick boundary that device time has reached inside a tick raises the
fine index by 1, and the next is the first boundary after it. Late work of the law engine leaves its outputs at the values of the tick
before, and nothing it was still to send is sent. No tick touches fuses, flash or fitted memory. -/
def Obligations.TicksCountAndOverrun : Prop :=
  ∀ (k : Nat) (s : State) (x : SideId), s.pkg.hold.running x = true →
    (s.pkg.hold.active = x → (s.side x).edgeDue (s.pkg.advance k) = true → s.pkg.hold.get F.HLD_INJ_STATUS_STATE ≠ 1 →
      ∃ t, exec (.controlTickEdge k) s = .next t ∧ s.pkg.keeps t.pkg ∧
        (t.side x).tim.count = ((s.side x).tim.count + 1) % 2 ^ 64 ∧ (t.side x).tim.fine = 0 ∧
        ((s.side x).jumpDue = false → (s.side x).flag F.TIM_STATUS_TICK_PENDING = false →
          (t.side x).tim.nextEdge = (s.side x).tim.nextEdgeAfter (s.side x).tim.nextEdge ∧
          (t.side x).tim.nextFine = (s.side x).tim.nextFineAfter (s.side x).tim.nextEdge ∧
          (t.side x).tim.tickNs = (s.side x).tim.tickNs)) ∧
    (s.pkg.hold.active = x → (s.side x).edgeDue (s.pkg.advance k) = false →
      exec (.controlTickEdge k) s = .next (s.advance k)) ∧
    ((s.side x).fineDue (s.pkg.advance k) = true →
      ∃ t, exec (.fineTickBoundary k) s = .next t ∧ s.pkg.keeps t.pkg ∧
        (t.side x).tim = (s.side x).timFine.tim) ∧
    (∃ t, exec (.tickOverrun x .law) s = .next t ∧ s.pkg.keeps t.pkg ∧ (t.side x).tim = (s.side x).tim ∧
      (t.side x).law = { (s.side x).law with
                         duty := (s.side x).prev.duty, ssr := (s.side x).prev.ssr, iref := (s.side x).prev.iref, due := [] } ∧
      t.side (otherSide x) = { s.side (otherSide x) with out := (t.side (otherSide x)).out })

/-- REGISTER_WRITE, UNMAPPED_ACCESS and BAD_ACCESS (R12, R57, R58, R60). A 4-byte write through PF0 to a register of a side
above region 0 that has neither a command nor a rule of its own, is present and meets windows, locks and ranges makes the register what
its fields' access types make of the written word and changes nothing else of that side; where it does not meet them, it is
refused as R12 says. A write that is not aligned does what BAD_ACCESS does. An access to an offset where nothing lies sets UNMAPPED, and
BAD_ACCESS its flag, on every side that is powered, and changes no register beside HIF_STATUS and the event block's. -/
def Obligations.RegisterAccesses : Prop :=
  ∀ (fn : Fn) (a : Nat) (v : Word) (s : State) (x : SideId),
    (∀ r ix, s.pkg.hold.running x = true → a % 4 = 0 → a < 0x3F00000 → 0x100000 ≤ a → regFind a = some (r, ix) →
      regAbsent s.pkg.fuses.is7708 r ix = false → cmdBits State.peek r.base (ix.getD 0 0) = [] →
      r.base ∉ [0x10008, 0x20008, 0x30008, 0x100054, 0xE00090, 0x301000, 0x880038, 0x88003C, 0x400000, 0xA00000, 0xC00100,
        0x880010, 0xF00010, 0xF01000, 0xB30100, 0xB00000, 0xB10000, 0xB20000, 0x500014, 0x1210000, 0x1210004] → s.accepts true a v.toNat → (s.side x).staleAt a = false →
      ((s.side x).regOk s.pkg r ix a v.toNat = true →
        ∃ t, exec (.registerWrite .pf0 0 a v) s = .next t ∧ (t.side x).word a = rowNew r ((s.side x).word a) v.toNat % 2 ^ 32 ∧
          (s.side x).regsBut (fun o => o = a) (t.side x) ∧ (s.side x).onlyRegs (t.side x)) ∧
      ((s.side x).regOk s.pkg r ix a v.toNat = false → (s.side x).lawTakes r.base ix (rowNew r ((s.side x).word a) v.toNat) = false →
        ∃ t, exec (.registerWrite .pf0 0 a v) s = .next t ∧ t.side x = { (s.side x).refuse s.pkg a with out := (t.side x).out })) ∧
    (a % 4 ≠ 0 → a < bar0Size fn → exec (.registerWrite fn 0 a v) s = exec (.badAccess fn) s) ∧
    (∀ bar, a % 4 = 0 → barFree fn bar a = true → s.takes 0x10000 = true → s.pkg.hold.alive x = true →
      ∃ t, exec (.unmappedAccess fn bar a) s = .next t ∧ (t.side x).get F.HIF_STATUS_UNMAPPED = 1 ∧
        (s.side x).regsBut (fun o => o = 0 ∨ postRegs o) (t.side x) ∧ (s.side x).onlyRegs (t.side x)) ∧
    (s.takes 0x10000 = true → s.pkg.hold.alive x = true →
      ∃ t, exec (.badAccess fn) s = .next t ∧ (t.side x).get F.HIF_STATUS_BAD_ACCESS = 1 ∧
        (s.side x).regsBut (fun o => o = 0 ∨ postRegs o) (t.side x) ∧ (s.side x).onlyRegs (t.side x))

/-- COPY, FILL and FLUSH (R94, R95, R97 to R99): ring n's next descriptor, on an idle channel of an active group, runs there when it
passes its checks: it is the channel's current transfer, BUSY is set, and no memory changes yet. A bad field, or the first
failed check of R94, retires it with that status, and PROGRESS reads 0 for COPY and FILL. Nothing else of the side changes but the
throttle's own account. -/
def Obligations.DmaDescriptorsStart : Prop :=
  ∀ (n : Nat) (s : State) (x : SideId), n < 64 → s.pkg.hold.running x = true → (s.side x).sqTarget n < 32 →
    ((s.side x).ch ((s.side x).sqTarget n)).cur = none → (s.side x).groupOn 0 = true →
    (∀ c op e, c = .copy n ∧ op = 0x10 ∨ c = .fill n ∧ op = 0x11 → (s.side x).nextStart n op = some e →
      (copyDescBad e.bytes = none → (s.side x).xferCheck s.pkg (descXfer (ringFnNum n) n e) = none →
        ∃ t, exec c s = .next t ∧ ((t.side x).ch ((s.side x).sqTarget n)).cur = some (descXfer (ringFnNum n) n e) ∧
          (t.side x).sqList n = startFirst .running ((s.side x).sqList n) ∧
          (t.side x).get (F.DMA_STATUS_BUSY ((s.side x).sqTarget n)) = 1 ∧
          (s.side x).regsBut (fun o => o = (F.DMA_STATUS_BUSY ((s.side x).sqTarget n)).off) (t.side x) ∧
          (t.side x).dram = (s.side x).dram) ∧
      (∀ r, copyDescBad e.bytes = none → (s.side x).xferCheck s.pkg (descXfer (ringFnNum n) n e) = some r →
        ∃ t, exec c s = .next t ∧ (t.side x).sqList n = startFirst (.done r.status r.r0 r.r1) ((s.side x).sqList n) ∧
          (t.side x).get (F.DMA_PROGRESS_BYTES ((s.side x).sqTarget n)) = 0 ∧ (t.side x).dma = (s.side x).dma ∧
          (s.side x).regsBut (fun o => o = (F.DMA_PROGRESS_BYTES ((s.side x).sqTarget n)).off) (t.side x) ∧
          (t.side x).dram = (s.side x).dram) ∧
      (∀ o, copyDescBad e.bytes = some o →
        ∃ t, exec c s = .next t ∧ (t.side x).sqList n = startFirst (.done stBAD_FIELD 0 o) ((s.side x).sqList n) ∧
          (t.side x).get (F.DMA_PROGRESS_BYTES ((s.side x).sqTarget n)) = 0 ∧
          (t.side x).dma = (s.side x).dma ∧ (t.side x).dram = (s.side x).dram)) ∧
    (∀ e, (s.side x).nextStart n 0x12 = some e →
      (flushDescBad e.bytes = none → (descXfer (ringFnNum n) n e).dstSpace < 2 →
        ∃ t, exec (.flush n) s = .next t ∧ ((t.side x).ch ((s.side x).sqTarget n)).cur =
            some { descXfer (ringFnNum n) n e with isFlush := true, fence := some (descXfer (ringFnNum n) n e).dst, desc := false } ∧
          (t.side x).sqList n = startFirst .running ((s.side x).sqList n) ∧
          (t.side x).get (F.DMA_STATUS_BUSY ((s.side x).sqTarget n)) = 1 ∧ (t.side x).dram = (s.side x).dram) ∧
      (flushDescBad e.bytes = none → 2 ≤ (descXfer (ringFnNum n) n e).dstSpace →
        ∃ t, exec (.flush n) s = .next t ∧ (t.side x).sqList n = startFirst (.done stDMA_BAD_SPACE 0 0) ((s.side x).sqList n) ∧
          (t.side x).rf = (s.side x).rf ∧ (t.side x).dma = (s.side x).dma ∧ (t.side x).dram = (s.side x).dram))

/-- DMA_TRANSFER_COMPLETE, FENCE_COMPLETE, HALF and DMA_TRANSFER_ERROR (R103, R104, R106, R107), on a channel that runs a ring's
transfer. The last burst of the one transfer that moves writes its bytes; then the descriptor is finished with SUCCESS, its length and
the direction in RESULT1, or the fence begins where FLUSH_AFTER is set. A fence that completes finishes a COPY or FILL so too, and a
FLUSH with the word read; one whose host read fails, with HOST_FAULT and the address. The half point is passed by the burst that brings
half the bytes out. A host access that fails finishes the transfer with HOST_FAULT, and PROGRESS is the bytes written by then. An ended transfer
leaves the channel idle. -/
def Obligations.DmaTransfersEnd : Prop :=
  ∀ (ch : Nat) (s : State) (x : SideId) (xf : Xfer), ch < 32 → s.pkg.hold.running x = true → ((s.side x).ch ch).cur = some xf →
    xf.sh = none → xf.len < 2 ^ 32 →
    (xf.fence = none → xf.mayRun s.pkg = true → (s.side x).paused ch = false → (∀ c, c ≠ ch → ((s.side x).ch c).cur = none) →
      xf.isFlush = false → (s.side x).burstEcc xf = none → xf.written < xf.len →
      (xf.written + xf.burst xf.written = xf.len → xf.flushAfter = false →
        ∃ t, exec (.dmaTransferComplete ch) s = .next t ∧
          (t.side x).sqList xf.ring = finishSlot xf.slot ⟨stSUCCESS, xf.len, b2n xf.desc⟩ ((s.side x).sqList xf.ring) ∧
          ((t.side x).ch ch).cur = none ∧ (t.side x).get (F.DMA_STATUS_BUSY ch) = 0 ∧
          (t.side x).get (F.DMA_PROGRESS_BYTES ch) = xf.len ∧
          (t.side x).dram = ((s.side x).xferMove s.pkg xf xf.len).dram) ∧
      (xf.written + xf.burst xf.written = xf.len → xf.flushAfter = true →
        ∃ t, exec (.dmaTransferComplete ch) s = .next t ∧
          ((t.side x).ch ch).cur = some { xf with written := xf.len, halfPosted := true, fence := some (fenceAddr xf) } ∧
          (t.side x).dram = ((s.side x).xferMove s.pkg xf xf.len).dram) ∧
      (xf.half = true → xf.halfPosted = false → xf.written < ceilDiv xf.len 2 →
        ceilDiv xf.len 2 ≤ xf.written + xf.burst xf.written →
        ∃ t, exec (.half ch) s = .next t ∧
          ((t.side x).ch ch).cur = some { xf with written := xf.written + xf.burst xf.written, halfPosted := true } ∧
          (t.side x).dram = ((s.side x).xferMove s.pkg xf (xf.written + xf.burst xf.written)).dram)) ∧
    (∀ a ok, xf.fence = some a → (xf.dstSpace = 0 → s.pkg.pci.bme xf.fn = true) →
      ∃ t, exec (.fenceComplete ch ok) s = .next t ∧ ((t.side x).ch ch).cur = none ∧ (t.side x).get (F.DMA_STATUS_BUSY ch) = 0 ∧
        (t.side x).dram = (s.side x).dram ∧
        (ok = false → xf.dstSpace = 0 →
          (t.side x).sqList xf.ring = finishSlot xf.slot (hostFaultRes a) ((s.side x).sqList xf.ring)) ∧
        (ok = true ∨ xf.dstSpace ≠ 0 → xf.isFlush = false → (t.side x).get (F.DMA_PROGRESS_BYTES ch) = xf.len ∧
          (t.side x).sqList xf.ring = finishSlot xf.slot ⟨stSUCCESS, xf.len, b2n xf.desc + 2 * b2n xf.flushAfter⟩
            ((s.side x).sqList xf.ring)) ∧
        (ok = true ∨ xf.dstSpace ≠ 0 → xf.isFlush = true → (t.side x).sqList xf.ring =
          finishSlot xf.slot ⟨stSUCCESS, if xf.dstSpace = 0 then leNat (memRead s.pkg.host a 4) else 0, 0⟩
            ((s.side x).sqList xf.ring))) ∧
    (∀ a n, xf.fence = none → max xf.written n < xf.len → (s.side x).paused ch = false → xf.isFlush = false →
      xf.pattern = none → xf.srcSpace = 0 →
      ∃ t, exec (.dmaTransferError ch (.hostFault a) n) s = .next t ∧
        (t.side x).sqList xf.ring = finishSlot xf.slot (hostFaultRes a) ((s.side x).sqList xf.ring) ∧ ((t.side x).ch ch).cur = none ∧
        (t.side x).get (F.DMA_STATUS_BUSY ch) = 0 ∧ (t.side x).get (F.DMA_PROGRESS_BYTES ch) = max xf.written n)

/-- SHADOW_ARM and SHADOW_DISARM (R108 to R112), each where its write is taken, of a set that is not armed or running on a channel
outside RING mode and outside the set's hand-over window. ARM on a channel that runs a transfer stores the write's fields, sets
ARMED, clears VALID, and the set waits last in the order of arming; on an idle channel with nothing armed the set runs at once where its checks pass:
RUNNING and BUSY are set and CUR_SH names it. DISARM of an armed set on a channel that runs a transfer takes it out without a result. No
memory changes. -/
def Obligations.ShadowSets : Prop :=
  ∀ (ch sh : Nat) (v : Word) (s : State) (x : SideId), ch < 32 → sh < 2 → s.pkg.hold.running x = true →
    s.accepts true (0x100054 + 0x1000 * ch + 0x40 * sh) v.toNat →
    (bit v.toNat 8 = true → bit v.toNat 9 = false → (s.side x).shBusy ch sh = false → (s.side x).dmaMode ch ≠ 1 →
      ((s.side x).ch ch).wins = [] →
      (((s.side x).ch ch).cur.isSome = true →
        ∃ t, exec (.shadowArm ch sh v) s = .next t ∧ (t.side x).get (F.DMA_SH_STATE_ARMED ch sh) = 1 ∧
          (t.side x).get (F.DMA_SH_STATE_VALID ch sh) = 0 ∧ (t.side x).word (0x100054 + 0x1000 * ch + 0x40 * sh) = bits v.toNat 0 7 ∧
          ((t.side x).ch ch).armed.map (·.val) = ((s.side x).ch ch).armed.map (·.val) ++ [sh] ∧ ((t.side x).ch ch).cur = ((s.side x).ch ch).cur ∧
          (t.side x).dram = (s.side x).dram ∧ (t.side x).hif = (s.side x).hif) ∧
      (((s.side x).ch ch).cur = none → ((s.side x).ch ch).armed = [] → (s.side x).groupOn 0 = true →
        ∀ X, X = ((s.side x).setWord (0x100054 + 0x1000 * ch + 0x40 * sh) (bits v.toNat 0 7)).shXfer ch sh →
        (s.side x).xferCheck s.pkg X = none →
        ∃ t, exec (.shadowArm ch sh v) s = .next t ∧ ((t.side x).ch ch).cur = some X ∧ ((t.side x).ch ch).armed = [] ∧
          (t.side x).get (F.DMA_SH_STATE_ARMED ch sh) = 0 ∧ (t.side x).get (F.DMA_SH_STATE_RUNNING ch sh) = 1 ∧
          (t.side x).get (F.DMA_SH_STATE_VALID ch sh) = 0 ∧ (t.side x).get (F.DMA_STATUS_BUSY ch) = 1 ∧
          (t.side x).get (F.DMA_STATUS_CUR_SH ch) = sh ∧ (t.side x).dram = (s.side x).dram ∧ (t.side x).hif = (s.side x).hif)) ∧
    (bit v.toNat 8 = false → bit v.toNat 9 = true → bits v.toNat 0 7 = (s.side x).word (0x100054 + 0x1000 * ch + 0x40 * sh) →
      (s.side x).flag (F.DMA_SH_STATE_RUNNING ch sh) = false → ((s.side x).ch ch).cur.isSome = true →
      ∃ t, exec (.shadowDisarm ch sh v) s = .next t ∧ (t.side x).get (F.DMA_SH_STATE_ARMED ch sh) = 0 ∧
        ((t.side x).ch ch).armed = ((s.side x).ch ch).armed.filter (·.val ≠ sh) ∧ ((t.side x).ch ch).cur = ((s.side x).ch ch).cur ∧
        (t.side x).get (F.DMA_SH_STATE_VALID ch sh) = (s.side x).get (F.DMA_SH_STATE_VALID ch sh) ∧
        (t.side x).dram = (s.side x).dram ∧ (t.side x).hif = (s.side x).hif)

/-- JOB_OPEN, JOB_STAGED and JOB_CLOSE (R131, R136, R137, R139), of ring n's next descriptor. JOB_OPEN that passes its checks
opens the job slot it names: JOB_ID, ENC and PLATES from the header, the data window from the descriptor, the index entries from
the table, and STAGED at the first block's offset; RESULT0 is the count of entries and RESULT1 of plates. One that fails retires with its first failed check and no
slot changes. JOB_STAGED from the bytes staged already up to the stream's length and one window beyond CONSUMED moves STAGED; on a slot that is not open it is
REFUSED. JOB_CLOSE of an open slot that no plate record uses closes it. -/
def Obligations.JobsOpenStageAndClose : Prop :=
  ∀ (n : Nat) (s : State) (x : SideId) (e : Desc), n < 64 → s.pkg.hold.running x = true →
    ((s.side x).nextStart n 0x30 = some e →
      (∀ h rows, jobOpenBad e.bytes = none → (s.side x).jobOpenCheck s.pkg (byteAt e.bytes 4 % 4) e.bytes = .ok (h, rows) →
        ∃ t, exec (.jobOpen n) s = .next t ∧
          (t.side x).sqList n = startFirst (.done stSUCCESS (leAt h 16 4) (leAt h 20 2)) ((s.side x).sqList n) ∧
          (t.side x).slotOpen (byteAt e.bytes 4 % 4) = true ∧ (t.side x).jobId (byteAt e.bytes 4 % 4) = leAt h 8 8 ∧
          (t.side x).get (F.STR_JOB_STATE_ENC (byteAt e.bytes 4 % 4)) = leAt h 6 2 % 2 ∧
          (t.side x).get (F.STR_JOB_STATE_PLATES (byteAt e.bytes 4 % 4)) = leAt h 20 2 ∧
          (t.side x).staged (byteAt e.bytes 4 % 4) = (((rows.map entOf).head?).map (·.off)).getD 0 % 2 ^ 64 ∧
          (t.side x).job (byteAt e.bytes 4 % 4) =
            { base := dFld e.bytes 16 8, win := dFld e.bytes 24 4, len := leAt h 24 8, ents := rows.map entOf } ∧
          (t.side x).dram = (s.side x).dram) ∧
      (∀ r, (∃ o, jobOpenBad e.bytes = some o ∧ r = badField o) ∨
          (jobOpenBad e.bytes = none ∧ (s.side x).jobOpenCheck s.pkg (byteAt e.bytes 4 % 4) e.bytes = .error r) →
        ∃ t, exec (.jobOpen n) s = .next t ∧ (t.side x).sqList n = startFirst (.done r.status r.r0 r.r1) ((s.side x).sqList n) ∧
          (t.side x).str = (s.side x).str ∧ (t.side x).dram = (s.side x).dram)) ∧
    ((s.side x).nextStart n 0x31 = some e → byteAt e.bytes 4 < 4 → rsvCheck e.bytes [(5, 3), (16, 48)] = none →
      ((s.side x).slotOpen (byteAt e.bytes 4) = true → (s.side x).staged (byteAt e.bytes 4) ≤ dFld e.bytes 8 8 →
        dFld e.bytes 8 8 ≤ ((s.side x).job (byteAt e.bytes 4)).len →
        dFld e.bytes 8 8 ≤ (s.side x).consumed (byteAt e.bytes 4) + ((s.side x).job (byteAt e.bytes 4)).win →
        ∃ t, exec (.jobStaged n) s = .next t ∧
          (t.side x).sqList n = startFirst (.done stSUCCESS ((s.side x).consumed (byteAt e.bytes 4)) 0) ((s.side x).sqList n) ∧
          (t.side x).staged (byteAt e.bytes 4) = dFld e.bytes 8 8 ∧ (t.side x).str = (s.side x).str ∧
          (s.side x).regsBut (fun o => o = (F.STR_JOB_STAGED_LO_STAGED (byteAt e.bytes 4)).off ∨
            o = (F.STR_JOB_STAGED_HI_STAGED (byteAt e.bytes 4)).off) (t.side x)) ∧
      ((s.side x).slotOpen (byteAt e.bytes 4) = false →
        ∃ t, exec (.jobStaged n) s = .next t ∧ (t.side x).sqList n = startFirst (.done stREFUSED 0 1) ((s.side x).sqList n) ∧
          (t.side x).str = (s.side x).str ∧ (t.side x).rf = (s.side x).rf)) ∧
    ((s.side x).nextStart n 0x32 = some e → byteAt e.bytes 4 < 4 → firstNonZero e.bytes 5 59 = none →
      (s.side x).slotInUse (byteAt e.bytes 4) = false → (s.side x).slotOpen (byteAt e.bytes 4) = true →
      ∃ t, exec (.jobClose n) s = .next t ∧ (t.side x).sqList n = startFirst (.done stSUCCESS 0 0) ((s.side x).sqList n) ∧
        (t.side x).slotOpen (byteAt e.bytes 4) = false ∧ (t.side x).job (byteAt e.bytes 4) = {} ∧
        (t.side x).jobId (byteAt e.bytes 4) = 0 ∧ (t.side x).staged (byteAt e.bytes 4) = 0 ∧ (t.side x).dram = (s.side x).dram)

/-- DECOMPRESS, DECOMPRESS_CONTINUE, COMPRESS, CONTEXT_DROP and STRUDEL_REQUEST_DONE (R140, R145 to R152), of ring n. A request that passes
its checks takes the lowest free engine of its kind, where no running command names its context and neither the plate feed nor telemetry goes before it, and
runs there; the first failed check retires it. CONTEXT_DROP of a suspended context frees it; of another it retires with
STR_CONTEXT. A COMPRESS that finishes on DRAM writes its block and retires with SUCCESS, the block's length and the input's CRC, or with STR_NO_GAIN where the engine found none; a DECOMPRESS
that finishes on DRAM, of a block that is valid and whole in its space, writes the output and retires with SUCCESS and its CRC. -/
def Obligations.RequestsStartAndFinish : Prop :=
  ∀ (n : Nat) (s : State) (x : SideId) (e : Desc), n < 64 → s.pkg.hold.running x = true →
    (∀ c op, c = .decompress n ∧ op = 0x34 ∨ c = .decompressContinue n ∧ op = 0x35 → (s.side x).nextStart n op = some e →
      (s.side x).groupOn 1 = true → (s.side x).ctxRunning (reqCtx e.bytes) = false →
      ((if op = 0x34 then (s.side x).decCheck s.pkg e.bytes else (s.side x).contCheck s.pkg e.bytes) = none →
        (s.side x).reqRoom = true → (s.side x).feedPick = none → ∀ g, (s.side x).freeDec = some g →
        ∃ t, exec c s = .next t ∧ (t.side x).decWork g = .req n e.slot ∧
          (t.side x).sqList n = startFirst .running ((s.side x).sqList n) ∧ (t.side x).dram = (s.side x).dram) ∧
      (∀ r, (if op = 0x34 then (s.side x).decCheck s.pkg e.bytes else (s.side x).contCheck s.pkg e.bytes) = some r →
        ∃ t, exec c s = .next t ∧ (t.side x).sqList n = startFirst (.done r.status r.r0 r.r1) ((s.side x).sqList n) ∧
          (t.side x).str = (s.side x).str ∧ (t.side x).dram = (s.side x).dram)) ∧
    ((s.side x).nextStart n 0x38 = some e → (s.side x).groupOn 2 = true →
      ((s.side x).cmpCheck s.pkg e.bytes = none → (s.side x).chunkWaits = false → ∀ g, (s.side x).freeCmp = some g →
        ∃ t, exec (.compress n) s = .next t ∧ (t.side x).cmpWork g = .req n e.slot ∧
          (t.side x).sqList n = startFirst .running ((s.side x).sqList n) ∧ (t.side x).dram = (s.side x).dram) ∧
      (∀ r, (s.side x).cmpCheck s.pkg e.bytes = some r →
        ∃ t, exec (.compress n) s = .next t ∧ (t.side x).sqList n = startFirst (.done r.status r.r0 r.r1) ((s.side x).sqList n) ∧
          (t.side x).str = (s.side x).str ∧ (t.side x).dram = (s.side x).dram)) ∧
    ((s.side x).nextStart n 0x36 = some e → (s.side x).ctxRunning (reqCtx e.bytes) = false →
      dFld e.bytes 4 4 = 2 ^ 8 * reqCtx e.bytes → firstNonZero e.bytes 8 56 = none →
      (((s.side x).ctxOf (reqCtx e.bytes)).isSome = true →
        ∃ t, exec (.contextDrop n) s = .next t ∧ (t.side x).ctxOf (reqCtx e.bytes) = none ∧
          (t.side x).sqList n = startFirst (.done stSUCCESS 0 0) ((s.side x).sqList n)) ∧
      ((s.side x).ctxOf (reqCtx e.bytes) = none →
        ∃ t, exec (.contextDrop n) s = .next t ∧ (t.side x).str = (s.side x).str ∧
          (t.side x).sqList n = startFirst (.done stSTR_CONTEXT 0 (reqCtx e.bytes)) ((s.side x).sqList n))) ∧
    (((s.side x).sqList n).find? (fun y => y.slot == e.slot && y.st == .running) = some e →
      (s.side x).reqRuns n e.slot = true → bits (dFld e.bytes 4 4) 0 2 = 1 → bits (dFld e.bytes 4 4) 2 2 = 1 →
      (∀ l, dOpcode e.bytes = 0x38 → (s.side x).eccIn false (dFld e.bytes 8 8) (dFld e.bytes 24 4) = none →
        l = memRead (s.side x).dram (dFld e.bytes 8 8) (dFld e.bytes 24 4) →
        ∃ u, exec (.strudelRequestDone n e.slot none) s = .next u ∧
          (∀ t, compressPayload l (dFld e.bytes 28 2) = some t →
            (u.side x).dram = memWrite (s.side x).dram (dFld e.bytes 16 8) (mkBlock 0 l (dFld e.bytes 28 2) t) ∧
            (u.side x).sqList n = finishSlot e.slot ⟨stSUCCESS, 20 + t.length, crc32c l⟩ ((s.side x).sqList n)) ∧
          (compressPayload l (dFld e.bytes 28 2) = none →
            (u.side x).sqList n = finishSlot e.slot ⟨stSTR_NO_GAIN, 0, crc32c l⟩ ((s.side x).sqList n))) ∧
      (∀ h b o, dOpcode e.bytes = 0x34 → h = memRead (s.side x).dram (dFld e.bytes 8 8) 16 →
        (s.side x).eccIn false (dFld e.bytes 8 8) 16 = none → headerCheck h = none → hSize h ≤ dFld e.bytes 24 4 → hEnc h = false →
        (s.side x).eccIn false (dFld e.bytes 8 8) (hSize h) = none → b = memRead (s.side x).dram (dFld e.bytes 8 8) (hSize h) →
        hULen b ≤ dFld e.bytes 28 4 → payloadDecode h ((b.drop 16).take (hCLen h)) = ⟨o, none⟩ → o.length ≤ dFld e.bytes 28 4 →
        leAt b (16 + hCLen b) 4 = crc32c o →
        ∃ u, exec (.strudelRequestDone n e.slot none) s = .next u ∧
          (u.side x).dram = memWrite (s.side x).dram (dFld e.bytes 16 8) o ∧
          (u.side x).ctxOf (reqCtx e.bytes) = none ∧
          (u.side x).sqList n = finishSlot e.slot ⟨stSUCCESS, o.length, crc32c o⟩ ((s.side x).sqList n)))

/-- BLOCK_ASSIGN and BLOCK_DECODED (R138, R140, R141). The block that the plate feed picks takes the lowest free engine, with the job's
key where it is encrypted, and its bytes are reserved last in its channel's buffer; without a key it fails, and LAST_ERR names it. A block
that decodes leaves its engine, and its output takes its place in the buffer: it is consumed at once where its plate runs, else
decoded. One that does not decode fails and LAST_ERR names it. -/
def Obligations.PlateFeedBlocks : Prop :=
  ∀ (s : State) (x : SideId), s.pkg.hold.running x = true →
    (∀ eng r idx e h, (s.side x).groupOn 1 = true → (s.side x).freeDec = some eng → (s.side x).feedPick = some (r, idx, e) →
      h = (s.side x).winRead ((s.side x).job ((s.side x).recSlot r)) e.off 16 →
      (∀ k, (k = 0 ∧ (s.side x).flag (F.STR_JOB_STATE_ENC ((s.side x).recSlot r)) = false ∧ hEnc h = false ∨
          ((s.side x).flag (F.STR_JOB_STATE_ENC ((s.side x).recSlot r)) = true ∨ hEnc h = true) ∧
            (s.side x).jobKey ((s.side x).jobId ((s.side x).recSlot r)) = .ok k) →
        ∃ t, exec .blockAssign s = .next t ∧ (t.side x).decWork eng = .feed ((s.side x).recSlot r) idx r k ∧
          (t.side x).buf e.chan = (s.side x).buf e.chan ++ [⟨r, idx, hULen h, none⟩] ∧
          ((t.side x).job ((s.side x).recSlot r)).ents =
            ((s.side x).job ((s.side x).recSlot r)).ents.modify idx (fun e => { e with st := .onEngine }) ∧
          (t.side x).dram = (s.side x).dram) ∧
      (∀ why, ((s.side x).flag (F.STR_JOB_STATE_ENC ((s.side x).recSlot r)) = true ∨ hEnc h = true) → idx < 2 ^ 31 →
        (s.side x).recSlot r < 4 → (s.side x).jobKey ((s.side x).jobId ((s.side x).recSlot r)) = .error why →
        ∃ t, exec .blockAssign s = .next t ∧ ((t.side x).job ((s.side x).recSlot r)).ents =
            ((s.side x).job ((s.side x).recSlot r)).ents.modify idx (fun e => { e with st := .failed }) ∧
          (t.side x).str.bufs = (s.side x).str.bufs ∧ (t.side x).str.dec = (s.side x).str.dec ∧
          (t.side x).get (F.STR_JOB_LAST_ERR_BLOCK ((s.side x).recSlot r)) = idx ∧
          (t.side x).get (F.STR_JOB_LAST_ERR_VALID ((s.side x).recSlot r)) = 1)) ∧
    (∀ eng j idx r k e, eng < 8 → (s.side x).decWork eng = .feed j idx r k → e = ((s.side x).job j).ents.getD idx default →
      (∀ out, (s.side x).blockDecode j idx e (.ok k) = .ok out →
        ∃ t, exec (.blockDecoded eng) s = .next t ∧ (t.side x).decWork eng = .idle ∧
          (t.side x).buf e.chan = ((s.side x).buf e.chan).map (fun y =>
            if y.pl = r && y.idx = idx then { y with ulen := out.length, data := some out } else y) ∧
          ((t.side x).job j).ents = ((s.side x).job j).ents.modify idx
            (fun e => { e with st := if (s.side x).recRunning r then .consumed else .decoded })) ∧
      (∀ st r1, j < 4 → idx < 2 ^ 31 → (s.side x).blockDecode j idx e (.ok k) = .error (st, r1) →
        ∃ t, exec (.blockDecoded eng) s = .next t ∧ (t.side x).decWork eng = .idle ∧ (t.side x).str.bufs = (s.side x).str.bufs ∧
          ((t.side x).job j).ents = ((s.side x).job j).ents.modify idx (fun e => { e with st := .failed }) ∧
          (t.side x).get (F.STR_JOB_LAST_ERR_BLOCK j) = idx ∧ (t.side x).get (F.STR_JOB_LAST_ERR_VALID j) = 1))

/-- PLATE_COMMIT, GATE_QUERY, PLATE_ABORT and PLATE_WAIT on ring n (R161, R165 to R167). A commit whose descriptor, metadata and
pipelines pass is COMMITTED into the record it takes where the gate's bits are 0, and retires with SUCCESS and that record; else it retires with
PLN_GATE and the bits, as PLN_COMMIT_STATUS shows. A query answers the same and commits nothing. An abort releases a COMMITTED or WAITING record,
posts cause 1 on a STARTED or ENDING one and is refused with PLN_STATE on another. A wait on an ended record retires at once with its end time, and
on an active one runs. A descriptor with a bad field retires with BAD_FIELD. -/
def Obligations.PlatesCommitAbortAndWait : Prop :=
  ∀ (n : Nat) (s : State) (x : SideId) (e : Desc), n < 64 → s.pkg.hold.running x = true →
    (∀ c op q, c = .plateCommit n ∧ op = 0x40 ∧ q = false ∨ c = .gateQuery n ∧ op = 0x41 ∧ q = true → (s.side x).nextStart n op = some e →
      (s.side x).groupOn 1 = true →
      (∀ v, (s.side x).commitEarly e.bytes q = .error v → ∃ t, exec c s = .next t ∧
        (t.side x).sqList n = startFirst (.done v.res.status v.res.r0 v.res.r1) ((s.side x).sqList n) ∧
        ∀ k, k < 4 → (t.side x).recState k = (s.side x).recState k) ∧
      (∀ ix en d m, (s.side x).commitEarly e.bytes q = .ok (ix, en) →
        Side.commitMeta s.pkg (s.side x) (byteAt e.bytes 4 % 4) ix en = (d, .ok m) → d.plateCheck s.pkg m = none →
        ∀ g, d.gateCommit ⟨byteAt e.bytes 4 % 4, en.plate, bits (byteAt e.bytes 4) 4 3, dFld e.bytes 16 8, m⟩ = g →
        (g.1 = 0 → q = false → ∀ r, d.freeRec = some r → ∃ t, exec c s = .next t ∧ (t.side x).recState r = 1 ∧
          (t.side x).recSlot r = byteAt e.bytes 4 % 4 ∧ (t.side x).mdat r = m ∧
          (t.side x).sqList n = startFirst (.done stSUCCESS r 0) ((s.side x).sqList n)) ∧
        (g.1 = 0 → q = true → ∃ t, exec c s = .next t ∧ (∀ k, k < 4 → (t.side x).recState k = (s.side x).recState k) ∧
          (t.side x).sqList n = startFirst (.done stSUCCESS 0 0) ((s.side x).sqList n)) ∧
        (g.1 ≠ 0 → ∃ t, exec c s = .next t ∧ (∀ k, k < 4 → (t.side x).recState k = (s.side x).recState k) ∧
          (t.side x).get F.PLN_COMMIT_STATUS_FAILED = g.1 % 512 ∧
          (t.side x).sqList n = startFirst (.done stPLN_GATE 0 (g.1 + 2 ^ 9 * g.2)) ((s.side x).sqList n)))) ∧
    (∀ c op, c = .plateAbort n ∧ op = 0x42 ∨ c = .plateWait n ∧ op = 0x43 → (s.side x).nextStart n op = some e →
      ∀ o, recFieldBad e.bytes = some o → ∃ t, exec c s = .next t ∧
        (t.side x).sqList n = startFirst (.done stBAD_FIELD 0 o) ((s.side x).sqList n) ∧ (t.side x).pln = (s.side x).pln) ∧
    (recFieldBad e.bytes = none → ∀ r, r = byteAt e.bytes 4 → r < 4 →
      ((s.side x).nextStart n 0x42 = some e →
        ((s.side x).recPending r = true → ∃ t, exec (.plateAbort n) s = .next t ∧ (t.side x).recState r = 0 ∧
          (t.side x).sqList n = startFirst (.done stSUCCESS 0 0) (((s.side x).endWaits r stABORTED ((s.side x).dev s.pkg) 0).sqList n)) ∧
        ((s.side x).recRunning r = true → ∃ t, exec (.plateAbort n) s = .next t ∧
          (t.side x).pln.causes = (s.side x).pln.causes ++ [(r, 1)] ∧ (∀ k, k < 4 → (t.side x).recState k = (s.side x).recState k) ∧
          (t.side x).sqList n = startFirst (.done stSUCCESS 0 0) ((s.side x).sqList n)) ∧
        ((s.side x).recState r = 0 ∨ 5 ≤ (s.side x).recState r → ∃ t, exec (.plateAbort n) s = .next t ∧ (t.side x).pln = (s.side x).pln ∧
          (t.side x).sqList n = startFirst (.done stPLN_STATE 0 ((s.side x).recState r)) ((s.side x).sqList n))) ∧
      ((s.side x).nextStart n 0x43 = some e →
        (∀ y, (s.side x).recState r = 0 ∧ y = Res.mk stPLN_STATE 0 0 ∨ (s.side x).recState r = 5 ∧ y = ⟨stSUCCESS, (s.side x).recEnd r, 0⟩ ∨
          (s.side x).recState r = 6 ∧ y = ⟨stSPOILED, (s.side x).recEnd r, (s.side x).get (F.PLN_PLATE_STATE_REASON r)⟩ →
          ∃ t, exec (.plateWait n) s = .next t ∧ (t.side x).pln = (s.side x).pln ∧
            (t.side x).sqList n = startFirst (.done y.status y.r0 y.r1) ((s.side x).sqList n)) ∧
        (1 ≤ (s.side x).recState r ∧ (s.side x).recState r ≤ 4 → ∃ t, exec (.plateWait n) s = .next t ∧
          (t.side x).pln.waits = (s.side x).pln.waits ++ [(r, n, e.slot)] ∧
          (t.side x).sqList n = startFirst .running ((s.side x).sqList n))))

/-- PLATE_ENDING, PLATE_DONE, INGEST_INTERVAL_END and JAR_ENABLE (R159, R185, R189). A STARTED plate whose every channel has taken its last data
becomes ENDING; an ENDING plate whose last output has left becomes DONE with its end time and LATE_MODE 0; any other record keeps its registers. At the
end of a 1 ms interval each slot's INGEST is the sum of its ten most recent intervals. A JARj_CFG write with no active record, a legal SRC and EN
risen stores its fields and sets the jar's level to its capacity; with a plate active it stores nothing. -/
def Obligations.PlatesEndAndLedger : Prop :=
  ∀ (s : State) (x : SideId), s.pkg.hold.running x = true →
    (∀ r, r < 4 →
      ((s.side x).recState r = 3 → (s.side x).chansIn r ((s.side x).recd r).taken = true →
        ∃ t, exec (.plateEnding r) s = .next t ∧ (t.side x).recState r = 4) ∧
      ((s.side x).recState r ≠ 3 ∨ (s.side x).chansIn r ((s.side x).recd r).taken = false →
        ∃ t, exec (.plateEnding r) s = .next t ∧ (t.side x).rf = (s.side x).rf) ∧
      ((s.side x).recState r = 4 → (s.side x).outputLeft s.runPorts.pkg r = true →
        ∃ t, exec (.plateDone r) s = .next t ∧ (t.side x).recState r = 5 ∧ (t.side x).get (F.PLN_PLATE_STATE_LATE_MODE r) = 0 ∧
          (t.side x).recEnd r = (s.side x).dev s.runPorts.pkg % 2 ^ 64) ∧
      ((s.side x).recState r ≠ 4 ∨ (s.side x).outputLeft s.runPorts.pkg r = false →
        ∃ t, exec (.plateDone r) s = .next t ∧ (t.side x).rf = (s.side x).rf)) ∧
    (∀ k, ∃ t, exec (.ingestIntervalEnd k) s = .next t ∧
      (reached ((s.side x).dev (s.pkg.advance k)) (s.side x).pln.ingestAt = true →
        (t.side x).pln.ingestAt = nextMs ((s.side x).dev (s.pkg.advance k)) ∧
        ∀ j, j < 4 → (t.side x).get (F.PLN_INGEST_BYTES j) =
          ((((s.side x).staged j - tget 0 (s.side x).pln.stagedAt j) :: tget [] (s.side x).pln.ingest j).take 10).sum % 2 ^ 32) ∧
      (reached ((s.side x).dev (s.pkg.advance k)) (s.side x).pln.ingestAt = false →
        (t.side x).pln = (s.side x).pln ∧ (t.side x).rf = (s.side x).rf)) ∧
    (∀ j (v : Word), j < 32 → s.accepts true (F.PLN_JAR_CFG_EN j).off v.toNat →
      ((s.side x).plateWindow = true → bits v.toNat 1 3 ≤ 5 → (s.side x).get (F.PLN_JAR_CFG_EN j) = 0 → bits v.toNat 0 1 = 1 →
        ∃ t, exec (.jarEnable j v) s = .next t ∧ (t.side x).get (F.PLN_JAR_CFG_EN j) = 1 ∧
          (t.side x).get (F.PLN_JAR_CFG_SRC j) = bits v.toNat 1 3 ∧
          tget 0 (t.side x).pln.level j = ((s.side x).get (F.PLN_JAR_CAP_MJ j) : Rat) * 1000) ∧
      ((s.side x).plateWindow = false → ∃ t, exec (.jarEnable j v) s = .next t ∧
        (t.side x).word (F.PLN_JAR_CFG_EN j).off = (s.side x).word (F.PLN_JAR_CFG_EN j).off ∧ (t.side x).pln = (s.side x).pln))

/-- BLOCK_LOCK, ALIGN_MARKER, TRAIN_BLOCK_RECEIVED, LINK_DOWN and RETRAIN of a port n of the part, whose state is x (R190, R194, R196, R197, R220). A lane's
lock is held, and both locks are the state ALIGN of a training port; agreeing markers count, two of them with both locks give TSTATE 1; at TSTATE 1 each
TRAIN block of the partner with TSTATE 1 or 2 counts, the sixteenth in a row brings the port UP and any other starts the count again. A TRAIN
block, a second disagreement in a row or a lane's lost lock takes an UP port down: training from the start with every beam blanked, and
LINK_LOST. RETRAIN does that in the PLATE window and is refused with WINDOW_VIOL outside it. -/
def Obligations.PortsTrainAndDrop : Prop :=
  ∀ (n : Nat) (s : State) (x : Port), n < s.pkg.beams → x = s.pkg.hold.port n →
    (∀ lane, lane < 2 → x.training = true → ∃ t y, exec (.blockLock n lane) s = .next t ∧ y = t.pkg.hold.port n ∧
      y.lock0 = (x.lock0 || lane == 0) ∧ y.lock1 = (x.lock1 || lane == 1) ∧ y.st = if y.lock0 && y.lock1 then 2 else 1) ∧
    (∀ c : Nat × Nat, x.st ≠ 0 →
      (c.1 % 2 ^ 16 = c.2 % 2 ^ 16 → ∃ t y, exec (.alignMarker n c) s = .next t ∧ y = t.pkg.hold.port n ∧ y.agree = x.agree + 1 ∧
        y.disagree = 0 ∧ (x.training = true → x.lock0 = true → x.lock1 = true → 1 ≤ x.agree → x.tx = 0 → y.tx = 1)) ∧
      (c.1 % 2 ^ 16 ≠ c.2 % 2 ^ 16 → x.up = false ∨ x.disagree = 0 → ∃ t y, exec (.alignMarker n c) s = .next t ∧
        y = t.pkg.hold.port n ∧ y.agree = 0 ∧ y.disagree = x.disagree + 1 ∧ y.st = x.st)) ∧
    (∀ b v, trainState b = some v → x.training = true → x.tx = 1 →
      (v = some 1 ∨ v = some 2 → x.trains + 1 < 16 → ∃ t y, exec (.trainBlockReceived n b) s = .next t ∧
        y = t.pkg.hold.port n ∧ y.trains = x.trains + 1 ∧ y.st = x.st) ∧
      (v = some 1 ∨ v = some 2 → 16 ≤ x.trains + 1 → ∃ t y, exec (.trainBlockReceived n b) s = .next t ∧
        y = t.pkg.hold.port n ∧ y.st = 3 ∧ y.tx = 2 ∧ y.echoLeft = 15 ∧ ∀ z, s.pkg.hold.running z = true →
          (t.side z).get (F.BLK_LINKUPS_COUNT n) = ((s.side z).get (F.BLK_LINKUPS_COUNT n) + 1) % 2 ^ 32) ∧
      (v ≠ some 1 → v ≠ some 2 → ∃ t y, exec (.trainBlockReceived n b) s = .next t ∧
        y = t.pkg.hold.port n ∧ y.trains = 0 ∧ y.st = x.st)) ∧
    (x.up = true → ∀ c, (∃ b v, trainState b = some v ∧ c = .trainBlockReceived n b) ∨
        (∃ k : Nat × Nat, k.1 % 2 ^ 16 ≠ k.2 % 2 ^ 16 ∧ 1 ≤ x.disagree ∧ c = .alignMarker n k) ∨ (∃ lane, lane < 2 ∧ c = .linkDown ⟨n, lane⟩) →
      ∃ t y, exec c s = .next t ∧ y = t.pkg.hold.port n ∧ y.training = true ∧ y.tx = 0 ∧ y.agree = 0 ∧ y.trains = 0 ∧
        (∀ lane, c = .linkDown ⟨n, lane⟩ → y.lock0 = (x.lock0 && lane != 0) ∧ y.lock1 = (x.lock1 && lane != 1)) ∧
        ∀ z, s.pkg.hold.running z = true → (t.side z).get (F.BLK_STATUS_LINK_LOST n) = 1) ∧
    (x.training = true → ∀ lane, lane < 2 → ∃ t y, exec (.linkDown ⟨n, lane⟩) s = .next t ∧ y = t.pkg.hold.port n ∧ y.tx = 0 ∧
      y.lock0 = (x.lock0 && lane != 0) ∧ y.lock1 = (x.lock1 && lane != 1) ∧ y.agree = 0 ∧ y.trains = 0 ∧ y.training = true) ∧
    (s.accepts true (0x400008 + 0x1000 * n) 1 → s.pkg.hold.deep = false →
      (s.actSide.plateWindow = true → x.st ≠ 0 → ∃ t y, exec (.retrain n) s = .next t ∧ y = t.pkg.hold.port n ∧ y.training = true ∧
        y.tx = 0 ∧ y.agree = 0 ∧ y.trains = 0 ∧ y.lock0 = x.lock0 ∧ y.lock1 = x.lock1) ∧
      (s.actSide.plateWindow = false → ∃ t, exec (.retrain n) s = .next t ∧ (t.pkg.hold.port n).st = x.st ∧
        ∀ z, s.pkg.hold.running z = true → (t.side z).get (F.BLK_STATUS_WINDOW_VIOL n) = 1))

/-- BLANK, BLANK_REPEAT and ALIGN_BLOCK_SEND of a port n whose state is x (R194, R212, R220, R467). BLANK holds every beam with cause 3, shows it and puts
its block into the next four slots; BLANK_REPEAT puts the block of each cause that holds into the next slot; a port whose lanes are off sends none. Once a
slot kept for ALIGN has begun, both lanes have sent an ALIGN block with the same count in it, and the pre-emphasis of the hold die's band is in force;
else nothing is sent. -/
def Obligations.BlankAndAlignBlocks : Prop :=
  ∀ (n : Nat) (s : State) (x : Port), n < s.pkg.beams → x = s.pkg.hold.port n →
    (s.accepts true (0x400008 + 0x1000 * n) 4 → s.pkg.hold.deep = false → ∃ t y, exec (.blank n) s = .next t ∧ y = t.pkg.hold.port n ∧
      y.cause3 = true ∧ y.owed = Nat.lor x.owed allBeams ∧ y.st = x.st ∧
      (x.st ≠ 0 → ∀ i, i < 4 → (slotsBefore n s.pkg.now + i, blankBlk allBeams 3) ∈ y.blanks) ∧
      ∀ z, s.pkg.hold.running z = true → (t.side z).get (F.BLK_STATUS_BLANKING n) = 1) ∧
    (∀ k, ∃ t y, exec (.blankRepeat ⟨n, k⟩) s = .next t ∧ y = t.pkg.hold.port n ∧ (∀ z, t.side z = s.side z) ∧
      (x.st ≠ 0 → ∀ e ∈ s.pkg.hold.causes n, (slotsBefore n (s.pkg.advance k).now, blankBlk e.1 e.2) ∈ y.blanks) ∧
      (x.st = 0 → y = x)) ∧
    (∀ k m, m = (slotsBefore n (s.pkg.advance k).now - 1) / alignPeriod * alignPeriod →
      (x.st ≠ 0 → x.alignSlot < m → ∃ t y w, exec (.alignBlockSend ⟨n, k⟩) s = .next t ∧ y = t.pkg.hold.port n ∧ y.alignSlot = m ∧
        y.marks = (x.marks + 1) % 2 ^ 16 ∧ y.pre = s.actSide.get F.THM_BANDS_BAND_HLD ∧ (∀ z, t.side z = s.side z) ∧
        y.wire = w ++ [.blk (2 * m) (alignBlk 0 x.marks), .blk (2 * m + 1) (alignBlk 1 x.marks)]) ∧
      (x.st = 0 ∨ m ≤ x.alignSlot → exec (.alignBlockSend ⟨n, k⟩) s = .next (s.advance k)))

/-- SET_FRAME_SEND, DOT_FRAME_RELEASE and DOT_LATE of a port n whose state is x, at raw time k (R23, R201, R205, R206, R218, R398). The first sixteen
setpoints that a TIMED port has gathered wait for their SET frame in the order of ITEM, and a cut beam that one of them sets to 0 is released; with none gathered, on
another port or in a failover gap none is sent. Frames whose time has come enter the FIFO while it has room. The oldest frame there that is
due and not late leaves it, and on a TIMED port waits for its slot with device time as its TS. The oldest released frame, or else the oldest in the FIFO, that is late is
discarded, counted and reported. -/
def Obligations.FramesLeaveAPort : Prop :=
  ∀ (n k : Nat) (s : State) (x : Port), n < s.pkg.beams → x = s.pkg.hold.port n →
    ((s.advance k).sends = true → x.st = 4 → x.pend ≠ [] → ∃ t y, exec (.setFrameSend n k) s = .next t ∧ y = t.pkg.hold.port n ∧
      .set (x.pend.take 16) ∈ y.wait ∧ y.cut = x.cut - x.released (x.pend.take 16) ∧ y.st = 4) ∧
    ((s.advance k).sends = false ∨ x.st ≠ 4 ∨ x.pend = [] → exec (.setFrameSend n k) s = .next (s.advance k)) ∧
    (∀ q, q = takeIn ((s.advance k).entryDue n) x.fifo x.stage →
      (∀ f rest, q.1 = f :: rest → reached (s.advance k).dev ((s.advance k).emission n f.t0) = true → dotLate (s.advance k).dev f.t0 = false →
        ∃ t y, exec (.dotFrameRelease n k) s = .next t ∧ y = t.pkg.hold.port n ∧ y.fifo = rest ∧ y.stage = q.2 ∧
          (x.st = 4 → y.ready.getLast? = some { f with ts := (s.advance k).dev % 2 ^ 32 })) ∧
      (q.1 = [] ∨ (∃ f rest, q.1 = f :: rest ∧ reached (s.advance k).dev ((s.advance k).emission n f.t0) = false) →
        ∃ t y, exec (.dotFrameRelease n k) s = .next t ∧ y = t.pkg.hold.port n ∧ y.fifo = q.1 ∧ y.stage = q.2)) ∧
    (∀ r, r = (((s.advance k).dotIntake n).runPort n).pkg.hold.port n → ∀ f rest, dotLate (s.advance k).dev f.t0 = true →
      (r.ready = f :: rest ∨ r.ready = [] ∧ r.fifo = f :: rest) → ∃ t y, exec (.dotLate n k) s = .next t ∧ y = t.pkg.hold.port n ∧
        (r.ready = f :: rest → y.ready = rest ∧ y.fifo = r.fifo) ∧ (r.ready = [] → y.fifo = rest ∧ y.ready = []) ∧
        ∀ z, s.pkg.hold.running z = true → (t.side z).get (F.BLK_STATUS_DOT_LATE n) = 1 ∧
          (t.side z).get (F.BLK_DOT_LATE_COUNT n) = ((s.side z).get (F.BLK_DOT_LATE_COUNT n) + 1) % 2 ^ 32)

/-- CTRL_GO, ECHO, ACK_RECEIVED and CTRL_NOACK of a port n whose state is x (R83, R197, R209, R210, R220). A CTRL_GO with OP of 0x80 up and no result due takes the next CTAG, its frame
waits for a slot (on a port that is not UP it has none) and VALID clears; another is refused. ECHO starts the measurement again in the PLATE window on an
UP port. An ACK counts; the one of a host's command posts its result, the one of an ECHO adds a round trip and sends the next, the one of DELAY makes the
port TIMED. The oldest command unanswered 20 µs after it was sent is answered with RESULT 0xFF and CTRL_NOACK. -/
def Obligations.CtrlCommandsAndAnswers : Prop :=
  ∀ (n : Nat) (s : State) (x : Port), n < s.pkg.beams → x = s.pkg.hold.port n →
    (s.accepts true (0x400008 + 0x1000 * n) 8 → s.pkg.hold.deep = false → ∀ op, op = s.actSide.get (F.BLK_CTRL_OP_OP n) →
      (0x80 ≤ op → x.hostBusy = false → ∃ t y c, exec (.ctrlGo n) s = .next t ∧ y = t.pkg.hold.port n ∧ y.ctag = (x.ctag + 1) % 2 ^ 16 ∧
        c.ctag = x.ctag ∧ c.op = op ∧ c.arg0 = s.actSide.get (F.BLK_CTRL_ARG0_ARG n) ∧ c.host = true ∧
        (x.up = true → .ctrl c (s.actSide.get (F.BLK_CTRL_ARG1_ARG n)) ∈ y.wait) ∧ (x.up = false → c ∈ y.ctrl) ∧
        ∀ z, s.pkg.hold.running z = true → (t.side z).get (F.BLK_CTRL_RESULT_VALID n) = 0) ∧
      (op < 0x80 ∨ x.hostBusy = true → ∃ t, exec (.ctrlGo n) s = .next t ∧ (t.pkg.hold.port n).ctag = x.ctag ∧
        (t.pkg.hold.port n).wait = x.wait ∧ ∀ z, s.pkg.hold.running z = true → (t.side z).get (F.BLK_STATUS_WINDOW_VIOL n) = 1)) ∧
    (s.accepts true (0x400008 + 0x1000 * n) 2 → s.pkg.hold.deep = false →
      (s.actSide.plateWindow = true → x.up = true → ∃ t y c, exec (.echo n) s = .next t ∧ y = t.pkg.hold.port n ∧ y.echo = [] ∧ y.echoLeft = 15 ∧
        c.op = 3 ∧ c.ctag = x.ctag ∧ c.host = false ∧ .ctrl c 0 ∈ y.wait) ∧
      (s.actSide.plateWindow = false ∨ x.up = false → ∃ t, exec (.echo n) s = .next t ∧ (t.pkg.hold.port n).echoLeft = x.echoLeft ∧
        ∀ z, s.pkg.hold.running z = true → (t.side z).get (F.BLK_STATUS_WINDOW_VIOL n) = 1)) ∧
    (∀ k S r, S = (s.advance k).runPort n → r = S.pkg.hold.port n →
      (∀ tag res op dat, (x.up = false → exec (.ackReceived n tag res op dat k) s = .next S) ∧
        (x.up = true →
          (r.ctrl.find? (fun c => c.ctag == tag % 2 ^ 16) = none → ∃ t, exec (.ackReceived n tag res op dat k) s = .next t ∧
            (t.pkg.hold.port n).ctrl = r.ctrl ∧ ∀ z, s.pkg.hold.running z = true →
              (t.side z).get (F.BLK_RX_FRAMES_COUNT n) = ((s.side z).get (F.BLK_RX_FRAMES_COUNT n) + 1) % 2 ^ 32) ∧
          (∀ c, r.ctrl.find? (fun c => c.ctag == tag % 2 ^ 16) = some c → ∃ t y, exec (.ackReceived n tag res op dat k) s = .next t ∧
            y = t.pkg.hold.port n ∧
            (c.host = true → y.ctrl = r.ctrl.filter (fun c => c.ctag != tag % 2 ^ 16) ∧ ∀ z, s.pkg.hold.running z = true →
              (t.side z).get (F.BLK_CTRL_RESULT_RESULT n) = res % 256 ∧ (t.side z).get (F.BLK_CTRL_RESULT_OP n) = op % 256 ∧
              (t.side z).get (F.BLK_CTRL_DATA_DATA n) = dat % 2 ^ 32 ∧ (t.side z).get (F.BLK_CTRL_RESULT_VALID n) = 1) ∧
            (c.host = false → c.op = 3 → 0 < r.echoLeft → y.echoLeft = r.echoLeft - 1 ∧
              y.echo = r.echo ++ [64 * (tdiff S.dev (c.sentAt + 180)) - c.frac - (dat % 2 ^ 32 : Nat)]) ∧
            (c.host = false → c.op = 4 → y.st = 4)))) ∧
      (r.ctrl = [] → exec (.ctrlNoack n k) s = .next S) ∧
      (∀ c rest, r.ctrl = c :: rest →
        (reached S.dev (c.sentAt + 20000) = false → exec (.ctrlNoack n k) s = .next S) ∧
        (reached S.dev (c.sentAt + 20000) = true → c.host = true → ∃ t, exec (.ctrlNoack n k) s = .next t ∧ (t.pkg.hold.port n).ctrl = rest ∧
          ∀ z, s.pkg.hold.running z = true → (t.side z).get (F.BLK_CTRL_RESULT_RESULT n) = 0xFF ∧
            (t.side z).get (F.BLK_CTRL_RESULT_OP n) = c.op % 256 ∧ (t.side z).get (F.BLK_STATUS_CTRL_NOACK n) = 1)))

/-- STAT_RECEIVED, STAT_SILENT, ENC_RECEIVED and UPSTREAM_FRAME_ERROR of a port n whose state is x, S being the state at raw time k (R199, R215 to R217, R244,
R397). On a port that is UP a STAT is stored and stamped and counted and gives the head's temperature; an ENC's counts and sample time are held and
counted, and a movement of MOVE counts or more, the guard being on, is the dwell guard's new reference; no STAT for four intervals sets SILENT, and the head reads 150 °C; an errored
frame is counted and reported. On a port that is not UP, or before the four intervals, nothing happens. -/
def Obligations.UpstreamFrames : Prop :=
  ∀ (n k : Nat) (s S : State) (x : Port), n < s.pkg.beams → x = s.pkg.hold.port n → S = s.advance k →
    (∀ l, (x.up = false → exec (.statReceived n l k) s = .next S) ∧
      (x.up = true → ∃ t y, exec (.statReceived n l k) s = .next t ∧ y = t.pkg.hold.port n ∧ y.statSeen = true ∧ y.silent = false ∧ y.statAt = S.dev ∧
        ∀ z, s.pkg.hold.running z = true →
          (∀ j, j < 7 → (t.side z).get (F.BLK_STATW_WORD n j) = (l.getD j 0).toNat) ∧
          (t.side z).get (F.BLK_STAT_TS_TIME n) = (s.side z).dev S.pkg % 2 ^ 32 ∧
          (t.side z).get (F.BLK_RX_FRAMES_COUNT n) = ((s.side z).get (F.BLK_RX_FRAMES_COUNT n) + 1) % 2 ^ 32 ∧
          (t.side z).get (F.RAS_HEAD_TEMP_TEMP n) = ofSigned 16 (toSigned 16 (l.getD 0 0).toNat))) ∧
    (∀ iv, iv = S.actSide.get (F.BLK_CFG_STAT_10US n) →
      (x.up = true → x.silent = false → reached S.dev (x.statAt + 40000 * iv) = true → ∃ t, exec (.statSilent n k) s = .next t ∧
        (t.pkg.hold.port n).silent = true ∧ ∀ z, s.pkg.hold.running z = true →
          (t.side z).get (F.BLK_STATUS_SILENT n) = 1 ∧ (t.side z).get (F.RAS_HEAD_TEMP_TEMP n) = 2400) ∧
      (x.up = false ∨ x.silent = true ∨ reached S.dev (x.statAt + 40000 * iv) = false → exec (.statSilent n k) s = .next S)) ∧
    (∀ a b c ts : Word, (x.up = false → exec (.encReceived n a b c ts k) s = .next S) ∧
      (x.up = true → ∃ t y, exec (.encReceived n a b c ts k) s = .next t ∧ y = t.pkg.hold.port n ∧ y.enc = (a.toNat, b.toNat, c.toNat) ∧
        y.encAt = some (extendStamp ts.toNat S.dev) ∧ y.rxAt = S.dev ∧
        (s.pkg.hold.flag (F.HLD_DWELL_CFG_EN n) = true →
          moved (a.toNat, b.toNat) x.ref (s.pkg.hold.get (F.HLD_DWELL_CFG_MOVE n)) = true →
          y.ref = (a.toNat, b.toNat) ∧ y.tMove = extendStamp ts.toNat S.dev) ∧
        (s.pkg.hold.flag (F.HLD_DWELL_CFG_EN n) = false ∨
          moved (a.toNat, b.toNat) x.ref (s.pkg.hold.get (F.HLD_DWELL_CFG_MOVE n)) = false → y.ref = x.ref ∧ y.tMove = x.tMove) ∧
        ∀ z, s.pkg.hold.running z = true →
          (t.side z).get (F.BLK_RX_FRAMES_COUNT n) = ((s.side z).get (F.BLK_RX_FRAMES_COUNT n) + 1) % 2 ^ 32)) ∧
    (∀ b, (x.up = true → upErrored (b.map blkOf) = true → ∃ t, exec (.upstreamFrameError ⟨n, b⟩) s = .next t ∧
        ∀ z, s.pkg.hold.running z = true → (t.side z).get (F.BLK_STATUS_RX_ERR n) = 1 ∧
          (t.side z).get (F.BLK_RX_ERR_COUNT n) = ((s.side z).get (F.BLK_RX_ERR_COUNT n) + 1) % 2 ^ 32) ∧
      (x.up = false ∨ upErrored (b.map blkOf) = false → exec (.upstreamFrameError ⟨n, b⟩) s = .next s))

/-- SOS_EDGE, SOS_MISSED, EOS_EDGE, FACET_ZERO and RELOCK of channel c on a side d that runs with its raster engines on; v is the sweep tracking (R224 to R228,
R230, R246). The first edge starts a track; a later one in its window is the next sweep, with the next facet (facet 0 after FACET_ZERO), and locks the channel once the
facet is known and 2F edges in a row were accepted; one outside it is counted as spurious. A window that closes on a LOCKED channel counts a miss and the prediction stands in, a third in a
row loses lock; on another channel acquisition starts over. An EOS edge is the index under INDEX, else the end of the sweep. The commands act in the PLATE window and are refused outside
it. -/
def Obligations.SweepsAreTracked : Prop :=
  ∀ (c : Nat) (s : State) (x : SideId) (d : Side) (v : Ras), c < s.pkg.beams → s.pkg.hold.running x = true → d = s.side x → v = d.rasCh c →
    (d.groupOn 4 = true → ∀ k fr T, T = d.stamp64 (s.pkg.advance k) fr →
      (v.held = false → v.index = false → ∃ t y, exec (.sosEdge c k fr) s = .next t ∧ y = (t.side x).rasCh c ∧ y.held = true ∧ y.t = T) ∧
      (v.held = true → d.rasLift c T < d.rasOpen c ∨ d.rasClose c < d.rasLift c T → ∃ t, exec (.sosEdge c k fr) s = .next t ∧
        (t.side x).ras = d.ras ∧ (t.side x).get (F.RAS_SPURIOUS_COUNT c) = (d.get (F.RAS_SPURIOUS_COUNT c) + 1) % 2 ^ 32) ∧
      (v.held = true → v.index = false → d.rasOpen c ≤ d.rasLift c T → d.rasLift c T ≤ d.rasClose c →
        ∃ t y, exec (.sosEdge c k fr) s = .next t ∧ y = (t.side x).rasCh c ∧ y.held = true ∧ y.t = d.rasLift c T ∧ y.s = v.s + 1 ∧
          y.f = (if v.zero then 0 else (v.f + 1) % d.rasF c) ∧ y.acc = v.acc + 1 ∧ y.zero = false ∧
          (t.side x).get (F.RAS_STATUS_MISSES c) = 0 ∧
          ((v.known || v.zero) = true → 2 * d.rasF c ≤ v.acc + 1 → (t.side x).get (F.RAS_STATUS_LOCK c) = 1)) ∧
      (d.get (F.RAS_CFG_FACET_SRC c) = 1 → ∃ t, exec (.eosEdge c k fr) s = .next t ∧ ((t.side x).rasCh c).index = true) ∧
      (d.get (F.RAS_CFG_FACET_SRC c) = 0 → v.held = true → v.eosSeen = false → ∃ t y, exec (.eosEdge c k fr) s = .next t ∧ y = (t.side x).rasCh c ∧
        y.eosSeen = true ∧ tget [] y.eos v.f = (rasDiff T v.t :: tget [] v.eos v.f).take 16) ∧
      (d.get (F.RAS_CFG_FACET_SRC c) = 0 → v.held = false ∨ v.eosSeen = true → ∃ t, exec (.eosEdge c k fr) s = .next t ∧
        (t.side x).ras = d.ras)) ∧
    (d.groupOn 4 = true → ∀ k n, n = d.rasLift c (d.stamp64 (s.pkg.advance k) 0) →
      (v.held = false ∨ n < d.rasClose c → ∃ t, exec (.sosMissed c k) s = .next t ∧ (t.side x).ras = d.ras ∧ (t.side x).rf = d.rf) ∧
      (v.held = true → d.rasClose c ≤ n → d.rasLocked c = false → ∃ t, exec (.sosMissed c k) s = .next t ∧ ((t.side x).rasCh c).held = false ∧
        (t.side x).get (F.RAS_MISSES_COUNT c) = (d.get (F.RAS_MISSES_COUNT c) + 1) % 2 ^ 32 ∧ (t.side x).get (F.RAS_STATUS_SOS_MISS c) = 1) ∧
      (v.held = true → d.rasClose c ≤ n → d.rasLocked c = true → v.index = false → ∃ t, exec (.sosMissed c k) s = .next t ∧
        (t.side x).get (F.RAS_MISSES_COUNT c) = (d.get (F.RAS_MISSES_COUNT c) + 1) % 2 ^ 32 ∧
        (d.get (F.RAS_STATUS_MISSES c) < 2 → ((t.side x).rasCh c).t = d.rasPred c 1 ∧ ((t.side x).rasCh c).s = v.s + 1 ∧
          (t.side x).get (F.RAS_STATUS_MISSES c) = d.get (F.RAS_STATUS_MISSES c) + 1 ∧ (t.side x).get (F.RAS_STATUS_LOCK c) = 1 ∧
          (t.side x).get (F.RAS_STATUS_SOS_MISS c) = 1) ∧
        (2 ≤ d.get (F.RAS_STATUS_MISSES c) → (t.side x).get (F.RAS_STATUS_LOCK c) = 0 ∧ (t.side x).get (F.RAS_STATUS_LOCK_LOST c) = 1 ∧
          ((t.side x).rasCh c).held = false))) ∧
    (∀ cmd w, cmd = .facetZero c ∧ w = 1 ∨ cmd = .relock c ∧ w = 2 → s.accepts true (0x500008 + 0x10000 * c) w →
      (d.plateWindow = false ∨ d.stale 4 = true → ∃ t, exec cmd s = .next t ∧ (t.side x).ras = d.ras ∧ (t.side x).get (F.RAS_STATUS_WINDOW_VIOL c) = 1) ∧
      (d.plateWindow = true → d.stale 4 = false → ∃ t, exec cmd s = .next t ∧
        (w = 1 → d.get (F.RAS_CFG_FACET_SRC c) = 0 → ((t.side x).rasCh c).zero = true) ∧
        (w = 1 → d.get (F.RAS_CFG_FACET_SRC c) = 1 → (t.side x).ras = d.ras) ∧
        (w = 2 → ((t.side x).rasCh c).held = false ∧ (t.side x).get (F.RAS_STATUS_LOCK c) = 0 ∧ (t.side x).get (F.RAS_STATUS_MISSES c) = 0)))

/-- STRIPE_BUILD of channel c on a side d that runs with its raster engines on (R218, R232, R235). Before G of the next sweep of a LOCKED channel, and on a channel that is not
LOCKED, nothing happens; from G on the sweep is built, its prediction is kept, the next sweep to build is the one after it. -/
def Obligations.StripesAreBuilt : Prop :=
  ∀ (c k : Nat) (s : State) (x : SideId) (d : Side), c < s.pkg.beams → s.pkg.hold.running x = true → d = s.side x → d.groupOn 4 = true →
    ∀ n th g, d.nextBuild c = (n, th, g) → ∀ T, T = d.rasLift c (d.stamp64 (s.pkg.advance k) 63) →
      (d.rasLocked c = false ∨ T < g → ∃ t, exec (.stripeBuild c k) s = .next t ∧ (t.side x).ras = d.ras ∧ (t.side x).str = d.str) ∧
      (d.rasLocked c = true → g ≤ T → ∃ t y, exec (.stripeBuild c k) s = .next t ∧ y = (t.side x).rasCh c ∧ y.next = n + 1 ∧
        y.preds = ((n, th) :: (d.rasCh c).preds).take 64 ∧ y.t = (d.rasCh c).t ∧ y.s = (d.rasCh c).s)

/-- LOOKAHEAD_ENTRY, VECTOR_BEGIN and VECTOR_END of channel c on a side d that runs with its vector engines on, v being the channel (R249, R251, R253, R256, R268,
R275). A running channel with a free place takes the next word of its stream, which waits for no arbiter, has a bridge behind it where it needs one, and passes its checks: its vector joins the
running order, the next word starts at its end. A word that fails is recorded with its reason. A full look-ahead takes none. The first vector begins at the instant it is ready, and shows its VID;
it ends when its profile's time is over, counts in VDONE, leaves the head at its end, and the next one is ready after its SETTLE. Before those instants nothing happens. -/
def Obligations.VectorsRun : Prop :=
  ∀ (c : Nat) (s : State) (x : SideId) (d : Side) (v : Veh), c < s.pkg.beams → s.pkg.hold.running x = true → d = s.side x → v = d.vehCh c → d.groupOn 5 = true →
    (v.next = [] →
      (v.pl = none ∨ (∃ r, v.pl = some r ∧ d.recRunning r = false) ∨ 32 ≤ d.laFill c → ∃ t, exec (.lookaheadEntry c) s = .next t ∧ (t.side x).veh = d.veh ∧
        (t.side x).str = d.str) ∧
      (∀ r w b0, v.pl = some r → d.recRunning r = true → d.laFill c < 32 → v.coast = none → v.kept = false → v.inbox = [] → d.nextWord r c = some w →
        d.wordWaits s.pkg c w = false → b0 = v.prev.getD (d.bedTail c) → (wType w = 1 → v.prev = none ∨ d.toField c b0 = d.vecTail c) →
        (d.wordReason s.pkg c c v.prevOk (d.vecTail c) w = none → d.vecState c = 1 → ∃ t y, exec (.lookaheadEntry c) s = .next t ∧ y = (t.side x).vehCh c ∧
          y.q = d.replan c (v.q ++ [d.wordVec c c true (if wType w = 1 then b0 else d.bedTail c) w]) ∧ y.held = v.held ∧
          y.prev = some (wEnd w) ∧ y.words = v.words + 1) ∧
        (∀ k, d.wordReason s.pkg c c v.prevOk (d.vecTail c) w = some k → ∃ t y, exec (.lookaheadEntry c) s = .next t ∧ y = (t.side x).vehCh c ∧ y.q = v.q ∧
          y.held = v.held ∧ y.prev = some (wEnd w) ∧ (t.side x).get (F.VEC_WORD_ERR_REASON c) = k % 2 ^ 8 ∧
          (t.side x).get (F.VEC_ERR_VID_VID c) = wVid w % 2 ^ 32 ∧ (t.side x).get (F.VEC_STATUS_WORD_ERR c) = 1))) ∧
    (∀ k now, now = d.vnow c (d.dev (s.pkg.advance k)) →
      (v.q = [] ∨ v.begun ≠ none ∨ (now : Rat) < v.ready ∨ d.vecState c = 3 → ∃ t, exec (.vectorBegin c k) s = .next t ∧ (t.side x).veh = d.veh ∧
        (t.side x).pln = d.pln) ∧
      (∀ u l, v.q = u :: l → v.begun = none → v.ready ≤ now → d.vecState c ≠ 3 → ∃ t, exec (.vectorBegin c k) s = .next t ∧
        (t.side x).vehCh c = { v with begun := some v.ready } ∧ (t.side x).get (F.VEC_VID_VID c) = u.vid % 2 ^ 32 ∧
        ∀ r, v.pl = some r → r < 4 → d.recState r = 3 → d.recWhole r c = false →
          (32 ≤ d.laFill c + v.inbox.length + d.recFill r c / 32 → (t.side x).pln = d.pln) ∧
          (d.laFill c + v.inbox.length + d.recFill r c / 32 < 32 → (r, 2) ∈ (t.side x).pln.causes)) ∧
      (v.q = [] ∨ v.begun = none → ∃ t, exec (.vectorEnd c k) s = .next t ∧ (t.side x).veh = d.veh ∧ (t.side x).rf = d.rf) ∧
      (∀ u l b e, v.q = u :: l → v.begun = some b → e = b + (d.vecProf c u).time →
        ((now : Rat) < e → ∃ t, exec (.vectorEnd c k) s = .next t ∧ (t.side x).veh = d.veh ∧ (t.side x).rf = d.rf) ∧
        (e ≤ now → ∃ t y, exec (.vectorEnd c k) s = .next t ∧ y = (t.side x).vehCh c ∧ y.q = l ∧ y.begun = none ∧
          y.ready = e + (u.settle * d.fineNs : Nat) ∧ y.x = u.f1.1 ∧ y.y = u.f1.2.1 ∧ y.z = u.f1.2.2 ∧
          y.wins = (if u.mark then d.vecWin u b e :: v.wins else v.wins) ∧
          (t.side x).get (F.VEC_VDONE_COUNT c) = (d.get (F.VEC_VDONE_COUNT c) + 1) % 2 ^ 32)))

/-- VEC_GRID_LOAD (R263): ring n's next descriptor, the host read failing at none; img is what host memory holds. A bad field of the descriptor retires with BAD_FIELD. Outside the PLATE window, for a channel
that does not exist, for a wrong CRC-32C or a reserved byte the command is refused with reason 1 to 4 and the grids stay; else the grid is the
channel's, its CRC is shown and GRID_VALID is set. A failed host read retires with HOST_FAULT. -/
def Obligations.GridsLoad : Prop :=
  ∀ (n : Nat) (s : State) (x : SideId) (d : Side), n < 64 → s.pkg.hold.running x = true → d = s.side x →
    ∀ e b c img, d.nextHost s.pkg n 0x74 = some e → b = e.bytes → c = byteAt b 4 % 16 → img = memRead s.pkg.host (dFld b 8 8) 133128 →
    (∀ o h, gridLoadBad b = some o → ∃ t, exec (.vecGridLoad n h) s = .next t ∧ (t.side x).sqList n = startFirst (.done stBAD_FIELD 0 o) (d.sqList n) ∧ (t.side x).veh = d.veh) ∧
    (gridLoadBad b = none →
      (∀ a, ∃ t, exec (.vecGridLoad n (some a)) s = .next t ∧ (t.side x).sqList n = startFirst (.done stHOST_FAULT a (a % 2 ^ 32)) (d.sqList n) ∧ (t.side x).veh = d.veh) ∧
      (∀ k, k = (if d.plateWindow = false then 1 else if s.pkg.beams ≤ c then 2 else if crc32c img ≠ dFld b 16 4 then 3 else if gridBad 16641 img then 4 else 0) →
        (k ≠ 0 → ∃ t, exec (.vecGridLoad n none) s = .next t ∧ (t.side x).sqList n = startFirst (.done stREFUSED 0 k) (d.sqList n) ∧ (t.side x).veh = d.veh ∧
          (t.side x).rf = d.rf) ∧
        (k = 0 → ∃ t, exec (.vecGridLoad n none) s = .next t ∧ (t.side x).sqList n = startFirst (.done stSUCCESS 0 0) (d.sqList n) ∧
          ((t.side x).vehCh c).grid = img ∧ (∀ m, m ≠ c → (t.side x).vehCh m = d.vehCh m) ∧
          (t.side x).get (F.VEC_GRID_CRC_CRC c) = dFld b 16 4 % 2 ^ 32 ∧ (t.side x).get (F.VEC_STATUS_GRID_VALID c) = 1)))

/-- CHUNK_TIMEOUT, TELEMETRY_ENCODE, TELEMETRY_BLOCK_WRITE and TEL_RD_WRITE (R120, R130, R298, R299) on a side d that runs. An open chunk closes 10 ms
after its first record. The oldest closed chunk on a free compress engine becomes a block, sealed with the job's key and its next index where the job is encrypted; without
a key its records count as lost, and past the last index the job's telemetry stops. The oldest block goes to the window where it has room, and WR moves on by its
padded length; with no room it waits. RD takes a value from RD to WR, and refuses another. -/
def Obligations.TelemetryChunks : Prop :=
  ∀ (s : State) (x : SideId) (d : Side), s.pkg.hold.running x = true → d = s.side x →
    (∀ k a y, d.mpl.chunks[k]? = some y →
      (y.closed = false → reached (d.dev (s.pkg.advance a)) (y.at_ + 10000000) = true → ∃ t, exec (.chunkTimeout k a) s = .next t ∧
        (t.side x).mpl.chunks = d.mpl.chunks.set k { y with closed := true }) ∧
      (y.closed = true ∨ reached (d.dev (s.pkg.advance a)) (y.at_ + 10000000) = false → ∃ t, exec (.chunkTimeout k a) s = .next t ∧ (t.side x).mpl = d.mpl)) ∧
    (∀ e k y, e < 2 → d.groupOn 2 = true → d.cmpWork e = .idle → d.mpl.chunks.findIdx? (fun y => y.closed && y.block.isNone) = some k → y = d.mpl.chunks.getD k default →
      (y.enc = false → ∃ t, exec (.telemetryEncode e) s = .next t ∧ (t.side x).mpl.chunks = d.mpl.chunks.set k { y with block := some (mkBlock (chunkClear y).1 y.recs.flatten (chunkClear y).2.1 (chunkClear y).2.2) }) ∧
      (y.enc = true → d.telKey y.job = none → ∃ t, exec (.telemetryEncode e) s = .next t ∧ (t.side x).mpl.chunks = d.mpl.chunks.eraseIdx k ∧
        (t.side x).get F.MPL_TEL_LOST_COUNT = (d.get F.MPL_TEL_LOST_COUNT + y.recs.length) % 2 ^ 32 ∧ (t.side x).get F.MPL_STATUS_TEL_KEY = 1) ∧
      (∀ key idx, y.enc = true → d.telKey y.job = some key → idx = tget 0x80000000 d.mpl.ivs y.job →
        (0xFFFFFFFF < idx → ∃ t, exec (.telemetryEncode e) s = .next t ∧ y.job ∈ (t.side x).mpl.stopped ∧
          (t.side x).mpl.chunks = d.mpl.chunks.filter (fun z => z.job != y.job || z.block.isSome) ∧ (t.side x).get F.MPL_STATUS_TEL_EXHAUSTED = 1) ∧
        (idx ≤ 0xFFFFFFFF → ∃ t, exec (.telemetryEncode e) s = .next t ∧ (t.side x).mpl.chunks = d.mpl.chunks.set k { y with block := some (chunkSealed key idx y) } ∧
          tget 0x80000000 (t.side x).mpl.ivs y.job = idx + 1))) ∧
    (∀ k b n size wr rd, d.mpl.chunks.findIdx? (fun y => y.block.isSome) = some k → b = ((d.mpl.chunks.getD k default).block).getD [] →
      n = 16 * ceilDiv b.length 16 → size = d.get F.MPL_TEL_SIZE_SIZE → wr = d.get64 F.MPL_TEL_WR_LO_COUNT F.MPL_TEL_WR_HI_COUNT →
      rd = d.get64 F.MPL_TEL_RD_LO_COUNT F.MPL_TEL_RD_HI_COUNT →
      (size = 0 ∨ size < wr + n - rd → ∃ t, exec .telemetryBlockWrite s = .next t ∧ (t.side x).mpl = d.mpl ∧ (t.side x).rf = d.rf ∧ (t.side x).dram = d.dram) ∧
      (size ≠ 0 → wr + n - rd ≤ size → ∃ t, exec .telemetryBlockWrite s = .next t ∧ (t.side x).mpl.chunks = d.mpl.chunks.eraseIdx k ∧
        (t.side x).dram = (Side.winWrite (d.get64 F.MPL_TEL_BASE_LO_BASE F.MPL_TEL_BASE_HI_BASE) size wr b d).dram ∧
        (t.side x).get64 F.MPL_TEL_WR_LO_COUNT F.MPL_TEL_WR_HI_COUNT = (wr + n) % 2 ^ 64)) ∧
    (∀ (hi : Bool) (v : Word) o rd new, o = (if hi then 0x88003C else 0x880038) → s.accepts true o v.toNat → rd = d.get64 F.MPL_TEL_RD_LO_COUNT F.MPL_TEL_RD_HI_COUNT →
      new = (if hi then rd % 2 ^ 32 + 2 ^ 32 * v.toNat else rd / 2 ^ 32 * 2 ^ 32 + v.toNat) →
      (rd ≤ new → new ≤ d.get64 F.MPL_TEL_WR_LO_COUNT F.MPL_TEL_WR_HI_COUNT → ∃ t, exec (.telRdWrite hi v) s = .next t ∧
        (t.side x).get64 F.MPL_TEL_RD_LO_COUNT F.MPL_TEL_RD_HI_COUNT = new) ∧
      (new < rd ∨ d.get64 F.MPL_TEL_WR_LO_COUNT F.MPL_TEL_WR_HI_COUNT < new → ∃ t, exec (.telRdWrite hi v) s = .next t ∧
        (t.side x).get64 F.MPL_TEL_RD_LO_COUNT F.MPL_TEL_RD_HI_COUNT = rd ∧ (t.side x).get F.MPL_STATUS_WINDOW_VIOL = 1))

/-- MP_CONVERSION_EDGE, MP_WORD_RECEIVED and HM_CLEAR (R285, R286, R290, R304) on a side d that runs with its melt-pool group on. A conversion edge that is due takes the next
index; PORT_LOCK tells whether the last edge's word came. A word of an enabled port belongs to the last edge, once, with its arrival. HM_CLEAR in
the PLATE window clears the heat map at the next control tick edge, and is refused outside it. -/
def Obligations.MeltPortAndHeatMap : Prop :=
  ∀ (s : State) (x : SideId) (d : Side), s.pkg.hold.running x = true → d = s.side x → d.groupOn 7 = true →
    (∀ c k m dv, c < s.pkg.beams → m = d.mpCh c → dv = d.dev (s.pkg.advance k) →
      (d.get (F.MPL_CH_CFG_EN c) = 1 → m.convI < d.mpQ c → ((m.convI * d.fineNs : Nat) : Int) ≤ tdiff dv m.convB * d.mpQ c →
        ∃ t, exec (.mpConversionEdge c k) s = .next t ∧
          (t.side x).mpCh c = { m with convs := (⟨dv, m.nextIdx, none⟩ :: m.convs).take 64, nextIdx := m.nextIdx + 1, convI := m.convI + 1 } ∧
          (∀ v l, m.convs = v :: l → (t.side x).get (F.MPL_CH_STATUS_PORT_LOCK c) = if v.word.isSome then 1 else 0)) ∧
      (d.get (F.MPL_CH_CFG_EN c) = 0 ∨ d.mpQ c ≤ m.convI ∨ tdiff dv m.convB * d.mpQ c < ((m.convI * d.fineNs : Nat) : Int) →
        ∃ t, exec (.mpConversionEdge c k) s = .next t ∧ (t.side x).mpl = d.mpl ∧ (t.side x).rf = d.rf) ∧
      ∀ (a b : Word) v l, m.convs = v :: l →
        (v.word = none → d.get (F.MPL_CH_CFG_EN c) = 1 → ∃ t, exec (.mpWordReceived c a b k) s = .next t ∧ (t.side x).mpCh c = { m with convs := { v with word := some (a.toNat % 65536, b.toNat % 65536, dv, d.get (F.MPL_CH_STATUS_PORT_LOCK c) == 1) } :: l }) ∧
        (v.word ≠ none ∨ d.get (F.MPL_CH_CFG_EN c) = 0 → ∃ t, exec (.mpWordReceived c a b k) s = .next t ∧ (t.side x).mpl = d.mpl)) ∧
    (s.accepts true 0x880014 1 →
      (d.plateWindow = true → d.stale 7 = false → ∃ t, exec .hmClear s = .next t ∧ (t.side x).mpl = { d.mpl with clear := true }) ∧
      (d.plateWindow = false ∨ d.stale 7 = true → ∃ t, exec .hmClear s = .next t ∧ (t.side x).mpl = d.mpl ∧ (t.side x).get F.MPL_STATUS_WINDOW_VIOL = 1))

/-- ARBITER_DECISION (R273 to R276, R282, R295) on a side d that runs with its stitching group on. With no word due nothing is decided. A due word u that lies in no
zone stays with its channel and is recorded. In a zone the decision counts, a migration too, it is recorded with the exclusion codes, and a word that
goes to another channel joins the tail of its inbox and leaves its own stream. -/
def Obligations.ArbiterDecides : Prop :=
  ∀ (s : State) (x : SideId) (d D : Side), s.pkg.hold.running x = true → d = s.side x → D = d.logFull s.pkg → d.groupOn 6 = true →
    (D.arbDue s.pkg = none → ∃ t, exec .arbiterDecision s = .next t ∧ (t.side x).veh = D.veh ∧ (t.side x).mpl = D.mpl ∧ (t.side x).rf = D.rf) ∧
    (∀ u, D.arbDue s.pkg = some u →
      (D.zoneOf u.c u.b0 (wEnd u.w) = none → ∃ t, exec .arbiterDecision s = .next t ∧ (t.side x).mpl = (D.telAdd (D.telJob u.r) u.now false (D.assignRec u u.c 3 0)).mpl ∧
        (t.side x).get F.STI_DECISIONS_COUNT = D.get F.STI_DECISIONS_COUNT) ∧
      (∀ z codes b o, D.zoneOf u.c u.b0 (wEnd u.w) = some z →
        codes = ((List.range s.pkg.beams).filter fun b => bit (D.get (F.STI_ZONE_MASK_MASK z)) b).map (fun b => (b, D.exclude s.pkg u b)) →
        D.choose u ((codes.filter fun e => e.2 == 6).map (·.1)) = (b, o) →
        ∃ t, exec .arbiterDecision s = .next t ∧
          (t.side x).mpl = (D.telAdd (D.telJob u.r) u.now false (D.assignRec u b o
            (codes.map fun e => (if e.1 = b && e.2 = 6 then 7 else e.2) * 16 ^ e.1).sum)).mpl ∧
          (t.side x).get F.STI_DECISIONS_COUNT = (D.get F.STI_DECISIONS_COUNT + 1) % 2 ^ 32 ∧
          (t.side x).get F.STI_MIGRATED_COUNT = (if o = 1 then (D.get F.STI_MIGRATED_COUNT + 1) % 2 ^ 32 else D.get F.STI_MIGRATED_COUNT) ∧
          (b ≠ u.c → ((t.side x).vehCh b).inbox = (D.vehCh b).inbox ++ [⟨u.r, u.c, u.b0, u.w⟩] ∧ ((t.side x).vehCh u.c).prev = some (wEnd u.w) ∧
            ((t.side x).vehCh u.c).words = (D.vehCh u.c).words + 1)))

/-- LAW_SET_LOAD (R323): ring n's next descriptor; raw is what host memory holds. A bad field retires with BAD_FIELD, a host read that fails with HOST_FAULT, the PLATE window closed, a wrong CRC-32C or a failed
check with its refusal; the set that was loaded stays. A set that passes waits for the next edge with LOAD_PENDING 1, and retires with its work and its SET_ID. -/
def Obligations.LawSetsLoad : Prop :=
  ∀ (n : Nat) (s : State) (x : SideId) (d : Side), n < 64 → s.pkg.hold.running x = true → d = s.side x →
    ∀ e b raw, d.nextHost s.pkg n 0x78 = some e → b = e.bytes → raw = memRead s.pkg.host (dFld b 8 8) (dFld b 16 4) →
    (∀ o h, lawLoadBad b = some o → ∃ t, exec (.lawSetLoad n h) s = .next t ∧ (t.side x).sqList n = startFirst (.done stBAD_FIELD 0 o) (d.sqList n) ∧ (t.side x).law = d.law) ∧
    (lawLoadBad b = none →
      (∀ a, ∃ t, exec (.lawSetLoad n (some a)) s = .next t ∧ (t.side x).sqList n = startFirst (.done stHOST_FAULT a (a % 2 ^ 32)) (d.sqList n) ∧ (t.side x).law = d.law) ∧
      (∀ r, (d.plateWindow = false ∧ r = lawRefused 1 0) ∨ (d.plateWindow = true ∧ crc32c raw ≠ dFld b 20 4 ∧ r = lawRefused 2 0) ∨
          (d.plateWindow = true ∧ crc32c raw = dFld b 20 4 ∧ d.lawCheck s.pkg raw (dFld b 20 4) = .error r) →
        ∃ t, exec (.lawSetLoad n none) s = .next t ∧ (t.side x).sqList n = startFirst (.done r.status r.r0 r.r1) (d.sqList n) ∧ (t.side x).law = d.law ∧ (t.side x).rf = d.rf) ∧
      (∀ y, d.plateWindow = true → crc32c raw = dFld b 20 4 → d.lawCheck s.pkg raw (dFld b 20 4) = .ok y →
        ∃ t, exec (.lawSetLoad n none) s = .next t ∧ (t.side x).sqList n = startFirst (.done stSUCCESS y.maxWork y.id) (d.sqList n) ∧
          (t.side x).law = { d.law with next := some y, halt := false } ∧ (t.side x).get F.LAW_STATUS_LOAD_PENDING = 1))

/-- HALT, INJ_START, INJ_STOP, TRACE_ARM and TRACE_STOP (R325, R327, R330, R335) on a side d that runs. In the PLATE window HALT waits for the next edge and a generator that starts is ARMED from its
beginning; outside it both are refused with WINDOW_VIOL. A STOP waits for the next edge. A trace channel with a MODE is ARMED with COUNT 0; with MODE 0 it is refused. -/
def Obligations.LawCommands : Prop :=
  ∀ (s : State) (x : SideId) (d : Side), s.pkg.hold.running x = true → d = s.side x →
    (s.accepts true 0x900004 1 →
      (d.plateWindow = true → ∃ t, exec .halt s = .next t ∧ (t.side x).law = { d.law with halt := true } ∧ (t.side x).rf = d.rf) ∧
      (d.plateWindow = false → ∃ t, exec .halt s = .next t ∧ (t.side x).law = d.law ∧ (t.side x).get F.LAW_STATUS_WINDOW_VIOL = 1)) ∧
    (∀ g, g < 4 →
      (s.accepts true (0x902014 + 0x20 * g) 1 →
        (d.plateWindow = true → ∃ t, exec (.injStart g) s = .next t ∧ (t.side x).get (F.LAW_INJ_STATE_STATE g) = 1 ∧ tget {} (t.side x).law.gens g = {} ∧
          ∀ j, j ≠ g → tget {} (t.side x).law.gens j = tget {} d.law.gens j) ∧
        (d.plateWindow = false → ∃ t, exec (.injStart g) s = .next t ∧ (t.side x).law = d.law ∧ (t.side x).get F.LAW_STATUS_WINDOW_VIOL = 1)) ∧
      (s.accepts true (0x902014 + 0x20 * g) 2 → ∃ t, exec (.injStop g) s = .next t ∧ (t.side x).rf = d.rf ∧ (tget {} (t.side x).law.gens g).stop = true)) ∧
    (∀ k, k < 16 →
      (s.accepts true (0x901008 + 0x20 * k) 1 →
        (d.get (F.LAW_TR_CFG_MODE k) ≠ 0 → ∃ t, exec (.traceArm k) s = .next t ∧ (t.side x).get (F.LAW_TR_STATE_STATE k) = 1 ∧ (t.side x).get (F.LAW_TR_COUNT_COUNT k) = 0 ∧
          (tget {} (t.side x).law.trcs k).n = 0 ∧ (tget {} (t.side x).law.trcs k).trig = false) ∧
        (d.get (F.LAW_TR_CFG_MODE k) = 0 → ∃ t, exec (.traceArm k) s = .next t ∧ (t.side x).law = d.law ∧ (t.side x).get F.LAW_STATUS_WINDOW_VIOL = 1)) ∧
      (s.accepts true (0x901008 + 0x20 * k) 2 → ∃ t, exec (.traceStop k) s = .next t ∧ (t.side x).rf = d.rf ∧ (tget {} (t.side x).law.trcs k).stop = true))

/-- ZERO_CROSS_EDGE, SSR_SWITCH and ZX_LOST (R331, R332, R336) on a side d that runs; D is the side once the law's due outputs are taken. An edge of input z shows the half-cycle's length, sets its ZX_OK bit, and decides every enabled SSR of the input: its acc
takes the law's value, and it is on where that reaches 65,536; the switching waits for DELAY_US. A due switching drives the line. With no edge for 25 ms the input is
lost, once: its SSRs are off with acc 0. -/
def Obligations.ZeroCrossesAndSsrs : Prop :=
  ∀ (k : Nat) (s : State) (x : SideId) (d D : Side) (p : Pkg), s.pkg.hold.running x = true → d = s.side x → p = s.pkg.advance k → D = d.lawTake p →
    (∀ z, z < 4 → ∃ t, exec (.zeroCrossEdge z k) s = .next t ∧ tget 0 (t.side x).pio.zx z = D.dev p ∧ tget false (t.side x).pio.seen z = true ∧
      tget false (t.side x).pio.lost z = false ∧ (t.side x).get F.PIO_STATUS_ZX_OK = Nat.lor (D.get F.PIO_STATUS_ZX_OK) (2 ^ z) % 2 ^ 4 ∧
      (tget false D.pio.seen z = true → (t.side x).get (F.PIO_ZX_PERIOD_NS z) = ofSigned 32 (tdiff (D.dev p) (tget 0 D.pio.zx z))) ∧
      ∀ j acc, j < 8 → D.get (F.PIO_SSR_CFG_ZX j) = z → D.get (F.PIO_SSR_CFG_EN j) = 1 → acc = D.get (F.PIO_SSR_STATE_ACC j) + tget 0 D.law.ssr j →
        (t.side x).get (F.PIO_SSR_STATE_ON j) = (if 65536 ≤ acc then 1 else 0) ∧
        (t.side x).get (F.PIO_SSR_STATE_ACC j) = (if 65536 ≤ acc then acc - 65536 else acc) % 2 ^ 16 ∧
        tget [] (t.side x).pio.next j = tget [] D.pio.next j ++ [((D.dev p + 1000 * D.get (F.PIO_SSR_CFG_DELAY_US j)) % 2 ^ 64, decide (65536 ≤ acc))]) ∧
    (∀ j, j < 8 →
      (∀ at_ on rest, tget [] d.pio.next j = (at_, on) :: rest → reached (d.dev p) at_ = true → ∃ t, exec (.ssrSwitch j k) s = .next t ∧
        tget [] (t.side x).pio.next j = rest ∧ (tget none (t.side x).pio.on j).isSome = on) ∧
      ((tget [] d.pio.next j = [] ∨ ∃ at_ on rest, tget [] d.pio.next j = (at_, on) :: rest ∧ reached (d.dev p) at_ = false) →
        ∃ t, exec (.ssrSwitch j k) s = .next t ∧ (t.side x).pio = d.pio)) ∧
    (∀ z, z < 4 →
      (tget false d.pio.lost z = false → reached (d.dev p) (tget 0 d.pio.zx z + 25000000) = true → ∃ t, exec (.zxLost z k) s = .next t ∧
        tget false (t.side x).pio.lost z = true ∧ (t.side x).get F.PIO_STATUS_ZX_LOST = 1 ∧
        ∀ j, j < 8 → d.get (F.PIO_SSR_CFG_ZX j) = z → (t.side x).get (F.PIO_SSR_STATE_ON j) = 0 ∧ (t.side x).get (F.PIO_SSR_STATE_ACC j) = 0 ∧ tget [] (t.side x).pio.next j = []) ∧
      (tget false d.pio.lost z = true ∨ reached (d.dev p) (tget 0 d.pio.zx z + 25000000) = false → ∃ t, exec (.zxLost z k) s = .next t ∧ (t.side x).pio = d.pio ∧ (t.side x).rf = d.rf))

/-- MOT_PROF_LOAD (R345): ring n's next descriptor names axis a; raw is what host memory holds. A bad field retires with BAD_FIELD, a host read that fails with HOST_FAULT. An axis that does not exist, one that is not IDLE or about to start, a
wrong CRC-32C and a bad table are refused with reasons 2, 1, 3 and 4, and the axis keeps its table; else the table is the axis's and the registers show it. -/
def Obligations.MotionTablesLoad : Prop :=
  ∀ (n : Nat) (s : State) (x : SideId) (d : Side), n < 64 → s.pkg.hold.running x = true → d = s.side x →
    ∀ e b a m raw, d.nextHost s.pkg n 0x70 = some e → b = e.bytes → a = bits (byteAt b 4) 0 5 → m = dFld b 16 2 → raw = memRead s.pkg.host (dFld b 8 8) (16 * m) →
    (∀ o h, motLoadBad b = some o → ∃ t, exec (.motProfLoad n h) s = .next t ∧ (t.side x).sqList n = startFirst (.done stBAD_FIELD 0 o) (d.sqList n) ∧ (t.side x).axes = d.axes) ∧
    (motLoadBad b = none →
      (∀ q, ∃ t, exec (.motProfLoad n (some q)) s = .next t ∧ (t.side x).sqList n = startFirst (.done stHOST_FAULT q (q % 2 ^ 32)) (d.sqList n) ∧ (t.side x).axes = d.axes) ∧
      (∀ r, (s.pkg.axes ≤ a ∧ r = 2) ∨ (a < s.pkg.axes ∧ (d.motState a ≠ 0 ∨ d.get (F.MOT_STATUS_START_PEND a) = 1) ∧ r = 1) ∨
          (a < s.pkg.axes ∧ d.motState a = 0 ∧ d.get (F.MOT_STATUS_START_PEND a) = 0 ∧
            ((crc32c raw ≠ dFld b 20 4 ∧ r = 3) ∨ (crc32c raw = dFld b 20 4 ∧ ∃ k, tableBad (cut16 m raw) (bit (byteAt b 4) 7) (dFld b 18 2) = some k ∧ r = 4 + 2 ^ 16 * k))) →
        ∃ t, exec (.motProfLoad n none) s = .next t ∧ (t.side x).sqList n = startFirst (.done stREFUSED 0 r) (d.sqList n) ∧ (t.side x).axes = d.axes ∧ (t.side x).rf = d.rf) ∧
      (a < s.pkg.axes → d.motState a = 0 → d.get (F.MOT_STATUS_START_PEND a) = 0 → crc32c raw = dFld b 20 4 →
        tableBad (cut16 m raw) (bit (byteAt b 4) 7) (dFld b 18 2) = none →
        ∃ t, exec (.motProfLoad n none) s = .next t ∧ (t.side x).sqList n = startFirst (.done stSUCCESS 0 0) (d.sqList n) ∧
          ((t.side x).axis a).segs = (cut16 m raw).map segOf ∧ (∀ k, k ≠ a → (t.side x).axis k = d.axis k) ∧ (t.side x).get (F.MOT_TBL_NSEG a) = m % 2 ^ 13 ∧
          (t.side x).get (F.MOT_TBL_CRC_CRC a) = dFld b 20 4 % 2 ^ 32))

/-- MOT_START, GO and MOT_END (R346, R347, R353, R355) on a side d that runs. An IDLE axis with a table waits to start at the next edge, its filter running forward; GO does so for every axis of
MOT_START_MASK, and passes over those it does not name. A PAUSED axis ends and is IDLE. Any other is refused with its WINDOW_VIOL. -/
def Obligations.MotionCommands : Prop :=
  ∀ (s : State) (x : SideId) (d : Side), s.pkg.hold.running x = true → d = s.side x →
    (∀ a, a < s.pkg.axes →
      (s.accepts true (0xA00008 + 0x1000 * a) 1 →
        (d.motState a = 0 → d.get (F.MOT_TBL_NSEG a) ≠ 0 → ∃ t, exec (.motStart a) s = .next t ∧ (t.side x).get (F.MOT_STATUS_START_PEND a) = 1 ∧ ((t.side x).axis a).fwd = true) ∧
        (d.motState a ≠ 0 ∨ d.get (F.MOT_TBL_NSEG a) = 0 → ∃ t, exec (.motStart a) s = .next t ∧ (t.side x).get (F.MOT_STATUS_WINDOW_VIOL a) = 1 ∧ (t.side x).axes = d.axes)) ∧
      (s.accepts true (0xA00008 + 0x1000 * a) 2 →
        (d.motState a = 2 → ∃ t, exec (.motEnd a) s = .next t ∧ (t.side x).motState a = 0 ∧ (t.side x).axes = d.axes) ∧
        (d.motState a ≠ 2 → ∃ t, exec (.motEnd a) s = .next t ∧ (t.side x).motState a = d.motState a ∧ (t.side x).get (F.MOT_STATUS_WINDOW_VIOL a) = 1))) ∧
    (s.accepts true 0xA30004 1 → ∃ t, exec .go s = .next t ∧ ∀ a, a < s.pkg.axes →
      (bit (d.get F.MOT_START_MASK_MASK) a = true → d.motState a = 0 → d.get (F.MOT_TBL_NSEG a) ≠ 0 →
        (t.side x).get (F.MOT_STATUS_START_PEND a) = 1 ∧ ((t.side x).axis a).fwd = true) ∧
      (bit (d.get F.MOT_START_MASK_MASK) a = true → d.motState a ≠ 0 ∨ d.get (F.MOT_TBL_NSEG a) = 0 → (t.side x).get (F.MOT_STATUS_WINDOW_VIOL a) = 1 ∧
        (t.side x).get (F.MOT_STATUS_START_PEND a) = d.get (F.MOT_STATUS_START_PEND a)) ∧
      (bit (d.get F.MOT_START_MASK_MASK) a = false → (t.side x).get (F.MOT_STATUS_START_PEND a) = d.get (F.MOT_STATUS_START_PEND a) ∧
        (t.side x).get (F.MOT_STATUS_WINDOW_VIOL a) = d.get (F.MOT_STATUS_WINDOW_VIOL a) ∧ (t.side x).axis a = d.axis a))

/-- QUAD_EDGE, INDEX_EDGE and SSI_FRAME of encoder port e on a side d that runs, v being the port (R352). On a quadrature port one edge steps the count by one, up or down by
its direction and INVERT; edges of A and B together, or one within 25 ns of the last on its input, count as an error and leave the count. The index latches the count. At its end an SSI frame
moves the count by the shortest way to its reading, decoded by GRAY and INVERT; a line that was low or an error bit is an error. -/
def Obligations.EncoderPorts : Prop :=
  ∀ (e k : Nat) (s : State) (x : SideId) (d : Side) (v : Enc) (p : Pkg), e < 24 → s.pkg.hold.running x = true → d = s.side x → v = d.enc e → p = s.pkg.advance k →
    (∀ a b : Bool,
      (d.encMode e ≠ 1 ∨ a = v.a ∧ b = v.b → ∃ t, exec (.quadEdge e a b k) s = .next t ∧ (t.side x).enc e = { v with a := a, b := b } ∧ (t.side x).rf = d.rf) ∧
      (d.encMode e = 1 → (a ≠ v.a ∨ b ≠ v.b) → ∀ bad, bad = ((a != v.a) && (b != v.b) || (a != v.a) && tooSoon v.aAt p.now || (b != v.b) && tooSoon v.bAt p.now) →
        (bad = false → ∃ t, exec (.quadEdge e a b k) s = .next t ∧ ((t.side x).enc e).a = a ∧ ((t.side x).enc e).b = b ∧ (t.side x).get (F.MOT_ENC_STATUS_OK e) = 1 ∧
          ((t.side x).enc e).count = (if quadUp v.a v.b a != d.flag (F.MOT_ENC_CFG_INVERT e) then v.count + 1 else v.count + 2 ^ 32 - 1) % 2 ^ 32) ∧
        (bad = true → ∃ t, exec (.quadEdge e a b k) s = .next t ∧ ((t.side x).enc e).a = a ∧ ((t.side x).enc e).b = b ∧ ((t.side x).enc e).count = v.count ∧
          (t.side x).get (F.MOT_ENC_STATUS_OK e) = 0 ∧ (t.side x).get (F.MOT_ENC_STATUS_QUAD_ERR e) = 1 ∧
          (t.side x).get (F.MOT_ENC_ERRS_COUNT e) = (d.get (F.MOT_ENC_ERRS_COUNT e) + 1) % 2 ^ 32))) ∧
    ((d.encMode e = 1 → ∃ t, exec (.indexEdge e) s = .next t ∧ (t.side x).get (F.MOT_ENC_INDEX_COUNT e) = v.count % 2 ^ 32 ∧ (t.side x).get (F.MOT_ENC_STATUS_INDEX_SEEN e) = 1) ∧
      (d.encMode e ≠ 1 → ∃ t, exec (.indexEdge e) s = .next t ∧ (t.side x).rf = d.rf)) ∧
    (∀ (high : Bool) (w : Word) (err : Bool),
      (∀ t0 nb, v.frame = some t0 → d.encMode e = 2 → reached (d.dev p) (t0 + d.ssiNs e) = true → nb = d.ssiBits e →
        (high = false ∨ d.get (F.MOT_ENC_CFG_ERRBIT e) = 1 ∧ err = true → ∃ t, exec (.ssiFrame e high w err k) s = .next t ∧ (t.side x).enc e = { v with frame := none } ∧
          (t.side x).get (F.MOT_ENC_STATUS_OK e) = 0 ∧ (t.side x).get (F.MOT_ENC_STATUS_SSI_ERR e) = 1) ∧
        (high = true → d.get (F.MOT_ENC_CFG_ERRBIT e) = 0 ∨ err = false → ∀ g i, g = (if d.get (F.MOT_ENC_CFG_GRAY e) = 1 then grayDecode nb (w.toNat % 2 ^ nb) % 2 ^ nb else w.toNat % 2 ^ nb) →
          i = (if d.get (F.MOT_ENC_CFG_INVERT e) = 1 then (2 ^ nb - g) % 2 ^ nb else g) → ∃ t, exec (.ssiFrame e high w err k) s = .next t ∧
          (t.side x).enc e = { v with frame := none, count := ofSigned 32 ((v.count : Int) + toSigned nb (i + 2 ^ nb - v.count % 2 ^ nb)), stamp := t0 } ∧
          (t.side x).get (F.MOT_ENC_STATUS_OK e) = 1)) ∧
      (v.frame = none ∨ d.encMode e ≠ 2 → ∃ t, exec (.ssiFrame e high w err k) s = .next t ∧ (t.side x).encs = d.encs ∧ (t.side x).rf = d.rf))

/-- ENABLE, DISABLE and CLEAR of unit u and CHOP_CLR of bus b (R356, R362, R369, R371, R372, R382 to R384) on a side d that runs. An ENABLE that no reason refuses, every DISABLE and the CLEAR of a CUT unit whose bus has read below V_OFF wait for the
period start of the unit's carrier; else the unit keeps its commands, shows the reason and its WINDOW_VIOL. CHOP_CLR clears NOCHOP while the bus has read below V_OFF, else it is refused. -/
def Obligations.UnitCommands : Prop :=
  ∀ (s : State) (x : SideId) (d : Side), s.pkg.hold.running x = true → d = s.side x →
    (∀ u b, u < 24 → s.pkg.unitOk u = true → b = d.get (uBUS u) →
      (s.accepts true (uCmdOff u) 1 →
        (d.enableBad u = none → ∃ t, exec (.enable u) s = .next t ∧ ((t.side x).focU u).cmds = (d.focU u).cmds ++ [0] ∧ (t.side x).rf = d.rf) ∧
        (∀ r, d.enableBad u = some r → ∃ t, exec (.enable u) s = .next t ∧ (t.side x).foc = d.foc ∧ (t.side x).get (uREASON u) = r ∧ (t.side x).get (uWINDOW_VIOL u) = 1)) ∧
      (s.accepts true (uCmdOff u) 2 → ∃ t, exec (.disable u) s = .next t ∧ ((t.side x).focU u).cmds = (d.focU u).cmds ++ [1] ∧ (t.side x).rf = d.rf) ∧
      (s.accepts true (uCmdOff u) 4 →
        (d.uState u = 4 → d.busAtLeast b (d.get (F.FOC_BUS_VLIM1_V_OFF b)) = false →
          ∃ t, exec (.clear u) s = .next t ∧ ((t.side x).focU u).cmds = (d.focU u).cmds ++ [2] ∧ (t.side x).rf = d.rf) ∧
        (d.uState u ≠ 4 ∨ d.busAtLeast b (d.get (F.FOC_BUS_VLIM1_V_OFF b)) = true →
          ∃ t, exec (.clear u) s = .next t ∧ (t.side x).foc = d.foc ∧ (t.side x).get (uREASON u) = 8 ∧ (t.side x).get (uWINDOW_VIOL u) = 1))) ∧
    (∀ b, b < 4 → s.accepts true (0xB20008 + 0x100 * b) 1 →
      (d.busAtLeast b (d.get (F.FOC_BUS_VLIM1_V_OFF b)) = false → ∃ t, exec (.chopClr b) s = .next t ∧ (t.side x).get (F.FOC_BUS_STATUS_NOCHOP b) = 0) ∧
      (d.busAtLeast b (d.get (F.FOC_BUS_VLIM1_V_OFF b)) = true → ∃ t, exec (.chopClr b) s = .next t ∧
        (t.side x).get (F.FOC_BUS_STATUS_WINDOW_VIOL b) = 1 ∧ (t.side x).get (F.FOC_BUS_STATUS_NOCHOP b) = d.get (F.FOC_BUS_STATUS_NOCHOP b)))

/-- SD_VALUE (R361, R495) of channel c and ALIGN_DONE (R377) of field-control unit f on a side d that runs, p being the package at the command's time. A window of three times OSR modulator bits gives the channel its value, and all ones in place of them while an injection of
kind 9 acts on it on this side; a window of another length gives none. A unit in ALIGN for ALIGN_MS enters RUN; one that was caught first moves the position of its axis by the shortest way to its field angle, and fails
the catch, to OFF, where it has no axis or the axis is not IDLE. Before that time, or in another state, nothing changes. -/
def Obligations.ValuesAndAlignment : Prop :=
  ∀ (s : State) (x : SideId) (d : Side), s.pkg.hold.running x = true → d = s.side x →
    (∀ c bs, c < 64 → ∀ held : Bool, held = (s.pkg.injActing 9 && s.pkg.hold.get F.HLD_INJ_LOC_LOC == c && s.pkg.hold.injSide == x) →
      (bs.length = 3 * d.osr c → ∃ t, exec (.sdValue c bs) s = .next t ∧
        (t.side x).get (F.FOC_SDC_VAL_VALUE c) = ofSigned 16 (sdValue (d.osr c) (if held then bs.map fun _ => true else bs)) % 2 ^ 16) ∧
      (bs.length ≠ 3 * d.osr c → ∃ t, exec (.sdValue c bs) s = .next t ∧ (t.side x).rf = d.rf)) ∧
    (∀ f k p, f < s.pkg.focs → p = s.pkg.advance k → ∀ over_ : Bool, over_ = reached (d.dev p) ((d.focU f).alignAt + 1000000 * d.get (F.FOC_IANG_ALIGN_MS f)) →
      (d.uState f ≠ 2 ∨ over_ = false → ∃ t, exec (.alignDone f k) s = .next t ∧ (t.side x).rf = d.rf ∧ (t.side x).foc = d.foc) ∧
      (d.uState f = 2 → over_ = true →
        ((d.focU f).caught = false → ∃ t, exec (.alignDone f k) s = .next t ∧ (t.side x).uState f = 3) ∧
        ((d.focU f).caught = true →
          (∀ n, d.unitAxis f = some n → d.motState n = 0 → ∃ t, exec (.alignDone f k) s = .next t ∧ (t.side x).uState f = 3 ∧
            (t.side x).get (F.MOT_UPOS_U n) = ofSigned 32 ((d.get (F.MOT_UPOS_U n) : Int) + toSigned 10 ((d.focU f).field / 64 + 1024 - d.get (F.MOT_UPOS_U n) % 1024)) % 2 ^ 32) ∧
          (d.unitAxis f = none ∨ (∃ n, d.unitAxis f = some n ∧ d.motState n ≠ 0) → ∃ t, exec (.alignDone f k) s = .next t ∧ (t.side x).uState f = 0 ∧
            (t.side x).get (F.FOC_STATUS_CATCH_FAIL f) = 1))))

/-- CARRIER_PERIOD_START (R319, R356, R358, R360) of carrier g on a side d that runs, D being d with the law values whose time has come. At a boundary that starts a period, with the carrier in range, its units run their periods and latch, and each free
output of the carrier takes the last duty that has reached the output hold stage, high for that time of the period T; every other output is as its unit has left it. At any other boundary nothing but the law values changes. -/
def Obligations.CarrierPeriods : Prop :=
  ∀ (g : Nat) (s : State) (x : SideId) (d D : Side) (due : Bool), g < 8 → s.pkg.hold.running x = true → d = s.side x → D = d.lawTake s.pkg →
    due = (D.get (F.FOC_CAR_CFG_PER_FT g) ≠ 0 && D.foc.n % D.get (F.FOC_CAR_CFG_PER_FT g) = 0 && tget 0 D.foc.car g ≠ D.foc.n + 1 && carInRange (D.carT g) && !D.flag (F.FOC_CAR_CFG_RANGE_BAD g)) →
    (due = false → ∃ t, exec (.carrierPeriodStart g) s = .next t ∧ (t.side x).foc = D.foc ∧ (t.side x).rf = D.rf ∧ (t.side x).law = D.law) ∧
    (due = true → ∀ us E, us = ((List.range 24).filter fun u => s.pkg.unitOk u && D.get (uCAR u) == g) →
      E = us.foldl (Side.unitLatch s.pkg) (us.foldl (Side.unitPeriod s.pkg (D.carT g)) { D with foc := { D.foc with car := tset D.foc.car g (D.foc.n + 1) } }) →
      ∃ t, exec (.carrierPeriodStart g) s = .next t ∧ (t.side x).rf = E.rf ∧ (t.side x).foc.car = E.foc.car ∧
        (∀ o, o < 128 → E.outFree o = true → E.get (F.FOC_OUT_CFG_CAR o) = g →
          tget 0 (t.side x).foc.duty o = tget 0 E.law.duty o ∧ tget 0 (t.side x).foc.high o = pwmHigh (tget 0 E.law.duty o) (D.carT g)) ∧
        (∀ o, (128 ≤ o ∨ E.outFree o = false ∨ E.get (F.FOC_OUT_CFG_CAR o) ≠ g) →
          tget 0 (t.side x).foc.duty o = tget 0 E.foc.duty o ∧ tget 0 (t.side x).foc.high o = tget 0 E.foc.high o))

/-- STP_TABLE_LOAD (R378): ring n's next descriptor names stepper unit u; raw is the 4,096 bytes that host memory holds. A bad field retires with BAD_FIELD, a host read that fails with HOST_FAULT. A unit that does not exist, a
bound axis that is not IDLE and a wrong CRC-32C are refused with reasons 2, 1 and 3; else the table waits for the next boundary and the descriptor succeeds. The tables in use stay. -/
def Obligations.StepperTablesLoad : Prop :=
  ∀ (n : Nat) (s : State) (x : SideId) (d : Side), n < 64 → s.pkg.hold.running x = true → d = s.side x →
    ∀ e b u raw, d.nextHost s.pkg n 0x7A = some e → b = e.bytes → u = bits (byteAt b 4) 0 3 → raw = memRead s.pkg.host (dFld b 8 8) 4096 →
    (∀ o h, stpLoadBad b = some o → ∃ t, exec (.stpTableLoad n h) s = .next t ∧ (t.side x).sqList n = startFirst (.done stBAD_FIELD 0 o) (d.sqList n) ∧ (t.side x).foc = d.foc) ∧
    (stpLoadBad b = none →
      (∀ q, ∃ t, exec (.stpTableLoad n (some q)) s = .next t ∧ (t.side x).sqList n = startFirst (.done stHOST_FAULT q (q % 2 ^ 32)) (d.sqList n) ∧ (t.side x).foc = d.foc) ∧
      (∀ r, (s.pkg.stps ≤ u ∧ r = 2) ∨ (u < s.pkg.stps ∧ (∃ a, d.unitAxis (16 + u) = some a ∧ d.motState a ≠ 0) ∧ r = 1) ∨
          (u < s.pkg.stps ∧ (∀ a, d.unitAxis (16 + u) = some a → d.motState a = 0) ∧ crc32c raw ≠ dFld b 16 4 ∧ r = 3) →
        ∃ t, exec (.stpTableLoad n none) s = .next t ∧ (t.side x).sqList n = startFirst (.done stREFUSED 0 r) (d.sqList n) ∧ (t.side x).foc = d.foc) ∧
      (u < s.pkg.stps → (∀ a, d.unitAxis (16 + u) = some a → d.motState a = 0) → crc32c raw = dFld b 16 4 →
        ∃ t, exec (.stpTableLoad n none) s = .next t ∧ (t.side x).sqList n = startFirst (.done stSUCCESS 0 0) (d.sqList n) ∧
          tget ([], 0) (t.side x).foc.tblNext u = (raw, dFld b 16 4) ∧ (t.side x).foc.tbl = d.foc.tbl ∧ (t.side x).rf = d.rf))

/-- HEARTBEAT_DEADLINE, RESIGN and GRANT_ACK_TIMEOUT (R388, R389, R391, R393, R396), p being the package at the command's time. A side that is not FAILED or BOOTING, and not in DEEP, is lost (State.lostTo) when its path-1 deadline has passed and its path-2 deadline has too or the other side is
not reporting; a path whose deadline alone has passed is faulted, with its flag, health and roles staying; else they stay too. A RESIGN beat of a side that is up, and a grant not acknowledged, lose it at once. -/
def Obligations.SidesAreLost : Prop :=
  ∀ (k : Nat) (s : State) (x : SideId) (p : Pkg) (w v : Watch), p = s.pkg.advance k → w = p.hold.look x → v = p.hold.look (otherSide x) →
    (p.hold.deep = true ∨ p.hold.health x < 2 → ∃ t, exec (.heartbeatDeadline x k) s = .next t ∧ t.pkg = p) ∧
    (p.hold.deep = false → 2 ≤ p.hold.health x → ∀ d1 d2 quiet : Bool, d1 = reached p.now (w.at1 + w.hb1) → d2 = reached p.now (w.at2 + w.hb2) →
        quiet = (decide (p.hold.health (otherSide x) < 2) || reached p.now (v.at1 + v.hb1)) →
      (d1 = true → d2 = true ∨ quiet = true → ∃ t, exec (.heartbeatDeadline x k) s = .next t ∧ (s.advance k).lostTo t x w.at1) ∧
      (d1 = true → d2 = false → quiet = false →
        (w.bad1 = false → ∃ t, exec (.heartbeatDeadline x k) s = .next t ∧ (t.pkg.hold.look x).bad1 = true ∧ t.pkg.hold.flag (sideFlag F.HLD_TWN_STATUS_PATH1_A x) = true ∧
          (p.hold.active = x → t.pkg.hold.flag F.HLD_TWN_STATUS_COMPARE_LOST = true) ∧ ∀ y, t.pkg.hold.health y = p.hold.health y) ∧
        (w.bad1 = true → ∃ t, exec (.heartbeatDeadline x k) s = .next t ∧ t.pkg = p)) ∧
      (d1 = false → d2 = true → quiet = false → w.bad2 = false → ∃ t, exec (.heartbeatDeadline x k) s = .next t ∧ (t.pkg.hold.look x).bad2 = true ∧
        t.pkg.hold.flag (sideFlag F.HLD_TWN_STATUS_PATH2_A x) = true ∧ ∀ y, t.pkg.hold.health y = p.hold.health y) ∧
      (d1 = false → d2 = false ∨ quiet = true ∨ w.bad2 = true → ∃ t, exec (.heartbeatDeadline x k) s = .next t ∧ (d2 = true → (t.pkg.hold.look (otherSide x)).seen = false) ∧
        ∀ y, t.pkg.hold.health y = p.hold.health y)) ∧
    (p.hold.alive x = true → ∃ t, exec (.resign x k) s = .next t ∧ (s.advance k).lostTo t x p.now ∧ t.pkg.hold.flag F.HLD_TWN_STATUS_RESIGN = true) ∧
    (p.hold.alive x = false → ∃ t, exec (.resign x k) s = .next t ∧ t = s.advance k) ∧
    (s.pkg.hold.ack = some x → s.pkg.hold.health x ≠ 0 → ∃ t, exec .grantAckTimeout s = .next t ∧ s.lostTo t x s.pkg.now ∧ t.pkg.hold.ack = none) ∧
    (s.pkg.hold.ack = none → exec .grantAckTimeout s = .next s)

/-- HEARTBEAT and HEARTBEAT_RECEIVED (R387, R389, R391, R495), S being the state at the command's time. At a raw time that is a multiple of 1,000 ns each side that runs puts a beat with its number, role, health, PEER_SEEN and signature on both paths, but for a path that an injection
silences. The oldest beat on its way counts if its check word matches, its number follows the last valid one and the side is up: then it is the path's last arrival and the path is no longer faulted; on path 2 the other side sees its peer. Else it is dropped. -/
def Obligations.BeatsLeaveAndArrive : Prop :=
  ∀ (k : Nat) (s S : State) (x : SideId) (w : Watch), S = s.advance k → w = S.pkg.hold.look x →
    (S.pkg.now % 1000 ≠ 0 → ∃ t, exec (.heartbeat k) s = .next t ∧ t = S) ∧
    (S.pkg.now % 1000 = 0 → ∀ b : Beat, b = ⟨w.seq + 1, b2n (S.pkg.hold.active == x), S.pkg.hold.health x, w.seen, false, (S.side x).twn.sig⟩ →
      ∃ t, exec (.heartbeat k) s = .next t ∧ (t.side x) = S.side x ∧ t.pkg.hold.rf = S.pkg.hold.rf ∧
        (S.pkg.hold.running x = true → (t.pkg.hold.look x).seq = b.seq ∧ (t.pkg.hold.look x).out1 = (if S.pkg.suppressed x 1 then w.out1 else w.out1 ++ [b]) ∧
          (t.pkg.hold.look x).out2 = (if S.pkg.suppressed x 2 then w.out2 else w.out2 ++ [b])) ∧
        (S.pkg.hold.running x = false → t.pkg.hold.look x = w)) ∧
    (∀ b rest ok, w.out1 = b :: rest →
      (ok = true → 2 ≤ S.pkg.hold.health x → w.last1.getD 0 < b.seq → ∃ t, exec (.heartbeatReceived x 1 ok k) s = .next t ∧
        t.pkg.hold.look x = { w with out1 := rest, last1 := some b.seq, at1 := S.pkg.now, hb1 := 1000 * S.pkg.hold.get F.HLD_TWN_CFG_HB_MISS, bad1 := false, sig := b.sig } ∧
        t.pkg.hold.look (otherSide x) = S.pkg.hold.look (otherSide x) ∧ t.pkg.hold.ack = if S.pkg.hold.ack = some x then none else S.pkg.hold.ack) ∧
      (ok = false ∨ S.pkg.hold.health x < 2 ∨ b.seq ≤ w.last1.getD 0 → ∃ t, exec (.heartbeatReceived x 1 ok k) s = .next t ∧
        t.pkg.hold = S.pkg.hold.setWatch x { w with out1 := rest })) ∧
    (∀ b rest ok, w.out2 = b :: rest →
      (ok = true → 2 ≤ S.pkg.hold.health x → w.last2.getD 0 < b.seq → ∃ t, exec (.heartbeatReceived x 2 ok k) s = .next t ∧
        t.pkg.hold.look x = { w with out2 := rest, last2 := some b.seq, at2 := S.pkg.now, hb2 := 1000 * S.pkg.hold.get F.HLD_TWN_CFG_HB_MISS, bad2 := false } ∧
        (t.pkg.hold.look (otherSide x)).seen = true ∧ t.pkg.hold.rf = S.pkg.hold.rf) ∧
      (ok = false ∨ S.pkg.hold.health x < 2 ∨ b.seq ≤ w.last2.getD 0 → ∃ t, exec (.heartbeatReceived x 2 ok k) s = .next t ∧
        t.pkg.hold = S.pkg.hold.setWatch x { w with out2 := rest })) ∧
    (w.out1 = [] → ∀ ok, ∃ t, exec (.heartbeatReceived x 1 ok k) s = .next t ∧ t = S) ∧ (w.out2 = [] → ∀ ok, ∃ t, exec (.heartbeatReceived x 2 ok k) s = .next t ∧ t = S)

/-- GRANT, FIXED_ARM and FIXED_DISARM (R85, R391, R393, R402, R403). In the gap of a failover, a microsecond or more after the declaration and at a fine-tick boundary, a SYNCED standby takes the grant: it is active, the failover is counted, the gap's length from the lost side's last beat shows, and the side is to
acknowledge; before that, or with no gap, nothing changes. A swap at TWN_FIXED is armed unless the package keeps to COMPAT or the time lies inside a plate: then it is refused; FIXED_DISARM takes it back. -/
def Obligations.GrantsAndFixedSwaps : Prop :=
  ∀ (k : Nat) (s S : State) (x : SideId), S = s.advance k →
    (∀ g, S.pkg.hold.gap = some g → x = otherSide g.lost → ∀ ready : Bool, ready = (S.pkg.hold.health x == 3 && reached S.pkg.now (g.declared + 1000) && (S.side x).atFine S.pkg) →
      (ready = true → ∃ t, exec (.grant k) s = .next t ∧ t.pkg.hold.active = x ∧ t.pkg.hold.granted = true ∧ t.pkg.hold.gap = none ∧ t.pkg.hold.ack = some x ∧
        t.pkg.hold.get F.HLD_FAILOVERS_COUNT = (S.pkg.hold.get F.HLD_FAILOVERS_COUNT + 1) % 2 ^ 32 ∧ t.pkg.hold.get F.HLD_LAST_GAP_NS = (S.pkg.now - g.lastBeat) % 2 ^ 32 ∧
        t.pkg.hold.flag F.HLD_TWN_STATUS_FAILOVER = true ∧ (∀ y, t.pkg.hold.health y = S.pkg.hold.health y) ∧
        (S.pkg.hold.running x = true → (t.side x).get F.HIF_STATUS_FAILOVER_SEEN = 1)) ∧
      (ready = false → exec (.grant k) s = .next S)) ∧
    (S.pkg.hold.gap = none → exec (.grant k) s = .next S) ∧
    (s.pkg.hold.running x = true → ∀ d a, d = s.side x → a = d.get64 F.TWN_FIXED_LO_TIME F.TWN_FIXED_HI_TIME →
      (s.accepts true 0xD00008 1 →
        (d.compat = true ∨ d.insidePlate a = true → ∃ t, exec .fixedArm s = .next t ∧ (t.side x).get F.TWN_STATUS_WINDOW_VIOL = 1 ∧
          (t.side x).get F.TWN_STATUS_FIXED_ARMED = d.get F.TWN_STATUS_FIXED_ARMED ∧ (t.side x).twn = d.twn) ∧
        (d.compat = false → d.insidePlate a = false → ∃ t, exec .fixedArm s = .next t ∧ (t.side x).get F.TWN_STATUS_FIXED_ARMED = 1 ∧ (t.side x).twn = { d.twn with fixedAt := a })) ∧
      (s.accepts true 0xD00008 2 → ∃ t, exec .fixedDisarm s = .next t ∧ (t.side x).get F.TWN_STATUS_FIXED_ARMED = 0 ∧ (t.side x).twn = d.twn))

/-- PEEK, REVIVE and DWELL_CUT (R397, R405, R408). PEEK puts what the standby's register at TWN_PEEK_ADDR reads as into TWN_PEEK_DATA, or 0 with ERR where the standby is not up or the address lies past the sides' registers. REVIVE of a side that is not FAILED, or that has lost its power,
is refused with reason 1 or 2; else the side boots, or is FAILED again with reason 3. Where a dwell guard is on and beams are due, the guard cuts them, counts and reports; else no register of the hold die changes. -/
def Obligations.PeeksRevivesAndDwellCuts : Prop :=
  ∀ (s : State) (x : SideId),
    (s.accepts true 0xD00008 4 → s.pkg.hold.running x = true → ∀ (y : SideId) (o : Nat) (bad : Bool), y = s.pkg.hold.standby → o = 4 * s.actSide.get F.TWN_PEEK_ADDR_WORD →
      bad = (decide (s.pkg.hold.health y < 2) || decide (0x13FFFFC < o)) →
      ∃ t, exec .peek s = .next t ∧ (t.side x).get F.TWN_PEEK_DATA_DATA = (if bad then 0 else s.regView y o) % 2 ^ 32 ∧ (t.side x).get F.TWN_PEEK_STATUS_ERR = b2n bad ∧
        (t.side x).get F.TWN_PEEK_STATUS_SEQ = ((s.side x).get F.TWN_PEEK_STATUS_SEQ + 1) % 2 ^ 8 ∧ (t.side x).get F.TWN_PEEK_STATUS_VALID = 1) ∧
    (s.pkg.hold.up = true → s.accepts true 0x3F00008 (2 ^ sideIx x) →
      (∀ r, (s.pkg.hold.health x ≠ 0 ∧ r = 1) ∨ (s.pkg.hold.health x = 0 ∧ (s.pkg.hold.look x).lostPower = true ∧ r = 2) →
        ∃ t, exec (.revive x) s = .next t ∧ t.pkg.hold.get F.HLD_TWN_STATUS_REVIVE_REASON = r ∧ t.pkg.hold.flag F.HLD_TWN_STATUS_REVIVE_FAIL = true ∧
          t.pkg.hold.health x = s.pkg.hold.health x) ∧
      (s.pkg.hold.health x = 0 → (s.pkg.hold.look x).lostPower = false → ∃ t, exec (.revive x) s = .next t ∧
        (s.pkg.fwPick.isSome = true → t.pkg.hold.health x = 1 ∧ t.pkg.hold.stopped.contains x = false ∧ t.pkg.hold.granted = s.pkg.hold.granted ∧
          t.pkg.hold.active = s.pkg.hold.active ∧ (t.side x).dram = (s.side x).dram ∧ (t.side x).sram = [] ∧ (t.side x).str = {} ∧ (t.side x).hif.sq = []) ∧
        (s.pkg.fwPick = none → t.pkg.hold.health x = 0 ∧ t.pkg.hold.get F.HLD_TWN_STATUS_REVIVE_REASON = 3 ∧
          t.pkg.hold.flag F.HLD_TWN_STATUS_REVIVE_FAIL = true))) ∧
    (∀ n k S, s.portOk n = true → S = (s.advance k).runPort n → ∀ m, m = S.dwellDue n →
      (S.pkg.hold.flag (F.HLD_DWELL_CFG_EN n) = true → m ≠ 0 → ∃ t, exec (.dwellCut n k) s = .next t ∧ (t.pkg.hold.port n).cut = Nat.lor (S.pkg.hold.port n).cut m ∧
        t.pkg.hold.flag (F.HLD_DWELL_STATUS_CUT_SEEN n) = true ∧ t.pkg.hold.get (F.HLD_DWELL_CUTS_COUNT n) = (S.pkg.hold.get (F.HLD_DWELL_CUTS_COUNT n) + 1) % 2 ^ 32) ∧
      (S.pkg.hold.flag (F.HLD_DWELL_CFG_EN n) = false ∨ m = 0 → exec (.dwellCut n k) s = .next S))

/-- PTP_MESSAGE_SEND (R415, R417, R418, R419) of kind k on port n, which is enabled and has its link, on a side d that runs while a side holds the grant; st is the departure's stamp and u the checksum. A MASTER sends Sync, with its time put in or with a Follow_Up owed, and Announce; a port with a
master sends Delay_Req, a port with the peer mechanism Pdelay_Req, and remembers number and departure; what is owed goes out in order, a Pdelay_Resp with its turnaround. Else nothing is sent. -/
def Obligations.PtpMessagesLeave : Prop :=
  ∀ (n frac udp k : Nat) (s : State) (x : SideId) (d : Side) (st : Int) (u : Nat), n < 2 → s.pkg.hold.granted = true → s.pkg.hold.running x = true → d = s.side x →
    st = d.txStamp (s.advance k).pkg n frac → u = udp % 65536 → d.pOn n = true →
    (d.pst n = psMaster → ∀ m, m = d.ptpOwn n .sync (d.logSync n) u →
      (d.flag (F.PTP_P_CFG_ONE_STEP n) = true → ∃ t, exec (.ptpMessageSend n .sync udp frac k) s = .next t ∧ s.ptpSent t x n { m with ts := wholeNs st, corr := fracNs st, udp := (udpUpdate m.transport u ((tsWords 0 ++ corrWords 0).zip (tsWords (wholeNs st) ++ corrWords (fracNs st)))) }) ∧
      (d.flag (F.PTP_P_CFG_ONE_STEP n) = false → ∃ t, exec (.ptpMessageSend n .sync udp frac k) s = .next t ∧ s.ptpSent t x n { m with twoStep := true } ∧
        ((t.side x).pport n).owed = (d.pport n).owed ++ [({ m with kind := PtpKind.followUp, ts := wholeNs st, corr := fracNs st }, 0)])) ∧
    (d.pst n = psMaster → ∃ t m, exec (.ptpMessageSend n .announce udp frac k) s = .next t ∧ s.ptpSent t x n m ∧ m.kind = .announce ∧ m.gm = d.clockId ∧ m.srcId = d.clockId ∧
      m.prio1 = d.get F.PTP_DS_PRIORITY1 ∧ m.prio2 = d.get F.PTP_DS_PRIORITY2 ∧ m.cls = d.get F.PTP_DS_CLOCK_CLASS ∧ m.utc = toSigned 16 (d.get F.PTP_UTC_OFS) ∧ m.steps = 0) ∧
    (d.get F.PTP_CFG_DELAY_MECH = 0 → d.pst n = psUncal ∨ d.pst n = psSlave → ∀ m, m = { d.ptpOwn n .delayReq (toSigned 4 (d.get (F.PTP_P_CFG_LOG_DREQ n))) u with corr := -d.asym n } →
      ∃ t, exec (.ptpMessageSend n .delayReq udp frac k) s = .next t ∧ s.ptpSent t x n m ∧ ((t.side x).pport n).dreq = some (m.seq, st)) ∧
    (d.get F.PTP_CFG_DELAY_MECH = 1 → psListening ≤ d.pst n → ∀ m, m = { d.ptpOwn n .pdelayReq (toSigned 4 (d.get (F.PTP_P_CFG_LOG_DREQ n))) u with corr := -d.asym n } →
      ∃ t, exec (.ptpMessageSend n .pdelayReq udp frac k) s = .next t ∧ s.ptpSent t x n m ∧ ((t.side x).pport n).preq = some (m.seq, st)) ∧
    (∀ q e, (q = .followUp ∨ q = .delayResp ∨ q = .pdelayRespFollowUp) → (d.pport n).owed.find? (fun e => e.1.kind == q) = some e →
      ∃ t, exec (.ptpMessageSend n q udp frac k) s = .next t ∧ s.ptpSent t x n { e.1 with udp := u } ∧ ((t.side x).pport n).owed = (d.pport n).owed.erase e) ∧
    (∀ e, (d.pport n).owed.find? (fun e => e.1.kind == .pdelayResp) = some e →
      (d.flag (F.PTP_P_CFG_ONE_STEP n) = true → ∃ t m, exec (.ptpMessageSend n .pdelayResp udp frac k) s = .next t ∧ s.ptpSent t x n m ∧ m.corr = e.1.corr + (st - e.2) ∧
        ((t.side x).pport n).owed = (d.pport n).owed.erase e) ∧
      (d.flag (F.PTP_P_CFG_ONE_STEP n) = false → ∃ t, exec (.ptpMessageSend n .pdelayResp udp frac k) s = .next t ∧
        s.ptpSent t x n { e.1 with twoStep := true, ts := wholeNs e.2, corr := -fracNs e.2, udp := u } ∧
        ((t.side x).pport n).owed = (d.pport n).owed.erase e ++ [({ e.1 with kind := PtpKind.pdelayRespFollowUp, ts := wholeNs st, corr := e.1.corr + fracNs st }, 0)])) ∧
    (∀ q, (d.pst n ≠ psMaster ∧ (q = .sync ∨ q = .announce)) ∨ (d.get F.PTP_CFG_DELAY_MECH = 1 ∧ q = .delayReq) ∨ (d.get F.PTP_CFG_DELAY_MECH = 0 ∧ q = .pdelayReq) ∨ q = .other ∨
        ((q = .followUp ∨ q = .delayResp ∨ q = .pdelayResp ∨ q = .pdelayRespFollowUp) ∧ (d.pport n).owed.find? (fun e => e.1.kind == q) = none) →
      ∃ t, exec (.ptpMessageSend n q udp frac k) s = .next t ∧ (t.side x).rf = d.rf ∧ (t.side x).ptp = d.ptp)

/-- PTP_MESSAGE_RECEIVED (R414, R416, R420) on port n of a side d that runs, e being d with RX counting the message, v the port and st the arrival's stamp: a port that is off ignores it; a message of another transport, domain or kind, or of the clock's own, is dropped and counted; else it is counted, and an Announce joins the
foreign masters, the parent's Sync, Follow_Up and Delay_Resp give times and path delay, requests are owed answers, Pdelay answers give the path delay, and any other leaves the port. ANNOUNCE_TIMEOUT, SYNC_TIMEOUT, ETH_LINK_DOWN and ETH_LINK_UP (R422, R425): without Announces the port forgets its masters and is MASTER, or LISTENING where it is only a
slave; without Syncs the SLAVE port's servo is in HOLDOVER; a port without link is FAULTY and says so, one with link is LISTENING. -/
def Obligations.PtpMessagesArrive : Prop :=
  ∀ (n k : Nat) (s : State) (x : SideId) (d : Side) (p : Pkg) (v : PPort), n < 2 → s.pkg.hold.running x = true → d = s.side x → p = (s.advance k).pkg → v = d.pport n →
    (∀ (m : PtpMsg) (frac : Nat) (e : Side) (st : Int), e = d.inc (F.PTP_P_RX_COUNT n) 1 → st = e.rxStamp p n frac →
      (d.pOn n = false → ∃ t, exec (.ptpMessageReceived n m frac k) s = .next t ∧ (t.side x).rf = d.rf ∧ (t.side x).ptp = d.ptp) ∧
      (d.pOn n = true → d.ptpOk n m = false → ∃ t, exec (.ptpMessageReceived n m frac k) s = .next t ∧ (t.side x).ptp = d.ptp ∧
        (t.side x).get (F.PTP_P_DROP_COUNT n) = (d.get (F.PTP_P_DROP_COUNT n) + 1) % 2 ^ 32) ∧
      (d.pOn n = true → d.ptpOk n m = true → ∃ t, exec (.ptpMessageReceived n m frac k) s = .next t ∧ (t.side x).get (F.PTP_P_RX_COUNT n) = (d.get (F.PTP_P_RX_COUNT n) + 1) % 2 ^ 32 ∧
        ∀ w, w = (t.side x).pport n →
        (m.kind = .announce → w.annAt = p.now ∧ w.foreign = (m, p.now, (v.foreign.find? fun e => e.1.srcId == m.srcId && e.1.srcPort == m.srcPort).map (·.2.1)) ::
          v.foreign.filter fun e => !(e.1.srcId == m.srcId && e.1.srcPort == m.srcPort)) ∧
        (m.kind = .sync → e.fromParent n m = true → ∀ c, c = m.corr + e.asym n → w.syncAt = p.now ∧ w.logSync = m.logInt ∧
          (m.twoStep = true → w.wait = some (m.seq, st, c)) ∧ (m.twoStep = false → w.pair = some (65536 * (m.ts : Int) + c, st) ∧ w.wait = none)) ∧
        (m.kind = .followUp → ∀ t2 c, v.wait = some (m.seq, t2, c) → e.fromParent n m = true → w.pair = some (65536 * (m.ts : Int) + c + m.corr, t2) ∧ w.wait = none) ∧
        (m.kind = .delayReq → e.pst n = psMaster → e.get F.PTP_CFG_DELAY_MECH = 0 → w.owed = v.owed ++
          [({ e.ptpOwn n .delayResp m.logInt 0 with seq := m.seq, ts := wholeNs st, corr := m.corr - fracNs st, reqId := m.srcId, reqPort := m.srcPort }, st)]) ∧
        (m.kind = .delayResp → ∀ t3 t1 t2, v.dreq = some (m.seq, t3) → v.pair = some (t1, t2) → e.fromParent n m = true → m.reqId = e.clockId → m.reqPort = n + 1 →
          w.dreq = none ∧ w.mpd = some ((t2 - t3) + (65536 * (m.ts : Int) - m.corr - t1))) ∧
        (m.kind = .pdelayReq → e.get F.PTP_CFG_DELAY_MECH = 1 → w.owed = v.owed ++
          [({ e.ptpOwn n .pdelayResp m.logInt 0 with seq := m.seq, corr := m.corr, reqId := m.srcId, reqPort := m.srcPort }, st)]) ∧
        (m.kind = .pdelayResp → ∀ t1, v.preq = some (m.seq, t1) → m.reqId = e.clockId → m.reqPort = n + 1 → ∀ c, c = m.corr + e.asym n →
          (m.twoStep = true → w.presp = some (m.seq, 65536 * (m.ts : Int), st, c)) ∧ (m.twoStep = false → w.preq = none ∧ w.mpd = some (st - t1 - c))) ∧
        (m.kind = .pdelayRespFollowUp → ∀ t1 t2 t4 c, v.preq = some (m.seq, t1) → v.presp = some (m.seq, t2, t4, c) → m.reqId = e.clockId →
          w.preq = none ∧ w.presp = none ∧ w.mpd = some ((t4 - t1) - (65536 * (m.ts : Int) - t2) - c - m.corr)) ∧
        ((m.kind = .sync ∨ m.kind = .followUp ∨ m.kind = .delayResp) → e.fromParent n m = false → w = v) ∧
        (m.kind = .delayReq → e.pst n ≠ psMaster ∨ e.get F.PTP_CFG_DELAY_MECH = 1 → w = v))) ∧
    (∀ due : Bool, due = (d.pOn n && d.pst n != psMaster && decide (psListening ≤ d.pst n) && reached p.now (v.annAt + d.get F.PTP_LIMITS_ANN_TMO * d.annNs n)) →
      (due = false → ∃ t, exec (.announceTimeout n k) s = .next t ∧ (t.side x).rf = d.rf ∧ (t.side x).ptp = d.ptp) ∧
      (due = true → ∃ t, exec (.announceTimeout n k) s = .next t ∧ ((t.side x).pport n).foreign = [] ∧ ((t.side x).pport n).annAt = p.now ∧
        (t.side x).pst n = if d.flag F.PTP_CFG_SLAVE_ONLY then psListening else psMaster)) ∧
    (∀ late : Bool, late = !decide ((tdiff p.now v.syncAt : Rat) < ((d.get F.PTP_LIMITS_SYNC_TMO : Nat) : Rat) * intervalNs v.logSync) →
      (d.pst n = psSlave → d.servo ≠ 4 → late = true → ∃ t, exec (.syncTimeout n k) s = .next t ∧ (t.side x).servo = 4 ∧ (t.side x).get F.PTP_STATUS_MASTER_LOST = 1 ∧ (t.side x).pst n = psSlave) ∧
      (d.pst n ≠ psSlave ∨ d.servo = 4 ∨ late = false → ∃ t, exec (.syncTimeout n k) s = .next t ∧ (t.side x).rf = d.rf ∧ (t.side x).ptp = d.ptp)) ∧
    (d.get (F.PTP_P_STATUS_LINK n) = 1 → ∃ t, exec (.ethLinkDown n) s = .next t ∧ (t.side x).get (F.PTP_P_STATUS_LINK n) = 0 ∧ (t.side x).get (F.PTP_P_STATUS_LINK_LOST n) = 1 ∧
      (t.side x).pst n = (if d.flag (F.PTP_P_CFG_EN n) then psFaulty else psDisabled) ∧ (t.side x).pport n = { annAt := s.pkg.now, seqs := v.seqs } ∧ n ∉ t.pkg.hold.ethUp) ∧
    (d.get (F.PTP_P_STATUS_LINK n) = 0 → ∃ t, exec (.ethLinkUp n) s = .next t ∧ (t.side x).get (F.PTP_P_STATUS_LINK n) = 1 ∧
      (t.side x).pst n = (if d.flag (F.PTP_P_CFG_EN n) then psListening else psDisabled) ∧ (t.side x).pport n = { annAt := s.pkg.now, seqs := v.seqs } ∧ n ∈ t.pkg.hold.ethUp)

/-- CHALLENGE, KEY_LOAD, KEY_REMOVE, KEY_LOCK and STATEMENT (R431 to R439, R445) as ring n's next command, b its bytes, on a side d that runs. A malformed field retires with BAD_FIELD, a failed host read with HOST_FAULT. CHALLENGE draws a nonce v other than 0, the model's free value, which NONCE and RESULT0 show. KEY_LOAD judges
the package k in host memory: the first failed check retires and the store stays; else the key is in its slot, which is the one of its JOB_ID, or the first empty one. KEY_REMOVE and KEY_LOCK answer NO_KEY where no slot holds the job, KEY_REMOVE also IN_USE where a record of the job is active; else the key is zeroised and its slot empty, or HOST_LOCK takes its value.
STATEMENT judges the message m: refused, STMT_REFUSED is set, the outcome is that of the first failed check and the fuses stay; accepted by the active side, the fuses of the package take it, the counter advances, and the level or the lifecycle is the statement's. -/
def Obligations.KeysAndStatements : Prop :=
  ∀ (n : Nat) (s : State) (x : SideId) (d : Side) (e : Desc) (b : List Byte), n < 64 → s.pkg.hold.running x = true → d = s.side x → b = e.bytes →
    (d.nextStart n 0x60 = some e → ∀ v, v = 1 + Config.free s.pkg.free 0x60000 % (2 ^ 64 - 1) →
      (∀ o, firstNonZero b 4 60 = some o → ∃ t, exec (.challenge n) s = .next t ∧ (t.side x).sqList n = startFirst (.done stBAD_FIELD 0 o) (d.sqList n) ∧ (t.side x).nonce = d.nonce) ∧
      (firstNonZero b 4 60 = none → ∃ t, exec (.challenge n) s = .next t ∧ (t.side x).sqList n = startFirst (.done stSUCCESS v 0) (d.sqList n) ∧ (t.side x).nonce = v)) ∧
    (d.nextHost s.pkg n 0x61 = some e → ∀ k, k = memRead s.pkg.host (dFld b 8 8) 176 →
      (∀ o h, keyLoadBad b = some o → ∃ t, exec (.keyLoad n h) s = .next t ∧ (t.side x).sqList n = startFirst (.done stBAD_FIELD 0 o) (d.sqList n) ∧ (t.side x).sec = d.sec ∧ (t.side x).rf = d.rf) ∧
      (keyLoadBad b = none →
        (∀ a, ∃ t, exec (.keyLoad n (some a)) s = .next t ∧ (t.side x).sqList n = startFirst (.done stHOST_FAULT a (a % 2 ^ 32)) (d.sqList n) ∧ (t.side x).sec = d.sec ∧ (t.side x).rf = d.rf) ∧
        (∀ r, d.keyCheck s.pkg k = .error r → ∃ t, exec (.keyLoad n none) s = .next t ∧ (t.side x).sqList n = startFirst (.done r.status r.r0 r.r1) (d.sqList n) ∧ (t.side x).sec = d.sec ∧ (t.side x).rf = d.rf) ∧
        (∀ key j, d.keyCheck s.pkg k = .ok key → j = (d.keySlot (leAt k 8 8)).getD (((List.range 16).find? fun i => !d.keyPresent i).getD 0) →
          ∃ t, exec (.keyLoad n none) s = .next t ∧ (t.side x).sqList n = startFirst (.done stSUCCESS (leAt k 8 8) j) (d.sqList n) ∧ tget 0 (t.side x).sec.keys j = key ∧
            (∀ m, m ≠ j → tget 0 (t.side x).sec.keys m = tget 0 d.sec.keys m) ∧ (t.side x).keyPresent j = true ∧ (t.side x).keyId j = leAt k 8 8 ∧
            (t.side x).flag (F.SEC_KEY_STATE_TELEM j) = bit (leAt k 6 2) 1 ∧ tget false (t.side x).sec.deny j = bit (leAt k 6 2) 0))) ∧
    (d.nextStart n 0x62 = some e → ∀ bad, bad = firstSome [firstNonZero b 4 4, firstNonZero b 16 48] →
      (∀ o, bad = some o → ∃ t, exec (.keyRemove n) s = .next t ∧ (t.side x).sqList n = startFirst (.done stBAD_FIELD 0 o) (d.sqList n) ∧ (t.side x).sec = d.sec) ∧
      (bad = none → d.keySlot (dFld b 8 8) = none → ∃ t, exec (.keyRemove n) s = .next t ∧ (t.side x).sqList n = startFirst (.done stSEC_NO_KEY 0 0) (d.sqList n) ∧ (t.side x).sec = d.sec) ∧
      (∀ k r, bad = none → d.keySlot (dFld b 8 8) = some k → d.jobRec (dFld b 8 8) = some r →
        ∃ t, exec (.keyRemove n) s = .next t ∧ (t.side x).sqList n = startFirst (.done stSEC_IN_USE 0 r) (d.sqList n) ∧ (t.side x).sec = d.sec) ∧
      (∀ k, bad = none → d.keySlot (dFld b 8 8) = some k → d.jobRec (dFld b 8 8) = none →
        ∃ t, exec (.keyRemove n) s = .next t ∧ (t.side x).sqList n = startFirst (.done stSUCCESS 0 0) (d.sqList n) ∧ tget 0 (t.side x).sec.keys k = 0 ∧ (t.side x).keyPresent k = false ∧
          (∀ m, m ≠ k → tget 0 (t.side x).sec.keys m = tget 0 d.sec.keys m) ∧ (t.side x).flag F.SEC_STATUS_ZEROISED = true)) ∧
    (d.nextStart n 0x63 = some e → ∀ bad, bad = firstSome [if 2 ≤ byteAt b 4 then some 4 else none, firstNonZero b 5 3, firstNonZero b 16 48] →
      (∀ o, bad = some o → ∃ t, exec (.keyLock n) s = .next t ∧ (t.side x).sqList n = startFirst (.done stBAD_FIELD 0 o) (d.sqList n) ∧ (t.side x).rf = d.rf) ∧
      (bad = none → d.keySlot (dFld b 8 8) = none → ∃ t, exec (.keyLock n) s = .next t ∧ (t.side x).sqList n = startFirst (.done stSEC_NO_KEY 0 0) (d.sqList n) ∧ (t.side x).rf = d.rf) ∧
      (∀ k, bad = none → d.keySlot (dFld b 8 8) = some k → ∃ t, exec (.keyLock n) s = .next t ∧ (t.side x).sqList n = startFirst (.done stSUCCESS 0 0) (d.sqList n) ∧
        (t.side x).get (F.SEC_KEY_STATE_HOST_LOCK k) = byteAt b 4)) ∧
    (d.nextHost s.pkg n 0x64 = some e → ∀ m, m = memRead s.pkg.host (dFld b 8 8) 272 →
      (∀ o h, stmtCmdBad b = some o → ∃ t, exec (.statement n h) s = .next t ∧ (t.side x).sqList n = startFirst (.done stBAD_FIELD 0 o) (d.sqList n) ∧ (t.side x).rf = d.rf ∧ (x = s.pkg.hold.active → t.pkg.fuses = s.pkg.fuses)) ∧
      (stmtCmdBad b = none →
        (∀ a, ∃ t, exec (.statement n (some a)) s = .next t ∧ (t.side x).sqList n = startFirst (.done stHOST_FAULT a (a % 2 ^ 32)) (d.sqList n) ∧ (t.side x).rf = d.rf ∧ (x = s.pkg.hold.active → t.pkg.fuses = s.pkg.fuses)) ∧
        (∀ r, d.stmtCheck s.pkg m = some r → ∃ t, exec (.statement n none) s = .next t ∧ (t.side x).sqList n = startFirst (.done r.status r.r0 r.r1) (d.sqList n) ∧
          (t.side x).flag F.SEC_STATUS_STMT_REFUSED = true ∧ (t.side x).level = d.level ∧ (t.side x).lifecycle = d.lifecycle ∧ (t.side x).mono = d.mono ∧ (x = s.pkg.hold.active → t.pkg.fuses = s.pkg.fuses)) ∧
        (d.stmtCheck s.pkg m = none → ∃ t, exec (.statement n none) s = .next t ∧ (x = s.pkg.hold.active → t.pkg.fuses = s.pkg.fuses.take m) ∧
          (stType m = 1 → stArg m = 1 → (t.side x).level = 1 ∧ (t.side x).mono = min 0xFFFFF (d.mono + 1) ∧
            (t.side x).sqList n = startFirst (.done stSUCCESS (min 0xFFFFF (d.mono + 1)) 0) (d.sqList n)) ∧
          (stType m = 2 → (t.side x).lifecycle = stArg m % 8 ∧ (t.side x).mono = min 0xFFFFF (d.mono + 1) ∧
            (t.side x).sqList n = startFirst (.done stSUCCESS (min 0xFFFFF (d.mono + 1)) 0) (d.sqList n)))))

/-- RECIPE_LOAD, DEBUG_CLOSE and CERT_READ (R430, R442, R443, R448, R453) as ring n's next command, b its bytes, on a side d that runs; and JOB_CLEAR, JOB_CLEAR_DONE, DEBUG_PORT_TOKEN and DEBUG_PORT_ACCESS (R445, R446, R450). The active side's key store judges a recipe: malformed, or failing a check, with a SET entry that is
refused or a LIMIT entry out of bounds, it retires with that outcome and nothing changes; else it is in force, its SET entries written. DEBUG_CLOSE ends a level below FULL and is refused at FULL. CERT_READ writes the certificates, unless the lifecycle is RETIRED or LENGTH too small. JOB_CLEAR starts a pending clear once no record is active: what
class JOB holds is zeroed; JOB_CLEAR_DONE ends it, and GUARD stays while its conditions hold. A token at the port is judged as a STATEMENT of type 1. An instruction of the port is open at its level; a register is read at a level above CLOSED, of a side that is alive, and reads 0 where GUARD hides it, which is counted; memory is read where it is open, and written, as registers are, at FULL alone. -/
def Obligations.RecipesClearsAndDebug : Prop :=
  ∀ (n : Nat) (s : State) (x : SideId) (d : Side) (e : Desc) (b : List Byte), n < 64 → s.pkg.hold.running x = true → d = s.side x → b = e.bytes →
    (x = s.pkg.hold.active → d.nextHost s.pkg n 0x65 = some e →
      (∀ o h, recipeCmdBad b = some o → ∃ t, exec (.recipeLoad n h) s = .next t ∧ (t.side x).sqList n = startFirst (.done stBAD_FIELD 0 o) (d.sqList n) ∧ (t.side x).rf = d.rf ∧ (t.side x).sec = d.sec) ∧
      (recipeCmdBad b = none →
        (∀ a, ∃ t, exec (.recipeLoad n (some a)) s = .next t ∧ (t.side x).sqList n = startFirst (.done stHOST_FAULT a (a % 2 ^ 32)) (d.sqList n) ∧ (t.side x).rf = d.rf ∧ (t.side x).sec = d.sec) ∧
        (∀ len img l, len = dFld b 16 4 → img = memRead s.pkg.host (dFld b 8 8) len → l = (List.range (leAt img 6 2)).map (recEntry img) →
          (∀ st r1, (d.recipeCheck s.pkg img len = some ⟨st, 0, r1⟩ ∨ (d.recipeCheck s.pkg img len = none ∧ s.setAll l = none ∧ st = stREFUSED ∧ r1 = 5) ∨
              (d.recipeCheck s.pkg img len = none ∧ (s.setAll l).isSome = true ∧ ∃ i, s.limitOut l = some i ∧ st = stREFUSED ∧ r1 = 6 + 65536 * i)) →
            ∃ t, exec (.recipeLoad n none) s = .next t ∧ (t.side x).sqList n = startFirst (.done st 0 r1) (d.sqList n) ∧ (t.side x).rf = d.rf ∧ (t.side x).sec = d.sec) ∧
          (∀ s1, d.recipeCheck s.pkg img len = none → s.setAll l = some s1 → s1.pkg.hold.running x = true → s.limitOut l = none →
            ∃ t, exec (.recipeLoad n none) s = .next t ∧ (t.side x).sqList n = startFirst (.done stSUCCESS 0 (leAt img 16 4)) ((s1.side x).sqList n) ∧ (t.side x).sec.recipe = l ∧
              (t.side x).get F.SEC_STATUS_RECIPE = 1 ∧ (t.side x).get F.SEC_RECIPE_ID_ID = leAt img 16 4)))) ∧
    (d.nextStart n 0x66 = some e →
      (∀ o, firstNonZero b 4 60 = some o → ∃ t, exec (.debugClose n) s = .next t ∧ (t.side x).sqList n = startFirst (.done stBAD_FIELD 0 o) (d.sqList n) ∧ (t.side x).rf = d.rf) ∧
      (firstNonZero b 4 60 = none → d.level = 2 → ∃ t, exec (.debugClose n) s = .next t ∧ (t.side x).sqList n = startFirst (.done stREFUSED 0 2) (d.sqList n) ∧ (t.side x).rf = d.rf) ∧
      (firstNonZero b 4 60 = none → d.level ≠ 2 → ∃ t, exec (.debugClose n) s = .next t ∧ (t.side x).sqList n = startFirst (.done stSUCCESS 0 0) (d.sqList n) ∧ (t.side x).level = 0)) ∧
    (d.nextStart n 0x67 = some e → ∀ bad, bad = firstSome [firstNonZero b 4 12, firstNonZero b 28 36] →
      (∀ o, bad = some o → ∃ t, exec (.certRead n) s = .next t ∧ (t.side x).sqList n = startFirst (.done stBAD_FIELD 0 o) (d.sqList n)) ∧
      (bad = none → d.lifecycle = 4 → ∃ t, exec (.certRead n) s = .next t ∧ (t.side x).sqList n = startFirst (.done stSECURITY 0 3) (d.sqList n)) ∧
      (bad = none → d.lifecycle ≠ 4 → ∃ t, exec (.certRead n) s = .next t ∧
        (dFld b 24 4 < Config.certs.length → (t.side x).sqList n = startFirst (.done stREFUSED 0 Config.certs.length) (d.sqList n)) ∧
        (Config.certs.length ≤ dFld b 24 4 → (t.side x).sqList n = startFirst (.done stSUCCESS Config.certs.length 0) (d.sqList n) ∧
          (x = s.pkg.hold.active → s.pkg.hold.granted = true → d.out = [] → s.pkg.pci.bme (ringFnNum n) = true → t.pkg.host = memWrite s.pkg.host (dFld b 16 8) Config.certs)))) ∧
    (∀ c, c = (d.flag F.SEC_STATUS_CLEARING && d.plateWindow && !d.sec.clearing) →
      (c = false → ∃ t, exec .jobClear s = .next t ∧ (t.side x).rf = d.rf ∧ (t.side x).sec = d.sec ∧ (t.side x).str = d.str ∧ (t.side x).mpl = d.mpl) ∧
      (c = true → ∃ t, exec .jobClear s = .next t ∧ (t.side x).sec = { d.sec with clearing := true } ∧ (t.side x).str = { d.str with bufs := [] } ∧ (t.side x).mpl.heat = [] ∧ (t.side x).mpl.chunks = [] ∧
        (∀ k, ((t.side x).rasCh k).jobs = []) ∧ ∀ k, ((t.side x).vehCh k).q = [] ∧ ((t.side x).vehCh k).held = [] ∧ ((t.side x).vehCh k).inbox = [])) ∧
    (d.sec.clearing = true → ∃ t, exec .jobClearDone s = .next t ∧ (t.side x).sec = { d.sec with clearing := false } ∧ (t.side x).get F.SEC_STATUS_CLEARING = 0 ∧ (t.side x).flag F.SEC_STATUS_GUARD = d.guardHeld) ∧
    (∀ m,
      (stType m ≠ 1 → ∃ t, exec (.debugPortToken m) s = .next t ∧ (t.side x).get F.SEC_STATUS_STMT_REFUSED = 1 ∧ (t.side x).level = d.level ∧ t.pkg.fuses = s.pkg.fuses) ∧
      (stType m = 1 →
        (∀ r, d.stmtCheck s.pkg m = some r → ∃ t, exec (.debugPortToken m) s = .next t ∧ (t.side x).get F.SEC_STATUS_STMT_REFUSED = 1 ∧ (t.side x).level = d.level ∧ (x = s.pkg.hold.active → t.pkg.fuses = s.pkg.fuses)) ∧
        (d.stmtCheck s.pkg m = none → ∃ t, exec (.debugPortToken m) s = .next t ∧ (x = s.pkg.hold.active → t.pkg.fuses = s.pkg.fuses.take m) ∧
          (stArg m = 1 → (t.side x).level = 1 ∧ (t.side x).mono = min 0xFFFFF (d.mono + 1))))) ∧
    (∀ i, exec (.debugPortAccess (.ir i)) s = .next (if tapOpen s.actSide.level i then { s with pkg := { s.pkg with tap := i } } else s)) ∧
    (∀ y off, ∃ t, exec (.debugPortAccess (.readReg y off)) s = .next t ∧
      (s.actSide.level = 0 ∨ s.pkg.hold.alive y = false ∨ off % 4 ≠ 0 → t.pkg.dbg = [] ∧ t.side x = d) ∧
      (s.actSide.level ≠ 0 → s.pkg.hold.alive y = true → off % 4 = 0 →
        (s.guarded off = false → t.pkg.dbg = leBytes 4 (s.regView y off) ∧ t.side x = d) ∧
        (s.guarded off = true → t.pkg.dbg = [0, 0, 0, 0] ∧ (t.side x).get F.SEC_DENIED_COUNT = (d.get F.SEC_DENIED_COUNT + 1) % 2 ^ 32 ∧ (t.side x).get F.SEC_STATUS_DENIED = 1))) ∧
    (∀ y sp a k, ∃ t, exec (.debugPortAccess (.readMem y sp a k)) s = .next t ∧ t.side x = d ∧
      t.pkg.dbg = if s.pkg.hold.alive y && (s.side y).debugMemOk s.pkg sp a k then (s.side y).debugMem s.pkg sp a k else []) ∧
    (∀ off v, (s.actSide.level ≠ 2 → exec (.debugPortAccess (.writeReg off v)) s = .next s) ∧
      (s.actSide.level = 2 → exec (.debugPortAccess (.writeReg off v)) s = .next (s.bar0Write .pf0 false off (v % 2 ^ 32)))) ∧
    (∀ sp a l, ∃ t, exec (.debugPortAccess (.writeMem sp a l)) s = .next t ∧
      (d.level ≠ 2 → (t.side x).dram = d.dram ∧ (t.side x).sram = d.sram ∧ (t.side x).mpl = d.mpl) ∧
      (d.level = 2 → sp = 1 → (t.side x).sram = d.sram ∧ (t.side x).dram = if a + l.length ≤ s.pkg.dramUse then (d.dramWrite a l).dram else d.dram) ∧
      (d.level = 2 → sp = 2 → (t.side x).dram = d.dram ∧ (0x2000000 < a + l.length → (t.side x).sram = d.sram) ∧
        (a + l.length ≤ 0x800000 ∨ (0xA00000 ≤ a ∧ a + l.length ≤ 0x2000000) → (t.side x).sram = (l.zipIdx.map fun q => (a + q.2, q.1)).foldl (fun m q => memPut m q.1 q.2) d.sram)))

/-- THERMAL_SAMPLE (R458 to R463), THROTTLE_PAUSE_END (R464), REFRESH_RATE_READ (R467), NAP, DEEP, WAKE and WAKE_GROUP_RESTORED (R469 to R472), on a side d that runs. A sensor that takes no part reads 0 and is not valid. Else the count n it gives makes its reading v, or 2,400 where it is broken, which it shows; then Θ is the hottest enabled sensor h, and the causes, the
throttle and ABOVE_HARD follow it. A pause that is over ends, others stay. The multiplier a side reads is the larger of its channels'. NAP is accepted or shows the reason r that refuses it; DEEP too, and accepted it stops both sides with keys, level, recipe and history gone. WAKE ends NAP with every group stale, or in DEEP boots the sides, which fail where no firmware slot verifies. A group restored is no longer stale,
the last one makes the state ACTIVE. -/
def Obligations.ThermalAndPower : Prop :=
  ∀ (s : State) (x : SideId) (d : Side), d = s.side x →
    (s.pkg.hold.running x = true →
      (∀ k count m p, k < 144 → p = (s.advance m).pkg →
        (p.hold.counted k = false → ∃ t, exec (.thermalSample k count m) s = .next t ∧ (t.side x).word (F.THM_SNS_VAL_TEMP k).off = 0 ∧ tget {} (t.side x).thm.sens k = {}) ∧
        (p.hold.counted k = true → ∀ n was broken v met y, n = p.sensCount k count → was = d.flag (F.THM_SNS_VAL_BROKEN k) → y = tget {} d.thm.sens k →
          broken = (if was then !whole ((n :: y.good).take 16) else countBad n || run4 ((n :: y.counts).take 4)) → v = (if broken then 2400 else p.fuses.reading k n) →
          met = (d.flag (F.THM_SNS_CFG_EN k) && risen p.now (d.get F.THM_RISE_RATE) (keepReads p.now ((p.now, v) :: y.reads))) →
          ∃ t z h, exec (.thermalSample k count m) s = .next t ∧ z = t.side x ∧ z.get (F.THM_SNS_VAL_TEMP k) = ofSigned 16 v ∧ z.flag (F.THM_SNS_VAL_BROKEN k) = broken ∧
            z.flag (F.THM_SNS_VAL_FAST k) = (broken || decide (((d.get F.THM_LIMIT_THROTTLE : Nat) : Int) - 160 ≤ v)) ∧ z.flag (F.THM_SNS_VAL_VALID k) = true ∧
            (tget {} z.thm.sens k).counts = (n :: y.counts).take 4 ∧ (tget {} z.thm.sens k).reads = keepReads p.now ((p.now, v) :: y.reads) ∧
            h = (z.hottest p 0 144).getD (0, -1024) ∧ z.get F.THM_THETA_TEMP = ofSigned 16 h.2 ∧ z.get F.THM_THETA_SENSOR = h.1 % 256 ∧
            z.flag F.THM_STATUS_CAUSE_TEMP = decide (((d.get F.THM_LIMIT_THROTTLE : Nat) : Int) - (if d.flag F.THM_STATUS_CAUSE_TEMP then 32 else 0) ≤ h.2) ∧
            z.flag F.THM_STATUS_CAUSE_RISE = (met || (d.flag F.THM_STATUS_CAUSE_RISE && decide (p.now - d.thm.rise < 10000000))) ∧
            z.flag F.THM_STATUS_THROTTLE = (z.flag F.THM_STATUS_CAUSE_TEMP || z.flag F.THM_STATUS_CAUSE_RISE || z.flag F.THM_STATUS_CAUSE_HEAD) ∧
            z.flag F.THM_STATUS_ABOVE_HARD = decide (((d.get F.THM_LIMIT_HARD : Nat) : Int) - (if d.flag F.THM_STATUS_ABOVE_HARD then 32 else 0) ≤ h.2))) ∧
      (∀ e k now, e < 42 → now = (s.advance k).pkg.now →
        (d.paused e = true → reached now (tget 0 d.thm.pause e) = true → ∃ t, exec (.throttlePauseEnd e k) s = .next t ∧ (t.side x).paused e = false ∧ (∀ j, j ≠ e → (t.side x).paused j = d.paused j) ∧
          ((d.engOp e).isSome = true → tget 0 (t.side x).thm.busy e = now + 1)) ∧
        (d.paused e = false ∨ reached now (tget 0 d.thm.pause e) = false → ∃ t, exec (.throttlePauseEnd e k) s = .next t ∧ (t.side x).thm = d.thm)) ∧
      (s.accepts true 0x1100034 1 → ∀ r, r = d.pwrReason s.pkg false →
        (r = 0 → ∃ t, exec .nap s = .next t ∧ (t.side x).get F.THM_PWR_STATE_STATE = 2) ∧
        (r ≠ 0 → ∃ t, exec .nap s = .next t ∧ (t.side x).get F.THM_PWR_STATE_STATE = d.get F.THM_PWR_STATE_STATE ∧ (t.side x).get F.THM_PWR_STATE_REASON = r ∧ (t.side x).get F.THM_STATUS_WINDOW_VIOL = 1)) ∧
      (s.accepts true 0x1100034 2 → x = s.pkg.hold.active → ∀ r, r = d.pwrReason s.pkg true →
        (r = 0 → ∃ t, exec .deep s = .next t ∧ t.pkg.hold.deep = true ∧ (t.side x).get F.THM_PWR_STATE_STATE = 3 ∧ (t.side x).hist = [] ∧ (t.side x).level = 0 ∧ (t.side x).sec.recipe = [] ∧
          ∀ k, k < 16 → (t.side x).keyPresent k = false) ∧
        (r ≠ 0 → ∃ t, exec .deep s = .next t ∧ (t.side x).get F.THM_PWR_STATE_STATE = d.get F.THM_PWR_STATE_STATE ∧ (t.side x).get F.THM_PWR_STATE_REASON = r ∧ (t.side x).get F.THM_STATUS_WINDOW_VIOL = 1)) ∧
      (s.accepts true 0x1100034 4 → s.pkg.hold.deep = false →
        (d.get F.THM_PWR_STATE_STATE = 2 → d.get F.THM_PWR_STATE_WAKING = 0 → ∃ t, exec .wake s = .next t ∧ (t.side x).get F.THM_PWR_STATE_WAKING = 1 ∧ (t.side x).get F.THM_PWR_STALE_GROUP = 255) ∧
        (d.get F.THM_PWR_STATE_STATE ≠ 2 ∨ d.get F.THM_PWR_STATE_WAKING = 1 → ∃ t, exec .wake s = .next t ∧ (t.side x).rf = d.rf)) ∧
      (∀ g, g < 8 →
        (d.get F.THM_PWR_STATE_WAKING = 0 ∨ d.stale g = false → ∃ t, exec (.wakeGroupRestored g) s = .next t ∧ (t.side x).rf = d.rf) ∧
        (d.get F.THM_PWR_STATE_WAKING = 1 → d.stale g = true → ∃ t, exec (.wakeGroupRestored g) s = .next t ∧ (∀ k, k < 8 → (t.side x).stale k = (d.stale k && k != g)) ∧
          ((∀ k, k < 8 → k ≠ g → d.stale k = false) → (t.side x).get F.THM_PWR_STATE_STATE = 0 ∧ (t.side x).get F.THM_PWR_STATE_WAKING = 0) ∧ (g = 7 → (t.side x).mpl.heat = [])))) ∧
    (∀ c0 c1, (s.pkg.hold.running x = true → ∃ t, exec (.refreshRateRead x c0 c1) s = .next t ∧ (match x with | .a => t.pkg.mr4A | .b => t.pkg.mr4B) = max c0 c1 ∧ t.side x = d) ∧
      (s.pkg.hold.running x = false → exec (.refreshRateRead x c0 c1) s = .next s)) ∧
    (s.accepts true 0x1100034 4 → s.pkg.hold.deep = true → 2 ≤ s.pkg.hold.health x → ∃ t, exec .wake s = .next t ∧ t.pkg.hold.deep = false ∧
      t.pkg.hold.health x = (if s.pkg.fwPick.isSome then 1 else 0) ∧ t.pkg.hold.granted = false)

/-- EVENT_ARM (R485), ASSERT, RELEASE, KICK and WATCHDOG_EXPIRY of the fault pair (R489 to R493), BEAM_ENABLE_OPEN and BEAM_ENABLE_CLOSE (R519), INJ_ARM, INJ_DISARM and INJECTION_END (R494 to R496), now being the instant of the command. ARM arms the route. ASSERT puts the pair in SAFE_STOP with the cause SW, its time, and counts it from HEALTHY. The causes are
judged first at RELEASE, u being the state then: it is accepted, and a pair in SAFE_STOP is HEALTHY and toggles from the next multiple of 50,000 ns, or it shows the reason that refuses it. KICK ends the watchdog's cause and restarts its period; an expired period starts the cause. The chain that opens blanks every port that is up with cause 1, spoils every plate that runs
and starts its cause where that is not masked; it closes. An injection is armed from IDLE in TEST with valid settings and disarmed while armed, else the write is a violation; its end is counted and reported. -/
def Obligations.FaultPairAndInjections : Prop :=
  ∀ (s : State) (x : SideId) (h : Hold), h = s.pkg.hold →
    (∀ n, (srcAssigned n = false → exec (.eventArm n) s = .next s) ∧
      (srcAssigned n = true → h.running x = true → s.accepts true (F.EVT_ROUTE_ARM n).off (Nat.lor (s.actSide.word (F.EVT_ROUTE_ARM n).off) 0x20) →
        ∃ t, exec (.eventArm n) s = .next t ∧ (t.side x).get (F.EVT_ROUTE_ARMED n) = 1 ∧ t.pkg.hold.rf = h.rf)) ∧
    (s.accepts true 0x3F02008 1 → ∃ t, exec .assert s = .next t ∧ t.pkg.hold.get F.HLD_FLT_STATUS_STATE = 1 ∧ t.pkg.hold.flag F.HLD_FLT_STATUS_SW = true ∧ t.pkg.hold.flag F.HLD_FLT_STATUS_ASSERT_SEEN = true ∧
      t.pkg.hold.get F.HLD_FLT_ASSERTED_LO_TIME + 2 ^ 32 * t.pkg.hold.get F.HLD_FLT_ASSERTED_HI_TIME = s.pkg.now ∧
      t.pkg.hold.get F.HLD_FLT_COUNT_COUNT = (h.get F.HLD_FLT_COUNT_COUNT + if h.get F.HLD_FLT_STATUS_STATE = 0 then 1 else 0) % 2 ^ 32) ∧
    (s.accepts true 0x3F02008 2 → ∀ u r, u = s.fltRefresh → r = u.relReason →
      (r = 0 → u.pkg.hold.get F.HLD_FLT_STATUS_STATE = 1 → ∃ t, exec .release s = .next t ∧ t.pkg.hold.get F.HLD_FLT_STATUS_STATE = 0 ∧ t.pkg.hold.flt.live = ceilDiv s.pkg.now 50000 * 50000) ∧
      (r = 0 → u.pkg.hold.get F.HLD_FLT_STATUS_STATE = 0 → exec .release s = .next u) ∧
      (r ≠ 0 → ∃ t, exec .release s = .next t ∧ t.pkg.hold.get F.HLD_FLT_STATUS_STATE = u.pkg.hold.get F.HLD_FLT_STATUS_STATE ∧ t.pkg.hold.get F.HLD_FLT_STATUS_REASON = r ∧ t.pkg.hold.flag F.HLD_FLT_STATUS_REL_REFUSED = true)) ∧
    (s.accepts true 0x3F02008 4 → ∃ t, exec .kick s = .next t ∧ t.pkg.hold.flt.kick = s.pkg.now ∧ t.pkg.hold.flt.wdog = false) ∧
    (∀ k v, v = s.advance k → ∀ due, due = (h.flag F.HLD_FLT_CFG_WDOG_EN && reached v.pkg.now (h.flt.kick + 1000000 * h.get F.HLD_FLT_CFG_WDOG_MS)) →
      (due = false → exec (.watchdogExpiry k) s = .next v) ∧
      (due = true → ∃ t, exec (.watchdogExpiry k) s = .next t ∧ t.pkg.hold.flt.wdog = true ∧
        (tget false h.flt.on 7 = false → t.pkg.hold.get F.HLD_FLT_STATUS_STATE = 1 ∧ t.pkg.hold.flag F.HLD_FLT_STATUS_WDOG = true))) ∧
    (h.beOpen = true → exec .beamEnableOpen s = .next s) ∧
    (h.beOpen = false → ∃ t, exec .beamEnableOpen s = .next t ∧ t.pkg.hold.beOpen = true ∧ t.pkg.hold.get F.HLD_FLT_STATUS_BE_OPEN = 1 ∧
      (∀ n, n < s.pkg.beams → (h.port n).st ≠ 0 → (t.pkg.hold.port n).owed = Nat.lor (h.port n).owed 0xFFFFFFFF) ∧
      (h.running x = true → ∀ r, r < 4 → (s.side x).recRunning r = true → (r, 0x0C) ∈ (t.side x).pln.causes) ∧
      (h.flag F.HLD_FLT_CFG_BE_EN = true → tget false h.flt.on 5 = false → t.pkg.hold.get F.HLD_FLT_STATUS_STATE = 1 ∧ t.pkg.hold.flag F.HLD_FLT_STATUS_BEAM_ENABLE = true)) ∧
    (∃ t, exec .beamEnableClose s = .next t ∧ t.pkg.hold.beOpen = false ∧ t.pkg.hold.get F.HLD_FLT_STATUS_BE_OPEN = 0) ∧
    (s.accepts true 0x3F03010 1 → ∀ ok, ok = (s.pkg.injOpen && h.get F.HLD_INJ_STATUS_STATE == 0 && h.injValid) →
      (ok = true → ∃ t, exec .injArm s = .next t ∧ t.pkg.hold.get F.HLD_INJ_STATUS_STATE = 1 ∧ t.side x = s.side x) ∧
      (ok = false → ∃ t, exec .injArm s = .next t ∧ t.pkg.hold.get F.HLD_INJ_STATUS_STATE = h.get F.HLD_INJ_STATUS_STATE ∧ t.pkg.hold.flag F.HLD_TWN_STATUS_WINDOW_VIOL = true)) ∧
    (s.accepts true 0x3F03010 2 →
      (s.pkg.injOpen = false → ∃ t, exec .injDisarm s = .next t ∧ t.pkg.hold.get F.HLD_INJ_STATUS_STATE = h.get F.HLD_INJ_STATUS_STATE ∧ t.pkg.hold.flag F.HLD_TWN_STATUS_WINDOW_VIOL = true) ∧
      (s.pkg.injOpen = true → h.get F.HLD_INJ_STATUS_STATE = 1 → ∃ t, exec .injDisarm s = .next t ∧ t.pkg.hold.get F.HLD_INJ_STATUS_STATE = 0) ∧
      (s.pkg.injOpen = true → h.get F.HLD_INJ_STATUS_STATE ≠ 1 → exec .injDisarm s = .next s)) ∧
    (∀ k v, v = s.advance k → ∀ past, past = (h.get F.HLD_INJ_STATUS_STATE == 2 && reached v.pkg.now (h.injAt + 1000 * h.get F.HLD_INJ_CFG_DUR)) →
      (past = false → exec (.injectionEnd k) s = .next v) ∧
      (past = true → ∃ t, exec (.injectionEnd k) s = .next t ∧ t.pkg.hold.get F.HLD_INJ_STATUS_STATE = 0 ∧ t.pkg.hold.flag F.HLD_INJ_STATUS_DONE = true ∧
        t.pkg.hold.get F.HLD_INJ_COUNT_COUNT = (h.get F.HLD_INJ_COUNT_COUNT + 1) % 2 ^ 32 ∧ (h.injKind = 8 → h.injSide ∉ t.pkg.hold.stopped)))

/-- A step takes the command at the front of the queue and runs it on the state with the queue's rest. -/
def Obligations.StepRunsTheFrontCommand : Prop :=
  ∀ (c : Instr) (rest : List Instr) (s : State),
    step { s with pending := c :: rest } = exec c { s with pending := rest } ∧
    Sys2Proof.core.step { s with pending := c :: rest } = exec c { s with pending := rest }

/-- On an empty queue the block idles: raw time advances by 1 ns, modulo 2^64, and nothing else changes. This is the model's choice
(log entry 2). -/
def Obligations.EmptyQueueIdles : Prop :=
  ∀ s : State, s.pending = [] →
    ∃ t, step s = .next t ∧ t.pkg.now = (s.pkg.now + 1) % 2 ^ 64 ∧ t.sideA = s.sideA ∧ t.sideB = s.sideB ∧ t.pending = [] ∧
      t.pkg.hold = s.pkg.hold ∧ t.pkg.pci = s.pkg.pci ∧ t.pkg.fuses = s.pkg.fuses ∧ t.pkg.host = s.pkg.host ∧
      t.pkg.flash = s.pkg.flash ∧ t.pkg.free = s.pkg.free

/-- What reset leaves (R2, R16, R54, R385, R386, R490, R498, R507): raw time 0, both sides BOOTING with neither granted, the fault
pair in SAFE_STOP with cause BOOT, the link down, no function with Bus Master Enable, the queue empty; every register reads the reset word
of its row; the control tick is 10 µs; no memory lists a byte; and the state meets the premises of the two invariants. The
values of the fuses are the model's choice (log entry 6). -/
def Obligations.ResetLeavesBothSidesBooting : Prop :=
  Sys2Proof.core.reset = State.reset ∧ State.reset.pkg.now = 0 ∧ State.reset.pending = [] ∧ State.reset.memOk ∧
  State.reset.pkg.fuses.sound ∧ State.reset.pkg.hold.granted = false ∧ State.reset.pkg.hold.flag F.HLD_TWN_STATUS_SAFE = false ∧
  State.reset.pkg.hold.get F.HLD_FLT_STATUS_STATE = 1 ∧ State.reset.pkg.hold.flag F.HLD_FLT_STATUS_BOOT = true ∧
  State.reset.pkg.pci.linkUp = false ∧ (∀ fn, State.reset.pkg.pci.bme fn = false) ∧
  ∀ x, State.reset.pkg.hold.health x = 1 ∧ (State.reset.side x).tim.tickNs = 10000 ∧ (State.reset.side x).dram = [] ∧
    (State.reset.side x).sram = [] ∧ (State.reset.side x).get F.CFG_STATUS_PHASE = 0 ∧
    ∀ off, (State.reset.side x).word off = resetWord off % 2 ^ 32

/-- Which ring belongs to which function: submission and completion rings 0 to 15 and event ring 0 to PF0; submission and completion
rings 16 to 63 and event ring 1 to PF1. -/
def Obligations.RingsBelongToFunctions : Prop :=
  (∀ n, n < 64 → (ringFnNum n = .pf0 ↔ n ≤ 15) ∧ (ringFnNum n = .pf1 ↔ 16 ≤ n ∧ n ≤ 63) ∧ ringFn (.cq n) = ringFnNum n) ∧
  ringFn (.eq 0) = .pf0 ∧ ringFn (.eq 1) = .pf1

/-- A ring whose TARGET names a DMA channel takes the opcodes 0x10, 0x11 and 0x12 of R97; a descriptor with an opcode from 0x13 to 0x2F
is finished with BAD_OPCODE as it is fetched, and changes nothing else; on every side that runs. -/
def Obligations.DmaChannelsRejectOtherOpcodes : Prop :=
  (∀ ch op, op < 0x30 → 0x10 ≤ op → (Sys2Proof.Machine.accepts (.dma ch) op = true ↔ op = 0x10 ∨ op = 0x11 ∨ op = 0x12)) ∧
  ∀ (n : Nat) (s : State) (x : SideId), n < 64 → s.pkg.hold.running x = true → (s.side x).sqPick s.pkg = some n →
    (s.side x).sqTarget n < 32 → dOwn (memRead s.pkg.host ((s.side x).sqMem n + 64 * (s.side x).sqNext n) 64) = true →
    0x13 ≤ dOpcode (memRead s.pkg.host ((s.side x).sqMem n + 64 * (s.side x).sqNext n) 64) →
    dOpcode (memRead s.pkg.host ((s.side x).sqMem n + 64 * (s.side x).sqNext n) 64) ≤ 0x2F →
    ∃ t, exec (.descriptorFetched n true) s = .next t ∧
      (t.side x).sqList n = (s.side x).sqList n ++ [⟨(s.side x).sqNext n,
        memRead s.pkg.host ((s.side x).sqMem n + 64 * (s.side x).sqNext n) 64, .done stBAD_OPCODE 0 0⟩] ∧
      (t.side x).rf = (s.side x).rf ∧ (s.side x).onlyRegs (t.side x)

/-- Two 64-bit times are ordered by the sign of their 64-bit two's complement difference: whatever two times lie less than 2^63 ns
apart, the later one has been reached from the earlier, across the wrap of the counter too, and not the reverse. -/
def Obligations.TimesCompareBySignOfDifference : Prop :=
  ∀ a b : Nat, (reached a b = true ↔ 0 ≤ tdiff a b) ∧ tdiff a b = (BitVec.ofNat 64 a - BitVec.ofNat 64 b).toInt ∧
    ∀ k, k < 2 ^ 63 → reached (b + k) b = true ∧ (0 < k → reached b (b + k) = false)
end

