-- ==== Sys2Proof/Laws/Tables.lean ====
section
/-! SUPPORT. Laws of the sparse tables, of the byte memories (read after write, the canonical form kept) and of bit fields. -/

namespace Sys2Proof.Machine

/-! Tables. -/

@[simp] theorem tget_tset_self {α : Type} (d : α) (t : Tab α) (i : Nat) (v : α) : tget d (tset t i v) i = v := by
  induction t with
  | nil => simp [tset, tget]
  | cons e t ih =>
    obtain ⟨j, u⟩ := e
    simp only [tset]
    split
    · simp [tget]
    · split <;> simp [tget, *]

@[simp] theorem tget_tset_ne {α : Type} (d : α) (t : Tab α) {i k : Nat} (v : α) (h : k ≠ i) :
    tget d (tset t i v) k = tget d t k := by
  induction t with
  | nil => simp [tset, tget, h]
  | cons e t ih =>
    obtain ⟨j, u⟩ := e
    simp only [tset]
    split
    · subst_vars; simp [tget, h]
    · split <;> simp [tget, h, ih]

theorem tget_tset {α : Type} (d : α) (t : Tab α) (i k : Nat) (v : α) :
    tget d (tset t i v) k = if k = i then v else tget d t k := by
  split
  · subst_vars; simp
  · simp [*]

/-! Memories. -/

/-- Addresses strictly rising and no listed zero, as propositions on the list. -/
theorem memWf_cons (i : Nat) (b : Byte) (t : Tab Byte) :
    memWf ((i, b) :: t) = true ↔ b ≠ 0 ∧ (∀ e ∈ t, i < e.1) ∧ memWf t = true := by
  induction t generalizing i b with
  | nil => simp [memWf]
  | cons e t ih =>
    obtain ⟨j, c⟩ := e
    have h1 : memWf ((i, b) :: (j, c) :: t) = true ↔ b ≠ 0 ∧ i < j ∧ memWf ((j, c) :: t) = true := by
      simp [memWf, and_assoc]
    rw [h1]
    constructor
    · rintro ⟨hb, hij, ht⟩
      refine ⟨hb, ?_, ht⟩
      have h2 := ((ih j c).1 ht).2.1
      intro e he
      rcases List.mem_cons.1 he with rfl | he
      · exact hij
      · exact Nat.lt_trans hij (h2 e he)
    · rintro ⟨hb, hlt, ht⟩
      exact ⟨hb, hlt (j, c) (by simp), ht⟩

theorem memWf_filter (p : Nat × Byte → Bool) (m : Tab Byte) (h : memWf m = true) : memWf (m.filter p) = true := by
  induction m with
  | nil => rfl
  | cons e t ih =>
    obtain ⟨i, b⟩ := e
    obtain ⟨hb, hlt, ht⟩ := (memWf_cons i b t).1 h
    simp only [List.filter_cons]
    split
    · exact (memWf_cons _ _ _).2 ⟨hb, fun e he => hlt e (List.mem_of_mem_filter he), ih ht⟩
    · exact ih ht

theorem mem_tset {α : Type} (t : Tab α) (i : Nat) (v : α) (e : Nat × α) (h : e ∈ tset t i v) : e = (i, v) ∨ e ∈ t := by
  induction t with
  | nil => simpa [tset] using h
  | cons g t ih =>
    obtain ⟨j, u⟩ := g
    simp only [tset] at h
    split at h
    · rcases List.mem_cons.1 h with h | h <;> simp [h]
    · split at h
      · rcases List.mem_cons.1 h with h | h <;> simp [h]
      · rcases List.mem_cons.1 h with h | h
        · simp [h]
        · rcases ih h with h | h <;> simp [h]

theorem memWf_tset (m : Tab Byte) (a : Nat) (b : Byte) (hb : b ≠ 0) (h : memWf m = true) : memWf (tset m a b) = true := by
  induction m with
  | nil => simpa [tset, memWf] using hb
  | cons e t ih =>
    obtain ⟨i, c⟩ := e
    obtain ⟨hc, hlt, ht⟩ := (memWf_cons i c t).1 h
    simp only [tset]
    split
    · subst_vars; exact (memWf_cons _ _ _).2 ⟨hb, hlt, ht⟩
    · split
      · refine (memWf_cons _ _ _).2 ⟨hb, ?_, h⟩
        intro e he
        rcases List.mem_cons.1 he with rfl | he
        · assumption
        · exact Nat.lt_trans ‹_› (hlt e he)
      · refine (memWf_cons _ _ _).2 ⟨hc, ?_, ih ht⟩
        intro e he
        rcases mem_tset _ _ _ _ he with rfl | he
        · exact Nat.lt_of_le_of_ne (Nat.le_of_not_lt ‹_›) (fun h => ‹¬ _› h.symm)
        · exact hlt e he

/-- Writing one byte keeps the canonical form. -/
theorem memWf_memPut (m : Tab Byte) (a : Nat) (b : Byte) (h : memWf m = true) : memWf (memPut m a b) = true := by
  unfold memPut
  split
  · exact memWf_filter _ _ h
  · exact memWf_tset _ _ _ ‹_› h

/-- Writing bytes keeps the canonical form. -/
theorem memWf_memWrite (m : Tab Byte) (a : Nat) (l : List Byte) (h : memWf m = true) : memWf (memWrite m a l) = true := by
  induction l generalizing m a with
  | nil => exact h
  | cons b t ih => exact ih _ _ (memWf_memPut _ _ _ h)

@[simp] theorem memByte_nil (a : Nat) : memByte [] a = 0 := rfl

theorem memByte_filter_self (m : Tab Byte) (a : Nat) : memByte (m.filter fun e => e.1 ≠ a) a = 0 := by
  induction m with
  | nil => rfl
  | cons e t ih =>
    simp only [List.filter_cons]
    split
    · obtain ⟨j, u⟩ := e
      have : a ≠ j := fun h => by simp_all
      simpa [memByte, tget, this] using ih
    · exact ih

theorem memByte_filter_ne (m : Tab Byte) {a k : Nat} (h : k ≠ a) : memByte (m.filter fun e => e.1 ≠ a) k = memByte m k := by
  induction m with
  | nil => rfl
  | cons e t ih =>
    obtain ⟨j, u⟩ := e
    simp only [List.filter_cons]
    split
    · simp only [memByte, tget] at *
      split
      · rfl
      · exact ih
    · have hj : j = a := by simp_all
      subst hj
      simp only [memByte, tget, h, if_false] at *
      exact ih

@[simp] theorem memByte_memPut_self (m : Tab Byte) (a : Nat) (b : Byte) : memByte (memPut m a b) a = b := by
  unfold memPut
  split
  · subst_vars; exact memByte_filter_self m a
  · simp [memByte]

@[simp] theorem memByte_memPut_ne (m : Tab Byte) {a k : Nat} (b : Byte) (h : k ≠ a) :
    memByte (memPut m a b) k = memByte m k := by
  unfold memPut
  split
  · exact memByte_filter_ne m h
  · simp [memByte, h]

/-- A byte outside the bytes written reads as before. -/
theorem memByte_memWrite_out (m : Tab Byte) (a : Nat) (l : List Byte) (k : Nat) (h : k < a ∨ a + l.length ≤ k) :
    memByte (memWrite m a l) k = memByte m k := by
  induction l generalizing m a with
  | nil => rfl
  | cons b t ih =>
    simp only [List.length_cons] at h
    have h1 : k < a + 1 ∨ a + 1 + t.length ≤ k := by omega
    have h2 : k ≠ a := by omega
    rw [memWrite, ih _ _ h1, memByte_memPut_ne _ _ h2]

/-- Byte i of the bytes written reads as written. -/
theorem memByte_memWrite_in (m : Tab Byte) (a : Nat) (l : List Byte) (i : Nat) (h : i < l.length) :
    memByte (memWrite m a l) (a + i) = l[i] := by
  induction l generalizing m a i with
  | nil => simp at h
  | cons b t ih =>
    cases i with
    | zero => rw [memWrite, memByte_memWrite_out _ _ _ _ (by omega)]; simp
    | succ i =>
      have := ih (memPut m a b) (a + 1) i (by simpa using h)
      rw [memWrite, show a + (i + 1) = a + 1 + i by omega, this]; simp

theorem memRead_congr (m m' : Tab Byte) (a n : Nat) (h : ∀ k, a ≤ k → k < a + n → memByte m k = memByte m' k) :
    memRead m a n = memRead m' a n := by
  induction n generalizing a with
  | zero => rfl
  | succ n ih =>
    rw [memRead, memRead, h a (by omega) (by omega), ih (a + 1) fun k h1 h2 => h k (by omega) (by omega)]

/-- A read of what was just written. -/
@[simp] theorem memRead_memWrite (m : Tab Byte) (a : Nat) (l : List Byte) : memRead (memWrite m a l) a l.length = l := by
  induction l generalizing m a with
  | nil => rfl
  | cons b t ih =>
    rw [List.length_cons, memRead, memWrite, ih, memByte_memWrite_out _ _ _ _ (by omega)]; simp

/-! Bit fields. -/

theorem putBits_eq (v lo w x : Nat) :
    putBits v lo w x = 2 ^ lo * (2 ^ w * (v / 2 ^ lo / 2 ^ w) + x % 2 ^ w) + v % 2 ^ lo := by
  have h1 := Nat.div_add_mod v (2 ^ lo)
  have h2 := Nat.div_add_mod (v / 2 ^ lo) (2 ^ w)
  unfold putBits bits
  generalize v / 2 ^ lo = q at *
  generalize hx : x % 2 ^ w = y
  generalize q / 2 ^ w = c at *
  generalize q % 2 ^ w = e at *
  generalize v % 2 ^ lo = r at *
  subst h2
  subst h1
  have : 2 ^ lo * (2 ^ w * c + e) + r - e * 2 ^ lo = 2 ^ lo * (2 ^ w * c) + r := by
    rw [Nat.mul_add, Nat.mul_comm e]; omega
  rw [this, Nat.mul_add, Nat.mul_comm y]; omega

theorem testBit_putBits (v lo w x i : Nat) :
    (putBits v lo w x).testBit i = if i < lo then v.testBit i else if i < lo + w then x.testBit (i - lo) else v.testBit i := by
  have h1 : v % 2 ^ lo < 2 ^ lo := Nat.mod_lt _ (Nat.two_pow_pos _)
  have h2 : x % 2 ^ w < 2 ^ w := Nat.mod_lt _ (Nat.two_pow_pos _)
  rw [putBits_eq, Nat.testBit_two_pow_mul_add _ h1]
  by_cases h : i < lo
  · simp [h, Nat.testBit_mod_two_pow]
  · rw [if_neg h, if_neg h, Nat.testBit_two_pow_mul_add _ h2]
    by_cases h' : i < lo + w
    · rw [if_pos (by omega), if_pos h', Nat.testBit_mod_two_pow]
      simp; intro; omega
    · rw [if_neg (by omega), if_neg h', Nat.testBit_div_two_pow, Nat.testBit_div_two_pow]
      congr 1; omega

theorem testBit_bits (v lo w i : Nat) : (bits v lo w).testBit i = (decide (i < w) && v.testBit (lo + i)) := by
  unfold bits
  rw [Nat.testBit_mod_two_pow, Nat.testBit_div_two_pow, Nat.add_comm]

theorem bits_lt (v lo w : Nat) : bits v lo w < 2 ^ w := Nat.mod_lt _ (Nat.two_pow_pos _)

/-- A field of a word cut to n bits is the word's, if it lies in them. -/
theorem bits_mod (v n lo w : Nat) (h : lo + w ≤ n) : bits (v % 2 ^ n) lo w = bits v lo w := by
  apply Nat.eq_of_testBit_eq
  intro i
  simp only [testBit_bits, Nat.testBit_mod_two_pow]
  by_cases hi : i < w
  · have : lo + i < n := by omega
    simp [this]
  · simp [hi]

/-- A field just put reads as put. -/
theorem bits_putBits_self (v lo w x : Nat) : bits (putBits v lo w x) lo w = x % 2 ^ w := by
  apply Nat.eq_of_testBit_eq
  intro i
  rw [testBit_bits, testBit_putBits, Nat.testBit_mod_two_pow]
  by_cases hi : i < w
  · rw [if_neg (by omega), if_pos (by omega), Nat.add_sub_cancel_left]
  · simp [hi]

/-- A field apart from the one put reads as before. -/
theorem bits_putBits_ne (v lo w x lo' w' : Nat) (h : lo' + w' ≤ lo ∨ lo + w ≤ lo') :
    bits (putBits v lo w x) lo' w' = bits v lo' w' := by
  apply Nat.eq_of_testBit_eq
  intro i
  rw [testBit_bits, testBit_bits, testBit_putBits]
  by_cases hi : i < w'
  · rcases h with h | h
    · rw [if_pos (by omega)]
    · rw [if_neg (by omega), if_neg (by omega)]
  · simp [hi]

end Sys2Proof.Machine
end

