-- ==== Sys2Proof/Laws/Regs.lean ====
section
/-! SUPPORT. Laws of the register files: a field read after it is set, and the fields that a set leaves alone. -/

namespace Sys2Proof.Machine

theorem rfWord_lt (rf : Tab Word) (off : Nat) : rfWord rf off < 2 ^ 32 := (tget (BitVec.ofNat 32 (resetWord off)) rf off).isLt

@[simp] theorem rfWord_put_self (rf : Tab Word) (off v : Nat) : rfWord (rfPutWord rf off v) off = v % 2 ^ 32 := by
  simp [rfWord, rfPutWord]

theorem rfWord_put_ne (rf : Tab Word) {off o : Nat} (v : Nat) (h : o ≠ off) :
    rfWord (rfPutWord rf off v) o = rfWord rf o := by
  simp [rfWord, rfPutWord, h]

/-- A field just set reads as set. -/
theorem rfGet_rfSet_self (rf : Tab Word) (f : Fld) (v : Nat) (h : f.lo + f.w ≤ 32) :
    rfGet (rfSet rf f v) f = v % 2 ^ f.w := by
  rw [rfGet, rfSet, rfWord_put_self, bits_mod _ _ _ _ h, bits_putBits_self]

/-- A field of another register reads as before. -/
theorem rfGet_rfSet_off (rf : Tab Word) (f g : Fld) (v : Nat) (h : g.off ≠ f.off) :
    rfGet (rfSet rf f v) g = rfGet rf g := by
  rw [rfGet, rfGet, rfSet, rfWord_put_ne _ _ h]

/-- A field of the same register apart from the one set reads as before. -/
theorem rfGet_rfSet_bits (rf : Tab Word) (f g : Fld) (v : Nat) (h : g.lo + g.w ≤ f.lo ∨ f.lo + f.w ≤ g.lo)
    (h32 : g.lo + g.w ≤ 32) : rfGet (rfSet rf f v) g = rfGet rf g := by
  by_cases ho : g.off = f.off
  · rw [rfGet, rfGet, rfSet, ho, rfWord_put_self, bits_mod _ _ _ _ h32, bits_putBits_ne _ _ _ _ _ _ h]
  · exact rfGet_rfSet_off _ _ _ _ ho

theorem rfWord_rfSet_off (rf : Tab Word) (f : Fld) (v o : Nat) (h : o ≠ f.off) : rfWord (rfSet rf f v) o = rfWord rf o :=
  rfWord_put_ne _ _ h

theorem rfGet_put_self (rf : Tab Word) (f : Fld) (v : Nat) (h : f.lo + f.w ≤ 32) :
    rfGet (rfPutWord rf f.off v) f = bits v f.lo f.w := by
  rw [rfGet, rfWord_put_self, bits_mod _ _ _ _ h]

theorem rfGet_put_off (rf : Tab Word) (g : Fld) (off v : Nat) (h : g.off ≠ off) :
    rfGet (rfPutWord rf off v) g = rfGet rf g := by
  rw [rfGet, rfGet, rfWord_put_ne _ _ h]

end Sys2Proof.Machine
end

