-- ==== Sys2Proof/Laws/State.lean ====
section
/-! SUPPORT. What each update of the state leaves alone: one lemma per field, true by definition. -/

namespace Sys2Proof.Machine

/-! Side.set. -/

@[simp] theorem Side.set_rf (d : Side) (f : Fld) (v : Nat) : (d.set f v).rf = rfSet d.rf f v := rfl
@[simp] theorem Side.set_hist (d : Side) (f : Fld) (v : Nat) : (d.set f v).hist = d.hist := rfl
@[simp] theorem Side.set_tim (d : Side) (f : Fld) (v : Nat) : (d.set f v).tim = d.tim := rfl
@[simp] theorem Side.set_hif (d : Side) (f : Fld) (v : Nat) : (d.set f v).hif = d.hif := rfl
@[simp] theorem Side.set_dma (d : Side) (f : Fld) (v : Nat) : (d.set f v).dma = d.dma := rfl
@[simp] theorem Side.set_str (d : Side) (f : Fld) (v : Nat) : (d.set f v).str = d.str := rfl
@[simp] theorem Side.set_pln (d : Side) (f : Fld) (v : Nat) : (d.set f v).pln = d.pln := rfl
@[simp] theorem Side.set_sec (d : Side) (f : Fld) (v : Nat) : (d.set f v).sec = d.sec := rfl
@[simp] theorem Side.set_axes (d : Side) (f : Fld) (v : Nat) : (d.set f v).axes = d.axes := rfl
@[simp] theorem Side.set_encs (d : Side) (f : Fld) (v : Nat) : (d.set f v).encs = d.encs := rfl
@[simp] theorem Side.set_ras (d : Side) (f : Fld) (v : Nat) : (d.set f v).ras = d.ras := rfl
@[simp] theorem Side.set_veh (d : Side) (f : Fld) (v : Nat) : (d.set f v).veh = d.veh := rfl
@[simp] theorem Side.set_mpl (d : Side) (f : Fld) (v : Nat) : (d.set f v).mpl = d.mpl := rfl
@[simp] theorem Side.set_law (d : Side) (f : Fld) (v : Nat) : (d.set f v).law = d.law := rfl
@[simp] theorem Side.set_pio (d : Side) (f : Fld) (v : Nat) : (d.set f v).pio = d.pio := rfl
@[simp] theorem Side.set_foc (d : Side) (f : Fld) (v : Nat) : (d.set f v).foc = d.foc := rfl
@[simp] theorem Side.set_twn (d : Side) (f : Fld) (v : Nat) : (d.set f v).twn = d.twn := rfl
@[simp] theorem Side.set_thm (d : Side) (f : Fld) (v : Nat) : (d.set f v).thm = d.thm := rfl
@[simp] theorem Side.set_ptp (d : Side) (f : Fld) (v : Nat) : (d.set f v).ptp = d.ptp := rfl
@[simp] theorem Side.set_prev (d : Side) (f : Fld) (v : Nat) : (d.set f v).prev = d.prev := rfl
@[simp] theorem Side.set_posted (d : Side) (f : Fld) (v : Nat) : (d.set f v).posted = d.posted := rfl
@[simp] theorem Side.set_dram (d : Side) (f : Fld) (v : Nat) : (d.set f v).dram = d.dram := rfl
@[simp] theorem Side.set_eccBad (d : Side) (f : Fld) (v : Nat) : (d.set f v).eccBad = d.eccBad := rfl
@[simp] theorem Side.set_sram (d : Side) (f : Fld) (v : Nat) : (d.set f v).sram = d.sram := rfl
@[simp] theorem Side.set_out (d : Side) (f : Fld) (v : Nat) : (d.set f v).out = d.out := rfl

/-! Side.setWord. -/

@[simp] theorem Side.setWord_rf (d : Side) (o v : Nat) : (d.setWord o v).rf = rfPutWord d.rf o v := rfl
@[simp] theorem Side.setWord_hist (d : Side) (o v : Nat) : (d.setWord o v).hist = d.hist := rfl
@[simp] theorem Side.setWord_tim (d : Side) (o v : Nat) : (d.setWord o v).tim = d.tim := rfl
@[simp] theorem Side.setWord_hif (d : Side) (o v : Nat) : (d.setWord o v).hif = d.hif := rfl
@[simp] theorem Side.setWord_dma (d : Side) (o v : Nat) : (d.setWord o v).dma = d.dma := rfl
@[simp] theorem Side.setWord_str (d : Side) (o v : Nat) : (d.setWord o v).str = d.str := rfl
@[simp] theorem Side.setWord_pln (d : Side) (o v : Nat) : (d.setWord o v).pln = d.pln := rfl
@[simp] theorem Side.setWord_sec (d : Side) (o v : Nat) : (d.setWord o v).sec = d.sec := rfl
@[simp] theorem Side.setWord_axes (d : Side) (o v : Nat) : (d.setWord o v).axes = d.axes := rfl
@[simp] theorem Side.setWord_encs (d : Side) (o v : Nat) : (d.setWord o v).encs = d.encs := rfl
@[simp] theorem Side.setWord_ras (d : Side) (o v : Nat) : (d.setWord o v).ras = d.ras := rfl
@[simp] theorem Side.setWord_veh (d : Side) (o v : Nat) : (d.setWord o v).veh = d.veh := rfl
@[simp] theorem Side.setWord_mpl (d : Side) (o v : Nat) : (d.setWord o v).mpl = d.mpl := rfl
@[simp] theorem Side.setWord_law (d : Side) (o v : Nat) : (d.setWord o v).law = d.law := rfl
@[simp] theorem Side.setWord_pio (d : Side) (o v : Nat) : (d.setWord o v).pio = d.pio := rfl
@[simp] theorem Side.setWord_foc (d : Side) (o v : Nat) : (d.setWord o v).foc = d.foc := rfl
@[simp] theorem Side.setWord_twn (d : Side) (o v : Nat) : (d.setWord o v).twn = d.twn := rfl
@[simp] theorem Side.setWord_thm (d : Side) (o v : Nat) : (d.setWord o v).thm = d.thm := rfl
@[simp] theorem Side.setWord_ptp (d : Side) (o v : Nat) : (d.setWord o v).ptp = d.ptp := rfl
@[simp] theorem Side.setWord_prev (d : Side) (o v : Nat) : (d.setWord o v).prev = d.prev := rfl
@[simp] theorem Side.setWord_posted (d : Side) (o v : Nat) : (d.setWord o v).posted = d.posted := rfl
@[simp] theorem Side.setWord_dram (d : Side) (o v : Nat) : (d.setWord o v).dram = d.dram := rfl
@[simp] theorem Side.setWord_eccBad (d : Side) (o v : Nat) : (d.setWord o v).eccBad = d.eccBad := rfl
@[simp] theorem Side.setWord_sram (d : Side) (o v : Nat) : (d.setWord o v).sram = d.sram := rfl
@[simp] theorem Side.setWord_out (d : Side) (o v : Nat) : (d.setWord o v).out = d.out := rfl

/-! Side.inc. -/

@[simp] theorem Side.inc_rf (d : Side) (f : Fld) (n : Nat) : (d.inc f n).rf = rfSet d.rf f (d.get f + n) := rfl
@[simp] theorem Side.inc_hist (d : Side) (f : Fld) (n : Nat) : (d.inc f n).hist = d.hist := rfl
@[simp] theorem Side.inc_tim (d : Side) (f : Fld) (n : Nat) : (d.inc f n).tim = d.tim := rfl
@[simp] theorem Side.inc_hif (d : Side) (f : Fld) (n : Nat) : (d.inc f n).hif = d.hif := rfl
@[simp] theorem Side.inc_dma (d : Side) (f : Fld) (n : Nat) : (d.inc f n).dma = d.dma := rfl
@[simp] theorem Side.inc_str (d : Side) (f : Fld) (n : Nat) : (d.inc f n).str = d.str := rfl
@[simp] theorem Side.inc_pln (d : Side) (f : Fld) (n : Nat) : (d.inc f n).pln = d.pln := rfl
@[simp] theorem Side.inc_sec (d : Side) (f : Fld) (n : Nat) : (d.inc f n).sec = d.sec := rfl
@[simp] theorem Side.inc_axes (d : Side) (f : Fld) (n : Nat) : (d.inc f n).axes = d.axes := rfl
@[simp] theorem Side.inc_encs (d : Side) (f : Fld) (n : Nat) : (d.inc f n).encs = d.encs := rfl
@[simp] theorem Side.inc_ras (d : Side) (f : Fld) (n : Nat) : (d.inc f n).ras = d.ras := rfl
@[simp] theorem Side.inc_veh (d : Side) (f : Fld) (n : Nat) : (d.inc f n).veh = d.veh := rfl
@[simp] theorem Side.inc_mpl (d : Side) (f : Fld) (n : Nat) : (d.inc f n).mpl = d.mpl := rfl
@[simp] theorem Side.inc_law (d : Side) (f : Fld) (n : Nat) : (d.inc f n).law = d.law := rfl
@[simp] theorem Side.inc_pio (d : Side) (f : Fld) (n : Nat) : (d.inc f n).pio = d.pio := rfl
@[simp] theorem Side.inc_foc (d : Side) (f : Fld) (n : Nat) : (d.inc f n).foc = d.foc := rfl
@[simp] theorem Side.inc_twn (d : Side) (f : Fld) (n : Nat) : (d.inc f n).twn = d.twn := rfl
@[simp] theorem Side.inc_thm (d : Side) (f : Fld) (n : Nat) : (d.inc f n).thm = d.thm := rfl
@[simp] theorem Side.inc_ptp (d : Side) (f : Fld) (n : Nat) : (d.inc f n).ptp = d.ptp := rfl
@[simp] theorem Side.inc_prev (d : Side) (f : Fld) (n : Nat) : (d.inc f n).prev = d.prev := rfl
@[simp] theorem Side.inc_posted (d : Side) (f : Fld) (n : Nat) : (d.inc f n).posted = d.posted := rfl
@[simp] theorem Side.inc_dram (d : Side) (f : Fld) (n : Nat) : (d.inc f n).dram = d.dram := rfl
@[simp] theorem Side.inc_eccBad (d : Side) (f : Fld) (n : Nat) : (d.inc f n).eccBad = d.eccBad := rfl
@[simp] theorem Side.inc_sram (d : Side) (f : Fld) (n : Nat) : (d.inc f n).sram = d.sram := rfl
@[simp] theorem Side.inc_out (d : Side) (f : Fld) (n : Nat) : (d.inc f n).out = d.out := rfl

/-! Side.set64. -/

@[simp] theorem Side.set64_rf (d : Side) (f g : Fld) (v : Nat) : (d.set64 f g v).rf = rfSet (rfSet d.rf f (v % 2 ^ 32)) g (v / 2 ^ 32 % 2 ^ 32) := rfl
@[simp] theorem Side.set64_hist (d : Side) (f g : Fld) (v : Nat) : (d.set64 f g v).hist = d.hist := rfl
@[simp] theorem Side.set64_tim (d : Side) (f g : Fld) (v : Nat) : (d.set64 f g v).tim = d.tim := rfl
@[simp] theorem Side.set64_hif (d : Side) (f g : Fld) (v : Nat) : (d.set64 f g v).hif = d.hif := rfl
@[simp] theorem Side.set64_dma (d : Side) (f g : Fld) (v : Nat) : (d.set64 f g v).dma = d.dma := rfl
@[simp] theorem Side.set64_str (d : Side) (f g : Fld) (v : Nat) : (d.set64 f g v).str = d.str := rfl
@[simp] theorem Side.set64_pln (d : Side) (f g : Fld) (v : Nat) : (d.set64 f g v).pln = d.pln := rfl
@[simp] theorem Side.set64_sec (d : Side) (f g : Fld) (v : Nat) : (d.set64 f g v).sec = d.sec := rfl
@[simp] theorem Side.set64_axes (d : Side) (f g : Fld) (v : Nat) : (d.set64 f g v).axes = d.axes := rfl
@[simp] theorem Side.set64_encs (d : Side) (f g : Fld) (v : Nat) : (d.set64 f g v).encs = d.encs := rfl
@[simp] theorem Side.set64_ras (d : Side) (f g : Fld) (v : Nat) : (d.set64 f g v).ras = d.ras := rfl
@[simp] theorem Side.set64_veh (d : Side) (f g : Fld) (v : Nat) : (d.set64 f g v).veh = d.veh := rfl
@[simp] theorem Side.set64_mpl (d : Side) (f g : Fld) (v : Nat) : (d.set64 f g v).mpl = d.mpl := rfl
@[simp] theorem Side.set64_law (d : Side) (f g : Fld) (v : Nat) : (d.set64 f g v).law = d.law := rfl
@[simp] theorem Side.set64_pio (d : Side) (f g : Fld) (v : Nat) : (d.set64 f g v).pio = d.pio := rfl
@[simp] theorem Side.set64_foc (d : Side) (f g : Fld) (v : Nat) : (d.set64 f g v).foc = d.foc := rfl
@[simp] theorem Side.set64_twn (d : Side) (f g : Fld) (v : Nat) : (d.set64 f g v).twn = d.twn := rfl
@[simp] theorem Side.set64_thm (d : Side) (f g : Fld) (v : Nat) : (d.set64 f g v).thm = d.thm := rfl
@[simp] theorem Side.set64_ptp (d : Side) (f g : Fld) (v : Nat) : (d.set64 f g v).ptp = d.ptp := rfl
@[simp] theorem Side.set64_prev (d : Side) (f g : Fld) (v : Nat) : (d.set64 f g v).prev = d.prev := rfl
@[simp] theorem Side.set64_posted (d : Side) (f g : Fld) (v : Nat) : (d.set64 f g v).posted = d.posted := rfl
@[simp] theorem Side.set64_dram (d : Side) (f g : Fld) (v : Nat) : (d.set64 f g v).dram = d.dram := rfl
@[simp] theorem Side.set64_eccBad (d : Side) (f g : Fld) (v : Nat) : (d.set64 f g v).eccBad = d.eccBad := rfl
@[simp] theorem Side.set64_sram (d : Side) (f g : Fld) (v : Nat) : (d.set64 f g v).sram = d.sram := rfl
@[simp] theorem Side.set64_out (d : Side) (f g : Fld) (v : Nat) : (d.set64 f g v).out = d.out := rfl

/-! Hold.set. -/

@[simp] theorem Hold.set_rf (h : Hold) (f : Fld) (v : Nat) : (h.set f v).rf = rfSet h.rf f v := rfl
@[simp] theorem Hold.set_hist (h : Hold) (f : Fld) (v : Nat) : (h.set f v).hist = h.hist := rfl
@[simp] theorem Hold.set_gap (h : Hold) (f : Fld) (v : Nat) : (h.set f v).gap = h.gap := rfl
@[simp] theorem Hold.set_ports (h : Hold) (f : Fld) (v : Nat) : (h.set f v).ports = h.ports := rfl
@[simp] theorem Hold.set_beOpen (h : Hold) (f : Fld) (v : Nat) : (h.set f v).beOpen = h.beOpen := rfl
@[simp] theorem Hold.set_flt (h : Hold) (f : Fld) (v : Nat) : (h.set f v).flt = h.flt := rfl
@[simp] theorem Hold.set_watch (h : Hold) (f : Fld) (v : Nat) : (h.set f v).watch = h.watch := rfl
@[simp] theorem Hold.set_ack (h : Hold) (f : Fld) (v : Nat) : (h.set f v).ack = h.ack := rfl
@[simp] theorem Hold.set_cmpTick (h : Hold) (f : Fld) (v : Nat) : (h.set f v).cmpTick = h.cmpTick := rfl
@[simp] theorem Hold.set_copy (h : Hold) (f : Fld) (v : Nat) : (h.set f v).copy = h.copy := rfl
@[simp] theorem Hold.set_stopped (h : Hold) (f : Fld) (v : Nat) : (h.set f v).stopped = h.stopped := rfl
@[simp] theorem Hold.set_deep (h : Hold) (f : Fld) (v : Nat) : (h.set f v).deep = h.deep := rfl
@[simp] theorem Hold.set_pwm (h : Hold) (f : Fld) (v : Nat) : (h.set f v).pwm = h.pwm := rfl
@[simp] theorem Hold.set_ssr (h : Hold) (f : Fld) (v : Nat) : (h.set f v).ssr = h.ssr := rfl
@[simp] theorem Hold.set_eth (h : Hold) (f : Fld) (v : Nat) : (h.set f v).eth = h.eth := rfl
@[simp] theorem Hold.set_ethUp (h : Hold) (f : Fld) (v : Nat) : (h.set f v).ethUp = h.ethUp := rfl
@[simp] theorem Hold.set_down (h : Hold) (f : Fld) (v : Nat) : (h.set f v).down = h.down := rfl
@[simp] theorem Hold.set_injAt (h : Hold) (f : Fld) (v : Nat) : (h.set f v).injAt = h.injAt := rfl

/-! Hold.inc. -/

@[simp] theorem Hold.inc_rf (h : Hold) (f : Fld) (n : Nat) : (h.inc f n).rf = rfSet h.rf f (h.get f + n) := rfl
@[simp] theorem Hold.inc_hist (h : Hold) (f : Fld) (n : Nat) : (h.inc f n).hist = h.hist := rfl
@[simp] theorem Hold.inc_gap (h : Hold) (f : Fld) (n : Nat) : (h.inc f n).gap = h.gap := rfl
@[simp] theorem Hold.inc_ports (h : Hold) (f : Fld) (n : Nat) : (h.inc f n).ports = h.ports := rfl
@[simp] theorem Hold.inc_beOpen (h : Hold) (f : Fld) (n : Nat) : (h.inc f n).beOpen = h.beOpen := rfl
@[simp] theorem Hold.inc_flt (h : Hold) (f : Fld) (n : Nat) : (h.inc f n).flt = h.flt := rfl
@[simp] theorem Hold.inc_watch (h : Hold) (f : Fld) (n : Nat) : (h.inc f n).watch = h.watch := rfl
@[simp] theorem Hold.inc_ack (h : Hold) (f : Fld) (n : Nat) : (h.inc f n).ack = h.ack := rfl
@[simp] theorem Hold.inc_cmpTick (h : Hold) (f : Fld) (n : Nat) : (h.inc f n).cmpTick = h.cmpTick := rfl
@[simp] theorem Hold.inc_copy (h : Hold) (f : Fld) (n : Nat) : (h.inc f n).copy = h.copy := rfl
@[simp] theorem Hold.inc_stopped (h : Hold) (f : Fld) (n : Nat) : (h.inc f n).stopped = h.stopped := rfl
@[simp] theorem Hold.inc_deep (h : Hold) (f : Fld) (n : Nat) : (h.inc f n).deep = h.deep := rfl
@[simp] theorem Hold.inc_pwm (h : Hold) (f : Fld) (n : Nat) : (h.inc f n).pwm = h.pwm := rfl
@[simp] theorem Hold.inc_ssr (h : Hold) (f : Fld) (n : Nat) : (h.inc f n).ssr = h.ssr := rfl
@[simp] theorem Hold.inc_eth (h : Hold) (f : Fld) (n : Nat) : (h.inc f n).eth = h.eth := rfl
@[simp] theorem Hold.inc_ethUp (h : Hold) (f : Fld) (n : Nat) : (h.inc f n).ethUp = h.ethUp := rfl
@[simp] theorem Hold.inc_down (h : Hold) (f : Fld) (n : Nat) : (h.inc f n).down = h.down := rfl
@[simp] theorem Hold.inc_injAt (h : Hold) (f : Fld) (n : Nat) : (h.inc f n).injAt = h.injAt := rfl

/-! Hold.setPort. -/

@[simp] theorem Hold.setPort_rf (h : Hold) (n : Nat) (x : Port) : (h.setPort n x).rf = h.rf := rfl
@[simp] theorem Hold.setPort_hist (h : Hold) (n : Nat) (x : Port) : (h.setPort n x).hist = h.hist := rfl
@[simp] theorem Hold.setPort_gap (h : Hold) (n : Nat) (x : Port) : (h.setPort n x).gap = h.gap := rfl
@[simp] theorem Hold.setPort_ports (h : Hold) (n : Nat) (x : Port) : (h.setPort n x).ports = tset h.ports n x := rfl
@[simp] theorem Hold.setPort_beOpen (h : Hold) (n : Nat) (x : Port) : (h.setPort n x).beOpen = h.beOpen := rfl
@[simp] theorem Hold.setPort_flt (h : Hold) (n : Nat) (x : Port) : (h.setPort n x).flt = h.flt := rfl
@[simp] theorem Hold.setPort_watch (h : Hold) (n : Nat) (x : Port) : (h.setPort n x).watch = h.watch := rfl
@[simp] theorem Hold.setPort_ack (h : Hold) (n : Nat) (x : Port) : (h.setPort n x).ack = h.ack := rfl
@[simp] theorem Hold.setPort_cmpTick (h : Hold) (n : Nat) (x : Port) : (h.setPort n x).cmpTick = h.cmpTick := rfl
@[simp] theorem Hold.setPort_copy (h : Hold) (n : Nat) (x : Port) : (h.setPort n x).copy = h.copy := rfl
@[simp] theorem Hold.setPort_stopped (h : Hold) (n : Nat) (x : Port) : (h.setPort n x).stopped = h.stopped := rfl
@[simp] theorem Hold.setPort_deep (h : Hold) (n : Nat) (x : Port) : (h.setPort n x).deep = h.deep := rfl
@[simp] theorem Hold.setPort_pwm (h : Hold) (n : Nat) (x : Port) : (h.setPort n x).pwm = h.pwm := rfl
@[simp] theorem Hold.setPort_ssr (h : Hold) (n : Nat) (x : Port) : (h.setPort n x).ssr = h.ssr := rfl
@[simp] theorem Hold.setPort_eth (h : Hold) (n : Nat) (x : Port) : (h.setPort n x).eth = h.eth := rfl
@[simp] theorem Hold.setPort_ethUp (h : Hold) (n : Nat) (x : Port) : (h.setPort n x).ethUp = h.ethUp := rfl
@[simp] theorem Hold.setPort_down (h : Hold) (n : Nat) (x : Port) : (h.setPort n x).down = h.down := rfl
@[simp] theorem Hold.setPort_injAt (h : Hold) (n : Nat) (x : Port) : (h.setPort n x).injAt = h.injAt := rfl

/-! Hold.image. -/

@[simp] theorem Hold.image_rf (h : Hold) (d : Side) : (h.image d).rf = h.rf := rfl
@[simp] theorem Hold.image_hist (h : Hold) (d : Side) : (h.image d).hist = h.hist := rfl
@[simp] theorem Hold.image_gap (h : Hold) (d : Side) : (h.image d).gap = h.gap := rfl
@[simp] theorem Hold.image_ports (h : Hold) (d : Side) : (h.image d).ports = h.ports := rfl
@[simp] theorem Hold.image_beOpen (h : Hold) (d : Side) : (h.image d).beOpen = h.beOpen := rfl
@[simp] theorem Hold.image_flt (h : Hold) (d : Side) : (h.image d).flt = h.flt := rfl
@[simp] theorem Hold.image_watch (h : Hold) (d : Side) : (h.image d).watch = h.watch := rfl
@[simp] theorem Hold.image_ack (h : Hold) (d : Side) : (h.image d).ack = h.ack := rfl
@[simp] theorem Hold.image_cmpTick (h : Hold) (d : Side) : (h.image d).cmpTick = h.cmpTick := rfl
@[simp] theorem Hold.image_copy (h : Hold) (d : Side) : (h.image d).copy = h.copy := rfl
@[simp] theorem Hold.image_stopped (h : Hold) (d : Side) : (h.image d).stopped = h.stopped := rfl
@[simp] theorem Hold.image_deep (h : Hold) (d : Side) : (h.image d).deep = h.deep := rfl
@[simp] theorem Hold.image_pwm (h : Hold) (d : Side) : (h.image d).pwm = d.foc.duty := rfl
@[simp] theorem Hold.image_ssr (h : Hold) (d : Side) : (h.image d).ssr = d.ssrLines := rfl
@[simp] theorem Hold.image_eth (h : Hold) (d : Side) : (h.image d).eth = h.eth := rfl
@[simp] theorem Hold.image_ethUp (h : Hold) (d : Side) : (h.image d).ethUp = h.ethUp := rfl
@[simp] theorem Hold.image_down (h : Hold) (d : Side) : (h.image d).down = h.down := rfl
@[simp] theorem Hold.image_injAt (h : Hold) (d : Side) : (h.image d).injAt = h.injAt := rfl

/-! Pci.setMsix. -/

@[simp] theorem Pci.setMsix_linkUp (c : Pci) (fn : Fn) (v k x : Nat) : (c.setMsix fn v k x).linkUp = c.linkUp := rfl
@[simp] theorem Pci.setMsix_speed (c : Pci) (fn : Fn) (v k x : Nat) : (c.setMsix fn v k x).speed = c.speed := rfl
@[simp] theorem Pci.setMsix_width (c : Pci) (fn : Fn) (v k x : Nat) : (c.setMsix fn v k x).width = c.width := rfl
@[simp] theorem Pci.setMsix_bme0 (c : Pci) (fn : Fn) (v k x : Nat) : (c.setMsix fn v k x).bme0 = c.bme0 := rfl
@[simp] theorem Pci.setMsix_bme1 (c : Pci) (fn : Fn) (v k x : Nat) : (c.setMsix fn v k x).bme1 = c.bme1 := rfl
@[simp] theorem Pci.setMsix_pend (c : Pci) (fn : Fn) (v k x : Nat) : (c.setMsix fn v k x).pend = c.pend := rfl
@[simp] theorem Pci.setMsix_held (c : Pci) (fn : Fn) (v k x : Nat) : (c.setMsix fn v k x).held = c.held := rfl
@[simp] theorem Pci.setMsix_subsys (c : Pci) (fn : Fn) (v k x : Nat) : (c.setMsix fn v k x).subsys = c.subsys := rfl
@[simp] theorem Pci.setMsix_msixOn (c : Pci) (fn : Fn) (v k x : Nat) : (c.setMsix fn v k x).msixOn = c.msixOn := rfl
@[simp] theorem Pci.setMsix_fnMask (c : Pci) (fn : Fn) (v k x : Nat) : (c.setMsix fn v k x).fnMask = c.fnMask := rfl
@[simp] theorem Pci.setMsix_mps (c : Pci) (fn : Fn) (v k x : Nat) : (c.setMsix fn v k x).mps = c.mps := rfl
@[simp] theorem Pci.setMsix_mrrs (c : Pci) (fn : Fn) (v k x : Nat) : (c.setMsix fn v k x).mrrs = c.mrrs := rfl
@[simp] theorem Pci.setMsix_d3hot (c : Pci) (fn : Fn) (v k x : Nat) : (c.setMsix fn v k x).d3hot = c.d3hot := rfl

/-! Pci.setPend. -/

@[simp] theorem Pci.setPend_linkUp (c : Pci) (fn : Fn) (v : Nat) (x : Bool) : (c.setPend fn v x).linkUp = c.linkUp := rfl
@[simp] theorem Pci.setPend_speed (c : Pci) (fn : Fn) (v : Nat) (x : Bool) : (c.setPend fn v x).speed = c.speed := rfl
@[simp] theorem Pci.setPend_width (c : Pci) (fn : Fn) (v : Nat) (x : Bool) : (c.setPend fn v x).width = c.width := rfl
@[simp] theorem Pci.setPend_bme0 (c : Pci) (fn : Fn) (v : Nat) (x : Bool) : (c.setPend fn v x).bme0 = c.bme0 := rfl
@[simp] theorem Pci.setPend_bme1 (c : Pci) (fn : Fn) (v : Nat) (x : Bool) : (c.setPend fn v x).bme1 = c.bme1 := rfl
@[simp] theorem Pci.setPend_msix (c : Pci) (fn : Fn) (v : Nat) (x : Bool) : (c.setPend fn v x).msix = c.msix := rfl
@[simp] theorem Pci.setPend_held (c : Pci) (fn : Fn) (v : Nat) (x : Bool) : (c.setPend fn v x).held = c.held := rfl
@[simp] theorem Pci.setPend_subsys (c : Pci) (fn : Fn) (v : Nat) (x : Bool) : (c.setPend fn v x).subsys = c.subsys := rfl
@[simp] theorem Pci.setPend_msixOn (c : Pci) (fn : Fn) (v : Nat) (x : Bool) : (c.setPend fn v x).msixOn = c.msixOn := rfl
@[simp] theorem Pci.setPend_fnMask (c : Pci) (fn : Fn) (v : Nat) (x : Bool) : (c.setPend fn v x).fnMask = c.fnMask := rfl
@[simp] theorem Pci.setPend_mps (c : Pci) (fn : Fn) (v : Nat) (x : Bool) : (c.setPend fn v x).mps = c.mps := rfl
@[simp] theorem Pci.setPend_mrrs (c : Pci) (fn : Fn) (v : Nat) (x : Bool) : (c.setPend fn v x).mrrs = c.mrrs := rfl
@[simp] theorem Pci.setPend_d3hot (c : Pci) (fn : Fn) (v : Nat) (x : Bool) : (c.setPend fn v x).d3hot = c.d3hot := rfl

/-! Sides of a state. -/

@[simp] theorem State.setSide_pkg (s : State) (x : SideId) (d : Side) : (s.setSide x d).pkg = s.pkg := rfl
@[simp] theorem State.setSide_pending (s : State) (x : SideId) (d : Side) : (s.setSide x d).pending = s.pending := rfl
@[simp] theorem State.side_setSide (s : State) (x : SideId) (d : Side) : (s.setSide x d).side x = d := by cases x <;> rfl
@[simp] theorem State.side_setSide_other (s : State) (x : SideId) (d : Side) :
    (s.setSide x d).side (otherSide x) = s.side (otherSide x) := by cases x <;> rfl
@[simp] theorem State.side_a (s : State) : s.side .a = s.sideA := rfl
@[simp] theorem State.side_b (s : State) : s.side .b = s.sideB := rfl

theorem State.mk_pkg (k : Pkg) (a b : Side) (l : List Instr) : (State.mk k a b l).pkg = k := rfl
theorem State.mk_sideA (k : Pkg) (a b : Side) (l : List Instr) : (State.mk k a b l).sideA = a := rfl
theorem State.mk_sideB (k : Pkg) (a b : Side) (l : List Instr) : (State.mk k a b l).sideB = b := rfl
theorem State.mk_pending (k : Pkg) (a b : Side) (l : List Instr) : (State.mk k a b l).pending = l := rfl
@[simp] theorem State.advance_sideA (s : State) (t : Nat) : (s.advance t).sideA = s.sideA :=
  State.mk_sideA (s.pkg.advance t) s.sideA s.sideB s.pending
@[simp] theorem State.advance_sideB (s : State) (t : Nat) : (s.advance t).sideB = s.sideB :=
  State.mk_sideB (s.pkg.advance t) s.sideA s.sideB s.pending
@[simp] theorem State.advance_side (s : State) (t : Nat) (x : SideId) : (s.advance t).side x = s.side x := by
  cases x
  · exact State.advance_sideA s t
  · exact State.advance_sideB s t
@[simp] theorem State.advance_pending (s : State) (t : Nat) : (s.advance t).pending = s.pending :=
  State.mk_pending (s.pkg.advance t) s.sideA s.sideB s.pending
@[simp] theorem State.advance_pkg (s : State) (t : Nat) : (s.advance t).pkg = s.pkg.advance t :=
  State.mk_pkg (s.pkg.advance t) s.sideA s.sideB s.pending

@[simp] theorem Pkg.advance_fuses (p : Pkg) (t : Nat) : (p.advance t).fuses = p.fuses := by unfold Pkg.advance; split <;> rfl
@[simp] theorem Pkg.advance_hold (p : Pkg) (t : Nat) : (p.advance t).hold = p.hold := by unfold Pkg.advance; split <;> rfl
@[simp] theorem Pkg.advance_pci (p : Pkg) (t : Nat) : (p.advance t).pci = p.pci := by unfold Pkg.advance; split <;> rfl
@[simp] theorem Pkg.advance_host (p : Pkg) (t : Nat) : (p.advance t).host = p.host := by unfold Pkg.advance; split <;> rfl
@[simp] theorem Pkg.advance_flash (p : Pkg) (t : Nat) : (p.advance t).flash = p.flash := by unfold Pkg.advance; split <;> rfl
@[simp] theorem Pkg.advance_dramA (p : Pkg) (t : Nat) : (p.advance t).dramA = p.dramA := by unfold Pkg.advance; split <;> rfl
@[simp] theorem Pkg.advance_dramB (p : Pkg) (t : Nat) : (p.advance t).dramB = p.dramB := by unfold Pkg.advance; split <;> rfl
@[simp] theorem Pkg.advance_mr4A (p : Pkg) (t : Nat) : (p.advance t).mr4A = p.mr4A := by unfold Pkg.advance; split <;> rfl
@[simp] theorem Pkg.advance_mr4B (p : Pkg) (t : Nat) : (p.advance t).mr4B = p.mr4B := by unfold Pkg.advance; split <;> rfl
@[simp] theorem Pkg.advance_free (p : Pkg) (t : Nat) : (p.advance t).free = p.free := by unfold Pkg.advance; split <;> rfl
@[simp] theorem Pkg.advance_tap (p : Pkg) (t : Nat) : (p.advance t).tap = p.tap := by unfold Pkg.advance; split <;> rfl
@[simp] theorem Pkg.advance_dbg (p : Pkg) (t : Nat) : (p.advance t).dbg = p.dbg := by unfold Pkg.advance; split <;> rfl
@[simp] theorem Pkg.advance_given (p : Pkg) (t : Nat) : (p.advance t).given = p.given := by unfold Pkg.advance; split <;> rfl

/-! A packet that leaves the package (R82). -/

@[simp] theorem Pkg.sendMsix_raw (p : Pkg) (fn : Fn) (v : Nat) : (p.sendMsix fn v).raw = p.raw := by unfold Pkg.sendMsix; split <;> rfl
@[simp] theorem Pkg.sendMsix_fuses (p : Pkg) (fn : Fn) (v : Nat) : (p.sendMsix fn v).fuses = p.fuses := by unfold Pkg.sendMsix; split <;> rfl
@[simp] theorem Pkg.sendMsix_flash (p : Pkg) (fn : Fn) (v : Nat) : (p.sendMsix fn v).flash = p.flash := by unfold Pkg.sendMsix; split <;> rfl
@[simp] theorem Pkg.sendMsix_dramA (p : Pkg) (fn : Fn) (v : Nat) : (p.sendMsix fn v).dramA = p.dramA := by unfold Pkg.sendMsix; split <;> rfl
@[simp] theorem Pkg.sendMsix_dramB (p : Pkg) (fn : Fn) (v : Nat) : (p.sendMsix fn v).dramB = p.dramB := by unfold Pkg.sendMsix; split <;> rfl
@[simp] theorem Pkg.sendMsix_mr4A (p : Pkg) (fn : Fn) (v : Nat) : (p.sendMsix fn v).mr4A = p.mr4A := by unfold Pkg.sendMsix; split <;> rfl
@[simp] theorem Pkg.sendMsix_mr4B (p : Pkg) (fn : Fn) (v : Nat) : (p.sendMsix fn v).mr4B = p.mr4B := by unfold Pkg.sendMsix; split <;> rfl
@[simp] theorem Pkg.sendMsix_free (p : Pkg) (fn : Fn) (v : Nat) : (p.sendMsix fn v).free = p.free := by unfold Pkg.sendMsix; split <;> rfl
@[simp] theorem Pkg.sendMsix_tap (p : Pkg) (fn : Fn) (v : Nat) : (p.sendMsix fn v).tap = p.tap := by unfold Pkg.sendMsix; split <;> rfl
@[simp] theorem Pkg.sendMsix_dbg (p : Pkg) (fn : Fn) (v : Nat) : (p.sendMsix fn v).dbg = p.dbg := by unfold Pkg.sendMsix; split <;> rfl
@[simp] theorem Pkg.sendMsix_given (p : Pkg) (fn : Fn) (v : Nat) : (p.sendMsix fn v).given = p.given := by unfold Pkg.sendMsix; split <;> rfl
@[simp] theorem Pkg.sendMsix_hold (p : Pkg) (fn : Fn) (v : Nat) : (p.sendMsix fn v).hold = p.hold := by unfold Pkg.sendMsix; split <;> rfl
@[simp] theorem Pkg.sendMsix_pci_linkUp (p : Pkg) (fn : Fn) (v : Nat) : (p.sendMsix fn v).pci.linkUp = p.pci.linkUp := by unfold Pkg.sendMsix; split <;> rfl
@[simp] theorem Pkg.sendMsix_pci_speed (p : Pkg) (fn : Fn) (v : Nat) : (p.sendMsix fn v).pci.speed = p.pci.speed := by unfold Pkg.sendMsix; split <;> rfl
@[simp] theorem Pkg.sendMsix_pci_width (p : Pkg) (fn : Fn) (v : Nat) : (p.sendMsix fn v).pci.width = p.pci.width := by unfold Pkg.sendMsix; split <;> rfl
@[simp] theorem Pkg.sendMsix_pci_bme0 (p : Pkg) (fn : Fn) (v : Nat) : (p.sendMsix fn v).pci.bme0 = p.pci.bme0 := by unfold Pkg.sendMsix; split <;> rfl
@[simp] theorem Pkg.sendMsix_pci_bme1 (p : Pkg) (fn : Fn) (v : Nat) : (p.sendMsix fn v).pci.bme1 = p.pci.bme1 := by unfold Pkg.sendMsix; split <;> rfl
@[simp] theorem Pkg.sendMsix_pci_msix (p : Pkg) (fn : Fn) (v : Nat) : (p.sendMsix fn v).pci.msix = p.pci.msix := by unfold Pkg.sendMsix; split <;> rfl
@[simp] theorem Pkg.sendMsix_pci_subsys (p : Pkg) (fn : Fn) (v : Nat) : (p.sendMsix fn v).pci.subsys = p.pci.subsys := by unfold Pkg.sendMsix; split <;> rfl
@[simp] theorem Pkg.sendMsix_pci_msixOn (p : Pkg) (fn : Fn) (v : Nat) : (p.sendMsix fn v).pci.msixOn = p.pci.msixOn := by unfold Pkg.sendMsix; split <;> rfl
@[simp] theorem Pkg.sendMsix_pci_fnMask (p : Pkg) (fn : Fn) (v : Nat) : (p.sendMsix fn v).pci.fnMask = p.pci.fnMask := by unfold Pkg.sendMsix; split <;> rfl
@[simp] theorem Pkg.sendMsix_pci_mps (p : Pkg) (fn : Fn) (v : Nat) : (p.sendMsix fn v).pci.mps = p.pci.mps := by unfold Pkg.sendMsix; split <;> rfl
@[simp] theorem Pkg.sendMsix_pci_mrrs (p : Pkg) (fn : Fn) (v : Nat) : (p.sendMsix fn v).pci.mrrs = p.pci.mrrs := by unfold Pkg.sendMsix; split <;> rfl
@[simp] theorem Pkg.sendMsix_pci_d3hot (p : Pkg) (fn : Fn) (v : Nat) : (p.sendMsix fn v).pci.d3hot = p.pci.d3hot := by unfold Pkg.sendMsix; split <;> rfl

@[simp] theorem Pkg.emit_raw (p : Pkg) (o : Outbound) : (p.emit o).raw = p.raw := by cases o <;> simp [Pkg.emit]; split <;> rfl
@[simp] theorem Pkg.emit_fuses (p : Pkg) (o : Outbound) : (p.emit o).fuses = p.fuses := by cases o <;> simp [Pkg.emit]; split <;> rfl
@[simp] theorem Pkg.emit_flash (p : Pkg) (o : Outbound) : (p.emit o).flash = p.flash := by cases o <;> simp [Pkg.emit]; split <;> rfl
@[simp] theorem Pkg.emit_dramA (p : Pkg) (o : Outbound) : (p.emit o).dramA = p.dramA := by cases o <;> simp [Pkg.emit]; split <;> rfl
@[simp] theorem Pkg.emit_dramB (p : Pkg) (o : Outbound) : (p.emit o).dramB = p.dramB := by cases o <;> simp [Pkg.emit]; split <;> rfl
@[simp] theorem Pkg.emit_mr4A (p : Pkg) (o : Outbound) : (p.emit o).mr4A = p.mr4A := by cases o <;> simp [Pkg.emit]; split <;> rfl
@[simp] theorem Pkg.emit_mr4B (p : Pkg) (o : Outbound) : (p.emit o).mr4B = p.mr4B := by cases o <;> simp [Pkg.emit]; split <;> rfl
@[simp] theorem Pkg.emit_free (p : Pkg) (o : Outbound) : (p.emit o).free = p.free := by cases o <;> simp [Pkg.emit]; split <;> rfl
@[simp] theorem Pkg.emit_tap (p : Pkg) (o : Outbound) : (p.emit o).tap = p.tap := by cases o <;> simp [Pkg.emit]; split <;> rfl
@[simp] theorem Pkg.emit_dbg (p : Pkg) (o : Outbound) : (p.emit o).dbg = p.dbg := by cases o <;> simp [Pkg.emit]; split <;> rfl
@[simp] theorem Pkg.emit_given (p : Pkg) (o : Outbound) : (p.emit o).given = p.given := by cases o <;> simp [Pkg.emit]; split <;> rfl
@[simp] theorem Pkg.emit_hold_rf (p : Pkg) (o : Outbound) : (p.emit o).hold.rf = p.hold.rf := by cases o <;> simp [Pkg.emit]; split <;> rfl
@[simp] theorem Pkg.emit_hold_hist (p : Pkg) (o : Outbound) : (p.emit o).hold.hist = p.hold.hist := by cases o <;> simp [Pkg.emit]; split <;> rfl
@[simp] theorem Pkg.emit_hold_gap (p : Pkg) (o : Outbound) : (p.emit o).hold.gap = p.hold.gap := by cases o <;> simp [Pkg.emit]; split <;> rfl
@[simp] theorem Pkg.emit_hold_beOpen (p : Pkg) (o : Outbound) : (p.emit o).hold.beOpen = p.hold.beOpen := by cases o <;> simp [Pkg.emit]; split <;> rfl
@[simp] theorem Pkg.emit_hold_flt (p : Pkg) (o : Outbound) : (p.emit o).hold.flt = p.hold.flt := by cases o <;> simp [Pkg.emit]; split <;> rfl
@[simp] theorem Pkg.emit_hold_watch (p : Pkg) (o : Outbound) : (p.emit o).hold.watch = p.hold.watch := by cases o <;> simp [Pkg.emit]; split <;> rfl
@[simp] theorem Pkg.emit_hold_ack (p : Pkg) (o : Outbound) : (p.emit o).hold.ack = p.hold.ack := by cases o <;> simp [Pkg.emit]; split <;> rfl
@[simp] theorem Pkg.emit_hold_cmpTick (p : Pkg) (o : Outbound) : (p.emit o).hold.cmpTick = p.hold.cmpTick := by cases o <;> simp [Pkg.emit]; split <;> rfl
@[simp] theorem Pkg.emit_hold_copy (p : Pkg) (o : Outbound) : (p.emit o).hold.copy = p.hold.copy := by cases o <;> simp [Pkg.emit]; split <;> rfl
@[simp] theorem Pkg.emit_hold_stopped (p : Pkg) (o : Outbound) : (p.emit o).hold.stopped = p.hold.stopped := by cases o <;> simp [Pkg.emit]; split <;> rfl
@[simp] theorem Pkg.emit_hold_deep (p : Pkg) (o : Outbound) : (p.emit o).hold.deep = p.hold.deep := by cases o <;> simp [Pkg.emit]; split <;> rfl
@[simp] theorem Pkg.emit_hold_pwm (p : Pkg) (o : Outbound) : (p.emit o).hold.pwm = p.hold.pwm := by cases o <;> simp [Pkg.emit]; split <;> rfl
@[simp] theorem Pkg.emit_hold_ssr (p : Pkg) (o : Outbound) : (p.emit o).hold.ssr = p.hold.ssr := by cases o <;> simp [Pkg.emit]; split <;> rfl
@[simp] theorem Pkg.emit_hold_ethUp (p : Pkg) (o : Outbound) : (p.emit o).hold.ethUp = p.hold.ethUp := by cases o <;> simp [Pkg.emit]; split <;> rfl
@[simp] theorem Pkg.emit_hold_down (p : Pkg) (o : Outbound) : (p.emit o).hold.down = p.hold.down := by cases o <;> simp [Pkg.emit]; split <;> rfl
@[simp] theorem Pkg.emit_hold_injAt (p : Pkg) (o : Outbound) : (p.emit o).hold.injAt = p.hold.injAt := by cases o <;> simp [Pkg.emit]; split <;> rfl
@[simp] theorem Pkg.emit_pci_linkUp (p : Pkg) (o : Outbound) : (p.emit o).pci.linkUp = p.pci.linkUp := by cases o <;> simp [Pkg.emit]; split <;> rfl
@[simp] theorem Pkg.emit_pci_speed (p : Pkg) (o : Outbound) : (p.emit o).pci.speed = p.pci.speed := by cases o <;> simp [Pkg.emit]; split <;> rfl
@[simp] theorem Pkg.emit_pci_width (p : Pkg) (o : Outbound) : (p.emit o).pci.width = p.pci.width := by cases o <;> simp [Pkg.emit]; split <;> rfl
@[simp] theorem Pkg.emit_pci_bme0 (p : Pkg) (o : Outbound) : (p.emit o).pci.bme0 = p.pci.bme0 := by cases o <;> simp [Pkg.emit]; split <;> rfl
@[simp] theorem Pkg.emit_pci_bme1 (p : Pkg) (o : Outbound) : (p.emit o).pci.bme1 = p.pci.bme1 := by cases o <;> simp [Pkg.emit]; split <;> rfl
@[simp] theorem Pkg.emit_pci_msix (p : Pkg) (o : Outbound) : (p.emit o).pci.msix = p.pci.msix := by cases o <;> simp [Pkg.emit]; split <;> rfl
@[simp] theorem Pkg.emit_pci_subsys (p : Pkg) (o : Outbound) : (p.emit o).pci.subsys = p.pci.subsys := by cases o <;> simp [Pkg.emit]; split <;> rfl
@[simp] theorem Pkg.emit_pci_msixOn (p : Pkg) (o : Outbound) : (p.emit o).pci.msixOn = p.pci.msixOn := by cases o <;> simp [Pkg.emit]; split <;> rfl
@[simp] theorem Pkg.emit_pci_fnMask (p : Pkg) (o : Outbound) : (p.emit o).pci.fnMask = p.pci.fnMask := by cases o <;> simp [Pkg.emit]; split <;> rfl
@[simp] theorem Pkg.emit_pci_mps (p : Pkg) (o : Outbound) : (p.emit o).pci.mps = p.pci.mps := by cases o <;> simp [Pkg.emit]; split <;> rfl
@[simp] theorem Pkg.emit_pci_mrrs (p : Pkg) (o : Outbound) : (p.emit o).pci.mrrs = p.pci.mrrs := by cases o <;> simp [Pkg.emit]; split <;> rfl
@[simp] theorem Pkg.emit_pci_d3hot (p : Pkg) (o : Outbound) : (p.emit o).pci.d3hot = p.pci.d3hot := by cases o <;> simp [Pkg.emit]; split <;> rfl

@[simp] theorem Pkg.send_raw (p : Pkg) (o : Outbound) : (p.send o).raw = p.raw := by unfold Pkg.send; split <;> (try split) <;> simp
@[simp] theorem Pkg.send_fuses (p : Pkg) (o : Outbound) : (p.send o).fuses = p.fuses := by unfold Pkg.send; split <;> (try split) <;> simp
@[simp] theorem Pkg.send_flash (p : Pkg) (o : Outbound) : (p.send o).flash = p.flash := by unfold Pkg.send; split <;> (try split) <;> simp
@[simp] theorem Pkg.send_dramA (p : Pkg) (o : Outbound) : (p.send o).dramA = p.dramA := by unfold Pkg.send; split <;> (try split) <;> simp
@[simp] theorem Pkg.send_dramB (p : Pkg) (o : Outbound) : (p.send o).dramB = p.dramB := by unfold Pkg.send; split <;> (try split) <;> simp
@[simp] theorem Pkg.send_mr4A (p : Pkg) (o : Outbound) : (p.send o).mr4A = p.mr4A := by unfold Pkg.send; split <;> (try split) <;> simp
@[simp] theorem Pkg.send_mr4B (p : Pkg) (o : Outbound) : (p.send o).mr4B = p.mr4B := by unfold Pkg.send; split <;> (try split) <;> simp
@[simp] theorem Pkg.send_free (p : Pkg) (o : Outbound) : (p.send o).free = p.free := by unfold Pkg.send; split <;> (try split) <;> simp
@[simp] theorem Pkg.send_tap (p : Pkg) (o : Outbound) : (p.send o).tap = p.tap := by unfold Pkg.send; split <;> (try split) <;> simp
@[simp] theorem Pkg.send_dbg (p : Pkg) (o : Outbound) : (p.send o).dbg = p.dbg := by unfold Pkg.send; split <;> (try split) <;> simp
@[simp] theorem Pkg.send_given (p : Pkg) (o : Outbound) : (p.send o).given = p.given := by unfold Pkg.send; split <;> (try split) <;> simp
@[simp] theorem Pkg.send_hold_rf (p : Pkg) (o : Outbound) : (p.send o).hold.rf = p.hold.rf := by unfold Pkg.send; split <;> (try split) <;> simp
@[simp] theorem Pkg.send_hold_hist (p : Pkg) (o : Outbound) : (p.send o).hold.hist = p.hold.hist := by unfold Pkg.send; split <;> (try split) <;> simp
@[simp] theorem Pkg.send_hold_gap (p : Pkg) (o : Outbound) : (p.send o).hold.gap = p.hold.gap := by unfold Pkg.send; split <;> (try split) <;> simp
@[simp] theorem Pkg.send_hold_beOpen (p : Pkg) (o : Outbound) : (p.send o).hold.beOpen = p.hold.beOpen := by unfold Pkg.send; split <;> (try split) <;> simp
@[simp] theorem Pkg.send_hold_flt (p : Pkg) (o : Outbound) : (p.send o).hold.flt = p.hold.flt := by unfold Pkg.send; split <;> (try split) <;> simp
@[simp] theorem Pkg.send_hold_watch (p : Pkg) (o : Outbound) : (p.send o).hold.watch = p.hold.watch := by unfold Pkg.send; split <;> (try split) <;> simp
@[simp] theorem Pkg.send_hold_ack (p : Pkg) (o : Outbound) : (p.send o).hold.ack = p.hold.ack := by unfold Pkg.send; split <;> (try split) <;> simp
@[simp] theorem Pkg.send_hold_cmpTick (p : Pkg) (o : Outbound) : (p.send o).hold.cmpTick = p.hold.cmpTick := by unfold Pkg.send; split <;> (try split) <;> simp
@[simp] theorem Pkg.send_hold_copy (p : Pkg) (o : Outbound) : (p.send o).hold.copy = p.hold.copy := by unfold Pkg.send; split <;> (try split) <;> simp
@[simp] theorem Pkg.send_hold_stopped (p : Pkg) (o : Outbound) : (p.send o).hold.stopped = p.hold.stopped := by unfold Pkg.send; split <;> (try split) <;> simp
@[simp] theorem Pkg.send_hold_deep (p : Pkg) (o : Outbound) : (p.send o).hold.deep = p.hold.deep := by unfold Pkg.send; split <;> (try split) <;> simp
@[simp] theorem Pkg.send_hold_pwm (p : Pkg) (o : Outbound) : (p.send o).hold.pwm = p.hold.pwm := by unfold Pkg.send; split <;> (try split) <;> simp
@[simp] theorem Pkg.send_hold_ssr (p : Pkg) (o : Outbound) : (p.send o).hold.ssr = p.hold.ssr := by unfold Pkg.send; split <;> (try split) <;> simp
@[simp] theorem Pkg.send_hold_ethUp (p : Pkg) (o : Outbound) : (p.send o).hold.ethUp = p.hold.ethUp := by unfold Pkg.send; split <;> (try split) <;> simp
@[simp] theorem Pkg.send_hold_down (p : Pkg) (o : Outbound) : (p.send o).hold.down = p.hold.down := by unfold Pkg.send; split <;> (try split) <;> simp
@[simp] theorem Pkg.send_hold_injAt (p : Pkg) (o : Outbound) : (p.send o).hold.injAt = p.hold.injAt := by unfold Pkg.send; split <;> (try split) <;> simp
@[simp] theorem Pkg.send_pci_linkUp (p : Pkg) (o : Outbound) : (p.send o).pci.linkUp = p.pci.linkUp := by unfold Pkg.send; split <;> (try split) <;> simp
@[simp] theorem Pkg.send_pci_speed (p : Pkg) (o : Outbound) : (p.send o).pci.speed = p.pci.speed := by unfold Pkg.send; split <;> (try split) <;> simp
@[simp] theorem Pkg.send_pci_width (p : Pkg) (o : Outbound) : (p.send o).pci.width = p.pci.width := by unfold Pkg.send; split <;> (try split) <;> simp
@[simp] theorem Pkg.send_pci_bme0 (p : Pkg) (o : Outbound) : (p.send o).pci.bme0 = p.pci.bme0 := by unfold Pkg.send; split <;> (try split) <;> simp
@[simp] theorem Pkg.send_pci_bme1 (p : Pkg) (o : Outbound) : (p.send o).pci.bme1 = p.pci.bme1 := by unfold Pkg.send; split <;> (try split) <;> simp
@[simp] theorem Pkg.send_pci_msix (p : Pkg) (o : Outbound) : (p.send o).pci.msix = p.pci.msix := by unfold Pkg.send; split <;> (try split) <;> simp
@[simp] theorem Pkg.send_pci_subsys (p : Pkg) (o : Outbound) : (p.send o).pci.subsys = p.pci.subsys := by unfold Pkg.send; split <;> (try split) <;> simp
@[simp] theorem Pkg.send_pci_msixOn (p : Pkg) (o : Outbound) : (p.send o).pci.msixOn = p.pci.msixOn := by unfold Pkg.send; split <;> (try split) <;> simp
@[simp] theorem Pkg.send_pci_fnMask (p : Pkg) (o : Outbound) : (p.send o).pci.fnMask = p.pci.fnMask := by unfold Pkg.send; split <;> (try split) <;> simp
@[simp] theorem Pkg.send_pci_mps (p : Pkg) (o : Outbound) : (p.send o).pci.mps = p.pci.mps := by unfold Pkg.send; split <;> (try split) <;> simp
@[simp] theorem Pkg.send_pci_mrrs (p : Pkg) (o : Outbound) : (p.send o).pci.mrrs = p.pci.mrrs := by unfold Pkg.send; split <;> (try split) <;> simp
@[simp] theorem Pkg.send_pci_d3hot (p : Pkg) (o : Outbound) : (p.send o).pci.d3hot = p.pci.d3hot := by unfold Pkg.send; split <;> (try split) <;> simp

@[simp] theorem Pkg.sends_raw (l : List Outbound) (p : Pkg) : (l.foldl Pkg.send p).raw = p.raw := by induction l generalizing p <;> simp [*]
@[simp] theorem Pkg.sends_fuses (l : List Outbound) (p : Pkg) : (l.foldl Pkg.send p).fuses = p.fuses := by induction l generalizing p <;> simp [*]
@[simp] theorem Pkg.sends_flash (l : List Outbound) (p : Pkg) : (l.foldl Pkg.send p).flash = p.flash := by induction l generalizing p <;> simp [*]
@[simp] theorem Pkg.sends_dramA (l : List Outbound) (p : Pkg) : (l.foldl Pkg.send p).dramA = p.dramA := by induction l generalizing p <;> simp [*]
@[simp] theorem Pkg.sends_dramB (l : List Outbound) (p : Pkg) : (l.foldl Pkg.send p).dramB = p.dramB := by induction l generalizing p <;> simp [*]
@[simp] theorem Pkg.sends_mr4A (l : List Outbound) (p : Pkg) : (l.foldl Pkg.send p).mr4A = p.mr4A := by induction l generalizing p <;> simp [*]
@[simp] theorem Pkg.sends_mr4B (l : List Outbound) (p : Pkg) : (l.foldl Pkg.send p).mr4B = p.mr4B := by induction l generalizing p <;> simp [*]
@[simp] theorem Pkg.sends_free (l : List Outbound) (p : Pkg) : (l.foldl Pkg.send p).free = p.free := by induction l generalizing p <;> simp [*]
@[simp] theorem Pkg.sends_tap (l : List Outbound) (p : Pkg) : (l.foldl Pkg.send p).tap = p.tap := by induction l generalizing p <;> simp [*]
@[simp] theorem Pkg.sends_dbg (l : List Outbound) (p : Pkg) : (l.foldl Pkg.send p).dbg = p.dbg := by induction l generalizing p <;> simp [*]
@[simp] theorem Pkg.sends_given (l : List Outbound) (p : Pkg) : (l.foldl Pkg.send p).given = p.given := by induction l generalizing p <;> simp [*]
@[simp] theorem Pkg.sends_hold_rf (l : List Outbound) (p : Pkg) : (l.foldl Pkg.send p).hold.rf = p.hold.rf := by induction l generalizing p <;> simp [*]
@[simp] theorem Pkg.sends_hold_hist (l : List Outbound) (p : Pkg) : (l.foldl Pkg.send p).hold.hist = p.hold.hist := by induction l generalizing p <;> simp [*]
@[simp] theorem Pkg.sends_hold_gap (l : List Outbound) (p : Pkg) : (l.foldl Pkg.send p).hold.gap = p.hold.gap := by induction l generalizing p <;> simp [*]
@[simp] theorem Pkg.sends_hold_beOpen (l : List Outbound) (p : Pkg) : (l.foldl Pkg.send p).hold.beOpen = p.hold.beOpen := by induction l generalizing p <;> simp [*]
@[simp] theorem Pkg.sends_hold_flt (l : List Outbound) (p : Pkg) : (l.foldl Pkg.send p).hold.flt = p.hold.flt := by induction l generalizing p <;> simp [*]
@[simp] theorem Pkg.sends_hold_watch (l : List Outbound) (p : Pkg) : (l.foldl Pkg.send p).hold.watch = p.hold.watch := by induction l generalizing p <;> simp [*]
@[simp] theorem Pkg.sends_hold_ack (l : List Outbound) (p : Pkg) : (l.foldl Pkg.send p).hold.ack = p.hold.ack := by induction l generalizing p <;> simp [*]
@[simp] theorem Pkg.sends_hold_cmpTick (l : List Outbound) (p : Pkg) : (l.foldl Pkg.send p).hold.cmpTick = p.hold.cmpTick := by induction l generalizing p <;> simp [*]
@[simp] theorem Pkg.sends_hold_copy (l : List Outbound) (p : Pkg) : (l.foldl Pkg.send p).hold.copy = p.hold.copy := by induction l generalizing p <;> simp [*]
@[simp] theorem Pkg.sends_hold_stopped (l : List Outbound) (p : Pkg) : (l.foldl Pkg.send p).hold.stopped = p.hold.stopped := by induction l generalizing p <;> simp [*]
@[simp] theorem Pkg.sends_hold_deep (l : List Outbound) (p : Pkg) : (l.foldl Pkg.send p).hold.deep = p.hold.deep := by induction l generalizing p <;> simp [*]
@[simp] theorem Pkg.sends_hold_pwm (l : List Outbound) (p : Pkg) : (l.foldl Pkg.send p).hold.pwm = p.hold.pwm := by induction l generalizing p <;> simp [*]
@[simp] theorem Pkg.sends_hold_ssr (l : List Outbound) (p : Pkg) : (l.foldl Pkg.send p).hold.ssr = p.hold.ssr := by induction l generalizing p <;> simp [*]
@[simp] theorem Pkg.sends_hold_ethUp (l : List Outbound) (p : Pkg) : (l.foldl Pkg.send p).hold.ethUp = p.hold.ethUp := by induction l generalizing p <;> simp [*]
@[simp] theorem Pkg.sends_hold_down (l : List Outbound) (p : Pkg) : (l.foldl Pkg.send p).hold.down = p.hold.down := by induction l generalizing p <;> simp [*]
@[simp] theorem Pkg.sends_hold_injAt (l : List Outbound) (p : Pkg) : (l.foldl Pkg.send p).hold.injAt = p.hold.injAt := by induction l generalizing p <;> simp [*]
@[simp] theorem Pkg.sends_pci_linkUp (l : List Outbound) (p : Pkg) : (l.foldl Pkg.send p).pci.linkUp = p.pci.linkUp := by induction l generalizing p <;> simp [*]
@[simp] theorem Pkg.sends_pci_speed (l : List Outbound) (p : Pkg) : (l.foldl Pkg.send p).pci.speed = p.pci.speed := by induction l generalizing p <;> simp [*]
@[simp] theorem Pkg.sends_pci_width (l : List Outbound) (p : Pkg) : (l.foldl Pkg.send p).pci.width = p.pci.width := by induction l generalizing p <;> simp [*]
@[simp] theorem Pkg.sends_pci_bme0 (l : List Outbound) (p : Pkg) : (l.foldl Pkg.send p).pci.bme0 = p.pci.bme0 := by induction l generalizing p <;> simp [*]
@[simp] theorem Pkg.sends_pci_bme1 (l : List Outbound) (p : Pkg) : (l.foldl Pkg.send p).pci.bme1 = p.pci.bme1 := by induction l generalizing p <;> simp [*]
@[simp] theorem Pkg.sends_pci_msix (l : List Outbound) (p : Pkg) : (l.foldl Pkg.send p).pci.msix = p.pci.msix := by induction l generalizing p <;> simp [*]
@[simp] theorem Pkg.sends_pci_subsys (l : List Outbound) (p : Pkg) : (l.foldl Pkg.send p).pci.subsys = p.pci.subsys := by induction l generalizing p <;> simp [*]
@[simp] theorem Pkg.sends_pci_msixOn (l : List Outbound) (p : Pkg) : (l.foldl Pkg.send p).pci.msixOn = p.pci.msixOn := by induction l generalizing p <;> simp [*]
@[simp] theorem Pkg.sends_pci_fnMask (l : List Outbound) (p : Pkg) : (l.foldl Pkg.send p).pci.fnMask = p.pci.fnMask := by induction l generalizing p <;> simp [*]
@[simp] theorem Pkg.sends_pci_mps (l : List Outbound) (p : Pkg) : (l.foldl Pkg.send p).pci.mps = p.pci.mps := by induction l generalizing p <;> simp [*]
@[simp] theorem Pkg.sends_pci_mrrs (l : List Outbound) (p : Pkg) : (l.foldl Pkg.send p).pci.mrrs = p.pci.mrrs := by induction l generalizing p <;> simp [*]
@[simp] theorem Pkg.sends_pci_d3hot (l : List Outbound) (p : Pkg) : (l.foldl Pkg.send p).pci.d3hot = p.pci.d3hot := by induction l generalizing p <;> simp [*]

end Sys2Proof.Machine
end

