-- ==== Sys2Proof/Laws/Both.lean ====
section
/-! SUPPORT. What the wrapper over both sides can do (R14, R19 to R22): each side that runs is taken to what the side's own
function gives, but for the output, which has left; the package's fuses, flash, time, fitted memory and the hold die's registers stay. -/

namespace Sys2Proof.Machine

/-- Which sides are alive hangs on the hold die's registers and stopped clocks alone. -/
theorem Hold.alive_congr {h k : Hold} (x : SideId) (hr : h.rf = k.rf) (hs : h.stopped = k.stopped) : h.alive x = k.alive x := by
  have e : h.health x = k.health x := by cases x <;> simp only [Hold.health, Hold.get, hr]
  unfold Hold.alive
  rw [e, hs]

theorem Hold.running_congr {h k : Hold} (x : SideId) (hr : h.rf = k.rf) (hs : h.stopped = k.stopped) (hd : h.deep = k.deep) :
    h.running x = k.running x := by
  unfold Hold.running
  rw [Hold.alive_congr x hr hs, hd]

/-! The output leaves. -/

theorem State.deliver_sideA (s : State) : ∃ l, s.deliver.sideA = { s.sideA with out := l } := by
  unfold State.deliver
  split
  · exact ⟨_, rfl⟩
  · split <;> exact ⟨_, rfl⟩

theorem State.deliver_sideB (s : State) : ∃ l, s.deliver.sideB = { s.sideB with out := l } := by
  unfold State.deliver
  split
  · exact ⟨_, rfl⟩
  · split <;> exact ⟨_, rfl⟩

theorem State.deliver_side (s : State) (x : SideId) : ∃ l, s.deliver.side x = { s.side x with out := l } := by
  cases x
  · exact s.deliver_sideA
  · exact s.deliver_sideB

@[simp] theorem State.deliver_pending (s : State) : s.deliver.pending = s.pending := by
  unfold State.deliver
  split
  · rfl
  · split <;> rfl

@[simp] theorem State.deliver_pkg_raw (s : State) : s.deliver.pkg.raw = s.pkg.raw := by
  unfold State.deliver
  split
  · simp
  · split <;> rfl
@[simp] theorem State.deliver_pkg_fuses (s : State) : s.deliver.pkg.fuses = s.pkg.fuses := by
  unfold State.deliver
  split
  · simp
  · split <;> rfl
@[simp] theorem State.deliver_pkg_flash (s : State) : s.deliver.pkg.flash = s.pkg.flash := by
  unfold State.deliver
  split
  · simp
  · split <;> rfl
@[simp] theorem State.deliver_pkg_dramA (s : State) : s.deliver.pkg.dramA = s.pkg.dramA := by
  unfold State.deliver
  split
  · simp
  · split <;> rfl
@[simp] theorem State.deliver_pkg_dramB (s : State) : s.deliver.pkg.dramB = s.pkg.dramB := by
  unfold State.deliver
  split
  · simp
  · split <;> rfl
@[simp] theorem State.deliver_pkg_mr4A (s : State) : s.deliver.pkg.mr4A = s.pkg.mr4A := by
  unfold State.deliver
  split
  · simp
  · split <;> rfl
@[simp] theorem State.deliver_pkg_mr4B (s : State) : s.deliver.pkg.mr4B = s.pkg.mr4B := by
  unfold State.deliver
  split
  · simp
  · split <;> rfl
@[simp] theorem State.deliver_pkg_tap (s : State) : s.deliver.pkg.tap = s.pkg.tap := by
  unfold State.deliver
  split
  · simp
  · split <;> rfl
@[simp] theorem State.deliver_pkg_dbg (s : State) : s.deliver.pkg.dbg = s.pkg.dbg := by
  unfold State.deliver
  split
  · simp
  · split <;> rfl
@[simp] theorem State.deliver_pkg_free (s : State) : s.deliver.pkg.free = s.pkg.free := by
  unfold State.deliver
  split
  · simp
  · split <;> rfl
@[simp] theorem State.deliver_pkg_hold_rf (s : State) : s.deliver.pkg.hold.rf = s.pkg.hold.rf := by
  unfold State.deliver
  split
  · simp
  · split <;> rfl
@[simp] theorem State.deliver_pkg_hold_hist (s : State) : s.deliver.pkg.hold.hist = s.pkg.hold.hist := by
  unfold State.deliver
  split
  · simp
  · split <;> rfl
@[simp] theorem State.deliver_pkg_hold_gap (s : State) : s.deliver.pkg.hold.gap = s.pkg.hold.gap := by
  unfold State.deliver
  split
  · simp
  · split <;> rfl
@[simp] theorem State.deliver_pkg_hold_beOpen (s : State) : s.deliver.pkg.hold.beOpen = s.pkg.hold.beOpen := by
  unfold State.deliver
  split
  · simp
  · split <;> rfl
@[simp] theorem State.deliver_pkg_hold_flt (s : State) : s.deliver.pkg.hold.flt = s.pkg.hold.flt := by
  unfold State.deliver
  split
  · simp
  · split <;> rfl
@[simp] theorem State.deliver_pkg_hold_watch (s : State) : s.deliver.pkg.hold.watch = s.pkg.hold.watch := by
  unfold State.deliver
  split
  · simp
  · split <;> rfl
@[simp] theorem State.deliver_pkg_hold_ack (s : State) : s.deliver.pkg.hold.ack = s.pkg.hold.ack := by
  unfold State.deliver
  split
  · simp
  · split <;> rfl
@[simp] theorem State.deliver_pkg_hold_cmpTick (s : State) : s.deliver.pkg.hold.cmpTick = s.pkg.hold.cmpTick := by
  unfold State.deliver
  split
  · simp
  · split <;> rfl
@[simp] theorem State.deliver_pkg_hold_copy (s : State) : s.deliver.pkg.hold.copy = s.pkg.hold.copy := by
  unfold State.deliver
  split
  · simp
  · split <;> rfl
@[simp] theorem State.deliver_pkg_hold_stopped (s : State) : s.deliver.pkg.hold.stopped = s.pkg.hold.stopped := by
  unfold State.deliver
  split
  · simp
  · split <;> rfl
@[simp] theorem State.deliver_pkg_hold_deep (s : State) : s.deliver.pkg.hold.deep = s.pkg.hold.deep := by
  unfold State.deliver
  split
  · simp
  · split <;> rfl
@[simp] theorem State.deliver_pkg_hold_ethUp (s : State) : s.deliver.pkg.hold.ethUp = s.pkg.hold.ethUp := by
  unfold State.deliver
  split
  · simp
  · split <;> rfl
@[simp] theorem State.deliver_pkg_hold_down (s : State) : s.deliver.pkg.hold.down = s.pkg.hold.down := by
  unfold State.deliver
  split
  · simp
  · split <;> rfl
@[simp] theorem State.deliver_pkg_hold_injAt (s : State) : s.deliver.pkg.hold.injAt = s.pkg.hold.injAt := by
  unfold State.deliver
  split
  · simp
  · split <;> rfl
@[simp] theorem State.deliver_pkg_pci_linkUp (s : State) : s.deliver.pkg.pci.linkUp = s.pkg.pci.linkUp := by
  unfold State.deliver
  split
  · simp
  · split <;> rfl
@[simp] theorem State.deliver_pkg_pci_speed (s : State) : s.deliver.pkg.pci.speed = s.pkg.pci.speed := by
  unfold State.deliver
  split
  · simp
  · split <;> rfl
@[simp] theorem State.deliver_pkg_pci_width (s : State) : s.deliver.pkg.pci.width = s.pkg.pci.width := by
  unfold State.deliver
  split
  · simp
  · split <;> rfl
@[simp] theorem State.deliver_pkg_pci_bme0 (s : State) : s.deliver.pkg.pci.bme0 = s.pkg.pci.bme0 := by
  unfold State.deliver
  split
  · simp
  · split <;> rfl
@[simp] theorem State.deliver_pkg_pci_bme1 (s : State) : s.deliver.pkg.pci.bme1 = s.pkg.pci.bme1 := by
  unfold State.deliver
  split
  · simp
  · split <;> rfl
@[simp] theorem State.deliver_pkg_pci_msix (s : State) : s.deliver.pkg.pci.msix = s.pkg.pci.msix := by
  unfold State.deliver
  split
  · simp
  · split <;> rfl
@[simp] theorem State.deliver_pkg_pci_subsys (s : State) : s.deliver.pkg.pci.subsys = s.pkg.pci.subsys := by
  unfold State.deliver
  split
  · simp
  · split <;> rfl
@[simp] theorem State.deliver_pkg_pci_msixOn (s : State) : s.deliver.pkg.pci.msixOn = s.pkg.pci.msixOn := by
  unfold State.deliver
  split
  · simp
  · split <;> rfl
@[simp] theorem State.deliver_pkg_pci_fnMask (s : State) : s.deliver.pkg.pci.fnMask = s.pkg.pci.fnMask := by
  unfold State.deliver
  split
  · simp
  · split <;> rfl
@[simp] theorem State.deliver_pkg_pci_mps (s : State) : s.deliver.pkg.pci.mps = s.pkg.pci.mps := by
  unfold State.deliver
  split
  · simp
  · split <;> rfl
@[simp] theorem State.deliver_pkg_pci_mrrs (s : State) : s.deliver.pkg.pci.mrrs = s.pkg.pci.mrrs := by
  unfold State.deliver
  split
  · simp
  · split <;> rfl
@[simp] theorem State.deliver_pkg_pci_d3hot (s : State) : s.deliver.pkg.pci.d3hot = s.pkg.pci.d3hot := by
  unfold State.deliver
  split
  · simp
  · split <;> rfl

/-! Both sides (R14), and the always-on domain (R469). -/

/-- What a side's function gives where the side takes part, the side itself where it does not. -/
def Side.ranIf (r : Bool) (f : Pkg → Side → Side) (p : Pkg) (d : Side) : Side := if r then f p d else d

@[simp] theorem Side.ranIf_true (f : Pkg → Side → Side) (p : Pkg) (d : Side) : Side.ranIf true f p d = f p d := rfl
@[simp] theorem Side.ranIf_false (f : Pkg → Side → Side) (p : Pkg) (d : Side) : Side.ranIf false f p d = d := rfl

theorem State.both_side (s : State) (f : Pkg → Side → Side) (x : SideId) :
    ∃ l, (s.both f).side x = { Side.ranIf (s.pkg.hold.running x) f s.pkg (s.side x) with out := l } := by
  unfold State.both
  cases x
  · exact State.deliver_sideA _
  · exact State.deliver_sideB _

@[simp] theorem State.both_side_rf (s : State) (f : Pkg → Side → Side) (x : SideId) :
    ((s.both f).side x).rf = (Side.ranIf (s.pkg.hold.running x) f s.pkg (s.side x)).rf := by
  obtain ⟨l, h⟩ := s.both_side f x
  rw [h]
@[simp] theorem State.both_side_hist (s : State) (f : Pkg → Side → Side) (x : SideId) :
    ((s.both f).side x).hist = (Side.ranIf (s.pkg.hold.running x) f s.pkg (s.side x)).hist := by
  obtain ⟨l, h⟩ := s.both_side f x
  rw [h]
@[simp] theorem State.both_side_tim (s : State) (f : Pkg → Side → Side) (x : SideId) :
    ((s.both f).side x).tim = (Side.ranIf (s.pkg.hold.running x) f s.pkg (s.side x)).tim := by
  obtain ⟨l, h⟩ := s.both_side f x
  rw [h]
@[simp] theorem State.both_side_hif (s : State) (f : Pkg → Side → Side) (x : SideId) :
    ((s.both f).side x).hif = (Side.ranIf (s.pkg.hold.running x) f s.pkg (s.side x)).hif := by
  obtain ⟨l, h⟩ := s.both_side f x
  rw [h]
@[simp] theorem State.both_side_dma (s : State) (f : Pkg → Side → Side) (x : SideId) :
    ((s.both f).side x).dma = (Side.ranIf (s.pkg.hold.running x) f s.pkg (s.side x)).dma := by
  obtain ⟨l, h⟩ := s.both_side f x
  rw [h]
@[simp] theorem State.both_side_str (s : State) (f : Pkg → Side → Side) (x : SideId) :
    ((s.both f).side x).str = (Side.ranIf (s.pkg.hold.running x) f s.pkg (s.side x)).str := by
  obtain ⟨l, h⟩ := s.both_side f x
  rw [h]
@[simp] theorem State.both_side_pln (s : State) (f : Pkg → Side → Side) (x : SideId) :
    ((s.both f).side x).pln = (Side.ranIf (s.pkg.hold.running x) f s.pkg (s.side x)).pln := by
  obtain ⟨l, h⟩ := s.both_side f x
  rw [h]
@[simp] theorem State.both_side_sec (s : State) (f : Pkg → Side → Side) (x : SideId) :
    ((s.both f).side x).sec = (Side.ranIf (s.pkg.hold.running x) f s.pkg (s.side x)).sec := by
  obtain ⟨l, h⟩ := s.both_side f x
  rw [h]
@[simp] theorem State.both_side_axes (s : State) (f : Pkg → Side → Side) (x : SideId) :
    ((s.both f).side x).axes = (Side.ranIf (s.pkg.hold.running x) f s.pkg (s.side x)).axes := by
  obtain ⟨l, h⟩ := s.both_side f x
  rw [h]
@[simp] theorem State.both_side_encs (s : State) (f : Pkg → Side → Side) (x : SideId) :
    ((s.both f).side x).encs = (Side.ranIf (s.pkg.hold.running x) f s.pkg (s.side x)).encs := by
  obtain ⟨l, h⟩ := s.both_side f x
  rw [h]
@[simp] theorem State.both_side_ras (s : State) (f : Pkg → Side → Side) (x : SideId) :
    ((s.both f).side x).ras = (Side.ranIf (s.pkg.hold.running x) f s.pkg (s.side x)).ras := by
  obtain ⟨l, h⟩ := s.both_side f x
  rw [h]
@[simp] theorem State.both_side_veh (s : State) (f : Pkg → Side → Side) (x : SideId) :
    ((s.both f).side x).veh = (Side.ranIf (s.pkg.hold.running x) f s.pkg (s.side x)).veh := by
  obtain ⟨l, h⟩ := s.both_side f x
  rw [h]
@[simp] theorem State.both_side_mpl (s : State) (f : Pkg → Side → Side) (x : SideId) :
    ((s.both f).side x).mpl = (Side.ranIf (s.pkg.hold.running x) f s.pkg (s.side x)).mpl := by
  obtain ⟨l, h⟩ := s.both_side f x
  rw [h]
@[simp] theorem State.both_side_law (s : State) (f : Pkg → Side → Side) (x : SideId) :
    ((s.both f).side x).law = (Side.ranIf (s.pkg.hold.running x) f s.pkg (s.side x)).law := by
  obtain ⟨l, h⟩ := s.both_side f x
  rw [h]
@[simp] theorem State.both_side_pio (s : State) (f : Pkg → Side → Side) (x : SideId) :
    ((s.both f).side x).pio = (Side.ranIf (s.pkg.hold.running x) f s.pkg (s.side x)).pio := by
  obtain ⟨l, h⟩ := s.both_side f x
  rw [h]
@[simp] theorem State.both_side_foc (s : State) (f : Pkg → Side → Side) (x : SideId) :
    ((s.both f).side x).foc = (Side.ranIf (s.pkg.hold.running x) f s.pkg (s.side x)).foc := by
  obtain ⟨l, h⟩ := s.both_side f x
  rw [h]
@[simp] theorem State.both_side_twn (s : State) (f : Pkg → Side → Side) (x : SideId) :
    ((s.both f).side x).twn = (Side.ranIf (s.pkg.hold.running x) f s.pkg (s.side x)).twn := by
  obtain ⟨l, h⟩ := s.both_side f x
  rw [h]
@[simp] theorem State.both_side_thm (s : State) (f : Pkg → Side → Side) (x : SideId) :
    ((s.both f).side x).thm = (Side.ranIf (s.pkg.hold.running x) f s.pkg (s.side x)).thm := by
  obtain ⟨l, h⟩ := s.both_side f x
  rw [h]
@[simp] theorem State.both_side_ptp (s : State) (f : Pkg → Side → Side) (x : SideId) :
    ((s.both f).side x).ptp = (Side.ranIf (s.pkg.hold.running x) f s.pkg (s.side x)).ptp := by
  obtain ⟨l, h⟩ := s.both_side f x
  rw [h]
@[simp] theorem State.both_side_prev (s : State) (f : Pkg → Side → Side) (x : SideId) :
    ((s.both f).side x).prev = (Side.ranIf (s.pkg.hold.running x) f s.pkg (s.side x)).prev := by
  obtain ⟨l, h⟩ := s.both_side f x
  rw [h]
@[simp] theorem State.both_side_posted (s : State) (f : Pkg → Side → Side) (x : SideId) :
    ((s.both f).side x).posted = (Side.ranIf (s.pkg.hold.running x) f s.pkg (s.side x)).posted := by
  obtain ⟨l, h⟩ := s.both_side f x
  rw [h]
@[simp] theorem State.both_side_dram (s : State) (f : Pkg → Side → Side) (x : SideId) :
    ((s.both f).side x).dram = (Side.ranIf (s.pkg.hold.running x) f s.pkg (s.side x)).dram := by
  obtain ⟨l, h⟩ := s.both_side f x
  rw [h]
@[simp] theorem State.both_side_eccBad (s : State) (f : Pkg → Side → Side) (x : SideId) :
    ((s.both f).side x).eccBad = (Side.ranIf (s.pkg.hold.running x) f s.pkg (s.side x)).eccBad := by
  obtain ⟨l, h⟩ := s.both_side f x
  rw [h]
@[simp] theorem State.both_side_sram (s : State) (f : Pkg → Side → Side) (x : SideId) :
    ((s.both f).side x).sram = (Side.ranIf (s.pkg.hold.running x) f s.pkg (s.side x)).sram := by
  obtain ⟨l, h⟩ := s.both_side f x
  rw [h]
@[simp] theorem State.both_pending (s : State) (f : Pkg → Side → Side) : (s.both f).pending = s.pending := by
  simp [State.both]
@[simp] theorem State.both_pkg_free (s : State) (f : Pkg → Side → Side) : (s.both f).pkg.free = s.pkg.free + 1 := by
  simp [State.both]
@[simp] theorem State.both_pkg_raw (s : State) (f : Pkg → Side → Side) : (s.both f).pkg.raw = s.pkg.raw := by
  simp [State.both]
@[simp] theorem State.both_pkg_fuses (s : State) (f : Pkg → Side → Side) : (s.both f).pkg.fuses = s.pkg.fuses := by
  simp [State.both]
@[simp] theorem State.both_pkg_flash (s : State) (f : Pkg → Side → Side) : (s.both f).pkg.flash = s.pkg.flash := by
  simp [State.both]
@[simp] theorem State.both_pkg_dramA (s : State) (f : Pkg → Side → Side) : (s.both f).pkg.dramA = s.pkg.dramA := by
  simp [State.both]
@[simp] theorem State.both_pkg_dramB (s : State) (f : Pkg → Side → Side) : (s.both f).pkg.dramB = s.pkg.dramB := by
  simp [State.both]
@[simp] theorem State.both_pkg_mr4A (s : State) (f : Pkg → Side → Side) : (s.both f).pkg.mr4A = s.pkg.mr4A := by
  simp [State.both]
@[simp] theorem State.both_pkg_mr4B (s : State) (f : Pkg → Side → Side) : (s.both f).pkg.mr4B = s.pkg.mr4B := by
  simp [State.both]
@[simp] theorem State.both_pkg_tap (s : State) (f : Pkg → Side → Side) : (s.both f).pkg.tap = s.pkg.tap := by
  simp [State.both]
@[simp] theorem State.both_pkg_dbg (s : State) (f : Pkg → Side → Side) : (s.both f).pkg.dbg = s.pkg.dbg := by
  simp [State.both]
@[simp] theorem State.both_pkg_hold_rf (s : State) (f : Pkg → Side → Side) : (s.both f).pkg.hold.rf = s.pkg.hold.rf := by
  simp [State.both]
@[simp] theorem State.both_pkg_hold_hist (s : State) (f : Pkg → Side → Side) : (s.both f).pkg.hold.hist = s.pkg.hold.hist := by
  simp [State.both]
@[simp] theorem State.both_pkg_hold_gap (s : State) (f : Pkg → Side → Side) : (s.both f).pkg.hold.gap = s.pkg.hold.gap := by
  simp [State.both]
@[simp] theorem State.both_pkg_hold_beOpen (s : State) (f : Pkg → Side → Side) : (s.both f).pkg.hold.beOpen = s.pkg.hold.beOpen := by
  simp [State.both]
@[simp] theorem State.both_pkg_hold_flt (s : State) (f : Pkg → Side → Side) : (s.both f).pkg.hold.flt = s.pkg.hold.flt := by
  simp [State.both]
@[simp] theorem State.both_pkg_hold_watch (s : State) (f : Pkg → Side → Side) : (s.both f).pkg.hold.watch = s.pkg.hold.watch := by
  simp [State.both]
@[simp] theorem State.both_pkg_hold_ack (s : State) (f : Pkg → Side → Side) : (s.both f).pkg.hold.ack = s.pkg.hold.ack := by
  simp [State.both]
@[simp] theorem State.both_pkg_hold_cmpTick (s : State) (f : Pkg → Side → Side) : (s.both f).pkg.hold.cmpTick = s.pkg.hold.cmpTick := by
  simp [State.both]
@[simp] theorem State.both_pkg_hold_copy (s : State) (f : Pkg → Side → Side) : (s.both f).pkg.hold.copy = s.pkg.hold.copy := by
  simp [State.both]
@[simp] theorem State.both_pkg_hold_stopped (s : State) (f : Pkg → Side → Side) : (s.both f).pkg.hold.stopped = s.pkg.hold.stopped := by
  simp [State.both]
@[simp] theorem State.both_pkg_hold_deep (s : State) (f : Pkg → Side → Side) : (s.both f).pkg.hold.deep = s.pkg.hold.deep := by
  simp [State.both]
@[simp] theorem State.both_pkg_hold_ethUp (s : State) (f : Pkg → Side → Side) : (s.both f).pkg.hold.ethUp = s.pkg.hold.ethUp := by
  simp [State.both]
@[simp] theorem State.both_pkg_hold_down (s : State) (f : Pkg → Side → Side) : (s.both f).pkg.hold.down = s.pkg.hold.down := by
  simp [State.both]
@[simp] theorem State.both_pkg_hold_injAt (s : State) (f : Pkg → Side → Side) : (s.both f).pkg.hold.injAt = s.pkg.hold.injAt := by
  simp [State.both]
@[simp] theorem State.both_pkg_pci_linkUp (s : State) (f : Pkg → Side → Side) : (s.both f).pkg.pci.linkUp = s.pkg.pci.linkUp := by
  simp [State.both]
@[simp] theorem State.both_pkg_pci_speed (s : State) (f : Pkg → Side → Side) : (s.both f).pkg.pci.speed = s.pkg.pci.speed := by
  simp [State.both]
@[simp] theorem State.both_pkg_pci_width (s : State) (f : Pkg → Side → Side) : (s.both f).pkg.pci.width = s.pkg.pci.width := by
  simp [State.both]
@[simp] theorem State.both_pkg_pci_bme0 (s : State) (f : Pkg → Side → Side) : (s.both f).pkg.pci.bme0 = s.pkg.pci.bme0 := by
  simp [State.both]
@[simp] theorem State.both_pkg_pci_bme1 (s : State) (f : Pkg → Side → Side) : (s.both f).pkg.pci.bme1 = s.pkg.pci.bme1 := by
  simp [State.both]
@[simp] theorem State.both_pkg_pci_msix (s : State) (f : Pkg → Side → Side) : (s.both f).pkg.pci.msix = s.pkg.pci.msix := by
  simp [State.both]
@[simp] theorem State.both_pkg_pci_subsys (s : State) (f : Pkg → Side → Side) : (s.both f).pkg.pci.subsys = s.pkg.pci.subsys := by
  simp [State.both]
@[simp] theorem State.both_pkg_pci_msixOn (s : State) (f : Pkg → Side → Side) : (s.both f).pkg.pci.msixOn = s.pkg.pci.msixOn := by
  simp [State.both]
@[simp] theorem State.both_pkg_pci_fnMask (s : State) (f : Pkg → Side → Side) : (s.both f).pkg.pci.fnMask = s.pkg.pci.fnMask := by
  simp [State.both]
@[simp] theorem State.both_pkg_pci_mps (s : State) (f : Pkg → Side → Side) : (s.both f).pkg.pci.mps = s.pkg.pci.mps := by
  simp [State.both]
@[simp] theorem State.both_pkg_pci_mrrs (s : State) (f : Pkg → Side → Side) : (s.both f).pkg.pci.mrrs = s.pkg.pci.mrrs := by
  simp [State.both]
@[simp] theorem State.both_pkg_pci_d3hot (s : State) (f : Pkg → Side → Side) : (s.both f).pkg.pci.d3hot = s.pkg.pci.d3hot := by
  simp [State.both]
@[simp] theorem State.both_running (s : State) (f : Pkg → Side → Side) (x : SideId) :
    (s.both f).pkg.hold.running x = s.pkg.hold.running x := by
  apply Hold.running_congr <;> simp
@[simp] theorem State.both_alive (s : State) (f : Pkg → Side → Side) (x : SideId) :
    (s.both f).pkg.hold.alive x = s.pkg.hold.alive x := by
  apply Hold.alive_congr <;> simp
/-- Whatever does not look at the output reads what the side's function gives. -/
theorem State.both_obs {α : Type} (g : Side → α) (hg : ∀ d l, g { d with out := l } = g d) (s : State) (f : Pkg → Side → Side)
    (x : SideId) : g ((s.both f).side x) = g (Side.ranIf (s.pkg.hold.running x) f s.pkg (s.side x)) := by
  obtain ⟨l, h⟩ := s.both_side f x
  rw [h]
  exact hg _ l
@[simp] theorem State.both_get (s : State) (f : Pkg → Side → Side) (x : SideId) (g : Fld) :
    ((s.both f).side x).get g = (Side.ranIf (s.pkg.hold.running x) f s.pkg (s.side x)).get g := by
  simp [Side.get]
@[simp] theorem State.both_word (s : State) (f : Pkg → Side → Side) (x : SideId) (o : Nat) :
    ((s.both f).side x).word o = (Side.ranIf (s.pkg.hold.running x) f s.pkg (s.side x)).word o := by
  simp [Side.word]

theorem State.bothOn_side (s : State) (f : Pkg → Side → Side) (x : SideId) :
    ∃ l, (s.bothOn f).side x = { Side.ranIf (s.pkg.hold.alive x) f s.pkg (s.side x) with out := l } := by
  unfold State.bothOn
  cases x
  · exact State.deliver_sideA _
  · exact State.deliver_sideB _

@[simp] theorem State.bothOn_side_rf (s : State) (f : Pkg → Side → Side) (x : SideId) :
    ((s.bothOn f).side x).rf = (Side.ranIf (s.pkg.hold.alive x) f s.pkg (s.side x)).rf := by
  obtain ⟨l, h⟩ := s.bothOn_side f x
  rw [h]
@[simp] theorem State.bothOn_side_hist (s : State) (f : Pkg → Side → Side) (x : SideId) :
    ((s.bothOn f).side x).hist = (Side.ranIf (s.pkg.hold.alive x) f s.pkg (s.side x)).hist := by
  obtain ⟨l, h⟩ := s.bothOn_side f x
  rw [h]
@[simp] theorem State.bothOn_side_tim (s : State) (f : Pkg → Side → Side) (x : SideId) :
    ((s.bothOn f).side x).tim = (Side.ranIf (s.pkg.hold.alive x) f s.pkg (s.side x)).tim := by
  obtain ⟨l, h⟩ := s.bothOn_side f x
  rw [h]
@[simp] theorem State.bothOn_side_hif (s : State) (f : Pkg → Side → Side) (x : SideId) :
    ((s.bothOn f).side x).hif = (Side.ranIf (s.pkg.hold.alive x) f s.pkg (s.side x)).hif := by
  obtain ⟨l, h⟩ := s.bothOn_side f x
  rw [h]
@[simp] theorem State.bothOn_side_dma (s : State) (f : Pkg → Side → Side) (x : SideId) :
    ((s.bothOn f).side x).dma = (Side.ranIf (s.pkg.hold.alive x) f s.pkg (s.side x)).dma := by
  obtain ⟨l, h⟩ := s.bothOn_side f x
  rw [h]
@[simp] theorem State.bothOn_side_str (s : State) (f : Pkg → Side → Side) (x : SideId) :
    ((s.bothOn f).side x).str = (Side.ranIf (s.pkg.hold.alive x) f s.pkg (s.side x)).str := by
  obtain ⟨l, h⟩ := s.bothOn_side f x
  rw [h]
@[simp] theorem State.bothOn_side_pln (s : State) (f : Pkg → Side → Side) (x : SideId) :
    ((s.bothOn f).side x).pln = (Side.ranIf (s.pkg.hold.alive x) f s.pkg (s.side x)).pln := by
  obtain ⟨l, h⟩ := s.bothOn_side f x
  rw [h]
@[simp] theorem State.bothOn_side_sec (s : State) (f : Pkg → Side → Side) (x : SideId) :
    ((s.bothOn f).side x).sec = (Side.ranIf (s.pkg.hold.alive x) f s.pkg (s.side x)).sec := by
  obtain ⟨l, h⟩ := s.bothOn_side f x
  rw [h]
@[simp] theorem State.bothOn_side_axes (s : State) (f : Pkg → Side → Side) (x : SideId) :
    ((s.bothOn f).side x).axes = (Side.ranIf (s.pkg.hold.alive x) f s.pkg (s.side x)).axes := by
  obtain ⟨l, h⟩ := s.bothOn_side f x
  rw [h]
@[simp] theorem State.bothOn_side_encs (s : State) (f : Pkg → Side → Side) (x : SideId) :
    ((s.bothOn f).side x).encs = (Side.ranIf (s.pkg.hold.alive x) f s.pkg (s.side x)).encs := by
  obtain ⟨l, h⟩ := s.bothOn_side f x
  rw [h]
@[simp] theorem State.bothOn_side_ras (s : State) (f : Pkg → Side → Side) (x : SideId) :
    ((s.bothOn f).side x).ras = (Side.ranIf (s.pkg.hold.alive x) f s.pkg (s.side x)).ras := by
  obtain ⟨l, h⟩ := s.bothOn_side f x
  rw [h]
@[simp] theorem State.bothOn_side_veh (s : State) (f : Pkg → Side → Side) (x : SideId) :
    ((s.bothOn f).side x).veh = (Side.ranIf (s.pkg.hold.alive x) f s.pkg (s.side x)).veh := by
  obtain ⟨l, h⟩ := s.bothOn_side f x
  rw [h]
@[simp] theorem State.bothOn_side_mpl (s : State) (f : Pkg → Side → Side) (x : SideId) :
    ((s.bothOn f).side x).mpl = (Side.ranIf (s.pkg.hold.alive x) f s.pkg (s.side x)).mpl := by
  obtain ⟨l, h⟩ := s.bothOn_side f x
  rw [h]
@[simp] theorem State.bothOn_side_law (s : State) (f : Pkg → Side → Side) (x : SideId) :
    ((s.bothOn f).side x).law = (Side.ranIf (s.pkg.hold.alive x) f s.pkg (s.side x)).law := by
  obtain ⟨l, h⟩ := s.bothOn_side f x
  rw [h]
@[simp] theorem State.bothOn_side_pio (s : State) (f : Pkg → Side → Side) (x : SideId) :
    ((s.bothOn f).side x).pio = (Side.ranIf (s.pkg.hold.alive x) f s.pkg (s.side x)).pio := by
  obtain ⟨l, h⟩ := s.bothOn_side f x
  rw [h]
@[simp] theorem State.bothOn_side_foc (s : State) (f : Pkg → Side → Side) (x : SideId) :
    ((s.bothOn f).side x).foc = (Side.ranIf (s.pkg.hold.alive x) f s.pkg (s.side x)).foc := by
  obtain ⟨l, h⟩ := s.bothOn_side f x
  rw [h]
@[simp] theorem State.bothOn_side_twn (s : State) (f : Pkg → Side → Side) (x : SideId) :
    ((s.bothOn f).side x).twn = (Side.ranIf (s.pkg.hold.alive x) f s.pkg (s.side x)).twn := by
  obtain ⟨l, h⟩ := s.bothOn_side f x
  rw [h]
@[simp] theorem State.bothOn_side_thm (s : State) (f : Pkg → Side → Side) (x : SideId) :
    ((s.bothOn f).side x).thm = (Side.ranIf (s.pkg.hold.alive x) f s.pkg (s.side x)).thm := by
  obtain ⟨l, h⟩ := s.bothOn_side f x
  rw [h]
@[simp] theorem State.bothOn_side_ptp (s : State) (f : Pkg → Side → Side) (x : SideId) :
    ((s.bothOn f).side x).ptp = (Side.ranIf (s.pkg.hold.alive x) f s.pkg (s.side x)).ptp := by
  obtain ⟨l, h⟩ := s.bothOn_side f x
  rw [h]
@[simp] theorem State.bothOn_side_prev (s : State) (f : Pkg → Side → Side) (x : SideId) :
    ((s.bothOn f).side x).prev = (Side.ranIf (s.pkg.hold.alive x) f s.pkg (s.side x)).prev := by
  obtain ⟨l, h⟩ := s.bothOn_side f x
  rw [h]
@[simp] theorem State.bothOn_side_posted (s : State) (f : Pkg → Side → Side) (x : SideId) :
    ((s.bothOn f).side x).posted = (Side.ranIf (s.pkg.hold.alive x) f s.pkg (s.side x)).posted := by
  obtain ⟨l, h⟩ := s.bothOn_side f x
  rw [h]
@[simp] theorem State.bothOn_side_dram (s : State) (f : Pkg → Side → Side) (x : SideId) :
    ((s.bothOn f).side x).dram = (Side.ranIf (s.pkg.hold.alive x) f s.pkg (s.side x)).dram := by
  obtain ⟨l, h⟩ := s.bothOn_side f x
  rw [h]
@[simp] theorem State.bothOn_side_eccBad (s : State) (f : Pkg → Side → Side) (x : SideId) :
    ((s.bothOn f).side x).eccBad = (Side.ranIf (s.pkg.hold.alive x) f s.pkg (s.side x)).eccBad := by
  obtain ⟨l, h⟩ := s.bothOn_side f x
  rw [h]
@[simp] theorem State.bothOn_side_sram (s : State) (f : Pkg → Side → Side) (x : SideId) :
    ((s.bothOn f).side x).sram = (Side.ranIf (s.pkg.hold.alive x) f s.pkg (s.side x)).sram := by
  obtain ⟨l, h⟩ := s.bothOn_side f x
  rw [h]
@[simp] theorem State.bothOn_pending (s : State) (f : Pkg → Side → Side) : (s.bothOn f).pending = s.pending := by
  simp [State.bothOn]
@[simp] theorem State.bothOn_pkg_free (s : State) (f : Pkg → Side → Side) : (s.bothOn f).pkg.free = s.pkg.free + 1 := by
  simp [State.bothOn]
@[simp] theorem State.bothOn_pkg_raw (s : State) (f : Pkg → Side → Side) : (s.bothOn f).pkg.raw = s.pkg.raw := by
  simp [State.bothOn]
@[simp] theorem State.bothOn_pkg_fuses (s : State) (f : Pkg → Side → Side) : (s.bothOn f).pkg.fuses = s.pkg.fuses := by
  simp [State.bothOn]
@[simp] theorem State.bothOn_pkg_flash (s : State) (f : Pkg → Side → Side) : (s.bothOn f).pkg.flash = s.pkg.flash := by
  simp [State.bothOn]
@[simp] theorem State.bothOn_pkg_dramA (s : State) (f : Pkg → Side → Side) : (s.bothOn f).pkg.dramA = s.pkg.dramA := by
  simp [State.bothOn]
@[simp] theorem State.bothOn_pkg_dramB (s : State) (f : Pkg → Side → Side) : (s.bothOn f).pkg.dramB = s.pkg.dramB := by
  simp [State.bothOn]
@[simp] theorem State.bothOn_pkg_mr4A (s : State) (f : Pkg → Side → Side) : (s.bothOn f).pkg.mr4A = s.pkg.mr4A := by
  simp [State.bothOn]
@[simp] theorem State.bothOn_pkg_mr4B (s : State) (f : Pkg → Side → Side) : (s.bothOn f).pkg.mr4B = s.pkg.mr4B := by
  simp [State.bothOn]
@[simp] theorem State.bothOn_pkg_tap (s : State) (f : Pkg → Side → Side) : (s.bothOn f).pkg.tap = s.pkg.tap := by
  simp [State.bothOn]
@[simp] theorem State.bothOn_pkg_dbg (s : State) (f : Pkg → Side → Side) : (s.bothOn f).pkg.dbg = s.pkg.dbg := by
  simp [State.bothOn]
@[simp] theorem State.bothOn_pkg_hold_rf (s : State) (f : Pkg → Side → Side) : (s.bothOn f).pkg.hold.rf = s.pkg.hold.rf := by
  simp [State.bothOn]
@[simp] theorem State.bothOn_pkg_hold_hist (s : State) (f : Pkg → Side → Side) : (s.bothOn f).pkg.hold.hist = s.pkg.hold.hist := by
  simp [State.bothOn]
@[simp] theorem State.bothOn_pkg_hold_gap (s : State) (f : Pkg → Side → Side) : (s.bothOn f).pkg.hold.gap = s.pkg.hold.gap := by
  simp [State.bothOn]
@[simp] theorem State.bothOn_pkg_hold_beOpen (s : State) (f : Pkg → Side → Side) : (s.bothOn f).pkg.hold.beOpen = s.pkg.hold.beOpen := by
  simp [State.bothOn]
@[simp] theorem State.bothOn_pkg_hold_flt (s : State) (f : Pkg → Side → Side) : (s.bothOn f).pkg.hold.flt = s.pkg.hold.flt := by
  simp [State.bothOn]
@[simp] theorem State.bothOn_pkg_hold_watch (s : State) (f : Pkg → Side → Side) : (s.bothOn f).pkg.hold.watch = s.pkg.hold.watch := by
  simp [State.bothOn]
@[simp] theorem State.bothOn_pkg_hold_ack (s : State) (f : Pkg → Side → Side) : (s.bothOn f).pkg.hold.ack = s.pkg.hold.ack := by
  simp [State.bothOn]
@[simp] theorem State.bothOn_pkg_hold_cmpTick (s : State) (f : Pkg → Side → Side) : (s.bothOn f).pkg.hold.cmpTick = s.pkg.hold.cmpTick := by
  simp [State.bothOn]
@[simp] theorem State.bothOn_pkg_hold_copy (s : State) (f : Pkg → Side → Side) : (s.bothOn f).pkg.hold.copy = s.pkg.hold.copy := by
  simp [State.bothOn]
@[simp] theorem State.bothOn_pkg_hold_stopped (s : State) (f : Pkg → Side → Side) : (s.bothOn f).pkg.hold.stopped = s.pkg.hold.stopped := by
  simp [State.bothOn]
@[simp] theorem State.bothOn_pkg_hold_deep (s : State) (f : Pkg → Side → Side) : (s.bothOn f).pkg.hold.deep = s.pkg.hold.deep := by
  simp [State.bothOn]
@[simp] theorem State.bothOn_pkg_hold_ethUp (s : State) (f : Pkg → Side → Side) : (s.bothOn f).pkg.hold.ethUp = s.pkg.hold.ethUp := by
  simp [State.bothOn]
@[simp] theorem State.bothOn_pkg_hold_down (s : State) (f : Pkg → Side → Side) : (s.bothOn f).pkg.hold.down = s.pkg.hold.down := by
  simp [State.bothOn]
@[simp] theorem State.bothOn_pkg_hold_injAt (s : State) (f : Pkg → Side → Side) : (s.bothOn f).pkg.hold.injAt = s.pkg.hold.injAt := by
  simp [State.bothOn]
@[simp] theorem State.bothOn_pkg_pci_linkUp (s : State) (f : Pkg → Side → Side) : (s.bothOn f).pkg.pci.linkUp = s.pkg.pci.linkUp := by
  simp [State.bothOn]
@[simp] theorem State.bothOn_pkg_pci_speed (s : State) (f : Pkg → Side → Side) : (s.bothOn f).pkg.pci.speed = s.pkg.pci.speed := by
  simp [State.bothOn]
@[simp] theorem State.bothOn_pkg_pci_width (s : State) (f : Pkg → Side → Side) : (s.bothOn f).pkg.pci.width = s.pkg.pci.width := by
  simp [State.bothOn]
@[simp] theorem State.bothOn_pkg_pci_bme0 (s : State) (f : Pkg → Side → Side) : (s.bothOn f).pkg.pci.bme0 = s.pkg.pci.bme0 := by
  simp [State.bothOn]
@[simp] theorem State.bothOn_pkg_pci_bme1 (s : State) (f : Pkg → Side → Side) : (s.bothOn f).pkg.pci.bme1 = s.pkg.pci.bme1 := by
  simp [State.bothOn]
@[simp] theorem State.bothOn_pkg_pci_msix (s : State) (f : Pkg → Side → Side) : (s.bothOn f).pkg.pci.msix = s.pkg.pci.msix := by
  simp [State.bothOn]
@[simp] theorem State.bothOn_pkg_pci_subsys (s : State) (f : Pkg → Side → Side) : (s.bothOn f).pkg.pci.subsys = s.pkg.pci.subsys := by
  simp [State.bothOn]
@[simp] theorem State.bothOn_pkg_pci_msixOn (s : State) (f : Pkg → Side → Side) : (s.bothOn f).pkg.pci.msixOn = s.pkg.pci.msixOn := by
  simp [State.bothOn]
@[simp] theorem State.bothOn_pkg_pci_fnMask (s : State) (f : Pkg → Side → Side) : (s.bothOn f).pkg.pci.fnMask = s.pkg.pci.fnMask := by
  simp [State.bothOn]
@[simp] theorem State.bothOn_pkg_pci_mps (s : State) (f : Pkg → Side → Side) : (s.bothOn f).pkg.pci.mps = s.pkg.pci.mps := by
  simp [State.bothOn]
@[simp] theorem State.bothOn_pkg_pci_mrrs (s : State) (f : Pkg → Side → Side) : (s.bothOn f).pkg.pci.mrrs = s.pkg.pci.mrrs := by
  simp [State.bothOn]
@[simp] theorem State.bothOn_pkg_pci_d3hot (s : State) (f : Pkg → Side → Side) : (s.bothOn f).pkg.pci.d3hot = s.pkg.pci.d3hot := by
  simp [State.bothOn]
@[simp] theorem State.bothOn_running (s : State) (f : Pkg → Side → Side) (x : SideId) :
    (s.bothOn f).pkg.hold.running x = s.pkg.hold.running x := by
  apply Hold.running_congr <;> simp
@[simp] theorem State.bothOn_alive (s : State) (f : Pkg → Side → Side) (x : SideId) :
    (s.bothOn f).pkg.hold.alive x = s.pkg.hold.alive x := by
  apply Hold.alive_congr <;> simp
/-- Whatever does not look at the output reads what the side's function gives. -/
theorem State.bothOn_obs {α : Type} (g : Side → α) (hg : ∀ d l, g { d with out := l } = g d) (s : State) (f : Pkg → Side → Side)
    (x : SideId) : g ((s.bothOn f).side x) = g (Side.ranIf (s.pkg.hold.alive x) f s.pkg (s.side x)) := by
  obtain ⟨l, h⟩ := s.bothOn_side f x
  rw [h]
  exact hg _ l
@[simp] theorem State.bothOn_get (s : State) (f : Pkg → Side → Side) (x : SideId) (g : Fld) :
    ((s.bothOn f).side x).get g = (Side.ranIf (s.pkg.hold.alive x) f s.pkg (s.side x)).get g := by
  simp [Side.get]
@[simp] theorem State.bothOn_word (s : State) (f : Pkg → Side → Side) (x : SideId) (o : Nat) :
    ((s.bothOn f).side x).word o = (Side.ranIf (s.pkg.hold.alive x) f s.pkg (s.side x)).word o := by
  simp [Side.word]

/-! A write that its block takes. -/

theorem State.asWrite_taken (s : State) (pf0 : Bool) (off word : Nat) (t : State) (h : s.takes off = true)
    (hr : pf0 = false ∨ s.actSide.breaks off word = false) : s.asWrite pf0 off word t = t := by
  unfold State.asWrite
  rcases hr with hr | hr <;> simp [h, hr]

theorem State.asWrite_dropped (s : State) (pf0 : Bool) (off word : Nat) (t : State) (h : s.takes off = false) :
    s.asWrite pf0 off word t = s := by
  unfold State.asWrite
  simp [h]

end Sys2Proof.Machine
end

