-- ==== Sys2Proof/Laws/Post.lean ====
section
/-! SUPPORT. What posting a fault or a notice can do (R476, R482, R485): outside the flag itself, the rings' registers and the event
block's, no register changes; of the rest of a side only the history queues, the rings' message state, the list of postings
and the output change. -/

namespace Sys2Proof.Machine

/-- An offset outside the registers that a posting writes: those of the two event rings and the event block's. -/
def offPost (o : Nat) : Prop := ¬(0x30000 ≤ o ∧ o < 0x30080) ∧ ¬(0x1200000 ≤ o ∧ o < 0x1300000)

@[simp] theorem Side.ringSignal_tim (d : Side) (r : RingId) : (d.ringSignal r).tim = d.tim := rfl
@[simp] theorem Side.ringSignal_dma (d : Side) (r : RingId) : (d.ringSignal r).dma = d.dma := rfl
@[simp] theorem Side.ringSignal_str (d : Side) (r : RingId) : (d.ringSignal r).str = d.str := rfl
@[simp] theorem Side.ringSignal_pln (d : Side) (r : RingId) : (d.ringSignal r).pln = d.pln := rfl
@[simp] theorem Side.ringSignal_sec (d : Side) (r : RingId) : (d.ringSignal r).sec = d.sec := rfl
@[simp] theorem Side.ringSignal_axes (d : Side) (r : RingId) : (d.ringSignal r).axes = d.axes := rfl
@[simp] theorem Side.ringSignal_encs (d : Side) (r : RingId) : (d.ringSignal r).encs = d.encs := rfl
@[simp] theorem Side.ringSignal_ras (d : Side) (r : RingId) : (d.ringSignal r).ras = d.ras := rfl
@[simp] theorem Side.ringSignal_veh (d : Side) (r : RingId) : (d.ringSignal r).veh = d.veh := rfl
@[simp] theorem Side.ringSignal_mpl (d : Side) (r : RingId) : (d.ringSignal r).mpl = d.mpl := rfl
@[simp] theorem Side.ringSignal_law (d : Side) (r : RingId) : (d.ringSignal r).law = d.law := rfl
@[simp] theorem Side.ringSignal_pio (d : Side) (r : RingId) : (d.ringSignal r).pio = d.pio := rfl
@[simp] theorem Side.ringSignal_foc (d : Side) (r : RingId) : (d.ringSignal r).foc = d.foc := rfl
@[simp] theorem Side.ringSignal_thm (d : Side) (r : RingId) : (d.ringSignal r).thm = d.thm := rfl
@[simp] theorem Side.ringSignal_ptp (d : Side) (r : RingId) : (d.ringSignal r).ptp = d.ptp := rfl
@[simp] theorem Side.ringSignal_prev (d : Side) (r : RingId) : (d.ringSignal r).prev = d.prev := rfl
@[simp] theorem Side.ringSignal_dram (d : Side) (r : RingId) : (d.ringSignal r).dram = d.dram := rfl
@[simp] theorem Side.ringSignal_eccBad (d : Side) (r : RingId) : (d.ringSignal r).eccBad = d.eccBad := rfl
@[simp] theorem Side.ringSignal_sram (d : Side) (r : RingId) : (d.ringSignal r).sram = d.sram := rfl
@[simp] theorem Side.ringSignal_twn (d : Side) (r : RingId) : (d.ringSignal r).twn = d.twn := rfl
@[simp] theorem Side.ringSignal_rf (d : Side) (r : RingId) : (d.ringSignal r).rf = d.rf := rfl
@[simp] theorem Side.ringSignal_hist (d : Side) (r : RingId) : (d.ringSignal r).hist = d.hist := rfl
@[simp] theorem Side.ringSignal_posted (d : Side) (r : RingId) : (d.ringSignal r).posted = d.posted := rfl

@[simp] theorem Side.ringCoalesce_tim (d : Side) (p : Pkg) (r : RingId) (irq : Bool) : (d.ringCoalesce p r irq).tim = d.tim := by
  unfold Side.ringCoalesce; dsimp only; split <;> rfl
@[simp] theorem Side.ringCoalesce_dma (d : Side) (p : Pkg) (r : RingId) (irq : Bool) : (d.ringCoalesce p r irq).dma = d.dma := by
  unfold Side.ringCoalesce; dsimp only; split <;> rfl
@[simp] theorem Side.ringCoalesce_str (d : Side) (p : Pkg) (r : RingId) (irq : Bool) : (d.ringCoalesce p r irq).str = d.str := by
  unfold Side.ringCoalesce; dsimp only; split <;> rfl
@[simp] theorem Side.ringCoalesce_pln (d : Side) (p : Pkg) (r : RingId) (irq : Bool) : (d.ringCoalesce p r irq).pln = d.pln := by
  unfold Side.ringCoalesce; dsimp only; split <;> rfl
@[simp] theorem Side.ringCoalesce_sec (d : Side) (p : Pkg) (r : RingId) (irq : Bool) : (d.ringCoalesce p r irq).sec = d.sec := by
  unfold Side.ringCoalesce; dsimp only; split <;> rfl
@[simp] theorem Side.ringCoalesce_axes (d : Side) (p : Pkg) (r : RingId) (irq : Bool) : (d.ringCoalesce p r irq).axes = d.axes := by
  unfold Side.ringCoalesce; dsimp only; split <;> rfl
@[simp] theorem Side.ringCoalesce_encs (d : Side) (p : Pkg) (r : RingId) (irq : Bool) : (d.ringCoalesce p r irq).encs = d.encs := by
  unfold Side.ringCoalesce; dsimp only; split <;> rfl
@[simp] theorem Side.ringCoalesce_ras (d : Side) (p : Pkg) (r : RingId) (irq : Bool) : (d.ringCoalesce p r irq).ras = d.ras := by
  unfold Side.ringCoalesce; dsimp only; split <;> rfl
@[simp] theorem Side.ringCoalesce_veh (d : Side) (p : Pkg) (r : RingId) (irq : Bool) : (d.ringCoalesce p r irq).veh = d.veh := by
  unfold Side.ringCoalesce; dsimp only; split <;> rfl
@[simp] theorem Side.ringCoalesce_mpl (d : Side) (p : Pkg) (r : RingId) (irq : Bool) : (d.ringCoalesce p r irq).mpl = d.mpl := by
  unfold Side.ringCoalesce; dsimp only; split <;> rfl
@[simp] theorem Side.ringCoalesce_law (d : Side) (p : Pkg) (r : RingId) (irq : Bool) : (d.ringCoalesce p r irq).law = d.law := by
  unfold Side.ringCoalesce; dsimp only; split <;> rfl
@[simp] theorem Side.ringCoalesce_pio (d : Side) (p : Pkg) (r : RingId) (irq : Bool) : (d.ringCoalesce p r irq).pio = d.pio := by
  unfold Side.ringCoalesce; dsimp only; split <;> rfl
@[simp] theorem Side.ringCoalesce_foc (d : Side) (p : Pkg) (r : RingId) (irq : Bool) : (d.ringCoalesce p r irq).foc = d.foc := by
  unfold Side.ringCoalesce; dsimp only; split <;> rfl
@[simp] theorem Side.ringCoalesce_thm (d : Side) (p : Pkg) (r : RingId) (irq : Bool) : (d.ringCoalesce p r irq).thm = d.thm := by
  unfold Side.ringCoalesce; dsimp only; split <;> rfl
@[simp] theorem Side.ringCoalesce_ptp (d : Side) (p : Pkg) (r : RingId) (irq : Bool) : (d.ringCoalesce p r irq).ptp = d.ptp := by
  unfold Side.ringCoalesce; dsimp only; split <;> rfl
@[simp] theorem Side.ringCoalesce_prev (d : Side) (p : Pkg) (r : RingId) (irq : Bool) : (d.ringCoalesce p r irq).prev = d.prev := by
  unfold Side.ringCoalesce; dsimp only; split <;> rfl
@[simp] theorem Side.ringCoalesce_dram (d : Side) (p : Pkg) (r : RingId) (irq : Bool) : (d.ringCoalesce p r irq).dram = d.dram := by
  unfold Side.ringCoalesce; dsimp only; split <;> rfl
@[simp] theorem Side.ringCoalesce_eccBad (d : Side) (p : Pkg) (r : RingId) (irq : Bool) : (d.ringCoalesce p r irq).eccBad = d.eccBad := by
  unfold Side.ringCoalesce; dsimp only; split <;> rfl
@[simp] theorem Side.ringCoalesce_sram (d : Side) (p : Pkg) (r : RingId) (irq : Bool) : (d.ringCoalesce p r irq).sram = d.sram := by
  unfold Side.ringCoalesce; dsimp only; split <;> rfl
@[simp] theorem Side.ringCoalesce_twn (d : Side) (p : Pkg) (r : RingId) (irq : Bool) : (d.ringCoalesce p r irq).twn = d.twn := by
  unfold Side.ringCoalesce; dsimp only; split <;> rfl
@[simp] theorem Side.ringCoalesce_rf (d : Side) (p : Pkg) (r : RingId) (irq : Bool) : (d.ringCoalesce p r irq).rf = d.rf := by
  unfold Side.ringCoalesce; dsimp only; split <;> rfl
@[simp] theorem Side.ringCoalesce_hist (d : Side) (p : Pkg) (r : RingId) (irq : Bool) : (d.ringCoalesce p r irq).hist = d.hist := by
  unfold Side.ringCoalesce; dsimp only; split <;> rfl
@[simp] theorem Side.ringCoalesce_posted (d : Side) (p : Pkg) (r : RingId) (irq : Bool) : (d.ringCoalesce p r irq).posted = d.posted := by
  unfold Side.ringCoalesce; dsimp only; split <;> rfl

@[simp] theorem Side.ringWrite_tim (d : Side) (p : Pkg) (r : RingId) (irq : Bool) (l : List Byte) (w : Nat) : (d.ringWrite p r irq l w).tim = d.tim := by
  unfold Side.ringWrite; dsimp only; split <;> simp [Side.send]
@[simp] theorem Side.ringWrite_dma (d : Side) (p : Pkg) (r : RingId) (irq : Bool) (l : List Byte) (w : Nat) : (d.ringWrite p r irq l w).dma = d.dma := by
  unfold Side.ringWrite; dsimp only; split <;> simp [Side.send]
@[simp] theorem Side.ringWrite_str (d : Side) (p : Pkg) (r : RingId) (irq : Bool) (l : List Byte) (w : Nat) : (d.ringWrite p r irq l w).str = d.str := by
  unfold Side.ringWrite; dsimp only; split <;> simp [Side.send]
@[simp] theorem Side.ringWrite_pln (d : Side) (p : Pkg) (r : RingId) (irq : Bool) (l : List Byte) (w : Nat) : (d.ringWrite p r irq l w).pln = d.pln := by
  unfold Side.ringWrite; dsimp only; split <;> simp [Side.send]
@[simp] theorem Side.ringWrite_sec (d : Side) (p : Pkg) (r : RingId) (irq : Bool) (l : List Byte) (w : Nat) : (d.ringWrite p r irq l w).sec = d.sec := by
  unfold Side.ringWrite; dsimp only; split <;> simp [Side.send]
@[simp] theorem Side.ringWrite_axes (d : Side) (p : Pkg) (r : RingId) (irq : Bool) (l : List Byte) (w : Nat) : (d.ringWrite p r irq l w).axes = d.axes := by
  unfold Side.ringWrite; dsimp only; split <;> simp [Side.send]
@[simp] theorem Side.ringWrite_encs (d : Side) (p : Pkg) (r : RingId) (irq : Bool) (l : List Byte) (w : Nat) : (d.ringWrite p r irq l w).encs = d.encs := by
  unfold Side.ringWrite; dsimp only; split <;> simp [Side.send]
@[simp] theorem Side.ringWrite_ras (d : Side) (p : Pkg) (r : RingId) (irq : Bool) (l : List Byte) (w : Nat) : (d.ringWrite p r irq l w).ras = d.ras := by
  unfold Side.ringWrite; dsimp only; split <;> simp [Side.send]
@[simp] theorem Side.ringWrite_veh (d : Side) (p : Pkg) (r : RingId) (irq : Bool) (l : List Byte) (w : Nat) : (d.ringWrite p r irq l w).veh = d.veh := by
  unfold Side.ringWrite; dsimp only; split <;> simp [Side.send]
@[simp] theorem Side.ringWrite_mpl (d : Side) (p : Pkg) (r : RingId) (irq : Bool) (l : List Byte) (w : Nat) : (d.ringWrite p r irq l w).mpl = d.mpl := by
  unfold Side.ringWrite; dsimp only; split <;> simp [Side.send]
@[simp] theorem Side.ringWrite_law (d : Side) (p : Pkg) (r : RingId) (irq : Bool) (l : List Byte) (w : Nat) : (d.ringWrite p r irq l w).law = d.law := by
  unfold Side.ringWrite; dsimp only; split <;> simp [Side.send]
@[simp] theorem Side.ringWrite_pio (d : Side) (p : Pkg) (r : RingId) (irq : Bool) (l : List Byte) (w : Nat) : (d.ringWrite p r irq l w).pio = d.pio := by
  unfold Side.ringWrite; dsimp only; split <;> simp [Side.send]
@[simp] theorem Side.ringWrite_foc (d : Side) (p : Pkg) (r : RingId) (irq : Bool) (l : List Byte) (w : Nat) : (d.ringWrite p r irq l w).foc = d.foc := by
  unfold Side.ringWrite; dsimp only; split <;> simp [Side.send]
@[simp] theorem Side.ringWrite_thm (d : Side) (p : Pkg) (r : RingId) (irq : Bool) (l : List Byte) (w : Nat) : (d.ringWrite p r irq l w).thm = d.thm := by
  unfold Side.ringWrite; dsimp only; split <;> simp [Side.send]
@[simp] theorem Side.ringWrite_ptp (d : Side) (p : Pkg) (r : RingId) (irq : Bool) (l : List Byte) (w : Nat) : (d.ringWrite p r irq l w).ptp = d.ptp := by
  unfold Side.ringWrite; dsimp only; split <;> simp [Side.send]
@[simp] theorem Side.ringWrite_prev (d : Side) (p : Pkg) (r : RingId) (irq : Bool) (l : List Byte) (w : Nat) : (d.ringWrite p r irq l w).prev = d.prev := by
  unfold Side.ringWrite; dsimp only; split <;> simp [Side.send]
@[simp] theorem Side.ringWrite_dram (d : Side) (p : Pkg) (r : RingId) (irq : Bool) (l : List Byte) (w : Nat) : (d.ringWrite p r irq l w).dram = d.dram := by
  unfold Side.ringWrite; dsimp only; split <;> simp [Side.send]
@[simp] theorem Side.ringWrite_eccBad (d : Side) (p : Pkg) (r : RingId) (irq : Bool) (l : List Byte) (w : Nat) : (d.ringWrite p r irq l w).eccBad = d.eccBad := by
  unfold Side.ringWrite; dsimp only; split <;> simp [Side.send]
@[simp] theorem Side.ringWrite_sram (d : Side) (p : Pkg) (r : RingId) (irq : Bool) (l : List Byte) (w : Nat) : (d.ringWrite p r irq l w).sram = d.sram := by
  unfold Side.ringWrite; dsimp only; split <;> simp [Side.send]
@[simp] theorem Side.ringWrite_twn (d : Side) (p : Pkg) (r : RingId) (irq : Bool) (l : List Byte) (w : Nat) : (d.ringWrite p r irq l w).twn = d.twn := by
  unfold Side.ringWrite; dsimp only; split <;> simp [Side.send]
@[simp] theorem Side.ringWrite_hist (d : Side) (p : Pkg) (r : RingId) (irq : Bool) (l : List Byte) (w : Nat) : (d.ringWrite p r irq l w).hist = d.hist := by
  unfold Side.ringWrite; dsimp only; split <;> simp [Side.send]
@[simp] theorem Side.ringWrite_posted (d : Side) (p : Pkg) (r : RingId) (irq : Bool) (l : List Byte) (w : Nat) : (d.ringWrite p r irq l w).posted = d.posted := by
  unfold Side.ringWrite; dsimp only; split <;> simp [Side.send]

@[simp] theorem Side.histPush_tim (d : Side) (e : Ev) (st : Nat) : (d.histPush e st).tim = d.tim := rfl
@[simp] theorem Side.histPush_dma (d : Side) (e : Ev) (st : Nat) : (d.histPush e st).dma = d.dma := rfl
@[simp] theorem Side.histPush_str (d : Side) (e : Ev) (st : Nat) : (d.histPush e st).str = d.str := rfl
@[simp] theorem Side.histPush_pln (d : Side) (e : Ev) (st : Nat) : (d.histPush e st).pln = d.pln := rfl
@[simp] theorem Side.histPush_sec (d : Side) (e : Ev) (st : Nat) : (d.histPush e st).sec = d.sec := rfl
@[simp] theorem Side.histPush_axes (d : Side) (e : Ev) (st : Nat) : (d.histPush e st).axes = d.axes := rfl
@[simp] theorem Side.histPush_encs (d : Side) (e : Ev) (st : Nat) : (d.histPush e st).encs = d.encs := rfl
@[simp] theorem Side.histPush_ras (d : Side) (e : Ev) (st : Nat) : (d.histPush e st).ras = d.ras := rfl
@[simp] theorem Side.histPush_veh (d : Side) (e : Ev) (st : Nat) : (d.histPush e st).veh = d.veh := rfl
@[simp] theorem Side.histPush_mpl (d : Side) (e : Ev) (st : Nat) : (d.histPush e st).mpl = d.mpl := rfl
@[simp] theorem Side.histPush_law (d : Side) (e : Ev) (st : Nat) : (d.histPush e st).law = d.law := rfl
@[simp] theorem Side.histPush_pio (d : Side) (e : Ev) (st : Nat) : (d.histPush e st).pio = d.pio := rfl
@[simp] theorem Side.histPush_foc (d : Side) (e : Ev) (st : Nat) : (d.histPush e st).foc = d.foc := rfl
@[simp] theorem Side.histPush_thm (d : Side) (e : Ev) (st : Nat) : (d.histPush e st).thm = d.thm := rfl
@[simp] theorem Side.histPush_ptp (d : Side) (e : Ev) (st : Nat) : (d.histPush e st).ptp = d.ptp := rfl
@[simp] theorem Side.histPush_prev (d : Side) (e : Ev) (st : Nat) : (d.histPush e st).prev = d.prev := rfl
@[simp] theorem Side.histPush_dram (d : Side) (e : Ev) (st : Nat) : (d.histPush e st).dram = d.dram := rfl
@[simp] theorem Side.histPush_eccBad (d : Side) (e : Ev) (st : Nat) : (d.histPush e st).eccBad = d.eccBad := rfl
@[simp] theorem Side.histPush_sram (d : Side) (e : Ev) (st : Nat) : (d.histPush e st).sram = d.sram := rfl
@[simp] theorem Side.histPush_twn (d : Side) (e : Ev) (st : Nat) : (d.histPush e st).twn = d.twn := rfl
@[simp] theorem Side.histPush_rf (d : Side) (e : Ev) (st : Nat) : (d.histPush e st).rf = d.rf := rfl
@[simp] theorem Side.histPush_hif (d : Side) (e : Ev) (st : Nat) : (d.histPush e st).hif = d.hif := rfl
@[simp] theorem Side.histPush_out (d : Side) (e : Ev) (st : Nat) : (d.histPush e st).out = d.out := rfl
@[simp] theorem Side.histPush_posted (d : Side) (e : Ev) (st : Nat) : (d.histPush e st).posted = d.posted := rfl

@[simp] theorem Side.toRing_tim (d : Side) (p : Pkg) (f : Nat) (e : Ev) (st : Nat) : ((d.toRing p f e st).1).tim = d.tim := by
  unfold Side.toRing; dsimp only; split
  · simp
  · split <;> simp
@[simp] theorem Side.toRing_dma (d : Side) (p : Pkg) (f : Nat) (e : Ev) (st : Nat) : ((d.toRing p f e st).1).dma = d.dma := by
  unfold Side.toRing; dsimp only; split
  · simp
  · split <;> simp
@[simp] theorem Side.toRing_str (d : Side) (p : Pkg) (f : Nat) (e : Ev) (st : Nat) : ((d.toRing p f e st).1).str = d.str := by
  unfold Side.toRing; dsimp only; split
  · simp
  · split <;> simp
@[simp] theorem Side.toRing_pln (d : Side) (p : Pkg) (f : Nat) (e : Ev) (st : Nat) : ((d.toRing p f e st).1).pln = d.pln := by
  unfold Side.toRing; dsimp only; split
  · simp
  · split <;> simp
@[simp] theorem Side.toRing_sec (d : Side) (p : Pkg) (f : Nat) (e : Ev) (st : Nat) : ((d.toRing p f e st).1).sec = d.sec := by
  unfold Side.toRing; dsimp only; split
  · simp
  · split <;> simp
@[simp] theorem Side.toRing_axes (d : Side) (p : Pkg) (f : Nat) (e : Ev) (st : Nat) : ((d.toRing p f e st).1).axes = d.axes := by
  unfold Side.toRing; dsimp only; split
  · simp
  · split <;> simp
@[simp] theorem Side.toRing_encs (d : Side) (p : Pkg) (f : Nat) (e : Ev) (st : Nat) : ((d.toRing p f e st).1).encs = d.encs := by
  unfold Side.toRing; dsimp only; split
  · simp
  · split <;> simp
@[simp] theorem Side.toRing_ras (d : Side) (p : Pkg) (f : Nat) (e : Ev) (st : Nat) : ((d.toRing p f e st).1).ras = d.ras := by
  unfold Side.toRing; dsimp only; split
  · simp
  · split <;> simp
@[simp] theorem Side.toRing_veh (d : Side) (p : Pkg) (f : Nat) (e : Ev) (st : Nat) : ((d.toRing p f e st).1).veh = d.veh := by
  unfold Side.toRing; dsimp only; split
  · simp
  · split <;> simp
@[simp] theorem Side.toRing_mpl (d : Side) (p : Pkg) (f : Nat) (e : Ev) (st : Nat) : ((d.toRing p f e st).1).mpl = d.mpl := by
  unfold Side.toRing; dsimp only; split
  · simp
  · split <;> simp
@[simp] theorem Side.toRing_law (d : Side) (p : Pkg) (f : Nat) (e : Ev) (st : Nat) : ((d.toRing p f e st).1).law = d.law := by
  unfold Side.toRing; dsimp only; split
  · simp
  · split <;> simp
@[simp] theorem Side.toRing_pio (d : Side) (p : Pkg) (f : Nat) (e : Ev) (st : Nat) : ((d.toRing p f e st).1).pio = d.pio := by
  unfold Side.toRing; dsimp only; split
  · simp
  · split <;> simp
@[simp] theorem Side.toRing_foc (d : Side) (p : Pkg) (f : Nat) (e : Ev) (st : Nat) : ((d.toRing p f e st).1).foc = d.foc := by
  unfold Side.toRing; dsimp only; split
  · simp
  · split <;> simp
@[simp] theorem Side.toRing_thm (d : Side) (p : Pkg) (f : Nat) (e : Ev) (st : Nat) : ((d.toRing p f e st).1).thm = d.thm := by
  unfold Side.toRing; dsimp only; split
  · simp
  · split <;> simp
@[simp] theorem Side.toRing_ptp (d : Side) (p : Pkg) (f : Nat) (e : Ev) (st : Nat) : ((d.toRing p f e st).1).ptp = d.ptp := by
  unfold Side.toRing; dsimp only; split
  · simp
  · split <;> simp
@[simp] theorem Side.toRing_prev (d : Side) (p : Pkg) (f : Nat) (e : Ev) (st : Nat) : ((d.toRing p f e st).1).prev = d.prev := by
  unfold Side.toRing; dsimp only; split
  · simp
  · split <;> simp
@[simp] theorem Side.toRing_dram (d : Side) (p : Pkg) (f : Nat) (e : Ev) (st : Nat) : ((d.toRing p f e st).1).dram = d.dram := by
  unfold Side.toRing; dsimp only; split
  · simp
  · split <;> simp
@[simp] theorem Side.toRing_eccBad (d : Side) (p : Pkg) (f : Nat) (e : Ev) (st : Nat) : ((d.toRing p f e st).1).eccBad = d.eccBad := by
  unfold Side.toRing; dsimp only; split
  · simp
  · split <;> simp
@[simp] theorem Side.toRing_sram (d : Side) (p : Pkg) (f : Nat) (e : Ev) (st : Nat) : ((d.toRing p f e st).1).sram = d.sram := by
  unfold Side.toRing; dsimp only; split
  · simp
  · split <;> simp
@[simp] theorem Side.toRing_twn (d : Side) (p : Pkg) (f : Nat) (e : Ev) (st : Nat) : ((d.toRing p f e st).1).twn = d.twn := by
  unfold Side.toRing; dsimp only; split
  · simp
  · split <;> simp

@[simp] theorem Side.toDirect_tim (d : Side) (e : Ev) : (d.toDirect e).tim = d.tim := by
  unfold Side.toDirect; dsimp only; split
  · rfl
  · split <;> rfl
  · rfl
@[simp] theorem Side.toDirect_dma (d : Side) (e : Ev) : (d.toDirect e).dma = d.dma := by
  unfold Side.toDirect; dsimp only; split
  · rfl
  · split <;> rfl
  · rfl
@[simp] theorem Side.toDirect_str (d : Side) (e : Ev) : (d.toDirect e).str = d.str := by
  unfold Side.toDirect; dsimp only; split
  · rfl
  · split <;> rfl
  · rfl
@[simp] theorem Side.toDirect_pln (d : Side) (e : Ev) : (d.toDirect e).pln = d.pln := by
  unfold Side.toDirect; dsimp only; split
  · rfl
  · split <;> rfl
  · rfl
@[simp] theorem Side.toDirect_sec (d : Side) (e : Ev) : (d.toDirect e).sec = d.sec := by
  unfold Side.toDirect; dsimp only; split
  · rfl
  · split <;> rfl
  · rfl
@[simp] theorem Side.toDirect_axes (d : Side) (e : Ev) : (d.toDirect e).axes = d.axes := by
  unfold Side.toDirect; dsimp only; split
  · rfl
  · split <;> rfl
  · rfl
@[simp] theorem Side.toDirect_encs (d : Side) (e : Ev) : (d.toDirect e).encs = d.encs := by
  unfold Side.toDirect; dsimp only; split
  · rfl
  · split <;> rfl
  · rfl
@[simp] theorem Side.toDirect_ras (d : Side) (e : Ev) : (d.toDirect e).ras = d.ras := by
  unfold Side.toDirect; dsimp only; split
  · rfl
  · split <;> rfl
  · rfl
@[simp] theorem Side.toDirect_veh (d : Side) (e : Ev) : (d.toDirect e).veh = d.veh := by
  unfold Side.toDirect; dsimp only; split
  · rfl
  · split <;> rfl
  · rfl
@[simp] theorem Side.toDirect_mpl (d : Side) (e : Ev) : (d.toDirect e).mpl = d.mpl := by
  unfold Side.toDirect; dsimp only; split
  · rfl
  · split <;> rfl
  · rfl
@[simp] theorem Side.toDirect_law (d : Side) (e : Ev) : (d.toDirect e).law = d.law := by
  unfold Side.toDirect; dsimp only; split
  · rfl
  · split <;> rfl
  · rfl
@[simp] theorem Side.toDirect_pio (d : Side) (e : Ev) : (d.toDirect e).pio = d.pio := by
  unfold Side.toDirect; dsimp only; split
  · rfl
  · split <;> rfl
  · rfl
@[simp] theorem Side.toDirect_foc (d : Side) (e : Ev) : (d.toDirect e).foc = d.foc := by
  unfold Side.toDirect; dsimp only; split
  · rfl
  · split <;> rfl
  · rfl
@[simp] theorem Side.toDirect_thm (d : Side) (e : Ev) : (d.toDirect e).thm = d.thm := by
  unfold Side.toDirect; dsimp only; split
  · rfl
  · split <;> rfl
  · rfl
@[simp] theorem Side.toDirect_ptp (d : Side) (e : Ev) : (d.toDirect e).ptp = d.ptp := by
  unfold Side.toDirect; dsimp only; split
  · rfl
  · split <;> rfl
  · rfl
@[simp] theorem Side.toDirect_prev (d : Side) (e : Ev) : (d.toDirect e).prev = d.prev := by
  unfold Side.toDirect; dsimp only; split
  · rfl
  · split <;> rfl
  · rfl
@[simp] theorem Side.toDirect_dram (d : Side) (e : Ev) : (d.toDirect e).dram = d.dram := by
  unfold Side.toDirect; dsimp only; split
  · rfl
  · split <;> rfl
  · rfl
@[simp] theorem Side.toDirect_eccBad (d : Side) (e : Ev) : (d.toDirect e).eccBad = d.eccBad := by
  unfold Side.toDirect; dsimp only; split
  · rfl
  · split <;> rfl
  · rfl
@[simp] theorem Side.toDirect_sram (d : Side) (e : Ev) : (d.toDirect e).sram = d.sram := by
  unfold Side.toDirect; dsimp only; split
  · rfl
  · split <;> rfl
  · rfl
@[simp] theorem Side.toDirect_twn (d : Side) (e : Ev) : (d.toDirect e).twn = d.twn := by
  unfold Side.toDirect; dsimp only; split
  · rfl
  · split <;> rfl
  · rfl

@[simp] theorem Side.routeEv_tim (d : Side) (p : Pkg) (e : Ev) (st : Nat) : ((d.routeEv p e st).1).tim = d.tim := by
  unfold Side.routeEv; dsimp only; split
  · split <;> simp
  · rfl
@[simp] theorem Side.routeEv_dma (d : Side) (p : Pkg) (e : Ev) (st : Nat) : ((d.routeEv p e st).1).dma = d.dma := by
  unfold Side.routeEv; dsimp only; split
  · split <;> simp
  · rfl
@[simp] theorem Side.routeEv_str (d : Side) (p : Pkg) (e : Ev) (st : Nat) : ((d.routeEv p e st).1).str = d.str := by
  unfold Side.routeEv; dsimp only; split
  · split <;> simp
  · rfl
@[simp] theorem Side.routeEv_pln (d : Side) (p : Pkg) (e : Ev) (st : Nat) : ((d.routeEv p e st).1).pln = d.pln := by
  unfold Side.routeEv; dsimp only; split
  · split <;> simp
  · rfl
@[simp] theorem Side.routeEv_sec (d : Side) (p : Pkg) (e : Ev) (st : Nat) : ((d.routeEv p e st).1).sec = d.sec := by
  unfold Side.routeEv; dsimp only; split
  · split <;> simp
  · rfl
@[simp] theorem Side.routeEv_axes (d : Side) (p : Pkg) (e : Ev) (st : Nat) : ((d.routeEv p e st).1).axes = d.axes := by
  unfold Side.routeEv; dsimp only; split
  · split <;> simp
  · rfl
@[simp] theorem Side.routeEv_encs (d : Side) (p : Pkg) (e : Ev) (st : Nat) : ((d.routeEv p e st).1).encs = d.encs := by
  unfold Side.routeEv; dsimp only; split
  · split <;> simp
  · rfl
@[simp] theorem Side.routeEv_ras (d : Side) (p : Pkg) (e : Ev) (st : Nat) : ((d.routeEv p e st).1).ras = d.ras := by
  unfold Side.routeEv; dsimp only; split
  · split <;> simp
  · rfl
@[simp] theorem Side.routeEv_veh (d : Side) (p : Pkg) (e : Ev) (st : Nat) : ((d.routeEv p e st).1).veh = d.veh := by
  unfold Side.routeEv; dsimp only; split
  · split <;> simp
  · rfl
@[simp] theorem Side.routeEv_mpl (d : Side) (p : Pkg) (e : Ev) (st : Nat) : ((d.routeEv p e st).1).mpl = d.mpl := by
  unfold Side.routeEv; dsimp only; split
  · split <;> simp
  · rfl
@[simp] theorem Side.routeEv_law (d : Side) (p : Pkg) (e : Ev) (st : Nat) : ((d.routeEv p e st).1).law = d.law := by
  unfold Side.routeEv; dsimp only; split
  · split <;> simp
  · rfl
@[simp] theorem Side.routeEv_pio (d : Side) (p : Pkg) (e : Ev) (st : Nat) : ((d.routeEv p e st).1).pio = d.pio := by
  unfold Side.routeEv; dsimp only; split
  · split <;> simp
  · rfl
@[simp] theorem Side.routeEv_foc (d : Side) (p : Pkg) (e : Ev) (st : Nat) : ((d.routeEv p e st).1).foc = d.foc := by
  unfold Side.routeEv; dsimp only; split
  · split <;> simp
  · rfl
@[simp] theorem Side.routeEv_thm (d : Side) (p : Pkg) (e : Ev) (st : Nat) : ((d.routeEv p e st).1).thm = d.thm := by
  unfold Side.routeEv; dsimp only; split
  · split <;> simp
  · rfl
@[simp] theorem Side.routeEv_ptp (d : Side) (p : Pkg) (e : Ev) (st : Nat) : ((d.routeEv p e st).1).ptp = d.ptp := by
  unfold Side.routeEv; dsimp only; split
  · split <;> simp
  · rfl
@[simp] theorem Side.routeEv_prev (d : Side) (p : Pkg) (e : Ev) (st : Nat) : ((d.routeEv p e st).1).prev = d.prev := by
  unfold Side.routeEv; dsimp only; split
  · split <;> simp
  · rfl
@[simp] theorem Side.routeEv_dram (d : Side) (p : Pkg) (e : Ev) (st : Nat) : ((d.routeEv p e st).1).dram = d.dram := by
  unfold Side.routeEv; dsimp only; split
  · split <;> simp
  · rfl
@[simp] theorem Side.routeEv_eccBad (d : Side) (p : Pkg) (e : Ev) (st : Nat) : ((d.routeEv p e st).1).eccBad = d.eccBad := by
  unfold Side.routeEv; dsimp only; split
  · split <;> simp
  · rfl
@[simp] theorem Side.routeEv_sram (d : Side) (p : Pkg) (e : Ev) (st : Nat) : ((d.routeEv p e st).1).sram = d.sram := by
  unfold Side.routeEv; dsimp only; split
  · split <;> simp
  · rfl
@[simp] theorem Side.routeEv_twn (d : Side) (p : Pkg) (e : Ev) (st : Nat) : ((d.routeEv p e st).1).twn = d.twn := by
  unfold Side.routeEv; dsimp only; split
  · split <;> simp
  · rfl

@[simp] theorem Side.deliveryFault_tim (d : Side) (p : Pkg) (src : Nat) (f : Fld) (st : Nat) : (d.deliveryFault p src f st).tim = d.tim := by simp [Side.deliveryFault]
@[simp] theorem Side.deliveryFault_dma (d : Side) (p : Pkg) (src : Nat) (f : Fld) (st : Nat) : (d.deliveryFault p src f st).dma = d.dma := by simp [Side.deliveryFault]
@[simp] theorem Side.deliveryFault_str (d : Side) (p : Pkg) (src : Nat) (f : Fld) (st : Nat) : (d.deliveryFault p src f st).str = d.str := by simp [Side.deliveryFault]
@[simp] theorem Side.deliveryFault_pln (d : Side) (p : Pkg) (src : Nat) (f : Fld) (st : Nat) : (d.deliveryFault p src f st).pln = d.pln := by simp [Side.deliveryFault]
@[simp] theorem Side.deliveryFault_sec (d : Side) (p : Pkg) (src : Nat) (f : Fld) (st : Nat) : (d.deliveryFault p src f st).sec = d.sec := by simp [Side.deliveryFault]
@[simp] theorem Side.deliveryFault_axes (d : Side) (p : Pkg) (src : Nat) (f : Fld) (st : Nat) : (d.deliveryFault p src f st).axes = d.axes := by simp [Side.deliveryFault]
@[simp] theorem Side.deliveryFault_encs (d : Side) (p : Pkg) (src : Nat) (f : Fld) (st : Nat) : (d.deliveryFault p src f st).encs = d.encs := by simp [Side.deliveryFault]
@[simp] theorem Side.deliveryFault_ras (d : Side) (p : Pkg) (src : Nat) (f : Fld) (st : Nat) : (d.deliveryFault p src f st).ras = d.ras := by simp [Side.deliveryFault]
@[simp] theorem Side.deliveryFault_veh (d : Side) (p : Pkg) (src : Nat) (f : Fld) (st : Nat) : (d.deliveryFault p src f st).veh = d.veh := by simp [Side.deliveryFault]
@[simp] theorem Side.deliveryFault_mpl (d : Side) (p : Pkg) (src : Nat) (f : Fld) (st : Nat) : (d.deliveryFault p src f st).mpl = d.mpl := by simp [Side.deliveryFault]
@[simp] theorem Side.deliveryFault_law (d : Side) (p : Pkg) (src : Nat) (f : Fld) (st : Nat) : (d.deliveryFault p src f st).law = d.law := by simp [Side.deliveryFault]
@[simp] theorem Side.deliveryFault_pio (d : Side) (p : Pkg) (src : Nat) (f : Fld) (st : Nat) : (d.deliveryFault p src f st).pio = d.pio := by simp [Side.deliveryFault]
@[simp] theorem Side.deliveryFault_foc (d : Side) (p : Pkg) (src : Nat) (f : Fld) (st : Nat) : (d.deliveryFault p src f st).foc = d.foc := by simp [Side.deliveryFault]
@[simp] theorem Side.deliveryFault_thm (d : Side) (p : Pkg) (src : Nat) (f : Fld) (st : Nat) : (d.deliveryFault p src f st).thm = d.thm := by simp [Side.deliveryFault]
@[simp] theorem Side.deliveryFault_ptp (d : Side) (p : Pkg) (src : Nat) (f : Fld) (st : Nat) : (d.deliveryFault p src f st).ptp = d.ptp := by simp [Side.deliveryFault]
@[simp] theorem Side.deliveryFault_prev (d : Side) (p : Pkg) (src : Nat) (f : Fld) (st : Nat) : (d.deliveryFault p src f st).prev = d.prev := by simp [Side.deliveryFault]
@[simp] theorem Side.deliveryFault_dram (d : Side) (p : Pkg) (src : Nat) (f : Fld) (st : Nat) : (d.deliveryFault p src f st).dram = d.dram := by simp [Side.deliveryFault]
@[simp] theorem Side.deliveryFault_eccBad (d : Side) (p : Pkg) (src : Nat) (f : Fld) (st : Nat) : (d.deliveryFault p src f st).eccBad = d.eccBad := by simp [Side.deliveryFault]
@[simp] theorem Side.deliveryFault_sram (d : Side) (p : Pkg) (src : Nat) (f : Fld) (st : Nat) : (d.deliveryFault p src f st).sram = d.sram := by simp [Side.deliveryFault]
@[simp] theorem Side.deliveryFault_twn (d : Side) (p : Pkg) (src : Nat) (f : Fld) (st : Nat) : (d.deliveryFault p src f st).twn = d.twn := by simp [Side.deliveryFault]

@[simp] theorem Side.routePost_tim (d : Side) (p : Pkg) (e : Ev) (st : Nat) : (d.routePost p e st).tim = d.tim := by
  unfold Side.routePost; split <;> (rename_i h; simp [← Side.routeEv_tim d p e st, h])
@[simp] theorem Side.routePost_dma (d : Side) (p : Pkg) (e : Ev) (st : Nat) : (d.routePost p e st).dma = d.dma := by
  unfold Side.routePost; split <;> (rename_i h; simp [← Side.routeEv_dma d p e st, h])
@[simp] theorem Side.routePost_str (d : Side) (p : Pkg) (e : Ev) (st : Nat) : (d.routePost p e st).str = d.str := by
  unfold Side.routePost; split <;> (rename_i h; simp [← Side.routeEv_str d p e st, h])
@[simp] theorem Side.routePost_pln (d : Side) (p : Pkg) (e : Ev) (st : Nat) : (d.routePost p e st).pln = d.pln := by
  unfold Side.routePost; split <;> (rename_i h; simp [← Side.routeEv_pln d p e st, h])
@[simp] theorem Side.routePost_sec (d : Side) (p : Pkg) (e : Ev) (st : Nat) : (d.routePost p e st).sec = d.sec := by
  unfold Side.routePost; split <;> (rename_i h; simp [← Side.routeEv_sec d p e st, h])
@[simp] theorem Side.routePost_axes (d : Side) (p : Pkg) (e : Ev) (st : Nat) : (d.routePost p e st).axes = d.axes := by
  unfold Side.routePost; split <;> (rename_i h; simp [← Side.routeEv_axes d p e st, h])
@[simp] theorem Side.routePost_encs (d : Side) (p : Pkg) (e : Ev) (st : Nat) : (d.routePost p e st).encs = d.encs := by
  unfold Side.routePost; split <;> (rename_i h; simp [← Side.routeEv_encs d p e st, h])
@[simp] theorem Side.routePost_ras (d : Side) (p : Pkg) (e : Ev) (st : Nat) : (d.routePost p e st).ras = d.ras := by
  unfold Side.routePost; split <;> (rename_i h; simp [← Side.routeEv_ras d p e st, h])
@[simp] theorem Side.routePost_veh (d : Side) (p : Pkg) (e : Ev) (st : Nat) : (d.routePost p e st).veh = d.veh := by
  unfold Side.routePost; split <;> (rename_i h; simp [← Side.routeEv_veh d p e st, h])
@[simp] theorem Side.routePost_mpl (d : Side) (p : Pkg) (e : Ev) (st : Nat) : (d.routePost p e st).mpl = d.mpl := by
  unfold Side.routePost; split <;> (rename_i h; simp [← Side.routeEv_mpl d p e st, h])
@[simp] theorem Side.routePost_law (d : Side) (p : Pkg) (e : Ev) (st : Nat) : (d.routePost p e st).law = d.law := by
  unfold Side.routePost; split <;> (rename_i h; simp [← Side.routeEv_law d p e st, h])
@[simp] theorem Side.routePost_pio (d : Side) (p : Pkg) (e : Ev) (st : Nat) : (d.routePost p e st).pio = d.pio := by
  unfold Side.routePost; split <;> (rename_i h; simp [← Side.routeEv_pio d p e st, h])
@[simp] theorem Side.routePost_foc (d : Side) (p : Pkg) (e : Ev) (st : Nat) : (d.routePost p e st).foc = d.foc := by
  unfold Side.routePost; split <;> (rename_i h; simp [← Side.routeEv_foc d p e st, h])
@[simp] theorem Side.routePost_thm (d : Side) (p : Pkg) (e : Ev) (st : Nat) : (d.routePost p e st).thm = d.thm := by
  unfold Side.routePost; split <;> (rename_i h; simp [← Side.routeEv_thm d p e st, h])
@[simp] theorem Side.routePost_ptp (d : Side) (p : Pkg) (e : Ev) (st : Nat) : (d.routePost p e st).ptp = d.ptp := by
  unfold Side.routePost; split <;> (rename_i h; simp [← Side.routeEv_ptp d p e st, h])
@[simp] theorem Side.routePost_prev (d : Side) (p : Pkg) (e : Ev) (st : Nat) : (d.routePost p e st).prev = d.prev := by
  unfold Side.routePost; split <;> (rename_i h; simp [← Side.routeEv_prev d p e st, h])
@[simp] theorem Side.routePost_dram (d : Side) (p : Pkg) (e : Ev) (st : Nat) : (d.routePost p e st).dram = d.dram := by
  unfold Side.routePost; split <;> (rename_i h; simp [← Side.routeEv_dram d p e st, h])
@[simp] theorem Side.routePost_eccBad (d : Side) (p : Pkg) (e : Ev) (st : Nat) : (d.routePost p e st).eccBad = d.eccBad := by
  unfold Side.routePost; split <;> (rename_i h; simp [← Side.routeEv_eccBad d p e st, h])
@[simp] theorem Side.routePost_sram (d : Side) (p : Pkg) (e : Ev) (st : Nat) : (d.routePost p e st).sram = d.sram := by
  unfold Side.routePost; split <;> (rename_i h; simp [← Side.routeEv_sram d p e st, h])
@[simp] theorem Side.routePost_twn (d : Side) (p : Pkg) (e : Ev) (st : Nat) : (d.routePost p e st).twn = d.twn := by
  unfold Side.routePost; split <;> (rename_i h; simp [← Side.routeEv_twn d p e st, h])

@[simp] theorem Side.notice_tim (d : Side) (p : Pkg) (src c x y : Nat) : (d.notice p src c x y).tim = d.tim := by
  unfold Side.notice; split <;> simp
@[simp] theorem Side.notice_dma (d : Side) (p : Pkg) (src c x y : Nat) : (d.notice p src c x y).dma = d.dma := by
  unfold Side.notice; split <;> simp
@[simp] theorem Side.notice_str (d : Side) (p : Pkg) (src c x y : Nat) : (d.notice p src c x y).str = d.str := by
  unfold Side.notice; split <;> simp
@[simp] theorem Side.notice_pln (d : Side) (p : Pkg) (src c x y : Nat) : (d.notice p src c x y).pln = d.pln := by
  unfold Side.notice; split <;> simp
@[simp] theorem Side.notice_sec (d : Side) (p : Pkg) (src c x y : Nat) : (d.notice p src c x y).sec = d.sec := by
  unfold Side.notice; split <;> simp
@[simp] theorem Side.notice_axes (d : Side) (p : Pkg) (src c x y : Nat) : (d.notice p src c x y).axes = d.axes := by
  unfold Side.notice; split <;> simp
@[simp] theorem Side.notice_encs (d : Side) (p : Pkg) (src c x y : Nat) : (d.notice p src c x y).encs = d.encs := by
  unfold Side.notice; split <;> simp
@[simp] theorem Side.notice_ras (d : Side) (p : Pkg) (src c x y : Nat) : (d.notice p src c x y).ras = d.ras := by
  unfold Side.notice; split <;> simp
@[simp] theorem Side.notice_veh (d : Side) (p : Pkg) (src c x y : Nat) : (d.notice p src c x y).veh = d.veh := by
  unfold Side.notice; split <;> simp
@[simp] theorem Side.notice_mpl (d : Side) (p : Pkg) (src c x y : Nat) : (d.notice p src c x y).mpl = d.mpl := by
  unfold Side.notice; split <;> simp
@[simp] theorem Side.notice_law (d : Side) (p : Pkg) (src c x y : Nat) : (d.notice p src c x y).law = d.law := by
  unfold Side.notice; split <;> simp
@[simp] theorem Side.notice_pio (d : Side) (p : Pkg) (src c x y : Nat) : (d.notice p src c x y).pio = d.pio := by
  unfold Side.notice; split <;> simp
@[simp] theorem Side.notice_foc (d : Side) (p : Pkg) (src c x y : Nat) : (d.notice p src c x y).foc = d.foc := by
  unfold Side.notice; split <;> simp
@[simp] theorem Side.notice_thm (d : Side) (p : Pkg) (src c x y : Nat) : (d.notice p src c x y).thm = d.thm := by
  unfold Side.notice; split <;> simp
@[simp] theorem Side.notice_ptp (d : Side) (p : Pkg) (src c x y : Nat) : (d.notice p src c x y).ptp = d.ptp := by
  unfold Side.notice; split <;> simp
@[simp] theorem Side.notice_prev (d : Side) (p : Pkg) (src c x y : Nat) : (d.notice p src c x y).prev = d.prev := by
  unfold Side.notice; split <;> simp
@[simp] theorem Side.notice_dram (d : Side) (p : Pkg) (src c x y : Nat) : (d.notice p src c x y).dram = d.dram := by
  unfold Side.notice; split <;> simp
@[simp] theorem Side.notice_eccBad (d : Side) (p : Pkg) (src c x y : Nat) : (d.notice p src c x y).eccBad = d.eccBad := by
  unfold Side.notice; split <;> simp
@[simp] theorem Side.notice_sram (d : Side) (p : Pkg) (src c x y : Nat) : (d.notice p src c x y).sram = d.sram := by
  unfold Side.notice; split <;> simp
@[simp] theorem Side.notice_twn (d : Side) (p : Pkg) (src c x y : Nat) : (d.notice p src c x y).twn = d.twn := by
  unfold Side.notice; split <;> simp

@[simp] theorem Side.faultD_tim (d : Side) (p : Pkg) (src : Nat) (f : Fld) (x y : Nat) : (d.faultD p src f x y).tim = d.tim := by
  unfold Side.faultD; dsimp only; split <;> simp
@[simp] theorem Side.faultD_dma (d : Side) (p : Pkg) (src : Nat) (f : Fld) (x y : Nat) : (d.faultD p src f x y).dma = d.dma := by
  unfold Side.faultD; dsimp only; split <;> simp
@[simp] theorem Side.faultD_str (d : Side) (p : Pkg) (src : Nat) (f : Fld) (x y : Nat) : (d.faultD p src f x y).str = d.str := by
  unfold Side.faultD; dsimp only; split <;> simp
@[simp] theorem Side.faultD_pln (d : Side) (p : Pkg) (src : Nat) (f : Fld) (x y : Nat) : (d.faultD p src f x y).pln = d.pln := by
  unfold Side.faultD; dsimp only; split <;> simp
@[simp] theorem Side.faultD_sec (d : Side) (p : Pkg) (src : Nat) (f : Fld) (x y : Nat) : (d.faultD p src f x y).sec = d.sec := by
  unfold Side.faultD; dsimp only; split <;> simp
@[simp] theorem Side.faultD_axes (d : Side) (p : Pkg) (src : Nat) (f : Fld) (x y : Nat) : (d.faultD p src f x y).axes = d.axes := by
  unfold Side.faultD; dsimp only; split <;> simp
@[simp] theorem Side.faultD_encs (d : Side) (p : Pkg) (src : Nat) (f : Fld) (x y : Nat) : (d.faultD p src f x y).encs = d.encs := by
  unfold Side.faultD; dsimp only; split <;> simp
@[simp] theorem Side.faultD_ras (d : Side) (p : Pkg) (src : Nat) (f : Fld) (x y : Nat) : (d.faultD p src f x y).ras = d.ras := by
  unfold Side.faultD; dsimp only; split <;> simp
@[simp] theorem Side.faultD_veh (d : Side) (p : Pkg) (src : Nat) (f : Fld) (x y : Nat) : (d.faultD p src f x y).veh = d.veh := by
  unfold Side.faultD; dsimp only; split <;> simp
@[simp] theorem Side.faultD_mpl (d : Side) (p : Pkg) (src : Nat) (f : Fld) (x y : Nat) : (d.faultD p src f x y).mpl = d.mpl := by
  unfold Side.faultD; dsimp only; split <;> simp
@[simp] theorem Side.faultD_law (d : Side) (p : Pkg) (src : Nat) (f : Fld) (x y : Nat) : (d.faultD p src f x y).law = d.law := by
  unfold Side.faultD; dsimp only; split <;> simp
@[simp] theorem Side.faultD_pio (d : Side) (p : Pkg) (src : Nat) (f : Fld) (x y : Nat) : (d.faultD p src f x y).pio = d.pio := by
  unfold Side.faultD; dsimp only; split <;> simp
@[simp] theorem Side.faultD_foc (d : Side) (p : Pkg) (src : Nat) (f : Fld) (x y : Nat) : (d.faultD p src f x y).foc = d.foc := by
  unfold Side.faultD; dsimp only; split <;> simp
@[simp] theorem Side.faultD_thm (d : Side) (p : Pkg) (src : Nat) (f : Fld) (x y : Nat) : (d.faultD p src f x y).thm = d.thm := by
  unfold Side.faultD; dsimp only; split <;> simp
@[simp] theorem Side.faultD_ptp (d : Side) (p : Pkg) (src : Nat) (f : Fld) (x y : Nat) : (d.faultD p src f x y).ptp = d.ptp := by
  unfold Side.faultD; dsimp only; split <;> simp
@[simp] theorem Side.faultD_prev (d : Side) (p : Pkg) (src : Nat) (f : Fld) (x y : Nat) : (d.faultD p src f x y).prev = d.prev := by
  unfold Side.faultD; dsimp only; split <;> simp
@[simp] theorem Side.faultD_dram (d : Side) (p : Pkg) (src : Nat) (f : Fld) (x y : Nat) : (d.faultD p src f x y).dram = d.dram := by
  unfold Side.faultD; dsimp only; split <;> simp
@[simp] theorem Side.faultD_eccBad (d : Side) (p : Pkg) (src : Nat) (f : Fld) (x y : Nat) : (d.faultD p src f x y).eccBad = d.eccBad := by
  unfold Side.faultD; dsimp only; split <;> simp
@[simp] theorem Side.faultD_sram (d : Side) (p : Pkg) (src : Nat) (f : Fld) (x y : Nat) : (d.faultD p src f x y).sram = d.sram := by
  unfold Side.faultD; dsimp only; split <;> simp
@[simp] theorem Side.faultD_twn (d : Side) (p : Pkg) (src : Nat) (f : Fld) (x y : Nat) : (d.faultD p src f x y).twn = d.twn := by
  unfold Side.faultD; dsimp only; split <;> simp

@[simp] theorem Side.fault_tim (d : Side) (p : Pkg) (src : Nat) (f : Fld) : (d.fault p src f).tim = d.tim := by simp [Side.fault]
@[simp] theorem Side.fault_dma (d : Side) (p : Pkg) (src : Nat) (f : Fld) : (d.fault p src f).dma = d.dma := by simp [Side.fault]
@[simp] theorem Side.fault_str (d : Side) (p : Pkg) (src : Nat) (f : Fld) : (d.fault p src f).str = d.str := by simp [Side.fault]
@[simp] theorem Side.fault_pln (d : Side) (p : Pkg) (src : Nat) (f : Fld) : (d.fault p src f).pln = d.pln := by simp [Side.fault]
@[simp] theorem Side.fault_sec (d : Side) (p : Pkg) (src : Nat) (f : Fld) : (d.fault p src f).sec = d.sec := by simp [Side.fault]
@[simp] theorem Side.fault_axes (d : Side) (p : Pkg) (src : Nat) (f : Fld) : (d.fault p src f).axes = d.axes := by simp [Side.fault]
@[simp] theorem Side.fault_encs (d : Side) (p : Pkg) (src : Nat) (f : Fld) : (d.fault p src f).encs = d.encs := by simp [Side.fault]
@[simp] theorem Side.fault_ras (d : Side) (p : Pkg) (src : Nat) (f : Fld) : (d.fault p src f).ras = d.ras := by simp [Side.fault]
@[simp] theorem Side.fault_veh (d : Side) (p : Pkg) (src : Nat) (f : Fld) : (d.fault p src f).veh = d.veh := by simp [Side.fault]
@[simp] theorem Side.fault_mpl (d : Side) (p : Pkg) (src : Nat) (f : Fld) : (d.fault p src f).mpl = d.mpl := by simp [Side.fault]
@[simp] theorem Side.fault_law (d : Side) (p : Pkg) (src : Nat) (f : Fld) : (d.fault p src f).law = d.law := by simp [Side.fault]
@[simp] theorem Side.fault_pio (d : Side) (p : Pkg) (src : Nat) (f : Fld) : (d.fault p src f).pio = d.pio := by simp [Side.fault]
@[simp] theorem Side.fault_foc (d : Side) (p : Pkg) (src : Nat) (f : Fld) : (d.fault p src f).foc = d.foc := by simp [Side.fault]
@[simp] theorem Side.fault_thm (d : Side) (p : Pkg) (src : Nat) (f : Fld) : (d.fault p src f).thm = d.thm := by simp [Side.fault]
@[simp] theorem Side.fault_ptp (d : Side) (p : Pkg) (src : Nat) (f : Fld) : (d.fault p src f).ptp = d.ptp := by simp [Side.fault]
@[simp] theorem Side.fault_prev (d : Side) (p : Pkg) (src : Nat) (f : Fld) : (d.fault p src f).prev = d.prev := by simp [Side.fault]
@[simp] theorem Side.fault_dram (d : Side) (p : Pkg) (src : Nat) (f : Fld) : (d.fault p src f).dram = d.dram := by simp [Side.fault]
@[simp] theorem Side.fault_eccBad (d : Side) (p : Pkg) (src : Nat) (f : Fld) : (d.fault p src f).eccBad = d.eccBad := by simp [Side.fault]
@[simp] theorem Side.fault_sram (d : Side) (p : Pkg) (src : Nat) (f : Fld) : (d.fault p src f).sram = d.sram := by simp [Side.fault]
@[simp] theorem Side.fault_twn (d : Side) (p : Pkg) (src : Nat) (f : Fld) : (d.fault p src f).twn = d.twn := by simp [Side.fault]

@[simp] theorem Side.faultIf_tim (d : Side) (p : Pkg) (c : Bool) (src : Nat) (f : Fld) : (d.faultIf p c src f).tim = d.tim := by
  unfold Side.faultIf; split <;> simp
@[simp] theorem Side.faultIf_dma (d : Side) (p : Pkg) (c : Bool) (src : Nat) (f : Fld) : (d.faultIf p c src f).dma = d.dma := by
  unfold Side.faultIf; split <;> simp
@[simp] theorem Side.faultIf_str (d : Side) (p : Pkg) (c : Bool) (src : Nat) (f : Fld) : (d.faultIf p c src f).str = d.str := by
  unfold Side.faultIf; split <;> simp
@[simp] theorem Side.faultIf_pln (d : Side) (p : Pkg) (c : Bool) (src : Nat) (f : Fld) : (d.faultIf p c src f).pln = d.pln := by
  unfold Side.faultIf; split <;> simp
@[simp] theorem Side.faultIf_sec (d : Side) (p : Pkg) (c : Bool) (src : Nat) (f : Fld) : (d.faultIf p c src f).sec = d.sec := by
  unfold Side.faultIf; split <;> simp
@[simp] theorem Side.faultIf_axes (d : Side) (p : Pkg) (c : Bool) (src : Nat) (f : Fld) : (d.faultIf p c src f).axes = d.axes := by
  unfold Side.faultIf; split <;> simp
@[simp] theorem Side.faultIf_encs (d : Side) (p : Pkg) (c : Bool) (src : Nat) (f : Fld) : (d.faultIf p c src f).encs = d.encs := by
  unfold Side.faultIf; split <;> simp
@[simp] theorem Side.faultIf_ras (d : Side) (p : Pkg) (c : Bool) (src : Nat) (f : Fld) : (d.faultIf p c src f).ras = d.ras := by
  unfold Side.faultIf; split <;> simp
@[simp] theorem Side.faultIf_veh (d : Side) (p : Pkg) (c : Bool) (src : Nat) (f : Fld) : (d.faultIf p c src f).veh = d.veh := by
  unfold Side.faultIf; split <;> simp
@[simp] theorem Side.faultIf_mpl (d : Side) (p : Pkg) (c : Bool) (src : Nat) (f : Fld) : (d.faultIf p c src f).mpl = d.mpl := by
  unfold Side.faultIf; split <;> simp
@[simp] theorem Side.faultIf_law (d : Side) (p : Pkg) (c : Bool) (src : Nat) (f : Fld) : (d.faultIf p c src f).law = d.law := by
  unfold Side.faultIf; split <;> simp
@[simp] theorem Side.faultIf_pio (d : Side) (p : Pkg) (c : Bool) (src : Nat) (f : Fld) : (d.faultIf p c src f).pio = d.pio := by
  unfold Side.faultIf; split <;> simp
@[simp] theorem Side.faultIf_foc (d : Side) (p : Pkg) (c : Bool) (src : Nat) (f : Fld) : (d.faultIf p c src f).foc = d.foc := by
  unfold Side.faultIf; split <;> simp
@[simp] theorem Side.faultIf_thm (d : Side) (p : Pkg) (c : Bool) (src : Nat) (f : Fld) : (d.faultIf p c src f).thm = d.thm := by
  unfold Side.faultIf; split <;> simp
@[simp] theorem Side.faultIf_ptp (d : Side) (p : Pkg) (c : Bool) (src : Nat) (f : Fld) : (d.faultIf p c src f).ptp = d.ptp := by
  unfold Side.faultIf; split <;> simp
@[simp] theorem Side.faultIf_prev (d : Side) (p : Pkg) (c : Bool) (src : Nat) (f : Fld) : (d.faultIf p c src f).prev = d.prev := by
  unfold Side.faultIf; split <;> simp
@[simp] theorem Side.faultIf_dram (d : Side) (p : Pkg) (c : Bool) (src : Nat) (f : Fld) : (d.faultIf p c src f).dram = d.dram := by
  unfold Side.faultIf; split <;> simp
@[simp] theorem Side.faultIf_eccBad (d : Side) (p : Pkg) (c : Bool) (src : Nat) (f : Fld) : (d.faultIf p c src f).eccBad = d.eccBad := by
  unfold Side.faultIf; split <;> simp
@[simp] theorem Side.faultIf_sram (d : Side) (p : Pkg) (c : Bool) (src : Nat) (f : Fld) : (d.faultIf p c src f).sram = d.sram := by
  unfold Side.faultIf; split <;> simp
@[simp] theorem Side.faultIf_twn (d : Side) (p : Pkg) (c : Bool) (src : Nat) (f : Fld) : (d.faultIf p c src f).twn = d.twn := by
  unfold Side.faultIf; split <;> simp

/-! Registers. -/

@[simp] theorem Side.word_set_ne (d : Side) (f : Fld) (v : Nat) {o : Nat} (h : o ≠ f.off) : (d.set f v).word o = d.word o :=
  rfWord_put_ne _ _ h

theorem Side.get_of_word {d e : Side} (g : Fld) (h : d.word g.off = e.word g.off) : d.get g = e.get g := by
  simp only [Side.get, rfGet]
  exact congrArg (fun v => bits v g.lo g.w) h

theorem Side.ringWrite_word (d : Side) (p : Pkg) (r : RingId) (irq : Bool) (l : List Byte) (w : Nat) (o : Nat)
    (h : o < ringBase r ∨ ringBase r + 0x40 ≤ o) : (d.ringWrite p r irq l w).word o = d.word o := by
  have h1 : o ≠ (rTail r).off := by simp only [rTail]; omega
  have h2 : o ≠ (rPhase r).off := by simp only [rPhase]; omega
  simp only [Side.word, Side.ringWrite, Side.ringCoalesce_rf]
  split <;> simp only [Side.set_rf, Side.send]
  · rw [rfWord_rfSet_off _ _ _ _ h2, rfWord_rfSet_off _ _ _ _ h1]
  · rw [rfWord_rfSet_off _ _ _ _ h1]

theorem Side.toRing_word (d : Side) (p : Pkg) (f : Nat) (e : Ev) (st o : Nat) (hf : f < 2) (h : offPost o) :
    (d.toRing p f e st).1.word o = d.word o := by
  obtain ⟨h1, h2⟩ := h
  unfold Side.toRing
  dsimp only
  split
  · exact Side.word_set_ne _ _ _ (by simp only [F.EVT_UNRINGED_COUNT]; omega)
  · split
    · exact Side.word_set_ne _ _ _ (by simp only [F.HIF_EQ_STATUS_LOST_TOTAL]; omega)
    · exact Side.ringWrite_word _ _ _ _ _ _ _ (by simp only [ringBase]; omega)

theorem Side.toDirect_word (d : Side) (e : Ev) (o : Nat) (hs : e.src < 0x1000) (h : offPost o) :
    (d.toDirect e).word o = d.word o := by
  obtain ⟨h1, h2⟩ := h
  have h3 : o ≠ (F.EVT_ROUTE_ARMED e.src).off := by simp only [F.EVT_ROUTE_ARMED]; omega
  unfold Side.toDirect
  dsimp only
  split
  · rfl
  · split
    · exact Side.word_set_ne _ _ _ h3
    · rfl
  · rfl

theorem Side.routeEv_word (d : Side) (p : Pkg) (e : Ev) (st o : Nat) (hs : e.src < 0x1000) (h : offPost o) :
    (d.routeEv p e st).1.word o = d.word o := by
  have hf : d.get (F.EVT_ROUTE_FUNC e.src) < 2 := bits_lt _ _ 1
  have h0 : (d.set F.EVT_POSTED_COUNT (d.get F.EVT_POSTED_COUNT + 1)).word o = d.word o :=
    Side.word_set_ne _ _ _ (by have := h.2; simp only [F.EVT_POSTED_COUNT]; omega)
  unfold Side.routeEv
  dsimp only
  split
  · rw [Side.toDirect_word _ _ _ hs h]
    split
    · rw [Side.toRing_word _ _ _ _ _ _ hf h]; exact h0
    · exact h0
  · exact h0

theorem Side.deliveryFault_word (d : Side) (p : Pkg) (src : Nat) (f : Fld) (st o : Nat) (hs : src < 0x1000) (h : offPost o)
    (hf : o ≠ f.off) : (d.deliveryFault p src f st).word o = d.word o := by
  unfold Side.deliveryFault
  dsimp only
  rw [Side.routeEv_word _ _ _ _ _ hs h]
  exact Side.word_set_ne _ _ _ hf

theorem Side.toRing_dropped (d : Side) (p : Pkg) (f : Nat) (e : Ev) (st q : Nat) (h : (d.toRing p f e st).2 = .dropped q) :
    q = f := by
  unfold Side.toRing at h
  dsimp only at h
  split at h
  · cases h
  · split at h
    · exact (RingRes.dropped.inj h).symm
    · cases h

theorem Side.routeEv_dropped (d : Side) (p : Pkg) (e : Ev) (st q : Nat) (h : (d.routeEv p e st).2 = .dropped q) : q < 2 := by
  have hf : d.get (F.EVT_ROUTE_FUNC e.src) < 2 := bits_lt _ _ 1
  unfold Side.routeEv at h
  dsimp only at h
  split at h
  · dsimp only at h
    split at h
    · rwa [Side.toRing_dropped _ _ _ _ _ _ h]
    · cases h
  · cases h

/-- A posting changes no register but the event rings' and the event block's. -/
theorem Side.routePost_word (d : Side) (p : Pkg) (e : Ev) (st o : Nat) (hs : e.src < 0x1000) (h : offPost o) :
    (d.routePost p e st).word o = d.word o := by
  have hr := Side.routeEv_word d p e st o hs h
  obtain ⟨h1, h2⟩ := h
  unfold Side.routePost
  split <;> rename_i he
  · rw [he] at hr; exact hr
  · rw [Side.deliveryFault_word _ _ _ _ _ _ (by decide) ⟨h1, h2⟩ (by simp only [F.EVT_STATUS_NO_RING]; omega)]
    rw [he] at hr; exact hr
  · rename_i q
    have hq := Side.routeEv_dropped d p e st q (by rw [he])
    rw [Side.deliveryFault_word _ _ _ _ _ _ (by omega) ⟨h1, h2⟩ (by simp only [F.HIF_EQ_STATUS_DROPPED]; omega)]
    rw [he] at hr; exact hr

/-- A notice changes no register but the event rings' and the event block's. -/
theorem Side.notice_word (d : Side) (p : Pkg) (src c x y o : Nat) (hs : src < 0x1000) (h : offPost o) :
    (d.notice p src c x y).word o = d.word o := by
  unfold Side.notice
  split
  · rfl
  · exact Side.routePost_word _ _ _ _ _ hs h

/-- A fault of a unit that is present changes its flag and no other register but the event rings' and the event block's. -/
theorem Side.faultD_word (d : Side) (p : Pkg) (src : Nat) (f : Fld) (x y o : Nat) (hs : src < 0x1000) (h : offPost o)
    (ha : srcAbsent p.fuses.is7708 src = false) : (d.faultD p src f x y).word o = (d.set f 1).word o := by
  unfold Side.faultD
  dsimp only
  rw [ha]
  exact Side.routePost_word _ _ _ _ _ hs h

theorem Side.fault_word (d : Side) (p : Pkg) (src : Nat) (f : Fld) (o : Nat) (hs : src < 0x1000) (h : offPost o)
    (ha : srcAbsent p.fuses.is7708 src = false) : (d.fault p src f).word o = (d.set f 1).word o :=
  Side.faultD_word _ _ _ _ _ _ _ hs h ha

/-- A fault leaves every register but its flag's, the event rings' and the event block's. -/
theorem Side.faultD_word_ne (d : Side) (p : Pkg) (src : Nat) (f : Fld) (x y o : Nat) (hs : src < 0x1000) (h : offPost o)
    (ho : o ≠ f.off) : (d.faultD p src f x y).word o = d.word o := by
  unfold Side.faultD
  dsimp only
  split
  · rfl
  · rw [Side.routePost_word _ _ _ _ _ hs h]
    exact Side.word_set_ne _ _ _ ho

theorem Side.fault_word_ne (d : Side) (p : Pkg) (src : Nat) (f : Fld) (o : Nat) (hs : src < 0x1000) (h : offPost o)
    (ho : o ≠ f.off) : (d.fault p src f).word o = d.word o :=
  Side.faultD_word_ne _ _ _ _ _ _ _ hs h ho

/-- The flag of a fault reads 1 (R476). -/
theorem Side.fault_flag (d : Side) (p : Pkg) (src : Nat) (f : Fld) (hs : src < 0x1000) (h : offPost f.off)
    (ha : srcAbsent p.fuses.is7708 src = false) (hw : f.w = 1) (hl : f.lo < 32) : (d.fault p src f).get f = 1 := by
  rw [Side.get_of_word f (Side.fault_word d p src f f.off hs h ha)]
  have := rfGet_rfSet_self d.rf f 1 (by omega)
  rw [hw] at this
  simpa [Side.get] using this

end Sys2Proof.Machine
end

