-- ==== Sys2Proof/Laws/Run.lean ====
section
/-! SUPPORT. What an operation of both sides leaves on one running side, what a submission ring's updates do, what a fault
leaves, the canonical form of the flash, a port stored and read back, and the inverse S-box. -/
namespace Sys2Proof.Machine

/-- The operations of a register write do not run the write again where the register map has taken it. -/
theorem State.accepts_asWrite {s : State} {b : Bool} {o w : Nat} (h : s.accepts b o w) (t : State) : s.asWrite b o w t = t := by
  apply State.asWrite_taken _ _ _ _ _ h.1
  cases b
  · exact .inl rfl
  · exact .inr (h.2 rfl)

/-- A step of both sides changes only registers of a side where the operation it runs there does. -/
theorem State.both_onlyRegs {s : State} {f : Pkg → Side → Side} {x : SideId}
    (h : (s.side x).onlyRegs (Side.ranIf (s.pkg.hold.running x) f s.pkg (s.side x))) : (s.side x).onlyRegs ((s.both f).side x) := by
  obtain ⟨l, e⟩ := s.both_side f x
  rw [e]; unfold Side.onlyRegs Side.unpost at *
  exact h

/-- The same of the sides that are powered, running or not. -/
theorem State.bothOn_onlyRegs {s : State} {f : Pkg → Side → Side} {x : SideId}
    (h : (s.side x).onlyRegs (Side.ranIf (s.pkg.hold.alive x) f s.pkg (s.side x))) : (s.side x).onlyRegs ((s.bothOn f).side x) := by
  obtain ⟨l, e⟩ := s.bothOn_side f x
  rw [e]; unfold Side.onlyRegs Side.unpost at *
  exact h

/-- What `both` leaves on a running side: the operation's result, but for the packets handed out. -/
theorem State.both_of_running {s : State} {x : SideId} (h : s.pkg.hold.running x = true) (f : Pkg → Side → Side) :
    ∃ l, (s.both f).side x = { f s.pkg (s.side x) with out := l } := by
  have := s.both_side f x
  rwa [h, Side.ranIf_true] at this

/-- The same after time has passed. -/
theorem State.both_advance_of_running {s : State} {x : SideId} (h : s.pkg.hold.running x = true) (k : Nat) (f : Pkg → Side → Side) :
    ∃ l, ((s.advance k).both f).side x = { f (s.pkg.advance k) (s.side x) with out := l } := by
  have := (s.advance k).both_side f x
  rwa [State.advance_pkg, Pkg.advance_hold, h, Side.ranIf_true, State.advance_side] at this

/-- The same of `bothOn` on a powered side. -/
theorem State.bothOn_of_alive {s : State} {x : SideId} (h : s.pkg.hold.alive x = true) (f : Pkg → Side → Side) :
    ∃ l, (s.bothOn f).side x = { f s.pkg (s.side x) with out := l } := by
  have := s.bothOn_side f x
  rwa [h, Side.ranIf_true] at this

/-- A running side is powered. -/
theorem Hold.alive_of_running {h : Hold} {x : SideId} (a : h.running x = true) : h.alive x = true := by
  unfold Hold.running at a; simp at a; exact a.1

/-- A ring's descriptors after a step of both sides. -/
theorem State.both_sqList (s : State) (f : Pkg → Side → Side) (x : SideId) (n : Nat) : ((s.both f).side x).sqList n = (Side.ranIf (s.pkg.hold.running x) f s.pkg (s.side x)).sqList n := s.both_obs (fun d => d.sqList n) (fun _ _ => rfl) f x

/-- The same of the powered sides. -/
theorem State.bothOn_sqList (s : State) (f : Pkg → Side → Side) (x : SideId) (n : Nat) : ((s.bothOn f).side x).sqList n = (Side.ranIf (s.pkg.hold.alive x) f s.pkg (s.side x)).sqList n := s.bothOn_obs (fun d => d.sqList n) (fun _ _ => rfl) f x

/-- A ring's state after a step of both sides. -/
theorem State.both_sqState (s : State) (f : Pkg → Side → Side) (x : SideId) (n : Nat) : ((s.both f).side x).sqState n = (Side.ranIf (s.pkg.hold.running x) f s.pkg (s.side x)).sqState n := s.both_obs (fun d => d.sqState n) (fun _ _ => rfl) f x

/-- The same of the powered sides. -/
theorem State.bothOn_sqState (s : State) (f : Pkg → Side → Side) (x : SideId) (n : Nat) : ((s.bothOn f).side x).sqState n = (Side.ranIf (s.pkg.hold.alive x) f s.pkg (s.side x)).sqState n := s.bothOn_obs (fun d => d.sqState n) (fun _ _ => rfl) f x
@[simp] theorem Side.sqList_setSqList (d : Side) (n : Nat) (l : List Desc) : (d.setSqList n l).sqList n = l := by
  simp [Side.sqList, Side.setSqList]
@[simp] theorem Side.setSqList_rf (d : Side) (n : Nat) (l : List Desc) : (d.setSqList n l).rf = d.rf := rfl
@[simp] theorem Side.startDone_rf (d : Side) (n : Nat) (r : Res) : (d.startDone n r).rf = d.rf := rfl
@[simp] theorem Side.startRun_rf (d : Side) (n : Nat) : (d.startRun n).rf = d.rf := rfl
@[simp] theorem Side.finish_rf (d : Side) (n k : Nat) (r : Res) : (d.finish n k r).rf = d.rf := rfl

/-- A descriptor that ends at its start leaves the queue with its result in place. -/
theorem Side.sqList_startDone (d : Side) (n : Nat) (r : Res) : (d.startDone n r).sqList n = startFirst (.done r.status r.r0 r.r1) (d.sqList n) := Side.sqList_setSqList _ _ _

/-- A descriptor that starts is marked running in its place. -/
theorem Side.sqList_startRun (d : Side) (n : Nat) : (d.startRun n).sqList n = startFirst .running (d.sqList n) := Side.sqList_setSqList _ _ _

/-- A descriptor that ends is marked done in its slot. -/
theorem Side.sqList_finish (d : Side) (n k : Nat) (r : Res) : (d.finish n k r).sqList n = finishSlot k r (d.sqList n) := Side.sqList_setSqList _ _ _

/-- A field of one bit holds 0 or 1. -/
theorem Side.get_lt_two (f : Fld) (d : Side) (h : f.w = 1) : d.get f < 2 := by
  have := bits_lt (rfWord d.rf f.off) f.lo f.w
  rw [h] at this; simpa [Side.get, rfGet, h] using this

/-- A flag is up when its field holds 1. -/
theorem Side.flag_iff (d : Side) (f : Fld) : d.flag f = true ↔ d.get f = 1 := by simp [Side.flag]

/-- Raising a fault moves no submission ring. -/
theorem Side.fault_hif_sq (d : Side) (p : Pkg) (src : Nat) (f : Fld) : (d.fault p src f).hif.sq = d.hif.sq := by
  have hw : ∀ (d : Side) (r : RingId) (irq : Bool) (l : List Byte) (w : Nat), (d.ringWrite p r irq l w).hif.sq = d.hif.sq := by
    intros; unfold Side.ringWrite Side.ringCoalesce; dsimp only; split <;> split <;> rfl
  have h1 : ∀ (d : Side) (g : Nat) (e : Ev) (st : Nat), (d.toRing p g e st).1.hif.sq = d.hif.sq := by
    intros; unfold Side.toRing; dsimp only; split
    · rfl
    · split
      · rfl
      · simp [hw]
  have h2 : ∀ (d : Side) (e : Ev), (d.toDirect e).hif.sq = d.hif.sq := by
    intros; unfold Side.toDirect; dsimp only; split
    · rfl
    · split <;> rfl
    · rfl
  have h3 : ∀ (d : Side) (e : Ev) (st : Nat), (d.routeEv p e st).1.hif.sq = d.hif.sq := by
    intros; unfold Side.routeEv; dsimp only; split
    · split <;> simp [h1, h2]
    · rfl
  have h4 : ∀ (d : Side) (src : Nat) (f : Fld) (st : Nat), (d.deliveryFault p src f st).hif.sq = d.hif.sq := by
    intros; unfold Side.deliveryFault; simp [h3]
  have h5 : ∀ (d : Side) (e : Ev) (st : Nat), (d.routePost p e st).hif.sq = d.hif.sq := by
    intro d e st; unfold Side.routePost; split <;> (rename_i h; have := h3 d e st; rw [h] at this; simpa [h4] using this)
  unfold Side.fault Side.faultD; dsimp only; split
  · rfl
  · simp [h5]

/-- Raising a fault changes registers and posts only. -/
theorem Side.onlyRegs_fault (d e : Side) (p : Pkg) (src : Nat) (f : Fld) (h : d.onlyRegs e) : d.onlyRegs (e.fault p src f) := by
  unfold Side.onlyRegs Side.unpost at *
  rw [← h]; simp

/-- Writing a ring entry changes registers and posts only. -/
theorem Side.onlyRegs_ringWrite (d e : Side) (p : Pkg) (r : RingId) (irq : Bool) (l : List Byte) (w : Nat) (h : d.onlyRegs e) : d.onlyRegs (e.ringWrite p r irq l w) := by
  unfold Side.onlyRegs Side.unpost at *
  rw [← h]; simp

/-- A fault changes no field outside its own word and the event registers. -/
theorem Side.fault_get (d : Side) (p : Pkg) (src : Nat) (f g : Fld) (hs : src < 0x1000) (h : offPost g.off)
    (ho : g.off ≠ f.off) : (d.fault p src f).get g = d.get g := Side.get_of_word g (Side.fault_word_ne d p src f g.off hs h ho)

/-- The flash keeps its canonical form where entries leave it (R446). -/
theorem flashWf_filter (f : Tab Byte) (p) (h : flashWf f) : flashWf (f.filter p) :=
  ⟨h.1.filter p, fun e he => h.2 e (List.mem_of_mem_filter he)⟩

/-- The flash keeps its canonical form where a byte other than 0xFF is stored. -/
theorem flashWf_tset (f : Tab Byte) (a : Nat) (b : Byte) (hb : b ≠ 0xFF) (h : flashWf f) : flashWf (tset f a b) := by
  obtain ⟨h1, h2⟩ := h
  refine ⟨?_, fun e he => ?_⟩
  · clear h2
    induction f with
    | nil => simp [tset]
    | cons e t ih =>
      obtain ⟨j, u⟩ := e
      obtain ⟨g1, g2⟩ := List.pairwise_cons.1 h1
      simp only [tset]
      split
      · subst_vars; exact List.pairwise_cons.2 ⟨g1, g2⟩
      · split
        · refine List.pairwise_cons.2 ⟨?_, h1⟩
          intro e he
          rcases List.mem_cons.1 he with rfl | he
          · assumption
          · exact Nat.lt_trans ‹_› (g1 e he)
        · refine List.pairwise_cons.2 ⟨?_, ih g2⟩
          intro e he
          rcases mem_tset _ _ _ _ he with rfl | he
          · show j < a; omega
          · exact g1 e he
  · rcases mem_tset _ _ _ _ he with rfl | he
    · exact hb
    · exact h2 e he

/-- Programming the flash keeps its canonical form. -/
theorem flashWf_program (l : List Byte) (f : Tab Byte) (a : Nat) (h : flashWf f) : flashWf (flashProgram f a l) := by
  induction l generalizing f a with
  | nil => exact h
  | cons b t ih =>
    apply ih
    split
    · exact flashWf_filter _ _ h
    · exact flashWf_tset _ _ _ ‹_› h

/-- The port that was stored is the one that is read. -/
@[simp] theorem Hold.port_setPort (h : Hold) (n : Nat) (x : Port) : (h.setPort n x).port n = x := tget_tset_self _ _ _ _

/-- Storing a port leaves the others. -/
theorem Hold.port_setPort_ne (h : Hold) {n m : Nat} (x : Port) (hm : m ≠ n) : (h.setPort n x).port m = h.port m := tget_tset_ne _ _ _ hm

/-- A port that has sent every slot up to the limit sends none (R192). -/
theorem Port.run_done (o : Nat → Nat × Nat) (w l n : Nat) (x : Port) (h : l ≤ x.blk) : Port.run o w l n x = x := by
  cases n with
  | zero => rfl
  | succ n => unfold Port.run; rw [if_pos (by simp [h])]

/-- The inverse S-box of the AES undoes the S-box. -/
theorem aesUnsub_aesSub : ∀ x : Byte, aesUnsub (aesSub x) = x := by decide +kernel

end Sys2Proof.Machine
end

