-- ==== Sys2Proof/Machine/Pins.lean ====
section
/-! DEFINITION. The ball map (R511, R512) and what each ball is before reset release (R517). -/

namespace Sys2Proof.Machine

/-- What lies on a ball: a signal, a supply rail, or VSS. -/
inductive Ball where
  | sig (name : String)
  | rail (name : String)
  | vss
  deriving DecidableEq, Repr, Inhabited

/-- Names with an index that runs upward. -/
def nums (pre post : String) (n : Nat) : List String := (List.range n).map fun k => pre ++ toString k ++ post

/-- A differential pair: P before N. -/
def pair (s : String) : List String := [s ++ "_P", s ++ "_N"]

/-- A strobe or clock of the LPDDR5X standard: _T before _C. -/
def strobe (s : String) : List String := [s ++ "_T", s ++ "_C"]

/-- One channel of a side's DRAM. -/
def dramChan (c : String) : List String :=
  (nums (c ++ "_WCK") "" 4).flatMap strobe ++ (nums (c ++ "_RDQS") "" 4).flatMap strobe ++ (nums (c ++ "_CK") "" 2).flatMap strobe ++
  nums (c ++ "_DQ") "" 32 ++ nums (c ++ "_DMI") "" 4 ++ nums (c ++ "_CA") "_S0" 7 ++ nums (c ++ "_CA") "_S1" 7 ++ nums (c ++ "_CS") "" 2

/-- The DRAM list for a side; CA balls of subchannels 0 and 1 end in S0 and S1. -/
def dramList (s : String) : List String :=
  dramChan ("D" ++ s ++ "0") ++ dramChan ("D" ++ s ++ "1") ++ ["D" ++ s ++ "_RESET_N", "D" ++ s ++ "_ZQ"]

def northList : List String :=
  pair "REFCLK" ++
  ((List.range 8).flatMap fun k => pair ("PE_TX" ++ toString k) ++ pair ("PE_RX" ++ toString k)) ++
  ((List.range 16).flatMap fun n => (List.range 2).flatMap fun l =>
    pair ("BL" ++ toString n ++ "_TX" ++ toString l) ++ pair ("BL" ++ toString n ++ "_RX" ++ toString l)) ++
  ((List.range 2).flatMap fun p => pair ("ETH" ++ toString p ++ "_TX") ++ pair ("ETH" ++ toString p ++ "_RX")) ++
  ((List.range 16).flatMap fun n => ["_CNV", "_DCO", "_DA", "_DB"].flatMap fun x => pair ("MP" ++ toString n ++ x)) ++
  ["PERST_N"]

def southList : List String :=
  (nums "SOS" "" 16).flatMap pair ++ (nums "EOS" "" 16).flatMap pair ++ ["FLT_P", "FLT_N"] ++ nums "PWM" "" 128 ++ nums "SD" "_DAT" 64 ++
  nums "SDCLK" "" 8 ++ ((List.range 24).flatMap fun e => ["_A", "_B", "_Z"].map fun x => "ENC" ++ toString e ++ x) ++
  nums "ZX" "" 4 ++ nums "SSR" "" 8 ++ ["BE_IN0", "BE_IN1", "OSPI_CLK", "OSPI_DQS"] ++ nums "OSPI_DQ" "" 8 ++
  ["OSPI_CS_N", "OSPI_RST_N", "TCK", "TMS", "TDI", "TDO", "TRST_N", "PORST_N", "WARM_RST_N", "FAC0", "FAC1"]

def rails (l : List (String × Nat)) : List Ball := l.flatMap fun e => List.replicate e.2 (.rail e.1)

/-- A region of the map: its first row and column, its rows and columns, and its contents in order. -/
structure Region where
  row : Nat
  col : Nat
  rows : Nat
  cols : Nat
  contents : List Ball

/-- The regions of R512; rows and columns count from 1. -/
def regions : List Region :=
  [⟨1, 1, 54, 6, (dramList "A").map .sig ++ rails [("VDDQ_A", 40), ("VDDPHY_A", 32)]⟩,
   ⟨1, 49, 54, 6, (dramList "B").map .sig ++ rails [("VDDQ_B", 40), ("VDDPHY_B", 32)]⟩,
   ⟨1, 7, 10, 42, northList.map .sig⟩,
   ⟨45, 7, 10, 42, southList.map .sig⟩,
   ⟨11, 7, 34, 14, rails [("VDD_A", 230)]⟩,
   ⟨11, 21, 34, 14, rails [("VDD_H", 90), ("VDDA_PLL", 8), ("VDDIO_18", 96), ("VDDA_SER", 104), ("VDDH_SER", 40)]⟩,
   ⟨11, 35, 34, 14, rails [("VDD_B", 230)]⟩]

/-- A position lies in a region. -/
def Region.has (g : Region) (row col : Nat) : Bool :=
  decide (g.row ≤ row) && decide (row < g.row + g.rows) && decide (g.col ≤ col) && decide (col < g.col + g.cols)

/-- The ball at a row and a column (R511). -/
def ballAt (row col : Nat) : Option Ball :=
  (regions.find? fun g => g.has row col).map fun g => g.contents.getD ((row - g.row) * g.cols + (col - g.col)) .vss

/-- The letters of rows 1 to 54. -/
def rowNames : List String :=
  let l := ["A", "B", "C", "D", "E", "F", "G", "H", "J", "K", "L", "M", "N", "P", "T", "U", "V", "W", "Y"]
  l ++ l.map ("A" ++ ·) ++ (l.take 16).map ("B" ++ ·)

/-- The name of a position: its row's letters and its column. -/
def ballName (row col : Nat) : String := rowNames.getD (row - 1) "" ++ toString col

/-- Pulls of the CMOS balls (R517). -/
inductive Pull where
  | up | down | none
  deriving DecidableEq, Repr

/-- The pull of a CMOS ball (R517); no driver is on before the hold die's reset release, so that the pull alone sets the level. -/
def pullOf (name : String) : Pull :=
  if ["TMS", "TDI", "OSPI_CS_N"].contains name then .up
  else if (["PORST_N", "WARM_RST_N", "TRST_N", "PERST_N", "FLT_P", "FLT_N", "BE_IN0", "BE_IN1", "FAC0", "FAC1"] ++ nums "PWM" "" 128 ++
      nums "SSR" "" 8 ++ nums "SD" "_DAT" 64 ++ nums "ZX" "" 4 ++
      ((List.range 24).flatMap fun e => ["_A", "_B", "_Z"].map fun x => "ENC" ++ toString e ++ x)).contains name then .down
  else .none

end Sys2Proof.Machine
end

