-- ==== Sys2Proof/WellFormed.lean ====
section
/-! DEFINITION. Well-formed commands: every operand lies in the range that the spec's units, rings and words give it (R2, R56,
R57, R74, R87, R109, R387, R461). -/

namespace Sys2Proof

/-- A completion ring 0 to 63 or an event ring 0 or 1 (R56). -/
def ringNumOk : RingId → Bool
  | .cq n => decide (n < 64)
  | .eq e => decide (e < 2)

/-- A command whose operands lie in range. -/
def Instr.wf : Instr → Bool
  | .powerOnReset => true
  | .warmReset => true
  | .warm => true
  | .perst => true
  | .trst => true
  | .supplyMonitorTrip _ => true
  | .holdDieError => true
  | .bootComplete _ _ => true
  | .bootFail _ => true
  | .proceed => true
  | .flashProgram n _ _ => decide (n < 64)
  | .controlTickEdge t => decide (t < 2 ^ 64)
  | .fineTickBoundary t => decide (t < 2 ^ 64)
  | .snap => true
  | .snapPosted => true
  | .adjGo => true
  | .rateGo => true
  | .jumpAccept => true
  | .jumpDiscard => true
  | .timTickWrite _ => true
  | .alarmArm n => decide (n < 8)
  | .alarmDisarm n => decide (n < 8)
  | .alarmFire n t => decide (n < 8) && decide (t < 2 ^ 64)
  | .tickOverrun _ _ => true
  | .registerWrite _ bar addr _ => (bar == 0 || bar == 2 || bar == 4) && decide (addr < 0x4000000)
  | .unmappedAccess _ bar addr => (bar == 0 || bar == 2 || bar == 4) && decide (addr < 0x4000000)
  | .badAccess _ => true
  | .sqEnable n v => decide (n < 64) && v.getLsbD 0
  | .sqDisable n v => decide (n < 64) && !v.getLsbD 0
  | .resume n => decide (n < 64)
  | .cqEqEnable r v => ringNumOk r && v.getLsbD 0
  | .cqEqDisable r v => ringNumOk r && !v.getLsbD 0
  | .sqDoorbell _ n v => decide (n < 64) && decide (v < 65536)
  | .cqDoorbell _ r v => ringNumOk r && decide (v < 65536)
  | .descriptorFetched n _ => decide (n < 64)
  | .descriptorRetire n => decide (n < 64)
  | .coalesceTimeout r t => ringNumOk r && decide (t < 2 ^ 64)
  | .vectorUnmask _ v => decide (v < 128)
  | .functionLevelReset _ => true
  | .d3hotEntry _ => true
  | .busMasterDisable _ => true
  | .busMasterEnable _ => true
  | .nop n => decide (n < 64)
  | .barrier n => decide (n < 64)
  | .copy n => decide (n < 64)
  | .fill n => decide (n < 64)
  | .flush n => decide (n < 64)
  | .dmaTransferComplete ch => decide (ch < 32)
  | .fenceComplete ch _ => decide (ch < 32)
  | .half ch => decide (ch < 32)
  | .dmaTransferError ch _ _ => decide (ch < 32)
  | .shadowArm ch sh v => decide (ch < 32) && decide (sh < 2) && v.getLsbD 8
  | .shadowDisarm ch sh v => decide (ch < 32) && decide (sh < 2) && (v.getLsbD 9 && !v.getLsbD 8)
  | .jobOpen n => decide (n < 64)
  | .jobStaged n => decide (n < 64)
  | .jobClose n => decide (n < 64)
  | .decompress n => decide (n < 64)
  | .decompressContinue n => decide (n < 64)
  | .contextDrop n => decide (n < 64)
  | .compress n => decide (n < 64)
  | .strudelRequestDone n slot _ => decide (n < 64) && decide (slot < 65536)
  | .blockAssign => true
  | .blockDecoded eng => decide (eng < 8)
  | .plateCommit n => decide (n < 64)
  | .gateQuery n => decide (n < 64)
  | .plateAbort n => decide (n < 64)
  | .plateWait n => decide (n < 64)
  | .plateEnding p => decide (p < 4)
  | .plateDone p => decide (p < 4)
  | .ingestIntervalEnd t => decide (t < 2 ^ 64)
  | .jarEnable j _ => decide (j < 32)
  | .trainBlockReceived p _ => decide (p < 16)
  | .alignMarker p c => decide (p < 16) && decide (c.1 < 2 ^ 16) && decide (c.2 < 2 ^ 16)
  | .linkDown l => decide (l.port < 16) && decide (l.lane < 2)
  | .blankRepeat x => decide (x.port < 16) && decide (x.t < 2 ^ 64)
  | .setFrameSend p t => decide (p < 16) && decide (t < 2 ^ 64)
  | .dotFrameRelease p t => decide (p < 16) && decide (t < 2 ^ 64)
  | .dotLate p t => decide (p < 16) && decide (t < 2 ^ 64)
  | .ackReceived p ctag result op data t => decide (p < 16) && decide (ctag < 65536) && decide (result < 256) && decide (op < 256) && decide (data < 2 ^ 32) && decide (t < 2 ^ 64)
  | .ctrlNoack p t => decide (p < 16) && decide (t < 2 ^ 64)
  | .statReceived p _ t => decide (p < 16) && decide (t < 2 ^ 64)
  | .statSilent p t => decide (p < 16) && decide (t < 2 ^ 64)
  | .encReceived p _ _ z _ t => decide (p < 16) && decide (z < 4) && decide (t < 2 ^ 64)
  | .upstreamFrameError f => decide (f.port < 16) && f.blocks.all fun b => decide (b.1 < 4)
  | .retrain p => decide (p < 16)
  | .echo p => decide (p < 16)
  | .blank p => decide (p < 16)
  | .ctrlGo p => decide (p < 16)
  | .sosEdge c t frac => decide (c < 16) && decide (t < 2 ^ 64) && decide (frac < 64)
  | .eosEdge c t frac => decide (c < 16) && decide (t < 2 ^ 64) && decide (frac < 64)
  | .sosMissed c t => decide (c < 16) && decide (t < 2 ^ 64)
  | .facetZero c => decide (c < 16)
  | .relock c => decide (c < 16)
  | .stripeBuild c t => decide (c < 16) && decide (t < 2 ^ 64)
  | .lookaheadEntry c => decide (c < 16)
  | .vectorBegin c t => decide (c < 16) && decide (t < 2 ^ 64)
  | .vectorEnd c t => decide (c < 16) && decide (t < 2 ^ 64)
  | .vecGridLoad n _ => decide (n < 64)
  | .arbiterDecision => true
  | .hmClear => true
  | .chunkTimeout _ t => decide (t < 2 ^ 64)
  | .telemetryEncode k => decide (k < 2)
  | .telemetryBlockWrite => true
  | .telRdWrite _ _ => true
  | .lawSetLoad n _ => decide (n < 64)
  | .halt => true
  | .traceArm k => decide (k < 16)
  | .traceStop k => decide (k < 16)
  | .injStart g => decide (g < 4)
  | .injStop g => decide (g < 4)
  | .zeroCrossEdge z t => decide (z < 4) && decide (t < 2 ^ 64)
  | .ssrSwitch k t => decide (k < 8) && decide (t < 2 ^ 64)
  | .zxLost z t => decide (z < 4) && decide (t < 2 ^ 64)
  | .motProfLoad n _ => decide (n < 64)
  | .motStart a => decide (a < 24)
  | .go => true
  | .motEnd a => decide (a < 24)
  | .quadEdge e _ _ t => decide (e < 24) && decide (t < 2 ^ 64)
  | .indexEdge e => decide (e < 24)
  | .ssiFrame e _ _ _ t => decide (e < 24) && decide (t < 2 ^ 64)
  | .carrierPeriodStart g => decide (g < 8)
  | .alignDone f t => decide (f < 16) && decide (t < 2 ^ 64)
  | .sdValue ch _ => decide (ch < 64)
  | .enable u => decide (u < 24)
  | .disable u => decide (u < 24)
  | .clear u => decide (u < 24)
  | .chopClr b => decide (b < 4)
  | .stpTableLoad n _ => decide (n < 64)
  | .heartbeat t => decide (t < 2 ^ 64)
  | .heartbeatReceived _ path _ t => (path == 1 || path == 2) && decide (t < 2 ^ 64)
  | .heartbeatDeadline _ t => decide (t < 2 ^ 64)
  | .resign _ t => decide (t < 2 ^ 64)
  | .grant t => decide (t < 2 ^ 64)
  | .grantAckTimeout => true
  | .dwellCut p t => decide (p < 16) && decide (t < 2 ^ 64)
  | .fixedArm => true
  | .fixedDisarm => true
  | .peek => true
  | .revive _ => true
  | .ptpMessageReceived p _ frac t => decide (p < 2) && decide (frac < 65536) && decide (t < 2 ^ 64)
  | .ptpMessageSend p _ _ frac t => decide (p < 2) && decide (frac < 65536) && decide (t < 2 ^ 64)
  | .announceTimeout p t => decide (p < 2) && decide (t < 2 ^ 64)
  | .syncTimeout p t => decide (p < 2) && decide (t < 2 ^ 64)
  | .ethLinkDown p => decide (p < 2)
  | .challenge n => decide (n < 64)
  | .keyLoad n _ => decide (n < 64)
  | .keyRemove n => decide (n < 64)
  | .keyLock n => decide (n < 64)
  | .statement n _ => decide (n < 64)
  | .recipeLoad n _ => decide (n < 64)
  | .debugClose n => decide (n < 64)
  | .certRead n => decide (n < 64)
  | .debugPortToken tok => tok.length == 272
  | .debugPortAccess _ => true
  | .jobClear => true
  | .jobClearDone => true
  | .thermalSample k count t => decide (k < 144) && decide (count < 65536) && decide (t < 2 ^ 64)
  | .throttlePauseEnd e t => decide (e < 42) && decide (t < 2 ^ 64)
  | .refreshRateRead _ _ _ => true
  | .nap => true
  | .deep => true
  | .wake => true
  | .wakeGroupRestored g => decide (g < 8)
  | .eventArm n => decide (n < 0x440)
  | .assert => true
  | .release => true
  | .kick => true
  | .watchdogExpiry t => decide (t < 2 ^ 64)
  | .beamEnableOpen => true
  | .beamEnableClose => true
  | .injArm => true
  | .injDisarm => true
  | .injectionEnd t => decide (t < 2 ^ 64)
  | .blockLock p lane => decide (p < 16) && decide (lane < 2)
  | .alignBlockSend x => decide (x.port < 16) && decide (x.t < 2 ^ 64)
  | .pcieLinkUp speed width => (decide (1 ≤ speed) && decide (speed ≤ 5)) && (width == 1 || width == 2 || width == 4 || width == 8)
  | .pcieLinkDown => true
  | .ethLinkUp p => decide (p < 2)
  | .supplyMonitorRelease _ => true
  | .mpWordReceived c _ _ t => decide (c < 16) && decide (t < 2 ^ 64)
  | .mpConversionEdge c t => decide (c < 16) && decide (t < 2 ^ 64)

end Sys2Proof
end

