-- ==== Sys2Proof/Tests/Slice0.lean ====
section
/-! SUPPORT. Tests of one step each, and for every statement a witness: a concrete state and operands that meet the hypotheses of each of its clauses. -/

open Sys2Proof Sys2Proof.Machine

namespace Sys2Proof.Tests

set_option Elab.async false

/-- The hold die once both sides are SYNCED, Side A holding the grant. -/
def holdUp : Hold :=
  (((({} : Hold).set F.HLD_TWN_STATUS_HEALTH_A 3).set F.HLD_TWN_STATUS_HEALTH_B 3).set F.HLD_TWN_STATUS_GRANTED 1)

/-- Both sides run, Side A with the grant; Side A is as f makes it, the package as g does. -/
def up (f : Side → Side := id) (g : Pkg → Pkg := id) : State :=
  { State.reset with sideA := f {}, pkg := g { hold := holdUp } }

/-- Fields set one after the other. -/
def regs (l : List (Fld × Nat)) (d : Side) : Side := l.foldl (fun d e => d.set e.1 e.2) d

/-- The hold die as f makes it. -/
def holdAs (f : Hold → Hold) (p : Pkg) : Pkg := { p with hold := f p.hold }

/-- Ring n RUNNING with 16 slots, target t and completion ring 0, its descriptors in flight being l. -/
def ring (n t : Nat) (l : List Desc) (d : Side) : Side :=
  (regs [(F.HIF_SQ_CFG_ENABLE n, 1), (F.HIF_SQ_CFG_SIZE n, 4), (F.HIF_SQ_CFG_TARGET n, t), (F.HIF_SQ_STATUS_STATE n, 1),
    (F.HIF_CQ_CFG_ENABLE 0, 1), (F.HIF_CQ_CFG_SIZE 0, 4), (F.HIF_CQ_STATUS_STATE 0, 1)] d).setSqList n l

/-- Bytes with fields put in, as (offset, size in bytes, value). -/
def patch (b : List Byte) (l : List (Nat × Nat × Nat)) : List Byte :=
  l.foldl (fun b e => b.take e.1 ++ leBytes e.2.1 e.2.2 ++ b.drop (e.1 + e.2.1)) b

/-- The 64 bytes of a descriptor with OWN 1: its opcode, and fields. -/
def desc (op : Nat) (l : List (Nat × Nat × Nat)) : List Byte := patch (leBytes 4 (1 + 256 * op) ++ List.replicate 60 0) l

/-- Ring 0 with one descriptor that has not started: opcode op, fields l. -/
def one (t op : Nat) (l : List (Nat × Nat × Nat) := []) (d : Side) : Side := ring 0 t [⟨0, desc op l, .fetched⟩] d

/-- Both functions have Bus Master Enable. -/
def bme (p : Pkg) : Pkg := { p with pci := { p.pci with bme0 := true, bme1 := true } }

/-- Host memory holds bytes l at address a. -/
def hostHas (a : Nat) (l : List Byte) (p : Pkg) : Pkg := { p with host := memWrite p.host a l }

/-- Raw time t. -/
def rawAt (t : Nat) (p : Pkg) : Pkg := { p with raw := BitVec.ofNat 64 t }

/-- DRAM of a side holds bytes l at address a. -/
def dramHas (a : Nat) (l : List Byte) (d : Side) : Side := { d with dram := d.dram ++ ((l.zipIdx a).filter (·.1 != 0)).map fun e => (e.2, e.1) }

/-- Numbers of 64 bits, little-endian. -/
def qwords (l : List Nat) : List Byte := l.flatMap (leBytes 8)

/-- 128 bytes of 0. -/
def zero128 : List Byte := List.replicate 128 0

/-- The first 128 bytes of a metadata block of plate 0 with no channel that lasts 1 ms; the others are 0. -/
def meta1 : List Byte :=
  qwords [0x4d7d5a02, 0xf4240, 0, 0x2010010101010, 0, 0, 0, 0xa29ff6ad00000000] ++ List.replicate 64 0

def meta0 : List Byte := meta1 ++ (zero128 ++ (zero128 ++ zero128))

/-- A job stream's header and its one index row: a metadata block of plate 0. -/
def head0 : List Byte :=
  qwords [0x14a7d5a01, 7, 0x100000001, 0x264, 0xfd00fdbb, 0, 0, 0x48825a2700000000, 0x50, 0xff000002000214]

/-- The header of that block. -/
def bhead0 : List Byte := qwords [0x1ff01017d5a, 0xfefe815a00000200]

/-- Job slot 0 open over that stream, all of it staged. -/
def open0 (d : Side) : Side :=
  (((dramHas 608 (leBytes 4 0xcbf26536) (dramHas 80 (bhead0 ++ meta1) (regs [(F.STR_JOB_STATE_STATE 0, 1), (F.STR_JOB_STATE_PLATES 0, 1)] d))).setJob 0
    { base := 0, win := 0x40000, len := 612, ents := [⟨80, 532, 2, 0, 0xFF, .waiting⟩] }).set64
      (F.STR_JOB_STAGED_LO_STAGED 0) (F.STR_JOB_STAGED_HI_STAGED 0) 612)

theorem test_wf_refuses_1 : ([
    .flashProgram 64 none false, .controlTickEdge (2 ^ 64), .fineTickBoundary (2 ^ 64), .alarmArm 8, .alarmDisarm 8,
    .alarmFire 8 0, .alarmFire 0 (2 ^ 64), .registerWrite .pf0 1 0 0, .registerWrite .pf0 0 0x4000000 0, .unmappedAccess .pf0 6 0,
    .unmappedAccess .pf0 0 0x4000000, .sqEnable 64 1, .sqEnable 0 0, .sqDisable 64 0, .sqDisable 0 1,
    .resume 64, .cqEqEnable (.cq 64) 1, .cqEqEnable (.eq 2) 1, .cqEqEnable (RingId.cq 0) 0, .cqEqDisable (.cq 64) 0,
    .cqEqDisable (.eq 2) 0, .cqEqDisable (RingId.cq 0) 1, .sqDoorbell .pf0 64 0, .sqDoorbell .pf0 0 65536, .cqDoorbell .pf0 (.cq 64) 0,
    .cqDoorbell .pf0 (.eq 2) 0, .cqDoorbell .pf0 (RingId.cq 0) 65536, .descriptorFetched 64 false, .descriptorRetire 64, .coalesceTimeout (.cq 64) 0] : List Instr).all (fun c => !c.wf) = true := by decide

theorem test_wf_refuses_2 : ([
    .coalesceTimeout (RingId.cq 0) (2 ^ 64), .vectorUnmask .pf0 128, .nop 64, .barrier 64, .copy 64,
    .fill 64, .flush 64, .dmaTransferComplete 32, .fenceComplete 32 false, .half 32,
    .dmaTransferError 32 (.ecc 0) 0, .shadowArm 32 0 0x100, .shadowArm 0 2 0x100, .shadowArm 0 0 0, .shadowDisarm 32 0 0x200,
    .shadowDisarm 0 2 0x200, .shadowDisarm 0 0 0, .shadowDisarm 0 0 0x300, .jobOpen 64, .jobStaged 64,
    .jobClose 64, .decompress 64, .decompressContinue 64, .contextDrop 64, .compress 64,
    .strudelRequestDone 64 0 none, .strudelRequestDone 0 65536 none, .blockDecoded 8, .plateCommit 64, .gateQuery 64] : List Instr).all (fun c => !c.wf) = true := by decide

theorem test_wf_refuses_3 : ([
    .plateAbort 64, .plateWait 64, .plateEnding 4, .plateDone 4, .ingestIntervalEnd (2 ^ 64),
    .jarEnable 32 0, .trainBlockReceived 16 0, .alignMarker 16 (0, 0), .alignMarker 0 (65536, 0), .alignMarker 0 (0, 65536),
    .linkDown ⟨16, 0⟩, .linkDown ⟨0, 2⟩, .blankRepeat ⟨16, 0⟩, .blankRepeat ⟨0, 2 ^ 64⟩, .setFrameSend 16 0,
    .setFrameSend 0 (2 ^ 64), .dotFrameRelease 16 0, .dotFrameRelease 0 (2 ^ 64), .dotLate 16 0, .dotLate 0 (2 ^ 64),
    .ackReceived 16 0 0 0 0 0, .ackReceived 0 65536 0 0 0 0, .ackReceived 0 0 256 0 0 0, .ackReceived 0 0 0 256 0 0, .ackReceived 0 0 0 0 (2 ^ 32) 0,
    .ackReceived 0 0 0 0 0 (2 ^ 64), .ctrlNoack 16 0, .ctrlNoack 0 (2 ^ 64), .statReceived 16 [] 0, .statReceived 0 [] (2 ^ 64)] : List Instr).all (fun c => !c.wf) = true := by decide

theorem test_wf_refuses_4 : ([
    .statSilent 16 0, .statSilent 0 (2 ^ 64), .encReceived 16 0 0 0 0 0, .encReceived 0 0 0 4 0 0, .encReceived 0 0 0 0 0 (2 ^ 64),
    .upstreamFrameError ⟨16, []⟩, .upstreamFrameError ⟨0, [(4, 0)]⟩, .retrain 16, .echo 16, .blank 16,
    .ctrlGo 16, .sosEdge 16 0 0, .sosEdge 0 (2 ^ 64) 0, .sosEdge 0 0 64, .eosEdge 16 0 0,
    .eosEdge 0 (2 ^ 64) 0, .eosEdge 0 0 64, .sosMissed 16 0, .sosMissed 0 (2 ^ 64), .facetZero 16,
    .relock 16, .stripeBuild 16 0, .stripeBuild 0 (2 ^ 64), .lookaheadEntry 16, .vectorBegin 16 0,
    .vectorBegin 0 (2 ^ 64), .vectorEnd 16 0, .vectorEnd 0 (2 ^ 64), .vecGridLoad 64 none, .chunkTimeout 0 (2 ^ 64)] : List Instr).all (fun c => !c.wf) = true := by decide

theorem test_wf_refuses_5 : ([
    .telemetryEncode 2, .lawSetLoad 64 none, .traceArm 16, .traceStop 16, .injStart 4,
    .injStop 4, .zeroCrossEdge 4 0, .zeroCrossEdge 0 (2 ^ 64), .ssrSwitch 8 0, .ssrSwitch 0 (2 ^ 64),
    .zxLost 4 0, .zxLost 0 (2 ^ 64), .motProfLoad 64 none, .motStart 24, .motEnd 24,
    .quadEdge 24 false false 0, .quadEdge 0 false false (2 ^ 64), .indexEdge 24, .ssiFrame 24 false 0 false 0, .ssiFrame 0 false 0 false (2 ^ 64),
    .carrierPeriodStart 8, .alignDone 16 0, .alignDone 0 (2 ^ 64), .sdValue 64 [], .enable 24,
    .disable 24, .clear 24, .chopClr 4, .stpTableLoad 64 none, .heartbeat (2 ^ 64)] : List Instr).all (fun c => !c.wf) = true := by decide

theorem test_wf_refuses_6 : ([
    .heartbeatReceived .a 0 false 0, .heartbeatReceived .a 3 false 0, .heartbeatReceived .a 1 false (2 ^ 64), .heartbeatDeadline .a (2 ^ 64), .resign .a (2 ^ 64),
    .grant (2 ^ 64), .dwellCut 16 0, .dwellCut 0 (2 ^ 64), .ptpMessageReceived 2 {} 0 0, .ptpMessageReceived 0 {} 65536 0,
    .ptpMessageReceived 0 {} 0 (2 ^ 64), .ptpMessageSend 2 .sync 0 0 0, .ptpMessageSend 0 .sync 0 65536 0, .ptpMessageSend 0 .sync 0 0 (2 ^ 64), .announceTimeout 2 0,
    .announceTimeout 0 (2 ^ 64), .syncTimeout 2 0, .syncTimeout 0 (2 ^ 64), .ethLinkDown 2, .challenge 64,
    .keyLoad 64 none, .keyRemove 64, .keyLock 64, .statement 64 none, .recipeLoad 64 none,
    .debugClose 64, .certRead 64, .debugPortToken [], .thermalSample 144 0 0, .thermalSample 0 65536 0] : List Instr).all (fun c => !c.wf) = true := by decide

theorem test_wf_refuses_7 : ([
    .thermalSample 0 0 (2 ^ 64), .throttlePauseEnd 42 0, .throttlePauseEnd 0 (2 ^ 64), .wakeGroupRestored 8, .eventArm 0x440,
    .watchdogExpiry (2 ^ 64), .injectionEnd (2 ^ 64), .blockLock 16 0, .blockLock 0 2, .alignBlockSend ⟨16, 0⟩,
    .alignBlockSend ⟨0, 2 ^ 64⟩, .pcieLinkUp 0 1, .pcieLinkUp 6 1, .pcieLinkUp 1 3, .ethLinkUp 2,
    .mpWordReceived 16 0 0 0, .mpWordReceived 0 0 0 (2 ^ 64), .mpConversionEdge 16 0, .mpConversionEdge 0 (2 ^ 64)] : List Instr).all (fun c => !c.wf) = true := by decide

/-! Witnesses: rings, descriptors, the host link. -/

theorem wit_SubmissionRingControl_enable : (up (regs [(F.HIF_CQ_CFG_ENABLE 0, 1)])).pkg.hold.alive .a = true ∧
    (up (regs [(F.HIF_CQ_CFG_ENABLE 0, 1)])).accepts true (0x10008 + 0x40 * 15) 0x200009 ∧ bit 0x200009 0 = true ∧
    ((up (regs [(F.HIF_CQ_CFG_ENABLE 0, 1)])).side .a).sqState 15 = 0 ∧
    ((up (regs [(F.HIF_CQ_CFG_ENABLE 0, 1)])).side .a).sqEnableOk 15 0x200009 = true := by
  unfold State.accepts; decide +kernel

theorem wit_SubmissionRingControl_disable : (up (one 0x20 0)).accepts true 0x10008 0x200008 ∧ bit 0x200008 0 = false ∧
    ((up (one 0x20 0)).side .a).sqState 0 = 1 ∧ ((up (one 0x20 0)).side .a).sqCfgKeeps 0 0x200008 = true := by
  unfold State.accepts; decide +kernel

theorem wit_SubmissionRingControl_resume :
    (up (regs [(F.HIF_SQ_STATUS_STATE 63, 2)])).accepts false (0x1000C + 0x40 * 63) 1 ∧
    ((up (regs [(F.HIF_SQ_STATUS_STATE 63, 2)])).side .a).sqState 63 = 2 := by
  unfold State.accepts; decide +kernel

theorem wit_CompletionRingsAndDoorbells_enable : ringOk (.eq 1) = true ∧
    up.accepts (ringFn (.eq 1) == .pf0) (ringBase (.eq 1) + 8) 9 ∧ bit 9 0 = true ∧ (up.side .a).get (rState (.eq 1)) = 0 ∧
    4 ≤ bits 9 1 4 ∧ ringFits ((up.side .a).ringMem (.eq 1)) (bits 9 1 4) 32 = true := by
  unfold State.accepts; decide +kernel

theorem wit_CompletionRingsAndDoorbells_disable :
    let f := regs [(F.HIF_CQ_CFG_ENABLE 63, 1), (F.HIF_CQ_CFG_SIZE 63, 4), (F.HIF_CQ_STATUS_STATE 63, 1)]
    (up f).accepts (ringFn (.cq 63) == .pf0) (ringBase (.cq 63) + 8) 8 ∧ bit 8 0 = false ∧
    ((up f).side .a).get (rState (.cq 63)) = 1 ∧ bits 8 1 4 = ((up f).side .a).get (rSize (.cq 63)) ∧
    ((up f).side .a).cqBound 63 = false := by
  unfold State.accepts; decide +kernel

theorem wit_CompletionRingsAndDoorbells_sq : (up (ring 0 0 [])).takes 0x10000 = true ∧ ringFnNum 0 = .pf0 ∧
    ((up (ring 0 0 [])).side .a).get (F.HIF_SQ_CFG_ENABLE 0) = 1 ∧ ((up (ring 0 0 [])).side .a).get (F.HIF_SQ_CFG_SIZE 0) = 4 ∧
    ((up (ring 0 0 [])).side .a).get (F.HIF_SQ_STATE_TAIL 0) = 0 ∧ ((up (ring 0 0 [])).side .a).get (F.HIF_SQ_STATE_HEAD 0) = 0 ∧
    15 < 2 ^ 4 ∧ (0 + 2 ^ 4 - 0) % 2 ^ 4 ≤ (15 + 2 ^ 4 - 0) % 2 ^ 4 := by decide +kernel

theorem wit_CompletionRingsAndDoorbells_cq :
    let d := (up (fun d => (ring 0 0 [] d).set (F.HIF_CQ_STATE_TAIL 0) 5)).side .a
    (up (fun d => (ring 0 0 [] d).set (F.HIF_CQ_STATE_TAIL 0) 5)).takes 0x10000 = true ∧ ringFn (.cq 0) = .pf0 ∧ d.get (rEnable (.cq 0)) = 1 ∧
    5 < 2 ^ d.get (rSize (.cq 0)) ∧
    (5 + 2 ^ d.get (rSize (.cq 0)) - d.get (rHead (.cq 0))) % 2 ^ d.get (rSize (.cq 0)) ≤ d.ringUsed (.cq 0) := by decide +kernel

theorem wit_CompletionRingsAndDoorbells_timeout :
    let f := fun d : Side => { regs [(rIrqEn (.cq 0), 1), (rCoalTime (.cq 0), 1)] d with hif := { msg := [(0, { unsig := 1 })] } }
    ((up f).side .a).get (rIrqEn (.cq 0)) = 1 ∧ ((up f).side .a).get (rCoalTime (.cq 0)) ≠ 0 ∧
    (tget {} ((up f).side .a).hif.msg (ringIx (.cq 0))).unsig ≠ 0 ∧
    reached ((up f).pkg.advance 1000).now ((tget {} ((up f).side .a).hif.msg (ringIx (.cq 0))).firstAt +
      1000 * ((up f).side .a).get (rCoalTime (.cq 0))) = true := by decide +kernel

/-- Ring 0 of target t has one descriptor in host memory to fetch. -/
def toFetch (t : Nat) (l : List Byte) : State :=
  up (fun d => (ring 0 t [] d).set (F.HIF_SQ_STATE_TAIL 0) 1) (fun p => hostHas 0 l (bme p))

theorem wit_DescriptorsFetchedAndRetired_fetch : ((toFetch 0x20 (desc 0 [])).side .a).sqPick (toFetch 0x20 (desc 0 [])).pkg = some 0 ∧
    dOwn (memRead (toFetch 0x20 (desc 0 [])).pkg.host (((toFetch 0x20 (desc 0 [])).side .a).sqMem 0 +
      64 * ((toFetch 0x20 (desc 0 [])).side .a).sqNext 0) 64) = true := by decide +kernel

theorem wit_DescriptorsFetchedAndRetired_stall : ((toFetch 0x20 []).side .a).sqPick (toFetch 0x20 []).pkg = some 0 ∧
    dOwn (memRead (toFetch 0x20 []).pkg.host (((toFetch 0x20 []).side .a).sqMem 0 +
      64 * ((toFetch 0x20 []).side .a).sqNext 0) 64) = false := by decide +kernel

theorem wit_DescriptorsFetchedAndRetired_start : (((up (one 0x20 0)).side .a).nextStart 0 0).isSome = true ∧
    (((up (one 0x20 1)).side .a).nextStart 0 1).isSome = true := by decide +kernel

theorem wit_DescriptorsFetchedAndRetired_retire :
    let d := (up (ring 0 0x20 [⟨0, desc 0 [], .done stSUCCESS 0 0⟩])).side .a
    d.sqList 0 = [⟨0, desc 0 [], .done stSUCCESS 0 0⟩] ∧ d.ringFull (.cq (d.get (F.HIF_SQ_CFG_CQ 0))) = false ∧ d.sqState 0 = 1 := by
  decide +kernel

theorem wit_DmaChannelsRejectOtherOpcodes :
    ((toFetch 31 (desc 0x13 [])).side .a).sqPick (toFetch 31 (desc 0x13 [])).pkg = some 0 ∧
    ((toFetch 31 (desc 0x13 [])).side .a).sqTarget 0 < 32 ∧
    memRead (toFetch 31 (desc 0x13 [])).pkg.host (((toFetch 31 (desc 0x13 [])).side .a).sqMem 0 +
      64 * ((toFetch 31 (desc 0x13 [])).side .a).sqNext 0) 64 = desc 0x13 [] ∧
    dOwn (desc 0x13 []) = true ∧ dOpcode (desc 0x13 []) = 0x13 := by decide +kernel

theorem wit_HostLinkAndMessages :
    let s := up id fun p => { bme p with pci := { (bme p).pci with pend := [(127, true)] } }
    s.takes 0x10000 = true ∧ tget false s.pkg.pci.msixOn (fnNum .pf0) = true ∧ tget false s.pkg.pci.fnMask (fnNum .pf0) = false ∧
    s.pkg.pci.isPend .pf0 127 = true ∧ s.pkg.pci.bme .pf0 = true := by decide +kernel

theorem wit_ResetsRestartTheBoot : up.pkg.hold.up = true ∧ (∀ x, (up.pkg.hold.look x).lostPower = false) ∧
    up.pkg.hold.cfgAnswers = true ∧ up.accepts true 0x1300004 2 := by
  refine ⟨by decide +kernel, fun x => by cases x <;> decide +kernel, by decide +kernel, ?_⟩
  unfold State.accepts; decide +kernel

theorem wit_BootsEndAndFlashIsProgrammed_stale :
    let s := up id (holdAs fun h => h.set F.HLD_TWN_STATUS_HEALTH_B 1)
    s.pkg.hold.health .b = 1 ∧ (s.side .b).get F.CFG_STATUS_PHASE ≠ 1 ∧ (s.pkg.hold.look .b).revived = false ∧
    s.pkg.hold.granted = true ∧ s.pkg.hold.running (otherSide .b) = true := by decide +kernel

theorem wit_BootsEndAndFlashIsProgrammed_grant : State.reset.pkg.hold.health .a = 1 ∧
    (State.reset.side .a).get F.CFG_STATUS_PHASE ≠ 1 ∧ (State.reset.pkg.hold.look .a).revived = false ∧
    State.reset.pkg.hold.granted = false ∧ State.reset.pkg.hold.gap = none ∧ State.reset.pkg.hold.health (otherSide .a) ≠ 0 := by
  decide +kernel

theorem wit_BootsEndAndFlashIsProgrammed_proceed :
    let s := { State.reset with sideA := regs [(F.CFG_STATUS_PHASE, 1)] {} }
    s.accepts true 0x1300004 1 ∧ s.pkg.hold.health .a = 1 ∧ (s.side .a).get F.CFG_STATUS_PHASE = 1 := by
  unfold State.accepts; decide +kernel

theorem wit_FunctionResetsAndSupplyMonitors : up.pkg.hold.health .a ≠ 1 ∧ up.pkg.hold.alive .a = true := by decide +kernel

/-! Witnesses: firmware, timebase, registers. -/

theorem wit_BootsEndAndFlashIsProgrammed_flash :
    let f := one 0x20 0x7C [(4, 4, 4), (8, 8, 0x1000), (16, 4, 4), (20, 4, crc32c [1, 2, 3, 4])]
    let s := up f (fun p => hostHas 0x1000 [1, 2, 3, 4] (bme p))
    s.pkg.hold.running s.pkg.hold.active = true ∧ (s.actSide.nextHost s.pkg 0 0x7C).isSome = true ∧
    s.actSide.flashRes s.pkg none true (desc 0x7C [(4, 4, 4), (8, 8, 0x1000), (16, 4, 4), (20, 4, crc32c [1, 2, 3, 4])]) = ⟨stSUCCESS, 0, 0⟩ := by
  decide +kernel

theorem wit_TimebaseCommands_snap : up.pkg.hold.running .a = true ∧ up.accepts true 0xE00004 1 ∧ up.accepts true 0xE00004 2 ∧
    up.accepts true 0xE00004 4 ∧ up.accepts true 0xE00004 8 ∧ up.accepts true 0xE00004 16 := by
  unfold State.accepts; decide +kernel

theorem wit_TimebaseCommands_posted : ({ up.side .a with tim := { snap := some (2 ^ 64 - 1, 2 ^ 64 - 1, 2 ^ 64 - 1, 31) } } : Side).tim.snap =
    some (2 ^ 64 - 1, 2 ^ 64 - 1, 2 ^ 64 - 1, 31) := by decide +kernel

theorem wit_TimebaseCommands_adjust :
    let d := (up (regs [(F.TIM_ADJ_LO_VAL, 1000), (F.TIM_JUMP_LIMIT_VAL, 1000)])).side .a
    (d.slewRem + toSigned 64 (d.get64 F.TIM_ADJ_LO_VAL F.TIM_ADJ_HI_VAL)).natAbs ≤ d.get F.TIM_JUMP_LIMIT_VAL ∧
    (d.slewRem + toSigned 64 (d.get64 F.TIM_ADJ_LO_VAL F.TIM_ADJ_HI_VAL)).natAbs < 2 ^ 31 := by decide +kernel

theorem wit_TimebaseCommands_rate :
    let d := (up (regs [(F.TIM_NEWRATE_LO_VAL, 1099511628)])).side .a
    (toSigned 40 (d.get F.TIM_NEWRATE_LO_VAL + 2 ^ 32 * d.get F.TIM_NEWRATE_HI_VAL)).natAbs ≤ 1099511628 := by decide +kernel

theorem wit_TimebaseCommands_jump : ((up (regs [(F.TIM_STATUS_JUMP_PENDING, 1)])).side .a).flag F.TIM_STATUS_JUMP_PENDING = true ∧
    ((up (regs [(F.TIM_STATUS_JUMP_ACCEPTED, 1)])).side .a).flag F.TIM_STATUS_JUMP_ACCEPTED = true := by decide +kernel

theorem wit_TimebaseCommands_tick : up.accepts true 0xE00090 10000 ∧ (up.side .a).plateWindow = true ∧
    tickOk (bits 10000 0 16) (bits 10000 16 16) = true := by unfold State.accepts; decide +kernel

theorem wit_AlarmsArmAndFire : up.accepts true (0xE000A8 + 0x10 * 7) 1 ∧ up.accepts true (0xE000A8 + 0x10 * 7) 2 ∧
    ((up (regs [(F.TIM_ALM_CTRL_ARMED 7, 1)])).side .a).flag (F.TIM_ALM_CTRL_ARMED 7) = true ∧
    reached ((up.side .a).dev (up.pkg.advance 0)) (tget (0, false) (up.side .a).tim.alarms 7).1 = true ∧
    reached ((up.side .a).dev (up.pkg.advance 0)) (tget (0, false) ({ alarms := [(7, 1, false)] } : Tim).alarms 7).1 = false := by
  unfold State.accepts; decide +kernel

theorem wit_TicksCountAndOverrun : up.pkg.hold.active = .a ∧ up.pkg.hold.get F.HLD_INJ_STATUS_STATE ≠ 1 ∧
    (up.side .a).edgeDue (up.pkg.advance 10000) = true ∧ (up.side .a).edgeDue (up.pkg.advance 9999) = false ∧
    (up.side .a).fineDue (up.pkg.advance 500) = true ∧ (up.side .a).jumpDue = false ∧
    (up.side .a).flag F.TIM_STATUS_TICK_PENDING = false := by decide +kernel

theorem wit_RegisterAccesses_write :
    (regFind 0xE00010).any (fun e => !regAbsent up.pkg.fuses.is7708 e.1 e.2 && (cmdBits State.peek e.1.base (e.2.getD 0 0)).isEmpty &&
      !([0x10008, 0x20008, 0x30008, 0x100054, 0xE00090, 0x301000, 0x880038, 0x88003C, 0x400000, 0xA00000, 0xC00100,
        0x880010, 0xF00010, 0xF01000, 0xB30100, 0xB00000, 0xB10000, 0xB20000, 0x500014, 0x1210000, 0x1210004] : List Nat).contains e.1.base &&
      (up.side .a).regOk up.pkg e.1 e.2 0xE00010 5) = true ∧
    up.accepts true 0xE00010 5 ∧ (up.side .a).staleAt 0xE00010 = false := by unfold State.accepts; decide +kernel

theorem wit_RegisterAccesses_other : 0xE00011 % 4 ≠ 0 ∧ 0xE00011 < bar0Size .pf0 ∧ barFree .pf1 2 0x82000 = true ∧ up.takes 0x10000 = true ∧
    up.pkg.hold.alive .a = true := by decide +kernel

/-! Witnesses: DMA, job streams, requests. -/

/-- A write that a range or window turns away. -/
theorem wit_RegisterAccesses_refused :
    (regFind 0xE00074).any (fun e => !regAbsent up.pkg.fuses.is7708 e.1 e.2 && (cmdBits State.peek e.1.base (e.2.getD 0 0)).isEmpty &&
      !(up.side .a).regOk up.pkg e.1 e.2 0xE00074 0xFFFFF && !(up.side .a).lawTakes e.1.base e.2 (rowNew e.1 ((up.side .a).word 0xE00074) 0xFFFFF)) = true := by
  decide +kernel

/-- A COPY of 600 bytes of DRAM from a to b. -/
def copyAB (a b len : Nat) : List (Nat × Nat × Nat) := [(4, 4, 5), (8, 8, a), (16, 8, b), (24, 4, len)]

theorem wit_DmaDescriptorsStart_copy :
    let d := (up (one 31 0x10 (copyAB 0 4096 600))).side .a
    d.sqTarget 0 < 32 ∧ (d.ch (d.sqTarget 0)).cur = none ∧ d.groupOn 0 = true ∧
    (d.nextStart 0 0x10).any (fun e => copyDescBad e.bytes == none && d.xferCheck up.pkg (descXfer (ringFnNum 0) 0 e) == none) = true := by
  decide +kernel

theorem wit_DmaDescriptorsStart_range :
    let d := (up (one 0 0x11 [(4, 4, 4), (16, 8, 2 ^ 64 - 1), (24, 4, 1)])).side .a
    (d.nextStart 0 0x11).any (fun e => copyDescBad e.bytes == none && (d.xferCheck up.pkg (descXfer (ringFnNum 0) 0 e)).isSome) = true := by
  decide +kernel

theorem wit_DmaDescriptorsStart_bad : copyDescBad (desc 0x10 (copyAB 0 4096 0)) = some 24 ∧
    (((up (one 0 0x10 (copyAB 0 4096 0))).side .a).nextStart 0 0x10).isSome = true := by decide +kernel

theorem wit_DmaDescriptorsStart_flush :
    (((up (one 0 0x12 [(4, 4, 4)])).side .a).nextStart 0 0x12).any (fun e => flushDescBad e.bytes == none &&
      decide ((descXfer (ringFnNum 0) 0 e).dstSpace < 2)) = true ∧
    (((up (one 0 0x12 [(4, 4, 8)])).side .a).nextStart 0 0x12).any (fun e => flushDescBad e.bytes == none &&
      decide (2 ≤ (descXfer (ringFnNum 0) 0 e).dstSpace)) = true := by decide +kernel

/-- Channel 0 runs transfer x of ring 0's first descriptor. -/
def dma0 (x : Xfer → Xfer) (d : Side) : Side :=
  let e : Desc := ⟨0, desc 0x10 [(4, 4, 0x35), (8, 8, 0), (16, 8, 4096), (24, 4, 512)], .running⟩
  (ring 0 0 [e] d).setCur 0 (some (x (descXfer .pf0 0 e)))

theorem wit_DmaTransfersEnd_last :
    (((up (dma0 id)).side .a).ch 0).cur.any (fun x => x.sh == none && decide (x.len < 2 ^ 32) && x.fence == none && x.mayRun up.pkg &&
      !x.isFlush && ((up (dma0 id)).side .a).burstEcc x == none && decide (x.written < x.len) && x.flushAfter &&
      x.written + x.burst x.written == x.len && x.half && !x.halfPosted && decide (x.written < ceilDiv x.len 2) &&
      decide (ceilDiv x.len 2 ≤ x.written + x.burst x.written)) = true ∧ ((up (dma0 id)).side .a).paused 0 = false := by decide +kernel

theorem wit_DmaTransfersEnd_alone (c : Nat) (h : c ≠ 0) : (((up (dma0 id)).side .a).ch c).cur = none := by
  have e : ((up (dma0 id)).side .a).dma = [(0, ((up (dma0 id)).side .a).ch 0)] := by decide +kernel
  unfold Side.ch
  rw [e]
  simp [tget, h]

theorem wit_DmaTransfersEnd_noFlush :
    (((up (dma0 fun x => { x with flushAfter := false })).side .a).ch 0).cur.any (fun x => !x.flushAfter &&
      x.written + x.burst x.written == x.len) = true := by decide +kernel

theorem wit_DmaTransfersEnd_fence :
    (((up (dma0 fun x => { x with written := 512, fence := some 0, dstSpace := 0 }) bme).side .a).ch 0).cur.any (fun x => x.fence == some 0 &&
      x.dstSpace == 0) = true ∧ (up id bme).pkg.pci.bme .pf0 = true ∧
    (((up (dma0 fun x => { x with written := 0, fence := some 4, isFlush := true, dstSpace := 1 })).side .a).ch 0).cur.any (fun x =>
      x.fence == some 4 && x.dstSpace == 1 && x.isFlush) = true := by decide +kernel

theorem wit_DmaTransfersEnd_fails :
    (((up (dma0 fun x => { x with srcSpace := 0 })).side .a).ch 0).cur.any (fun x => x.fence == none && decide (max x.written 511 < x.len) &&
      !x.isFlush && x.pattern == none && x.srcSpace == 0) = true := by decide +kernel

theorem wit_ShadowSets_waits :
    let s := up fun d => d.setCur 31 (some (descXfer .pf0 0 ⟨0, desc 0x10 (copyAB 0 4096 4), .running⟩))
    s.accepts true (0x100054 + 0x1000 * 31 + 0x40 * 1) 0x100 ∧ bit 0x100 8 = true ∧ bit 0x100 9 = false ∧
    (s.side .a).shBusy 31 1 = false ∧ (s.side .a).dmaMode 31 ≠ 1 ∧ ((s.side .a).ch 31).wins = [] ∧ ((s.side .a).ch 31).cur.isSome = true := by
  unfold State.accepts; decide +kernel

/-- Shadow set 0 of channel 0 copies 64 bytes of DRAM. -/
def set0 : Side → Side := regs [(F.DMA_SH_DST_LO_DST 0 0, 4096), (F.DMA_SH_LEN_LEN 0 0, 64)]

theorem wit_ShadowSets_runs : (up set0).accepts true 0x100054 0x105 ∧ ((up set0).side .a).shBusy 0 0 = false ∧ ((up set0).side .a).dmaMode 0 ≠ 1 ∧
    ((up set0).side .a).ch 0 = {} ∧ ((up set0).side .a).groupOn 0 = true ∧
    ((up set0).side .a).xferCheck (up set0).pkg ((((up set0).side .a).setWord 0x100054 (bits 0x105 0 7)).shXfer 0 0) = none := by
  unfold State.accepts; decide +kernel

theorem wit_ShadowSets_disarm :
    let s := up fun d => (dma0 id d).set (F.DMA_SH_STATE_ARMED 0 0) 1
    s.accepts true 0x100054 0x224 ∧ bit 0x224 8 = false ∧ bit 0x224 9 = true ∧ bits 0x224 0 7 = (s.side .a).word 0x100054 ∧
    (s.side .a).flag (F.DMA_SH_STATE_RUNNING 0 0) = false ∧ ((s.side .a).ch 0).cur.isSome = true := by
  unfold State.accepts; decide +kernel

theorem wit_JobsOpenStageAndClose_open :
    let s := up (fun d => one 0x21 0x30 [(24, 4, 0x40000)] (dramHas 0 head0 d))
    ((s.side .a).nextStart 0 0x30).any (fun e => jobOpenBad e.bytes == none &&
      ((s.side .a).jobOpenCheck s.pkg (byteAt e.bytes 4 % 4) e.bytes).toBool) = true := by decide +kernel

theorem wit_JobsOpenStageAndClose_fails :
    let s := up (one 0x21 0x30 [(4, 1, 3), (24, 4, 0x40000)])
    ((s.side .a).nextStart 0 0x30).any (fun e => jobOpenBad e.bytes == none &&
      !((s.side .a).jobOpenCheck s.pkg (byteAt e.bytes 4 % 4) e.bytes).toBool) = true ∧
    (((up (one 0x21 0x30)).side .a).nextStart 0 0x30).any (fun e => jobOpenBad e.bytes == some 24) = true := by decide +kernel

theorem wit_JobsOpenStageAndClose_staged :
    let d := (up (fun d => one 0x21 0x31 [(8, 8, 612)] (open0 d))).side .a
    (d.nextStart 0 0x31).any (fun e => byteAt e.bytes 4 == 0 && rsvCheck e.bytes [(5, 3), (16, 48)] == none && dFld e.bytes 8 8 == 612) = true ∧
    d.slotOpen 0 = true ∧ d.staged 0 ≤ 612 ∧ 612 ≤ (d.job 0).len ∧ 612 ≤ d.consumed 0 + (d.job 0).win ∧
    (d.nextStart 0 0x31).isSome = true ∧ d.slotOpen 3 = false := by decide +kernel

theorem wit_JobsOpenStageAndClose_close :
    let d := (up (fun d => one 0x21 0x32 [] (open0 d))).side .a
    (d.nextStart 0 0x32).any (fun e => byteAt e.bytes 4 == 0 && firstNonZero e.bytes 5 59 == none) = true ∧ d.slotInUse 0 = false ∧
    d.slotOpen 0 = true := by decide +kernel

/-- A request of DRAM to DRAM: opcode, source length and output space. -/
def req (op n m : Nat) : List Byte := desc op [(4, 4, 5), (8, 8, 0), (16, 8, 0x10000), (24, 4, n), (28, 4, m)]

theorem wit_RequestsStartAndFinish_dec :
    let d := (up (ring 0 0x21 [⟨0, req 0x34 16 65536, .fetched⟩])).side .a
    (d.nextStart 0 0x34).any (fun e => !d.ctxRunning (reqCtx e.bytes) && d.decCheck up.pkg e.bytes == none) = true ∧ d.groupOn 1 = true ∧
    d.reqRoom = true ∧ d.feedPick = none ∧ d.freeDec = some 0 := by decide +kernel

theorem wit_RequestsStartAndFinish_decFails :
    let d := (up (ring 0 0x21 [⟨0, req 0x34 15 65536, .fetched⟩])).side .a
    (d.nextStart 0 0x34).any (fun e => !d.ctxRunning (reqCtx e.bytes) && (d.decCheck up.pkg e.bytes).isSome) = true ∧ d.groupOn 1 = true := by
  decide +kernel

/-- DECOMPRESS_CONTINUE of context 15. -/
def cont15 : List Byte := desc 0x35 [(4, 4, 0xF04), (16, 8, 0x10000), (28, 4, 1)]

theorem wit_RequestsStartAndFinish_cont :
    let f := fun d : Side => (ring 0 0x21 [⟨0, cont15, .fetched⟩] d).setCtx 15 (some ⟨.pf0, 1, 0, 16, [], []⟩)
    (((up f).side .a).nextStart 0 0x35).any (fun e => reqCtx e.bytes == 15 && ((up f).side .a).contCheck up.pkg e.bytes == none) = true ∧
    (((up (ring 0 0x21 [⟨0, cont15, .fetched⟩])).side .a).contCheck up.pkg cont15).isSome = true := by decide +kernel

theorem wit_RequestsStartAndFinish_cmp :
    let l := desc 0x38 [(4, 4, 5), (16, 8, 0x10000), (24, 4, 1), (32, 4, 20)]
    let d := (up (ring 0 0x21 [⟨0, l, .fetched⟩])).side .a
    (d.nextStart 0 0x38).any (fun e => d.cmpCheck up.pkg e.bytes == none) = true ∧ d.groupOn 2 = true ∧ d.chunkWaits = false ∧
    d.freeCmp = some 0 ∧ (d.cmpCheck up.pkg (desc 0x38 [])).isSome = true := by decide +kernel

theorem wit_RequestsStartAndFinish_drop :
    let l := desc 0x36 [(4, 4, 0xF00)]
    let f := fun d : Side => (ring 0 0x21 [⟨0, l, .fetched⟩] d).setCtx 15 (some ⟨.pf0, 1, 0, 16, [], []⟩)
    (((up f).side .a).nextStart 0 0x36).isSome = true ∧ ((up f).side .a).ctxRunning (reqCtx l) = false ∧ dFld l 4 4 = 2 ^ 8 * reqCtx l ∧
    firstNonZero l 8 56 = none ∧ (((up f).side .a).ctxOf (reqCtx l)).isSome = true ∧ (up.side .a).ctxOf (reqCtx l) = none := by decide +kernel

/-- Ring 0's request runs on engine 0 of its kind. -/
def runs (l : List Byte) (d : Side) : Side :=
  let d1 := ring 0 0x21 [⟨0, l, .running⟩] d
  if dOpcode l = 0x38 then { d1 with str := { d1.str with cmp := [(0, .req 0 0)] } } else d1.setDec 0 (.req 0 0)

theorem wit_RequestsStartAndFinish_doneCmp :
    let l := desc 0x38 [(4, 4, 5), (16, 8, 0x10000), (24, 4, 1), (32, 4, 20)]
    let d := (up (runs l)).side .a
    (d.sqList 0).find? (fun y => y.slot == 0 && y.st == .running) = some ⟨0, l, .running⟩ ∧ d.reqRuns 0 0 = true ∧
    bits (dFld l 4 4) 0 2 = 1 ∧ bits (dFld l 4 4) 2 2 = 1 ∧ dOpcode l = 0x38 ∧ d.eccIn false (dFld l 8 8) (dFld l 24 4) = none := by
  decide +kernel

theorem wit_RequestsStartAndFinish_doneDec :
    let l := req 0x34 23 3
    let d := (up (fun d => runs l (dramHas 0 (mkBlock 1 [1, 2, 3] 0 [1, 2, 3]) d))).side .a
    let h := memRead d.dram (dFld l 8 8) 16
    let b := memRead d.dram (dFld l 8 8) (hSize h)
    (d.sqList 0).find? (fun y => y.slot == 0 && y.st == .running) = some ⟨0, l, .running⟩ ∧ d.reqRuns 0 0 = true ∧
    bits (dFld l 4 4) 0 2 = 1 ∧ bits (dFld l 4 4) 2 2 = 1 ∧ dOpcode l = 0x34 ∧ d.eccIn false (dFld l 8 8) 16 = none ∧ headerCheck h = none ∧
    hSize h ≤ dFld l 24 4 ∧ hEnc h = false ∧ d.eccIn false (dFld l 8 8) (hSize h) = none ∧ hULen b ≤ dFld l 28 4 ∧
    payloadDecode h ((b.drop 16).take (hCLen h)) = ⟨[1, 2, 3], none⟩ ∧ ([1, 2, 3] : List Byte).length ≤ dFld l 28 4 ∧
    leAt b (16 + hCLen b) 4 = crc32c [1, 2, 3] := by decide +kernel

/-! Witnesses: the plate feed and plates. -/

theorem crcRun_append (a b : List Byte) : ∀ c, crcRun c (a ++ b) = crcRun (crcRun c a) b := by
  induction a with
  | nil => intro c; rfl
  | cons x t ih => intro c; exact ih (crcByte c x)

theorem meta0_crc : crc32c meta0 = 0xcbf26536 := by
  have h1 : crcRun 0xFFFFFFFF meta1 = 0x7a3adcf3 := by decide +kernel
  have h2 : crcRun 0x7a3adcf3 zero128 = 0xcf203df := by decide +kernel
  have h3 : crcRun 0xcf203df zero128 = 0x92098b13 := by decide +kernel
  have h4 : crcRun 0x92098b13 zero128 = 0x340d9ac9 := by decide +kernel
  rw [crc32c, meta0, crcRun_append, crcRun_append, crcRun_append, h1, h2, h3, h4]
  decide +kernel

/-- The metadata block of job slot 0 decodes. -/
theorem meta0_decodes (d : Side) (key : Except Nat Nat) (h1 : d.winEcc (d.job 0) 80 532 = none) (h2 : d.winRead (d.job 0) 80 16 = bhead0)
    (h3 : d.winRead (d.job 0) 96 516 = meta0 ++ leBytes 4 0xcbf26536) (h4 : d.flag (F.STR_JOB_STATE_ENC 0) = false) :
    d.blockDecode 0 0 ⟨80, 532, 2, 0, 0xFF, .waiting⟩ key = .ok meta0 := by
  have a : headerCheck bhead0 = none := by decide +kernel
  have b : hSize bhead0 = 532 := by decide +kernel
  have c : hEnc bhead0 = false := by decide +kernel
  have e : payloadDecode bhead0 ((meta0 ++ leBytes 4 0xcbf26536).take (hCLen bhead0)) = ⟨meta0, none⟩ := by decide +kernel
  have f : leAt (meta0 ++ leBytes 4 0xcbf26536) (hCLen bhead0) 4 = 0xcbf26536 := by decide +kernel
  unfold Side.blockDecode
  simp only [h1, h2, h3, h4, a, b, c]
  simp [e, f, meta0_crc]

/-- Job slot 0 open, and ring 0's next command of the planner. -/
def planner (op : Nat) (l : List (Nat × Nat × Nat)) : State := up fun d => one 0x22 op l (open0 d)

theorem wit_PlatesCommitAbortAndWait_early :
    let d := (planner 0x40 []).side .a
    (d.nextStart 0 0x40).isSome = true ∧ d.groupOn 1 = true ∧ (d.commitEarly (desc 0x40 []) false).toBool = true ∧
    (d.commitEarly (desc 0x40 [(8, 2, 1)]) false).toBool = false ∧ (((planner 0x41 []).side .a).nextStart 0 0x41).isSome = true ∧
    (((planner 0x41 []).side .a).commitEarly (desc 0x41 []) true).toBool = true := by decide +kernel

theorem meta0_passes (p : Pkg) (d : Side) (h1 : d.winEcc (d.job 0) 80 532 = none) (h2 : d.winRead (d.job 0) 80 16 = bhead0)
    (h3 : d.winRead (d.job 0) 96 516 = meta0 ++ leBytes 4 0xcbf26536) (h4 : d.flag (F.STR_JOB_STATE_ENC 0) = false)
    (h5 : ((d.plateIx 0 0).filter fun x => x.kind != 2).map (·.chan) = []) :
    Side.commitMeta p d 0 0 ⟨80, 532, 2, 0, 0xFF, .waiting⟩ = (d.blockCount, .ok meta0) := by
  have m : metaBad meta0 0 [] = none := by decide +kernel
  have e := fun key => meta0_decodes d key h1 h2 h3 h4
  unfold Side.commitMeta
  simp only [e, h5, m]

theorem wit_PlatesCommitAbortAndWait_meta :
    let d := (planner 0x40 []).side .a
    d.winEcc (d.job 0) 80 532 = none ∧ d.winRead (d.job 0) 80 16 = bhead0 ∧ d.winRead (d.job 0) 96 516 = meta0 ++ leBytes 4 0xcbf26536 ∧
    d.flag (F.STR_JOB_STATE_ENC 0) = false ∧ ((d.plateIx 0 0).filter fun x => x.kind != 2).map (·.chan) = [] := by decide +kernel

theorem wit_PlatesCommitAbortAndWait_gate :
    let d := ((planner 0x40 []).side .a).blockCount
    d.plateCheck up.pkg meta0 = none ∧ (d.gateCommit ⟨0, 0, 0, 0, meta0⟩).1 = 0 ∧ d.freeRec = some 0 := by decide +kernel

theorem wit_PlatesCommitAbortAndWait_gateFails :
    let d := ((planner 0x40 []).side .a).set F.THM_STATUS_THROTTLE 1
    (d.blockCount.gateCommit ⟨0, 0, 0, 0, meta0⟩).1 ≠ 0 ∧ d.blockCount.plateCheck up.pkg meta0 = none := by decide +kernel

theorem wit_PlatesCommitAbortAndWait_bad : recFieldBad (desc 0x42 [(4, 1, 4)]) = some 4 ∧ recFieldBad (desc 0x43 [(63, 1, 1)]) = some 63 ∧
    (((up (one 0x22 0x42 [(4, 1, 4)])).side .a).nextStart 0 0x42).isSome = true ∧
    (((up (one 0x22 0x43 [(63, 1, 1)])).side .a).nextStart 0 0x43).isSome = true := by decide +kernel

/-- Record 3 in state k, and ring 0's next command names it. -/
def rec3 (op k : Nat) : Side := (up fun d => regs [(F.PLN_PLATE_STATE_STATE 3, k)] (one 0x22 op [(4, 1, 3)] d)).side .a

theorem wit_PlatesCommitAbortAndWait_abort : recFieldBad (desc 0x42 [(4, 1, 3)]) = none ∧ byteAt (desc 0x42 [(4, 1, 3)]) 4 = 3 ∧
    ((rec3 0x42 1).nextStart 0 0x42).isSome = true ∧ (rec3 0x42 1).recPending 3 = true ∧ (rec3 0x42 3).recRunning 3 = true ∧
    (rec3 0x42 0).recState 3 = 0 ∧ (rec3 0x42 6).recState 3 = 6 := by decide +kernel

theorem wit_PlatesCommitAbortAndWait_wait : recFieldBad (desc 0x43 [(4, 1, 3)]) = none ∧ ((rec3 0x43 5).nextStart 0 0x43).isSome = true ∧
    (rec3 0x43 0).recState 3 = 0 ∧ (rec3 0x43 5).recState 3 = 5 ∧ (rec3 0x43 6).recState 3 = 6 ∧ (rec3 0x43 1).recState 3 = 1 ∧
    (rec3 0x43 4).recState 3 = 4 := by decide +kernel

/-- Record 0 COMMITTED over job slot 0, whose second block, of channel 0, is staged: 32 bytes of 0 in a MODE 1 block. -/
def feed0 (f : Side → Side) : State :=
  up fun d => f (((dramHas 624 (mkBlock 1 (List.replicate 32 0) 0 (List.replicate 32 0)) (regs [(F.PLN_PLATE_STATE_STATE 0, 1), (F.STR_JOB_STATE_STATE 0, 1)] d)).setJob 0
    { base := 0, win := 0x40000, len := 676, ents := [⟨80, 532, 2, 0, 0xFF, .consumed⟩, ⟨624, 52, 1, 0, 0, .waiting⟩] }).set64
      (F.STR_JOB_STAGED_LO_STAGED 0) (F.STR_JOB_STAGED_HI_STAGED 0) 676)

theorem wit_PlateFeedBlocks_assign :
    let d := (feed0 fun d => { d with str := { d.str with allot := [(0, 65536)], allotTo := [(0, 65536)] } }).side .a
    d.groupOn 1 = true ∧ d.freeDec = some 0 ∧ d.feedPick = some (0, 1, ⟨624, 52, 1, 0, 0, .waiting⟩) ∧
    d.flag (F.STR_JOB_STATE_ENC (d.recSlot 0)) = false ∧ hEnc (d.winRead (d.job (d.recSlot 0)) 624 16) = false ∧
    (d.set (F.STR_JOB_STATE_ENC 0) 1).flag (F.STR_JOB_STATE_ENC 0) = true ∧ (d.jobKey (d.jobId 0)).toBool = false ∧
    ((d.set (F.STR_JOB_STATE_ENC 0) 1).feedPick).isSome = true := by decide +kernel

theorem wit_PlateFeedBlocks_decoded :
    let d := (feed0 fun d => d.setDec 7 (.feed 0 1 0 0)).side .a
    d.decWork 7 = .feed 0 1 0 0 ∧ (d.blockDecode 0 1 ((d.job 0).ents.getD 1 default) (.ok 0)).toBool = true := by decide +kernel

theorem wit_PlateFeedBlocks_fails :
    let d := (feed0 fun d => ({ d with dram := [] }).setDec 0 (.feed 0 1 0 0)).side .a
    d.decWork 0 = .feed 0 1 0 0 ∧ (d.blockDecode 0 1 ((d.job 0).ents.getD 1 default) (.ok 0)).toBool = false := by decide +kernel

theorem wit_PlatesEndAndLedger_plates : (rec3 0x43 3).recState 3 = 3 ∧ (rec3 0x43 3).chansIn 3 ((rec3 0x43 3).recd 3).taken = true ∧
    (rec3 0x43 4).recState 3 = 4 ∧ (rec3 0x43 1).recState 3 ≠ 3 := by decide +kernel

theorem wit_PlatesEndAndLedger_ingest : reached ((up.side .a).dev (up.pkg.advance 0)) (up.side .a).pln.ingestAt = true ∨
    reached ((up.side .a).dev (up.pkg.advance 0)) (up.side .a).pln.ingestAt = false := by decide +kernel

theorem wit_PlatesEndAndLedger_ingestLater : reached ((up.side .a).dev (up.pkg.advance 2000000)) (up.side .a).pln.ingestAt = true := by
  decide +kernel

theorem wit_PlatesEndAndLedger_jar : up.accepts true (F.PLN_JAR_CFG_EN 31).off 11 ∧ (up.side .a).plateWindow = true ∧ bits 11 1 3 ≤ 5 ∧
    (up.side .a).get (F.PLN_JAR_CFG_EN 31) = 0 ∧ bits 11 0 1 = 1 ∧ (rec3 0x43 1).plateWindow = false := by
  unfold State.accepts; decide +kernel

/-! Witnesses: BeamLink ports. -/

/-- Port n of the hold die is x. -/
def port (n : Nat) (x : Port) (f : Side → Side := id) : State := up f (holdAs fun h => h.setPort n x)

/-- A TRAIN block with TSTATE v. -/
def train (v : Nat) : DWord := BitVec.ofNat 64 (0x2D + 256 * v + 2 ^ 16 + 2 ^ 24)

theorem wit_PortsTrainAndDrop_training : 15 < up.pkg.beams ∧ (({ st := 1 } : Port)).training = true ∧
    trainState (train 1) = some (some 1) ∧ trainState (train 2) = some (some 2) ∧ trainState (train 0) = some (some 0) ∧
    trainState 0x2D = some none ∧ trainState 0 = none ∧
    ((port 15 { st := 2, tx := 1, trains := 15 }).pkg.hold.port 15) = { st := 2, tx := 1, trains := 15 } ∧
    ({ st := 2, lock0 := true, lock1 := true, agree := 1 } : Port).training = true ∧ ({ st := 3 } : Port).up = true ∧
    (65535, 65535).1 % 2 ^ 16 = (65535, 65535).2 % 2 ^ 16 ∧ (0, 65535).1 % 2 ^ 16 ≠ (0, 65535).2 % 2 ^ 16 := by decide +kernel

theorem wit_PortsTrainAndDrop_retrain : (port 15 { st := 3 }).accepts true (0x400008 + 0x1000 * 15) 1 ∧ (port 15 { st := 3 }).pkg.hold.deep = false ∧
    (port 15 { st := 3 }).actSide.plateWindow = true ∧ (port 15 {} (regs [(F.PLN_PLATE_STATE_STATE 3, 1)])).actSide.plateWindow = false := by
  unfold State.accepts; decide +kernel

theorem wit_BlankAndAlignBlocks_blank : (port 15 { st := 3 }).accepts true (0x400008 + 0x1000 * 15) 4 ∧ (port 15 { st := 3 }).pkg.hold.deep = false ∧
    ((port 15 { st := 3, cause3 := true }).pkg.hold.causes 15).isEmpty = false := by
  unfold State.accepts; decide +kernel

/-- A slot kept for ALIGN has begun by 100 ms, whatever the phase of the port's slots. -/
theorem wit_BlankAndAlignBlocks_align (n : Nat) :
    0 < (slotsBefore n ((port 15 { st := 3 }).pkg.advance 100000000).now - 1) / alignPeriod * alignPeriod := by
  have a : ((port 15 { st := 3 }).pkg.advance 100000000).now = 100000000 := by decide +kernel
  have h : 16384 ≤ slotsBefore n 100000000 - 1 := by unfold slotsBefore; omega
  rw [a]
  have : 1 ≤ (slotsBefore n 100000000 - 1) / alignPeriod :=
    (Nat.le_div_iff_mul_le (by decide)).mpr (by rw [show alignPeriod = 16384 from rfl]; omega)
  exact Nat.mul_pos this (by decide)

theorem wit_FramesLeaveAPort_set : ((port 15 { st := 4, pend := [(0x100, 1)] }).advance 0).sends = true ∧
    ((port 15 { st := 4, pend := [(0x100, 1)] }).pkg.hold.port 15).st = 4 ∧
    ((port 15 { st := 4, pend := [(0x100, 1)] }).pkg.hold.port 15).pend ≠ [] := by decide +kernel

theorem wit_FramesLeaveAPort_release :
    let s := (port 15 { st := 4, stage := [⟨0, 1000, [], 0⟩] }).advance 0
    (takeIn (s.entryDue 15) [] [⟨0, 1000, [], 0⟩]).1 = [⟨0, 1000, [], 0⟩] ∧ reached s.dev (s.emission 15 1000) = true ∧ dotLate s.dev 1000 = false ∧
    reached s.dev (s.emission 15 1000000) = false := by decide +kernel

theorem wit_FramesLeaveAPort_late : dotLate (port 15 {}).dev 680 = true ∧ (port 15 {}).pkg.now = 0 := by decide +kernel

/-- At raw time 0 no slot has begun, so a port is as it is held. -/
theorem runPort_start (s : State) (n : Nat) (h : s.pkg.now = 0) : (s.runPort n).pkg.hold.port n = s.pkg.hold.port n := by
  have h0 : slotsBefore n 0 = 0 := by unfold slotsBefore; omega
  have hr : ∀ (k o w) (x : Port), Port.run o w 0 k x = x := by intro k o w x; cases k <;> simp [Port.run]
  unfold State.runPort State.updPort State.setHold Hold.setPort Hold.port
  simp [h, h0, hr, tget_tset_self]

theorem wit_CtrlCommandsAndAnswers_go :
    let s := port 15 { st := 3 } (regs [(F.BLK_CTRL_OP_OP 15, 0x80)])
    s.accepts true (0x400008 + 0x1000 * 15) 8 ∧ s.pkg.hold.deep = false ∧ 0x80 ≤ s.actSide.get (F.BLK_CTRL_OP_OP 15) ∧
    ({ st := 3 } : Port).hostBusy = false ∧ (port 15 {}).actSide.get (F.BLK_CTRL_OP_OP 15) < 0x80 := by
  unfold State.accepts; decide +kernel

theorem wit_CtrlCommandsAndAnswers_echo :
    let s := port 15 { st := 4 }
    s.accepts true (0x400008 + 0x1000 * 15) 2 ∧ s.pkg.hold.deep = false ∧ s.actSide.plateWindow = true ∧ (s.pkg.hold.port 15).up = true := by
  unfold State.accepts; decide +kernel

theorem advance_hold (s : State) (t : Nat) : (s.advance t).pkg.hold = s.pkg.hold := by
  unfold State.advance Pkg.advance
  dsimp only
  split <;> rfl

/-- A port that waits for the ACK of command c, 20 µs after it was sent. -/
def waits (op : Nat) (host : Bool) : Port := { st := 3, ctrl := [⟨0, op, 0, 2 ^ 64 - 20000, 0, host⟩], echoLeft := 15 }

theorem wit_CtrlCommandsAndAnswers_ack (op : Nat) (host : Bool) :
    (((port 15 (waits op host)).advance 0).runPort 15).pkg.hold.port 15 = waits op host ∧
    (waits op host).ctrl.find? (fun c => c.ctag == 65536 % 2 ^ 16) = some ⟨0, op, 0, 2 ^ 64 - 20000, 0, host⟩ ∧
    (waits op host).ctrl.find? (fun c => c.ctag == 65535 % 2 ^ 16) = none ∧ 0 < (waits op host).echoLeft := by
  refine ⟨?_, rfl, rfl, by simp [waits]⟩
  rw [runPort_start _ _ (by simp [port, up, holdAs, State.advance, Pkg.advance, Pkg.now, reached, tdiff, State.reset, toSigned])]
  rw [advance_hold]
  exact tget_tset_self _ _ _ _

theorem wit_CtrlCommandsAndAnswers_noack : reached ((port 15 (waits 0x80 true)).advance 0).dev (2 ^ 64 - 20000 + 20000) = true ∧
    reached ((port 15 (waits 0x80 true)).advance 0).dev (0 + 20000) = false := by decide +kernel

theorem wit_UpstreamFrames_stat :
    let s := port 15 { st := 3 }
    (s.pkg.hold.port 15).up = true ∧ (s.pkg.hold.port 15).silent = false ∧
    reached (s.advance 2000000000).dev ((s.pkg.hold.port 15).statAt + 40000 * (s.advance 2000000000).actSide.get (F.BLK_CFG_STAT_10US 15)) = true := by
  decide +kernel

theorem wit_UpstreamFrames_enc :
    let s := up id (holdAs fun h => (h.setPort 15 { st := 3 }).set (F.HLD_DWELL_CFG_EN 15) 1)
    s.pkg.hold.flag (F.HLD_DWELL_CFG_EN 15) = true ∧ moved (0x10000, 0) (0, 0) (s.pkg.hold.get (F.HLD_DWELL_CFG_MOVE 15)) = true := by
  decide +kernel

theorem wit_UpstreamFrames_error : upErrored (([] : List (Nat × DWord)).map blkOf) = true := by decide +kernel

theorem wit_PlatesEndAndLedger_done : (rec3 0x43 4).outputLeft up.runPorts.pkg 3 = true := by
  have h : mChans ((rec3 0x43 4).mdat 3) = [] := by decide +kernel
  unfold Side.outputLeft
  rw [h]
  rfl

/-! Witnesses: sweeps, vectors, tables from the host, telemetry, the melt pool, the arbiter. -/

/-- Raster channel 15 is v. -/
def sweep (v : Ras) (l : List (Fld × Nat) := []) : State := up fun d => (regs l d).setRas 15 v

theorem wit_SweepsAreTracked_window :
    let d := (sweep { held := true }).side .a
    d.groupOn 4 = true ∧ d.rasOpen 15 ≤ d.rasLift 15 (d.stamp64 (up.pkg.advance 19500) 0) ∧
    d.rasLift 15 (d.stamp64 (up.pkg.advance 20500) 0) ≤ d.rasClose 15 ∧
    d.rasLift 15 (d.stamp64 (up.pkg.advance 19499) 63) < d.rasOpen 15 ∧ d.rasClose 15 < d.rasLift 15 (d.stamp64 (up.pkg.advance 20500) 1) := by
  decide +kernel

theorem wit_SweepsAreTracked_locks :
    let d := (sweep { held := true, known := true, acc := 1 }).side .a
    (d.rasCh 15).known = true ∧ 2 * d.rasF 15 ≤ (d.rasCh 15).acc + 1 ∧ (d.rasCh 15).index = false ∧
    d.get (F.RAS_CFG_FACET_SRC 15) = 0 ∧ (d.rasCh 15).eosSeen = false ∧ (up.side .a).rasCh 15 = {} ∧
    ((sweep { held := true } [(F.RAS_CFG_FACET_SRC 15, 1)]).side .a).get (F.RAS_CFG_FACET_SRC 15) = 1 := by decide +kernel

theorem wit_SweepsAreTracked_missed :
    let f := fun k => (sweep { held := true } [(F.RAS_STATUS_LOCK 15, 1), (F.RAS_STATUS_MISSES 15, k)]).side .a
    (f 1).rasClose 15 ≤ (f 1).rasLift 15 ((f 1).stamp64 (up.pkg.advance 20500) 0) ∧ (f 1).rasLocked 15 = true ∧
    (f 1).get (F.RAS_STATUS_MISSES 15) < 2 ∧ 2 ≤ (f 2).get (F.RAS_STATUS_MISSES 15) ∧
    ((sweep { held := true }).side .a).rasLocked 15 = false ∧
    (f 1).rasLift 15 ((f 1).stamp64 (up.pkg.advance 20499) 0) < (f 1).rasClose 15 := by decide +kernel

theorem wit_SweepsAreTracked_commands : up.accepts true (0x500008 + 0x10000 * 15) 1 ∧ up.accepts true (0x500008 + 0x10000 * 15) 2 ∧
    (up.side .a).plateWindow = true ∧ (up.side .a).stale 4 = false ∧ (rec3 0 3).plateWindow = false ∧
    ((up (regs [(F.THM_PWR_STALE_GROUP, 255)])).side .a).stale 4 = true := by unfold State.accepts; decide +kernel

theorem wit_StripesAreBuilt :
    let d := (sweep { held := true } [(F.RAS_STATUS_LOCK 15, 1)]).side .a
    let e := (sweep { held := true, next := 10 } [(F.RAS_STATUS_LOCK 15, 1)]).side .a
    d.rasLocked 15 = true ∧ (d.nextBuild 15).2.2 ≤ d.rasLift 15 (d.stamp64 (up.pkg.advance 0) 63) ∧
    e.rasLift 15 (e.stamp64 (up.pkg.advance 0) 63) < (e.nextBuild 15).2.2 := by decide +kernel

/-- Channel 15 runs the vector plate of record 0, which is STARTED, its stream holding words l; v: the channel. -/
def vecs (v : Veh) (l : List Byte) (f : List (Fld × Nat) := []) : State :=
  up fun d => { (regs ([(F.PLN_PLATE_STATE_STATE 0, 3), (F.VEC_STATUS_STATE 15, 1)] ++ f) d) with
    veh := [(15, { v with pl := some 0 })], str := { bufs := [(15, [⟨0, 0, l.length, some l⟩])] },
    pln := { recs := [(0, { mdat := patch (List.replicate 512 0) [(6, 1, 1)] })] } }

/-- A word: VID 1, type and MIG bit, end point (x, 0, 0), speed, candidates. -/
def word (ty x speed cand : Nat) : List Byte := patch (List.replicate 32 0) [(0, 4, 1), (4, 1, ty), (8, 4, x), (20, 2, speed), (24, 2, cand)]

theorem wit_VectorsRun_entry :
    let d := (vecs { prevOk := true } (word 1 1000 100 0)).side .a
    d.groupOn 5 = true ∧ d.recRunning 0 = true ∧ d.laFill 15 < 32 ∧ d.nextWord 0 15 = some (word 1 1000 100 0) ∧
    d.wordWaits up.pkg 15 (word 1 1000 100 0) = false ∧ (d.vehCh 15).prev = none ∧
    d.wordReason up.pkg 15 15 (d.vehCh 15).prevOk (d.vecTail 15) (word 1 1000 100 0) = none ∧ d.vecState 15 = 1 := by decide +kernel

theorem wit_VectorsRun_wordFails :
    let d := (vecs {} (word 1 1000 20001 0)).side .a
    d.nextWord 0 15 = some (word 1 1000 20001 0) ∧ d.wordWaits up.pkg 15 (word 1 1000 20001 0) = false ∧
    d.wordReason up.pkg 15 15 (d.vehCh 15).prevOk (d.vecTail 15) (word 1 1000 20001 0) = some 2 := by decide +kernel

/-- A JUMP of length 0. -/
def jump0 : Vec := ⟨7, false, 0, 0, 0, 0, 15, true, (0, 0, 0), (0, 0, 0), (0, 0, 0), (0, 0, 0), 0, 0, 0, 0, 0⟩

theorem wit_VectorsRun_full : 32 ≤ ((vecs { q := List.replicate 32 jump0 } []).side .a).laFill 15 := by decide +kernel

theorem wit_VectorsRun_begin :
    let d := (vecs { q := [jump0] } []).side .a
    (d.vehCh 15).q = [jump0] ∧ (d.vehCh 15).begun = none ∧ (d.vehCh 15).ready ≤ d.vnow 15 (d.dev (up.pkg.advance 0)) ∧ d.vecState 15 ≠ 3 ∧
    d.recState 0 = 3 ∧ d.recWhole 0 15 = true ∧ d.laFill 15 + (d.vehCh 15).inbox.length + d.recFill 0 15 / 32 < 32 := by decide +kernel

theorem wit_VectorsRun_late :
    let d := (up fun _ => { (vecs { q := [jump0] } []).side .a with str := { bufs := [(15, [⟨0, 0, 32, none⟩])] } }).side .a
    d.recWhole 0 15 = false ∧ d.laFill 15 + (d.vehCh 15).inbox.length + d.recFill 0 15 / 32 < 32 := by decide +kernel

theorem wit_VectorsRun_end :
    let d := (vecs { q := [jump0], begun := some 0 } []).side .a
    (d.vehCh 15).begun = some 0 ∧ (0 : Rat) + (d.vecProf 15 jump0).time ≤ d.vnow 15 (d.dev (up.pkg.advance 0)) ∧
    ((d.vnow 15 (d.dev (up.pkg.advance 0)) : Int) : Rat) < (1 : Rat) + (d.vecProf 15 jump0).time := by decide +kernel

/-- Ring 0's next command, opcode op of target t, with Bus Master Enable. -/
def cmd (t op : Nat) (l : List (Nat × Nat × Nat) := []) (g : Pkg → Pkg := id) (f : Side → Side := id) : State :=
  up (fun d => one t op l (f d)) fun p => g (bme p)

theorem wit_GridsLoad_bad : gridLoadBad (desc 0x74 [(4, 1, 16)]) = some 4 ∧
    (((cmd 0x20 0x74 [(4, 1, 16)]).side .a).nextHost (cmd 0x20 0x74 [(4, 1, 16)]).pkg 0 0x74).isSome = true ∧
    gridLoadBad (desc 0x74 []) = none ∧ (((cmd 0x20 0x74).side .a).nextHost (cmd 0x20 0x74).pkg 0 0x74).isSome = true ∧
    ((cmd 0x20 0x74).side .a).plateWindow = true ∧ byteAt (desc 0x74 []) 4 % 16 < (cmd 0x20 0x74).pkg.beams := by decide +kernel

/-- A descriptor whose bytes 16 to 19 are a CRC. -/
def crcDesc (op v : Nat) : List Byte := leBytes 4 (1 + 256 * op) ++ (List.replicate 12 0 ++ (leBytes 4 v ++ List.replicate 44 0))

theorem crcDesc_field (op v : Nat) : dFld (crcDesc op v) 16 4 = v % 2 ^ 32 := by
  simp [crcDesc, dFld, leAt, leBytes, leNat, List.take, List.drop, List.replicate]
  omega

theorem crcDesc_start (op v : Nat) : dOpcode (crcDesc op v) = op % 256 ∧ dFence (crcDesc op v) = false := by
  constructor
  · simp [crcDesc, dOpcode, byteAt, leBytes]
    omega
  · simp [crcDesc, dFence, dFld, leAt, leBytes, leNat, bit, List.take, List.drop]
    omega

theorem firstNonZero_none (l : List Byte) (o n : Nat) (h : ∀ k, k < n → byteAt l (o + k) = 0) : firstNonZero l o n = none := by
  simp only [firstNonZero, List.findSome?_eq_none_iff, List.mem_range]
  intro k hk
  simp [h k hk]

theorem crcDesc_zero (op v : Nat) : byteAt (crcDesc op v) 4 = 0 ∧ dFld (crcDesc op v) 8 8 = 0 ∧ firstNonZero (crcDesc op v) 5 3 = none ∧
    firstNonZero (crcDesc op v) 20 44 = none := by
  refine ⟨by simp [crcDesc, byteAt, leBytes, List.replicate],
    by simp [crcDesc, dFld, leAt, leBytes, leNat, List.replicate, List.take, List.drop], firstNonZero_none _ _ _ ?_, firstNonZero_none _ _ _ ?_⟩ <;>
  intro k hk <;> interval_cases k <;> simp [crcDesc, byteAt, leBytes, List.replicate]

theorem crcRun_lt (l : List Byte) : ∀ c, c < 2 ^ 32 → crcRun c l < 2 ^ 32 := by
  have bit : ∀ c, c < 2 ^ 32 → crcBit c < 2 ^ 32 := by
    intro c h
    unfold crcBit
    split
    · exact Nat.xor_lt_two_pow (by omega) (by norm_num)
    · omega
  induction l with
  | nil => intro c h; exact h
  | cons x t ih =>
    intro c h
    refine ih _ ?_
    unfold crcByte
    exact bit _ (bit _ (bit _ (bit _ (bit _ (bit _ (bit _ (bit _ (Nat.xor_lt_two_pow h (by have := x.isLt; omega)))))))))

theorem crc32c_lt (l : List Byte) : crc32c l < 2 ^ 32 := Nat.xor_lt_two_pow (crcRun_lt l _ (by norm_num)) (by norm_num)

theorem memRead_nil (a n : Nat) : memRead [] a n = List.replicate n 0#8 := by
  induction n generalizing a with
  | zero => rfl
  | succ n ih =>
    rw [memRead, ih, List.replicate_succ]
    rfl

theorem gridBad_zero (n m : Nat) : gridBad n (List.replicate m 0#8) = false := by
  induction n generalizing m with
  | zero => rfl
  | succ n ih =>
    have h : ∀ k, byteAt (List.replicate m 0#8) k = 0 := by
      intro k
      simp [byteAt, List.getD_eq_getElem?_getD, List.getElem?_replicate]
      split <;> simp
    unfold gridBad
    rw [h, h, List.drop_replicate, ih]
    rfl

/-- A grid of zeros with its CRC is taken. -/
theorem wit_GridsLoad_taken :
    let v := crc32c (memRead [] 0 133128)
    dFld (crcDesc 0x74 v) 16 4 = v ∧ gridBad 16641 (memRead [] 0 133128) = false ∧ crc32c (memRead [] 0 133128) ≠ (v + 1) % 2 ^ 32 := by
  refine ⟨?_, ?_, ?_⟩
  · rw [crcDesc_field, Nat.mod_eq_of_lt (crc32c_lt _)]
  · rw [memRead_nil, gridBad_zero]
  · have := crc32c_lt (memRead [] 0 133128); omega

/-- What ring 0 of target 0x20 has fetched is its next command. -/
theorem next_one (op : Nat) (e : Desc) (h1 : e.st = .fetched) (h2 : dOpcode e.bytes = op) (h3 : dFence e.bytes = false) (h4 : op ≠ 1) :
    ((up (ring 0 0x20 [e]) bme).side .a).nextHost (up (ring 0 0x20 [e]) bme).pkg 0 op = some e := by
  have a : ((up (ring 0 0x20 [e]) bme).side .a).sqState 0 = 1 := by
    show ((up (ring 0 0x20 [])).side .a).sqState 0 = 1
    decide +kernel
  have b : ((up (ring 0 0x20 [e]) bme).side .a).sqList 0 = [e] := rfl
  have c : (up (ring 0 0x20 [e]) bme).pkg.pci.bme (ringFnNum 0) = true := rfl
  unfold Side.nextHost Side.nextStart
  rw [a, b, c]
  simp [h1, h2, h3, h4]

theorem wit_GridsLoad_next (v : Nat) : gridLoadBad (crcDesc 0x74 v) = none ∧
    ((up (ring 0 0x20 [⟨0, crcDesc 0x74 v, .fetched⟩]) bme).side .a).nextHost (up (ring 0 0x20 [⟨0, crcDesc 0x74 v, .fetched⟩]) bme).pkg 0 0x74 =
      some ⟨0, crcDesc 0x74 v, .fetched⟩ :=
  ⟨by simp [gridLoadBad, crcDesc_zero], next_one 0x74 _ rfl (crcDesc_start 0x74 v).1 (crcDesc_start 0x74 v).2 (by decide)⟩

theorem wit_StepperTablesLoad : stpLoadBad (desc 0x7A [(4, 1, 8)]) = some 4 ∧ stpLoadBad (desc 0x7A [(4, 1, 7)]) = none ∧
    (((cmd 0x20 0x7A [(4, 1, 7)]).side .a).nextHost (cmd 0x20 0x7A [(4, 1, 7)]).pkg 0 0x7A).isSome = true ∧
    bits (byteAt (desc 0x7A [(4, 1, 7)]) 4) 0 3 < up.pkg.stps ∧ (up.side .a).unitAxis 23 = none ∧
    ({ up.pkg with fuses := { up.pkg.fuses with is7708 := true } } : Pkg).stps ≤ 7 ∧
    ((up (regs [(F.MOT_CFG_UTYPE 0, 2), (F.MOT_CFG_UNIT 0, 7), (F.MOT_STATUS_STATE 0, 1)])).side .a).unitAxis 23 = some 0 ∧
    ((up (regs [(F.MOT_CFG_UTYPE 0, 2), (F.MOT_CFG_UNIT 0, 7), (F.MOT_STATUS_STATE 0, 1)])).side .a).motState 0 ≠ 0 := by decide +kernel

theorem wit_StepperTablesLoad_taken (v : Nat) : dFld (crcDesc 0x7A (crc32c (memRead [] 0 4096))) 16 4 = crc32c (memRead [] 0 4096) ∧
    stpLoadBad (crcDesc 0x7A v) = none ∧
    ((up (ring 0 0x20 [⟨0, crcDesc 0x7A v, .fetched⟩]) bme).side .a).nextHost (up (ring 0 0x20 [⟨0, crcDesc 0x7A v, .fetched⟩]) bme).pkg 0 0x7A =
      some ⟨0, crcDesc 0x7A v, .fetched⟩ := by
  refine ⟨?_, by simp [stpLoadBad, crcDesc_zero, bits], next_one 0x7A _ rfl (crcDesc_start 0x7A v).1 (crcDesc_start 0x7A v).2 (by decide)⟩
  rw [crcDesc_field, Nat.mod_eq_of_lt (crc32c_lt _)]

/-- A side with telemetry chunk y alone. -/
def chunk (y : Chunk) (f : Side → Side := id) : Side := (up fun d => f { d with mpl := { chunks := [y] } }).side .a

theorem wit_TelemetryChunks_timeout :
    (chunk ⟨7, false, 0, 0, [], false, none⟩).mpl.chunks[0]? = some ⟨7, false, 0, 0, [], false, none⟩ ∧
    reached ((up.side .a).dev (up.pkg.advance 10000000)) (0 + 10000000) = true ∧
    reached ((up.side .a).dev (up.pkg.advance 9999999)) (0 + 10000000) = false := by decide +kernel

theorem wit_TelemetryChunks_encode :
    (chunk ⟨7, false, 0, 0, [], true, none⟩).mpl.chunks.findIdx? (fun y => y.closed && y.block.isNone) = some 0 ∧
    (chunk ⟨7, false, 0, 0, [], true, none⟩).groupOn 2 = true ∧ (chunk ⟨7, false, 0, 0, [], true, none⟩).cmpWork 1 = .idle ∧
    (chunk ⟨7, true, 0, 0, [], true, none⟩).telKey 7 = none ∧
    ((chunk ⟨7, true, 0, 0, [], true, none⟩ fun d => (regs [(F.SEC_KEY_STATE_PRESENT 0, 1), (F.SEC_KEY_STATE_TELEM 0, 1), (F.SEC_KEY_ID_LO_JOB_ID 0, 7)] d)).telKey 7).isSome
      = true ∧ tget 0x80000000 (chunk ⟨7, true, 0, 0, [], true, none⟩).mpl.ivs 7 ≤ 0xFFFFFFFF ∧
    0xFFFFFFFF < tget 0x80000000 ({ ivs := [(7, 2 ^ 32)] } : Mpl).ivs 7 := by decide +kernel

theorem wit_TelemetryChunks_write :
    let d := chunk ⟨7, false, 0, 0, [], true, some [1]⟩ (regs [(F.MPL_TEL_SIZE_SIZE, 4096)])
    d.mpl.chunks.findIdx? (fun y => y.block.isSome) = some 0 ∧ d.get F.MPL_TEL_SIZE_SIZE ≠ 0 ∧
    d.get64 F.MPL_TEL_WR_LO_COUNT F.MPL_TEL_WR_HI_COUNT + 16 - d.get64 F.MPL_TEL_RD_LO_COUNT F.MPL_TEL_RD_HI_COUNT ≤ d.get F.MPL_TEL_SIZE_SIZE ∧
    (chunk ⟨7, false, 0, 0, [], true, some [1]⟩).get F.MPL_TEL_SIZE_SIZE = 0 := by decide +kernel

theorem wit_TelemetryChunks_rd :
    let s := up (regs [(F.MPL_TEL_WR_LO_COUNT, 16)])
    s.accepts true 0x880038 16 ∧ s.accepts true 0x88003C 0 ∧ 16 ≤ (s.side .a).get64 F.MPL_TEL_WR_LO_COUNT F.MPL_TEL_WR_HI_COUNT ∧
    (s.side .a).get64 F.MPL_TEL_WR_LO_COUNT F.MPL_TEL_WR_HI_COUNT < 17 ∧ (s.side .a).get64 F.MPL_TEL_RD_LO_COUNT F.MPL_TEL_RD_HI_COUNT = 0 := by
  unfold State.accepts; decide +kernel

/-- Melt-pool port 15 enabled, its channel x. -/
def melt (x : MpCh) : Side := (up fun d => (regs [(F.MPL_CH_CFG_EN 15, 1)] d).setMp 15 x).side .a

theorem wit_MeltPortAndHeatMap_edge : (melt { convI := 0 }).groupOn 7 = true ∧ (melt { convI := 0 }).get (F.MPL_CH_CFG_EN 15) = 1 ∧
    ((melt { convI := 0 }).mpCh 15).convI < (melt { convI := 0 }).mpQ 15 ∧ (melt {}).mpQ 15 ≤ ((melt {}).mpCh 15).convI ∧
    ((((melt { convI := 4 }).mpCh 15).convI * (melt { convI := 4 }).fineNs : Nat) : Int) ≤
      tdiff ((melt { convI := 4 }).dev (up.pkg.advance 400)) 0 * (melt { convI := 4 }).mpQ 15 ∧
    tdiff ((melt { convI := 4 }).dev (up.pkg.advance 399)) 0 * (melt { convI := 4 }).mpQ 15 <
      ((((melt { convI := 4 }).mpCh 15).convI * (melt { convI := 4 }).fineNs : Nat) : Int) := by decide +kernel

theorem wit_MeltPortAndHeatMap_word : ((melt { convs := [⟨0, 0, none⟩] }).mpCh 15).convs = [⟨0, 0, none⟩] ∧
    ((melt { convs := [⟨0, 0, some (1, 2, 3, true)⟩] }).mpCh 15).convs = [⟨0, 0, some (1, 2, 3, true)⟩] := by decide +kernel

theorem wit_MeltPortAndHeatMap_clear : up.accepts true 0x880014 1 ∧ (up.side .a).plateWindow = true ∧ (up.side .a).stale 7 = false ∧
    (rec3 0 3).plateWindow = false := by unfold State.accepts; decide +kernel

/-- Channel 0's next word waits for the arbiter; z: zone 0 is set up. -/
def arb (z : List (Fld × Nat)) : Side :=
  (up fun d => { (regs ([(F.PLN_PLATE_STATE_STATE 0, 3), (F.VEC_STATUS_STATE 0, 1), (F.STI_CFG_EN, 1)] ++ z) d) with
    veh := [(0, { pl := some 0, prevOk := true })], str := { bufs := [(0, [⟨0, 0, 32, some (word 5 1000 100 1)⟩])] },
    pln := { recs := [(0, { mdat := patch (List.replicate 512 0) [(6, 1, 1)] })] } }).side .a

theorem wit_ArbiterDecides_due : (arb []).groupOn 6 = true ∧ ((up.side .a).logFull up.pkg).arbDue up.pkg = none ∧
    (((arb []).logFull up.pkg).arbDue up.pkg).any (fun u => ((arb []).logFull up.pkg).zoneOf u.c u.b0 (wEnd u.w) == none) = true := by decide +kernel

theorem wit_ArbiterDecides_zone :
    let D := (arb [(F.STI_ZONE_MASK_MASK 0, 1), (F.STI_ZONE_X1_COORD 0, 1000)]).logFull up.pkg
    (D.arbDue up.pkg).any (fun u => (D.zoneOf u.c u.b0 (wEnd u.w)).isSome) = true := by decide +kernel

/-! Witnesses: the law engine, process I/O, motion, encoders, field control. -/

/-- A law set with no program, SET_ID 9. -/
def set9 : List Byte := patch (List.replicate 64 0) [(0, 4, 0x4C415731), (4, 2, 1), (8, 4, 9), (12, 2, 5000), (16, 4, 64)]

def lawLoad (crc : Nat) (f : Side → Side := id) : State := cmd 0x20 0x78 [(8, 8, 0x1000), (16, 4, 64), (20, 4, crc)] (hostHas 0x1000 set9) f

theorem wit_LawSetsLoad_taken :
    let s := lawLoad (crc32c set9)
    ((s.side .a).nextHost s.pkg 0 0x78).any (fun e => lawLoadBad e.bytes == none && dFld e.bytes 20 4 == crc32c set9 &&
      memRead s.pkg.host (dFld e.bytes 8 8) (dFld e.bytes 16 4) == set9) = true ∧ (s.side .a).plateWindow = true ∧
    ((s.side .a).lawCheck s.pkg set9 (crc32c set9)).toBool = true := by decide +kernel

theorem wit_LawSetsLoad_refused : crc32c set9 ≠ 0 ∧ ((lawLoad 0).side .a).plateWindow = true ∧
    (((lawLoad 0).side .a).nextHost (lawLoad 0).pkg 0 0x78).isSome = true ∧
    (((lawLoad 0).side .a).lawCheck (lawLoad 0).pkg [] 0).toBool = false ∧ crc32c [] = 0 ∧
    ((lawLoad 0 (regs [(F.PLN_PLATE_STATE_STATE 0, 1)])).side .a).plateWindow = false ∧
    lawLoadBad (desc 0x78 [(8, 8, 16)]) = some 8 ∧ lawLoadBad (desc 0x78 []) = none := by decide +kernel

theorem wit_LawCommands : up.accepts true 0x900004 1 ∧ up.accepts true (0x902014 + 0x20 * 3) 1 ∧ up.accepts true (0x902014 + 0x20 * 3) 2 ∧
    up.accepts true (0x901008 + 0x20 * 15) 1 ∧ up.accepts true (0x901008 + 0x20 * 15) 2 ∧ (up.side .a).plateWindow = true ∧
    (rec3 0 1).plateWindow = false ∧ (up.side .a).get (F.LAW_TR_CFG_MODE 15) = 0 ∧
    ((up (regs [(F.LAW_TR_CFG_MODE 15, 1)])).side .a).get (F.LAW_TR_CFG_MODE 15) ≠ 0 := by unfold State.accepts; decide +kernel

theorem wit_ZeroCrossesAndSsrs_edge :
    let d := ((up (regs [(F.PIO_SSR_CFG_ZX 7, 3), (F.PIO_SSR_CFG_EN 7, 1), (F.PIO_SSR_STATE_ACC 7, 65535)])).side .a).lawTake (up.pkg.advance 0)
    d.get (F.PIO_SSR_CFG_ZX 7) = 3 ∧ d.get (F.PIO_SSR_CFG_EN 7) = 1 ∧ d.get (F.PIO_SSR_STATE_ACC 7) + tget 0 d.law.ssr 7 < 65536 ∧
    65536 ≤ d.get (F.PIO_SSR_STATE_ACC 7) + tget 0 ({ ssr := [(7, 1)] } : Law).ssr 7 ∧ tget false ({ seen := [(3, true)] } : Pio).seen 3 = true := by
  decide +kernel

theorem wit_ZeroCrossesAndSsrs_switch : tget [] ({ next := [(7, [(1000, true)])] } : Pio).next 7 = [(1000, true)] ∧
    reached ((up.side .a).dev (up.pkg.advance 1000)) 1000 = true ∧ reached ((up.side .a).dev (up.pkg.advance 999)) 1000 = false ∧
    tget [] (up.side .a).pio.next 7 = [] := by decide +kernel

theorem wit_ZeroCrossesAndSsrs_lost : tget false (up.side .a).pio.lost 3 = false ∧
    reached ((up.side .a).dev (up.pkg.advance 25000000)) (tget 0 (up.side .a).pio.zx 3 + 25000000) = true ∧
    reached ((up.side .a).dev (up.pkg.advance 24999999)) (tget 0 (up.side .a).pio.zx 3 + 25000000) = false ∧
    tget false ({ lost := [(3, true)] } : Pio).lost 3 = true := by decide +kernel

/-- A profile of one segment. -/
def seg1 : List Byte := patch (List.replicate 16 0) [(0, 3, 1), (4, 4, 5)]

def motLoad (a crc : Nat) (f : Side → Side := id) : State :=
  cmd 0x20 0x70 [(4, 1, a), (8, 8, 0x1000), (16, 2, 1), (20, 4, crc)] (hostHas 0x1000 seg1) f

theorem wit_MotionTablesLoad_taken :
    let s := motLoad 23 (crc32c seg1)
    ((s.side .a).nextHost s.pkg 0 0x70).any (fun e => motLoadBad e.bytes == none && dFld e.bytes 20 4 == crc32c seg1 && dFld e.bytes 16 2 == 1 &&
      bits (byteAt e.bytes 4) 0 5 == 23 && memRead s.pkg.host (dFld e.bytes 8 8) 16 == seg1 && !bit (byteAt e.bytes 4) 7) = true ∧
    23 < s.pkg.axes ∧ (s.side .a).motState 23 = 0 ∧ (s.side .a).get (F.MOT_STATUS_START_PEND 23) = 0 ∧
    tableBad (cut16 1 seg1) false 0 = none := by decide +kernel

theorem wit_MotionTablesLoad_refused : up.pkg.axes ≤ 24 ∧ crc32c seg1 ≠ 0 ∧ (((motLoad 24 0).side .a).nextHost (motLoad 24 0).pkg 0 0x70).isSome = true ∧
    ((motLoad 0 0 (regs [(F.MOT_STATUS_STATE 0, 1)])).side .a).motState 0 ≠ 0 ∧
    ((motLoad 0 0 (regs [(F.MOT_STATUS_START_PEND 0, 1)])).side .a).get (F.MOT_STATUS_START_PEND 0) = 1 ∧
    tableBad (cut16 1 (List.replicate 16 0)) false 0 = some 0 ∧ motLoadBad (desc 0x70 []) = some 16 := by decide +kernel

theorem wit_MotionCommands : up.accepts true (0xA00008 + 0x1000 * 23) 1 ∧ up.accepts true (0xA00008 + 0x1000 * 23) 2 ∧ up.accepts true 0xA30004 1 ∧
    ((up (regs [(F.MOT_TBL_NSEG 23, 1)])).side .a).motState 23 = 0 ∧ ((up (regs [(F.MOT_TBL_NSEG 23, 1)])).side .a).get (F.MOT_TBL_NSEG 23) ≠ 0 ∧
    ((up (regs [(F.MOT_STATUS_STATE 23, 2)])).side .a).motState 23 = 2 ∧
    bit (((up (regs [(F.MOT_START_MASK_MASK, 2 ^ 23)])).side .a).get F.MOT_START_MASK_MASK) 23 = true ∧
    bit (((up (regs [(F.MOT_START_MASK_MASK, 2 ^ 23)])).side .a).get F.MOT_START_MASK_MASK) 0 = false := by unfold State.accepts; decide +kernel

/-- Encoder port 23 in a mode, in state v. -/
def enc23 (mode : Nat) (v : Enc) : Side := (up fun d => (regs [(F.MOT_ENC_CFG_MODE 23, mode)] d).setEnc 23 v).side .a

theorem wit_EncoderPorts_quad : (enc23 1 {}).encMode 23 = 1 ∧ (enc23 0 {}).encMode 23 ≠ 1 ∧ tooSoon (some 1000) 1024 = true ∧ tooSoon (some 1000) 1025 = false ∧
    tooSoon none 0 = false ∧ (true, false) ≠ (({} : Enc).a, ({} : Enc).b) := by decide +kernel

theorem wit_EncoderPorts_ssi :
    let d := enc23 2 { frame := some 0 }
    (d.enc 23).frame = some 0 ∧ d.encMode 23 = 2 ∧ reached (d.dev (up.pkg.advance (d.ssiNs 23))) (0 + d.ssiNs 23) = true ∧
    d.get (F.MOT_ENC_CFG_ERRBIT 23) = 0 ∧ (d.set (F.MOT_ENC_CFG_ERRBIT 23) 1).get (F.MOT_ENC_CFG_ERRBIT 23) = 1 ∧ ((enc23 2 {}).enc 23).frame = none := by
  decide +kernel

/-- Stepper unit 23 is used by axis 0 and its carrier runs at 100 µs. -/
def unit23 (f : Side → Side := id) : Side :=
  (up fun d => f (regs [(F.FOC_STP_CFG_USE 7, 1), (F.MOT_CFG_UTYPE 0, 2), (F.MOT_CFG_UNIT 0, 7), (F.FOC_CAR_CFG_PER_FT 0, 200), (F.FOC_BUS_VLIM2_V_HARD 0, 100)] d)).side .a

theorem wit_UnitCommands_enable : up.accepts true (uCmdOff 23) 1 ∧ up.accepts true (uCmdOff 23) 2 ∧ up.accepts true (uCmdOff 23) 4 ∧
    up.pkg.unitOk 23 = true ∧ (up.side .a).enableBad 23 = some 1 ∧ (unit23).enableBad 23 = none := by unfold State.accepts; decide +kernel

theorem wit_UnitCommands_clear :
    let d := unit23 (regs [(uSTATE 23, 4), (F.FOC_BUS_VLIM1_V_OFF 0, 1)])
    let e := unit23 (regs [(uSTATE 23, 4), (F.FOC_BUS_VLIM1_V_OFF 0, 0)])
    d.uState 23 = 4 ∧ d.busAtLeast (d.get (uBUS 23)) (d.get (F.FOC_BUS_VLIM1_V_OFF (d.get (uBUS 23)))) = false ∧
    e.busAtLeast (e.get (uBUS 23)) (e.get (F.FOC_BUS_VLIM1_V_OFF (e.get (uBUS 23)))) = true ∧ (up.side .a).uState 23 ≠ 4 := by decide +kernel

theorem wit_UnitCommands_chop : up.accepts true (0xB20008 + 0x100 * 3) 1 ∧
    ((up (regs [(F.FOC_BUS_VLIM1_V_OFF 3, 1)])).side .a).busAtLeast 3 1 = false ∧ (up.side .a).busAtLeast 3 0 = true := by
  unfold State.accepts; decide +kernel

theorem wit_ValuesAndAlignment_value : (List.replicate (3 * (up.side .a).osr 63) true).length = 3 * (up.side .a).osr 63 ∧
    ([] : List Bool).length ≠ 3 * (up.side .a).osr 63 ∧ 63 < 64 := by
  refine ⟨List.length_replicate, ?_, by decide⟩
  decide +kernel

theorem wit_ValuesAndAlignment_align :
    let d := (up fun d => (regs [(uSTATE 15, 2), (F.FOC_IANG_ALIGN_MS 15, 1), (F.MOT_CFG_UTYPE 0, 1), (F.MOT_CFG_UNIT 0, 15)] d).setFocU 15 { caught := true }).side .a
    15 < up.pkg.focs ∧ d.uState 15 = 2 ∧ reached (d.dev (up.pkg.advance 1000000)) ((d.focU 15).alignAt + 1000000 * d.get (F.FOC_IANG_ALIGN_MS 15)) = true ∧
    reached (d.dev (up.pkg.advance 999999)) ((d.focU 15).alignAt + 1000000 * d.get (F.FOC_IANG_ALIGN_MS 15)) = false ∧ (d.focU 15).caught = true ∧
    d.unitAxis 15 = some 0 ∧ d.motState 0 = 0 ∧ ((up.side .a).focU 15).caught = false ∧ (up.side .a).unitAxis 15 = none ∧
    (d.set (F.MOT_STATUS_STATE 0) 1).motState 0 ≠ 0 := by decide +kernel

theorem wit_CarrierPeriods :
    let D := (unit23 (regs [(F.FOC_CAR_CFG_PER_FT 7, 200), (F.FOC_OUT_CFG_CAR 103, 7)])).lawTake up.pkg
    (D.get (F.FOC_CAR_CFG_PER_FT 7) ≠ 0 && D.foc.n % D.get (F.FOC_CAR_CFG_PER_FT 7) = 0 && tget 0 D.foc.car 7 ≠ D.foc.n + 1 &&
      carInRange (D.carT 7) && !D.flag (F.FOC_CAR_CFG_RANGE_BAD 7)) = true ∧
    ((up.side .a).set (F.FOC_CAR_CFG_PER_FT 7) 0).get (F.FOC_CAR_CFG_PER_FT 7) = 0 ∧
    ((up (regs [(F.FOC_OUT_CFG_CAR 103, 7)])).side .a).outFree 103 = true := by decide +kernel

/-! Witnesses: keys, statements, recipes. The private key is 1, the public key the base point of the curve. -/

/-- A token of type 1, level 1, counter 2, from the root key of the device. -/
def token1 : List Byte := qwords [
  0x10153547d01, 0xedf9b71224264f8c, 2, 0xca87aa0400000000, 0xc7b18e37058bbe22, 0x3b1d6e74ad20f31e, 0x41f759989ba78b62, 0xf20255382a5482e0,
    0x5e543a6c2955bf5d, 0xde1736b70a767238, 0x989e5d6f2c26964a, 0x1df4f829dc9292bf, 0x31dae97c149a28bd, 0xb1600ac0b8f0b513, 0x1d437a9d817e1dce,
    0x5f0eea907c, 0, 0, 0, 0, 0, 0, 0x37058bbe22ca87aa, 0x74ad20f31ec7b18e, 0x989ba78b623b1d6e, 0x382a5482e041f759, 0x6c2955bf5df20255,
    0xb70a7672385e543a, 0x6ba7d12b83e53ab0, 0x55c218627b41d69a, 0x2a92f28104dab33d, 0x996b0e07ea531ef, 0x78a25f879ba4f7c6, 0x3c9a343954c1aa3a]

/-- A recipe with one DENY entry for opcode 0x10, id 7. -/
def recipe7 : List Byte := qwords [
  0x1000152437d01, 0, 7, 0x58bbe22ca87aa04, 0xad20f31ec7b18e37, 0x9ba78b623b1d6e74, 0x2a5482e041f75998, 0x2955bf5df2025538, 0xa7672385e543a6c,
    0x2c26964ade1736b7, 0xdc9292bf989e5d6f, 0x149a28bd1df4f829, 0xb8f0b51331dae97c, 0x817e1dceb1600ac0, 0xeea907c1d437a9d, 0x5f, 0x30000010, 0,
    0x37058bbe22ca87aa, 0x74ad20f31ec7b18e, 0x989ba78b623b1d6e, 0x382a5482e041f759, 0x6c2955bf5df20255, 0xb70a7672385e543a, 0x5590ab45da13831e,
    0xe7729fe88751f341, 0xf6ad4597513f7e45, 0xa9609ebe4ba85d79, 0xac58f39839d78b04, 0xd5d5038ffbe25351]

/-- A package of the key of job 77, both policy bits set. -/
def package77 : List Byte := qwords [
  0x300014b597d01, 0x4d, 0xedf9b71224264f8c, 0xca87aa0400000000, 0xc7b18e37058bbe22, 0x3b1d6e74ad20f31e, 0x41f759989ba78b62, 0xf20255382a5482e0,
    0x5e543a6c2955bf5d, 0xde1736b70a767238, 0x989e5d6f2c26964a, 0x1df4f829dc9292bf, 0x31dae97c149a28bd, 0xb1600ac0b8f0b513, 0x1d437a9d817e1dce,
    0x5f0eea907c, 0x8ab77d543a7cc492, 0xcee42ff5ea65d468, 0xb3aee4abe9c07123, 0x141b24a04f3e409, 0x11b9353e8787be56, 0]

/-- The base point as a public key. -/
def pub1 : List Byte := stPub token1

/-! Witnesses: the two sides, network time, keys, temperature and power, the fault pair. -/

/-- Both sides run; the hold die watches Side A as w and Side B as v. -/
def watched (w v : Watch) (f : Hold → Hold := id) (g : Pkg → Pkg := id) : State :=
  up id fun p => g (holdAs (fun h => f ((h.setWatch .a w).setWatch .b v)) p)

/-- Path 1 dead at once, path 2 alive for 1 µs, and the other way round. -/
def dead1 : Watch := { hb2 := 1000 }
def dead2 : Watch := { hb1 := 1000 }

/-- What the deadline judges at raw time 0: whether path 1, path 2 and the other side's path 1 are dead. -/
def judged (s : State) : Bool × Bool × Bool :=
  let p := s.pkg.advance 0
  let w := p.hold.look .a
  let v := p.hold.look .b
  (reached p.now (w.at1 + w.hb1), reached p.now (w.at2 + w.hb2), decide (p.hold.health .b < 2) || reached p.now (v.at1 + v.hb1))

theorem wit_SidesAreLost_deadline : judged up = (true, true, true) ∧ judged (watched dead1 dead2) = (true, false, false) ∧
    judged (watched dead2 dead2) = (false, true, false) ∧ judged (watched { hb1 := 1000, hb2 := 1000 } {}) = (false, false, true) ∧
    dead1.bad1 = false ∧ ({ dead1 with bad1 := true } : Watch).bad1 = true ∧ judged (watched { dead1 with bad1 := true } dead2) = (true, false, false) ∧
    (up.pkg.advance 0).hold.deep = false ∧ 2 ≤ (up.pkg.advance 0).hold.health .a ∧ (State.reset.pkg.advance 0).hold.health .a < 2 := by decide +kernel

theorem wit_SidesAreLost_resign : (up.pkg.advance 0).hold.alive .b = true ∧ (State.reset.pkg.advance 0).hold.alive .b = false := by decide +kernel

theorem wit_SidesAreLost_ack : (watched {} {} fun h => { h with ack := some .b }).pkg.hold.ack = some .b ∧
    (watched {} {} fun h => { h with ack := some .b }).pkg.hold.health .b ≠ 0 ∧ up.pkg.hold.ack = none := by decide +kernel

theorem wit_BeatsLeaveAndArrive_send : (up.advance 65535).pkg.now % 1000 ≠ 0 ∧ (up.advance 64000).pkg.now = 64000 ∧
    (up.advance 64000).pkg.hold.running .a = true ∧ (State.reset.advance 64000).pkg.hold.running .a = false := by decide +kernel

/-- A beat with number k. -/
def beat (k : Nat) : Beat := ⟨k, 0, 3, true, false, none⟩

theorem wit_BeatsLeaveAndArrive_arrive :
    let S := (watched {} { out1 := [beat 1, beat 2], out2 := [beat 9], last2 := some 9 }).advance 0
    (S.pkg.hold.look .b).out1 = beat 1 :: [beat 2] ∧ 2 ≤ S.pkg.hold.health .b ∧ (S.pkg.hold.look .b).last1.getD 0 < (beat 1).seq ∧
    (S.pkg.hold.look .b).out2 = beat 9 :: [] ∧ (beat 9).seq ≤ (S.pkg.hold.look .b).last2.getD 0 ∧ (some 8).getD 0 < (beat 9).seq ∧
    (up.pkg.hold.look .b).out1 = [] ∧ (up.pkg.hold.look .b).out2 = [] := by decide +kernel

/-- The gap of a failover after the loss of Side A, declared at raw time 0; ready is what the grant asks for. -/
def inGap : State := watched {} {} fun h => { h with gap := some ⟨.a, 0, 0⟩ }

def ready (S : State) : Bool := S.pkg.hold.health .b == 3 && reached S.pkg.now (0 + 1000) && (S.side .b).atFine S.pkg

theorem wit_GrantsAndFixedSwaps_grant : ready (inGap.advance 1000) = true ∧ ready (inGap.advance 1001) = false ∧ ready (inGap.advance 999) = false ∧
    (inGap.advance 1000).pkg.hold.gap = some ⟨.a, 0, 0⟩ ∧ SideId.b = otherSide .a ∧ up.pkg.hold.gap = none ∧ up.pkg.hold.running .a = true := by
  decide +kernel

theorem wit_GrantsAndFixedSwaps_fixed : up.accepts true 0xD00008 1 ∧ up.accepts true 0xD00008 2 ∧ (up.side .a).compat = false ∧
    (up.side .a).insidePlate ((up.side .a).get64 F.TWN_FIXED_LO_TIME F.TWN_FIXED_HI_TIME) = false ∧
    ((up (regs [(F.TWN_CFG_COMPAT, 1)])).side .a).compat = true := by unfold State.accepts; decide +kernel

theorem wit_PeeksRevivesAndDwellCuts_peek : up.accepts true 0xD00008 4 ∧ 2 ≤ up.pkg.hold.health up.pkg.hold.standby ∧
    4 * up.actSide.get F.TWN_PEEK_ADDR_WORD ≤ 0x13FFFFC ∧ State.reset.pkg.hold.health State.reset.pkg.hold.standby < 2 ∧
    0x13FFFFC < 4 * ((up (regs [(F.TWN_PEEK_ADDR_WORD, 0x500000)])).actSide.get F.TWN_PEEK_ADDR_WORD) := by
  unfold State.accepts; decide +kernel

theorem wit_PeeksRevivesAndDwellCuts_revive :
    let s := watched {} {} fun h => h.set F.HLD_TWN_STATUS_HEALTH_B 0
    up.accepts true 0x3F00008 (2 ^ sideIx .b) ∧ up.pkg.hold.health .b ≠ 0 ∧ s.accepts true 0x3F00008 (2 ^ sideIx .b) ∧ s.pkg.hold.health .b = 0 ∧
    s.pkg.hold.up = true ∧ (s.pkg.hold.look .b).lostPower = false ∧ ({ lostPower := true } : Watch).lostPower = true := by
  unfold State.accepts; decide +kernel

/-- At raw time 0, beam 3 of port 15 has been on, and the scanner still, for 100 µs. -/
def dwell (en : Nat) (x : Port := { pow := [(3, 1)], onAt := [(3, 2 ^ 64 - 100000)], tMove := 2 ^ 64 - 100000 }) : State :=
  up id (holdAs fun h => { h.set (F.HLD_DWELL_CFG_EN 15) en with ports := [(15, x)] })

theorem wit_PeeksRevivesAndDwellCuts_dwell (en : Nat) (x : Port) : ((dwell en x).advance 0).runPort 15 = (dwell en x).advance 0 := by
  have h0 : slotsBefore 15 0 = 0 := by unfold slotsBefore; omega
  have hr : ∀ (k o w) (x : Port), Port.run o w 0 k x = x := by intro k o w x; cases k <;> simp [Port.run]
  have hn : ((dwell en x).advance 0).pkg.now = 0 := by
    simp [dwell, up, holdAs, State.advance, Pkg.advance, Pkg.now, reached, tdiff, State.reset, toSigned]
  unfold State.runPort State.updPort State.setHold Hold.setPort
  simp only [hn, h0, hr]
  simp [dwell, up, holdAs, State.advance, Pkg.advance, Pkg.now, reached, tdiff, State.reset, toSigned, Hold.port, Hold.set, tset, tget]

theorem wit_PeeksRevivesAndDwellCuts_due : ((dwell 1).advance 0).dwellDue 15 = 8 ∧ ((dwell 1 {}).advance 0).dwellDue 15 = 0 ∧
    ((dwell 1).advance 0).pkg.hold.flag (F.HLD_DWELL_CFG_EN 15) = true ∧ ((dwell 0).advance 0).pkg.hold.flag (F.HLD_DWELL_CFG_EN 15) = false ∧
    (dwell 1).portOk 15 = true := by decide +kernel

/-- Port 1 enabled with its link, in portState st. -/
def ptpSide (st : Nat) (x : PPort := {}) (l : List (Fld × Nat) := []) : Side :=
  (up fun d => (regs ([(F.PTP_P_CFG_EN 1, 1), (F.PTP_P_STATUS_LINK 1, 1), (F.PTP_P_STATUS_STATE 1, st)] ++ l) d).setPport 1 x).side .a

/-- What is owed on a port: one message of kind k. -/
def owes (k : PtpKind) : PPort := { owed := [({ kind := k }, 5)] }

theorem wit_PtpMessagesLeave_own : up.pkg.hold.granted = true ∧ (ptpSide psMaster).pOn 1 = true ∧ (ptpSide psMaster).pst 1 = psMaster ∧
    (ptpSide psMaster {} [(F.PTP_P_CFG_ONE_STEP 1, 0)]).flag (F.PTP_P_CFG_ONE_STEP 1) = false ∧
    (ptpSide psMaster {} [(F.PTP_P_CFG_ONE_STEP 1, 1)]).flag (F.PTP_P_CFG_ONE_STEP 1) = true ∧ (ptpSide psSlave).pst 1 = psSlave ∧
    (ptpSide psSlave).get F.PTP_CFG_DELAY_MECH = 0 ∧ (ptpSide psUncal).pst 1 = psUncal ∧ (ptpSide psUncal).pst 1 ≠ psMaster ∧
    (ptpSide psListening {} [(F.PTP_CFG_DELAY_MECH, 1)]).get F.PTP_CFG_DELAY_MECH = 1 ∧ psListening ≤ (ptpSide psListening).pst 1 := by
  decide +kernel

theorem wit_PtpMessagesLeave_owed (k : PtpKind) :
    ((ptpSide psMaster (owes k)).pport 1).owed.find? (fun e => e.1.kind == k) = some ({ kind := k }, 5) ∧
    ((ptpSide psMaster).pport 1).owed.find? (fun e => e.1.kind == k) = none := by cases k <;> decide +kernel

/-- A message of kind k from port 2 of clock 7. -/
def msg (k : PtpKind) (two : Bool := false) (id : Nat := 0) : PtpMsg :=
  { kind := k, srcId := 7, srcPort := 2, seq := 3, twoStep := two, reqId := id, reqPort := 2 }

/-- Port 1 is SLAVE of port 2 of clock 7. -/
def slave (x : PPort := {}) : Side := { ptpSide psSlave x with ptp := { (ptpSide psSlave x).ptp with parent := (7, 2) } }

theorem wit_PtpMessagesArrive_checked : (ptpSide psSlave).pOn 1 = true ∧ (ptpSide psSlave {} [(F.PTP_P_CFG_EN 1, 0)]).pOn 1 = false ∧
    (ptpSide psSlave).ptpOk 1 (msg .sync) = true ∧ (ptpSide psSlave).ptpOk 1 { msg .sync with transport := 2 } = false ∧
    (ptpSide psSlave).ptpOk 1 { msg .sync with kind := .other } = false := by decide +kernel

theorem wit_PtpMessagesArrive_parent :
    let e := (slave { wait := some (3, 5, 6), dreq := some (3, 8), pair := some (1, 2) }).inc (F.PTP_P_RX_COUNT 1) 1
    e.fromParent 1 (msg .sync) = true ∧ (e.pport 1).wait = some ((msg .sync).seq, 5, 6) ∧ (e.pport 1).dreq = some ((msg .delayResp).seq, 8) ∧
    (e.pport 1).pair = some (1, 2) ∧ (msg .delayResp false e.clockId).reqId = e.clockId ∧ (msg .delayResp).reqPort = 1 + 1 ∧
    e.fromParent 1 { msg .sync with srcPort := 1 } = false := by decide +kernel

theorem wit_PtpMessagesArrive_requests :
    let m := (ptpSide psMaster { preq := some (3, 8), presp := some (3, 1, 2, 4) }).inc (F.PTP_P_RX_COUNT 1) 1
    m.pst 1 = psMaster ∧ m.get F.PTP_CFG_DELAY_MECH = 0 ∧ (ptpSide psMaster {} [(F.PTP_CFG_DELAY_MECH, 1)]).get F.PTP_CFG_DELAY_MECH = 1 ∧
    (m.pport 1).preq = some ((msg .pdelayResp).seq, 8) ∧ (m.pport 1).presp = some ((msg .pdelayRespFollowUp).seq, 1, 2, 4) := by
  decide +kernel

/-- Whether the Announces of a port have been missing for too long at raw time t. -/
def annLate (d : Side) (t : Nat) : Bool :=
  d.pOn 1 && d.pst 1 != psMaster && decide (psListening ≤ d.pst 1) && reached (up.pkg.advance t).now (0 + d.get F.PTP_LIMITS_ANN_TMO * d.annNs 1)

theorem wit_PtpMessagesArrive_announces : ((ptpSide psSlave).pport 1).annAt = 0 ∧ annLate (ptpSide psSlave) 10000000000 = true ∧
    annLate (ptpSide psSlave) 1000000 = false := by decide +kernel

theorem wit_PtpMessagesArrive_syncs :
    (!decide ((tdiff (up.pkg.advance 10000000000).now 0 : Rat) < (((ptpSide psSlave).get F.PTP_LIMITS_SYNC_TMO : Nat) : Rat) * intervalNs 0)) = true ∧
    (!decide ((tdiff (up.pkg.advance 0).now 0 : Rat) < (((ptpSide psSlave).get F.PTP_LIMITS_SYNC_TMO : Nat) : Rat) * intervalNs 0)) = false ∧
    (ptpSide psSlave).servo ≠ 4 ∧ (ptpSide psSlave {} [(F.PTP_OFS_STATUS_SERVO, 4)]).servo = 4 := by decide +kernel

theorem wit_PtpMessagesArrive_links : (ptpSide psSlave).get (F.PTP_P_STATUS_LINK 1) = 1 ∧ (up.side .a).get (F.PTP_P_STATUS_LINK 1) = 0 := by
  decide +kernel

theorem wit_ThermalAndPower_sensor :
    let s := up fun d => (regs [(F.THM_SNS_CFG_EN 143, 1)] d).setSens 143 { counts := [4000, 4000, 4000] }
    let p := (s.advance 65535).pkg
    p.hold.counted 143 = true ∧ (State.reset.advance 0).pkg.hold.counted 127 = false ∧ p.sensCount 143 4000 = 4000 ∧
    (s.side .a).flag (F.THM_SNS_VAL_BROKEN 143) = false ∧ (countBad 4000 || run4 ((4000 :: (tget {} (s.side .a).thm.sens 143).counts).take 4)) = true ∧
    (countBad 4001 || run4 ((4001 :: (tget {} (s.side .a).thm.sens 143).counts).take 4)) = false := by decide +kernel

theorem wit_ThermalAndPower_pause :
    let d := (up fun d => { d with thm := { d.thm with pause := [(41, 1000)] } }).side .a
    d.paused 41 = true ∧ reached (up.advance 1000).pkg.now (tget 0 d.thm.pause 41) = true ∧ reached (up.advance 999).pkg.now (tget 0 d.thm.pause 41) = false ∧
    d.paused 40 = false := by decide +kernel

theorem wit_ThermalAndPower_sleep : up.accepts true 0x1100034 1 ∧ up.accepts true 0x1100034 2 ∧ (up.side .a).pwrReason up.pkg false = 0 ∧
    (up.side .a).pwrReason up.pkg true = 0 ∧ SideId.a = up.pkg.hold.active ∧ (rec3 0x43 1).pwrReason up.pkg true = 1 := by
  unfold State.accepts; decide +kernel

/-- NAP, and the wake from it with every group but g restored. -/
def napping : State := up (regs [(F.THM_PWR_STATE_STATE, 2)])

def waking (g : Nat) : Side := (up (regs [(F.THM_PWR_STATE_STATE, 2), (F.THM_PWR_STATE_WAKING, 1), (F.THM_PWR_STALE_GROUP, g)])).side .a

theorem wit_ThermalAndPower_wake : napping.accepts true 0x1100034 4 ∧ napping.pkg.hold.deep = false ∧ (napping.side .a).get F.THM_PWR_STATE_STATE = 2 ∧
    (napping.side .a).get F.THM_PWR_STATE_WAKING = 0 ∧ (up.side .a).get F.THM_PWR_STATE_STATE ≠ 2 := by unfold State.accepts; decide +kernel

theorem wit_ThermalAndPower_groups : (waking 255).get F.THM_PWR_STATE_WAKING = 1 ∧ (waking 255).stale 0 = true ∧ (waking 128).stale 7 = true ∧
    (∀ k, k < 8 → k ≠ 7 → (waking 128).stale k = false) ∧ (waking 255).dma = [] ∧ (up.side .a).get F.THM_PWR_STATE_WAKING = 0 := by decide +kernel

theorem wit_ThermalAndPower_deep :
    let s := up id (holdAs fun h => { h with deep := true })
    s.accepts true 0x1100034 4 ∧ s.pkg.hold.deep = true ∧ 2 ≤ s.pkg.hold.health .a := by unfold State.accepts; decide +kernel

theorem wit_FaultPairAndInjections_arm : srcAssigned 0 = true ∧ srcAssigned 0xFFFF = false ∧
    up.accepts true (F.EVT_ROUTE_ARM 0).off (Nat.lor (up.actSide.word (F.EVT_ROUTE_ARM 0).off) 0x20) := by unfold State.accepts; decide +kernel

/-- The pair has released BOOT; state st, asserted at raw time 0. -/
def pair (st : Nat) (f : Hold → Hold := id) : State :=
  up id (holdAs fun h => f { h.set F.HLD_FLT_STATUS_STATE st with flt := { h.flt with boot := false } })

theorem wit_FaultPairAndInjections_pair : up.accepts true 0x3F02008 1 ∧ up.accepts true 0x3F02008 2 ∧ up.accepts true 0x3F02008 4 := by
  unfold State.accepts; decide +kernel

theorem wit_FaultPairAndInjections_release :
    let u := ({ pair 1 with pkg := (pair 1).pkg.advance 1000000 } : State).fltRefresh
    u.relReason = 0 ∧ u.pkg.hold.get F.HLD_FLT_STATUS_STATE = 1 ∧ ((pair 0).advance 1000000).fltRefresh.relReason = 0 ∧
    ((pair 0).advance 1000000).fltRefresh.pkg.hold.get F.HLD_FLT_STATUS_STATE = 0 ∧ ((pair 1).advance 999999).fltRefresh.relReason ≠ 0 := by
  decide +kernel

theorem wit_FaultPairAndInjections_watchdog :
    let s := pair 0 fun h => (h.set F.HLD_FLT_CFG_WDOG_EN 1).set F.HLD_FLT_CFG_WDOG_MS 1
    let due := fun t => s.pkg.hold.flag F.HLD_FLT_CFG_WDOG_EN && reached (s.advance t).pkg.now (s.pkg.hold.flt.kick + 1000000 * s.pkg.hold.get F.HLD_FLT_CFG_WDOG_MS)
    due 1000000 = true ∧ due 999999 = false ∧ tget false s.pkg.hold.flt.on 7 = false := by decide +kernel

theorem wit_FaultPairAndInjections_chain : up.pkg.hold.beOpen = false ∧ (watched {} {} fun h => { h with beOpen := true }).pkg.hold.beOpen = true ∧
    ((port 15 { st := 3 }).pkg.hold.port 15).st ≠ 0 ∧ 15 < (port 15 { st := 3 }).pkg.beams ∧ (rec3 0x43 3).recRunning 3 = true ∧
    (pair 0 fun h => h.set F.HLD_FLT_CFG_BE_EN 1).pkg.hold.flag F.HLD_FLT_CFG_BE_EN = true ∧ tget false (pair 0).pkg.hold.flt.on 5 = false := by
  decide +kernel

/-- A package in TEST, the hold die as f makes it. -/
def inTest (f : Hold → Hold) : State := up id fun p => { holdAs f p with fuses := { p.fuses with lifecycle := 0 } }

theorem wit_FaultPairAndInjections_arms : up.accepts true 0x3F03010 1 ∧ up.accepts true 0x3F03010 2 ∧ up.pkg.injOpen = false ∧
    ((inTest id).pkg.injOpen && (inTest id).pkg.hold.get F.HLD_INJ_STATUS_STATE == 0 && (inTest id).pkg.hold.injValid) = true ∧
    (inTest fun h => h.set F.HLD_INJ_STATUS_STATE 1).pkg.hold.get F.HLD_INJ_STATUS_STATE = 1 ∧ (inTest id).accepts true 0x3F03010 1 ∧
    (inTest id).accepts true 0x3F03010 2 := by
  unfold State.accepts; decide +kernel

theorem wit_FaultPairAndInjections_end :
    let s := inTest fun h => ((h.set F.HLD_INJ_STATUS_STATE 2).set F.HLD_INJ_CFG_DUR 1).set F.HLD_INJ_CFG_KIND 8
    let past := fun t => s.pkg.hold.get F.HLD_INJ_STATUS_STATE == 2 && reached (s.advance t).pkg.now (s.pkg.hold.injAt + 1000 * s.pkg.hold.get F.HLD_INJ_CFG_DUR)
    past 1000 = true ∧ past 999 = false ∧ s.pkg.hold.injKind = 8 := by decide +kernel

/-- Key slot 15 holds the key of job 77, and ring 0's next command is op. -/
def keyed (op : Nat) (l : List (Nat × Nat × Nat)) (f : Side → Side := id) : Side :=
  (up fun d => f (one 0x25 op l ((d.set (F.SEC_KEY_STATE_PRESENT 15) 1).set64 (F.SEC_KEY_ID_LO_JOB_ID 15) (F.SEC_KEY_ID_HI_JOB_ID 15) 77))).side .a

theorem wit_KeysAndStatements_challenge : ((up (one 0x25 0x60)).side .a).nextStart 0 0x60 = some ⟨0, desc 0x60 [], .fetched⟩ ∧
    firstNonZero (desc 0x60 []) 4 60 = none ∧ firstNonZero (desc 0x60 [(63, 1, 1)]) 4 60 = some 63 := by decide +kernel

theorem wit_KeysAndStatements_keys :
    ((keyed 0x62 [(8, 8, 77)]).nextStart 0 0x62).isSome = true ∧ ((keyed 0x63 [(8, 8, 77)]).nextStart 0 0x63).isSome = true ∧
    dFld (desc 0x62 [(8, 8, 77)]) 8 8 = 77 ∧ firstSome [firstNonZero (desc 0x62 [(8, 8, 77)]) 4 4, firstNonZero (desc 0x62 [(8, 8, 77)]) 16 48] = none ∧
    firstSome [firstNonZero (desc 0x62 [(16, 1, 1)]) 4 4, firstNonZero (desc 0x62 [(16, 1, 1)]) 16 48] = some 16 ∧
    firstSome [if 2 ≤ byteAt (desc 0x63 [(4, 1, 1)]) 4 then some 4 else none, firstNonZero (desc 0x63 [(4, 1, 1)]) 5 3,
      firstNonZero (desc 0x63 [(4, 1, 1)]) 16 48] = none ∧
    firstSome [if 2 ≤ byteAt (desc 0x63 [(4, 1, 2)]) 4 then some 4 else none, firstNonZero (desc 0x63 [(4, 1, 2)]) 5 3,
      firstNonZero (desc 0x63 [(4, 1, 2)]) 16 48] = some 4 ∧
    (keyed 0x62 []).keySlot 77 = some 15 ∧ (keyed 0x62 []).keySlot 78 = none ∧ (keyed 0x62 []).jobRec 77 = none ∧
    (keyed 0x62 [] fun d => { (d.set (F.PLN_PLATE_STATE_STATE 2) 1) with pln := { recs := [(2, { jobId := 77 })] } }).jobRec 77 = some 2 := by
  decide +kernel

/-- SHA-384 of the base point as a public key. -/
def pubHash : Nat := 0x8c4f262412b7f9ed867606705a130de5212fd048fbaf8c3842f4a240f4b45ba0c90f82194ccdda3ed89c96b0afe1d51d

/-- A package in lifecycle k whose Vareatu and OEM keys are the base point, host memory holding b at 0x1000. -/
def rooted (k : Nat) (b : List Byte) (p : Pkg) : Pkg :=
  { p with host := ((b.zipIdx 0x1000).filter (·.1 != 0)).map fun e => (e.2, e.1),
           fuses := { p.fuses with root := pubHash, lifecycle := k, oem := if k < 2 then none else some pubHash } }

/-- The registers of a side in lifecycle k. -/
def secure (k : Nat) (d : Side) : Side :=
  ((regs [(F.SEC_STATUS_LIFECYCLE, k), (F.SEC_MONO_COUNT, 1)] d).set64 F.SEC_ID_LO_DEVICE_ID F.SEC_ID_HI_DEVICE_ID 0xEDF9B71224264F8C)

def secCmd (op len k : Nat) (b : List Byte) : State := cmd 0x25 op [(8, 8, 0x1000), (16, 4, len)] (rooted k b) (secure k)

theorem wit_KeysAndStatements_key :
    let s := secCmd 0x61 0 1 package77
    (s.side .a).nextHost s.pkg 0 0x61 = some ⟨0, desc 0x61 [(8, 8, 0x1000)], .fetched⟩ ∧ keyLoadBad (desc 0x61 [(8, 8, 0x1000)]) = none ∧
    memRead s.pkg.host 0x1000 176 = package77 := by decide +kernel

theorem wit_KeysAndStatements_unwraps :
    (match (secCmd 0x61 0 1 []).sideA.keyCheck (secCmd 0x61 0 1 []).pkg package77 with | .ok k => k | .error _ => 0) =
      0x201f1e1d1c1b1a191817161514131211100f0e0d0c0b0a090807060504030201 := by decide +kernel

theorem wit_KeysAndStatements_keyFails :
    (match (secCmd 0x61 0 4 []).sideA.keyCheck (secCmd 0x61 0 4 []).pkg package77 with | .ok _ => 0 | .error r => r.status) = stSECURITY ∧
    keyLoadBad (desc 0x61 [(8, 8, 0x1001)]) = some 8 := by decide +kernel

theorem wit_KeysAndStatements_statement :
    let s := secCmd 0x64 0 1 token1
    ((s.side .a).nextHost s.pkg 0 0x64).isSome = true ∧ memRead s.pkg.host 0x1000 272 = token1 := by decide +kernel

theorem wit_KeysAndStatements_token :
    (secCmd 0x64 0 1 []).sideA.stmtCheck (secCmd 0x64 0 1 []).pkg token1 = none ∧ stType token1 = 1 ∧ stArg token1 = 1 ∧
    ((secCmd 0x64 0 1 []).sideA.stmtCheck (secCmd 0x64 0 1 []).pkg []).isSome = true ∧
    ((secCmd 0x64 0 1 []).sideA.stmtCheck (secCmd 0x64 0 1 []).pkg (token1.take 180)).isSome = true := by decide +kernel

theorem wit_RecipesClearsAndDebug_recipe :
    let s := secCmd 0x65 240 2 recipe7
    ((s.side .a).nextHost s.pkg 0 0x65).isSome = true ∧ recipeCmdBad (desc 0x65 [(8, 8, 0x1000), (16, 4, 240)]) = none ∧
    recipeCmdBad (desc 0x65 [(8, 8, 0x1000), (16, 4, 239)]) = some 16 ∧ memRead s.pkg.host 0x1000 240 = recipe7 ∧ SideId.a = s.pkg.hold.active := by
  decide +kernel

theorem wit_RecipesClearsAndDebug_signed : (secCmd 0x65 240 2 []).sideA.recipeCheck (secCmd 0x65 240 2 []).pkg recipe7 240 = none ∧
    ((secCmd 0x65 240 1 []).sideA.recipeCheck (secCmd 0x65 240 1 []).pkg recipe7 240).isSome = true := by decide +kernel

theorem wit_RecipesClearsAndDebug_entries (s : State) : s.setAll ((List.range (leAt recipe7 6 2)).map (recEntry recipe7)) = some s ∧
    s.limitOut ((List.range (leAt recipe7 6 2)).map (recEntry recipe7)) = none := by
  have h : (List.range (leAt recipe7 6 2)).map (recEntry recipe7) = [⟨3, 16, 0, 0, 0⟩] := by decide +kernel
  rw [h]
  exact ⟨rfl, rfl⟩

theorem wit_RecipesClearsAndDebug_close : ((up (one 0x25 0x66)).side .a).nextStart 0 0x66 = some ⟨0, desc 0x66 [], .fetched⟩ ∧
    firstNonZero (desc 0x66 []) 4 60 = none ∧ firstNonZero (desc 0x66 [(4, 1, 1)]) 4 60 = some 4 ∧ (up.side .a).level ≠ 2 ∧
    ((up (regs [(F.SEC_STATUS_DEBUG, 2)])).side .a).level = 2 := by decide +kernel

theorem wit_RecipesClearsAndDebug_cert : ((up (one 0x25 0x67)).side .a).nextStart 0 0x67 = some ⟨0, desc 0x67 [], .fetched⟩ ∧
    firstSome [firstNonZero (desc 0x67 []) 4 12, firstNonZero (desc 0x67 []) 28 36] = none ∧
    firstSome [firstNonZero (desc 0x67 [(4, 1, 1)]) 4 12, firstNonZero (desc 0x67 [(4, 1, 1)]) 28 36] = some 4 ∧ (up.side .a).lifecycle ≠ 4 ∧
    ((up (regs [(F.SEC_STATUS_LIFECYCLE, 4)])).side .a).lifecycle = 4 := by decide +kernel

theorem wit_RecipesClearsAndDebug_clear :
    let d := (up (regs [(F.SEC_STATUS_CLEARING, 1)])).side .a
    (d.flag F.SEC_STATUS_CLEARING && d.plateWindow && !d.sec.clearing) = true ∧
    ((up.side .a).flag F.SEC_STATUS_CLEARING && (up.side .a).plateWindow && !(up.side .a).sec.clearing) = false := by decide +kernel

theorem wit_RecipesClearsAndDebug_debug : up.actSide.level = 0 ∧ State.reset.pkg.hold.alive .a = false ∧ up.pkg.hold.alive .b = true ∧
    (up (regs [(F.SEC_STATUS_DEBUG, 2)])).actSide.level = 2 ∧ up.guarded 0 = false ∧
    (up (regs [(F.SEC_STATUS_GUARD, 1)])).guarded 0x800028 = true ∧ stType [] ≠ 1 := by decide +kernel

/-! Tests. What is expected comes from the spec's worked examples or from the test vectors of a standard. -/

/-- The outcome is a next state with a property. -/
def nextWith (o : Host.Outcome State Fault Refusal) (f : State → Bool) : Bool :=
  match o with
  | .next t => f t
  | _ => false

/-- A state in which the token waits as ring 0's next command, STATEMENT at the front of the queue. -/
def tokenWaits : State := { secCmd 0x64 0 1 token1 with pending := [.statement 0 none] }

theorem wit_EveryStepKeepsMemoriesCanonical : tokenWaits.memOk ∧ nextWith (step tokenWaits) (fun t => t.pkg.host.length == tokenWaits.pkg.host.length) = true := by
  unfold State.memOk flashWf; decide +kernel

theorem wit_EveryStepMovesFusesOnward : tokenWaits.pkg.fuses.sound ∧ nextWith (step tokenWaits) (fun t => t.pkg.fuses.mono == 2) = true := by
  unfold Fuses.sound; decide +kernel

theorem wit_PackageKept : nextWith (exec (.statement 0 none) (secCmd 0x64 0 1 token1)) (fun t => t.pkg.fuses != (secCmd 0x64 0 1 token1).pkg.fuses) = true := by
  decide +kernel

theorem wit_EmptyQueueIdles : State.reset.pending = [] := rfl

/-- "abc" (FIPS 180-4). -/
theorem test_sha384 : beNat (sha384 [0x61, 0x62, 0x63]) =
    0xcb00753f45a35e8bb5a03d699ac65007272c32ab0eded1631a8b605a43ff5bed8086072ba1e7cc2358baeca134c825a7 := by decide +kernel

/-- FIPS 197, C.3. -/
theorem test_aes256 :
    beNat (aesEnc (aesKeys (beBytes 32 0x000102030405060708090a0b0c0d0e0f101112131415161718191a1b1c1d1e1f))
      (beBytes 16 0x00112233445566778899aabbccddeeff)) = 0x8ea2b7ca516745bfeafc49904b496089 := by decide +kernel

/-- 05_strudel_compression.md, two lines written two ways: header, tokens, trailer. -/
theorem test_tokens : (tokDecode 32 16 [0x4D, 0xFF, 0x8F]) = ⟨List.replicate 32 0xFF, none⟩ ∧ (tokDecode 32 16 [0x5D, 0xFF]).err = none ∧
    crc32c (List.replicate 32 0xFF) = 0x62A8AB43 ∧
    headerBad ((leBytes 4 0x00017D5A) ++ leBytes 4 0x0010001F ++ leBytes 4 3 ++ leBytes 4 0xFFEE82B9) = none := by decide +kernel

/-- 05_strudel_compression.md, a line that does not compress. -/
theorem test_stored_block :
    mkBlock 1 ((List.range 32).map (BitVec.ofNat 8)) 0 ((List.range 32).map (BitVec.ofNat 8)) =
      leBytes 4 0x01017D5A ++ leBytes 4 0x1F ++ leBytes 4 0x20 ++ leBytes 4 0xFEFE829A ++ (List.range 32).map (BitVec.ofNat 8) ++
        leBytes 4 0x46DD794E := by decide +kernel

/-- 02_timebase_and_ticks.md, device time and the next edge. -/
theorem test_device_time :
    ((((up.side .a).set64 F.TIM_OFFSET_LO_VAL F.TIM_OFFSET_HI_VAL 1700000000000000000).set64 F.TIM_EPOCH_LO_VAL F.TIM_EPOCH_HI_VAL
      1000000000000).set64 F.TIM_RATE_LO_VAL F.TIM_RATE_HI_VAL 21990233).devAt 1250000003217 = 1700001250005003217 := by decide +kernel

/-- 12_motion_profiles.md: the raw counts c put through the filter with W = 2 and x_f = 1,000. -/
def filtered (c : List Nat) : Side :=
  c.foldl (fun d c => (d.setEnc 0 { d.enc 0 with lat := c }).posFilter 0 0)
    ((up (regs [(F.MOT_ENC_CFG_MODE 0, 1), (F.MOT_CFG_ENC_EN 0, 1), (F.MOT_CFG_JWIN 0, 2), (F.MOT_FPOS_XF 0, 1000)])).side .a)

theorem test_position_filter : (filtered [1001, 1000, 999]).get (F.MOT_FPOS_XF 0) = 1001 ∧ (filtered [1001, 1000, 999, 1002, 998]).get (F.MOT_FPOS_XF 0) = 998 ∧
    (filtered [1001, 1000, 999, 1002, 998, 995]).get (F.MOT_FPOS_XF 0) = 995 ∧ (filtered [1001, 1000, 999, 1002, 998, 995]).get (F.MOT_JREJ_COUNT 0) = 2 := by
  decide +kernel

/-- 13_motor_field_control.md: 3 windows of 32 samples at 20 MHz, B = 500 ns, T = 50,000 ns. -/
theorem test_duty_limit_and_prediction : predict 12000 16000 64 = 13000 ∧ predict 13000 16000 64 = 13750 ∧
    65536 - ceilDiv (65536 * 5800) 50000 = 57933 := by decide +kernel

/-- A step takes the front command alone. -/
theorem test_step_front : nextWith (step { up with pending := [.assert, .release] }) (fun t => t.pending == [.release] && t.pkg.hold.get F.HLD_FLT_STATUS_STATE == 1) = true := by
  decide +kernel

/-- An empty queue: raw time moves on by 1 ns. -/
theorem test_step_idle : nextWith (step State.reset) (fun t => t.pkg.now == 1 && t.pending.isEmpty) = true := by decide +kernel

/-- The table gives no row bits. -/
theorem test_no_words (n w : Nat) : decodeTableWord n w = none ∧ State.reset.withFetchWord n w = State.reset := ⟨rfl, rfl⟩

/-- R12, R408: TWN_PEEK_ADDR takes an address, its reserved bits stay 0; TWN_SWAP_PERIOD takes 1 to 86,400 s and no more. -/
theorem test_register_write :
    nextWith (exec (.registerWrite .pf0 0 F.TWN_PEEK_ADDR_WORD.off 0x80500008) up)
      (fun t => t.sideA.word F.TWN_PEEK_ADDR_WORD.off == 0x500008 && t.sideA.get F.TWN_STATUS_WINDOW_VIOL == 0) = true ∧
    nextWith (exec (.registerWrite .pf0 0 F.TWN_SWAP_PERIOD_S.off 86400) up)
      (fun t => t.sideA.get F.TWN_SWAP_PERIOD_S == 86400 && t.sideA.get F.TWN_STATUS_WINDOW_VIOL == 0) = true ∧
    nextWith (exec (.registerWrite .pf0 0 F.TWN_SWAP_PERIOD_S.off 86401) up)
      (fun t => t.sideA.get F.TWN_SWAP_PERIOD_S != 86401 && t.sideA.get F.TWN_STATUS_WINDOW_VIOL == 1) = true := by decide +kernel

/-- Operands at the ends of their ranges are well formed. -/
theorem test_wf_accepts : ([
    .blockLock 15 1, .sosEdge 15 (2 ^ 64 - 1) 63, .quadEdge 23 true true (2 ^ 64 - 1), .heartbeatReceived .b 2 true 0, .throttlePauseEnd 41 0,
    .wakeGroupRestored 7, .pcieLinkUp 5 2, .ptpMessageReceived 1 {} 65535 0, .thermalSample 143 65535 0, .sqEnable 63 1, .sdValue 63 [],
    .registerWrite .pf1 0 0x3FFFFFC 0] : List Instr).all Instr.wf = true := by decide

end Sys2Proof.Tests
end

section
/-! Accesses of the host to registers (R12, R57, R58, R60): a write to a side's register that has no rule of its own, a write that is
not aligned, an access to nothing, and the flag of HIF_STATUS that the last two set. -/

namespace Sys2Proof.Machine

/-! A register without a rule of its own. -/

/-- The rows, by base, of the sides' registers that have no command bits but a rule of their own: their write is judged by their
block, or does more than take the word. -/
def ownRuleBases : List Nat :=
  [0x10008, 0x20008, 0x30008, 0x100054, 0xE00090, 0x301000, 0x880038, 0x88003C, 0x400000, 0xA00000, 0xC00100,
    0x880010, 0xF00010, 0xF01000, 0xB30100, 0xB00000, 0xB10000, 0xB20000, 0x500014, 0x1210000, 0x1210004]

/-- A row without a rule of its own is no listed row. -/
theorem ne_of_not_ownRule {b c : Nat} (hb : b ∉ ownRuleBases) (hc : c ∈ ownRuleBases) : b ≠ c :=
  fun h => hb (h ▸ hc)

/-- Nothing follows the accepted write of a register without a rule of its own. -/
theorem Side.written_of_not_ownRule (p : Pkg) {b : Nat} (ix : List Nat) (v : Nat) (before d : Side) (hb : b ∉ ownRuleBases) :
    Side.written p b ix v before d = d := by
  have hd : b ≠ F.MPL_HM_DECAY_DK.off := ne_of_not_ownRule hb (by decide)
  have hl : b ≠ F.PTP_LIMITS_ALIGN_NS.off := ne_of_not_ownRule hb (by decide)
  simp only [ownRuleBases, List.mem_cons, List.not_mem_nil, or_false, not_or] at hb
  simp [Side.written, hb, hd, hl]

/-- A register without a rule of its own, of an engine that is not waiting for its restoration, is judged by the common checks. -/
theorem Side.regWrite_of_not_ownRule (p : Pkg) {r : RegRow} (ix : List Nat) {a : Nat} (v : Nat) {d : Side}
    (hb : r.base ∉ ownRuleBases) (hs : d.staleAt a = false) : d.regWrite p r ix a v = d.plainWrite p r ix a v := by
  simp only [ownRuleBases, List.mem_cons, List.not_mem_nil, or_false, not_or] at hb
  simp [Side.regWrite, hs, hb]

/-- Where the checks are met, the register takes its new word. -/
theorem Side.plainWrite_of_regOk (p : Pkg) {r : RegRow} {ix : List Nat} {a v : Nat} {d : Side} (hb : r.base ∉ ownRuleBases)
    (hok : d.regOk p r ix a v = true) :
    d.plainWrite p r ix a v = if rowNew r (d.word a) v = d.word a then d else d.setWord a (rowNew r (d.word a) v) := by
  simp only [Side.plainWrite, hok, if_true]
  exact Side.written_of_not_ownRule p ix v d _ hb

/-- Where they are not, and no PWM output of the law set is at stake, the write is refused. -/
theorem Side.plainWrite_of_not_regOk (p : Pkg) {r : RegRow} {ix : List Nat} {a v : Nat} {d : Side}
    (hok : d.regOk p r ix a v = false) (hl : d.lawTakes r.base ix (rowNew r (d.word a) v) = false) :
    d.plainWrite p r ix a v = d.refuse p a := by
  simp [Side.plainWrite, hok, hl]

theorem Side.setWord_word_self (d : Side) (a v : Nat) : (d.setWord a v).word a = v % 2 ^ 32 := rfWord_put_self _ _ _

theorem Side.setWord_word_ne (d : Side) {a o : Nat} (v : Nat) (h : o ≠ a) : (d.setWord a v).word o = d.word o :=
  rfWord_put_ne _ _ h

theorem Side.onlyRegs_refl (d : Side) : d.onlyRegs d := rfl

theorem Side.onlyRegs_setWord (d : Side) (a v : Nat) : d.onlyRegs (d.setWord a v) := rfl

/-- An accepted write: the register holds what its fields' access types make of the written word, every other keeps its word, and
nothing but registers changes. -/
theorem Side.plainWrite_effect (p : Pkg) {r : RegRow} {ix : List Nat} {a v : Nat} {d : Side} (hb : r.base ∉ ownRuleBases)
    (hok : d.regOk p r ix a v = true) :
    (d.plainWrite p r ix a v).word a = rowNew r (d.word a) v % 2 ^ 32 ∧
      d.regsBut (fun o => o = a) (d.plainWrite p r ix a v) ∧ d.onlyRegs (d.plainWrite p r ix a v) := by
  rw [Side.plainWrite_of_regOk p hb hok]
  split
  case isTrue hsame =>
    rw [hsame]
    exact ⟨(Nat.mod_eq_of_lt (rfWord_lt d.rf a)).symm, fun _ _ => rfl, d.onlyRegs_refl⟩
  case isFalse =>
    exact ⟨d.setWord_word_self a _, fun o ho => d.setWord_word_ne _ ho, d.onlyRegs_setWord a _⟩

/-! From the host's write to the side's register. -/

/-- A taken write to a register of the sides above region 0, with neither commands nor a rule of its own, is the write of each
running side's register. -/
theorem State.sideWrite_of_not_ownRule (s : State) {r : RegRow} {ix : List Nat} {a : Nat} (v : Nat) (hr : 0x100000 ≤ a)
    (hc : cmdBits State.peek r.base (ix.getD 0 0) = []) (hb : r.base ∉ ownRuleBases) :
    s.sideWrite r ix a v = s.both fun p d => d.regWrite p r ix a v := by
  have hregion : a / 0x100000 ≠ 0 := by omega
  have hport : r.base ≠ 0x400000 := ne_of_not_ownRule hb (by decide)
  simp only [State.sideWrite, hc, List.isEmpty_nil, Bool.not_true, Bool.false_eq_true, if_false, hregion, hport]

/-- An aligned write of PF0 to a register of the sides that is present and that its block takes reaches the sides. -/
theorem State.bar0Write_of_accepts {s : State} {r : RegRow} {ix : List Nat} {a v : Nat} (h4 : a % 4 = 0) (hside : a < 0x3F00000)
    (hf : regFind a = some (r, ix)) (habs : regAbsent s.pkg.fuses.is7708 r ix = false) (hb : r.base ∉ ownRuleBases)
    (hacc : s.accepts true a v) : s.bar0Write .pf0 true a v = s.sideWrite r ix a v := by
  have hregion : a / 0x100000 ≠ 0x3F := by omega
  have hroute : r.base ≠ 0x1210000 := ne_of_not_ownRule hb (by decide)
  have hmask : r.base ≠ 0x1210004 := ne_of_not_ownRule hb (by decide)
  have hput : s.regPut true r ix a v = s.sideWrite r ix a v := by
    simp only [State.regPut, hacc.1, Bool.not_true, Bool.false_eq_true, if_false, hregion]
    exact State.accepts_asWrite hacc _
  simpa [State.bar0Write, h4, hf, habs, hroute, hmask] using hput

/-- REGISTER_WRITE through PF0 of such a register: both sides write it. -/
theorem exec_registerWrite_of_not_ownRule {s : State} {r : RegRow} {ix : List Nat} {a : Nat} {v : Word} (h4 : a % 4 = 0)
    (hside : a < 0x3F00000) (hr : 0x100000 ≤ a) (hf : regFind a = some (r, ix))
    (habs : regAbsent s.pkg.fuses.is7708 r ix = false) (hc : cmdBits State.peek r.base (ix.getD 0 0) = [])
    (hb : r.base ∉ ownRuleBases) (hacc : s.accepts true a v.toNat) :
    exec (.registerWrite .pf0 0 a v) s = .next (s.both fun p d => d.regWrite p r ix a v.toNat) := by
  have hsize : a < bar0Size .pf0 := Nat.lt_trans hside (by decide)
  change Host.Outcome.next (s.regWriteCmd .pf0 0 a v.toNat) = _
  rw [State.regWriteCmd, if_pos rfl, if_pos hsize, ← State.sideWrite_of_not_ownRule s _ hr hc hb,
    ← State.bar0Write_of_accepts h4 hside hf habs hb hacc]
  rfl

/-- A write to BAR0 that is not aligned does what BAD_ACCESS does (R58). -/
theorem exec_registerWrite_unaligned {fn : Fn} {a : Nat} (v : Word) (s : State) (h4 : a % 4 ≠ 0) (hsize : a < bar0Size fn) :
    exec (.registerWrite fn 0 a v) s = exec (.badAccess fn) s := by
  change Host.Outcome.next (s.regWriteCmd fn 0 a v.toNat) = .next (s.badAccessBy fn)
  rw [State.regWriteCmd, if_pos rfl, if_pos hsize, State.bar0Write, if_pos h4]
  cases fn <;> rfl

/-! The flags of HIF_STATUS (R58, R60). -/

/-- From d to e, a flag of HIF_STATUS is set and posted: it reads 1, and no register beside HIF_STATUS and those of a posting
changes. -/
def Side.hifFlagged (d : Side) (f : Fld) (e : Side) : Prop :=
  e.get f = 1 ∧ d.regsBut (fun o => o = 0 ∨ postRegs o) e ∧ d.onlyRegs e

/-- An offset outside the registers of a posting, in the words of the statements. -/
theorem offPost_of_not_postRegs {o : Nat} (h : ¬postRegs o) : offPost o := not_or.1 h

/-- A fault of source 0 with a one-bit flag of HIF_STATUS. -/
theorem Side.fault_hifFlagged (d : Side) (p : Pkg) {f : Fld} (ho : f.off = 0) (hw : f.w = 1) (hl : f.lo < 32) :
    d.hifFlagged f (d.fault p 0 f) := by
  have hoff : offPost f.off := by rw [ho, offPost]; omega
  have hpresent : srcAbsent p.fuses.is7708 0 = false := by cases p.fuses.is7708 <;> rfl
  refine ⟨d.fault_flag p 0 f (by decide) hoff hpresent hw hl, fun o hn => ?_, d.onlyRegs_fault d p 0 f d.onlyRegs_refl⟩
  obtain ⟨hn0, hnpost⟩ := not_or.1 hn
  exact d.fault_word_ne p 0 f o (by decide) (offPost_of_not_postRegs hnpost) (ho ▸ hn0)

/-- The flag is set on every side that is powered. -/
theorem State.hifFlag_hifFlagged {s : State} {x : SideId} {f : Fld} (hx : s.pkg.hold.alive x = true) (ho : f.off = 0)
    (hw : f.w = 1) (hl : f.lo < 32) : (s.side x).hifFlagged f ((s.hifFlag f).side x) := by
  obtain ⟨l, hside⟩ := State.bothOn_of_alive hx fun p d => d.fault p 0 f
  rw [State.hifFlag, hside]
  exact Side.fault_hifFlagged (s.side x) s.pkg ho hw hl

/-- UNMAPPED_ACCESS of an offset where nothing lies. -/
theorem exec_unmappedAccess {fn : Fn} {bar a : Nat} {s : State} (h4 : a % 4 = 0) (hfree : barFree fn bar a = true)
    (ht : s.takes 0x10000 = true) : exec (.unmappedAccess fn bar a) s = .next (s.hifFlag F.HIF_STATUS_UNMAPPED) := by
  change execUnmappedAccess fn bar a s = _
  simp [execUnmappedAccess, State.unmapped, h4, hfree, ht]

/-- BAD_ACCESS through either function. -/
theorem exec_badAccess (fn : Fn) {s : State} (ht : s.takes 0x10000 = true) :
    exec (.badAccess fn) s = .next (s.hifFlag F.HIF_STATUS_BAD_ACCESS) := by
  change Host.Outcome.next (s.badAccessBy fn) = _
  cases fn <;> simp [State.badAccessBy, State.badAccess, ht]

end Sys2Proof.Machine
end

section
/-! The statement on accesses to registers. -/

namespace Sys2Proof.Proofs
open Sys2Proof Sys2Proof.Machine

/-- Settles O14: a write reaches both sides' registers, where the common checks alone judge it; the two bad accesses set
their flag of HIF_STATUS as a fault. -/
theorem registerAccesses : Obligations.RegisterAccesses := by
  unfold Obligations.RegisterAccesses
  intro fn a v s x
  refine ⟨?plain, fun h4 hsize => exec_registerWrite_unaligned v s h4 hsize, ?unmapped, ?bad⟩
  case plain =>
    intro r ix hrun h4 hside hr hf habs hc hb hacc hstale
    have hexec := exec_registerWrite_of_not_ownRule h4 hside hr hf habs hc hb hacc
    obtain ⟨l, ht⟩ := State.both_of_running hrun fun p d => d.regWrite p r ix a v.toNat
    rw [Side.regWrite_of_not_ownRule s.pkg ix v.toNat hb hstale] at ht
    constructor
    · intro hok
      refine ⟨_, hexec, ?_⟩
      rw [ht]
      exact Side.plainWrite_effect s.pkg hb hok
    · intro hok hl
      refine ⟨_, hexec, ?_⟩
      rw [ht, Side.plainWrite_of_not_regOk s.pkg hok hl]
  case unmapped =>
    intro bar h4 hfree ht hx
    exact ⟨_, exec_unmappedAccess h4 hfree ht, State.hifFlag_hifFlagged hx rfl rfl (by decide)⟩
  case bad =>
    intro ht hx
    exact ⟨_, exec_badAccess fn ht, State.hifFlag_hifFlagged hx rfl rfl (by decide)⟩

end Sys2Proof.Proofs
end

section
/-! A BeamLink port under the operations of its state (R192, R200, R201, R218): what its stream leaves of it, what the sides hand
to it, and a frame that waits for its slot. -/

namespace Sys2Proof.Machine

/-! The port that an update stores. -/

@[simp] theorem State.updPort_port (s : State) (n : Nat) (f : Port → Port) :
    (s.updPort n f).pkg.hold.port n = f (s.pkg.hold.port n) := Hold.port_setPort _ _ _

@[simp] theorem State.updPort_side (s : State) (n : Nat) (f : Port → Port) (z : SideId) : (s.updPort n f).side z = s.side z := by
  cases z <;> rfl

@[simp] theorem State.updPort_running (s : State) (n : Nat) (f : Port → Port) (z : SideId) :
    (s.updPort n f).pkg.hold.running z = s.pkg.hold.running z := rfl

@[simp] theorem State.updPort_fuses (s : State) (n : Nat) (f : Port → Port) : (s.updPort n f).pkg.fuses = s.pkg.fuses := rfl

/-! What a port's stream leaves of it. -/

/-- A port without what its stream changes: the positions and the blocks, the frames that wait, are released or are open, the
numbers of the frames, the commands sent, the powers at the receiver. -/
def Port.unframed (x : Port) : Port :=
  { x with seq := [], txFrames := 0, badCrc := none, cur := [], dot := [], dotOwner := none, ctrl := [], blk := 0, wire := [],
           blanks := [], wait := [], ready := [], pow := [], onAt := [] }

theorem Port.applySet_unframed (x : Port) (leaves : Nat) (l : List (Nat × Nat)) : (x.applySet leaves l).unframed = x.unframed := by
  induction l generalizing x with
  | nil => rfl
  | cons e t ih =>
    rw [Port.applySet, List.foldl_cons]
    refine (ih _).trans ?_
    split <;> rfl

theorem Port.start_unframed (x : Port) (wrong : Nat) (o : Nat × Nat) (f : Fr) : (x.start wrong o f).unframed = x.unframed := by
  cases f with
  | sync edge tick => rfl
  | set l => exact Port.applySet_unframed x (o.1 + 180) l
  | ctrl c arg1 => rfl

theorem Port.slotStep_unframed (x : Port) (origin : Nat → Nat × Nat) (wrong : Nat) :
    (x.slotStep origin wrong).unframed = x.unframed := by
  unfold Port.slotStep
  dsimp only
  split
  case isTrue => rfl
  case isFalse =>
    split
    · rfl
    split
    · rfl
    split
    · exact Port.start_unframed _ _ _ _
    split
    · rfl
    split
    · split <;> rfl
    · rfl

theorem Port.run_unframed (origin : Nat → Nat × Nat) (wrong limit k : Nat) (x : Port) :
    (Port.run origin wrong limit k x).unframed = x.unframed := by
  induction k generalizing x with
  | zero => rfl
  | succ k ih =>
    rw [Port.run]
    split
    · rfl
    · rw [ih, Port.slotStep_unframed]

@[simp] theorem State.runPort_unframed (s : State) (n : Nat) :
    ((s.runPort n).pkg.hold.port n).unframed = (s.pkg.hold.port n).unframed := by
  rw [State.runPort, State.updPort_port, Port.run_unframed]

@[simp] theorem State.portNow_unframed (s : State) (n : Nat) :
    ((s.portNow n).pkg.hold.port n).unframed = (s.pkg.hold.port n).unframed := by
  rw [State.portNow, State.updPort_port]
  exact s.runPort_unframed n

theorem Port.st_of_unframed {x y : Port} (h : x.unframed = y.unframed) : x.st = y.st := congrArg (·.st) h

theorem Port.cut_of_unframed {x y : Port} (h : x.unframed = y.unframed) : x.cut = y.cut := congrArg (·.cut) h

theorem Port.fifo_of_unframed {x y : Port} (h : x.unframed = y.unframed) : x.fifo = y.fifo := congrArg (·.fifo) h

theorem Port.stage_of_unframed {x y : Port} (h : x.unframed = y.unframed) : x.stage = y.stage := congrArg (·.stage) h

/-! What the sides hand to a port (R23, R201, R218). -/

/-- A port without what the sides hand to it: the DOT frames in the output stage, the number of the next one, the gathered
setpoints. -/
def Port.unhanded (x : Port) : Port := { x with num := 0, stage := [], pend := [] }

/-- Storing under one number what differs from the port there only in what the sides hand to it. -/
theorem Hold.setPort_unhanded (h : Hold) (n m : Nat) {x : Port} (hx : x.unhanded = (h.port m).unhanded) :
    ((h.setPort m x).port n).unhanded = (h.port n).unhanded := by
  by_cases hn : n = m
  · rw [hn, Hold.port_setPort, hx]
  · rw [Hold.port_setPort_ne h x hn]

theorem Pkg.emit_unhanded (p : Pkg) (o : Outbound) (n : Nat) : ((p.emit o).hold.port n).unhanded = (p.hold.port n).unhanded := by
  cases o with
  | hostWrite fn a l => rfl
  | msix fn v => rw [Pkg.emit, Pkg.sendMsix_hold]
  | dot m num owner t0 body =>
    rw [Pkg.emit]
    split
    · rfl
    · exact Hold.setPort_unhanded p.hold n m rfl
  | setpt m item v => exact Hold.setPort_unhanded p.hold n m rfl
  | ptp m a msg => rfl

theorem Pkg.send_unhanded (p : Pkg) (o : Outbound) (n : Nat) : ((p.send o).hold.port n).unhanded = (p.hold.port n).unhanded := by
  unfold Pkg.send
  split
  · split
    · exact p.emit_unhanded o n
    · rfl
  · exact p.emit_unhanded o n

theorem Pkg.sends_unhanded (l : List Outbound) (p : Pkg) (n : Nat) :
    ((l.foldl Pkg.send p).hold.port n).unhanded = (p.hold.port n).unhanded := by
  induction l generalizing p with
  | nil => rfl
  | cons o t ih => rw [List.foldl_cons, ih, Pkg.send_unhanded]

theorem State.deliver_unhanded (s : State) (n : Nat) : (s.deliver.pkg.hold.port n).unhanded = (s.pkg.hold.port n).unhanded := by
  unfold State.deliver
  split
  · exact Pkg.sends_unhanded s.actSide.out s.pkg n
  · split <;> rfl

@[simp] theorem State.both_unhanded (s : State) (f : Pkg → Side → Side) (n : Nat) :
    ((s.both f).pkg.hold.port n).unhanded = (s.pkg.hold.port n).unhanded := State.deliver_unhanded _ n

@[simp] theorem State.mirror_unhanded (s : State) (m n : Nat) :
    ((s.mirror m).pkg.hold.port n).unhanded = (s.pkg.hold.port n).unhanded := s.both_unhanded _ n

@[simp] theorem State.holdFault_unhanded (s : State) (src : Nat) (f : Fld) (n : Nat) :
    ((s.holdFault src f).pkg.hold.port n).unhanded = (s.pkg.hold.port n).unhanded := by
  unfold State.holdFault State.holdFaultD
  split
  · rfl
  · exact State.both_unhanded _ _ n

theorem State.fltStart_unhanded (s : State) (causes : List Nat) (n : Nat) :
    ((s.fltStart causes).pkg.hold.port n).unhanded = (s.pkg.hold.port n).unhanded := by
  unfold State.fltStart
  dsimp only
  refine List.foldlRecOn _ _ (motive := fun t : State => (t.pkg.hold.port n).unhanded = (s.pkg.hold.port n).unhanded) ?first ?next
  case first =>
    rw [State.holdFault_unhanded]
    split <;> rfl
  case next =>
    intro t ht k _
    split
    · rw [State.holdFault_unhanded, ht]
    · exact ht

@[simp] theorem State.fltRefresh_unhanded (s : State) (n : Nat) :
    (s.fltRefresh.pkg.hold.port n).unhanded = (s.pkg.hold.port n).unhanded := by
  unfold State.fltRefresh
  dsimp only
  split
  · rfl
  · exact State.fltStart_unhanded _ _ n

theorem Port.st_of_unhanded {x y : Port} (h : x.unhanded = y.unhanded) : x.st = y.st := congrArg (·.st) h

theorem Port.cut_of_unhanded {x y : Port} (h : x.unhanded = y.unhanded) : x.cut = y.cut := congrArg (·.cut) h

theorem Port.wait_of_unhanded {x y : Port} (h : x.unhanded = y.unhanded) : x.wait = y.wait := congrArg (·.wait) h

theorem Port.fifo_of_unhanded {x y : Port} (h : x.unhanded = y.unhanded) : x.fifo = y.fifo := congrArg (·.fifo) h

theorem Port.ready_of_unhanded {x y : Port} (h : x.unhanded = y.unhanded) : x.ready = y.ready := congrArg (·.ready) h

/-! A frame that waits for its slot. -/

/-- No position of a slot that has begun is free any more. -/
theorem State.portNow_blk_le (s : State) (n : Nat) : 2 * slotsBefore n s.pkg.now ≤ ((s.portNow n).pkg.hold.port n).blk := by
  rw [State.portNow, State.updPort_port]
  exact Nat.le_max_right _ _

/-- A port whose stream has come to now stays as it is. -/
theorem State.portNow_of_current {s : State} {n : Nat} (h : 2 * slotsBefore n s.pkg.now ≤ (s.pkg.hold.port n).blk) :
    (s.portNow n).pkg.hold.port n = s.pkg.hold.port n := by
  rw [State.portNow, State.updPort_port, State.runPort, State.updPort_port, Port.run_done _ _ _ _ _ h, Nat.max_eq_left h]

theorem State.sendFrame_port {s : State} {n : Nat} (f : Fr) (hup : (s.pkg.hold.port n).up = true) :
    (s.sendFrame n f).pkg.hold.port n =
      { (s.portNow n).pkg.hold.port n with wait := ((s.portNow n).pkg.hold.port n).wait ++ [f] } := by
  rw [State.sendFrame, if_pos hup, State.updPort_port]

/-- A command of an UP port whose stream has come to now waits behind the frames that wait already. -/
theorem State.sendCtrl_port_of_current {s : State} {n : Nat} (op arg0 arg1 : Nat) (host : Bool)
    (hup : (s.pkg.hold.port n).up = true) (h : 2 * slotsBefore n s.pkg.now ≤ (s.pkg.hold.port n).blk) :
    ∃ c, (s.sendCtrl n op arg0 arg1 host).pkg.hold.port n =
      { s.pkg.hold.port n with wait := (s.pkg.hold.port n).wait ++ [.ctrl c arg1],
                               ctag := ((s.pkg.hold.port n).ctag + 1) % 2 ^ 16 } := by
  refine ⟨⟨(s.pkg.hold.port n).ctag, op, arg0, s.dev, 0, host⟩, ?_⟩
  rw [State.sendCtrl]
  dsimp only
  rw [if_pos hup, State.updPort_port, State.sendFrame_port _ hup, State.portNow_of_current h]

end Sys2Proof.Machine
end

section
/-! SET frames and DOT frames of a port (R23, R201, R205, R206, R218, R398). -/

namespace Sys2Proof.Machine

theorem State.portOk_of_lt {s : State} {n : Nat} (h : n < s.pkg.beams) : s.portOk n = true := decide_eq_true h

/-! SET_FRAME_SEND. -/

theorem exec_setFrameSend {s : State} {n : Nat} (h : n < s.pkg.beams) (k : Nat) :
    exec (.setFrameSend n k) s = .next ((s.advance k).setFrame n) := if_pos (State.portOk_of_lt h)

/-- In a failover gap, on a port that is not TIMED and with no setpoint gathered, no SET frame is sent. -/
theorem State.setFrame_of_none {s : State} {n : Nat}
    (h : s.sends = false ∨ (s.pkg.hold.port n).st ≠ 4 ∨ (s.pkg.hold.port n).pend = []) : s.setFrame n = s := by
  have hc : (!s.sends || decide ((s.pkg.hold.port n).st ≠ 4) || (s.pkg.hold.port n).pend.isEmpty) = true := by
    simpa [or_assoc] using h
  rw [State.setFrame]
  exact if_pos hc

/-- A port x once its SET frame waits, its stream having come to now as y: the first 16 setpoints have gone into the frame, the cut
beams that they set to 0 are released, and o names the beams that UNBLANK is owed to. -/
def Port.setQueued (x y : Port) (o : Nat) : Port :=
  { y with wait := y.wait ++ [.set (x.pend.take 16)], pend := y.pend.drop 16, cut := y.cut - x.released (x.pend.take 16),
           owed := o }

theorem Port.setQueued_wait (x y : Port) (o : Nat) : (x.setQueued y o).wait = y.wait ++ [.set (x.pend.take 16)] := by
  rw [Port.setQueued]

theorem Port.setQueued_cut (x y : Port) (o : Nat) : (x.setQueued y o).cut = y.cut - x.released (x.pend.take 16) := by
  rw [Port.setQueued]

theorem Port.setQueued_st (x y : Port) (o : Nat) : (x.setQueued y o).st = y.st := by rw [Port.setQueued]

theorem Port.setQueued_blk (x y : Port) (o : Nat) : (x.setQueued y o).blk = y.blk := by rw [Port.setQueued]

theorem State.setHold_dwellShow_port (s : State) (n m : Nat) :
    (s.setHold (s.pkg.hold.dwellShow m)).pkg.hold.port n = s.pkg.hold.port n := rfl

/-- A SET frame that is sent waits for its slot before UNBLANK and the judgement of the fault pair follow. -/
theorem State.setFrame_eq {s : State} {n : Nat} (hs : s.sends = true) (hst : (s.pkg.hold.port n).st = 4)
    (hp : (s.pkg.hold.port n).pend ≠ []) : ∃ (t : State) (go : Nat),
      s.setFrame n = ((if go = 0 then t else t.sendCtrl n 1 go 0 false).mirror n).fltRefresh ∧ t.pkg.now = s.pkg.now ∧
      ∃ o, t.pkg.hold.port n = (s.pkg.hold.port n).setQueued ((s.portNow n).pkg.hold.port n) o := by
  have hup : (s.pkg.hold.port n).up = true := by simp [Port.up, hst]
  rw [State.setFrame]
  dsimp only
  rw [if_neg (by simp [hs, hst, hp])]
  refine ⟨_, _, rfl, ?now, ?_, ?port⟩
  case now =>
    rw [State.sendFrame, if_pos hup]
    rfl
  case port =>
    rw [State.updPort_port, State.setHold_dwellShow_port, State.updPort_port, State.sendFrame_port _ hup]
    rfl

/-- A TIMED port's first 16 gathered setpoints wait for their SET frame, and the cut beams that they set to 0 are released. -/
theorem State.setFrame_port {s : State} {n : Nat} (hs : s.sends = true) (hst : (s.pkg.hold.port n).st = 4)
    (hp : (s.pkg.hold.port n).pend ≠ []) :
    .set ((s.pkg.hold.port n).pend.take 16) ∈ ((s.setFrame n).pkg.hold.port n).wait ∧
      ((s.setFrame n).pkg.hold.port n).cut =
        (s.pkg.hold.port n).cut - (s.pkg.hold.port n).released ((s.pkg.hold.port n).pend.take 16) ∧
      ((s.setFrame n).pkg.hold.port n).st = 4 := by
  obtain ⟨t, go, hframe, hnow, o, ht⟩ := State.setFrame_eq hs hst hp
  have hy := s.portNow_unframed n
  have hset : .set ((s.pkg.hold.port n).pend.take 16) ∈ (t.pkg.hold.port n).wait := by
    rw [ht, Port.setQueued_wait]
    exact List.mem_append_right _ (List.mem_singleton_self _)
  have hcut : (t.pkg.hold.port n).cut =
      (s.pkg.hold.port n).cut - (s.pkg.hold.port n).released ((s.pkg.hold.port n).pend.take 16) := by
    rw [ht, Port.setQueued_cut, Port.cut_of_unframed hy]
  have htimed : (t.pkg.hold.port n).st = 4 := by
    rw [ht, Port.setQueued_st, Port.st_of_unframed hy, hst]
  have hcurrent : 2 * slotsBefore n t.pkg.now ≤ (t.pkg.hold.port n).blk := by
    rw [hnow, ht, Port.setQueued_blk]
    exact s.portNow_blk_le n
  have hafter : ((s.setFrame n).pkg.hold.port n).unhanded =
      ((if go = 0 then t else t.sendCtrl n 1 go 0 false).pkg.hold.port n).unhanded := by
    rw [hframe, State.fltRefresh_unhanded, State.mirror_unhanded]
  rw [Port.wait_of_unhanded hafter, Port.cut_of_unhanded hafter, Port.st_of_unhanded hafter]
  split
  case isTrue => exact ⟨hset, hcut, htimed⟩
  case isFalse =>
    obtain ⟨c, hunblank⟩ := State.sendCtrl_port_of_current 1 go 0 false (by simp [Port.up, htimed]) hcurrent
    rw [hunblank]
    exact ⟨List.mem_append_left _ hset, hcut, htimed⟩

/-! DOT_FRAME_RELEASE. -/

theorem exec_dotFrameRelease {s : State} {n : Nat} (h : n < s.pkg.beams) (k : Nat) :
    exec (.dotFrameRelease n k) s = .next ((s.advance k).dotRelease n) := if_pos (State.portOk_of_lt h)

theorem State.dotIntake_port (s : State) (n : Nat) :
    (s.dotIntake n).pkg.hold.port n = (s.pkg.hold.port n).intake (s.entryDue n) := State.updPort_port s n _

/-- What a release leaves of the port before it looks at the FIFO's oldest frame: the due frames have entered, STATE stays. -/
theorem State.dotIntake_portNow (s : State) (n : Nat) {q : List DotF × List DotF}
    (hq : q = takeIn (s.entryDue n) (s.pkg.hold.port n).fifo (s.pkg.hold.port n).stage) :
    (((s.dotIntake n).portNow n).pkg.hold.port n).fifo = q.1 ∧ (((s.dotIntake n).portNow n).pkg.hold.port n).stage = q.2 ∧
      (((s.dotIntake n).portNow n).pkg.hold.port n).st = (s.pkg.hold.port n).st := by
  have h := (s.dotIntake n).portNow_unframed n
  rw [Port.fifo_of_unframed h, Port.stage_of_unframed h, Port.st_of_unframed h, s.dotIntake_port n, hq]
  exact ⟨rfl, rfl, rfl⟩

/-- The frame f leaves the FIFO, where rest stays, at a device time; on a TIMED port it waits for its slot with that time as its
TS. -/
def Port.release (x : Port) (f : DotF) (rest : List DotF) (dev : Nat) : Port :=
  { x with fifo := rest, ready := if x.st = 4 then x.ready ++ [{ f with ts := dev % 2 ^ 32 }] else x.ready }

theorem Port.release_fifo (x : Port) (f : DotF) (rest : List DotF) (dev : Nat) : (x.release f rest dev).fifo = rest := rfl

theorem Port.release_stage (x : Port) (f : DotF) (rest : List DotF) (dev : Nat) : (x.release f rest dev).stage = x.stage := rfl

theorem Port.release_getLast? {x : Port} (f : DotF) (rest : List DotF) (dev : Nat) (h : x.st = 4) :
    (x.release f rest dev).ready.getLast? = some { f with ts := dev % 2 ^ 32 } := by
  rw [Port.release]
  dsimp only
  rw [if_pos h, List.getLast?_concat]

/-- The FIFO's oldest frame leaves it when it is due and not late. -/
theorem State.dotRelease_of_due {s : State} {n : Nat} {f : DotF} {rest : List DotF}
    (hf : (((s.dotIntake n).portNow n).pkg.hold.port n).fifo = f :: rest) (hdue : reached s.dev (s.emission n f.t0) = true)
    (hlate : dotLate s.dev f.t0 = false) :
    s.dotRelease n = ((s.dotIntake n).portNow n).updPort n fun x => x.release f rest s.dev := by
  rw [State.dotRelease]
  simp only [hf, hdue, hlate, Bool.not_false, Bool.and_self, if_true]
  rfl

/-- With no frame in the FIFO, or before the oldest one's emission time, none leaves it. -/
theorem State.dotRelease_of_not_due {s : State} {n : Nat}
    (h : ∀ f rest, (((s.dotIntake n).portNow n).pkg.hold.port n).fifo = f :: rest → reached s.dev (s.emission n f.t0) = false) :
    s.dotRelease n = (s.dotIntake n).portNow n := by
  rw [State.dotRelease]
  split
  case h_1 => rfl
  case h_2 f rest hf => rw [h f rest hf, Bool.false_and, if_neg (by decide)]

/-! DOT_LATE. -/

theorem exec_dotLate {s : State} {n : Nat} (h : n < s.pkg.beams) (k : Nat) :
    exec (.dotLate n k) s = .next ((s.advance k).dotLateDrop n) := if_pos (State.portOk_of_lt h)

/-- The released frames that wait for a slot are those of l. -/
def Port.setReady (x : Port) (l : List DotF) : Port := { x with ready := l }

theorem Port.setReady_ready (x : Port) (l : List DotF) : (x.setReady l).ready = l := rfl

theorem Port.setReady_fifo (x : Port) (l : List DotF) : (x.setReady l).fifo = x.fifo := rfl

/-- The frames in the elastic FIFO are those of l. -/
def Port.setFifo (x : Port) (l : List DotF) : Port := { x with fifo := l }

theorem Port.setFifo_fifo (x : Port) (l : List DotF) : (x.setFifo l).fifo = l := rfl

theorem Port.setFifo_ready (x : Port) (l : List DotF) : (x.setFifo l).ready = x.ready := rfl

/-- The oldest released frame is discarded when it is late. -/
theorem State.dotLateDrop_of_ready {s : State} {n : Nat} {f : DotF} {rest : List DotF}
    (hr : (((s.dotIntake n).runPort n).pkg.hold.port n).ready = f :: rest) (hlate : dotLate s.dev f.t0 = true) :
    s.dotLateDrop n = (((s.dotIntake n).runPort n).updPort n (·.setReady rest)).both fun p d => d.dotLateCount p n := by
  rw [State.dotLateDrop]
  simp only [hr, hlate, if_true]
  rfl

/-- With no frame released, the FIFO's oldest frame is discarded when it is late. -/
theorem State.dotLateDrop_of_fifo {s : State} {n : Nat} {f : DotF} {rest : List DotF}
    (hr : (((s.dotIntake n).runPort n).pkg.hold.port n).ready = [])
    (hf : (((s.dotIntake n).runPort n).pkg.hold.port n).fifo = f :: rest) (hlate : dotLate s.dev f.t0 = true) :
    s.dotLateDrop n = (((s.dotIntake n).runPort n).updPort n (·.setFifo rest)).both fun p d => d.dotLateCount p n := by
  rw [State.dotLateDrop]
  simp only [hr, hf, hlate, if_true]
  rfl

theorem Pkg.beams_le (p : Pkg) : p.beams ≤ 16 := by
  unfold Pkg.beams
  split <;> decide

/-- A port of the part is a source that can post. -/
theorem srcAbsent_srcBlk {p : Pkg} {n : Nat} (h : n < p.beams) : srcAbsent p.fuses.is7708 (srcBlk n) = false := by
  unfold Pkg.beams at h
  unfold srcAbsent srcBlk
  split at h
  case isTrue => simp; omega
  case isFalse hp => simp [hp]

/-- Side e shows of port n, as d does not yet, that one more DOT frame is discarded as late (R205, R220). -/
def Side.dotLateShown (d : Side) (n : Nat) (e : Side) : Prop :=
  e.get (F.BLK_STATUS_DOT_LATE n) = 1 ∧ e.get (F.BLK_DOT_LATE_COUNT n) = (d.get (F.BLK_DOT_LATE_COUNT n) + 1) % 2 ^ 32

theorem Side.dotLateCount_shown (d : Side) {p : Pkg} {n : Nat} (h : n < p.beams) : d.dotLateShown n (d.dotLateCount p n) := by
  have hn : n < 16 := Nat.lt_of_lt_of_le h p.beams_le
  have hsrc : srcBlk n < 0x1000 := by unfold srcBlk; omega
  have hflag : offPost (F.BLK_STATUS_DOT_LATE n).off := by simp only [offPost, F.BLK_STATUS_DOT_LATE]; omega
  have hcount : offPost (F.BLK_DOT_LATE_COUNT n).off := by simp only [offPost, F.BLK_DOT_LATE_COUNT]; omega
  have hne : (F.BLK_DOT_LATE_COUNT n).off ≠ (F.BLK_STATUS_DOT_LATE n).off := by
    simp only [F.BLK_DOT_LATE_COUNT, F.BLK_STATUS_DOT_LATE]; omega
  constructor
  · exact Side.fault_flag _ p _ _ hsrc hflag (srcAbsent_srcBlk h) rfl (show 10 < 32 by decide)
  · rw [Side.dotLateCount, Side.fault_get _ p _ _ _ hsrc hcount hne]
    exact rfGet_rfSet_self d.rf (F.BLK_DOT_LATE_COUNT n) _ (show 0 + 32 ≤ 32 by decide)

/-- Whichever frame is discarded, the port keeps what the discard makes of its frames and every running side shows it. -/
theorem State.dotLateDrop_effect {s : State} {n : Nat} (g : Port → Port) (hn : n < s.pkg.beams)
    (hdrop : s.dotLateDrop n = (((s.dotIntake n).runPort n).updPort n g).both fun p d => d.dotLateCount p n) :
    ((s.dotLateDrop n).pkg.hold.port n).ready = (g (((s.dotIntake n).runPort n).pkg.hold.port n)).ready ∧
      ((s.dotLateDrop n).pkg.hold.port n).fifo = (g (((s.dotIntake n).runPort n).pkg.hold.port n)).fifo ∧
      ∀ z, s.pkg.hold.running z = true → (s.side z).dotLateShown n ((s.dotLateDrop n).side z) := by
  have hport : ((s.dotLateDrop n).pkg.hold.port n).unhanded = (g (((s.dotIntake n).runPort n).pkg.hold.port n)).unhanded := by
    rw [hdrop, State.both_unhanded, State.updPort_port]
  refine ⟨Port.ready_of_unhanded hport, Port.fifo_of_unhanded hport, fun z hz => ?_⟩
  obtain ⟨l, hside⟩ := State.both_of_running (s := ((s.dotIntake n).runPort n).updPort n g) hz fun p d => d.dotLateCount p n
  have hbefore : (((s.dotIntake n).runPort n).updPort n g).side z = s.side z := by
    rw [State.updPort_side, State.runPort, State.updPort_side, State.dotIntake, State.updPort_side]
  rw [hdrop, hside, hbefore]
  exact Side.dotLateCount_shown (s.side z) hn

end Sys2Proof.Machine
end

section
/-! The statement on the frames that leave a port. -/

namespace Sys2Proof.Proofs
open Sys2Proof Sys2Proof.Machine

/-- Settles O25: the stream of a port changes neither its STATE nor its cut beams, FIFO and output stage, and what the sides
hand to it touches no frame that waits, so each command's own update is what is left of it. That frames stay in the output stage
while the FIFO is full is log entry 159; the 180 ns in `dotLate` are log entry 100. -/
theorem framesLeaveAPort : Obligations.FramesLeaveAPort := by
  unfold Obligations.FramesLeaveAPort
  intro n k s x hn hx
  have hport : (s.advance k).pkg.hold.port n = x := by rw [State.advance_pkg, Pkg.advance_hold, hx]
  have hbeams : n < (s.advance k).pkg.beams := by rwa [Pkg.beams, State.advance_pkg, Pkg.advance_fuses]
  subst hport
  refine ⟨?set, ?noSet, ?release, ?late⟩
  case set =>
    intro hs hst hp
    exact ⟨_, _, exec_setFrameSend hn k, rfl, State.setFrame_port hs hst hp⟩
  case noSet =>
    intro h
    rw [exec_setFrameSend hn k, State.setFrame_of_none h]
  case release =>
    intro q hq
    obtain ⟨hfifo, hstage, hst⟩ := (s.advance k).dotIntake_portNow n hq
    constructor
    · intro f rest hf hdue hlate
      refine ⟨_, _, exec_dotFrameRelease hn k, rfl, ?_⟩
      rw [State.dotRelease_of_due (hfifo.trans hf) hdue hlate, State.updPort_port, Port.release_fifo, Port.release_stage]
      exact ⟨rfl, hstage, fun htimed => Port.release_getLast? f rest _ (hst.trans htimed)⟩
    · intro hnone
      refine ⟨_, _, exec_dotFrameRelease hn k, rfl, ?_⟩
      rw [State.dotRelease_of_not_due]
      · exact ⟨hfifo, hstage⟩
      · rw [hfifo]
        intro f rest hf
        rcases hnone with hempty | ⟨f', rest', hf', hdue⟩
        · rw [hempty] at hf
          cases hf
        · rw [hf'] at hf
          cases hf
          exact hdue
  case late =>
    intro r hr f rest hlate hoccurs
    subst hr
    refine ⟨_, _, exec_dotLate hn k, rfl, ?_⟩
    rcases hoccurs with hready | ⟨hready, hfifo⟩
    · obtain ⟨hready', hfifo', hshown⟩ := State.dotLateDrop_effect _ hbeams (State.dotLateDrop_of_ready hready hlate)
      rw [Port.setReady_ready] at hready'
      rw [Port.setReady_fifo] at hfifo'
      refine ⟨fun _ => ⟨hready', hfifo'⟩, fun hnil => absurd (hready.symm.trans hnil) (List.cons_ne_nil f rest), ?_⟩
      simpa only [State.advance_pkg, Pkg.advance_hold, State.advance_side, Side.dotLateShown] using hshown
    · obtain ⟨hready', hfifo', hshown⟩ := State.dotLateDrop_effect _ hbeams (State.dotLateDrop_of_fifo hready hfifo hlate)
      rw [Port.setFifo_ready] at hready'
      rw [Port.setFifo_fifo] at hfifo'
      refine ⟨fun hcons => absurd (hcons.symm.trans hready) (List.cons_ne_nil f rest),
        fun _ => ⟨hfifo', hready'.trans hready⟩, ?_⟩
      simpa only [State.advance_pkg, Pkg.advance_hold, State.advance_side, Side.dotLateShown] using hshown

end Sys2Proof.Proofs
end

section
/-! Times (R37): the model's signed difference is that of 64-bit words, and so counts the nanoseconds between two times that lie less
than half the counter's range apart. -/

namespace Sys2Proof.Machine

theorem toSigned_eq_toInt {w : Nat} (hw : 0 < w) (v : Nat) : toSigned w v = (BitVec.ofNat w v).toInt := by
  obtain ⟨k, rfl⟩ : ∃ k, w = k + 1 := ⟨w - 1, by omega⟩
  have hpow : 2 ^ (k + 1) = 2 * 2 ^ k := Nat.pow_succ'
  simp only [toSigned, BitVec.toInt_eq_toNat_cond, BitVec.toNat_ofNat, Nat.add_sub_cancel]
  split <;> split <;> omega

theorem tdiff_eq_toInt_sub (a b : Nat) : tdiff a b = (BitVec.ofNat 64 a - BitVec.ofNat 64 b).toInt := by
  rw [tdiff, toSigned_eq_toInt (by decide)]
  congr 1
  apply BitVec.eq_of_toNat_eq
  simp only [BitVec.toNat_ofNat, BitVec.toNat_sub]
  omega

/-- The difference of two times is their distance, wrapped into the signed range of 64 bits. -/
theorem tdiff_eq_bmod (a b : Nat) : tdiff a b = ((a : Int) - b).bmod (2 ^ 64) := by
  rw [tdiff_eq_toInt_sub, BitVec.toInt_sub, BitVec.toInt_ofNat', BitVec.toInt_ofNat', Int.sub_bmod_bmod, Int.bmod_sub_bmod]

theorem reached_iff (a b : Nat) : reached a b = true ↔ 0 ≤ tdiff a b := decide_eq_true_iff

theorem tdiff_add_left (b : Nat) {k : Nat} (h : k < 2 ^ 63) : tdiff (b + k) b = k := by
  have hdist : ((b + k : Nat) : Int) - b = k := by omega
  rw [tdiff_eq_bmod, hdist]
  exact Int.bmod_eq_of_le (by omega) (by omega)

theorem tdiff_add_right (b : Nat) {k : Nat} (h : k < 2 ^ 63) : tdiff b (b + k) = -k := by
  have hdist : (b : Int) - (b + k : Nat) = -k := by omega
  rw [tdiff_eq_bmod, hdist]
  exact Int.bmod_eq_of_le (by omega) (by omega)

end Sys2Proof.Machine
end

section
/-! The alarm comparators (R39, R40): the three flags of an alarm's control register, what arming and firing leave on a side, and the
commands on both sides. -/

namespace Sys2Proof.Machine

theorem Side.get_set_self (d : Side) (f : Fld) (v : Nat) (h : f.lo + f.w ≤ 32) : (d.set f v).get f = v % 2 ^ f.w :=
  rfGet_rfSet_self d.rf f v h

/-- Setting one field keeps the others of its word. -/
theorem Side.get_set_bits (d : Side) (f g : Fld) (v : Nat) (h : g.lo + g.w ≤ f.lo ∨ f.lo + f.w ≤ g.lo) (hg : g.lo + g.w ≤ 32) :
    (d.set f v).get g = d.get g :=
  rfGet_rfSet_bits d.rf f g v h hg

/-- A notice changes no field outside the event registers. -/
theorem Side.notice_get (d : Side) (p : Pkg) (src c x y : Nat) (g : Fld) (hs : src < 0x1000) (h : offPost g.off) :
    (d.notice p src c x y).get g = d.get g := Side.get_of_word g (d.notice_word p src c x y g.off hs h)

/-- Posting a notice changes registers and posts only. -/
theorem Side.onlyRegs_notice (d e : Side) (p : Pkg) (src c x y : Nat) (h : d.onlyRegs e) : d.onlyRegs (e.notice p src c x y) := by
  unfold Side.onlyRegs Side.unpost at *
  rw [← h]; simp

/-! The control register of alarm n. -/

/-- Side d with the three flags of alarm n written. -/
def Side.setAlarm (n armed fired late : Nat) (d : Side) : Side :=
  ((d.set (F.TIM_ALM_CTRL_ARMED n) armed).set (F.TIM_ALM_CTRL_FIRED n) fired).set (F.TIM_ALM_CTRL_LATE n) late

/-- The three flags of alarm n read so. -/
def Side.alarmShows (n armed fired late : Nat) (d : Side) : Prop :=
  d.get (F.TIM_ALM_CTRL_ARMED n) = armed ∧ d.get (F.TIM_ALM_CTRL_FIRED n) = fired ∧ d.get (F.TIM_ALM_CTRL_LATE n) = late

theorem Side.setAlarm_shows (d : Side) (n : Nat) {armed fired late : Nat} (ha : armed < 2) (hf : fired < 2) (hl : late < 2) :
    (d.setAlarm n armed fired late).alarmShows n armed fired late := by
  unfold Side.setAlarm
  refine ⟨?armed, ?fired, ?late⟩
  case armed =>
    rw [Side.get_set_bits _ _ _ _ (.inl (show 8 + 1 ≤ 10 by decide)) (show 8 + 1 ≤ 32 by decide),
      Side.get_set_bits _ _ _ _ (.inl (show 8 + 1 ≤ 9 by decide)) (show 8 + 1 ≤ 32 by decide),
      Side.get_set_self _ _ _ (show 8 + 1 ≤ 32 by decide)]
    exact Nat.mod_eq_of_lt ha
  case fired =>
    rw [Side.get_set_bits _ _ _ _ (.inl (show 9 + 1 ≤ 10 by decide)) (show 9 + 1 ≤ 32 by decide),
      Side.get_set_self _ _ _ (show 9 + 1 ≤ 32 by decide)]
    exact Nat.mod_eq_of_lt hf
  case late =>
    rw [Side.get_set_self _ _ _ (show 10 + 1 ≤ 32 by decide)]
    exact Nat.mod_eq_of_lt hl

theorem Side.setAlarm_word_ne (d : Side) {n o : Nat} (armed fired late : Nat) (h : o ≠ (F.TIM_ALM_CTRL_ARMED n).off) :
    (d.setAlarm n armed fired late).word o = d.word o := by
  calc (d.setAlarm n armed fired late).word o
      _ = ((d.set (F.TIM_ALM_CTRL_ARMED n) armed).set (F.TIM_ALM_CTRL_FIRED n) fired).word o := Side.word_set_ne _ _ _ h
      _ = (d.set (F.TIM_ALM_CTRL_ARMED n) armed).word o := Side.word_set_ne _ _ _ h
      _ = d.word o := Side.word_set_ne _ _ _ h

theorem Side.onlyRegs_setAlarm (d : Side) (n armed fired late : Nat) : d.onlyRegs (d.setAlarm n armed fired late) := rfl

/-- The control register of an alarm is none of those that a posting changes. -/
theorem offPost_alarmCtrl {n : Nat} (h : n < 8) : offPost (F.TIM_ALM_CTRL_ARMED n).off := by
  simp only [offPost, F.TIM_ALM_CTRL_ARMED]; omega

/-! What arming, disarming and firing leave. -/

/-- Arming keeps the target as it stands, and whether device time has reached it already (R39, R40). -/
theorem Side.alarmArm_target (d : Side) (p : Pkg) (n : Nat) :
    tget (0, false) (d.alarmArm p n).tim.alarms n = (d.get64 (F.TIM_ALM_LO_VAL n) (F.TIM_ALM_HI_VAL n),
      reached (d.dev p) (d.get64 (F.TIM_ALM_LO_VAL n) (F.TIM_ALM_HI_VAL n))) :=
  tget_tset_self _ _ _ _

/-- Arming sets ARMED and clears FIRED and LATE (R39). -/
theorem Side.alarmArm_shows (d : Side) (p : Pkg) (n : Nat) : (d.alarmArm p n).alarmShows n 1 0 0 :=
  d.setAlarm_shows n (show 1 < 2 by decide) (show 0 < 2 by decide) (show 0 < 2 by decide)

theorem Side.alarmArm_word_ne (d : Side) (p : Pkg) {n o : Nat} (h : o ≠ (F.TIM_ALM_CTRL_ARMED n).off) :
    (d.alarmArm p n).word o = d.word o := d.setAlarm_word_ne 1 0 0 h

/-- Disarming clears ARMED and keeps FIRED. -/
theorem Side.alarmDisarm_flags (d : Side) (n : Nat) : (d.alarmDisarm n).get (F.TIM_ALM_CTRL_ARMED n) = 0 ∧
    (d.alarmDisarm n).get (F.TIM_ALM_CTRL_FIRED n) = d.get (F.TIM_ALM_CTRL_FIRED n) :=
  ⟨d.get_set_self (F.TIM_ALM_CTRL_ARMED n) 0 (show 8 + 1 ≤ 32 by decide),
    d.get_set_bits (F.TIM_ALM_CTRL_ARMED n) (F.TIM_ALM_CTRL_FIRED n) 0 (.inr (show 8 + 1 ≤ 9 by decide)) (show 9 + 1 ≤ 32 by decide)⟩

theorem Side.alarmDisarm_word_ne (d : Side) {n o : Nat} (h : o ≠ (F.TIM_ALM_CTRL_ARMED n).off) :
    (d.alarmDisarm n).word o = d.word o := d.word_set_ne _ 0 h

/-- A firing writes the alarm's flags and posts its notice (R39, R476). -/
theorem Side.alarmFires_eq (d : Side) (p : Pkg) (n : Nat) (late : Bool) : d.alarmFires p n late =
    (d.setAlarm n 0 1 (b2n late)).notice p (0x268 + n) 9 (b2n late) (tget (0, false) d.tim.alarms n).1 := rfl

theorem Side.alarmFires_shows (d : Side) (p : Pkg) {n : Nat} (late : Bool) (h : n < 8) :
    (d.alarmFires p n late).alarmShows n 0 1 (b2n late) := by
  have hsrc : 0x268 + n < 0x1000 := by omega
  have hoff : offPost (F.TIM_ALM_CTRL_ARMED n).off := offPost_alarmCtrl h
  have hlate : b2n late < 2 := by cases late <;> decide
  rw [Side.alarmFires_eq, Side.alarmShows, Side.notice_get _ _ _ _ _ _ _ hsrc hoff,
    Side.notice_get _ _ _ _ _ _ (F.TIM_ALM_CTRL_FIRED n) hsrc hoff, Side.notice_get _ _ _ _ _ _ (F.TIM_ALM_CTRL_LATE n) hsrc hoff]
  exact d.setAlarm_shows n (by decide) (by decide) hlate

theorem Side.alarmFires_tim (d : Side) (p : Pkg) (n : Nat) (late : Bool) : (d.alarmFires p n late).tim = d.tim := by
  rw [Side.alarmFires_eq, Side.notice_tim]; rfl

theorem Side.alarmFires_regsBut (d : Side) (p : Pkg) {n : Nat} (late : Bool) (h : n < 8) :
    d.regsBut (fun o => o = (F.TIM_ALM_CTRL_ARMED n).off ∨ postRegs o) (d.alarmFires p n late) := by
  intro o ho
  obtain ⟨hctrl, hpost⟩ := not_or.1 ho
  rw [Side.alarmFires_eq, Side.notice_word _ _ _ _ _ _ _ (by omega) (offPost_of_not_postRegs hpost)]
  exact d.setAlarm_word_ne 0 1 (b2n late) hctrl

theorem Side.onlyRegs_alarmFires (d : Side) (p : Pkg) (n : Nat) (late : Bool) : d.onlyRegs (d.alarmFires p n late) :=
  d.onlyRegs_notice _ p _ _ _ _ (d.onlyRegs_setAlarm n 0 1 (b2n late))

/-- From d to e, alarm n fires: ARMED clears, FIRED is set with LATE, and beside the alarm's control register only a posting's
registers change. -/
def Side.alarmFired (d : Side) (n : Nat) (late : Bool) (e : Side) : Prop :=
  e.alarmShows n 0 1 (b2n late) ∧ e.tim = d.tim ∧
    d.regsBut (fun o => o = (F.TIM_ALM_CTRL_ARMED n).off ∨ postRegs o) e ∧ d.onlyRegs e

/-- Packets handed out do not bear on it. -/
theorem Side.alarmFired_out {d e : Side} {n : Nat} {late : Bool} (h : d.alarmFired n late e) (l : List Outbound) :
    d.alarmFired n late { e with out := l } := h

theorem Side.alarmFires_fired (d : Side) (p : Pkg) {n : Nat} (late : Bool) (h : n < 8) :
    d.alarmFired n late (d.alarmFires p n late) :=
  ⟨d.alarmFires_shows p late h, d.alarmFires_tim p n late, d.alarmFires_regsBut p late h, d.onlyRegs_alarmFires p n late⟩

theorem Side.alarmFire_of_reached {d : Side} {p : Pkg} {n : Nat} (ha : d.flag (F.TIM_ALM_CTRL_ARMED n) = true)
    (hr : reached (d.dev p) (tget (0, false) d.tim.alarms n).1 = true) :
    d.alarmFire p n = d.alarmFires p n (tget (0, false) d.tim.alarms n).2 := by
  simp [Side.alarmFire, ha, hr]

theorem Side.alarmFire_of_not_reached {d : Side} {p : Pkg} {n : Nat}
    (hr : reached (d.dev p) (tget (0, false) d.tim.alarms n).1 = false) : d.alarmFire p n = d := by
  simp [Side.alarmFire, hr]

/-! The commands. -/

theorem exec_alarmArm {n : Nat} {s : State} (h : n < 8) (hacc : s.accepts true (0xE000A8 + 0x10 * n) 1) :
    exec (.alarmArm n) s = .next (s.both fun p d => d.alarmArm p n) := by
  change execAlarmArm n s = _
  rw [execAlarmArm, if_pos h, State.accepts_asWrite hacc]

theorem exec_alarmDisarm {n : Nat} {s : State} (h : n < 8) (hacc : s.accepts true (0xE000A8 + 0x10 * n) 2) :
    exec (.alarmDisarm n) s = .next (s.both fun _ d => d.alarmDisarm n) := by
  change execAlarmDisarm n s = _
  rw [execAlarmDisarm, if_pos h, State.accepts_asWrite hacc]

theorem exec_alarmFire {n : Nat} (h : n < 8) (k : Nat) (s : State) :
    exec (.alarmFire n k) s = .next ((s.advance k).both fun p d => d.alarmFire p n) := by
  change execAlarmFire n k s = _
  rw [execAlarmFire, if_pos h]

end Sys2Proof.Machine
end

section
/-! The statements on the order of times and on the alarms. -/

namespace Sys2Proof.Proofs
open Sys2Proof Sys2Proof.Machine

/-- Settles O60: the model's difference is the two's complement difference of the two words, and that of two times k < 2^63
apart is k or -k, wrap or not. -/
theorem timesCompareBySignOfDifference : Obligations.TimesCompareBySignOfDifference := by
  unfold Obligations.TimesCompareBySignOfDifference
  intro a b
  refine ⟨reached_iff a b, tdiff_eq_toInt_sub a b, fun k hk => ⟨?later, fun hpos => ?earlier⟩⟩
  case later =>
    rw [reached_iff, tdiff_add_left b hk]
    exact Int.natCast_nonneg k
  case earlier =>
    rw [Bool.eq_false_iff, ne_eq, reached_iff, tdiff_add_right b hk]
    omega

/-- Settles O12: each command runs its alarm's own operation on the running side, from that side's device time; a firing is
the write of the three flags and a notice, which touches neither the flags nor the kept targets. -/
theorem alarmsArmAndFire : Obligations.AlarmsArmAndFire := by
  unfold Obligations.AlarmsArmAndFire
  intro n k s x hn hx
  refine ⟨?arm, ?disarm, ?fires, ?waits⟩
  case arm =>
    intro hacc
    obtain ⟨l, ht⟩ := State.both_of_running hx fun p d => d.alarmArm p n
    obtain ⟨harmed, hfired, hlate⟩ := (s.side x).alarmArm_shows s.pkg n
    refine ⟨_, exec_alarmArm hn hacc, ?_⟩
    rw [ht]
    exact ⟨harmed, hfired, hlate, (s.side x).alarmArm_target s.pkg n, fun o ho => (s.side x).alarmArm_word_ne s.pkg ho⟩
  case disarm =>
    intro hacc
    obtain ⟨l, ht⟩ := State.both_of_running hx fun _ d => d.alarmDisarm n
    obtain ⟨harmed, hfired⟩ := (s.side x).alarmDisarm_flags n
    refine ⟨_, exec_alarmDisarm hn hacc, ?_⟩
    rw [ht]
    exact ⟨harmed, hfired, fun o ho => (s.side x).alarmDisarm_word_ne ho, (s.side x).onlyRegs_refl⟩
  case fires =>
    intro harm hreach
    obtain ⟨l, ht⟩ := State.both_advance_of_running hx k fun p d => d.alarmFire p n
    rw [Side.alarmFire_of_reached harm hreach] at ht
    have hfires := Side.alarmFired_out ((s.side x).alarmFires_fired (s.pkg.advance k) (tget (0, false) (s.side x).tim.alarms n).2 hn) l
    rw [← ht] at hfires
    obtain ⟨⟨harmed, hfired, hlate⟩, htim, hregs, honly⟩ := hfires
    exact ⟨_, exec_alarmFire hn k s, harmed, hfired, hlate, htim, hregs, honly⟩
  case waits =>
    intro hwait
    obtain ⟨l, ht⟩ := State.both_advance_of_running hx k fun p d => d.alarmFire p n
    refine ⟨_, exec_alarmFire hn k s, ?_⟩
    rw [ht, Side.alarmFire_of_not_reached hwait]
    exact ⟨rfl, (s.side x).onlyRegs_refl⟩

end Sys2Proof.Proofs
end
section
/-! Fields of a side's registers under an update, and updates that change nothing of a side but its registers and rings. -/

namespace Sys2Proof.Machine

/-- Two fields have no bit in common. -/
def Fld.apart (f g : Fld) : Prop := g.off ≠ f.off ∨ g.lo + g.w ≤ f.lo ∨ f.lo + f.w ≤ g.lo

theorem rfGet_rfSet_apart (rf : Tab Word) {f g : Fld} (v : Nat) (h : f.apart g) (hg : g.lo + g.w ≤ 32) :
    rfGet (rfSet rf f v) g = rfGet rf g := by
  rcases h with hoff | hbits
  · exact rfGet_rfSet_off rf f g v hoff
  · exact rfGet_rfSet_bits rf f g v hbits hg

theorem Side.get_set_apart (d : Side) {f g : Fld} (v : Nat) (h : f.apart g) (hg : g.lo + g.w ≤ 32) : (d.set f v).get g = d.get g :=
  rfGet_rfSet_apart d.rf v h hg

theorem Side.get_set_off (d : Side) {f g : Fld} (v : Nat) (h : g.off ≠ f.off) : (d.set f v).get g = d.get g :=
  rfGet_rfSet_off d.rf f g v h

/-- A field of a register whose word has just been written. -/
theorem Side.get_setWord (d : Side) {g : Fld} {o : Nat} (v : Nat) (h : g.off = o) (hg : g.lo + g.w ≤ 32) :
    (d.setWord o v).get g = bits v g.lo g.w := by
  subst h
  exact rfGet_put_self d.rf g v hg

/-- What changes registers and rings only, twice. -/
theorem Side.onlyRegs_trans {d e f : Side} (h : d.onlyRegs e) (h' : e.onlyRegs f) : d.onlyRegs f :=
  (congrArg d.unpost h').trans h

end Sys2Proof.Machine
end

section
/-! A submission ring's CFG (R61 to R63, R81, R87, R89): what the write that enables it and the write that disables it leave. -/

namespace Sys2Proof.Machine

/-! The MODE field of the channel that a ring targets. -/

theorem Side.dmaRefreshSq_word (d : Side) (n : Nat) {o : Nat} (h : o < 0x100000) : (d.dmaRefreshSq n).word o = d.word o := by
  rw [Side.dmaRefreshSq]
  split
  · exact d.word_set_ne _ _ (by simp only [F.DMA_STATUS_MODE]; omega)
  · rfl

theorem Side.dmaRefreshSq_get (d : Side) (n : Nat) {g : Fld} (h : g.off < 0x100000) : (d.dmaRefreshSq n).get g = d.get g :=
  Side.get_of_word g (d.dmaRefreshSq_word n h)

@[simp] theorem Side.dmaRefreshSq_hif (d : Side) (n : Nat) : (d.dmaRefreshSq n).hif = d.hif := by
  rw [Side.dmaRefreshSq]
  split <;> rfl

theorem Side.onlyRegs_dmaRefreshSq {d e : Side} (n : Nat) (h : d.onlyRegs e) : d.onlyRegs (e.dmaRefreshSq n) := by
  rw [Side.dmaRefreshSq]
  split
  · exact h
  · exact h

/-! The fields of the CFG word that is stored. -/

theorem bits_sqCfgWord_enable (v : Nat) : bits (sqCfgWord v) 0 1 = bits v 0 1 := by
  simp only [sqCfgWord, bits]; omega

theorem bits_sqCfgWord_target (v : Nat) : bits (sqCfgWord v) 16 6 = bits v 16 6 := by
  simp only [sqCfgWord, bits]; omega

theorem bits_zero_one_of_not_bit {v : Nat} (h : bit v 0 = false) : bits v 0 1 = 0 := by
  simpa [bit, bits] using h

/-! Enabling. -/

/-- Ring n of side d, started with a CFG word, before MODE of its channel is brought up to date. -/
def Side.sqStarted (n v : Nat) (d : Side) : Side :=
  (((((d.setWord (0x10008 + 0x40 * n) (sqCfgWord v)).set (F.HIF_SQ_STATE_HEAD n) 0).set (F.HIF_SQ_STATE_TAIL n) 0).set
    (F.HIF_SQ_STATUS_STATE n) 1).set (F.HIF_SQ_STATUS_OWN_STALL n) 0).setSqList n []

theorem Side.sqCfgWrite_of_enable {d : Side} (p : Pkg) {n v : Nat} (h0 : d.sqState n = 0) (hen : bit v 0 = true)
    (hok : d.sqEnableOk n v = true) : d.sqCfgWrite p n v = (d.sqStarted n v).dmaRefreshSq n := by
  rw [Side.sqCfgWrite]
  simp only [h0, hen, hok, if_true]
  rfl

@[simp] theorem Side.get_setSqList (d : Side) (n : Nat) (l : List Desc) (g : Fld) : (d.setSqList n l).get g = d.get g := rfl

theorem Side.sqStarted_reads (d : Side) (n v : Nat) : (d.sqStarted n v).get (F.HIF_SQ_STATUS_STATE n) = 1 ∧
    (d.sqStarted n v).get (F.HIF_SQ_STATE_HEAD n) = 0 ∧ (d.sqStarted n v).get (F.HIF_SQ_STATE_TAIL n) = 0 ∧
    (d.sqStarted n v).get (F.HIF_SQ_STATUS_OWN_STALL n) = 0 := by
  simp (disch := simp only [Fld.apart, F.HIF_SQ_STATUS_STATE, F.HIF_SQ_STATUS_OWN_STALL, F.HIF_SQ_STATE_HEAD,
    F.HIF_SQ_STATE_TAIL] <;> omega) [Side.sqStarted, Side.get_set_self, Side.get_set_apart]

theorem Side.sqStarted_target (d : Side) (n v : Nat) : (d.sqStarted n v).get (F.HIF_SQ_CFG_TARGET n) = bits v 16 6 := by
  simp (disch := simp only [F.HIF_SQ_STATUS_STATE, F.HIF_SQ_STATUS_OWN_STALL, F.HIF_SQ_STATE_HEAD,
    F.HIF_SQ_STATE_TAIL, F.HIF_SQ_CFG_TARGET] <;> omega) only [Side.sqStarted, Side.get_setSqList, Side.get_set_off]
  exact (Side.get_setWord _ _ rfl (show 16 + 6 ≤ 32 by decide)).trans (bits_sqCfgWord_target v)

theorem Side.sqStarted_sqList (d : Side) (n v : Nat) : (d.sqStarted n v).sqList n = [] := Side.sqList_setSqList _ n []

theorem Side.onlyRegs_sqStarted (d : Side) (n v : Nat) : d.onlyRegs (d.sqStarted n v) := rfl

/-- From d to e, ring n starts with a CFG word: RUNNING, empty, with the target that the word names. -/
def Side.sqStarts (d : Side) (n v : Nat) (e : Side) : Prop :=
  e.sqState n = 1 ∧ e.get (F.HIF_SQ_STATE_HEAD n) = 0 ∧ e.get (F.HIF_SQ_STATE_TAIL n) = 0 ∧
    e.get (F.HIF_SQ_STATUS_OWN_STALL n) = 0 ∧ e.sqTarget n = bits v 16 6 ∧ e.sqList n = [] ∧ d.onlyRegs e

theorem Side.sqCfgWrite_starts {d : Side} (p : Pkg) {n v : Nat} (hn : n < 64) (h0 : d.sqState n = 0) (hen : bit v 0 = true)
    (hok : d.sqEnableOk n v = true) : d.sqStarts n v (d.sqCfgWrite p n v) := by
  have hget : ∀ g : Fld, g.off < 0x100000 → ((d.sqStarted n v).dmaRefreshSq n).get g = (d.sqStarted n v).get g :=
    fun g hg => Side.dmaRefreshSq_get _ n hg
  have hreg : 0x10014 + 0x40 * n < 0x100000 := by omega
  obtain ⟨hstate, hhead, htail, hstall⟩ := d.sqStarted_reads n v
  rw [Side.sqCfgWrite_of_enable p h0 hen hok, Side.sqStarts, Side.sqState, Side.sqTarget, Side.sqList, Side.dmaRefreshSq_hif]
  refine ⟨(hget _ hreg).trans hstate, ?head, ?tail, (hget _ hreg).trans hstall, ?target, d.sqStarted_sqList n v, ?only⟩
  case head => exact (hget _ (show 0x10010 + 0x40 * n < 0x100000 by omega)).trans hhead
  case tail => exact (hget _ (show 0x10010 + 0x40 * n < 0x100000 by omega)).trans htail
  case target => exact (hget _ (show 0x10008 + 0x40 * n < 0x100000 by omega)).trans (d.sqStarted_target n v)
  case only => exact Side.onlyRegs_dmaRefreshSq n (d.onlyRegs_sqStarted n v)

/-! Disabling. -/

/-- Ring n of side d with a CFG word stored that disables it, before it is looked at whether anything is left in it. -/
def Side.sqStopped (n v : Nat) (d : Side) : Side :=
  ((d.setWord (0x10008 + 0x40 * n) (sqCfgWord v)).set (F.HIF_SQ_STATUS_STATE n) 3).setSqList n (abortUnstarted (d.sqList n))

theorem Side.sqCfgWrite_of_disable {d : Side} (p : Pkg) {n v : Nat} (hst : d.sqState n = 1 ∨ d.sqState n = 2)
    (hen : bit v 0 = false) (hkeeps : d.sqCfgKeeps n v = true) : d.sqCfgWrite p n v = (d.sqStopped n v).sqSettle n := by
  have h0 : d.sqState n ≠ 0 := by omega
  have h3 : d.sqState n ≠ 3 := by omega
  rw [Side.sqCfgWrite]
  simp only [h0, h3, hen, hkeeps, if_false, Bool.not_true, Bool.false_eq_true]
  rfl

theorem Side.sqStopped_sqState (d : Side) (n v : Nat) : (d.sqStopped n v).sqState n = 3 :=
  Side.get_set_self _ (F.HIF_SQ_STATUS_STATE n) 3 (show 0 + 2 ≤ 32 by decide)

theorem Side.sqStopped_sqList (d : Side) (n v : Nat) : (d.sqStopped n v).sqList n = abortUnstarted (d.sqList n) :=
  Side.sqList_setSqList _ n _

theorem Side.sqStopped_enable (d : Side) {n v : Nat} (hen : bit v 0 = false) :
    (d.sqStopped n v).get (F.HIF_SQ_CFG_ENABLE n) = 0 := by
  have hoff : (F.HIF_SQ_CFG_ENABLE n).off ≠ (F.HIF_SQ_STATUS_STATE n).off := by
    simp only [F.HIF_SQ_CFG_ENABLE, F.HIF_SQ_STATUS_STATE]; omega
  rw [Side.sqStopped, Side.get_setSqList, Side.get_set_off _ _ hoff]
  calc (d.setWord (0x10008 + 0x40 * n) (sqCfgWord v)).get (F.HIF_SQ_CFG_ENABLE n)
      _ = bits (sqCfgWord v) 0 1 := Side.get_setWord _ _ rfl (show 0 + 1 ≤ 32 by decide)
      _ = bits v 0 1 := bits_sqCfgWord_enable v
      _ = 0 := bits_zero_one_of_not_bit hen

theorem Side.onlyRegs_sqStopped (d : Side) (n v : Nat) : d.onlyRegs (d.sqStopped n v) := rfl

theorem Side.sqSettle_of_empty {d : Side} {n : Nat} (h3 : d.sqState n = 3) (hl : d.sqList n = []) :
    d.sqSettle n = (d.set (F.HIF_SQ_STATUS_STATE n) 0).dmaRefreshSq n := by
  simp [Side.sqSettle, h3, hl]

/-- A ring that does not stop, or that still has a descriptor, stays as it is. -/
theorem Side.sqSettle_of_busy {d : Side} {n : Nat} (h : d.sqState n ≠ 3 ∨ d.sqList n ≠ []) : d.sqSettle n = d := by
  rcases h with h | h <;> simp [Side.sqSettle, h]

/-- From d to e, ring n is disabled: STOPPING with what it had fetched and not started aborted, or DISABLED where that is nothing. -/
def Side.sqStops (d : Side) (n : Nat) (e : Side) : Prop :=
  e.sqList n = abortUnstarted (d.sqList n) ∧ e.sqState n = (if (d.sqList n).isEmpty then 0 else 3) ∧
    e.get (F.HIF_SQ_CFG_ENABLE n) = 0 ∧ d.onlyRegs e

theorem Side.sqCfgWrite_stops {d : Side} (p : Pkg) {n v : Nat} (hn : n < 64) (hst : d.sqState n = 1 ∨ d.sqState n = 2)
    (hen : bit v 0 = false) (hkeeps : d.sqCfgKeeps n v = true) : d.sqStops n (d.sqCfgWrite p n v) := by
  rw [Side.sqCfgWrite_of_disable p hst hen hkeeps, Side.sqStops]
  by_cases hl : d.sqList n = []
  · have hempty : (d.sqStopped n v).sqList n = [] := by rw [Side.sqStopped_sqList, hl]; rfl
    rw [Side.sqSettle_of_empty (d.sqStopped_sqState n v) hempty, Side.sqList, Side.dmaRefreshSq_hif, Side.sqState,
      Side.dmaRefreshSq_get _ n (show 0x10014 + 0x40 * n < 0x100000 by omega),
      Side.dmaRefreshSq_get _ n (show 0x10008 + 0x40 * n < 0x100000 by omega)]
    refine ⟨d.sqStopped_sqList n v, ?state, ?enable, ?only⟩
    case state =>
      rw [Side.get_set_self _ _ _ (show 0 + 2 ≤ 32 by decide), hl]
      rfl
    case enable =>
      rw [Side.get_set_off _ _ (show 0x10008 + 0x40 * n ≠ 0x10014 + 0x40 * n by omega)]
      exact d.sqStopped_enable hen
    case only => exact Side.onlyRegs_dmaRefreshSq n (d.onlyRegs_sqStopped n v)
  · have hbusy : (d.sqStopped n v).sqList n ≠ [] := by
      rw [Side.sqStopped_sqList, abortUnstarted]
      exact fun h => hl (List.map_eq_nil_iff.1 h)
    rw [Side.sqSettle_of_busy (.inr hbusy)]
    refine ⟨d.sqStopped_sqList n v, ?_, d.sqStopped_enable hen, d.onlyRegs_sqStopped n v⟩
    rw [d.sqStopped_sqState, if_neg (by simpa using hl)]

/-! RESUME. -/

theorem Side.sqResume_of_halted {d : Side} {n : Nat} (h : d.sqState n = 2) :
    d.sqResume n = d.set (F.HIF_SQ_STATUS_STATE n) 1 := if_pos h

/-! The commands. -/

theorem exec_sqEnable {n : Nat} {v : Word} {s : State} (hn : n < 64) (hen : bit v.toNat 0 = true)
    (hacc : s.accepts (decide (n < 16)) (0x10008 + 0x40 * n) v.toNat) :
    exec (.sqEnable n v) s = .next (s.bothOn fun p d => d.sqCfgWrite p n v.toNat) := by
  change execSqEnable n v s = _
  rw [execSqEnable, if_pos (by simp [hn, hen]), State.accepts_asWrite hacc]

theorem exec_sqDisable {n : Nat} {v : Word} {s : State} (hn : n < 64) (hen : bit v.toNat 0 = false)
    (hacc : s.accepts (decide (n < 16)) (0x10008 + 0x40 * n) v.toNat) :
    exec (.sqDisable n v) s = .next (s.bothOn fun p d => d.sqCfgWrite p n v.toNat) := by
  change execSqDisable n v s = _
  rw [execSqDisable, if_pos (by simp [hn, hen]), State.accepts_asWrite hacc]

theorem exec_resume {n : Nat} {s : State} (hn : n < 64) (hacc : s.accepts (decide (n < 16)) (0x1000C + 0x40 * n) 1) :
    exec (.resume n) s = .next (s.bothOn fun _ d => d.sqResume n) := by
  change execResume n s = _
  rw [execResume, if_pos hn, State.accepts_asWrite hacc]

end Sys2Proof.Machine
end

section
/-! The statements on which rings belong to which function and on the control of a submission ring. -/

namespace Sys2Proof.Proofs
open Sys2Proof Sys2Proof.Machine

/-- Settles O58: a ring number below 16 is of PF0 and every other of PF1, which is R56's division of 0 to 63; the event rings have
their function's number. -/
theorem ringsBelongToFunctions : Obligations.RingsBelongToFunctions := by
  unfold Obligations.RingsBelongToFunctions
  refine ⟨fun n hn => ?_, rfl, rfl⟩
  have hfn : ringFnNum n = if n < 16 then .pf0 else .pf1 := rfl
  refine ⟨?_, ?_, rfl⟩
  · rw [hfn]
    split <;> simp <;> omega
  · rw [hfn]
    split <;> simp <;> omega

/-- Settles O4: each command's write takes effect on every powered side, where ring n starts, stops or runs on. That a descriptor
which a check has failed keeps its status is log entry 139. -/
theorem submissionRingControl : Obligations.SubmissionRingControl := by
  unfold Obligations.SubmissionRingControl
  intro n v s x hn hx
  refine ⟨?enable, ?disable, ?resume⟩
  case enable =>
    intro hacc hen h0 hok
    obtain ⟨l, ht⟩ := State.bothOn_of_alive hx fun p d => d.sqCfgWrite p n v.toNat
    refine ⟨_, exec_sqEnable hn hen hacc, ?_⟩
    rw [ht]
    exact Side.sqCfgWrite_starts s.pkg hn h0 hen hok
  case disable =>
    intro hacc hen hst hkeeps
    obtain ⟨l, ht⟩ := State.bothOn_of_alive hx fun p d => d.sqCfgWrite p n v.toNat
    refine ⟨_, exec_sqDisable hn hen hacc, ?_⟩
    rw [ht]
    exact Side.sqCfgWrite_stops s.pkg hn hst hen hkeeps
  case resume =>
    intro hacc hhalted
    obtain ⟨l, ht⟩ := State.bothOn_of_alive hx fun _ d => d.sqResume n
    refine ⟨_, exec_resume hn hacc, ?_⟩
    rw [ht, Side.sqResume_of_halted hhalted]
    exact ⟨(s.side x).get_set_self (F.HIF_SQ_STATUS_STATE n) 1 (show 0 + 2 ≤ 32 by decide),
      fun o ho => (s.side x).word_set_ne _ 1 ho, rfl⟩

end Sys2Proof.Proofs
end

section
/-! Completion and event rings, and the doorbells of all rings (R70, R75 to R78, R87, R89). -/

namespace Sys2Proof.Machine

/-! The CFG of a completion or event ring. -/

theorem bits_ringCfgWord_size (v : Nat) : bits (ringCfgWord v) 1 4 = bits v 1 4 := by
  simp only [ringCfgWord, bits]; omega

/-- Ring r of side d with a CFG word that starts it: RUNNING, empty, with write phase 1 (R70). -/
def Side.ringZeroed (r : RingId) (v : Nat) (d : Side) : Side :=
  (((((d.setWord (ringBase r + 8) (ringCfgWord v)).set (rHead r) 0).set (rTail r) 0).set (rPhase r) 1).set
    (rState r) 1).set ⟨ringBase r + 0x14, 16, 16⟩ 0

/-- The same with no message owed for the ring. -/
def Side.ringStarted (r : RingId) (v : Nat) (d : Side) : Side :=
  { d.ringZeroed r v with hif := { (d.ringZeroed r v).hif with msg := tset (d.ringZeroed r v).hif.msg (ringIx r) {} } }

theorem Side.ringStarted_get (d : Side) (r : RingId) (v : Nat) (g : Fld) : (d.ringStarted r v).get g = (d.ringZeroed r v).get g := rfl

theorem Side.ringCfgWrite_of_enable {d : Side} (p : Pkg) {r : RingId} {v : Nat} (h0 : d.get (rState r) = 0)
    (hsize : 4 ≤ bits v 1 4) (hen : bit v 0 = true) (hfits : ringFits (d.ringMem r) (bits v 1 4) 32 = true) :
    d.ringCfgWrite p r v = d.ringStarted r v := by
  simp only [Side.ringCfgWrite, h0, hsize, hen, hfits, if_true, decide_true, Bool.not_true, Bool.false_eq_true, if_false]
  rfl

theorem Side.ringStarted_reads (d : Side) (r : RingId) (v : Nat) : (d.ringStarted r v).get (rState r) = 1 ∧
    (d.ringStarted r v).get (rHead r) = 0 ∧ (d.ringStarted r v).get (rTail r) = 0 ∧ (d.ringStarted r v).get (rPhase r) = 1 := by
  simp (disch := simp only [Fld.apart, rState, rHead, rTail, rPhase] <;> omega)
    [Side.ringStarted_get, Side.ringZeroed, Side.get_set_self, Side.get_set_apart, rState, rPhase]

theorem Side.ringStarted_size (d : Side) (r : RingId) (v : Nat) : (d.ringStarted r v).get (rSize r) = bits v 1 4 := by
  simp (disch := simp only [rSize, rState, rHead, rTail, rPhase] <;> omega) only
    [Side.ringStarted_get, Side.ringZeroed, Side.get_set_off]
  exact (Side.get_setWord _ _ rfl (show 1 + 4 ≤ 32 by decide)).trans (bits_ringCfgWord_size v)

/-- Registers outside those of ring r keep their words. -/
def Side.ringRegsOnly (d : Side) (r : RingId) (e : Side) : Prop :=
  d.regsBut (fun o => ringBase r ≤ o ∧ o < ringBase r + 0x40) e

theorem Side.ringRegsOnly_of_word {d e : Side} {r : RingId}
    (h : ∀ o, o < ringBase r ∨ ringBase r + 0x40 ≤ o → e.word o = d.word o) : d.ringRegsOnly r e :=
  fun o ho => h o (by have := not_and_or.1 ho; omega)

theorem Side.onlyRegs_ringStarted (d : Side) (r : RingId) (v : Nat) : d.onlyRegs (d.ringStarted r v) := rfl

theorem Side.ringStarted_ringRegsOnly (d : Side) (r : RingId) (v : Nat) : d.ringRegsOnly r (d.ringStarted r v) := by
  refine Side.ringRegsOnly_of_word fun o ho => ?_
  change (d.ringZeroed r v).word o = d.word o
  simp (disch := simp only [rState, rHead, rTail, rPhase] <;> omega) only [Side.ringZeroed, Side.word_set_ne]
  exact d.setWord_word_ne _ (by omega)

theorem Side.ringCfgWrite_of_disable {d : Side} (p : Pkg) {r : RingId} {v : Nat} (h1 : d.get (rState r) = 1)
    (hsize : bits v 1 4 = d.get (rSize r)) (hen : bit v 0 = false) (hfree : ∀ m, r = .cq m → d.cqBound m = false) :
    d.ringCfgWrite p r v = d.ringStop p r v := by
  cases r with
  | cq m => simp [Side.ringCfgWrite, h1, hsize, hen, hfree m rfl]
  | eq e => simp [Side.ringCfgWrite, h1, hsize, hen]

theorem Side.ringStop_state (d : Side) (p : Pkg) (r : RingId) (v : Nat) :
    (d.ringStop p r v).get (rState r) = if d.ringWaits p r then 3 else 0 := by
  rw [Side.ringStop, Side.get_set_self _ _ _ (show 0 + 2 ≤ 32 by decide)]
  split <;> rfl

theorem Side.onlyRegs_ringStop (d : Side) (p : Pkg) (r : RingId) (v : Nat) : d.onlyRegs (d.ringStop p r v) := rfl

theorem Side.ringStop_ringRegsOnly (d : Side) (p : Pkg) (r : RingId) (v : Nat) : d.ringRegsOnly r (d.ringStop p r v) := by
  refine Side.ringRegsOnly_of_word fun o ho => ?_
  rw [Side.ringStop, Side.word_set_ne _ _ _ (show o ≠ ringBase r + 0x14 by omega), Side.setWord_word_ne _ _ (by omega)]

/-! Doorbells. -/

/-- Ring n of side d with a doorbell taken. -/
def Side.sqRung (n v : Nat) (d : Side) : Side :=
  { (d.set (F.HIF_SQ_STATUS_OWN_STALL n) 0).set (F.HIF_SQ_STATE_TAIL n) v with
    hif := { d.hif with dbSq := tset d.hif.dbSq n v } }

theorem Side.sqDoorbell_of_valid {d : Side} (p : Pkg) {n v : Nat} (hen : d.get (F.HIF_SQ_CFG_ENABLE n) = 1)
    (hv : v < 2 ^ d.get (F.HIF_SQ_CFG_SIZE n))
    (hle : (d.get (F.HIF_SQ_STATE_TAIL n) + 2 ^ d.get (F.HIF_SQ_CFG_SIZE n) - d.get (F.HIF_SQ_STATE_HEAD n)) %
        2 ^ d.get (F.HIF_SQ_CFG_SIZE n) ≤
      (v + 2 ^ d.get (F.HIF_SQ_CFG_SIZE n) - d.get (F.HIF_SQ_STATE_HEAD n)) % 2 ^ d.get (F.HIF_SQ_CFG_SIZE n)) :
    d.sqDoorbell p (ringFnNum n) n v = d.sqRung n v := by
  rw [Side.sqDoorbell, if_neg (not_not.2 rfl), if_neg (not_not.2 hen)]
  dsimp only
  rw [if_neg (Nat.not_le_of_lt hv), if_neg (Nat.not_lt_of_le hle)]
  rfl

theorem Side.sqRung_tail (d : Side) (n : Nat) {v : Nat} (hv : v < 2 ^ 16) : (d.sqRung n v).get (F.HIF_SQ_STATE_TAIL n) = v :=
  (Side.get_set_self _ (F.HIF_SQ_STATE_TAIL n) v (show 16 + 16 ≤ 32 by decide)).trans (Nat.mod_eq_of_lt hv)

theorem Side.sqRung_ownStall (d : Side) (n v : Nat) : (d.sqRung n v).get (F.HIF_SQ_STATUS_OWN_STALL n) = 0 :=
  (Side.get_set_off (d.set (F.HIF_SQ_STATUS_OWN_STALL n) 0) v (show 0x10014 + 0x40 * n ≠ 0x10010 + 0x40 * n by omega)).trans
    (d.get_set_self (F.HIF_SQ_STATUS_OWN_STALL n) 0 (show 2 + 1 ≤ 32 by decide))

/-- Ring r of side d with a doorbell taken. -/
def Side.ringRung (r : RingId) (v : Nat) (d : Side) : Side :=
  { d.set (rHead r) v with hif := { d.hif with dbCq := tset d.hif.dbCq (ringIx r) v } }

theorem Side.ringDoorbell_of_valid {d : Side} (p : Pkg) {r : RingId} {v : Nat} (hen : d.get (rEnable r) = 1)
    (hv : v < 2 ^ d.get (rSize r))
    (hle : (v + 2 ^ d.get (rSize r) - d.get (rHead r)) % 2 ^ d.get (rSize r) ≤ d.ringUsed r) :
    d.ringDoorbell p (ringFn r) r v = d.ringRung r v := by
  rw [Side.ringDoorbell, if_neg (not_not.2 rfl), if_neg (not_not.2 hen)]
  dsimp only
  rw [if_neg (Nat.not_le_of_lt hv), if_neg (Nat.not_lt_of_le hle)]
  rfl

theorem Side.ringRung_head (d : Side) (r : RingId) {v : Nat} (hv : v < 2 ^ 16) : (d.ringRung r v).get (rHead r) = v :=
  (Side.get_set_self _ (rHead r) v (show 0 + 16 ≤ 32 by decide)).trans (Nat.mod_eq_of_lt hv)

theorem Side.ringRung_tail (d : Side) (r : RingId) (v : Nat) : (d.ringRung r v).get (rTail r) = d.get (rTail r) :=
  d.get_set_bits (rHead r) (rTail r) v (.inr (show 0 + 16 ≤ 16 by decide)) (show 16 + 16 ≤ 32 by decide)

/-! The coalescing timeout. -/

theorem Side.coalesceTimeout_of_due {d : Side} {p : Pkg} {r : RingId} (hirq : d.get (rIrqEn r) = 1) (htime : d.get (rCoalTime r) ≠ 0)
    (hmsg : (tget {} d.hif.msg (ringIx r)).unsig ≠ 0)
    (hdue : reached p.now ((tget {} d.hif.msg (ringIx r)).firstAt + 1000 * d.get (rCoalTime r)) = true) :
    d.coalesceTimeout p r = d.ringSignal r := by
  simp [Side.coalesceTimeout, hirq, htime, hmsg, hdue]

theorem Side.ringSignal_unsig (d : Side) (r : RingId) : (tget {} (d.ringSignal r).hif.msg (ringIx r)).unsig = 0 := by
  rw [Side.ringSignal, tmod, tget_tset_self]

theorem Side.onlyRegs_ringSignal (d : Side) (r : RingId) : d.onlyRegs (d.ringSignal r) := rfl

/-! The commands. -/

theorem State.asPosted_taken {s : State} (h : s.takes 0x10000 = true) (t : State) : s.asPosted t = t := if_pos h

theorem exec_cqEqEnable {r : RingId} {v : Word} {s : State} (hr : ringOk r = true) (hen : bit v.toNat 0 = true)
    (hacc : s.accepts (ringFn r == .pf0) (ringBase r + 8) v.toNat) :
    exec (.cqEqEnable r v) s = .next (s.bothOn fun p d => d.ringCfgWrite p r v.toNat) := by
  change execCqEqEnable r v s = _
  rw [execCqEqEnable, if_pos (by simp [hr, hen]), State.accepts_asWrite hacc]

theorem exec_cqEqDisable {r : RingId} {v : Word} {s : State} (hr : ringOk r = true) (hen : bit v.toNat 0 = false)
    (hacc : s.accepts (ringFn r == .pf0) (ringBase r + 8) v.toNat) :
    exec (.cqEqDisable r v) s = .next (s.bothOn fun p d => d.ringCfgWrite p r v.toNat) := by
  change execCqEqDisable r v s = _
  rw [execCqEqDisable, if_pos (by simp [hr, hen]), State.accepts_asWrite hacc]

theorem exec_sqDoorbell (fn : Fn) {n v : Nat} {s : State} (hn : n < 64) (hv : v < 2 ^ 16) (ht : s.takes 0x10000 = true) :
    exec (.sqDoorbell fn n v) s = .next (s.bothOn fun p d => d.sqDoorbell p fn n v) := by
  change execSqDoorbell fn n v s = _
  rw [execSqDoorbell, if_pos hn, State.asPosted_taken ht, Nat.mod_eq_of_lt hv]

theorem exec_cqDoorbell (fn : Fn) {r : RingId} {v : Nat} {s : State} (hr : ringOk r = true) (hv : v < 2 ^ 16)
    (ht : s.takes 0x10000 = true) : exec (.cqDoorbell fn r v) s = .next (s.bothOn fun p d => d.ringDoorbell p fn r v) := by
  change execCqDoorbell fn r v s = _
  rw [execCqDoorbell, if_pos hr, State.asPosted_taken ht, Nat.mod_eq_of_lt hv]

theorem exec_coalesceTimeout {r : RingId} (hr : ringOk r = true) (k : Nat) (s : State) :
    exec (.coalesceTimeout r k) s = .next ((s.advance k).both fun p d => d.coalesceTimeout p r) := by
  change execCoalesceTimeout r k s = _
  rw [execCoalesceTimeout, if_pos hr]

end Sys2Proof.Machine
end

section
/-! The statement on completion and event rings, doorbells and the coalescing timeout. -/

namespace Sys2Proof.Proofs
open Sys2Proof Sys2Proof.Machine

/-- Settles O5: on each powered side a CFG write starts or stops its ring, a doorbell that is valid moves TAIL or HEAD, and the
timeout signals the ring. -/
theorem completionRingsAndDoorbells : Obligations.CompletionRingsAndDoorbells := by
  unfold Obligations.CompletionRingsAndDoorbells
  intro r w fn n v k s x hx hr hn hv
  refine ⟨?enable, ?disable, ?sq, ?cq, ?timeout⟩
  case enable =>
    intro hacc hen h0 hsize hfits
    obtain ⟨l, ht⟩ := State.bothOn_of_alive hx fun p d => d.ringCfgWrite p r w.toNat
    rw [Side.ringCfgWrite_of_enable s.pkg h0 hsize hen hfits] at ht
    obtain ⟨hstate, hhead, htail, hphase⟩ := (s.side x).ringStarted_reads r w.toNat
    refine ⟨_, exec_cqEqEnable hr hen hacc, ?_⟩
    rw [ht]
    exact ⟨hstate, hhead, htail, hphase, (s.side x).ringStarted_size r w.toNat, (s.side x).onlyRegs_ringStarted r w.toNat,
      (s.side x).ringStarted_ringRegsOnly r w.toNat⟩
  case disable =>
    intro hacc hen h1 hsize hfree
    obtain ⟨l, ht⟩ := State.bothOn_of_alive hx fun p d => d.ringCfgWrite p r w.toNat
    rw [Side.ringCfgWrite_of_disable s.pkg h1 hsize hen hfree] at ht
    refine ⟨_, exec_cqEqDisable hr hen hacc, ?_⟩
    rw [ht]
    exact ⟨(s.side x).ringStop_state s.pkg r w.toNat, (s.side x).onlyRegs_ringStop s.pkg r w.toNat,
      (s.side x).ringStop_ringRegsOnly s.pkg r w.toNat⟩
  case sq =>
    intro htakes hfn hen hsize hle
    subst hfn
    obtain ⟨l, ht⟩ := State.bothOn_of_alive hx fun p d => d.sqDoorbell p (ringFnNum n) n v
    rw [Side.sqDoorbell_of_valid s.pkg hen hsize hle] at ht
    refine ⟨_, exec_sqDoorbell _ hn hv htakes, ?_⟩
    rw [ht]
    exact ⟨(s.side x).sqRung_tail n hv, (s.side x).sqRung_ownStall n v, tget_tset_self _ _ _ _, rfl, rfl⟩
  case cq =>
    intro htakes hfn hen hsize hle
    subst hfn
    obtain ⟨l, ht⟩ := State.bothOn_of_alive hx fun p d => d.ringDoorbell p (ringFn r) r v
    rw [Side.ringDoorbell_of_valid s.pkg hen hsize hle] at ht
    refine ⟨_, exec_cqDoorbell _ hr hv htakes, ?_⟩
    rw [ht]
    exact ⟨(s.side x).ringRung_head r hv, (s.side x).ringRung_tail r v, tget_tset_self _ _ _ _, rfl⟩
  case timeout =>
    intro hrun hirq htime hmsg hdue
    obtain ⟨l, ht⟩ := State.both_advance_of_running hrun k fun p d => d.coalesceTimeout p r
    rw [Side.coalesceTimeout_of_due hirq htime hmsg hdue] at ht
    refine ⟨_, exec_coalesceTimeout hr k s, ?_⟩
    rw [ht]
    exact ⟨(s.side x).ringSignal_unsig r, rfl, (s.side x).onlyRegs_ringSignal r⟩

end Sys2Proof.Proofs
end

section
/-! A submission ring's descriptors (R64 to R69, R77, R79, R80): fetched, finished at their start, retired. -/

namespace Sys2Proof.Machine

/-! What a fetch leaves of a side. -/

/-- A source below the BeamLink ports is on every part (R4). -/
theorem srcAbsent_of_lt (b : Bool) {n : Nat} (h : n < 0x108) : srcAbsent b n = false := by
  simp only [srcAbsent, Bool.and_eq_false_iff, Bool.or_eq_false_iff, decide_eq_false_iff_not]
  omega

theorem Side.napWake_word (d : Side) {o : Nat} (h : o < 0x1100000) : d.napWake.word o = d.word o := by
  rw [Side.napWake]
  split
  · rw [Side.word_set_ne _ _ _ (by simp only [F.THM_PWR_STALE_GROUP]; omega),
      Side.word_set_ne _ _ _ (by simp only [F.THM_PWR_STATE_WAKING]; omega)]
  · rfl

theorem Side.napWake_hif (d : Side) : d.napWake.hif = d.hif := by
  rw [Side.napWake]
  split <;> rfl

theorem Side.onlyRegs_napWake {d e : Side} (h : d.onlyRegs e) : d.onlyRegs e.napWake := by
  rw [Side.napWake]
  split
  · exact h
  · exact h

/-- Ring n of side d, whose turn it was, with a descriptor behind those it has. -/
def Side.sqJoined (n : Nat) (x : Desc) (d : Side) : Side := (d.sqServed n).setSqList n (d.sqList n ++ [x])

theorem Side.sqJoined_sqList (d : Side) (n : Nat) (x : Desc) : (d.sqJoined n x).sqList n = d.sqList n ++ [x] :=
  Side.sqList_setSqList _ n _

theorem Side.onlyRegs_sqJoined (d : Side) (n : Nat) (x : Desc) : d.onlyRegs (d.sqJoined n x) := rfl

/-- The host address of the slot that ring n fetches next. -/
def Side.sqNextMem (d : Side) (n : Nat) : Nat := d.sqMem n + 64 * d.sqNext n

/-- The descriptor that the memory of ring n holds in that slot, after the checks of R525. -/
def Side.sqRead (d : Side) (p : Pkg) (n : Nat) : Desc := d.received n (d.sqNext n) (memRead p.host (d.sqNextMem n) 64)

/-- What a read for the ring whose turn it is does, in the order of its cases: it failed, the ring does not own the slot, or the
descriptor joins, which may wake a napping package (R66, R79, R471). -/
theorem Side.fetched_of_pick {d : Side} {p : Pkg} {n : Nat} (hp : d.sqPick p = some n) (ok : Bool) : d.fetched p n ok =
    if !ok then
      (d.sqJoined n ⟨d.sqNext n, [], .done stFETCH_ERR 0 (d.sqNextMem n % 2 ^ 32)⟩).fault p (srcSq n) (F.HIF_SQ_STATUS_FETCH_ERR n)
    else if !dOwn (memRead p.host (d.sqNextMem n) 64) then (d.sqServed n).set (F.HIF_SQ_STATUS_OWN_STALL n) 1
    else if d.wakes n (d.sqRead p n) then (d.sqJoined n (d.sqRead p n)).napWake
    else d.sqJoined n (d.sqRead p n) := by
  rw [Side.fetched, if_pos hp]
  rfl

/-- A descriptor that the ring owns joins it, and no other ring register changes. -/
theorem Side.fetched_owned_effect {d : Side} {p : Pkg} {n : Nat} (hn : n < 64) (hp : d.sqPick p = some n)
    (hown : dOwn (memRead p.host (d.sqNextMem n) 64) = true) :
    (d.fetched p n true).sqList n = d.sqList n ++ [d.sqRead p n] ∧
      (d.fetched p n true).sqState n = d.sqState n ∧ d.onlyRegs (d.fetched p n true) := by
  rw [Side.fetched_of_pick hp, if_neg (by decide), if_neg (by simp [hown])]
  split
  case isTrue =>
    have hstate : (d.sqJoined n (d.sqRead p n)).napWake.sqState n = (d.sqJoined n (d.sqRead p n)).sqState n :=
      Side.get_of_word _ (Side.napWake_word _ (show 0x10014 + 0x40 * n < 0x1100000 by omega))
    rw [Side.sqList, Side.napWake_hif, hstate]
    exact ⟨d.sqJoined_sqList n _, rfl, Side.onlyRegs_napWake (d.onlyRegs_sqJoined n _)⟩
  case isFalse => exact ⟨d.sqJoined_sqList n _, rfl, d.onlyRegs_sqJoined n _⟩

/-- A failed read joins as FETCH_ERR, with its address, and is reported (R79). -/
theorem Side.fetched_failed_effect {d : Side} {p : Pkg} {n : Nat} (hn : n < 64) (hp : d.sqPick p = some n) :
    (d.fetched p n false).sqList n = d.sqList n ++ [⟨d.sqNext n, [], .done stFETCH_ERR 0 (d.sqNextMem n % 2 ^ 32)⟩] ∧
      (d.fetched p n false).get (F.HIF_SQ_STATUS_FETCH_ERR n) = 1 ∧ d.onlyRegs (d.fetched p n false) := by
  have hoff : offPost (F.HIF_SQ_STATUS_FETCH_ERR n).off := by simp only [offPost, F.HIF_SQ_STATUS_FETCH_ERR]; omega
  have hsrc : srcSq n < 0x108 := by unfold srcSq; omega
  rw [Side.fetched_of_pick hp, if_pos (by decide), Side.sqList, Side.fault_hif_sq]
  exact ⟨d.sqJoined_sqList n _,
    Side.fault_flag _ p _ _ (by omega) hoff (srcAbsent_of_lt _ hsrc) rfl (show 10 < 32 by decide),
    Side.onlyRegs_fault d _ p _ _ (d.onlyRegs_sqJoined n _)⟩

/-- A descriptor with OWN 0 stalls the ring (R66). -/
theorem Side.fetched_unowned_effect {d : Side} {p : Pkg} {n : Nat} (hp : d.sqPick p = some n)
    (hown : dOwn (memRead p.host (d.sqNextMem n) 64) = false) :
    (d.fetched p n true).get (F.HIF_SQ_STATUS_OWN_STALL n) = 1 ∧ (d.fetched p n true).sqList n = d.sqList n ∧
      d.onlyRegs (d.fetched p n true) := by
  rw [Side.fetched_of_pick hp, if_neg (by decide), if_pos (by simp [hown])]
  exact ⟨Side.get_set_self _ (F.HIF_SQ_STATUS_OWN_STALL n) 1 (show 2 + 1 ≤ 32 by decide), rfl, rfl⟩

/-! NOP and BARRIER. -/

theorem Side.nopLike_of_next {d : Side} {x : Desc} {op n : Nat} (h : d.nextStart n op = some x) :
    d.nopLike op n = d.startDone n ⟨stSUCCESS, 0, 0⟩ := by
  rw [Side.nopLike, h]

/-- On a running side the next descriptor finishes with SUCCESS, and no register changes (R65). -/
theorem State.both_nopLike {s : State} {x : SideId} {op n : Nat} {d : Desc} (hx : s.pkg.hold.running x = true)
    (h : (s.side x).nextStart n op = some d) :
    ((s.both fun _ d => d.nopLike op n).side x).sqList n = startFirst (.done stSUCCESS 0 0) ((s.side x).sqList n) ∧
      ((s.both fun _ d => d.nopLike op n).side x).rf = (s.side x).rf ∧
      (s.side x).onlyRegs ((s.both fun _ d => d.nopLike op n).side x) := by
  obtain ⟨l, ht⟩ := State.both_of_running hx fun _ d => d.nopLike op n
  rw [ht, Side.nopLike_of_next h]
  exact ⟨(s.side x).sqList_startDone n _, rfl, rfl⟩

/-! Retirement. -/

/-- A submission ring's registers lie below those of a completion ring. -/
theorem sqReg_lt_ringBase {o : Nat} (m : Nat) (h : o < 0x20000) : o < ringBase (.cq m) := by
  simp only [ringBase]; omega

/-- A slot number of a ring fits its 16-bit field. -/
theorem mod_slots_lt (k : Nat) {size : Nat} (h : size < 2 ^ 4) : k % 2 ^ size < 2 ^ 16 :=
  lt_of_lt_of_le (Nat.mod_lt _ (Nat.two_pow_pos _)) (Nat.pow_le_pow_right (by decide) (by omega))

/-- TAIL moves on by one entry (R70). -/
theorem Side.ringWrite_tail (d : Side) (p : Pkg) (r : RingId) (irq : Bool) (l : List Byte) (w : Nat) :
    (d.ringWrite p r irq l w).get (rTail r) = (d.get (rTail r) + 1) % 2 ^ d.get (rSize r) := by
  have hfit : (d.get (rTail r) + 1) % 2 ^ d.get (rSize r) < 2 ^ 16 := mod_slots_lt _ (bits_lt _ _ 4)
  have hmoved : ∀ e : Side, (e.set (rTail r) ((d.get (rTail r) + 1) % 2 ^ d.get (rSize r))).get (rTail r) =
      (d.get (rTail r) + 1) % 2 ^ d.get (rSize r) := fun e =>
    (e.get_set_self (rTail r) _ (show 16 + 16 ≤ 32 by decide)).trans (Nat.mod_eq_of_lt hfit)
  have hrf : ∀ e : Side, (e.ringCoalesce p r irq).get (rTail r) = e.get (rTail r) := fun e => by
    rw [Side.get, Side.ringCoalesce_rf]; rfl
  rw [Side.ringWrite, hrf]
  split
  · rw [Side.get_set_off _ _ (show ringBase r + 0x10 ≠ ringBase r + 0x14 by omega)]
    exact hmoved _
  · exact hmoved _

/-- What the retirement of a successful descriptor hands out: bytes 0 to 3 with OWN 0, and its completion entry unless NO_CPL is 1
(R67, R69). -/
def Side.retireSent (p : Pkg) (n : Nat) (x : Desc) (r0 r1 : Nat) (d : Side) : Side :=
  let head := (x.slot + 1) % 2 ^ d.get (F.HIF_SQ_CFG_SIZE n)
  let e := d.send (.hostWrite (ringFnNum n) (d.sqMem n + 64 * x.slot) (leBytes 4 (putBits (dFld x.bytes 0 4) 0 1 0)))
  if dNoCpl x.bytes then e
  else e.ringWrite p (.cq (d.get (F.HIF_SQ_CFG_CQ n))) (dIrq x.bytes)
    (cplEntry (dTag x.bytes) n stSUCCESS head r0 (d.dev p) r1) (dOpcode x.bytes)

theorem Side.retireSent_word (d : Side) (p : Pkg) (n : Nat) (x : Desc) (r0 r1 : Nat) {o : Nat} (h : o < 0x20000) :
    (d.retireSent p n x r0 r1).word o = d.word o := by
  rw [Side.retireSent]
  split
  · rfl
  · exact Side.ringWrite_word _ p _ _ _ _ o (.inl (sqReg_lt_ringBase _ h))

theorem Side.retireSent_tail (d : Side) (p : Pkg) (n : Nat) (x : Desc) (r0 r1 : Nat) {r : RingId}
    (hr : r = .cq (d.get (F.HIF_SQ_CFG_CQ n))) : (d.retireSent p n x r0 r1).get (rTail r) =
      if dNoCpl x.bytes then d.get (rTail r) else (d.get (rTail r) + 1) % 2 ^ d.get (rSize r) := by
  subst hr
  rw [Side.retireSent]
  split
  · rfl
  · exact Side.ringWrite_tail _ p _ _ _ _

theorem Side.onlyRegs_retireSent (d : Side) (p : Pkg) (n : Nat) (x : Desc) (r0 r1 : Nat) : d.onlyRegs (d.retireSent p n x r0 r1) := by
  rw [Side.retireSent]
  split
  · rfl
  · exact Side.onlyRegs_ringWrite d _ p _ _ _ _ rfl

/-- Ring n of side d with its first descriptor x retired with SUCCESS: rest stays, HEAD is past x's slot (R69). -/
def Side.retired (p : Pkg) (n : Nat) (x : Desc) (rest : List Desc) (r0 r1 : Nat) (d : Side) : Side :=
  ((d.retireSent p n x r0 r1).setSqList n rest).set (F.HIF_SQ_STATE_HEAD n) ((x.slot + 1) % 2 ^ d.get (F.HIF_SQ_CFG_SIZE n))

theorem Side.retired_sqState (d : Side) (p : Pkg) {n : Nat} (hn : n < 64) (x : Desc) (rest : List Desc) (r0 r1 : Nat) :
    (d.retired p n x rest r0 r1).sqState n = d.sqState n :=
  (Side.get_set_off _ _ (show 0x10014 + 0x40 * n ≠ 0x10010 + 0x40 * n by omega)).trans
    (Side.get_of_word _ (d.retireSent_word p n x r0 r1 (show 0x10014 + 0x40 * n < 0x20000 by omega)))

/-- A descriptor of status SUCCESS neither sets a channel's ERR nor halts its ring, so that its retirement is just that. -/
theorem Side.retireHead_of_success {d : Side} {n : Nat} (hn : n < 64) (h1 : d.sqState n = 1) (p : Pkg) (x : Desc) (rest : List Desc)
    (r0 r1 : Nat) : d.retireHead p n x rest ⟨stSUCCESS, r0, r1⟩ = d.retired p n x rest r0 r1 := by
  have hends : d.retireHead p n x rest ⟨stSUCCESS, r0, r1⟩ = (d.retired p n x rest r0 r1).sqSettle n := by
    simp [Side.retireHead, Side.retired, Side.retireSent, Side.faultIf, Side.progressNone, stSUCCESS, stFETCH_ERR, stSECURITY,
      stABORTED, stBAD_FIELD]
  have hruns : (d.retired p n x rest r0 r1).sqState n ≠ 3 := by
    rw [d.retired_sqState p hn, h1]
    decide
  rw [hends, Side.sqSettle_of_busy (.inl hruns)]

/-- From d to e, ring n's first descriptor x retires with SUCCESS. -/
def Side.sqRetires (d : Side) (n : Nat) (x : Desc) (rest : List Desc) (e : Side) : Prop :=
  e.sqList n = rest ∧ e.get (F.HIF_SQ_STATE_HEAD n) = (x.slot + 1) % 2 ^ d.get (F.HIF_SQ_CFG_SIZE n) ∧
    e.get (rTail (.cq (d.get (F.HIF_SQ_CFG_CQ n)))) =
      (if dNoCpl x.bytes then d.get (rTail (.cq (d.get (F.HIF_SQ_CFG_CQ n))))
       else (d.get (rTail (.cq (d.get (F.HIF_SQ_CFG_CQ n)))) + 1) % 2 ^ d.get (rSize (.cq (d.get (F.HIF_SQ_CFG_CQ n))))) ∧
    d.onlyRegs e

theorem Side.retired_retires (d : Side) (p : Pkg) {n : Nat} (hn : n < 64) (x : Desc) (rest : List Desc) (r0 r1 : Nat) :
    d.sqRetires n x rest (d.retired p n x rest r0 r1) := by
  have hfit : (x.slot + 1) % 2 ^ d.get (F.HIF_SQ_CFG_SIZE n) < 2 ^ 16 := mod_slots_lt _ (bits_lt _ _ 4)
  refine ⟨Side.sqList_setSqList _ n rest, ?head, ?tail, d.onlyRegs_retireSent p n x r0 r1⟩
  case head =>
    exact (Side.get_set_self _ (F.HIF_SQ_STATE_HEAD n) _ (show 0 + 16 ≤ 32 by decide)).trans (Nat.mod_eq_of_lt hfit)
  case tail =>
    have hapart : ∀ m, (rTail (.cq m)).off ≠ (F.HIF_SQ_STATE_HEAD n).off := fun m => by
      simp only [rTail, ringBase, F.HIF_SQ_STATE_HEAD]; omega
    exact (Side.get_set_off _ _ (hapart _)).trans (d.retireSent_tail p n x r0 r1 rfl)

/-- Ring n of side d, whose retirement waits for its completion ring no more. -/
def Side.sqWaitEnds (n : Nat) (d : Side) : Side := { d with hif := { d.hif with full := d.hif.full.filter (· ≠ n) } }

theorem Side.retire_of_done {d : Side} {n st : Nat} {x : Desc} {rest : List Desc} {r0 r1 : Nat} (p : Pkg)
    (hl : d.sqList n = x :: rest) (hst : x.st = .done st r0 r1)
    (hfull : d.ringFull (.cq (d.get (F.HIF_SQ_CFG_CQ n))) = false) :
    d.retire p n = (d.sqWaitEnds n).retireHead p n x rest ⟨st, r0, r1⟩ := by
  simp only [Side.retire, hl, hst, hfull, Bool.false_eq_true, if_false]
  rfl

theorem Side.retire_of_success {d : Side} {n : Nat} {x : Desc} {rest : List Desc} {r0 r1 : Nat} (p : Pkg) (hn : n < 64)
    (hl : d.sqList n = x :: rest) (hst : x.st = .done stSUCCESS r0 r1)
    (hfull : d.ringFull (.cq (d.get (F.HIF_SQ_CFG_CQ n))) = false) (h1 : d.sqState n = 1) :
    d.sqRetires n x rest (d.retire p n) := by
  rw [Side.retire_of_done p hl hst hfull, Side.retireHead_of_success (d := d.sqWaitEnds n) hn h1]
  obtain ⟨hlist, hhead, htail, honly⟩ := Side.retired_retires (d.sqWaitEnds n) p hn x rest r0 r1
  exact ⟨hlist, hhead, htail, Side.onlyRegs_trans (show d.onlyRegs (d.sqWaitEnds n) from rfl) honly⟩

/-! The commands. -/

theorem exec_descriptorFetched {n : Nat} (hn : n < 64) (ok : Bool) (s : State) :
    exec (.descriptorFetched n ok) s = .next (s.both fun p d => d.fetched p n ok) := by
  change execDescriptorFetched n ok s = _
  rw [execDescriptorFetched, if_pos hn]

theorem exec_nop {n : Nat} (hn : n < 64) (s : State) : exec (.nop n) s = .next (s.both fun _ d => d.nopLike 0 n) := by
  change execNop n s = _
  rw [execNop, if_pos hn]

theorem exec_barrier {n : Nat} (hn : n < 64) (s : State) : exec (.barrier n) s = .next (s.both fun _ d => d.nopLike 1 n) := by
  change execBarrier n s = _
  rw [execBarrier, if_pos hn]

theorem exec_descriptorRetire {n : Nat} (hn : n < 64) (s : State) :
    exec (.descriptorRetire n) s = .next (s.both fun p d => d.retire p n) := by
  change execDescriptorRetire n s = _
  rw [execDescriptorRetire, if_pos hn]

end Sys2Proof.Machine
end

section
/-! The statement on descriptors fetched and retired. -/

namespace Sys2Proof.Proofs
open Sys2Proof Sys2Proof.Machine

/-- Settles O6: each command is the ring manager's own operation on the running side. That HEAD moves at retirement is log entry 67;
a failed read's entry is log entry 142. -/
theorem descriptorsFetchedAndRetired : Obligations.DescriptorsFetchedAndRetired := by
  unfold Obligations.DescriptorsFetchedAndRetired
  intro n s x hn hx
  refine ⟨fun hpick => ⟨?owned, ?unowned, ?failed⟩, ?nop, ?barrier, ?retire⟩
  case owned =>
    intro hown
    obtain ⟨l, ht⟩ := State.both_of_running hx fun p d => d.fetched p n true
    refine ⟨_, exec_descriptorFetched hn true s, ?_⟩
    rw [ht]
    exact Side.fetched_owned_effect hn hpick hown
  case unowned =>
    intro hown
    obtain ⟨l, ht⟩ := State.both_of_running hx fun p d => d.fetched p n true
    refine ⟨_, exec_descriptorFetched hn true s, ?_⟩
    rw [ht]
    exact Side.fetched_unowned_effect hpick hown
  case failed =>
    obtain ⟨l, ht⟩ := State.both_of_running hx fun p d => d.fetched p n false
    refine ⟨_, exec_descriptorFetched hn false s, ?_⟩
    rw [ht]
    exact Side.fetched_failed_effect hn hpick
  case nop => exact fun d hnext => ⟨_, exec_nop hn s, State.both_nopLike hx hnext⟩
  case barrier => exact fun d hnext => ⟨_, exec_barrier hn s, State.both_nopLike hx hnext⟩
  case retire =>
    intro d rest r0 r1 hl hst hfull h1
    obtain ⟨l, ht⟩ := State.both_of_running hx fun p d => d.retire p n
    refine ⟨_, exec_descriptorRetire hn s, ?_⟩
    rw [ht]
    exact Side.retire_of_success s.pkg hn hl hst hfull h1

end Sys2Proof.Proofs
end

section
/-! What leaves the submission and completion rings of a side alone: postings, and the work of the DMA engines that is cut off or ends
(R82, R107, R110, R113). A ring that has no descriptor gets none. -/

namespace Sys2Proof.Machine

/-! Postings and the rings' descriptors. -/

theorem Side.ringWrite_hif_sq (d : Side) (p : Pkg) (r : RingId) (irq : Bool) (l : List Byte) (w : Nat) :
    (d.ringWrite p r irq l w).hif.sq = d.hif.sq := by
  unfold Side.ringWrite Side.ringCoalesce
  dsimp only
  split <;> split <;> rfl

theorem Side.toRing_hif_sq (d : Side) (p : Pkg) (f : Nat) (e : Ev) (st : Nat) : (d.toRing p f e st).1.hif.sq = d.hif.sq := by
  unfold Side.toRing
  dsimp only
  split
  · rfl
  split
  · rfl
  · exact d.ringWrite_hif_sq p _ _ _ _

theorem Side.toDirect_hif_sq (d : Side) (e : Ev) : (d.toDirect e).hif.sq = d.hif.sq := by
  unfold Side.toDirect
  dsimp only
  split
  · rfl
  · split <;> rfl
  · rfl

theorem Side.routeEv_hif_sq (d : Side) (p : Pkg) (e : Ev) (st : Nat) : (d.routeEv p e st).1.hif.sq = d.hif.sq := by
  unfold Side.routeEv
  dsimp only
  split
  · rw [Side.toDirect_hif_sq]
    split
    · exact Side.toRing_hif_sq _ p _ e st
    · rfl
  · rfl

theorem Side.deliveryFault_hif_sq (d : Side) (p : Pkg) (src : Nat) (f : Fld) (st : Nat) :
    (d.deliveryFault p src f st).hif.sq = d.hif.sq := Side.routeEv_hif_sq _ p _ st

theorem Side.routePost_hif_sq (d : Side) (p : Pkg) (e : Ev) (st : Nat) : (d.routePost p e st).hif.sq = d.hif.sq := by
  have hroute := d.routeEv_hif_sq p e st
  unfold Side.routePost
  split <;> rename_i h <;> rw [h] at hroute
  · exact hroute
  · exact (Side.deliveryFault_hif_sq _ p _ _ st).trans hroute
  · exact (Side.deliveryFault_hif_sq _ p _ _ st).trans hroute

/-! Rings that are left alone. -/

/-- An offset outside the registers of the submission and the completion rings. -/
def outRings (o : Nat) : Prop := o < 0x10000 ∨ 0x30000 ≤ o

/-- From d to e, no register of a submission or completion ring changes, and a submission ring with no descriptor gets none. -/
def Side.ringsKept (d e : Side) : Prop := (∀ o, ¬outRings o → e.word o = d.word o) ∧ ∀ n, d.sqList n = [] → e.sqList n = []

theorem Side.ringsKept_refl (d : Side) : d.ringsKept d := ⟨fun _ _ => rfl, fun _ h => h⟩

theorem Side.ringsKept_trans {d e f : Side} (h : d.ringsKept e) (h' : e.ringsKept f) : d.ringsKept f :=
  ⟨fun o ho => (h'.1 o ho).trans (h.1 o ho), fun n hn => h'.2 n (h.2 n hn)⟩

/-- What changes neither registers nor rings. -/
theorem Side.ringsKept_of_eq {d e : Side} (hrf : e.rf = d.rf) (hsq : e.hif.sq = d.hif.sq) : d.ringsKept e :=
  ⟨fun o _ => congrArg (rfWord · o) hrf, fun n hn => (congrArg (tget [] · n) hsq).trans hn⟩

theorem Side.ringsKept_set (d : Side) {f : Fld} (v : Nat) (h : outRings f.off) : d.ringsKept (d.set f v) :=
  ⟨fun _ ho => d.word_set_ne f v fun he => ho (he ▸ h), fun _ hn => hn⟩

theorem Side.ringsKept_foldl {α : Type} {f : Side → α → Side} (l : List α) (h : ∀ e : Side, ∀ a ∈ l, e.ringsKept (f e a)) (d : Side) :
    d.ringsKept (l.foldl f d) :=
  List.foldlRecOn l f (motive := fun e => d.ringsKept e) d.ringsKept_refl fun e he a ha => Side.ringsKept_trans he (h e a ha)

theorem offPost_of_not_outRings {o : Nat} (h : ¬outRings o) : offPost o := by
  unfold outRings at h
  unfold offPost
  omega

theorem Side.ringsKept_routePost (d : Side) (p : Pkg) {e : Ev} (st : Nat) (hs : e.src < 0x1000) : d.ringsKept (d.routePost p e st) :=
  ⟨fun o ho => d.routePost_word p e st o hs (offPost_of_not_outRings ho),
    fun n hn => (congrArg (tget [] · n) (d.routePost_hif_sq p e st)).trans hn⟩

theorem Side.ringsKept_histPush (d : Side) (e : Ev) (st : Nat) : d.ringsKept (d.histPush e st) := Side.ringsKept_of_eq rfl rfl

theorem Side.ringsKept_notice (d : Side) (p : Pkg) {src : Nat} (c x y : Nat) (hs : src < 0x1000) : d.ringsKept (d.notice p src c x y) := by
  rw [Side.notice]
  split
  · exact d.ringsKept_refl
  · exact d.ringsKept_routePost p _ hs

theorem Side.ringsKept_faultD (d : Side) (p : Pkg) {src : Nat} {f : Fld} (x y : Nat) (hs : src < 0x1000) (h : outRings f.off) :
    d.ringsKept (d.faultD p src f x y) := by
  rw [Side.faultD]
  split
  · exact d.ringsKept_refl
  · exact Side.ringsKept_trans (Side.ringsKept_trans (d.ringsKept_set 1 h) (Side.ringsKept_histPush _ _ _))
      (Side.ringsKept_routePost _ p _ hs)

theorem Side.ringsKept_fault (d : Side) (p : Pkg) {src : Nat} {f : Fld} (hs : src < 0x1000) (h : outRings f.off) :
    d.ringsKept (d.fault p src f) := by
  rw [Side.fault]
  exact d.ringsKept_faultD p _ _ hs h

theorem Side.ringsKept_faultIf (d : Side) (p : Pkg) (c : Bool) {src : Nat} {f : Fld} (hs : src < 0x1000) (h : outRings f.off) :
    d.ringsKept (d.faultIf p c src f) := by
  rw [Side.faultIf]
  split
  · exact d.ringsKept_fault p hs h
  · exact d.ringsKept_refl

theorem Side.ringsKept_secDenied (d : Side) (p : Pkg) : d.ringsKept (d.secDenied p) :=
  Side.ringsKept_trans (d.ringsKept_set _ (by simp only [outRings, F.SEC_DENIED_COUNT]; omega))
    (Side.ringsKept_fault _ p (by decide) (by simp only [outRings, F.SEC_STATUS_DENIED]; omega))

/-! A DMA channel's transfer. -/

/-- The registers of the DMA block and of all blocks behind it. -/
theorem outRings_of_le {o : Nat} (h : 0x100000 ≤ o) : outRings o := .inr (by omega)

/-- A register of a DMA channel or of the engines is set; the field's place is found by computation. -/
theorem Side.ringsKept.set {d e : Side} (h : d.ringsKept e) {f : Fld} (v : Nat)
    (hf : 0x100000 ≤ f.off := by
      simp only [F.DMA_STATUS_MODE, F.DMA_STATUS_BUSY, F.DMA_STATUS_CUR_SH, F.DMA_PROGRESS_BYTES, F.DMA_SH_RESULT_BYTES,
        F.DMA_SH_STATE_CODE, F.DMA_SH_STATE_SEQ, F.DMA_SH_STATE_VALID, F.DMA_SH_STATE_RUNNING, F.DMA_SH_STATE_ARMED,
        F.STR_ENG_BUSY_DEC]
      omega) : d.ringsKept (e.set f v) :=
  Side.ringsKept_trans h (e.ringsKept_set v (outRings_of_le hf))

theorem Side.ringsKept_dmaRefresh (d : Side) (ch : Nat) : d.ringsKept (d.dmaRefresh ch) := d.ringsKept_refl.set _

theorem Side.ringsKept_dmaRefreshSq (d : Side) (n : Nat) : d.ringsKept (d.dmaRefreshSq n) := by
  rw [Side.dmaRefreshSq]
  split
  · exact d.ringsKept_dmaRefresh _
  · exact d.ringsKept_refl

theorem Side.ringsKept_setCh (d : Side) (ch : Nat) (c : DmaCh) : d.ringsKept (d.setCh ch c) := Side.ringsKept_of_eq rfl rfl

theorem Side.ringsKept_setCur (d : Side) (ch : Nat) (x : Option Xfer) : d.ringsKept (d.setCur ch x) :=
  (d.ringsKept_setCh ch _).set _

theorem Side.ringsKept_spaceWrite (d : Side) (p : Pkg) (fn : Fn) (space a : Nat) (l : List Byte) :
    d.ringsKept (d.spaceWrite p fn space a l) := by
  unfold Side.spaceWrite
  split
  · refine Side.ringsKept_foldl _ (fun e x _ => ?_) d
    exact Side.ringsKept_of_eq rfl rfl
  · exact Side.ringsKept_of_eq rfl rfl
  · exact d.ringsKept_refl

theorem Side.ringsKept_xferMove (d : Side) (p : Pkg) (x : Xfer) (n : Nat) : d.ringsKept (d.xferMove p x n) :=
  d.ringsKept_spaceWrite p _ _ _ _

theorem Side.ringsKept_postHalf (d : Side) (p : Pkg) {ch : Nat} (h : ch < 32) (x : Xfer) : d.ringsKept (d.postHalf p ch x) := by
  rw [Side.postHalf]
  split
  · exact d.ringsKept_notice p _ _ _ (by omega)
  · exact d.ringsKept_refl

/-- The descriptor of a transfer that ends is looked for in its ring, and a ring without one gets none. -/
theorem Side.ringsKept_finish (d : Side) (n slot : Nat) (r : Res) : d.ringsKept (d.finish n slot r) := by
  refine ⟨fun _ _ => rfl, fun m hm => ?_⟩
  by_cases h : m = n
  · subst h
    rw [Side.sqList_finish, hm]
    rfl
  · exact (tget_tset_ne _ _ _ h).trans hm

/-! A shadow set's hand-over (R108 to R110). -/

theorem Side.ringsKept_shPost (d : Side) (p : Pkg) {ch : Nat} (h : ch < 32) (s : Nat) (r : Res) (bytes : Nat) :
    d.ringsKept (d.shPost p ch s r bytes) := by
  have hresult : d.ringsKept ((((((d.set (F.DMA_SH_RESULT_BYTES ch s) bytes).set (F.DMA_SH_STATE_CODE ch s) r.status).inc
      (F.DMA_SH_STATE_SEQ ch s) 1).set (F.DMA_SH_STATE_VALID ch s) 1).set (F.DMA_SH_STATE_RUNNING ch s) 0).set
      (F.DMA_PROGRESS_BYTES ch) bytes) := (((((d.ringsKept_refl.set _).set _).set _).set _).set _).set _
  have herr : ∀ e : Side, e.ringsKept (e.faultIf p (r.status != stSUCCESS) (0x0C0 + ch) (F.DMA_STATUS_ERR ch)) := fun e =>
    e.ringsKept_faultIf p _ (by omega) (outRings_of_le (by simp only [F.DMA_STATUS_ERR]; omega))
  unfold Side.shPost
  dsimp only
  split
  · exact Side.ringsKept_trans (Side.ringsKept_trans hresult (herr _)) (Side.ringsKept_secDenied _ p)
  · exact Side.ringsKept_trans hresult (herr _)

theorem Side.ringsKept_shDone (d : Side) (p : Pkg) {ch : Nat} (h : ch < 32) (s : Nat) (full : Bool) (bytes k : Nat) :
    d.ringsKept (d.shDone p ch s full bytes k) := by
  rw [Side.shDone]
  split
  · exact d.ringsKept_routePost p _ (show 0x0C0 + ch < 0x1000 by omega)
  · exact d.ringsKept_refl

theorem Side.ringsKept_openWin (d : Side) (p : Pkg) (ch s k : Nat) (before : Tab Word) : d.ringsKept (d.openWin p ch s k before) :=
  d.ringsKept_setCh ch _

/-- The hand-over of a channel to the set armed first, whatever follows it, if that leaves the rings alone. -/
theorem Side.ringsKept_shTake (p : Pkg) {ch : Nat} (h : ch < 32) (fuel : Nat) : ∀ (k : Nat) (after : Side → Side) (d : Side),
    (∀ e : Side, e.ringsKept (after e)) → d.ringsKept (d.shTake p ch fuel k after) := by
  induction fuel with
  | zero => exact fun k after d ha => ha d
  | succ fuel ih =>
    intro k after d ha
    have htaken : ∀ (c : DmaCh) (s : Nat), d.ringsKept ((((d.setCh ch c).set (F.DMA_SH_STATE_ARMED ch s) 0).set
        (F.DMA_SH_STATE_RUNNING ch s) 1).set (F.DMA_STATUS_CUR_SH ch) s) := fun c s => (((d.ringsKept_setCh ch c).set _).set _).set _
    unfold Side.shTake
    dsimp only
    split
    · exact Side.ringsKept_trans (d.ringsKept_dmaRefresh ch) (ha _)
    split
    · exact Side.ringsKept_trans (d.ringsKept_dmaRefresh ch) (ha _)
    split
    · exact Side.ringsKept_trans (Side.ringsKept_trans (Side.ringsKept_trans (htaken _ _) (Side.ringsKept_setCur _ ch _))
        (Side.ringsKept_dmaRefresh _ ch)) (ha _)
    · refine Side.ringsKept_trans ?_ (ih _ _ _ fun e => e.ringsKept_shDone p h _ _ _ _)
      exact Side.ringsKept_trans (Side.ringsKept_trans (Side.ringsKept_trans (Side.ringsKept_trans (htaken _ _)
        (Side.ringsKept_dmaRefresh _ ch)) (ha _)) (Side.ringsKept_shPost _ p h _ _ _)) (Side.ringsKept_openWin _ p ch _ _ _)

theorem Side.ringsKept_shHandover (d : Side) (p : Pkg) {ch : Nat} (h : ch < 32) (s : Nat) (x : Xfer) (r : Res) (bytes : Nat) :
    d.ringsKept (d.shHandover p ch s x r bytes) :=
  Side.ringsKept_trans (Side.ringsKept_trans (Side.ringsKept_trans (d.ringsKept_setCur ch none) (Side.ringsKept_shPost _ p h s r bytes))
    (Side.ringsKept_openWin _ p ch s 0 _)) (Side.ringsKept_shTake p h _ _ _ _ fun e => e.ringsKept_shDone p h _ _ _ _)

theorem Side.ringsKept_xferEnd (d : Side) (p : Pkg) {ch : Nat} (h : ch < 32) (x : Xfer) (r : Res) (bytes : Nat) :
    d.ringsKept (d.xferEnd p ch x r bytes) := by
  have hends := Side.ringsKept_trans (d.ringsKept_setCur ch none) (Side.ringsKept_finish _ x.ring x.slot r)
  rw [Side.xferEnd]
  split
  · exact d.ringsKept_shHandover p h _ x r bytes
  · dsimp only
    split
    · exact hends
    · exact hends.set _

/-! Bursts. -/

theorem Side.ringsKept_xferFail (d : Side) (p : Pkg) {ch : Nat} (h : ch < 32) (x : Xfer) (r : Res) (n : Nat) :
    d.ringsKept (d.xferFail p ch x r n) := by
  have hmoved := d.ringsKept_xferMove p x n
  unfold Side.xferFail
  dsimp only
  refine Side.ringsKept_trans (Side.ringsKept_trans ?_ (Side.ringsKept_spaceWrite _ p _ _ _ _)) (Side.ringsKept_xferEnd _ p h x r n)
  split
  · exact Side.ringsKept_trans hmoved (Side.ringsKept_postHalf _ p h x)
  · exact hmoved

theorem Side.ringsKept_burstOne (d : Side) (p : Pkg) {ch : Nat} (h : ch < 32) : d.ringsKept (d.burstOne p ch) := by
  unfold Side.burstOne
  split
  · exact d.ringsKept_refl
  split
  · exact d.ringsKept_xferFail p h _ _ _
  · dsimp only
    have hburst : ∀ (x : Xfer) (n : Nat) (y : Option Xfer), d.ringsKept ((d.xferMove p x n).setCur ch y) := fun x n y =>
      Side.ringsKept_trans (d.ringsKept_xferMove p x n) (Side.ringsKept_setCur _ ch y)
    split
    · exact Side.ringsKept_trans (hburst _ _ _) (Side.ringsKept_postHalf _ p h _)
    · exact hburst _ _ _

theorem Side.ringsKept_burstsTo (p : Pkg) {ch : Nat} (h : ch < 32) (n fuel : Nat) : ∀ d : Side, d.ringsKept (d.burstsTo p ch n fuel) := by
  induction fuel with
  | zero => exact fun d => d.ringsKept_refl
  | succ fuel ih =>
    intro d
    unfold Side.burstsTo
    split
    · exact d.ringsKept_refl
    split
    · exact Side.ringsKept_trans (d.ringsKept_burstOne p h) (ih _)
    · exact d.ringsKept_refl

theorem Side.ringsKept_someBursts (d : Side) (p : Pkg) {ch : Nat} (h : ch < 32) : d.ringsKept (d.someBursts p ch) := by
  unfold Side.someBursts
  split
  · exact d.ringsKept_refl
  split
  · exact Side.ringsKept_burstsTo p h _ _ d
  · exact d.ringsKept_refl

theorem Side.ringsKept_shAbort (d : Side) (p : Pkg) {ch : Nat} (h : ch < 32) : d.ringsKept (d.shAbort p ch) := by
  have hdisarmed : ∀ (e : Side) (c : DmaCh),
      e.ringsKept (((e.setCh ch c).set (F.DMA_SH_STATE_ARMED ch 0) 0).set (F.DMA_SH_STATE_ARMED ch 1) 0) :=
    fun e c => ((e.ringsKept_setCh ch c).set _).set _
  have hmoved : d.ringsKept (if ((d.ch ch).cur.bind (·.sh)).isSome then d.someBursts p ch else d) := by
    split
    · exact d.ringsKept_someBursts p h
    · exact d.ringsKept_refl
  have hstopped := fun c => Side.ringsKept_trans hmoved (hdisarmed _ c)
  unfold Side.shAbort
  dsimp only
  split
  · split
    · exact Side.ringsKept_trans (hstopped _) (Side.ringsKept_xferEnd _ p h _ _ _)
    · exact Side.ringsKept_trans (hstopped _) (Side.ringsKept_dmaRefresh _ ch)
  · exact Side.ringsKept_trans (hstopped _) (Side.ringsKept_dmaRefresh _ ch)

/-! The Strudel engines' work, and spoil causes (R181, R183). -/

theorem Side.ringsKept_setDec (d : Side) (e : Nat) (w : Work) : d.ringsKept (d.setDec e w) := d.ringsKept_refl.set _

theorem Side.ringsKept_setCmp (d : Side) (e : Nat) (w : Work) : d.ringsKept (d.setCmp e w) := by
  have hwork : d.ringsKept { d with str := { d.str with cmp := tset d.str.cmp e w } } := Side.ringsKept_of_eq rfl rfl
  exact hwork.set _

theorem Side.ringsKept_spoilCause (d : Side) (p : Pkg) (r reason : Nat) : d.ringsKept (d.spoilCause p r reason) := by
  unfold Side.spoilCause
  split
  · exact Side.ringsKept_of_eq rfl rfl
  split
  · exact d.ringsKept_faultD p _ _ (by decide) (outRings_of_le (by decide))
  · exact d.ringsKept_refl

theorem Side.ringsKept_spoilRunning (d : Side) (p : Pkg) (reason : Nat) : d.ringsKept (d.spoilRunning p reason) := by
  refine Side.ringsKept_foldl _ (fun e r _ => ?_) d
  split
  · exact e.ringsKept_spoilCause p r reason
  · exact e.ringsKept_refl

end Sys2Proof.Machine
end

section
/-! What a function's reset leaves (R82): its rings DISABLED with nothing in them, its MSI-X table and its Bus Master Enable cleared. -/

namespace Sys2Proof.Machine

/-! Rings that are off. -/

/-- Submission ring n is DISABLED with nothing in it. -/
def Side.sqOff (n : Nat) (d : Side) : Prop := d.sqState n = 0 ∧ d.sqList n = []

/-- Completion ring n is DISABLED. -/
def Side.cqOff (n : Nat) (d : Side) : Prop := d.get (rState (.cq n)) = 0

theorem Side.ringsKept.sqOff {d e : Side} (h : d.ringsKept e) {n : Nat} (hn : n < 64) (hd : d.sqOff n) : e.sqOff n :=
  ⟨(Side.get_of_word _ (h.1 _ (show ¬outRings (0x10014 + 0x40 * n) by unfold outRings; omega))).trans hd.1, h.2 n hd.2⟩

theorem Side.ringsKept.cqOff {d e : Side} (h : d.ringsKept e) {n : Nat} (hn : n < 64) (hd : d.cqOff n) : e.cqOff n :=
  (Side.get_of_word _ (h.1 _ (show ¬outRings (0x20000 + 0x40 * n + 0x14) by unfold outRings; omega))).trans hd

/-- Submission ring m of side d taken down, before its work in engines is discarded. -/
def Side.sqCleared (m : Nat) (d : Side) : Side :=
  ((d.setSqList m []).set (F.HIF_SQ_CFG_ENABLE m) 0).set (F.HIF_SQ_STATUS_STATE m) 0

theorem Side.sqCleared_sqOff (d : Side) (n : Nat) : (d.sqCleared n).sqOff n :=
  ⟨Side.get_set_self _ (F.HIF_SQ_STATUS_STATE n) 0 (show 0 + 2 ≤ 32 by decide), Side.sqList_setSqList d n []⟩

theorem Side.sqOff_sqCleared {d : Side} {n : Nat} (m : Nat) (h : d.sqOff n) : (d.sqCleared m).sqOff n := by
  by_cases hm : n = m
  · subst hm
    exact d.sqCleared_sqOff n
  · obtain ⟨hstate, hlist⟩ := h
    refine ⟨?_, (tget_tset_ne [] d.hif.sq [] hm).trans hlist⟩
    calc (d.sqCleared m).sqState n
        _ = ((d.setSqList m []).set (F.HIF_SQ_CFG_ENABLE m) 0).get (F.HIF_SQ_STATUS_STATE n) :=
          Side.get_set_off _ 0 (show 0x10014 + 0x40 * n ≠ 0x10014 + 0x40 * m by omega)
        _ = d.sqState n := Side.get_set_off _ 0 (show 0x10014 + 0x40 * n ≠ 0x10008 + 0x40 * m by omega)
        _ = 0 := hstate

theorem Side.cqOff_sqCleared {d : Side} {n m : Nat} (hm : m < 64) (h : d.cqOff n) : (d.sqCleared m).cqOff n := by
  calc (d.sqCleared m).get (rState (.cq n))
      _ = ((d.setSqList m []).set (F.HIF_SQ_CFG_ENABLE m) 0).get (rState (.cq n)) :=
        Side.get_set_off _ 0 (show 0x20000 + 0x40 * n + 0x14 ≠ 0x10014 + 0x40 * m by omega)
      _ = d.get (rState (.cq n)) := Side.get_set_off _ 0 (show 0x20000 + 0x40 * n + 0x14 ≠ 0x10008 + 0x40 * m by omega)
      _ = 0 := h

/-- What is left of a ring's work beside its engines touches no ring. -/
theorem Side.ringsKept.unqueued {d e : Side} (h : d.ringsKept e) (m : Nat) (q : Pln) (l : List Nat) :
    d.ringsKept { e.dmaRefreshSq m with pln := q, hif := { e.hif with full := l } } :=
  Side.ringsKept_trans (Side.ringsKept_trans h (e.ringsKept_dmaRefreshSq m))
    (Side.ringsKept_of_eq rfl (show e.hif.sq = (e.dmaRefreshSq m).hif.sq by rw [Side.dmaRefreshSq_hif]))

/-- The work of a ring that is discarded touches no ring. -/
theorem Side.dropRing_ringsKept (d : Side) (p : Pkg) (m : Nat) : (d.sqCleared m).ringsKept (d.dropRing p m) := by
  unfold Side.dropRing
  dsimp only
  refine Side.ringsKept.unqueued ?_ m _ _
  refine Side.ringsKept_trans (Side.ringsKept_trans (Side.ringsKept_foldl _ ?dma (d.sqCleared m)) (Side.ringsKept_foldl _ ?dec _))
    (Side.ringsKept_foldl _ ?cmp _)
  case dma =>
    intro e ch hch
    split
    · split
      · exact Side.ringsKept_trans (e.ringsKept_someBursts p (List.mem_range.1 hch)) (Side.ringsKept_setCur _ ch none)
      · exact e.ringsKept_refl
    · exact e.ringsKept_refl
  case dec =>
    intro e k _
    split
    · split
      · exact e.ringsKept_setDec k .idle
      · exact e.ringsKept_refl
    · exact e.ringsKept_refl
  case cmp =>
    intro e k _
    split
    · split
      · exact e.ringsKept_setCmp k .idle
      · exact e.ringsKept_refl
    · exact e.ringsKept_refl

theorem Side.dropRing_sqOff (d : Side) (p : Pkg) {n : Nat} (hn : n < 64) : (d.dropRing p n).sqOff n :=
  (d.dropRing_ringsKept p n).sqOff hn (d.sqCleared_sqOff n)

theorem Side.sqOff_dropRing {d : Side} (p : Pkg) {n : Nat} (m : Nat) (hn : n < 64) (h : d.sqOff n) : (d.dropRing p m).sqOff n :=
  (d.dropRing_ringsKept p m).sqOff hn (Side.sqOff_sqCleared m h)

theorem Side.cqOff_dropRing {d : Side} (p : Pkg) {n m : Nat} (hn : n < 64) (hm : m < 64) (h : d.cqOff n) : (d.dropRing p m).cqOff n :=
  (d.dropRing_ringsKept p m).cqOff hn (Side.cqOff_sqCleared hm h)

/-! Completion and event rings. -/

theorem Side.dropOut_cqOff (d : Side) (n : Nat) : (d.dropOut (.cq n)).cqOff n :=
  Side.get_set_self (d.set (rEnable (.cq n)) 0) (rState (.cq n)) 0 (show 0 + 2 ≤ 32 by decide)

/-- A submission ring does not see that a completion or event ring is dropped. -/
theorem Side.sqOff_dropOut {d : Side} {n : Nat} (r : RingId) (hn : n < 64) (h : d.sqOff n) : (d.dropOut r).sqOff n := by
  have hbase : 0x20000 ≤ ringBase r := by cases r <;> simp only [ringBase] <;> omega
  refine ⟨?_, h.2⟩
  calc (d.dropOut r).sqState n
      _ = (d.set (rEnable r) 0).sqState n := Side.get_set_off _ 0 (show 0x10014 + 0x40 * n ≠ ringBase r + 0x14 by omega)
      _ = d.sqState n := Side.get_set_off _ 0 (show 0x10014 + 0x40 * n ≠ ringBase r + 8 by omega)
      _ = 0 := h.1

theorem Side.cqOff_dropOut {d : Side} {n : Nat} (r : RingId) (hn : n < 64) (h : d.cqOff n) : (d.dropOut r).cqOff n := by
  by_cases hr : r = .cq n
  · rw [hr]
    exact d.dropOut_cqOff n
  · have hstate : ringBase (.cq n) + 0x14 ≠ ringBase r + 0x14 := by
      cases r with
      | cq m =>
        have hm : m ≠ n := fun hm => hr (congrArg RingId.cq hm)
        simp only [ringBase]; omega
      | eq e => simp only [ringBase]; omega
    have hcfg : ringBase (.cq n) + 0x14 ≠ ringBase r + 8 := by
      cases r <;> simp only [ringBase] <;> omega
    calc (d.dropOut r).get (rState (.cq n))
        _ = (d.set (rEnable r) 0).get (rState (.cq n)) := Side.get_set_off _ 0 hstate
        _ = d.get (rState (.cq n)) := Side.get_set_off _ 0 hcfg
        _ = 0 := h

/-! A function's rings. -/

theorem foldl_of_mem {α β : Type} {P : β → Prop} {f : β → α → β} {l : List α} {a : α} (hset : ∀ b, P (f b a))
    (hkeep : ∀ b, ∀ c ∈ l, P b → P (f b c)) (ha : a ∈ l) (b : β) : P (l.foldl f b) := by
  induction l generalizing b with
  | nil => cases ha
  | cons c t ih =>
    have htail : ∀ b, ∀ c ∈ t, P b → P (f b c) := fun b c hc => hkeep b c (List.mem_cons_of_mem _ hc)
    rcases List.mem_cons.1 ha with rfl | ha
    · exact List.foldlRecOn t f (hset b) fun e he c hc => htail e c hc he
    · exact ih htail ha (f b c)

/-- The numbers of a function's submission and completion rings. -/
def fnRingNums (fn : Fn) : List Nat := (List.range 64).filter fun n => ringFnNum n == fn

theorem mem_fnRingNums {fn : Fn} {n : Nat} : n ∈ fnRingNums fn ↔ n < 64 ∧ ringFnNum n = fn := by
  simp [fnRingNums]

theorem Side.fnRings_eq (d : Side) (p : Pkg) (fn : Fn) : d.fnRings p fn =
    ((fnRingNums fn).foldl (fun d n => d.dropOut (.cq n)) ((fnRingNums fn).foldl (fun d n => d.dropRing p n) d)).dropOut
      (.eq (fnNum fn)) := rfl

/-- Both rings of number n are off. -/
def Side.pairOff (n : Nat) (d : Side) : Prop := d.sqOff n ∧ d.cqOff n

theorem Side.pairOff_fnRings_self (d : Side) (p : Pkg) {n : Nat} (hn : n < 64) : (d.fnRings p (ringFnNum n)).pairOff n := by
  have hmem : n ∈ fnRingNums (ringFnNum n) := mem_fnRingNums.2 ⟨hn, rfl⟩
  have hsq : ∀ e : Side, ((fnRingNums (ringFnNum n)).foldl (fun d m => d.dropRing p m) e).sqOff n :=
    foldl_of_mem (P := Side.sqOff n) (f := fun d m => d.dropRing p m) (fun e => e.dropRing_sqOff p hn)
      (fun e m _ he => Side.sqOff_dropRing p m hn he) hmem
  have hcq : ∀ e : Side, ((fnRingNums (ringFnNum n)).foldl (fun d m => d.dropOut (.cq m)) e).cqOff n :=
    foldl_of_mem (P := Side.cqOff n) (f := fun d m => d.dropOut (.cq m)) (fun e => e.dropOut_cqOff n)
      (fun e m _ he => Side.cqOff_dropOut (.cq m) hn he) hmem
  rw [Side.fnRings_eq]
  refine ⟨Side.sqOff_dropOut _ hn ?_, Side.cqOff_dropOut _ hn (hcq _)⟩
  exact List.foldlRecOn _ _ (motive := Side.sqOff n) (hsq d) fun e he m _ => Side.sqOff_dropOut (.cq m) hn he

/-- Rings that are off stay so when a function's rings are dropped. -/
theorem Side.pairOff_fnRings {d : Side} (p : Pkg) (fn : Fn) {n : Nat} (hn : n < 64) (h : d.pairOff n) : (d.fnRings p fn).pairOff n := by
  obtain ⟨hsq, hcq⟩ := h
  rw [Side.fnRings_eq]
  refine ⟨Side.sqOff_dropOut _ hn ?sq, Side.cqOff_dropOut _ hn ?cq⟩
  case sq =>
    refine List.foldlRecOn _ _ (motive := Side.sqOff n) ?_ fun e he m _ => Side.sqOff_dropOut (.cq m) hn he
    exact List.foldlRecOn _ _ (motive := Side.sqOff n) hsq fun e he m _ => Side.sqOff_dropRing p m hn he
  case cq =>
    refine List.foldlRecOn _ _ (motive := Side.cqOff n) ?_ fun e he m _ => Side.cqOff_dropOut (.cq m) hn he
    exact List.foldlRecOn _ _ (motive := Side.cqOff n) hcq fun e he m hm => Side.cqOff_dropRing p hn (mem_fnRingNums.1 hm).1 he

/-- The plates that PF0's loss spoils and the shadow transfers that it stops leave the rings alone. -/
theorem Side.fnReset_pf0_ringsKept (d : Side) (p : Pkg) : ((d.fnRings p .pf0).fnRings p .pf1).ringsKept (d.fnReset p .pf0) :=
  Side.ringsKept_trans (Side.ringsKept_spoilRunning _ p 6)
    (Side.ringsKept_foldl _ (fun e _ hch => e.ringsKept_shAbort p (List.mem_range.1 hch)) _)

theorem Side.ringsKept.pairOff {d e : Side} (h : d.ringsKept e) {n : Nat} (hn : n < 64) (hd : d.pairOff n) : e.pairOff n :=
  ⟨h.sqOff hn hd.1, h.cqOff hn hd.2⟩

/-- A function's reset drops its rings, PF0's those of both functions. -/
theorem Side.pairOff_fnReset_self (d : Side) (p : Pkg) {fn : Fn} {n : Nat} (hn : n < 64) (h : fn = .pf0 ∨ ringFnNum n = fn) :
    (d.fnReset p fn).pairOff n := by
  have hself : ∀ e : Side, (e.fnRings p (ringFnNum n)).pairOff n := fun e => e.pairOff_fnRings_self p hn
  cases fn with
  | pf0 =>
    refine (d.fnReset_pf0_ringsKept p).pairOff hn ?_
    cases hfn : ringFnNum n with
    | pf0 => exact Side.pairOff_fnRings p .pf1 hn (hfn ▸ hself d)
    | pf1 => exact hfn ▸ hself _
  | pf1 =>
    rcases h with h | h
    · cases h
    · have hd := hself d
      rw [h] at hd
      exact hd

/-- Rings that are off stay so at a function's reset. -/
theorem Side.pairOff_fnReset {d : Side} (p : Pkg) (fn : Fn) {n : Nat} (hn : n < 64) (h : d.pairOff n) : (d.fnReset p fn).pairOff n := by
  cases fn with
  | pf0 => exact (d.fnReset_pf0_ringsKept p).pairOff hn (Side.pairOff_fnRings p .pf1 hn (Side.pairOff_fnRings p .pf0 hn h))
  | pf1 => exact Side.pairOff_fnRings p .pf1 hn h

/-! The reset of a function on the package. -/

theorem State.fnReset_alive (s : State) (fn : Fn) (bme : Bool) (x : SideId) :
    (s.fnReset fn bme).pkg.hold.alive x = s.pkg.hold.alive x := by
  rw [State.fnReset, State.bothOn_alive]

theorem State.bothOn_withPci_of_alive {s : State} {x : SideId} (hx : s.pkg.hold.alive x = true) (c : Pci) (f : Pkg → Side → Side) :
    ∃ p l, (({ s with pkg := { s.pkg with pci := c } } : State).bothOn f).side x = { f p (s.side x) with out := l } := by
  obtain ⟨l, h⟩ := State.bothOn_of_alive (s := { s with pkg := { s.pkg with pci := c } }) hx f
  exact ⟨{ s.pkg with pci := c }, l, by cases x <;> exact h⟩

theorem State.fnReset_side {s : State} {x : SideId} (hx : s.pkg.hold.alive x = true) (fn : Fn) (bme : Bool) :
    ∃ p l, (s.fnReset fn bme).side x = { (s.side x).fnReset p fn with out := l } := by
  rw [State.fnReset]
  exact State.bothOn_withPci_of_alive hx _ fun p d => d.fnReset p fn

theorem State.fnReset_msix (s : State) (fn : Fn) (bme : Bool) :
    (s.fnReset fn bme).pkg.pci.msix = s.pkg.pci.msix.filter (fun e => e.1 / 0x200 ≠ fnNum fn) := by
  rw [State.fnReset, State.bothOn_pkg_pci_msix]
  cases fn <;> cases bme <;> rfl

theorem State.bothOn_bme (s : State) (f : Pkg → Side → Side) (g : Fn) : (s.bothOn f).pkg.pci.bme g = s.pkg.pci.bme g := by
  cases g
  · exact s.bothOn_pkg_pci_bme0 f
  · exact s.bothOn_pkg_pci_bme1 f

/-- Bus Master Enable of the function clears, or stays where the reset is its transition to D3hot (log entry 80). -/
theorem State.fnReset_bme (s : State) (fn g : Fn) (bme : Bool) :
    (s.fnReset fn bme).pkg.pci.bme g = if bme = false ∧ g = fn then false else s.pkg.pci.bme g := by
  rw [State.fnReset, State.bothOn_bme]
  cases fn <;> cases bme <;> cases g <;> rfl

/-- Both rings of number n are off on each powered side after the reset of their function, or of PF0. -/
theorem State.fnReset_pairOff_self {s : State} {x : SideId} (hx : s.pkg.hold.alive x = true) {fn : Fn} (bme : Bool) {n : Nat}
    (hn : n < 64) (h : fn = .pf0 ∨ ringFnNum n = fn) : ((s.fnReset fn bme).side x).pairOff n := by
  obtain ⟨p, l, ht⟩ := State.fnReset_side hx fn bme
  rw [ht]
  exact (s.side x).pairOff_fnReset_self p hn h

theorem State.fnReset_pairOff {s : State} {x : SideId} (hx : s.pkg.hold.alive x = true) (fn : Fn) (bme : Bool) {n : Nat}
    (hn : n < 64) (h : (s.side x).pairOff n) : ((s.fnReset fn bme).side x).pairOff n := by
  obtain ⟨p, l, ht⟩ := State.fnReset_side hx fn bme
  rw [ht]
  exact Side.pairOff_fnReset p fn hn h

/-! PERST_N. -/

theorem State.setLink_side (s : State) (up : Bool) (speed width : Nat) (x : SideId) :
    (s.setLink up speed width).side x = (s.side x).linkFields up speed width := by
  cases x <;> rfl

/-- HIF_STATUS is no ring's register. -/
theorem Side.ringsKept_linkFields (d : Side) (up : Bool) (speed width : Nat) : d.ringsKept (d.linkFields up speed width) :=
  have hset : ∀ (e : Side) (f : Fld) (v : Nat), f.off = 0 → e.ringsKept (e.set f v) := fun e f v hf =>
    e.ringsKept_set v (by rw [hf, outRings]; omega)
  Side.ringsKept_trans (Side.ringsKept_trans (hset d F.HIF_STATUS_LINK_UP _ rfl) (hset _ F.HIF_STATUS_SPEED _ rfl))
    (hset _ F.HIF_STATUS_WIDTH _ rfl)

theorem State.perst_pairOff {s : State} {x : SideId} (hx : s.pkg.hold.alive x = true) {n : Nat} (hn : n < 64) :
    (s.perst.side x).pairOff n := by
  rw [State.perst, State.setLink_side]
  refine (Side.ringsKept_linkFields _ false 0 0).pairOff hn ?_
  refine State.fnReset_pairOff ?_ .pf1 false hn (State.fnReset_pairOff_self hx false hn (.inl rfl))
  rw [State.fnReset_alive]
  exact hx

theorem State.perst_msix (s : State) (g : Fn) : ∀ e ∈ s.perst.pkg.pci.msix, e.1 / 0x200 ≠ fnNum g := by
  change ∀ e ∈ ((s.fnReset .pf0 false).fnReset .pf1 false).pkg.pci.msix, e.1 / 0x200 ≠ fnNum g
  rw [State.fnReset_msix, State.fnReset_msix]
  intro e he
  obtain ⟨he0, he1⟩ := List.mem_filter.1 he
  cases g with
  | pf0 => exact of_decide_eq_true (List.mem_filter.1 he0).2
  | pf1 => exact of_decide_eq_true he1

theorem State.perst_bme (s : State) (g : Fn) : s.perst.pkg.pci.bme g = false := by
  change ((s.fnReset .pf0 false).fnReset .pf1 false).pkg.pci.bme g = false
  rw [State.fnReset_bme, State.fnReset_bme]
  cases g <;> simp

/-- What a function's reset leaves of the function itself, keep saying whether it is the transition to D3hot, and of the rings that
belong to it or, where it is PF0, to either function. -/
theorem State.fnReset_effect (s : State) (fn : Fn) (keep : Bool) :
    (∀ e ∈ (s.fnReset fn keep).pkg.pci.msix, e.1 / 0x200 ≠ fnNum fn) ∧
      (s.fnReset fn keep).pkg.pci.bme fn = (if keep then s.pkg.pci.bme fn else false) ∧
      ∀ x, s.pkg.hold.alive x = true → ∀ n, n < 64 → (fn = .pf0 ∨ ringFnNum n = .pf1) → ((s.fnReset fn keep).side x).pairOff n := by
  refine ⟨?msix, ?bme, ?rings⟩
  case msix =>
    rw [State.fnReset_msix]
    exact fun e he => of_decide_eq_true (List.mem_filter.1 he).2
  case bme =>
    rw [State.fnReset_bme]
    cases keep <;> simp
  case rings =>
    intro x hx n hn h
    refine State.fnReset_pairOff_self hx keep hn ?_
    cases fn with
    | pf0 => exact .inl rfl
    | pf1 => exact .inr (h.resolve_left (by decide))

end Sys2Proof.Machine
end

section
/-! A supply monitor's trip and release and the hold die's own error (R489, R498, R515): which sides are left powered, and that SAFE
mode takes the grant. -/

namespace Sys2Proof.Machine

/-! Supply monitors (R489). -/

/-- The field of a side's health. -/
def healthFld : SideId → Fld
  | .a => F.HLD_TWN_STATUS_HEALTH_A
  | .b => F.HLD_TWN_STATUS_HEALTH_B

theorem Hold.health_eq (h : Hold) (x : SideId) : h.health x = h.get (healthFld x) := by cases x <;> rfl

theorem Hold.alive_of_health_zero {h : Hold} {x : SideId} (hx : h.health x = 0) : h.alive x = false := by
  rw [Hold.alive, hx]; rfl

theorem Hold.alive_of_stopped {h : Hold} {x : SideId} (hx : x ∈ h.stopped) : h.alive x = false := by
  rw [Hold.alive, List.contains_iff_mem.2 hx]
  simp

theorem otherSide_ne (x : SideId) : otherSide x ≠ x := by cases x <;> decide

@[simp] theorem Hold.look_setWatch (h : Hold) (x : SideId) (w : Watch) : (h.setWatch x w).look x = w := tget_tset_self _ _ _ _

/-- Without power the hold die shows both sides' health as 0. -/
theorem State.trip_hold_health (s : State) (x : SideId) : (s.trip .hold).pkg.hold.health x = 0 := by
  cases x with
  | a =>
    change rfGet (rfSet (rfSet [] F.HLD_TWN_STATUS_HEALTH_A 0) F.HLD_TWN_STATUS_HEALTH_B 0) F.HLD_TWN_STATUS_HEALTH_A = 0
    rw [rfGet_rfSet_apart _ _ (.inr (.inl (by decide))) (by decide), rfGet_rfSet_self _ _ _ (by decide), Nat.zero_mod]
  | b =>
    change rfGet (rfSet (rfSet [] F.HLD_TWN_STATUS_HEALTH_A 0) F.HLD_TWN_STATUS_HEALTH_B 0) F.HLD_TWN_STATUS_HEALTH_B = 0
    rw [rfGet_rfSet_self _ _ _ (by decide), Nat.zero_mod]

theorem State.trip_hold_granted (s : State) : (s.trip .hold).pkg.hold.granted = false := by
  change (rfGet (rfSet (rfSet [] F.HLD_TWN_STATUS_HEALTH_A 0) F.HLD_TWN_STATUS_HEALTH_B 0) F.HLD_TWN_STATUS_GRANTED == 1) = false
  rw [rfGet_rfSet_apart _ _ (.inr (.inl (by decide))) (by decide), rfGet_rfSet_apart _ _ (.inr (.inl (by decide))) (by decide)]
  decide

/-- The trip of a side's own monitor, where the side does not boot. -/
theorem State.trip_side {s : State} {x : SideId} (hx : s.pkg.hold.health x ≠ 1) : s.trip (.side x) =
    s.setHold { s.pkg.hold.setWatch x { s.pkg.hold.look x with lostPower := true, out1 := [], out2 := [] } with
      stopped := if s.pkg.hold.stopped.contains x then s.pkg.hold.stopped else s.pkg.hold.stopped ++ [x] } := if_neg hx

theorem mem_insertStopped (l : List SideId) (x y : SideId) :
    y ∈ (if l.contains x then l else l ++ [x]) ↔ y ∈ l ∨ y = x := by
  split
  next h => exact ⟨.inl, fun hy => hy.elim id fun hyx => hyx ▸ List.contains_iff_mem.1 h⟩
  next => simp

/-- One side's trip stops that side only. -/
theorem State.trip_side_alive {s : State} {x : SideId} (hx : s.pkg.hold.health x ≠ 1) :
    (s.trip (.side x)).pkg.hold.alive x = false ∧
      (s.trip (.side x)).pkg.hold.alive (otherSide x) = s.pkg.hold.alive (otherSide x) := by
  rw [State.trip_side hx]
  refine ⟨Hold.alive_of_stopped ((mem_insertStopped _ _ _).2 (.inr rfl)), ?_⟩
  have hstop : (if s.pkg.hold.stopped.contains x then s.pkg.hold.stopped else s.pkg.hold.stopped ++ [x]).contains (otherSide x) =
      s.pkg.hold.stopped.contains (otherSide x) := by
    exact Bool.eq_iff_iff.2 (List.contains_iff_mem.trans (((mem_insertStopped _ _ _).trans (or_iff_left (otherSide_ne x))).trans
      List.contains_iff_mem.symm))
  rw [Hold.alive, Hold.alive, ← hstop]
  cases x <;> rfl

/-! SAFE mode (R392, R498): the flag and the grant stand while the ports train and the loss is reported. -/

theorem Side.onlyRegs_portMirror (p : Pkg) (n : Nat) (d : Side) : d.onlyRegs (d.portMirror p n) := rfl

theorem Side.onlyRegs_routePost (d : Side) (p : Pkg) (e : Ev) (st : Nat) : d.onlyRegs (d.routePost p e st) := by
  unfold Side.onlyRegs Side.unpost
  simp

/-- What runs on both sides changes only registers and rings where its operation does. -/
theorem State.both_onlyRegs_of {f : Pkg → Side → Side} (hf : ∀ p (d : Side), d.onlyRegs (f p d)) (s : State) (x : SideId) :
    (s.side x).onlyRegs ((s.both f).side x) := by
  refine State.both_onlyRegs ?_
  cases s.pkg.hold.running x
  · exact Side.onlyRegs_refl _
  · exact hf _ _

/-- From s to t the mode's SAFE and GRANTED stay, and the sides change in registers and rings only. -/
def State.modeKept (s t : State) : Prop :=
  t.pkg.hold.get F.HLD_TWN_STATUS_SAFE = s.pkg.hold.get F.HLD_TWN_STATUS_SAFE ∧
    t.pkg.hold.get F.HLD_TWN_STATUS_GRANTED = s.pkg.hold.get F.HLD_TWN_STATUS_GRANTED ∧ ∀ x, (s.side x).onlyRegs (t.side x)

theorem State.modeKept_trans {s t u : State} (h : s.modeKept t) (h' : t.modeKept u) : s.modeKept u := by
  obtain ⟨hsafe, hgranted, hside⟩ := h
  obtain ⟨hsafe', hgranted', hside'⟩ := h'
  exact ⟨hsafe'.trans hsafe, hgranted'.trans hgranted, fun x => Side.onlyRegs_trans (hside x) (hside' x)⟩

/-- The registers stay, and the sides. -/
theorem State.modeKept_of_rf {s t : State} (hrf : t.pkg.hold.rf = s.pkg.hold.rf) (hside : ∀ x, (s.side x).onlyRegs (t.side x)) :
    s.modeKept t := by
  refine ⟨?_, ?_, hside⟩ <;> rw [Hold.get, hrf] <;> rfl

theorem State.modeKept_refl (s : State) : s.modeKept s := State.modeKept_of_rf rfl fun _ => Side.onlyRegs_refl _

theorem State.modeKept_setHold {s : State} {h : Hold} (hrf : h.rf = s.pkg.hold.rf) : s.modeKept (s.setHold h) :=
  State.modeKept_of_rf hrf fun x => by cases x <;> exact Side.onlyRegs_refl _

/-- A field of the hold die other than those two. -/
def modeFree (f : Fld) : Prop := f.apart F.HLD_TWN_STATUS_SAFE ∧ f.apart F.HLD_TWN_STATUS_GRANTED

theorem Hold.set_modeKept {s : State} {h : Hold} {f : Fld} (v : Nat) (hf : modeFree f) (hh : s.modeKept (s.setHold h)) :
    s.modeKept (s.setHold (h.set f v)) := by
  obtain ⟨hsafe, hgranted, _⟩ := hh
  refine ⟨(rfGet_rfSet_apart _ _ hf.1 (by decide)).trans hsafe, (rfGet_rfSet_apart _ _ hf.2 (by decide)).trans hgranted, fun x => ?_⟩
  cases x <;> exact Side.onlyRegs_refl _

theorem State.modeKept_both {f : Pkg → Side → Side} (hf : ∀ p (d : Side), d.onlyRegs (f p d)) (s : State) : s.modeKept (s.both f) :=
  State.modeKept_of_rf (s.both_pkg_hold_rf f) (State.both_onlyRegs_of hf s)

theorem State.modeKept_foldl {α : Type} {f : State → α → State} {l : List α} (hf : ∀ t : State, ∀ a ∈ l, t.modeKept (f t a)) (s : State) :
    s.modeKept (l.foldl f s) :=
  List.foldlRecOn l f (motive := fun t => s.modeKept t) s.modeKept_refl fun t ht a ha => State.modeKept_trans ht (hf t a ha)

/-! Its steps. -/

theorem State.holdFault_modeKept (s : State) (src : Nat) {f : Fld} (hf : modeFree f) : s.modeKept (s.holdFault src f) := by
  rw [State.holdFault, State.holdFaultD]
  split
  · exact s.modeKept_refl
  · have hset : s.modeKept (s.setHold (s.pkg.hold.set f 1)) := Hold.set_modeKept 1 hf (State.modeKept_setHold rfl)
    refine State.modeKept_trans ?_ (State.modeKept_both (fun p d => Side.onlyRegs_routePost d p _ _) _)
    exact State.modeKept_trans hset (State.modeKept_of_rf rfl fun x => by cases x <;> exact Side.onlyRegs_refl _)

theorem State.updPort_modeKept (s : State) (n : Nat) (f : Port → Port) : s.modeKept (s.updPort n f) := State.modeKept_setHold rfl

theorem State.portNow_modeKept (s : State) (n : Nat) : s.modeKept (s.portNow n) :=
  State.modeKept_trans (s.updPort_modeKept n _) (State.updPort_modeKept _ n _)

theorem State.sendBlank_modeKept (s : State) (n mask cause : Nat) : s.modeKept (s.sendBlank n mask cause) := by
  refine State.modeKept_trans ?_ (State.updPort_modeKept _ n _)
  rw [State.putBlanks]
  split
  · exact s.modeKept_refl
  · exact State.modeKept_trans (s.portNow_modeKept n) (State.updPort_modeKept _ n _)

theorem State.train_modeKept (s : State) (n : Nat) : s.modeKept (s.train n) :=
  State.modeKept_trans (State.modeKept_trans (State.modeKept_trans (s.portNow_modeKept n) (State.updPort_modeKept _ n _))
    (State.sendBlank_modeKept _ n allBeams 2)) (State.modeKept_both (fun p d => d.onlyRegs_portMirror p n) _)

theorem modeFree_of_off {f : Fld} (h : f.off ≠ 0x3F00000) : modeFree f := ⟨.inl h.symm, .inl h.symm⟩

theorem State.fltStart_modeKept (s : State) (causes : List Nat) : s.modeKept (s.fltStart causes) := by
  have hflag (k : Nat) : modeFree (fltFlag k) := modeFree_of_off (by change 0x3F02000 ≠ 0x3F00000; decide)
  have htimes := Hold.set_modeKept (s := s) (s.pkg.now / 2 ^ 32 % 2 ^ 32) (f := F.HLD_FLT_ASSERTED_HI_TIME)
    (modeFree_of_off (by decide)) (Hold.set_modeKept (s.pkg.now % 2 ^ 32) (f := F.HLD_FLT_ASSERTED_LO_TIME) (modeFree_of_off (by decide)) (State.modeKept_setHold rfl))
  rw [State.fltStart]
  refine State.modeKept_trans (State.modeKept_trans ?state (State.holdFault_modeKept _ _ (modeFree_of_off (by decide))))
    (State.modeKept_foldl (fun t k _ => ?cause) _)
  case state =>
    refine Hold.set_modeKept 1 (modeFree_of_off (by decide)) ?_
    split
    · exact Hold.set_modeKept _ (modeFree_of_off (by decide)) htimes
    · exact htimes
  case cause =>
    split
    · exact t.holdFault_modeKept _ (hflag k)
    · exact t.modeKept_refl

theorem State.fltRefresh_modeKept (s : State) : s.modeKept s.fltRefresh := by
  have hset (x : Flt) : s.modeKept (s.setFlt x) := State.modeKept_setHold rfl
  rw [State.fltRefresh]
  dsimp only
  split
  · exact hset _
  · exact State.modeKept_trans (hset _) (State.fltStart_modeKept _ _)

/-- SAFE mode is entered with no grant, and no side changes but in registers and rings. -/
theorem State.enterSafe_effect (s : State) : s.enterSafe.pkg.hold.flag F.HLD_TWN_STATUS_SAFE = true ∧
    s.enterSafe.pkg.hold.granted = false ∧ ∀ x, (s.side x).onlyRegs (s.enterSafe.side x) := by
  have hkept : (s.setHold { (s.pkg.hold.set F.HLD_TWN_STATUS_SAFE 1).set F.HLD_TWN_STATUS_GRANTED 0 with
      gap := none, ack := none, copy := none, pwm := [], ssr := [] }).modeKept s.enterSafe := by
    rw [State.enterSafe]
    refine State.modeKept_trans (State.modeKept_trans (State.modeKept_foldl (fun t n _ => ?_) _)
      (State.holdFault_modeKept _ _ ⟨.inr (.inl (by decide)), .inr (.inl (by decide))⟩)) (State.fltRefresh_modeKept _)
    split
    · exact t.modeKept_refl
    · exact t.train_modeKept n
  obtain ⟨hsafe, hgranted, hside⟩ := hkept
  refine ⟨?_, ?_, fun x => ?_⟩
  · rw [Hold.flag, hsafe]
    exact beq_iff_eq.2 ((rfGet_rfSet_apart _ _ (.inr (.inr (by decide))) (by decide)).trans (rfGet_rfSet_self _ _ _ (by decide)))
  · rw [Hold.granted, Hold.flag, hgranted]
    exact congrArg (· == 1) (rfGet_rfSet_self _ F.HLD_TWN_STATUS_GRANTED 0 (by decide))
  · have h := hside x
    cases x <;> exact h

end Sys2Proof.Machine

namespace Sys2Proof.Proofs

open Sys2Proof Sys2Proof.Machine

/-- Settles O10: what a function's reset drops (R82), what a supply monitor leaves powered (R489, R515) and what a hold-die error does
(R498). That D3hot keeps Bus Master Enable is the model's choice (log entry 80). -/
theorem functionResetsAndSupplyMonitors : Obligations.FunctionResetsAndSupplyMonitors := by
  unfold Obligations.FunctionResetsAndSupplyMonitors
  refine ⟨fun fn s c hc => ?reset, fun s => ?hold, fun s x hx => ?trip, fun s x => ?release, fun s => ?error⟩
  case reset =>
    rcases hc with rfl | rfl | rfl
    case inl =>
      obtain ⟨hmsix, hbme, hrings⟩ := s.fnReset_effect fn false
      refine ⟨_, rfl, fun g hg => ?_, nofun, fun x hx n hn h => and_assoc.1 (hrings x hx n hn (h.imp_right (·.resolve_right nofun)))⟩
      obtain rfl := hg.resolve_right nofun
      exact ⟨hmsix, by rw [if_neg nofun]; exact hbme⟩
    case inr.inl =>
      obtain ⟨hmsix, hbme, hrings⟩ := s.fnReset_effect fn true
      refine ⟨_, rfl, fun g hg => ?_, nofun, fun x hx n hn h => and_assoc.1 (hrings x hx n hn (h.imp_right (·.resolve_right nofun)))⟩
      obtain rfl := hg.resolve_right nofun
      exact ⟨hmsix, by rw [if_pos rfl]; exact hbme⟩
    case inr.inr =>
      refine ⟨_, rfl, fun g _ => ⟨s.perst_msix g, ?_⟩, fun _ => rfl, fun x hx n hn _ => and_assoc.1 (State.perst_pairOff hx hn)⟩
      rw [if_neg nofun]
      exact s.perst_bme g
  case hold =>
    exact ⟨_, rfl, rfl, fun x => Hold.alive_of_health_zero (s.trip_hold_health x), s.trip_hold_granted, rfl, rfl, rfl, rfl, rfl, rfl⟩
  case trip =>
    obtain ⟨hoff, hother⟩ := State.trip_side_alive hx
    refine ⟨_, rfl, hoff, ?_, hother, ?_, ?_⟩ <;> rw [State.trip_side hx]
    · exact congrArg Watch.lostPower (Hold.look_setWatch _ _ _)
    · rfl
    · rfl
  case release =>
    exact ⟨_, rfl, congrArg Watch.lostPower (Hold.look_setWatch _ _ _), rfl, rfl, rfl⟩
  case error =>
    obtain ⟨hsafe, hgranted, hside⟩ := (s.setFlt { s.pkg.hold.flt with lost := true }).enterSafe_effect
    refine ⟨_, rfl, hsafe, hgranted, fun x => ?_⟩
    have h := hside x
    cases x <;> exact h

end Sys2Proof.Proofs
end

section
/-! The grant of a failover (R85, R391, R393) and the swap at TWN_FIXED (R402 to R404). -/

namespace Sys2Proof.Machine

theorem srcAbsent_twn (b : Bool) : srcAbsent b 0x250 = false := by cases b <;> decide

theorem srcAbsent_hold (b : Bool) : srcAbsent b 0x400 = false := by cases b <;> decide

/-! What a hold-die fault leaves of the hold die. -/

/-- A fault of the hold die sets its flag. -/
theorem State.holdFault_rf (s : State) {src : Nat} (f : Fld) (hsrc : srcAbsent s.pkg.fuses.is7708 src = false) :
    (s.holdFault src f).pkg.hold.rf = rfSet s.pkg.hold.rf f 1 := by
  rw [State.holdFault, State.holdFaultD, if_neg (by rw [hsrc]; decide), State.both_pkg_hold_rf]
  rfl

/-- Beside registers, ports and history it keeps the hold die. -/
theorem State.holdFault_roles (s : State) (src : Nat) (f : Fld) : (s.holdFault src f).pkg.hold.gap = s.pkg.hold.gap ∧
    (s.holdFault src f).pkg.hold.ack = s.pkg.hold.ack ∧ (s.holdFault src f).pkg.hold.stopped = s.pkg.hold.stopped ∧
    (s.holdFault src f).pkg.hold.deep = s.pkg.hold.deep := by
  rw [State.holdFault, State.holdFaultD]
  split
  · exact ⟨rfl, rfl, rfl, rfl⟩
  · exact ⟨State.both_pkg_hold_gap _ _, State.both_pkg_hold_ack _ _, State.both_pkg_hold_stopped _ _, State.both_pkg_hold_deep _ _⟩

/-! The hold die as the grant leaves it. -/

/-- The new active side's items fill frames of the ports only. -/
theorem Hold.loadItems_eq (h : Hold) (d : Side) (beams : Nat) : h.loadItems d beams = { h with ports := (h.loadItems d beams).ports } := by
  rw [Hold.loadItems]
  refine List.foldlRecOn _ _ (motive := fun t : Hold => t = { h with ports := t.ports }) rfl fun t ht e _ => ?_
  dsimp only
  split
  · rw [ht]; rfl
  · exact ht

/-- The hold die once it has given side x the grant, the gap having lasted gapNs. -/
def Hold.grantTo (h : Hold) (x : SideId) (gapNs : Nat) : Hold :=
  { ((((h.set F.HLD_TWN_STATUS_ACTIVE (sideIx x)).set F.HLD_TWN_STATUS_GRANTED 1).inc F.HLD_FAILOVERS_COUNT 1).set
      F.HLD_LAST_GAP_NS gapNs) with gap := none, ack := some x }

/-- The package at the grant, before FAILOVER_SEEN and the failover event reach the sides. -/
def State.grantHeld (s : State) (g : Gap) : State :=
  (s.setHold (((s.pkg.hold.grantTo (otherSide g.lost) (s.pkg.now - g.lastBeat)).loadItems (s.side (otherSide g.lost))
    s.pkg.beams).compareShow)).holdFault 0x400 F.HLD_TWN_STATUS_FAILOVER

/-- The conditions of the grant (R393). -/
def State.grantDue (s : State) (g : Gap) : Bool :=
  s.pkg.hold.health (otherSide g.lost) == 3 && reached s.pkg.now (g.declared + 1000) && (s.side (otherSide g.lost)).atFine s.pkg

theorem State.grant_of_none {s : State} (h : s.pkg.hold.gap = none) : s.grant = s := by
  rw [State.grant, h]

theorem State.grant_of_not_due {s : State} {g : Gap} (h : s.pkg.hold.gap = some g) (hdue : s.grantDue g = false) : s.grant = s := by
  rw [State.grant, h]
  refine if_pos ?_
  simpa [State.grantDue, or_assoc, imp_iff_not_or] using hdue

theorem State.grant_of_due {s : State} {g : Gap} (h : s.pkg.hold.gap = some g) (hdue : s.grantDue g = true) : s.grant =
    (s.grantHeld g).both fun p d => (d.fault p 0 F.HIF_STATUS_FAILOVER_SEEN).notice p 0x250 0 (sideIx (otherSide g.lost))
      (s.pkg.now - g.lastBeat) := by
  rw [State.grant, h]
  refine if_neg ?_
  simpa [State.grantDue, and_assoc] using hdue

/-- Its registers: those of the grant, COMPARE_LOST and FAILOVER. -/
theorem State.grantHeld_rf (s : State) (g : Gap) : ∃ v, (s.grantHeld g).pkg.hold.rf =
    rfSet (rfSet (s.pkg.hold.grantTo (otherSide g.lost) (s.pkg.now - g.lastBeat)).rf F.HLD_TWN_STATUS_COMPARE_LOST v)
      F.HLD_TWN_STATUS_FAILOVER 1 := by
  rw [State.grantHeld, State.holdFault_rf _ _ (srcAbsent_hold _), Hold.loadItems_eq]
  exact ⟨_, rfl⟩

theorem State.grantHeld_roles (s : State) (g : Gap) : (s.grantHeld g).pkg.hold.gap = none ∧
    (s.grantHeld g).pkg.hold.ack = some (otherSide g.lost) ∧ (s.grantHeld g).pkg.hold.stopped = s.pkg.hold.stopped ∧
    (s.grantHeld g).pkg.hold.deep = s.pkg.hold.deep := by
  rw [State.grantHeld, Hold.loadItems_eq]
  exact State.holdFault_roles _ _ _

theorem State.grantHeld_get (s : State) (g : Gap) {f : Fld} (hcmp : F.HLD_TWN_STATUS_COMPARE_LOST.apart f)
    (hfail : F.HLD_TWN_STATUS_FAILOVER.apart f) (hf : f.lo + f.w ≤ 32) : (s.grantHeld g).pkg.hold.get f =
    (s.pkg.hold.grantTo (otherSide g.lost) (s.pkg.now - g.lastBeat)).get f := by
  obtain ⟨v, hrf⟩ := s.grantHeld_rf g
  rw [Hold.get, hrf, rfGet_rfSet_apart _ _ hfail hf, rfGet_rfSet_apart _ _ hcmp hf]
  rfl

theorem State.grantHeld_failover (s : State) (g : Gap) : (s.grantHeld g).pkg.hold.flag F.HLD_TWN_STATUS_FAILOVER = true := by
  obtain ⟨v, hrf⟩ := s.grantHeld_rf g
  rw [Hold.flag, Hold.get, hrf]
  exact beq_iff_eq.2 (rfGet_rfSet_self _ _ _ (by decide))

/-! The fields of the grant. -/

theorem Hold.get_set_self (h : Hold) {f : Fld} (v : Nat) (hf : f.lo + f.w ≤ 32) : (h.set f v).get f = v % 2 ^ f.w :=
  rfGet_rfSet_self _ _ _ hf

theorem Hold.get_set_apart (h : Hold) {f g : Fld} (v : Nat) (hfg : f.apart g) (hg : g.lo + g.w ≤ 32) : (h.set f v).get g = h.get g :=
  rfGet_rfSet_apart _ _ hfg hg

theorem Hold.grantTo_get (h : Hold) (x : SideId) (gapNs : Nat) (f : Fld) : (h.grantTo x gapNs).get f =
    ((((h.set F.HLD_TWN_STATUS_ACTIVE (sideIx x)).set F.HLD_TWN_STATUS_GRANTED 1).inc F.HLD_FAILOVERS_COUNT 1).set
      F.HLD_LAST_GAP_NS gapNs).get f := rfl

/-- A field of TWN_STATUS that is neither ACTIVE nor GRANTED. -/
theorem Hold.grantTo_get_kept (h : Hold) (x : SideId) (gapNs : Nat) {f : Fld} (hoff : f.off = 0x3F00000) (hlo : 2 ≤ f.lo)
    (hf : f.lo + f.w ≤ 32) : (h.grantTo x gapNs).get f = h.get f := by
  rw [Hold.grantTo_get, Hold.inc, Hold.get_set_apart _ _ (.inl (by rw [hoff]; decide)) hf,
    Hold.get_set_apart _ _ (.inl (by rw [hoff]; decide)) hf, Hold.get_set_apart (f := F.HLD_TWN_STATUS_GRANTED) _ _ (.inr (.inr hlo)) hf,
    Hold.get_set_apart (f := F.HLD_TWN_STATUS_ACTIVE) _ _ (.inr (.inr (Nat.le_of_succ_le hlo))) hf]

theorem Hold.grantTo_granted (h : Hold) (x : SideId) (gapNs : Nat) : (h.grantTo x gapNs).get F.HLD_TWN_STATUS_GRANTED = 1 := by
  rw [Hold.grantTo_get, Hold.inc, Hold.get_set_apart _ _ (.inl (by decide)) (by decide),
    Hold.get_set_apart _ _ (.inl (by decide)) (by decide), Hold.get_set_self _ _ (by decide)]
  rfl

theorem Hold.grantTo_active (h : Hold) (x : SideId) (gapNs : Nat) : (h.grantTo x gapNs).get F.HLD_TWN_STATUS_ACTIVE = sideIx x := by
  rw [Hold.grantTo_get, Hold.inc, Hold.get_set_apart _ _ (.inl (by decide)) (by decide),
    Hold.get_set_apart _ _ (.inl (by decide)) (by decide), Hold.get_set_apart _ _ (.inr (.inl (by decide))) (by decide),
    Hold.get_set_self _ _ (by decide)]
  cases x <;> rfl

theorem Hold.grantTo_failovers (h : Hold) (x : SideId) (gapNs : Nat) :
    (h.grantTo x gapNs).get F.HLD_FAILOVERS_COUNT = (h.get F.HLD_FAILOVERS_COUNT + 1) % 2 ^ 32 := by
  rw [Hold.grantTo_get, Hold.get_set_apart _ _ (.inl (by decide)) (by decide), Hold.inc, Hold.get_set_self _ _ (by decide),
    Hold.get_set_apart _ _ (.inl (by decide)) (by decide), Hold.get_set_apart _ _ (.inl (by decide)) (by decide)]
  rfl

theorem Hold.grantTo_lastGap (h : Hold) (x : SideId) (gapNs : Nat) : (h.grantTo x gapNs).get F.HLD_LAST_GAP_NS = gapNs % 2 ^ 32 :=
  Hold.get_set_self _ gapNs (show 0 + 32 ≤ 32 by decide)

theorem Hold.active_of_get {h : Hold} {x : SideId} (ha : h.get F.HLD_TWN_STATUS_ACTIVE = sideIx x) : h.active = x := by
  rw [Hold.active, Hold.flag, ha]
  cases x <;> rfl

theorem State.grantHeld_health (s : State) (g : Gap) (y : SideId) : (s.grantHeld g).pkg.hold.health y = s.pkg.hold.health y := by
  rw [Hold.health_eq, Hold.health_eq]
  cases y
  all_goals
    exact (s.grantHeld_get g (.inr (by decide)) (.inr (by decide)) (by decide)).trans
      (Hold.grantTo_get_kept _ _ _ rfl (by decide) (by decide))

/-- A side that runs still does. -/
theorem State.grantHeld_running (s : State) (g : Gap) (y : SideId) : (s.grantHeld g).pkg.hold.running y = s.pkg.hold.running y := by
  obtain ⟨_, _, hstopped, hdeep⟩ := s.grantHeld_roles g
  rw [Hold.running, Hold.alive, s.grantHeld_health, hstopped, hdeep]
  rfl

/-! The registers of the hold die while both sides run. -/

theorem State.both_hold_get (s : State) (f : Pkg → Side → Side) (g : Fld) : (s.both f).pkg.hold.get g = s.pkg.hold.get g := by
  rw [Hold.get, State.both_pkg_hold_rf]
  rfl

theorem State.both_hold_health (s : State) (f : Pkg → Side → Side) (y : SideId) :
    (s.both f).pkg.hold.health y = s.pkg.hold.health y := by
  rw [Hold.health_eq, Hold.health_eq, State.both_hold_get]

theorem Side.get_withOut (d : Side) (l : List Outbound) (f : Fld) : ({ d with out := l } : Side).get f = d.get f := rfl

/-- FAILOVER_SEEN shows on a side that runs. -/
theorem Side.get_failoverSeen (d : Side) (p : Pkg) (x : SideId) (gapNs : Nat) :
    ((d.fault p 0 F.HIF_STATUS_FAILOVER_SEEN).notice p 0x250 0 (sideIx x) gapNs).get F.HIF_STATUS_FAILOVER_SEEN = 1 := by
  have hoff : offPost F.HIF_STATUS_FAILOVER_SEEN.off := offPost_of_not_postRegs (by unfold postRegs; decide)
  rw [Side.notice_get _ _ _ _ _ _ _ (by decide) hoff]
  exact d.fault_flag p 0 _ (by decide) hoff (srcAbsent_of_lt _ (by decide)) rfl (by decide)

theorem State.both_failoverSeen {s : State} {y : SideId} (x : SideId) (gapNs : Nat) (hy : s.pkg.hold.running y = true) :
    ((s.both fun p d => (d.fault p 0 F.HIF_STATUS_FAILOVER_SEEN).notice p 0x250 0 (sideIx x) gapNs).side y).get
      F.HIF_STATUS_FAILOVER_SEEN = 1 := by
  obtain ⟨l, ht⟩ := State.both_of_running hy fun p d =>
    (d.fault p 0 F.HIF_STATUS_FAILOVER_SEEN).notice p 0x250 0 (sideIx x) gapNs
  rw [ht, Side.get_withOut]
  exact Side.get_failoverSeen _ _ _ _

/-! The swap at TWN_FIXED. -/

theorem Side.fixedArm_refused {d : Side} (p : Pkg)
    (h : d.compat = true ∨ d.insidePlate (d.get64 F.TWN_FIXED_LO_TIME F.TWN_FIXED_HI_TIME) = true) :
    d.fixedArm p = d.fault p 0x250 F.TWN_STATUS_WINDOW_VIOL := if_pos (by simpa using h)

theorem Side.fixedArm_armed {d : Side} (p : Pkg) (hcompat : d.compat = false)
    (hplate : d.insidePlate (d.get64 F.TWN_FIXED_LO_TIME F.TWN_FIXED_HI_TIME) = false) : d.fixedArm p =
    { d.set F.TWN_STATUS_FIXED_ARMED 1 with
      twn := { d.twn with fixedAt := d.get64 F.TWN_FIXED_LO_TIME F.TWN_FIXED_HI_TIME } } := if_neg (by simp [hcompat, hplate])

/-- A refusal sets WINDOW_VIOL, beside which TWN_STATUS keeps FIXED_ARMED. -/
theorem Side.fixedViol_get (d : Side) (p : Pkg) : (d.fault p 0x250 F.TWN_STATUS_WINDOW_VIOL).get F.TWN_STATUS_WINDOW_VIOL = 1 ∧
    (d.fault p 0x250 F.TWN_STATUS_WINDOW_VIOL).get F.TWN_STATUS_FIXED_ARMED = d.get F.TWN_STATUS_FIXED_ARMED := by
  have hoff : offPost 0xD00000 := offPost_of_not_postRegs (by unfold postRegs; decide)
  refine ⟨d.fault_flag p 0x250 _ (by decide) hoff (srcAbsent_twn _) rfl (by decide), ?_⟩
  exact (Side.get_of_word F.TWN_STATUS_FIXED_ARMED (d.fault_word p 0x250 _ 0xD00000 (by decide) hoff (srcAbsent_twn _))).trans
    (Side.get_set_apart d 1 (.inr (.inl (by decide))) (by decide))

theorem exec_fixedArm {s : State} (hacc : s.accepts true 0xD00008 1) : exec .fixedArm s = .next (s.both Side.fixedArm) := by
  change execFixedArm s = _
  rw [execFixedArm, State.accepts_asWrite hacc]

theorem exec_fixedDisarm {s : State} (hacc : s.accepts true 0xD00008 2) :
    exec .fixedDisarm s = .next (s.both fun _ d => d.set F.TWN_STATUS_FIXED_ARMED 0) := by
  change execFixedDisarm s = _
  rw [execFixedDisarm, State.accepts_asWrite hacc]

end Sys2Proof.Machine

namespace Sys2Proof.Proofs

open Sys2Proof Sys2Proof.Machine

theorem exec_grant (k : Nat) (s : State) : exec (.grant k) s = .next (s.advance k).grant := rfl

/-- Settles O47: the grant of a failover at a fine-tick boundary (R85, R391, R393; which instant that is, log entry 58) and the swap at
TWN_FIXED, refused under COMPAT (R402 to R404). -/
theorem grantsAndFixedSwaps : Obligations.GrantsAndFixedSwaps := by
  unfold Obligations.GrantsAndFixedSwaps
  rintro k s S x rfl
  refine ⟨?grant, fun hgap => by rw [exec_grant, State.grant_of_none hgap], ?fixed⟩
  case grant =>
    rintro g hgap rfl ready hready
    change ready = (s.advance k).grantDue g at hready
    refine ⟨fun hr => ?due, fun hr => by rw [exec_grant, State.grant_of_not_due hgap (hready.symm.trans hr)]⟩
    case due =>
      obtain ⟨hnone, hack, _, _⟩ := (s.advance k).grantHeld_roles g
      refine ⟨_, by rw [exec_grant, State.grant_of_due hgap (hready.symm.trans hr)], ?_⟩
      refine ⟨Hold.active_of_get ?active, ?granted, ?gap, ?ack, ?failovers, ?lastGap, ?failover, fun y => ?health, fun hx => ?seen⟩
      case active =>
        rw [State.both_hold_get, State.grantHeld_get _ _ (.inr (by decide)) (.inr (by decide)) (by decide), Hold.grantTo_active]
      case granted =>
        rw [Hold.granted, Hold.flag, State.both_hold_get,
          State.grantHeld_get _ _ (.inr (by decide)) (.inr (by decide)) (by decide), Hold.grantTo_granted]
        rfl
      case gap => rw [State.both_pkg_hold_gap, hnone]
      case ack => rw [State.both_pkg_hold_ack, hack]
      case failovers =>
        rw [State.both_hold_get, State.grantHeld_get _ _ (.inl (by decide)) (.inl (by decide)) (by decide), Hold.grantTo_failovers]
      case lastGap =>
        rw [State.both_hold_get, State.grantHeld_get _ _ (.inl (by decide)) (.inl (by decide)) (by decide), Hold.grantTo_lastGap]
      case failover =>
        rw [Hold.flag, State.both_hold_get]
        exact State.grantHeld_failover _ g
      case health => rw [State.both_hold_health, State.grantHeld_health]
      case seen =>
        exact State.both_failoverSeen _ _ (((s.advance k).grantHeld_running g _).trans hx)
  case fixed =>
    rintro hx d a rfl rfl
    refine ⟨fun hacc => ⟨fun h => ?refused, fun hcompat hplate => ?armed⟩, fun hacc => ?disarm⟩
    case refused =>
      obtain ⟨l, ht⟩ := State.both_of_running hx Side.fixedArm
      obtain ⟨hviol, hkept⟩ := (s.side x).fixedViol_get s.pkg
      refine ⟨_, exec_fixedArm hacc, ?_⟩
      rw [ht, Side.fixedArm_refused _ h]
      exact ⟨hviol, hkept, Side.fault_twn _ _ _ _⟩
    case armed =>
      obtain ⟨l, ht⟩ := State.both_of_running hx Side.fixedArm
      refine ⟨_, exec_fixedArm hacc, ?_⟩
      rw [ht, Side.fixedArm_armed _ hcompat hplate]
      exact ⟨Side.get_set_self _ F.TWN_STATUS_FIXED_ARMED 1 (by decide), rfl⟩
    case disarm =>
      obtain ⟨l, ht⟩ := State.both_of_running hx fun _ d => d.set F.TWN_STATUS_FIXED_ARMED 0
      refine ⟨_, exec_fixedDisarm hacc, ?_⟩
      rw [ht]
      exact ⟨Side.get_set_self _ F.TWN_STATUS_FIXED_ARMED 0 (by decide), rfl⟩

end Sys2Proof.Proofs
end

section
/-! Commands of a port and their answers (R83, R197, R209, R210, R220): what a command that is sent leaves of its port, and what a posted
result shows. -/

namespace Sys2Proof.Machine

/-! A CTRL frame that is sent. -/

/-- A port without what its stream changes and the tag of its next command. -/
def Port.untagged (x : Port) : Port := { x.unframed with ctag := 0 }

theorem Port.untagged_of_unframed {x y : Port} (h : x.unframed = y.unframed) : x.untagged = y.untagged :=
  congrArg (fun z : Port => { z with ctag := 0 }) h

theorem Port.st_of_untagged {x y : Port} (h : x.untagged = y.untagged) : x.st = y.st := congrArg (·.st) h

theorem Port.echo_of_untagged {x y : Port} (h : x.untagged = y.untagged) : x.echo = y.echo := congrArg (·.echo) h

theorem Port.echoLeft_of_untagged {x y : Port} (h : x.untagged = y.untagged) : x.echoLeft = y.echoLeft := congrArg (·.echoLeft) h

theorem Port.ctag_of_unframed {x y : Port} (h : x.unframed = y.unframed) : x.ctag = y.ctag := congrArg (·.ctag) h

theorem Port.up_of_unframed {x y : Port} (h : x.unframed = y.unframed) : x.up = y.up :=
  congrArg (fun st => decide (3 ≤ st)) (Port.st_of_unframed h)

theorem Port.ctag_of_unhanded {x y : Port} (h : x.unhanded = y.unhanded) : x.ctag = y.ctag := congrArg (·.ctag) h

theorem Port.ctrl_of_unhanded {x y : Port} (h : x.unhanded = y.unhanded) : x.ctrl = y.ctrl := congrArg (·.ctrl) h

theorem Port.echo_of_unhanded {x y : Port} (h : x.unhanded = y.unhanded) : x.echo = y.echo := congrArg (·.echo) h

theorem Port.echoLeft_of_unhanded {x y : Port} (h : x.unhanded = y.unhanded) : x.echoLeft = y.echoLeft := congrArg (·.echoLeft) h

/-- The command that port n sends next. -/
def State.nextCtrl (s : State) (n op arg0 : Nat) (host : Bool) : Ctrl := ⟨(s.pkg.hold.port n).ctag, op, arg0, s.dev, 0, host⟩

theorem State.nextCtrl_updPort (s : State) {n : Nat} {f : Port → Port} (op arg0 : Nat) (host : Bool)
    (hf : (f (s.pkg.hold.port n)).ctag = (s.pkg.hold.port n).ctag) :
    (s.updPort n f).nextCtrl n op arg0 host = s.nextCtrl n op arg0 host := by
  rw [State.nextCtrl, State.updPort_port, hf]
  rfl

/-- A port y once it has taken the frame of command c. -/
def Port.ctrlQueued (y : Port) (c : Ctrl) (arg1 : Nat) : Port :=
  { y with wait := y.wait ++ [.ctrl c arg1], ctag := (y.ctag + 1) % 2 ^ 16 }

theorem Port.mem_ctrlQueued_wait (y : Port) (c : Ctrl) (arg1 : Nat) : .ctrl c arg1 ∈ (y.ctrlQueued c arg1).wait :=
  List.mem_append_right _ (List.mem_singleton.2 rfl)

/-- On an UP port the frame waits for a slot, the port's stream having come to now. -/
theorem State.sendCtrl_port_of_up {s : State} {n : Nat} (op arg0 arg1 : Nat) (host : Bool) (hup : (s.pkg.hold.port n).up = true) :
    (s.sendCtrl n op arg0 arg1 host).pkg.hold.port n =
      ((s.portNow n).pkg.hold.port n).ctrlQueued (s.nextCtrl n op arg0 host) arg1 := by
  rw [State.sendCtrl]
  dsimp only
  rw [if_pos hup, State.updPort_port, State.sendFrame_port _ hup]
  rfl

/-- A port y once it holds command c without a frame. -/
def Port.ctrlHeld (y : Port) (c : Ctrl) : Port := { y with ctrl := y.ctrl ++ [c], ctag := (y.ctag + 1) % 2 ^ 16 }

/-- On a port that is not UP a host's command waits for its answer without a frame. -/
theorem State.sendCtrl_port_of_down {s : State} {n : Nat} (op arg0 arg1 : Nat) (hdown : (s.pkg.hold.port n).up = false) :
    (s.sendCtrl n op arg0 arg1 true).pkg.hold.port n = (s.pkg.hold.port n).ctrlHeld (s.nextCtrl n op arg0 true) := by
  rw [State.sendCtrl]
  dsimp only
  rw [hdown, if_neg Bool.false_ne_true, if_pos rfl, State.updPort_port]
  rfl

/-- A command of the interface's own is not sent there. -/
theorem State.sendCtrl_of_down {s : State} {n : Nat} (op arg0 arg1 : Nat) (hdown : (s.pkg.hold.port n).up = false) :
    s.sendCtrl n op arg0 arg1 false = s := by
  rw [State.sendCtrl]
  dsimp only
  rw [hdown]
  rfl

/-- Beside its tag a command of the interface's own changes the port's stream only. -/
@[simp] theorem State.sendCtrl_untagged (s : State) (n op arg0 arg1 : Nat) :
    ((s.sendCtrl n op arg0 arg1 false).pkg.hold.port n).untagged = (s.pkg.hold.port n).untagged := by
  cases hup : (s.pkg.hold.port n).up with
  | false => rw [State.sendCtrl_of_down op arg0 arg1 hup]
  | true =>
    rw [State.sendCtrl_port_of_up op arg0 arg1 false hup]
    change ((s.portNow n).pkg.hold.port n).untagged = _
    exact Port.untagged_of_unframed (s.portNow_unframed n)

@[simp] theorem State.sendRate_untagged (s : State) (n : Nat) :
    ((s.sendRate n).pkg.hold.port n).untagged = (s.pkg.hold.port n).untagged := s.sendCtrl_untagged n _ _ _

theorem State.sendCtrl_running (s : State) (n op arg0 arg1 : Nat) (host : Bool) (z : SideId) :
    (s.sendCtrl n op arg0 arg1 host).pkg.hold.running z = s.pkg.hold.running z := by
  have hframe (f : Fr) : (s.sendFrame n f).pkg.hold.running z = s.pkg.hold.running z := by
    rw [State.sendFrame]
    split <;> rfl
  rw [State.sendCtrl]
  dsimp only
  split
  · rw [State.updPort_running, hframe]
  · split <;> rfl

/-! The registers of a port that show a result or a refusal. -/

/-- A fault that sets a one-bit flag of BLKn_STATUS. -/
theorem Side.blkFault_flag (d : Side) {p : Pkg} {n : Nat} (h : n < p.beams) {f : Fld} (hoff : f.off = 0x400004 + 0x1000 * n)
    (hw : f.w = 1) (hlo : f.lo < 32) : (d.fault p (srcBlk n) f).get f = 1 := by
  have hn : n < 16 := Nat.lt_of_lt_of_le h p.beams_le
  exact d.fault_flag p (srcBlk n) f (by unfold srcBlk; omega) (by rw [hoff, offPost]; omega) (srcAbsent_srcBlk h) hw hlo

/-- A refused command of a port: the port stays, and WINDOW_VIOL shows. -/
theorem State.blkViol_effect {s : State} {n : Nat} (h : n < s.pkg.beams) :
    ((s.blkViol n).pkg.hold.port n).unhanded = (s.pkg.hold.port n).unhanded ∧
      ∀ z, s.pkg.hold.running z = true → ((s.blkViol n).side z).get (F.BLK_STATUS_WINDOW_VIOL n) = 1 := by
  refine ⟨s.both_unhanded _ n, fun z hz => ?_⟩
  obtain ⟨l, hside⟩ := State.both_of_running hz fun p d => d.fault p (srcBlk n) (F.BLK_STATUS_WINDOW_VIOL n)
  rw [State.blkViol, hside, Side.get_withOut]
  exact Side.blkFault_flag _ h rfl rfl (show 14 < 32 by decide)

/-- Side e shows a command's result of port n. -/
def Side.resultShown (n result op data : Nat) (e : Side) : Prop :=
  e.get (F.BLK_CTRL_RESULT_RESULT n) = result % 256 ∧ e.get (F.BLK_CTRL_RESULT_OP n) = op % 256 ∧
    e.get (F.BLK_CTRL_DATA_DATA n) = data % 2 ^ 32 ∧ e.get (F.BLK_CTRL_RESULT_VALID n) = 1

theorem Side.resultShown_withOut (e : Side) (l : List Outbound) (n result op data : Nat) :
    ({ e with out := l } : Side).resultShown n result op data ↔ e.resultShown n result op data := Iff.rfl

theorem Side.ctrlPost_resultShown (d : Side) (n result op data : Nat) : (d.ctrlPost n result op data).resultShown n result op data := by
  have hdata : 0x400020 + 0x1000 * n ≠ 0x400024 + 0x1000 * n := by omega
  have hword (g : Fld) (hg : g.off = 0x400020 + 0x1000 * n) (hlo : g.lo + g.w ≤ 16) : (d.ctrlPost n result op data).get g =
      ((d.set (F.BLK_CTRL_RESULT_RESULT n) result).set (F.BLK_CTRL_RESULT_OP n) op).get g := by
    rw [Side.ctrlPost, Side.get_set_apart _ _ (.inr (.inl (by change _ ≤ 31; omega))) (by omega), Side.inc,
      Side.get_set_apart _ _ (.inr (.inl hlo)) (by omega), Side.get_set_off _ _ (by rw [hg]; exact hdata)]
  refine ⟨?_, ?_, ?_, ?_⟩
  · rw [hword _ rfl (show 0 + 8 ≤ 16 by decide), Side.get_set_apart _ _ (.inr (.inl (show 0 + 8 ≤ 8 by decide))) (show 0 + 8 ≤ 32 by decide),
      Side.get_set_self _ _ _ (show 0 + 8 ≤ 32 by decide)]
    rfl
  · rw [hword _ rfl (show 8 + 8 ≤ 16 by decide), Side.get_set_self _ _ _ (show 8 + 8 ≤ 32 by decide)]
    rfl
  · rw [Side.ctrlPost, Side.get_set_off _ _ hdata.symm, Side.inc, Side.get_set_off _ _ hdata.symm,
      Side.get_set_self _ _ _ (show 0 + 32 ≤ 32 by decide)]
    rfl
  · exact Side.get_set_self _ (F.BLK_CTRL_RESULT_VALID n) 1 (show 31 + 1 ≤ 32 by decide)

/-- A fault of the port's status leaves the result. -/
theorem Side.resultShown_fault {e : Side} (p : Pkg) {n result op data : Nat} (hn : n < 16) {f : Fld} (hf : f.off = 0x400004 + 0x1000 * n)
    (h : e.resultShown n result op data) : (e.fault p (srcBlk n) f).resultShown n result op data := by
  have hsrc : srcBlk n < 0x1000 := by unfold srcBlk; omega
  have hkeep (g : Fld) (hg : g.off = 0x400020 + 0x1000 * n ∨ g.off = 0x400024 + 0x1000 * n) :
      (e.fault p (srcBlk n) f).get g = e.get g := e.fault_get p _ f g hsrc (by rw [offPost]; omega) (by omega)
  rw [Side.resultShown, hkeep _ (.inl rfl), hkeep _ (.inl rfl), hkeep _ (.inr rfl), hkeep _ (.inl rfl)]
  exact h

end Sys2Proof.Machine
end

section
/-! CTRL_GO, ECHO, an ACK and the lack of one. -/

namespace Sys2Proof.Machine

/-! The command bits of BLKn_CMD. -/

theorem State.blkCmd_of_accepts {s : State} {n word : Nat} (h : n < s.pkg.beams) (hdeep : s.pkg.hold.deep = false)
    (hacc : s.accepts true (0x400008 + 0x1000 * n) word) (t : State) : s.blkCmd n word t = t := by
  rw [State.blkCmd, State.portOk_of_lt h, hdeep, if_pos (by decide), State.accepts_asWrite hacc]

theorem exec_ctrlGo {s : State} {n : Nat} (h : n < s.pkg.beams) (hdeep : s.pkg.hold.deep = false)
    (hacc : s.accepts true (0x400008 + 0x1000 * n) 8) : exec (.ctrlGo n) s = .next (s.ctrlGo n) := by
  change execCtrlGo n s = _
  rw [execCtrlGo, State.blkCmd_of_accepts h hdeep hacc]

theorem exec_echo {s : State} {n : Nat} (h : n < s.pkg.beams) (hdeep : s.pkg.hold.deep = false)
    (hacc : s.accepts true (0x400008 + 0x1000 * n) 2) : exec (.echo n) s = .next (s.echoCmd n) := by
  change execEcho n s = _
  rw [execEcho, State.blkCmd_of_accepts h hdeep hacc]

/-- The command that a CTRL_GO of port n gives. -/
def State.hostCtrl (s : State) (n : Nat) : Ctrl :=
  s.nextCtrl n (s.actSide.get (F.BLK_CTRL_OP_OP n)) (s.actSide.get (F.BLK_CTRL_ARG0_ARG n)) true

theorem State.ctrlGo_refused {s : State} {n : Nat}
    (h : s.actSide.get (F.BLK_CTRL_OP_OP n) < 0x80 ∨ (s.pkg.hold.port n).hostBusy = true) : s.ctrlGo n = s.blkViol n := by
  rw [State.ctrlGo]
  exact if_pos (by simpa using h)

theorem State.ctrlGo_taken {s : State} {n : Nat} (hop : 0x80 ≤ s.actSide.get (F.BLK_CTRL_OP_OP n))
    (hfree : (s.pkg.hold.port n).hostBusy = false) : s.ctrlGo n =
    (s.sendCtrl n (s.actSide.get (F.BLK_CTRL_OP_OP n)) (s.actSide.get (F.BLK_CTRL_ARG0_ARG n)) (s.actSide.get (F.BLK_CTRL_ARG1_ARG n))
      true).both fun _ d => d.set (F.BLK_CTRL_RESULT_VALID n) 0 := by
  rw [State.ctrlGo]
  exact if_neg (by simp [hop, hfree])

/-- The port takes the command, in a frame that waits where it is UP. -/
theorem State.ctrlGo_port {s : State} {n : Nat} (hop : 0x80 ≤ s.actSide.get (F.BLK_CTRL_OP_OP n))
    (hfree : (s.pkg.hold.port n).hostBusy = false) :
    ((s.ctrlGo n).pkg.hold.port n).ctag = ((s.pkg.hold.port n).ctag + 1) % 2 ^ 16 ∧
      ((s.pkg.hold.port n).up = true →
        .ctrl (s.hostCtrl n) (s.actSide.get (F.BLK_CTRL_ARG1_ARG n)) ∈ ((s.ctrlGo n).pkg.hold.port n).wait) ∧
      ((s.pkg.hold.port n).up = false → s.hostCtrl n ∈ ((s.ctrlGo n).pkg.hold.port n).ctrl) := by
  rw [State.ctrlGo_taken hop hfree, Port.ctag_of_unhanded (State.both_unhanded _ _ n), Port.wait_of_unhanded (State.both_unhanded _ _ n),
    Port.ctrl_of_unhanded (State.both_unhanded _ _ n)]
  cases hup : (s.pkg.hold.port n).up with
  | true =>
    rw [State.sendCtrl_port_of_up _ _ _ _ hup]
    refine ⟨?_, fun _ => Port.mem_ctrlQueued_wait _ _ _, nofun⟩
    exact congrArg (fun tag => (tag + 1) % 2 ^ 16) (Port.ctag_of_unframed (s.portNow_unframed n))
  | false =>
    rw [State.sendCtrl_port_of_down _ _ _ hup]
    exact ⟨rfl, nofun, fun _ => List.mem_append_right _ (List.mem_singleton.2 rfl)⟩

theorem State.ctrlGo_valid {s : State} {n : Nat} (hop : 0x80 ≤ s.actSide.get (F.BLK_CTRL_OP_OP n))
    (hfree : (s.pkg.hold.port n).hostBusy = false) {z : SideId} (hz : s.pkg.hold.running z = true) :
    ((s.ctrlGo n).side z).get (F.BLK_CTRL_RESULT_VALID n) = 0 := by
  obtain ⟨l, hside⟩ := State.both_of_running ((s.sendCtrl_running n _ _ _ true z).trans hz) fun _ d => d.set (F.BLK_CTRL_RESULT_VALID n) 0
  rw [State.ctrlGo_taken hop hfree, hside, Side.get_withOut]
  exact Side.get_set_self _ (F.BLK_CTRL_RESULT_VALID n) 0 (show 31 + 1 ≤ 32 by decide)

/-- An accepted ECHO begins the measurement anew. -/
theorem State.echoStart_port {s : State} {n : Nat} (hup : (s.pkg.hold.port n).up = true) :
    ((s.echoStart n).pkg.hold.port n).echo = [] ∧ ((s.echoStart n).pkg.hold.port n).echoLeft = 15 ∧
      .ctrl (s.nextCtrl n 3 0 false) 0 ∈ ((s.echoStart n).pkg.hold.port n).wait := by
  have hkeep := (s.updPort n fun x => { x with echo := [], echoLeft := 15 }).sendCtrl_untagged n 3 0 0
  rw [State.updPort_port] at hkeep
  refine ⟨Port.echo_of_untagged hkeep, Port.echoLeft_of_untagged hkeep, ?_⟩
  rw [State.echoStart, State.sendCtrl_port_of_up _ _ _ _ (by rw [State.updPort_port]; exact hup), State.nextCtrl_updPort _ _ _ _ (by rfl)]
  exact Port.mem_ctrlQueued_wait _ _ _

/-! An ACK. -/

theorem exec_ackReceived {s : State} {n : Nat} (h : n < s.pkg.beams) (tag res op dat k : Nat) :
    exec (.ackReceived n tag res op dat k) s =
      .next (((s.advance k).runPort n).ack n (tag % 2 ^ 16) (res % 256) (op % 256) (dat % 2 ^ 32)) := if_pos (State.portOk_of_lt h)

theorem exec_ctrlNoack {s : State} {n : Nat} (h : n < s.pkg.beams) (k : Nat) :
    exec (.ctrlNoack n k) s = .next (((s.advance k).runPort n).noAck n) := if_pos (State.portOk_of_lt h)

theorem State.ack_of_down {s : State} {n : Nat} (hdown : (s.pkg.hold.port n).up = false) (tag res op dat : Nat) :
    s.ack n tag res op dat = s := by
  rw [State.ack]
  exact if_pos (by rw [hdown]; rfl)

/-- The ACK of port n is counted. -/
def State.ackCounted (s : State) (n : Nat) : State := s.both fun _ d => d.inc (F.BLK_RX_FRAMES_COUNT n) 1

/-- The command of that tag is no longer outstanding. -/
def State.ackTaken (s : State) (n tag : Nat) : State :=
  (s.ackCounted n).updPort n fun x => { x with ctrl := x.ctrl.filter fun y => y.ctag != tag }

theorem State.ack_of_none {s : State} {n tag : Nat} (hup : (s.pkg.hold.port n).up = true)
    (hfind : (s.pkg.hold.port n).ctrl.find? (fun c => c.ctag == tag) = none) (res op dat : Nat) :
    s.ack n tag res op dat = s.ackCounted n := by
  rw [State.ack]
  dsimp only
  rw [hup, hfind]
  rfl

theorem State.ack_of_host {s : State} {n tag : Nat} {c : Ctrl} (hup : (s.pkg.hold.port n).up = true)
    (hfind : (s.pkg.hold.port n).ctrl.find? (fun c => c.ctag == tag) = some c) (hhost : c.host = true) (res op dat : Nat) :
    s.ack n tag res op dat = (s.ackTaken n tag).both fun _ d => d.ctrlPost n res op dat := by
  rw [State.ack]
  dsimp only
  rw [hup, hfind]
  exact if_pos hhost

theorem State.ack_of_echo {s : State} {n tag : Nat} {c : Ctrl} (hup : (s.pkg.hold.port n).up = true)
    (hfind : (s.pkg.hold.port n).ctrl.find? (fun c => c.ctag == tag) = some c) (hhost : c.host = false) (hop : c.op = 3)
    (res op dat : Nat) : s.ack n tag res op dat = ((s.ackTaken n tag).updPort n fun x =>
      { x with echo := x.echo ++ [64 * (tdiff s.dev (c.sentAt + 180)) - c.frac - dat] }).echoNext n := by
  rw [State.ack]
  dsimp only
  rw [hup, hfind]
  dsimp only
  rw [if_neg (by decide), if_neg (by rw [hhost]; decide), if_pos hop]
  rfl

/-- What is taken from the port. -/
theorem State.ackTaken_unhanded (s : State) (n tag : Nat) : ((s.ackTaken n tag).pkg.hold.port n).unhanded =
    ({ s.pkg.hold.port n with ctrl := (s.pkg.hold.port n).ctrl.filter fun y => y.ctag != tag } : Port).unhanded := by
  rw [State.ackTaken, State.updPort_port]
  exact congrArg (fun x : Port => { x with ctrl := x.ctrl.filter fun y => y.ctag != tag }) (State.both_unhanded s _ n)

/-- The ACK of DELAY leaves the port TIMED. -/
theorem State.ack_of_delay_st {s : State} {n tag : Nat} {c : Ctrl} (hup : (s.pkg.hold.port n).up = true)
    (hfind : (s.pkg.hold.port n).ctrl.find? (fun c => c.ctag == tag) = some c) (hhost : c.host = false) (hop : c.op = 4)
    (res op dat : Nat) : ((s.ack n tag res op dat).pkg.hold.port n).st = 4 := by
  rw [State.ack]
  dsimp only
  rw [hup, hfind]
  dsimp only
  rw [if_neg (by decide), if_neg (by rw [hhost]; decide), if_neg (by rw [hop]; decide), if_pos hop]
  split
  next htimed => exact (Port.st_of_unhanded (s.ackTaken_unhanded n tag)).trans htimed
  next =>
    rw [Port.st_of_unhanded (State.both_unhanded _ _ n), Port.st_of_unhanded (State.mirror_unhanded _ n n),
      Port.st_of_untagged (State.sendRate_untagged _ n), State.updPort_port]

/-- While round trips are left to measure, the next ECHO is sent. -/
theorem State.echoNext_port {s : State} {n : Nat} (h : 0 < (s.pkg.hold.port n).echoLeft) :
    ((s.echoNext n).pkg.hold.port n).echoLeft = (s.pkg.hold.port n).echoLeft - 1 ∧
      ((s.echoNext n).pkg.hold.port n).echo = (s.pkg.hold.port n).echo := by
  have hkeep := (s.updPort n fun x => { x with echoLeft := x.echoLeft - 1 }).sendCtrl_untagged n 3 0 0
  rw [State.updPort_port] at hkeep
  rw [State.echoNext]
  dsimp only
  rw [if_pos h]
  exact ⟨(Port.echoLeft_of_untagged hkeep).trans rfl, (Port.echo_of_untagged hkeep).trans rfl⟩

/-- The ACK of an ECHO adds a round trip. -/
theorem State.ack_of_echo_port {s : State} {n tag : Nat} {c : Ctrl} (hup : (s.pkg.hold.port n).up = true)
    (hfind : (s.pkg.hold.port n).ctrl.find? (fun c => c.ctag == tag) = some c) (hhost : c.host = false) (hop : c.op = 3)
    (hleft : 0 < (s.pkg.hold.port n).echoLeft) (res op dat : Nat) :
    ((s.ack n tag res op dat).pkg.hold.port n).echoLeft = (s.pkg.hold.port n).echoLeft - 1 ∧
      ((s.ack n tag res op dat).pkg.hold.port n).echo =
        (s.pkg.hold.port n).echo ++ [64 * (tdiff s.dev (c.sentAt + 180)) - c.frac - dat] := by
  have hecho : ((s.ackTaken n tag).pkg.hold.port n).echo = (s.pkg.hold.port n).echo :=
    (Port.echo_of_unhanded (s.ackTaken_unhanded n tag)).trans rfl
  have hechoLeft : ((s.ackTaken n tag).pkg.hold.port n).echoLeft = (s.pkg.hold.port n).echoLeft :=
    (Port.echoLeft_of_unhanded (s.ackTaken_unhanded n tag)).trans rfl
  have hnext := State.echoNext_port (s := (s.ackTaken n tag).updPort n fun x =>
    { x with echo := x.echo ++ [64 * (tdiff s.dev (c.sentAt + 180)) - c.frac - dat] }) (n := n)
    (by rw [State.updPort_port, hechoLeft]; exact hleft)
  rw [State.updPort_port, hecho, hechoLeft] at hnext
  rw [State.ack_of_echo hup hfind hhost hop]
  exact hnext

/-- A host's command is answered with the result of its ACK. -/
theorem State.ack_of_host_effect {s : State} {n tag : Nat} {c : Ctrl} (hup : (s.pkg.hold.port n).up = true)
    (hfind : (s.pkg.hold.port n).ctrl.find? (fun c => c.ctag == tag) = some c) (hhost : c.host = true) (res op dat : Nat) :
    ((s.ack n tag res op dat).pkg.hold.port n).ctrl = (s.pkg.hold.port n).ctrl.filter (fun y => y.ctag != tag) ∧
      ∀ z, s.pkg.hold.running z = true → ((s.ack n tag res op dat).side z).resultShown n res op dat := by
  rw [State.ack_of_host hup hfind hhost]
  refine ⟨Port.ctrl_of_unhanded ((State.both_unhanded _ _ n).trans (s.ackTaken_unhanded n tag)), fun z hz => ?_⟩
  have hrunning : (s.ackTaken n tag).pkg.hold.running z = true := by
    rw [State.ackTaken, State.updPort_running, State.ackCounted, State.both_running, hz]
  obtain ⟨l, hside⟩ := State.both_of_running hrunning fun _ d => d.ctrlPost n res op dat
  rw [hside, Side.resultShown_withOut]
  exact Side.ctrlPost_resultShown _ n res op dat

/-- Every ACK is counted on the sides that run. -/
theorem State.ackCounted_effect (s : State) (n : Nat) : ((s.ackCounted n).pkg.hold.port n).ctrl = (s.pkg.hold.port n).ctrl ∧
    ∀ z, s.pkg.hold.running z = true →
      ((s.ackCounted n).side z).get (F.BLK_RX_FRAMES_COUNT n) = ((s.side z).get (F.BLK_RX_FRAMES_COUNT n) + 1) % 2 ^ 32 := by
  refine ⟨Port.ctrl_of_unhanded (s.both_unhanded _ n), fun z hz => ?_⟩
  obtain ⟨l, hside⟩ := State.both_of_running hz fun _ d => d.inc (F.BLK_RX_FRAMES_COUNT n) 1
  rw [State.ackCounted, hside, Side.get_withOut]
  exact Side.get_set_self _ (F.BLK_RX_FRAMES_COUNT n) _ (show 0 + 32 ≤ 32 by decide)

/-! No ACK. -/

theorem State.noAck_of_nil {s : State} {n : Nat} (h : (s.pkg.hold.port n).ctrl = []) : s.noAck n = s := by
  rw [State.noAck, h]

theorem State.noAck_of_early {s : State} {n : Nat} {c : Ctrl} {rest : List Ctrl} (h : (s.pkg.hold.port n).ctrl = c :: rest)
    (hearly : reached s.dev (c.sentAt + 20000) = false) : s.noAck n = s := by
  rw [State.noAck, h]
  exact if_pos (by rw [hearly]; rfl)

/-- A host's command that no ACK has answered in time. -/
theorem State.noAck_of_host {s : State} {n : Nat} {c : Ctrl} {rest : List Ctrl} (h : (s.pkg.hold.port n).ctrl = c :: rest)
    (hdue : reached s.dev (c.sentAt + 20000) = true) (hhost : c.host = true) : s.noAck n =
    (s.updPort n fun x => { x with ctrl := rest }).both fun p d =>
      (d.ctrlPost n 0xFF c.op 0).fault p (srcBlk n) (F.BLK_STATUS_CTRL_NOACK n) := by
  rw [State.noAck, h]
  dsimp only
  rw [hdue, if_neg (by decide), if_neg (by simp [hhost]), if_neg (by simp [hhost])]

theorem State.noAck_of_host_effect {s : State} {n : Nat} {c : Ctrl} {rest : List Ctrl} (hn : n < s.pkg.beams)
    (h : (s.pkg.hold.port n).ctrl = c :: rest) (hdue : reached s.dev (c.sentAt + 20000) = true) (hhost : c.host = true) :
    ((s.noAck n).pkg.hold.port n).ctrl = rest ∧ ∀ z, s.pkg.hold.running z = true →
      ((s.noAck n).side z).resultShown n 0xFF c.op 0 ∧ ((s.noAck n).side z).get (F.BLK_STATUS_CTRL_NOACK n) = 1 := by
  rw [State.noAck_of_host h hdue hhost]
  refine ⟨?_, fun z hz => ?_⟩
  · rw [Port.ctrl_of_unhanded (State.both_unhanded _ _ n), State.updPort_port]
  · obtain ⟨l, hside⟩ := State.both_of_running (s := s.updPort n fun x => { x with ctrl := rest }) hz fun p d =>
      (d.ctrlPost n 0xFF c.op 0).fault p (srcBlk n) (F.BLK_STATUS_CTRL_NOACK n)
    rw [hside, Side.resultShown_withOut, Side.get_withOut]
    exact ⟨Side.resultShown_fault _ (Nat.lt_of_lt_of_le hn s.pkg.beams_le) rfl (Side.ctrlPost_resultShown _ n 0xFF c.op 0),
      Side.blkFault_flag _ hn rfl rfl (show 12 < 32 by decide)⟩

end Sys2Proof.Machine

namespace Sys2Proof.Proofs

open Sys2Proof Sys2Proof.Machine

/-- Settles O26: a command that is sent waits behind the frames of its port (R209, R210, R220; a CTRL_GO on a port that is not UP, log
entry 21), and the answer of the oldest one, or its absence, is posted (R83; any RESULT answers, log entry 20). -/
theorem ctrlCommandsAndAnswers : Obligations.CtrlCommandsAndAnswers := by
  unfold Obligations.CtrlCommandsAndAnswers
  rintro n s x hn rfl
  refine ⟨?go, ?echo, ?answers⟩
  case go =>
    rintro hacc hdeep op rfl
    have hexec := exec_ctrlGo hn hdeep hacc
    refine ⟨fun hop hfree => ?_, fun h => ?_⟩
    · obtain ⟨htag, hwait, hctrl⟩ := State.ctrlGo_port hop hfree
      exact ⟨_, _, s.hostCtrl n, hexec, rfl, htag, rfl, rfl, rfl, rfl, hwait, hctrl, fun z hz => State.ctrlGo_valid hop hfree hz⟩
    · obtain ⟨hport, hviol⟩ := State.blkViol_effect hn
      rw [State.ctrlGo_refused h] at hexec
      exact ⟨_, hexec, Port.ctag_of_unhanded hport, Port.wait_of_unhanded hport, hviol⟩
  case echo =>
    intro hacc hdeep
    have hexec := exec_echo hn hdeep hacc
    refine ⟨fun hwindow hup => ?_, fun h => ?_⟩
    · obtain ⟨hecho, hleft, hwait⟩ := State.echoStart_port hup
      rw [State.echoCmd, if_pos (by rw [hwindow, hup]; rfl)] at hexec
      exact ⟨_, _, _, hexec, rfl, hecho, hleft, rfl, rfl, rfl, hwait⟩
    · obtain ⟨hport, hviol⟩ := State.blkViol_effect hn
      rw [State.echoCmd, if_neg (by rcases h with h | h <;> simp [h])] at hexec
      exact ⟨_, hexec, Port.echoLeft_of_unhanded hport, hviol⟩
  case answers =>
    rintro k S r rfl rfl
    have hup : (((s.advance k).runPort n).pkg.hold.port n).up = (s.pkg.hold.port n).up :=
      (Port.up_of_unframed ((s.advance k).runPort_unframed n)).trans (by rw [State.advance_pkg, Pkg.advance_hold])
    have hrunning (z : SideId) : ((s.advance k).runPort n).pkg.hold.running z = s.pkg.hold.running z := by
      rw [State.runPort, State.updPort_running, State.advance_pkg, Pkg.advance_hold]
    have hbeams : n < ((s.advance k).runPort n).pkg.beams := by
      rwa [Pkg.beams, State.runPort, State.updPort_fuses, State.advance_pkg, Pkg.advance_fuses]
    have hside (z : SideId) : ((s.advance k).runPort n).side z = s.side z := by
      rw [State.runPort, State.updPort_side, State.advance_side]
    refine ⟨fun tag res op dat => ?ack, fun hnil => ?nothing, fun c rest hctrl => ?noAck⟩
    case ack =>
      have hexec := exec_ackReceived hn tag res op dat k
      refine ⟨fun hdown => by rw [hexec, State.ack_of_down (hup.trans hdown)], fun hux => ⟨fun hnone => ?_, fun c hfind => ?_⟩⟩
      · rw [State.ack_of_none (hup.trans hux) hnone] at hexec
        obtain ⟨hctrl, hcount⟩ := ((s.advance k).runPort n).ackCounted_effect n
        refine ⟨_, hexec, hctrl, fun z hz => ?_⟩
        rw [hcount z ((hrunning z).trans hz), hside]
      · refine ⟨_, _, hexec, rfl, fun hhost => ?_, fun hhost hop hleft => ?_, fun hhost hop => ?_⟩
        · obtain ⟨hctrl, hshown⟩ := State.ack_of_host_effect (hup.trans hux) hfind hhost (res % 256) (op % 256) (dat % 2 ^ 32)
          refine ⟨hctrl, fun z hz => ?_⟩
          simpa [Side.resultShown] using hshown z ((hrunning z).trans hz)
        · exact State.ack_of_echo_port (hup.trans hux) hfind hhost hop hleft _ _ _
        · exact State.ack_of_delay_st (hup.trans hux) hfind hhost hop _ _ _
    case nothing => rw [exec_ctrlNoack hn, State.noAck_of_nil hnil]
    case noAck =>
      refine ⟨fun hearly => by rw [exec_ctrlNoack hn, State.noAck_of_early hctrl hearly], fun hdue hhost => ?_⟩
      obtain ⟨hrest, hshown⟩ := State.noAck_of_host_effect hbeams hctrl hdue hhost
      refine ⟨_, exec_ctrlNoack hn k, hrest, fun z hz => ?_⟩
      obtain ⟨⟨hresult, hop, _, _⟩, hflag⟩ := hshown z ((hrunning z).trans hz)
      exact ⟨hresult, hop, hflag⟩

end Sys2Proof.Proofs
end

section
/-! The opcodes of a ring that feeds a DMA channel (R97). -/

namespace Sys2Proof.Machine

/-- Of the opcodes below the Strudel engines' a DMA channel takes COPY, FILL and FLUSH. -/
theorem accepts_dma_iff (ch : Nat) {op : Nat} (h : 0x10 ≤ op) : accepts (.dma ch) op = true ↔ op = 0x10 ∨ op = 0x11 ∨ op = 0x12 := by
  simp only [accepts, Bool.or_eq_true, beq_iff_eq]
  omega

theorem targetOf_of_lt {v : Nat} (h : v < 32) : targetOf v = some (.dma v) := if_pos h

/-- A descriptor with an opcode that its DMA channel does not take is finished by the first check (R525). -/
theorem Side.received_dma_bad {d : Side} {n : Nat} (slot : Nat) {b : List Byte} (ht : d.sqTarget n < 32) (h : 0x13 ≤ dOpcode b) :
    d.received n slot b = ⟨slot, b, .done stBAD_OPCODE 0 0⟩ := by
  have hop : accepts (.dma (d.sqTarget n)) (dOpcode b) = false := by
    rw [Bool.eq_false_iff, ne_eq, accepts_dma_iff _ (by omega)]
    omega
  simp only [Side.received, targetOf_of_lt ht, commonCheck, hop, Bool.not_false, if_true]

/-- A finished descriptor wakes nothing. -/
theorem Side.wakes_done (d : Side) (n slot : Nat) (b : List Byte) (st r0 r1 : Nat) : d.wakes n ⟨slot, b, .done st r0 r1⟩ = false := rfl

/-- The fetch of such a descriptor puts it into its ring, finished, and does no more. -/
theorem Side.fetched_dma_bad {d : Side} {p : Pkg} {n : Nat} (hpick : d.sqPick p = some n) (ht : d.sqTarget n < 32)
    (hown : dOwn (memRead p.host (d.sqNextMem n) 64) = true) (hop : 0x13 ≤ dOpcode (memRead p.host (d.sqNextMem n) 64)) :
    d.fetched p n true = d.sqJoined n ⟨d.sqNext n, memRead p.host (d.sqNextMem n) 64, .done stBAD_OPCODE 0 0⟩ := by
  have hread : d.sqRead p n = ⟨d.sqNext n, memRead p.host (d.sqNextMem n) 64, .done stBAD_OPCODE 0 0⟩ :=
    Side.received_dma_bad _ ht hop
  rw [Side.fetched_of_pick hpick, if_neg (by decide), if_neg (by simp [hown]), hread, Side.wakes_done, if_neg (by decide)]

end Sys2Proof.Machine

namespace Sys2Proof.Proofs
open Sys2Proof Sys2Proof.Machine

/-- Settles O59: the opcode check comes first, and a descriptor that fails it only joins its ring. -/
theorem dmaChannelsRejectOtherOpcodes : Obligations.DmaChannelsRejectOtherOpcodes := by
  unfold Obligations.DmaChannelsRejectOtherOpcodes
  refine ⟨fun ch op _ hop => accepts_dma_iff ch hop, ?_⟩
  intro n s x hn hx hpick ht hown hop _
  obtain ⟨l, hside⟩ := State.both_of_running hx fun p d => d.fetched p n true
  refine ⟨_, exec_descriptorFetched hn true s, ?_⟩
  rw [hside, Side.fetched_dma_bad hpick ht hown hop]
  exact ⟨(s.side x).sqJoined_sqList n _, rfl, rfl⟩

end Sys2Proof.Proofs
end

section
/-! What the timing of the engines leaves of a side, and a DMA channel under the operations of its side (R96, R464). -/

namespace Sys2Proof.Machine

/-! Timed operations (R464). -/

theorem Side.pauseOne_eq (p : Pkg) (b d : Side) (e : Nat) : ∃ h, Side.pauseOne p b d e = { d with thm := h } := by
  unfold Side.pauseOne
  split
  · exact ⟨d.thm, rfl⟩
  · exact ⟨_, rfl⟩

/-- The timing of an operation's engines touches the throttle's account alone. -/
theorem Side.timed_eq (f : Pkg → Side → Side) (p : Pkg) (d : Side) : ∃ h, Side.timed f p d = { f p d with thm := h } := by
  refine List.foldlRecOn _ _ (motive := fun e : Side => ∃ h, e = { f p d with thm := h }) ⟨(f p d).thm, rfl⟩ fun e he k _ => ?_
  obtain ⟨h, rfl⟩ := he
  obtain ⟨h', heq⟩ := Side.pauseOne_eq p d { f p d with thm := h } k
  exact ⟨h', heq⟩

/-- What a timed operation of both sides leaves on a running side: the operation's result, but for that account and the packets
handed out. -/
theorem State.both_timed_of_running {s : State} {x : SideId} (hx : s.pkg.hold.running x = true) (f : Pkg → Side → Side) :
    ∃ h l, (s.both (Side.timed f)).side x = { f s.pkg (s.side x) with thm := h, out := l } := by
  obtain ⟨l, hside⟩ := State.both_of_running hx (Side.timed f)
  obtain ⟨h, htimed⟩ := Side.timed_eq f s.pkg (s.side x)
  exact ⟨h, l, by rw [hside, htimed]⟩

/-! A channel's state. -/

@[simp] theorem Side.ch_setCh_self (d : Side) (ch : Nat) (c : DmaCh) : (d.setCh ch c).ch ch = c := tget_tset_self _ _ _ _

theorem Side.ch_setCh_ne (d : Side) {ch c : Nat} (x : DmaCh) (h : c ≠ ch) : (d.setCh ch x).ch c = d.ch c := tget_tset_ne _ _ _ h

@[simp] theorem Side.ch_set (d : Side) (f : Fld) (v ch : Nat) : (d.set f v).ch ch = d.ch ch := rfl

@[simp] theorem Side.get_setCh (d : Side) (ch : Nat) (c : DmaCh) (g : Fld) : (d.setCh ch c).get g = d.get g := rfl

theorem Side.ch_setCur (d : Side) (ch : Nat) (x : Option Xfer) : (d.setCur ch x).ch ch = { d.ch ch with cur := x } :=
  d.ch_setCh_self ch _

theorem Side.setCur_cur (d : Side) (ch : Nat) (x : Option Xfer) : ((d.setCur ch x).ch ch).cur = x := by rw [Side.ch_setCur]

theorem Side.setCur_busy (d : Side) (ch : Nat) (x : Option Xfer) : (d.setCur ch x).get (F.DMA_STATUS_BUSY ch) = b2n x.isSome := by
  rw [Side.setCur, Side.get_set_self _ _ _ (show 2 + 1 ≤ 32 by decide)]
  cases x <;> rfl

/-- A side's channels but for what they run and have armed: the bursts left of the round (R96). -/
def Side.quotasOnly (d e : Side) : Prop := (∃ t, e = { d with dma := t }) ∧ ∀ c, (e.ch c).cur = (d.ch c).cur

theorem Side.quotasOnly_refl (d : Side) : d.quotasOnly d := ⟨⟨d.dma, rfl⟩, fun _ => rfl⟩

/-- A channel's bursts of the round are counted. -/
theorem Side.quotasOnly_setCh {d e : Side} (h : d.quotasOnly e) (c q : Nat) :
    d.quotasOnly (e.setCh c { e.ch c with quota := q }) := by
  obtain ⟨⟨t, rfl⟩, hcur⟩ := h
  refine ⟨⟨_, rfl⟩, fun k => ?_⟩
  by_cases hk : k = c
  · subst hk
    rw [Side.ch_setCh_self]
    exact hcur k
  · rw [Side.ch_setCh_ne _ _ hk]
    exact hcur k

theorem Side.quotasOnly_newRound (d : Side) : d.quotasOnly d.newRound :=
  List.foldlRecOn _ _ (motive := d.quotasOnly) d.quotasOnly_refl fun _ he c _ => Side.quotasOnly_setCh he c _

/-- In a new round each channel may take a burst. -/
theorem Side.newRound_quota (d : Side) {ch : Nat} (h : ch < 32) : (d.newRound.ch ch).quota ≠ 0 := by
  have hround : ∀ (l : List Nat) (e : Side), ch ∈ l ∨ (e.ch ch).quota ≠ 0 →
      ((l.foldl (fun d c => d.setCh c { d.ch c with quota := d.get (F.DMA_CFG_WEIGHT c) + 1 }) e).ch ch).quota ≠ 0 := by
    intro l
    induction l with
    | nil => exact fun e he => he.resolve_left (List.not_mem_nil)
    | cons c l ih =>
      intro e he
      refine ih _ ?_
      by_cases hc : ch = c
      · subst hc
        exact .inr (by rw [Side.ch_setCh_self]; exact Nat.succ_ne_zero _)
      · rw [Side.ch_setCh_ne _ _ hc]
        exact he.imp_left fun hm => (List.mem_cons.1 hm).resolve_left hc
  exact hround _ d (.inl (List.mem_range.2 h))

/-- The one channel that asks takes the next burst. -/
theorem Side.dmaPick_singleton (d : Side) {ch : Nat} (h : ch < 32) : ∃ e, d.dmaPick [ch] = some (ch, e) ∧ d.quotasOnly e := by
  have hpick : ∀ e : Side, d.quotasOnly e → (e.ch ch).quota ≠ 0 →
      ∃ e', (([ch].find? fun c => (e.ch c).quota ≠ 0).map fun c => (c, e.setCh c { e.ch c with quota := (e.ch c).quota - 1 })) =
        some (ch, e') ∧ d.quotasOnly e' := by
    intro e he hq
    exact ⟨_, by rw [List.find?_cons_of_pos (by simpa using hq)]; rfl, Side.quotasOnly_setCh he ch _⟩
  unfold Side.dmaPick
  dsimp only
  split
  case isTrue hq => exact hpick d d.quotasOnly_refl (by simpa using hq)
  case isFalse => exact hpick _ d.quotasOnly_newRound (d.newRound_quota h)

end Sys2Proof.Machine
end

section
/-! The bursts of a transfer that moves alone, and how a ring's transfer ends (R95, R101, R103, R106, R107). -/

namespace Sys2Proof.Machine

/-! Bytes written. -/

/-- Bytes written to a space change the DRAM, or are handed out. -/
theorem Side.spaceWrite_eq (p : Pkg) (d : Side) (fn : Fn) (space a : Nat) (l : List Byte) :
    ∃ o m w, d.spaceWrite p fn space a l = { d with out := o, dram := m, eccBad := w } := by
  unfold Side.spaceWrite
  split
  · refine List.foldlRecOn _ _ (motive := fun e : Side => ∃ o m w, e = { d with out := o, dram := m, eccBad := w })
      ⟨d.out, d.dram, d.eccBad, rfl⟩ fun e he b _ => ?_
    obtain ⟨o, m, w, rfl⟩ := he
    exact ⟨_, m, w, rfl⟩
  · exact ⟨d.out, _, _, rfl⟩
  · exact ⟨d.out, d.dram, d.eccBad, rfl⟩

theorem Side.spaceWrite_dram (p : Pkg) (d : Side) (fn : Fn) (space a : Nat) (l : List Byte) :
    (d.spaceWrite p fn space a l).dram = if space = 1 then memWrite d.dram a l else d.dram := by
  unfold Side.spaceWrite
  split
  case h_1 => exact List.foldlRecOn _ _ (motive := fun e : Side => e.dram = d.dram) rfl fun _ he _ _ => he
  case h_2 => rfl
  case h_3 h1 => exact (if_neg h1).symm

theorem Side.xferMove_eq (p : Pkg) (d : Side) (x : Xfer) (n : Nat) :
    ∃ o m w, d.xferMove p x n = { d with out := o, dram := m, eccBad := w } := Side.spaceWrite_eq p d _ _ _ _

/-- SRAM reads hang on the registers, the heat map and the store alone. -/
theorem Side.sramRead_setDma (d : Side) (t : Tab DmaCh) (dev n : Nat) : ∀ a : Nat,
    Side.sramRead { d with dma := t } dev a n = d.sramRead dev a n := by
  induction n with
  | zero => exact fun _ => rfl
  | succ n ih => exact fun a => congrArg (_ :: ·) (ih (a + 1))

theorem Side.xferData_setDma (p : Pkg) (d : Side) (t : Tab DmaCh) (x : Xfer) (i k : Nat) :
    Side.xferData p { d with dma := t } x i k = d.xferData p x i k := by
  unfold Side.xferData Side.spaceRead
  split
  · rfl
  split
  · rfl
  · rfl
  · exact d.sramRead_setDma t _ _ _

/-- The bytes that move do not hang on the channels' state. -/
theorem Side.xferMove_dram_of_quotasOnly {d e : Side} (h : d.quotasOnly e) (p : Pkg) (x : Xfer) (n : Nat) :
    (e.xferMove p x n).dram = (d.xferMove p x n).dram := by
  obtain ⟨⟨t, rfl⟩, -⟩ := h
  rw [Side.xferMove, Side.xferMove, Side.spaceWrite_dram, Side.spaceWrite_dram, Side.xferData_setDma]

/-! HALF (R106). -/

theorem Side.notice_hif_sq (d : Side) (p : Pkg) (src c a b : Nat) : (d.notice p src c a b).hif.sq = d.hif.sq := by
  rw [Side.notice]
  split
  · rfl
  · exact d.routePost_hif_sq p _ _

theorem Side.postHalf_hif_sq (d : Side) (p : Pkg) (ch : Nat) (x : Xfer) : (d.postHalf p ch x).hif.sq = d.hif.sq := by
  rw [Side.postHalf]
  split
  · exact d.notice_hif_sq p _ _ _ _
  · rfl

@[simp] theorem Side.postHalf_dram (d : Side) (p : Pkg) (ch : Nat) (x : Xfer) : (d.postHalf p ch x).dram = d.dram := by
  rw [Side.postHalf]
  split <;> simp

@[simp] theorem Side.postHalf_ch (d : Side) (p : Pkg) (ch : Nat) (x : Xfer) (c : Nat) : (d.postHalf p ch x).ch c = d.ch c := by
  rw [Side.postHalf]
  split <;> simp [Side.ch]

/-! One burst. -/

/-- A transfer with its next burst moved (R103, R106). -/
def Xfer.next (x : Xfer) : Xfer :=
  { x with written := x.written + x.burst x.written,
           halfPosted := x.halfPosted || decide (ceilDiv x.len 2 ≤ x.written + x.burst x.written) }

/-- From d to e, the next burst of channel ch's transfer x moves: no ring has another descriptor, and DRAM takes the bytes. -/
def Side.bursts (d : Side) (p : Pkg) (ch : Nat) (x : Xfer) (e : Side) : Prop :=
  (e.ch ch).cur = some x.next ∧ e.hif.sq = d.hif.sq ∧ e.dram = (d.xferMove p x (x.written + x.burst x.written)).dram

/-- A burst that reads no stored error moves. -/
theorem Side.burstOne_bursts {d : Side} (p : Pkg) {ch : Nat} {x : Xfer} (hcur : (d.ch ch).cur = some x)
    (hecc : d.burstEcc x = none) : d.bursts p ch x (d.burstOne p ch) := by
  have hmoved : d.bursts p ch x ((d.xferMove p x (x.written + x.burst x.written)).setCur ch (some x.next)) := by
    obtain ⟨o, m, w, heq⟩ := d.xferMove_eq p x (x.written + x.burst x.written)
    exact ⟨Side.setCur_cur _ ch _, by rw [heq]; rfl, rfl⟩
  obtain ⟨hnext, hsq, hdram⟩ := hmoved
  simp only [Side.burstOne, hcur, hecc]
  split
  case isTrue =>
    exact ⟨(congrArg DmaCh.cur (Side.postHalf_ch _ p ch x ch)).trans hnext, (Side.postHalf_hif_sq _ p ch x).trans hsq,
      (Side.postHalf_dram _ p ch x).trans hdram⟩
  case isFalse => exact ⟨hnext, hsq, hdram⟩

/-- Channel ch's transfer x may move and no other channel runs one: its next burst is whole, and sound. -/
structure Side.movesAlone (p : Pkg) (d : Side) (ch : Nat) (x : Xfer) : Prop where
  lt : ch < 32
  cur : (d.ch ch).cur = some x
  alone : ∀ c, c ≠ ch → (d.ch c).cur = none
  moves : d.xferMoves p ch x = true
  more : x.written < x.len
  sound : d.burstEcc x = none

theorem Side.movesAlone.mayBurst_iff {p : Pkg} {d : Side} {ch : Nat} {x : Xfer} (h : d.movesAlone p ch x) (c : Nat) :
    d.mayBurst p ch c = true ↔ c = ch := by
  by_cases hc : c = ch
  · subst hc
    simp [Side.mayBurst, h.cur, h.moves, h.more]
  · simp [Side.mayBurst, h.alone c hc, hc]

/-- No other channel asks for the engine. -/
theorem Side.movesAlone.asking {p : Pkg} {d : Side} {ch : Nat} {x : Xfer} (h : d.movesAlone p ch x) :
    (List.range 32).filter (fun c => d.mayBurst p ch c && !([] : List Nat).contains c) = [ch] := by
  have hsame : ∀ c, (d.mayBurst p ch c && !([] : List Nat).contains c) = (c == ch) := fun c => by
    rw [Bool.eq_iff_iff]
    simp [h.mayBurst_iff c]
  simp only [hsame, List.filter_beq, List.count_eq_one_of_mem List.nodup_range (List.mem_range.2 h.lt), List.replicate_one]

/-- The engine moves nothing where the bytes are out. -/
theorem Side.dmaServe_of_out {p : Pkg} {d : Side} {ch n : Nat} {x : Xfer} (hcur : (d.ch ch).cur = some x) (h : n ≤ x.written)
    (fuel : Nat) (used : List Nat) : d.dmaServe p ch n fuel used = d := by
  cases fuel with
  | zero => rfl
  | succ fuel => simp [Side.dmaServe, hcur, h]

/-- Where the next burst brings n bytes out, the engine moves that burst and no other. -/
theorem Side.movesAlone.dmaServe_bursts {p : Pkg} {d : Side} {ch n : Nat} {x : Xfer} (h : d.movesAlone p ch x) (hn : x.written < n)
    (hout : n ≤ x.written + x.burst x.written) (fuel : Nat) : d.bursts p ch x (d.dmaServe p ch n (fuel + 1) []) := by
  obtain ⟨e, hpick, hquota⟩ := d.dmaPick_singleton h.lt
  have hcur : (e.ch ch).cur = some x := (hquota.2 ch).trans h.cur
  have hecc : e.burstEcc x = none := by
    obtain ⟨⟨t, rfl⟩, -⟩ := hquota
    exact h.sound
  have hburst : d.bursts p ch x (e.burstOne p ch) := by
    obtain ⟨hnext, hsq, hdram⟩ := Side.burstOne_bursts p hcur hecc
    refine ⟨hnext, hsq.trans ?_, hdram.trans (Side.xferMove_dram_of_quotasOnly hquota p x _)⟩
    obtain ⟨⟨t, rfl⟩, -⟩ := hquota
    rfl
  have hstep : d.dmaServe p ch n (fuel + 1) [] = e.burstOne p ch := by
    rw [Side.dmaServe, h.cur]
    dsimp only
    rw [if_neg (by simpa using hn), h.asking, hpick]
    exact Side.dmaServe_of_out hburst.1 hout _ _
  rw [hstep]
  exact hburst

/-! How a ring's transfer ends (R103, R107). -/

/-- From d to e, the transfer x of a ring on channel ch ends with a result, its channel idle after it. -/
def Side.ends (d : Side) (ch : Nat) (x : Xfer) (r : Res) (e : Side) : Prop :=
  e.sqList x.ring = finishSlot x.slot r (d.sqList x.ring) ∧ (e.ch ch).cur = none ∧ e.get (F.DMA_STATUS_BUSY ch) = 0 ∧ e.dram = d.dram

theorem Side.setCur_finish_ends (d : Side) (ch : Nat) (x : Xfer) (r : Res) :
    d.ends ch x r ((d.setCur ch none).finish x.ring x.slot r) :=
  ⟨Side.sqList_finish _ _ _ r, d.setCur_cur ch none, d.setCur_busy ch none, rfl⟩

theorem Side.xferEnd_of_ring (d : Side) (p : Pkg) (ch : Nat) {x : Xfer} (r : Res) (bytes : Nat) (h : x.sh = none) :
    d.xferEnd p ch x r bytes = if x.isFlush then (d.setCur ch none).finish x.ring x.slot r
      else ((d.setCur ch none).finish x.ring x.slot r).set (F.DMA_PROGRESS_BYTES ch) bytes := by
  rw [Side.xferEnd, h]

theorem Side.xferEnd_ends (d : Side) (p : Pkg) (ch : Nat) {x : Xfer} (r : Res) (bytes : Nat) (h : x.sh = none) :
    d.ends ch x r (d.xferEnd p ch x r bytes) := by
  obtain ⟨hlist, hcur, hbusy, hdram⟩ := d.setCur_finish_ends ch x r
  rw [d.xferEnd_of_ring p ch r bytes h]
  split
  · exact ⟨hlist, hcur, hbusy, hdram⟩
  · exact ⟨hlist, hcur, (Side.get_set_off _ _ (show 0x100004 + 0x1000 * ch ≠ 0x10000C + 0x1000 * ch by omega)).trans hbusy, hdram⟩

/-- PROGRESS of a COPY or FILL that has ended (R117). -/
theorem Side.xferEnd_progress (d : Side) (p : Pkg) (ch : Nat) {x : Xfer} (r : Res) {bytes : Nat} (h : x.sh = none)
    (hf : x.isFlush = false) (hb : bytes < 2 ^ 32) : (d.xferEnd p ch x r bytes).get (F.DMA_PROGRESS_BYTES ch) = bytes := by
  rw [d.xferEnd_of_ring p ch r bytes h, hf]
  exact (Side.get_set_self _ (F.DMA_PROGRESS_BYTES ch) bytes (show 0 + 32 ≤ 32 by decide)).trans (Nat.mod_eq_of_lt hb)

/-! What the transfer's commands do on a side. -/

/-- HALF: the burst that brings half the bytes out moves (R106). -/
theorem Side.movesAlone.half_bursts {p : Pkg} {d : Side} {ch : Nat} {x : Xfer} (h : d.movesAlone p ch x) (hhalf : x.half = true)
    (hpost : x.halfPosted = false) (hn : x.written < ceilDiv x.len 2) (hout : ceilDiv x.len 2 ≤ x.written + x.burst x.written) :
    d.bursts p ch x (d.half p ch) := by
  have hserve : d.half p ch = d.dmaServe p ch (ceilDiv x.len 2) (d.dmaLeft + 1) [] := by
    simp [Side.half, h.cur, hhalf, hpost, h.moves]
  rw [hserve]
  exact h.dmaServe_bursts hn hout _

/-- The transfer after its last burst: all bytes out, the half point among them. -/
theorem Xfer.next_of_last {x : Xfer} (h : x.written + x.burst x.written = x.len) :
    x.next = { x with written := x.len, halfPosted := true } := by
  have hhalf : ceilDiv x.len 2 ≤ x.len := by rw [ceilDiv]; omega
  simp [Xfer.next, h, hhalf]

/-- The last burst moves; then the fence begins, or the transfer ends with SUCCESS (R103). -/
theorem Side.movesAlone.xferComplete_eq {p : Pkg} {d : Side} {ch : Nat} {x : Xfer} (h : d.movesAlone p ch x)
    (hlast : x.written + x.burst x.written = x.len) : ∃ e, d.bursts p ch x e ∧ d.xferComplete p ch =
      if x.flushAfter then e.setCur ch (some { x with written := x.len, halfPosted := true, fence := some (fenceAddr x) })
      else e.xferEnd p ch { x with written := x.len, halfPosted := true } (xferRes x) x.len := by
  have hburst := h.dmaServe_bursts h.more hlast.ge d.dmaLeft
  refine ⟨_, hburst, ?_⟩
  have hcur := hburst.1
  rw [Xfer.next_of_last hlast] at hcur
  simp only [Side.xferComplete, h.cur, h.moves, hcur, Bool.not_true, Bool.false_eq_true, if_false, lt_irrefl]
  rfl

/-- Without FLUSH_AFTER the transfer ends as its last burst has moved. -/
theorem Side.movesAlone.xferComplete_ends {p : Pkg} {d : Side} {ch : Nat} {x : Xfer} (h : d.movesAlone p ch x)
    (hlast : x.written + x.burst x.written = x.len) (hafter : x.flushAfter = false) (hsh : x.sh = none) (hflush : x.isFlush = false)
    (hlen : x.len < 2 ^ 32) :
    (d.xferComplete p ch).sqList x.ring = finishSlot x.slot ⟨stSUCCESS, x.len, b2n x.desc⟩ (d.sqList x.ring) ∧
      ((d.xferComplete p ch).ch ch).cur = none ∧ (d.xferComplete p ch).get (F.DMA_STATUS_BUSY ch) = 0 ∧
      (d.xferComplete p ch).get (F.DMA_PROGRESS_BYTES ch) = x.len ∧
      (d.xferComplete p ch).dram = (d.xferMove p x x.len).dram := by
  obtain ⟨e, ⟨-, hsq, hdram⟩, heq⟩ := h.xferComplete_eq hlast
  have hres : xferRes x = ⟨stSUCCESS, x.len, b2n x.desc⟩ := by rw [xferRes, hafter]; rfl
  have hrings : e.sqList x.ring = d.sqList x.ring := congrArg (tget [] · x.ring) hsq
  obtain ⟨hlist, hidle, hbusy, hkept⟩ :=
    e.xferEnd_ends p ch (x := { x with written := x.len, halfPosted := true }) ⟨stSUCCESS, x.len, b2n x.desc⟩ x.len hsh
  rw [hlast] at hdram
  rw [heq, if_neg (by simp [hafter]), hres, ← hrings]
  exact ⟨hlist, hidle, hbusy, e.xferEnd_progress p ch _ hsh hflush hlen, hkept.trans hdram⟩

/-- With FLUSH_AFTER its fence begins. -/
theorem Side.movesAlone.xferComplete_flushes {p : Pkg} {d : Side} {ch : Nat} {x : Xfer} (h : d.movesAlone p ch x)
    (hlast : x.written + x.burst x.written = x.len) (hafter : x.flushAfter = true) :
    ((d.xferComplete p ch).ch ch).cur = some { x with written := x.len, halfPosted := true, fence := some (fenceAddr x) } ∧
      (d.xferComplete p ch).dram = (d.xferMove p x x.len).dram := by
  obtain ⟨e, ⟨-, -, hdram⟩, heq⟩ := h.xferComplete_eq hlast
  rw [hlast] at hdram
  rw [heq, if_pos hafter]
  exact ⟨e.setCur_cur ch _, hdram⟩

/-- A fence that may complete ends its transfer: with HOST_FAULT where its read fails, and else with SUCCESS (R104). -/
theorem Side.fenceComplete_of_fence {p : Pkg} {d : Side} {ch a : Nat} {x : Xfer} (hcur : (d.ch ch).cur = some x)
    (hf : x.fence = some a) (hb : x.dstSpace = 0 → p.pci.bme x.fn = true) (ok : Bool) : d.fenceComplete p ch ok =
      if ok = false ∧ x.dstSpace = 0 then d.xferEnd p ch x (hostFaultRes a) x.written
      else if x.isFlush then d.xferEnd p ch x ⟨stSUCCESS, if x.dstSpace = 0 then leNat (memRead p.host a 4) else 0, 0⟩ 0
      else d.xferEnd p ch x (xferRes x) x.len := by
  have hready : ¬(decide (x.dstSpace = 0) && !p.pci.bme x.fn) = true := by
    rw [Bool.and_eq_true, decide_eq_true_eq]
    exact fun ⟨h0, hn⟩ => by simp [hb h0] at hn
  simp only [Side.fenceComplete, hcur, hf, hready]
  simp

/-- What the end of a ring's transfer at its fence leaves: its outcome by the fence's and the kind of transfer (R104). -/
theorem Side.fenceComplete_ends {p : Pkg} {d : Side} {ch a : Nat} {x : Xfer} (hcur : (d.ch ch).cur = some x) (hsh : x.sh = none)
    (hlen : x.len < 2 ^ 32) (hf : x.fence = some a) (hb : x.dstSpace = 0 → p.pci.bme x.fn = true) (ok : Bool) :
    ((d.fenceComplete p ch ok).ch ch).cur = none ∧ (d.fenceComplete p ch ok).get (F.DMA_STATUS_BUSY ch) = 0 ∧
      (d.fenceComplete p ch ok).dram = d.dram ∧
      (ok = false → x.dstSpace = 0 →
        (d.fenceComplete p ch ok).sqList x.ring = finishSlot x.slot (hostFaultRes a) (d.sqList x.ring)) ∧
      (ok = true ∨ x.dstSpace ≠ 0 → x.isFlush = false → (d.fenceComplete p ch ok).get (F.DMA_PROGRESS_BYTES ch) = x.len ∧
        (d.fenceComplete p ch ok).sqList x.ring = finishSlot x.slot (xferRes x) (d.sqList x.ring)) ∧
      (ok = true ∨ x.dstSpace ≠ 0 → x.isFlush = true → (d.fenceComplete p ch ok).sqList x.ring =
        finishSlot x.slot ⟨stSUCCESS, if x.dstSpace = 0 then leNat (memRead p.host a 4) else 0, 0⟩ (d.sqList x.ring)) := by
  rw [Side.fenceComplete_of_fence hcur hf hb ok]
  by_cases hfail : ok = false ∧ x.dstSpace = 0
  · obtain ⟨hlist, hidle, hbusy, hdram⟩ := d.xferEnd_ends p ch (hostFaultRes a) x.written hsh
    have hnot : ¬(ok = true ∨ x.dstSpace ≠ 0) := by simp [hfail]
    rw [if_pos hfail]
    exact ⟨hidle, hbusy, hdram, fun _ _ => hlist, fun hok => absurd hok hnot, fun hok => absurd hok hnot⟩
  · have hnot : ok = false → x.dstSpace ≠ 0 := fun hok h0 => hfail ⟨hok, h0⟩
    rw [if_neg hfail]
    cases hflush : x.isFlush with
    | true =>
      obtain ⟨hlist, hidle, hbusy, hdram⟩ :=
        d.xferEnd_ends p ch ⟨stSUCCESS, if x.dstSpace = 0 then leNat (memRead p.host a 4) else 0, 0⟩ 0 hsh
      rw [if_pos rfl]
      exact ⟨hidle, hbusy, hdram, fun hok h0 => absurd h0 (hnot hok), fun _ => nofun, fun _ _ => hlist⟩
    | false =>
      obtain ⟨hlist, hidle, hbusy, hdram⟩ := d.xferEnd_ends p ch (xferRes x) x.len hsh
      rw [if_neg (by decide)]
      exact ⟨hidle, hbusy, hdram, fun hok h0 => absurd h0 (hnot hok),
        fun _ _ => ⟨d.xferEnd_progress p ch (xferRes x) hsh hflush hlen, hlist⟩, fun _ => nofun⟩

/-- A failure in flight ends the transfer, with the rings as they were (R107). -/
theorem Side.xferFail_eq (p : Pkg) (d : Side) (ch : Nat) (x : Xfer) (r : Res) (n : Nat) :
    ∃ e : Side, e.hif.sq = d.hif.sq ∧ d.xferFail p ch x r n = e.xferEnd p ch x r n := by
  have hwrite : ∀ (e : Side) (a : Nat) (l : List Byte), (e.spaceWrite p x.fn x.dstSpace a l).hif.sq = e.hif.sq := fun e a l => by
    obtain ⟨o, m, w, heq⟩ := e.spaceWrite_eq p x.fn x.dstSpace a l
    rw [heq]
  refine ⟨_, (hwrite _ _ _).trans ?_, rfl⟩
  split
  · exact (Side.postHalf_hif_sq _ p ch x).trans (hwrite _ _ _)
  · exact hwrite _ _ _

/-- A host access that fails while a transfer reads the host's memory. -/
theorem Side.xferError_of_hostRead {p : Pkg} {d : Side} {ch n : Nat} {x : Xfer} (a : Nat) (hcur : (d.ch ch).cur = some x)
    (hfence : x.fence = none) (hn : max x.written n < x.len) (hp : d.paused ch = false) (hpat : x.pattern = none)
    (hsrc : x.srcSpace = 0) : d.xferError p ch (.hostFault a) n = d.xferFail p ch x (hostFaultRes a) (max x.written n) := by
  have hgoes : ¬(x.fence.isSome || decide (x.len ≤ max x.written n) || d.paused ch) = true := by
    simpa [hfence, hp] using hn
  have hreads : (x.pattern.isNone && x.srcSpace == 0 || x.dstSpace == 0) = true := by simp [hpat, hsrc]
  simp only [Side.xferError, hcur]
  rw [if_neg hgoes, if_pos hreads]

/-- Its descriptor is finished with HOST_FAULT, and PROGRESS is the count of bytes written (R107). -/
theorem Side.xferError_ends {p : Pkg} {d : Side} {ch n : Nat} {x : Xfer} (a : Nat) (hcur : (d.ch ch).cur = some x)
    (hsh : x.sh = none) (hlen : x.len < 2 ^ 32) (hfence : x.fence = none) (hn : max x.written n < x.len) (hp : d.paused ch = false)
    (hflush : x.isFlush = false) (hpat : x.pattern = none) (hsrc : x.srcSpace = 0) :
    (d.xferError p ch (.hostFault a) n).sqList x.ring = finishSlot x.slot (hostFaultRes a) (d.sqList x.ring) ∧
      ((d.xferError p ch (.hostFault a) n).ch ch).cur = none ∧
      (d.xferError p ch (.hostFault a) n).get (F.DMA_STATUS_BUSY ch) = 0 ∧
      (d.xferError p ch (.hostFault a) n).get (F.DMA_PROGRESS_BYTES ch) = max x.written n := by
  obtain ⟨e, hsq, heq⟩ := d.xferFail_eq p ch x (hostFaultRes a) (max x.written n)
  have hrings : e.sqList x.ring = d.sqList x.ring := congrArg (tget [] · x.ring) hsq
  obtain ⟨hlist, hidle, hbusy, -⟩ := e.xferEnd_ends p ch (hostFaultRes a) (max x.written n) hsh
  rw [hrings] at hlist
  rw [Side.xferError_of_hostRead a hcur hfence hn hp hpat hsrc, heq]
  exact ⟨hlist, hidle, hbusy, e.xferEnd_progress p ch _ hsh hflush (lt_trans hn hlen)⟩

/-! The commands. -/

theorem exec_dmaTransferComplete {ch : Nat} (h : ch < 32) (s : State) :
    exec (.dmaTransferComplete ch) s = .next (s.both (Side.timed fun p d => d.xferComplete p ch)) := by
  change execDmaTransferComplete ch s = _
  rw [execDmaTransferComplete, if_pos h]

theorem exec_half {ch : Nat} (h : ch < 32) (s : State) : exec (.half ch) s = .next (s.both (Side.timed fun p d => d.half p ch)) := by
  change execHalf ch s = _
  rw [execHalf, if_pos h]

theorem exec_fenceComplete {ch : Nat} (h : ch < 32) (ok : Bool) (s : State) :
    exec (.fenceComplete ch ok) s = .next (s.both (Side.timed fun p d => d.fenceComplete p ch ok)) := by
  change execFenceComplete ch ok s = _
  rw [execFenceComplete, if_pos h]

theorem exec_dmaTransferError {ch : Nat} (h : ch < 32) (e : DmaErr) (n : Nat) (s : State) :
    exec (.dmaTransferError ch e n) s = .next (s.both (Side.timed fun p d => d.xferError p ch e n)) := by
  change execDmaTransferError ch e n s = _
  rw [execDmaTransferError, if_pos h]

end Sys2Proof.Machine
end

section
/-! The statement on how a ring's transfer ends. -/

namespace Sys2Proof.Proofs
open Sys2Proof Sys2Proof.Machine

/-- Settles O16: the engine gives the one transfer that moves its next burst; what ends a transfer finishes its descriptor and frees its
channel. That a failing transfer's PROGRESS is the count that the command gives is log entry 144. -/
theorem dmaTransfersEnd : Obligations.DmaTransfersEnd := by
  unfold Obligations.DmaTransfersEnd
  intro ch s x xf hch hx hcur hsh hlen
  refine ⟨?moves, ?fence, ?error⟩
  case moves =>
    intro hfence hmay hpaused halone hflush hecc hmore
    have hmoves : (s.side x).movesAlone s.pkg ch xf :=
      ⟨hch, hcur, halone, by simp [Side.xferMoves, hfence, hmay, hpaused], hmore, hecc⟩
    refine ⟨?last, ?flushes, ?half⟩
    case last =>
      intro hlast hafter
      obtain ⟨h, l, hside⟩ := State.both_timed_of_running hx fun p d => d.xferComplete p ch
      refine ⟨_, exec_dmaTransferComplete hch s, ?_⟩
      rw [hside]
      exact hmoves.xferComplete_ends hlast hafter hsh hflush hlen
    case flushes =>
      intro hlast hafter
      obtain ⟨h, l, hside⟩ := State.both_timed_of_running hx fun p d => d.xferComplete p ch
      refine ⟨_, exec_dmaTransferComplete hch s, ?_⟩
      rw [hside]
      exact hmoves.xferComplete_flushes hlast hafter
    case half =>
      intro hhalf hpost hbefore hout
      obtain ⟨h, l, hside⟩ := State.both_timed_of_running hx fun p d => d.half p ch
      obtain ⟨hnext, -, hdram⟩ := hmoves.half_bursts hhalf hpost hbefore hout
      have hposted : xf.next = { xf with written := xf.written + xf.burst xf.written, halfPosted := true } := by
        simp [Xfer.next, hout]
      refine ⟨_, exec_half hch s, ?_⟩
      rw [hside, ← hposted]
      exact ⟨hnext, hdram⟩
  case fence =>
    intro a ok hfence hbme
    obtain ⟨h, l, hside⟩ := State.both_timed_of_running hx fun p d => d.fenceComplete p ch ok
    refine ⟨_, exec_fenceComplete hch ok s, ?_⟩
    rw [hside]
    exact Side.fenceComplete_ends hcur hsh hlen hfence hbme ok
  case error =>
    intro a n hfence hn hpaused hflush hpat hsrc
    obtain ⟨h, l, hside⟩ := State.both_timed_of_running hx fun p d => d.xferError p ch (.hostFault a) n
    refine ⟨_, exec_dmaTransferError hch (.hostFault a) n s, ?_⟩
    rw [hside]
    exact Side.xferError_ends a hcur hsh hlen hfence hn hpaused hflush hpat hsrc

end Sys2Proof.Proofs
end

section
/-! The registers that a shadow set's arming and start set, and what its transfer and the checks of it read (R108 to R113). -/

namespace Sys2Proof.Machine

theorem Side.regsBut_refl (names : Nat → Prop) (d : Side) : d.regsBut names d := fun _ _ => rfl

theorem Side.regsBut.set {names : Nat → Prop} {d e : Side} (h : d.regsBut names e) {f : Fld} (v : Nat) (hf : names f.off) :
    d.regsBut names (e.set f v) := fun o ho => (e.word_set_ne f v (o := o) fun he => ho (he ▸ hf)).trans (h o ho)

theorem Side.regsBut.setWord {names : Nat → Prop} {d e : Side} (h : d.regsBut names e) {r : Nat} (v : Nat) (hr : names r) :
    d.regsBut names (e.setWord r v) := fun o ho => (rfWord_put_ne e.rf (o := o) (off := r) v fun he => ho (he ▸ hr)).trans (h o ho)

theorem Side.regsBut.get {names : Nat → Prop} {d e : Side} (h : d.regsBut names e) {g : Fld} (hg : ¬names g.off) :
    e.get g = d.get g := Side.get_of_word g (h g.off hg)

/-- The registers of the DMA channels. -/
def dmaRegs (o : Nat) : Prop := 0x100000 ≤ o ∧ o < 0x200000

/-- The checks of a transfer read none of them. -/
theorem Side.xferCheck_of_regsBut {d e : Side} (h : d.regsBut dmaRegs e) (p : Pkg) (x : Xfer) : e.xferCheck p x = d.xferCheck p x := by
  have hflag : ∀ g : Fld, 0x900000 ≤ g.off → e.flag g = d.flag g := fun g hg =>
    congrArg (· == 1) (h.get (by simp only [dmaRegs]; omega))
  have hbytes : ∀ a n, e.jobBytes a n = d.jobBytes a n := fun a n => by
    have harea : ∀ k, e.flag (F.LAW_TR_STATE_AREA_CONF k) = d.flag (F.LAW_TR_STATE_AREA_CONF k) := fun k =>
      hflag _ (show 0x900000 ≤ 0x90100C + 0x20 * k by omega)
    simp only [Side.jobBytes, harea]
  simp only [Side.xferCheck, hbytes, hflag F.SEC_STATUS_GUARD (by decide)]

/-- Whether a group of engines runs hangs on none of them. -/
theorem Side.groupOn_of_regsBut {d e : Side} (h : d.regsBut dmaRegs e) (g : Nat) : e.groupOn g = d.groupOn g := by
  have hget : ∀ g : Fld, 0x1100000 ≤ g.off → e.get g = d.get g := fun g hg => h.get (by simp only [dmaRegs]; omega)
  simp only [Side.groupOn, Side.flag, hget F.THM_PWR_STATE_STATE (by decide), hget F.THM_PWR_STATE_WAKING (by decide),
    hget F.THM_PWR_STALE_GROUP (by decide)]

/-- STATUS of channel ch and STATE of its shadow set sh. -/
def shRegs (ch sh o : Nat) : Prop := o = 0x100004 + 0x1000 * ch ∨ o = 0x100058 + 0x1000 * ch + 0x40 * sh

/-- A set's transfer reads none of them. -/
theorem Side.shXfer_of_regsBut {ch sh : Nat} {d e : Side} (h : d.regsBut (shRegs ch sh) e) : e.shXfer ch sh = d.shXfer ch sh := by
  have hget : ∀ g : Fld, 0x100040 + 0x1000 * ch + 0x40 * sh ≤ g.off → g.off < 0x100058 + 0x1000 * ch + 0x40 * sh →
      e.get g = d.get g := fun g hlo hhi => h.get (by simp only [shRegs]; omega)
  simp (disch := simp only [F.DMA_SH_CTRL_SRC_SPACE, F.DMA_SH_CTRL_DST_SPACE, F.DMA_SH_CTRL_HALF, F.DMA_SH_CTRL_FULL,
    F.DMA_SH_CTRL_FLUSH_AFTER, F.DMA_SH_SRC_LO_SRC, F.DMA_SH_SRC_HI_SRC, F.DMA_SH_DST_LO_DST, F.DMA_SH_DST_HI_DST,
    F.DMA_SH_LEN_LEN] <;> omega) only [Side.shXfer, Side.get64, Side.flag, hget]

theorem Side.regsBut_dmaRegs_of_shRegs {ch sh : Nat} {d e : Side} (hch : ch < 32) (hsh : sh < 2) (h : d.regsBut (shRegs ch sh) e) :
    d.regsBut dmaRegs e := fun o ho => h o (by simp only [shRegs, dmaRegs] at *; omega)

end Sys2Proof.Machine
end

section
/-! A shadow set is armed, taken by its channel, and disarmed (R108, R109, R111). -/

namespace Sys2Proof.Machine

/-! Channels. -/

@[simp] theorem Side.ch_dmaRefresh (d : Side) (ch c : Nat) : (d.dmaRefresh ch).ch c = d.ch c := rfl

/-- The number of a set, as the order of arming holds it. -/
theorem val_ofNat_two {sh : Nat} (h : sh < 2) : (Fin.ofNat 2 sh).val = sh := Nat.mod_eq_of_lt h

/-! ARM. -/

/-- Shadow set sh of channel ch with the fields of a write stored, ARMED, not VALID and last in the order of arming (R108, R109). -/
def Side.shArmed (ch sh v : Nat) (d : Side) : Side :=
  (((d.setWord (0x100054 + 0x1000 * ch + 0x40 * sh) (bits v 0 7)).set (F.DMA_SH_STATE_ARMED ch sh) 1).set
    (F.DMA_SH_STATE_VALID ch sh) 0).setCh ch { d.ch ch with armed := (d.ch ch).armed ++ [Fin.ofNat 2 sh] }

/-- A write of v arms set sh of channel ch: ARM without DISARM, of a free set, outside RING mode and every hand-over window. -/
structure Side.armsSet (d : Side) (ch sh v : Nat) : Prop where
  arm : bit v 8 = true
  dis : bit v 9 = false
  free : d.shBusy ch sh = false
  mode : d.dmaMode ch ≠ 1
  wins : (d.ch ch).wins = []

/-- ARM of such a set: it is armed, and an idle channel takes the first that is. -/
theorem Side.armsSet.shCtrlWrite_eq {d : Side} {ch sh v : Nat} (h : d.armsSet ch sh v) (p : Pkg) :
    d.shCtrlWrite p ch sh v = if (d.ch ch).cur.isNone then (d.shArmed ch sh v).shTake p ch 3 0 id
      else (d.shArmed ch sh v).dmaRefresh ch := by
  obtain ⟨harm, hdis, hfree, hmode, hwins⟩ := h
  have hcur : ((d.shArmed ch sh v).ch ch).cur = (d.ch ch).cur := by rw [Side.shArmed, Side.ch_setCh_self]
  rw [← hcur]
  simp only [Side.shCtrlWrite, harm, hdis, hfree, hmode, hwins, List.any_nil, Bool.or_true, Bool.or_self, Bool.and_false,
    Bool.false_and, decide_false, Bool.false_eq_true, if_false, if_true]
  rfl

/-- What arming leaves of the set's registers, and of its channel. -/
theorem Side.shArmed_reads (d : Side) (ch sh v : Nat) : (d.shArmed ch sh v).get (F.DMA_SH_STATE_ARMED ch sh) = 1 ∧
    (d.shArmed ch sh v).get (F.DMA_SH_STATE_VALID ch sh) = 0 ∧
    (d.shArmed ch sh v).word (0x100054 + 0x1000 * ch + 0x40 * sh) = bits v 0 7 ∧
    (d.shArmed ch sh v).ch ch = { d.ch ch with armed := (d.ch ch).armed ++ [Fin.ofNat 2 sh] } := by
  have hfit : bits v 0 7 < 2 ^ 32 := lt_trans (bits_lt v 0 7) (by decide)
  have hapart : 0x100054 + 0x1000 * ch + 0x40 * sh ≠ 0x100058 + 0x1000 * ch + 0x40 * sh := by omega
  refine ⟨?armed, ?valid, ?ctrl, Side.ch_setCh_self _ ch _⟩
  case armed =>
    exact (Side.get_set_apart _ 0 (.inr (.inl (show 8 + 1 ≤ 31 by decide))) (show 8 + 1 ≤ 32 by decide)).trans
      (Side.get_set_self _ _ 1 (show 8 + 1 ≤ 32 by decide))
  case valid => exact Side.get_set_self _ (F.DMA_SH_STATE_VALID ch sh) 0 (show 31 + 1 ≤ 32 by decide)
  case ctrl =>
    exact (Side.word_set_ne _ _ 0 hapart).trans ((Side.word_set_ne _ _ 1 hapart).trans
      ((rfWord_put_self d.rf _ _).trans (Nat.mod_eq_of_lt hfit)))

/-- The set waits: it is ARMED and last in the order of arming, and the channel goes on with what it runs. -/
theorem Side.shArmed_waits (d : Side) {ch sh : Nat} (hsh : sh < 2) (v : Nat) :
    ((d.shArmed ch sh v).dmaRefresh ch).get (F.DMA_SH_STATE_ARMED ch sh) = 1 ∧
      ((d.shArmed ch sh v).dmaRefresh ch).get (F.DMA_SH_STATE_VALID ch sh) = 0 ∧
      ((d.shArmed ch sh v).dmaRefresh ch).word (0x100054 + 0x1000 * ch + 0x40 * sh) = bits v 0 7 ∧
      (((d.shArmed ch sh v).dmaRefresh ch).ch ch).armed.map (·.val) = (d.ch ch).armed.map (·.val) ++ [sh] ∧
      (((d.shArmed ch sh v).dmaRefresh ch).ch ch).cur = (d.ch ch).cur ∧
      ((d.shArmed ch sh v).dmaRefresh ch).dram = d.dram ∧ ((d.shArmed ch sh v).dmaRefresh ch).hif = d.hif := by
  have hapart : 0x100058 + 0x1000 * ch + 0x40 * sh ≠ 0x100004 + 0x1000 * ch := by omega
  obtain ⟨harmed, hvalid, hctrl, hchan⟩ := d.shArmed_reads ch sh v
  rw [Side.ch_dmaRefresh, hchan, List.map_append, List.map_singleton, val_ofNat_two hsh]
  exact ⟨(Side.get_set_off _ _ hapart).trans harmed, (Side.get_set_off _ _ hapart).trans hvalid,
    (Side.word_set_ne _ _ _ (show _ ≠ 0x100004 + 0x1000 * ch by omega)).trans hctrl, rfl, rfl, rfl, rfl⟩

/-! The channel takes a set (R109, R110). -/

/-- Set sh of an idle channel taken from the order of arming, of which a rest is left. -/
def Side.shTaken (ch sh : Nat) (rest : List (Fin 2)) (d : Side) : Side :=
  (((d.setCh ch { d.ch ch with armed := rest }).set (F.DMA_SH_STATE_ARMED ch sh) 0).set (F.DMA_SH_STATE_RUNNING ch sh) 1).set
    (F.DMA_STATUS_CUR_SH ch) sh

/-- Channel ch, with set sh taken, runs its transfer x. -/
def Side.shRun (ch sh : Nat) (rest : List (Fin 2)) (x : Xfer) (d : Side) : Side :=
  ((d.shTaken ch sh rest).setCur ch (some x)).dmaRefresh ch

/-- The set armed first runs where its checks pass. -/
theorem Side.shTake_of_passes {d : Side} {p : Pkg} {ch sh : Nat} {a : Fin 2} {rest : List (Fin 2)} {x : Xfer} (ha : a.val = sh)
    (harmed : (d.ch ch).armed = a :: rest) (hon : d.groupOn 0 = true) (hx : (d.shTaken ch sh rest).shXfer ch sh = x)
    (hpass : (d.shTaken ch sh rest).xferCheck p x = none) (fuel k : Nat) (after : Side → Side) :
    d.shTake p ch (fuel + 1) k after = after (d.shRun ch sh rest x) := by
  subst hx ha
  simp only [Side.shTaken] at hpass
  simp only [Side.shTake, harmed, hon, Bool.not_true, Bool.false_eq_true, if_false, hpass]
  rfl

/-- What the taking of a set leaves of its registers and of its channel's. -/
theorem Side.shRun_reads (d : Side) (ch : Nat) {sh : Nat} (hsh : sh < 2) (rest : List (Fin 2)) (x : Xfer) :
    (d.shRun ch sh rest x).get (F.DMA_SH_STATE_ARMED ch sh) = 0 ∧ (d.shRun ch sh rest x).get (F.DMA_SH_STATE_RUNNING ch sh) = 1 ∧
      (d.shRun ch sh rest x).get (F.DMA_SH_STATE_VALID ch sh) = d.get (F.DMA_SH_STATE_VALID ch sh) ∧
      (d.shRun ch sh rest x).get (F.DMA_STATUS_BUSY ch) = 1 ∧ (d.shRun ch sh rest x).get (F.DMA_STATUS_CUR_SH ch) = sh := by
  have hcur : sh % 2 ^ 1 = sh := Nat.mod_eq_of_lt hsh
  simp (disch := simp only [Fld.apart, F.DMA_SH_STATE_ARMED, F.DMA_SH_STATE_RUNNING, F.DMA_SH_STATE_VALID, F.DMA_STATUS_BUSY,
    F.DMA_STATUS_CUR_SH, F.DMA_STATUS_MODE] <;> omega) only [Side.shRun, Side.shTaken, Side.setCur, Side.dmaRefresh, Side.get_set_self,
    Side.get_set_apart, Side.get_setCh]
  exact ⟨rfl, rfl, trivial, rfl, hcur⟩

theorem Side.shRun_ch (d : Side) (ch sh : Nat) (rest : List (Fin 2)) (x : Xfer) :
    (d.shRun ch sh rest x).ch ch = { d.ch ch with cur := some x, armed := rest } := by
  rw [Side.shRun, Side.ch_dmaRefresh, Side.ch_setCur]
  simp only [Side.shTaken, Side.ch_set, Side.ch_setCh_self]

/-- Arming changes the set's STATE beside the fields that the write stores; the set's start, that and STATUS. -/
theorem Side.shArmed_regsBut (d : Side) (ch sh v : Nat) :
    (d.setWord (0x100054 + 0x1000 * ch + 0x40 * sh) (bits v 0 7)).regsBut (shRegs ch sh) (d.shArmed ch sh v) :=
  ((Side.regsBut_refl _ _).set (f := F.DMA_SH_STATE_ARMED ch sh) 1 (.inr rfl)).set (f := F.DMA_SH_STATE_VALID ch sh) 0 (.inr rfl)

theorem Side.regsBut.shTaken {d e : Side} {ch sh : Nat} (h : d.regsBut (shRegs ch sh) e) (rest : List (Fin 2)) :
    d.regsBut (shRegs ch sh) (e.shTaken ch sh rest) :=
  ((Side.regsBut.set (e := Side.setCh _ _ _) h (f := F.DMA_SH_STATE_ARMED ch sh) 0 (.inr rfl)).set
    (f := F.DMA_SH_STATE_RUNNING ch sh) 1 (.inr rfl)).set (f := F.DMA_STATUS_CUR_SH ch) sh (.inl rfl)

/-- ARM on an idle channel with nothing armed: the set runs at once, if the fields that the write stores pass the checks. -/
theorem Side.armsSet.shCtrlWrite_runs {d : Side} {ch sh v : Nat} (h : d.armsSet ch sh v) (p : Pkg) (hch : ch < 32) (hsh : sh < 2)
    (hidle : (d.ch ch).cur = none) (harmed : (d.ch ch).armed = []) (hon : d.groupOn 0 = true) {x : Xfer}
    (hx : x = (d.setWord (0x100054 + 0x1000 * ch + 0x40 * sh) (bits v 0 7)).shXfer ch sh) (hpass : d.xferCheck p x = none) :
    d.shCtrlWrite p ch sh v = (d.shArmed ch sh v).shRun ch sh [] x := by
  have hstored : d.regsBut dmaRegs (d.setWord (0x100054 + 0x1000 * ch + 0x40 * sh) (bits v 0 7)) :=
    (Side.regsBut_refl _ d).setWord _ (by simp only [dmaRegs]; omega)
  have hset := d.shArmed_regsBut ch sh v
  have hfirst : ((d.shArmed ch sh v).ch ch).armed = Fin.ofNat 2 sh :: [] := by
    obtain ⟨-, -, -, hchan⟩ := d.shArmed_reads ch sh v
    rw [hchan, harmed]
    rfl
  have hgroup : (d.shArmed ch sh v).groupOn 0 = true := by
    rw [Side.groupOn_of_regsBut (Side.regsBut_dmaRegs_of_shRegs hch hsh hset), Side.groupOn_of_regsBut hstored, hon]
  have hcheck : ((d.shArmed ch sh v).shTaken ch sh []).xferCheck p x = none := by
    rw [Side.xferCheck_of_regsBut (Side.regsBut_dmaRegs_of_shRegs hch hsh (hset.shTaken [])), Side.xferCheck_of_regsBut hstored, hpass]
  have hxfer : ((d.shArmed ch sh v).shTaken ch sh []).shXfer ch sh = x := (Side.shXfer_of_regsBut (hset.shTaken [])).trans hx.symm
  rw [h.shCtrlWrite_eq p, hidle, if_pos Option.isNone_none]
  exact Side.shTake_of_passes (val_ofNat_two hsh) hfirst hgroup hxfer hcheck 2 0 id

/-- ARMED and then taken, the set runs its transfer. -/
theorem Side.shArmed_runs (d : Side) (ch : Nat) {sh : Nat} (hsh : sh < 2) (v : Nat) (x : Xfer) :
    (((d.shArmed ch sh v).shRun ch sh [] x).ch ch).cur = some x ∧ (((d.shArmed ch sh v).shRun ch sh [] x).ch ch).armed = [] ∧
      ((d.shArmed ch sh v).shRun ch sh [] x).get (F.DMA_SH_STATE_ARMED ch sh) = 0 ∧
      ((d.shArmed ch sh v).shRun ch sh [] x).get (F.DMA_SH_STATE_RUNNING ch sh) = 1 ∧
      ((d.shArmed ch sh v).shRun ch sh [] x).get (F.DMA_SH_STATE_VALID ch sh) = 0 ∧
      ((d.shArmed ch sh v).shRun ch sh [] x).get (F.DMA_STATUS_BUSY ch) = 1 ∧
      ((d.shArmed ch sh v).shRun ch sh [] x).get (F.DMA_STATUS_CUR_SH ch) = sh ∧
      ((d.shArmed ch sh v).shRun ch sh [] x).dram = d.dram ∧ ((d.shArmed ch sh v).shRun ch sh [] x).hif = d.hif := by
  obtain ⟨-, hvalid, -, -⟩ := d.shArmed_reads ch sh v
  obtain ⟨hoff, hrunning, hkept, hbusy, hnames⟩ := (d.shArmed ch sh v).shRun_reads ch hsh [] x
  rw [Side.shRun_ch]
  exact ⟨rfl, rfl, hoff, hrunning, hkept.trans hvalid, hbusy, hnames, rfl, rfl⟩

/-! DISARM (R111). -/

/-- Shadow set sh of channel ch with the fields of a write stored, not ARMED, and taken out of the order of arming. -/
def Side.shDisarmed (ch sh v : Nat) (d : Side) : Side :=
  ((d.setWord (0x100054 + 0x1000 * ch + 0x40 * sh) (bits v 0 7)).set (F.DMA_SH_STATE_ARMED ch sh) 0).setCh ch
    { d.ch ch with armed := (d.ch ch).armed.filter (·.val ≠ sh) }

/-- DISARM that changes no field, of a set that does not run, while its channel runs a transfer. -/
theorem Side.shCtrlWrite_of_disarm {d : Side} {ch sh v : Nat} (p : Pkg) (harm : bit v 8 = false) (hdis : bit v 9 = true)
    (hsame : bits v 0 7 = d.word (0x100054 + 0x1000 * ch + 0x40 * sh))
    (hrun : d.flag (F.DMA_SH_STATE_RUNNING ch sh) = false) (hcur : (d.ch ch).cur.isSome = true) :
    d.shCtrlWrite p ch sh v = (d.shDisarmed ch sh v).dmaRefresh ch := by
  have hkept : decide (bits v 0 7 ≠ d.word (F.DMA_SH_CTRL_ARM ch sh).off) = false := decide_eq_false (not_not.2 hsame)
  have hstays : (d.setWord (F.DMA_SH_CTRL_ARM ch sh).off (bits v 0 7)).flag (F.DMA_SH_STATE_RUNNING ch sh) = false :=
    (congrArg (· == 1) (rfGet_put_off d.rf (F.DMA_SH_STATE_RUNNING ch sh) _ _
      (show 0x100058 + 0x1000 * ch + 0x40 * sh ≠ 0x100054 + 0x1000 * ch + 0x40 * sh by omega))).trans hrun
  have hruns : ((d.shDisarmed ch sh v).ch ch).cur.isNone = false := by
    rw [Side.shDisarmed, Side.ch_setCh_self, Option.isNone_eq_false_iff]
    exact hcur
  calc d.shCtrlWrite p ch sh v
      _ = if ((d.shDisarmed ch sh v).ch ch).cur.isNone then (d.shDisarmed ch sh v).shTake p ch 3 0 id
          else (d.shDisarmed ch sh v).dmaRefresh ch := by
        simp only [Side.shCtrlWrite, hkept, harm, hdis, hstays, Bool.or_self, Bool.false_and, Bool.not_false, Bool.and_self,
          Bool.false_eq_true, if_false, if_true]
        rfl
      _ = (d.shDisarmed ch sh v).dmaRefresh ch := by rw [hruns, if_neg (by decide)]

/-- The set is out of the order of arming, with its result as it was. -/
theorem Side.shDisarmed_leaves (d : Side) (ch sh v : Nat) :
    ((d.shDisarmed ch sh v).dmaRefresh ch).get (F.DMA_SH_STATE_ARMED ch sh) = 0 ∧
      (((d.shDisarmed ch sh v).dmaRefresh ch).ch ch).armed = (d.ch ch).armed.filter (·.val ≠ sh) ∧
      (((d.shDisarmed ch sh v).dmaRefresh ch).ch ch).cur = (d.ch ch).cur ∧
      ((d.shDisarmed ch sh v).dmaRefresh ch).get (F.DMA_SH_STATE_VALID ch sh) = d.get (F.DMA_SH_STATE_VALID ch sh) ∧
      ((d.shDisarmed ch sh v).dmaRefresh ch).dram = d.dram ∧ ((d.shDisarmed ch sh v).dmaRefresh ch).hif = d.hif := by
  have hapart : 0x100058 + 0x1000 * ch + 0x40 * sh ≠ 0x100004 + 0x1000 * ch := by omega
  have hchan : (d.shDisarmed ch sh v).ch ch = { d.ch ch with armed := (d.ch ch).armed.filter (·.val ≠ sh) } :=
    Side.ch_setCh_self _ ch _
  have harmed : (d.shDisarmed ch sh v).get (F.DMA_SH_STATE_ARMED ch sh) = 0 :=
    Side.get_set_self _ (F.DMA_SH_STATE_ARMED ch sh) 0 (show 8 + 1 ≤ 32 by decide)
  have hvalid : (d.shDisarmed ch sh v).get (F.DMA_SH_STATE_VALID ch sh) = d.get (F.DMA_SH_STATE_VALID ch sh) :=
    (Side.get_set_apart _ 0 (.inr (.inr (show 8 + 1 ≤ 31 by decide))) (show 31 + 1 ≤ 32 by decide)).trans
      (rfGet_put_off d.rf _ _ _ (show 0x100058 + 0x1000 * ch + 0x40 * sh ≠ 0x100054 + 0x1000 * ch + 0x40 * sh by omega))
  rw [Side.ch_dmaRefresh, hchan]
  exact ⟨(Side.get_set_off _ _ hapart).trans harmed, rfl, rfl, (Side.get_set_off _ _ hapart).trans hvalid, rfl, rfl⟩

/-! The commands. -/

theorem exec_shadowArm {ch sh : Nat} {v : Word} {s : State} (hch : ch < 32) (hsh : sh < 2) (harm : bit v.toNat 8 = true)
    (hacc : s.accepts true (0x100054 + 0x1000 * ch + 0x40 * sh) v.toNat) :
    exec (.shadowArm ch sh v) s = .next (s.both (Side.timed fun p d => d.shCtrlWrite p ch sh v.toNat)) := by
  change execShadowArm ch sh v s = _
  rw [execShadowArm, if_pos (by simp [hch, hsh, harm])]
  exact congrArg _ (State.accepts_asWrite hacc _)

theorem exec_shadowDisarm {ch sh : Nat} {v : Word} {s : State} (hch : ch < 32) (hsh : sh < 2) (harm : bit v.toNat 8 = false)
    (hdis : bit v.toNat 9 = true) (hacc : s.accepts true (0x100054 + 0x1000 * ch + 0x40 * sh) v.toNat) :
    exec (.shadowDisarm ch sh v) s = .next (s.both (Side.timed fun p d => d.shCtrlWrite p ch sh v.toNat)) := by
  change execShadowDisarm ch sh v s = _
  rw [execShadowDisarm, if_pos (by simp [hch, hsh, harm, hdis])]
  exact congrArg _ (State.accepts_asWrite hacc _)

end Sys2Proof.Machine
end

section
/-! The statement on shadow sets. -/

namespace Sys2Proof.Proofs
open Sys2Proof Sys2Proof.Machine

/-- Settles O17: the write stores its fields and arms the set, which an idle channel takes at once, or takes it out. That no memory changes
is said of the side's DRAM, as the statement has it. -/
theorem shadowSets : Obligations.ShadowSets := by
  unfold Obligations.ShadowSets
  intro ch sh v s x hch hsh hx hacc
  obtain ⟨h, l, hside⟩ := State.both_timed_of_running hx fun p d => d.shCtrlWrite p ch sh v.toNat
  refine ⟨fun harm hdis hfree hmode hwins => ⟨?waits, ?runs⟩, ?disarm⟩
  case waits =>
    intro hcur
    have harms : (s.side x).armsSet ch sh v.toNat := ⟨harm, hdis, hfree, hmode, hwins⟩
    refine ⟨_, exec_shadowArm hch hsh harm hacc, ?_⟩
    rw [hside, harms.shCtrlWrite_eq, Option.isNone_eq_false_iff.2 hcur, if_neg (by decide)]
    exact (s.side x).shArmed_waits hsh v.toNat
  case runs =>
    intro hidle harmed hon X hX hpass
    have harms : (s.side x).armsSet ch sh v.toNat := ⟨harm, hdis, hfree, hmode, hwins⟩
    refine ⟨_, exec_shadowArm hch hsh harm hacc, ?_⟩
    rw [hside, harms.shCtrlWrite_runs s.pkg hch hsh hidle harmed hon hX hpass]
    exact (s.side x).shArmed_runs ch hsh v.toNat X
  case disarm =>
    intro harm hdis hsame hrun hcur
    refine ⟨_, exec_shadowDisarm hch hsh harm hdis hacc, ?_⟩
    rw [hside, Side.shCtrlWrite_of_disarm s.pkg harm hdis hsame hrun hcur]
    exact (s.side x).shDisarmed_leaves ch sh v.toNat

end Sys2Proof.Proofs
end

section
/-! Numbers read from bytes, 64-bit counts in two registers, registers that an update leaves alone, and the retirements of the Strudel
dispatcher (R7, R158). -/

namespace Sys2Proof.Machine

/-! Little-endian numbers. -/

theorem leNat_lt (l : List Byte) : leNat l < 256 ^ l.length := by
  induction l with
  | nil => exact Nat.one_pos
  | cons b t ih =>
    have hb : b.toNat < 256 := b.isLt
    rw [leNat, List.length_cons, Nat.pow_succ]
    omega

theorem leAt_lt (l : List Byte) (o n : Nat) : leAt l o n < 256 ^ n :=
  lt_of_lt_of_le (leNat_lt _) (Nat.pow_le_pow_right (by decide) (List.length_take_le _ _))

/-! 64-bit values. -/

theorem Side.get64_lt (d : Side) {lo hi : Fld} (hlo : lo.w = 32) (hhi : hi.w = 32) : d.get64 lo hi < 2 ^ 64 := by
  have h0 : d.get lo < 2 ^ lo.w := bits_lt _ _ _
  have h1 : d.get hi < 2 ^ hi.w := bits_lt _ _ _
  rw [hlo] at h0
  rw [hhi] at h1
  rw [Side.get64]
  omega

/-- What is set in a low and a high register that are whole words is read back. -/
theorem Side.get64_set64_self (d : Side) {lo hi : Fld} (v : Nat) (hne : lo.off ≠ hi.off) (hlo : lo.lo = 0 ∧ lo.w = 32)
    (hhi : hi.lo = 0 ∧ hi.w = 32) : (d.set64 lo hi v).get64 lo hi = v % 2 ^ 64 := by
  have h0 : (d.set64 lo hi v).get lo = v % 2 ^ 32 := by
    rw [Side.set64, Side.get_set_off _ _ hne, Side.get_set_self _ _ _ (by omega), hlo.2, Nat.mod_mod]
  have h1 : (d.set64 lo hi v).get hi = v / 2 ^ 32 % 2 ^ 32 := by
    rw [Side.set64, Side.get_set_self _ _ _ (by omega), hhi.2, Nat.mod_mod]
  rw [Side.get64, h0, h1]
  omega

/-! Registers that stay. -/

theorem Side.regsBut.set64 {names : Nat → Prop} {d e : Side} (h : d.regsBut names e) {lo hi : Fld} (v : Nat) (hlo : names lo.off)
    (hhi : names hi.off) : d.regsBut names (e.set64 lo hi v) := (h.set _ hlo).set _ hhi

theorem Side.regsBut.get64 {names : Nat → Prop} {d e : Side} (h : d.regsBut names e) {lo hi : Fld} (hlo : ¬names lo.off)
    (hhi : ¬names hi.off) : e.get64 lo hi = d.get64 lo hi := by
  rw [Side.get64, Side.get64, h.get hlo, h.get hhi]

/-! Retirements. A failure is counted and posted, which touches neither engines nor memories nor submission rings (R158). -/

theorem Side.strErr_of_sound (p : Pkg) {st : Nat} (d : Side) (h : strErrCode st = false) : d.strErr p st = d := by
  rw [Side.strErr, h, if_neg (by decide)]

@[simp] theorem Side.strErr_str (p : Pkg) (st : Nat) (d : Side) : (d.strErr p st).str = d.str := by
  rw [Side.strErr]
  split <;> simp

@[simp] theorem Side.strErr_dram (p : Pkg) (st : Nat) (d : Side) : (d.strErr p st).dram = d.dram := by
  rw [Side.strErr]
  split <;> simp

@[simp] theorem Side.strErr_sqList (p : Pkg) (st n : Nat) (d : Side) : (d.strErr p st).sqList n = d.sqList n := by
  rw [Side.strErr, Side.sqList]
  split
  · rw [Side.fault_hif_sq]
    rfl
  · rfl

theorem Side.strDone_of_sound (p : Pkg) (n : Nat) {r : Res} (d : Side) (h : strErrCode r.status = false) :
    d.strDone p n r = d.startDone n r := Side.strErr_of_sound p _ h

@[simp] theorem Side.strDone_str (p : Pkg) (n : Nat) (r : Res) (d : Side) : (d.strDone p n r).str = d.str := Side.strErr_str p _ _

@[simp] theorem Side.strDone_dram (p : Pkg) (n : Nat) (r : Res) (d : Side) : (d.strDone p n r).dram = d.dram :=
  Side.strErr_dram p _ _

theorem Side.strDone_sqList (p : Pkg) (n : Nat) (r : Res) (d : Side) :
    (d.strDone p n r).sqList n = startFirst (.done r.status r.r0 r.r1) (d.sqList n) :=
  (Side.strErr_sqList p _ n _).trans (d.sqList_startDone n r)

@[simp] theorem Side.strFinish_str (p : Pkg) (n slot : Nat) (r : Res) (d : Side) : (d.strFinish p n slot r).str = d.str :=
  Side.strErr_str p _ _

@[simp] theorem Side.strFinish_dram (p : Pkg) (n slot : Nat) (r : Res) (d : Side) : (d.strFinish p n slot r).dram = d.dram :=
  Side.strErr_dram p _ _

theorem Side.strFinish_sqList (p : Pkg) (n slot : Nat) (r : Res) (d : Side) :
    (d.strFinish p n slot r).sqList n = finishSlot slot r (d.sqList n) :=
  (Side.strErr_sqList p _ n _).trans (d.sqList_finish n slot r)

end Sys2Proof.Machine
end

section
/-! Job slots (R131, R136, R137, R139): what opening, staging and closing leave of a slot. -/

namespace Sys2Proof.Machine

/-! The registers of a slot. -/

/-- The registers that show a slot's state, JOB_ID and STAGED. -/
def slotWords (j o : Nat) : Prop := 0x200100 + 0x20 * j ≤ o ∧ o < 0x200114 + 0x20 * j

/-! Registers of one slot lie as their first ones do. -/

theorem slotOff_le {a b j : Nat} (h : a ≤ b) : a + 0x20 * j ≤ b + 0x20 * j := Nat.add_le_add_right h _

theorem slotOff_not_le {a b j : Nat} (h : b < a) : ¬a + 0x20 * j ≤ b + 0x20 * j := by omega

theorem slotOff_ne {a b j : Nat} (h : a ≠ b) : a + 0x20 * j ≠ b + 0x20 * j := by omega

/-- Side d with slot j's STATE, ENC and PLATES, JOB_ID and STAGED written. -/
def Side.slotWritten (j st enc plates id staged : Nat) (d : Side) : Side :=
  ((((d.set (F.STR_JOB_STATE_STATE j) st).set (F.STR_JOB_STATE_ENC j) enc).set (F.STR_JOB_STATE_PLATES j) plates).set64
    (F.STR_JOB_ID_LO_JOB_ID j) (F.STR_JOB_ID_HI_JOB_ID j) id).set64 (F.STR_JOB_STAGED_LO_STAGED j) (F.STR_JOB_STAGED_HI_STAGED j) staged

/-- Slot j's STATE, ENC and PLATES, JOB_ID and STAGED read so. -/
def Side.slotShows (j st enc plates id staged : Nat) (d : Side) : Prop :=
  d.get (F.STR_JOB_STATE_STATE j) = st ∧ d.get (F.STR_JOB_STATE_ENC j) = enc ∧ d.get (F.STR_JOB_STATE_PLATES j) = plates ∧
    d.jobId j = id ∧ d.staged j = staged

theorem Side.slotWritten_shows (d : Side) (j : Nat) {st enc plates id : Nat} (staged : Nat) (hst : st < 2 ^ 2) (henc : enc < 2 ^ 1)
    (hplates : plates < 2 ^ 16) (hid : id < 2 ^ 64) :
    (d.slotWritten j st enc plates id staged).slotShows j st enc plates id (staged % 2 ^ 64) := by
  have hids : ∀ e : Side, e.regsBut (fun o => 0x200104 + 0x20 * j ≤ o)
      ((e.set64 (F.STR_JOB_ID_LO_JOB_ID j) (F.STR_JOB_ID_HI_JOB_ID j) id).set64
        (F.STR_JOB_STAGED_LO_STAGED j) (F.STR_JOB_STAGED_HI_STAGED j) staged) := fun e =>
    ((Side.regsBut_refl _ e).set64 id (slotOff_le (by decide)) (slotOff_le (by decide))).set64 staged (slotOff_le (by decide))
      (slotOff_le (by decide))
  have hstate : ∀ e : Side, ∀ f : Fld, f.off = 0x200100 + 0x20 * j →
      ((e.set64 (F.STR_JOB_ID_LO_JOB_ID j) (F.STR_JOB_ID_HI_JOB_ID j) id).set64
        (F.STR_JOB_STAGED_LO_STAGED j) (F.STR_JOB_STAGED_HI_STAGED j) staged).get f = e.get f := fun e f hf =>
    (hids e).get (by omega)
  refine ⟨?state, ?enc, ?plates, ?id, ?staged⟩
  case state =>
    rw [Side.slotWritten, hstate _ _ rfl,
      Side.get_set_bits _ _ _ _ (.inl (show 0 + 2 ≤ 16 by decide)) (show 0 + 2 ≤ 32 by decide),
      Side.get_set_bits _ _ _ _ (.inl (show 0 + 2 ≤ 2 by decide)) (show 0 + 2 ≤ 32 by decide),
      Side.get_set_self _ _ _ (show 0 + 2 ≤ 32 by decide)]
    exact Nat.mod_eq_of_lt hst
  case enc =>
    rw [Side.slotWritten, hstate _ _ rfl,
      Side.get_set_bits _ _ _ _ (.inl (show 2 + 1 ≤ 16 by decide)) (show 2 + 1 ≤ 32 by decide),
      Side.get_set_self _ _ _ (show 2 + 1 ≤ 32 by decide)]
    exact Nat.mod_eq_of_lt henc
  case plates =>
    rw [Side.slotWritten, hstate _ _ rfl, Side.get_set_self _ _ _ (show 16 + 16 ≤ 32 by decide)]
    exact Nat.mod_eq_of_lt hplates
  case id =>
    have hstaged : ∀ e : Side, e.regsBut (fun o => 0x20010C + 0x20 * j ≤ o)
        (e.set64 (F.STR_JOB_STAGED_LO_STAGED j) (F.STR_JOB_STAGED_HI_STAGED j) staged) := fun e =>
      (Side.regsBut_refl _ e).set64 staged (slotOff_le (by decide)) (slotOff_le (by decide))
    exact ((hstaged _).get64 (slotOff_not_le (by decide)) (slotOff_not_le (by decide))).trans
      ((Side.get64_set64_self _ _ (slotOff_ne (by decide)) ⟨rfl, rfl⟩ ⟨rfl, rfl⟩).trans (Nat.mod_eq_of_lt hid))
  case staged => exact Side.get64_set64_self _ _ (slotOff_ne (by decide)) ⟨rfl, rfl⟩ ⟨rfl, rfl⟩

theorem Side.slotShows_of_regsBut {d e : Side} {j st enc plates id staged : Nat} (h : d.regsBut (fun o => ¬slotWords j o) e)
    (hd : d.slotShows j st enc plates id staged) : e.slotShows j st enc plates id staged := by
  obtain ⟨hst, henc, hplates, hid, hstaged⟩ := hd
  have hin : ∀ a, 0x200100 ≤ a ∧ a < 0x200114 → ¬¬slotWords j (a + 0x20 * j) := fun a ha => by
    simp only [slotWords]
    omega
  exact ⟨(h.get (hin 0x200100 (by decide))).trans hst, (h.get (hin 0x200100 (by decide))).trans henc,
    (h.get (hin 0x200100 (by decide))).trans hplates,
    (h.get64 (hin 0x200104 (by decide)) (hin 0x200108 (by decide))).trans hid,
    (h.get64 (hin 0x20010C (by decide)) (hin 0x200110 (by decide))).trans hstaged⟩

theorem Side.slotShows.slotOpen {d : Side} {j st enc plates id staged : Nat} (h : d.slotShows j st enc plates id staged) :
    d.slotOpen j = (st == 1) := by
  obtain ⟨hst, -⟩ := h
  rw [Side.slotOpen, hst]

/-! CONSUMED and GUARD. -/

/-- CONSUMED lies behind the slot's other registers that opening writes. -/
theorem Side.regsBut.consumedRefresh {names : Nat → Prop} {d e : Side} (h : d.regsBut names e) (j : Nat)
    (hlo : names (0x200114 + 0x20 * j)) (hhi : names (0x200118 + 0x20 * j)) : d.regsBut names (e.consumedRefresh j) :=
  h.set64 _ hlo hhi

@[simp] theorem Side.consumedRefresh_str (j : Nat) (d : Side) : (d.consumedRefresh j).str = d.str := rfl

@[simp] theorem Side.consumedRefresh_dram (j : Nat) (d : Side) : (d.consumedRefresh j).dram = d.dram := rfl

@[simp] theorem Side.consumedRefresh_hif (j : Nat) (d : Side) : (d.consumedRefresh j).hif = d.hif := rfl

theorem Side.guardRefresh_eq (d : Side) :
    d.guardRefresh = d ∨ d.guardRefresh = d.set F.SEC_STATUS_GUARD 1 ∨ d.guardRefresh = d.set F.SEC_STATUS_CLEARING 1 := by
  unfold Side.guardRefresh
  split
  · exact .inr (.inl rfl)
  split
  · exact .inr (.inr rfl)
  · exact .inl rfl

theorem Side.regsBut.guardRefresh {names : Nat → Prop} {d e : Side} (h : d.regsBut names e) (hsec : names 0x1000000) :
    d.regsBut names e.guardRefresh := by
  rcases e.guardRefresh_eq with heq | heq | heq <;> rw [heq]
  · exact h
  · exact h.set 1 hsec
  · exact h.set 1 hsec

@[simp] theorem Side.guardRefresh_str (d : Side) : d.guardRefresh.str = d.str := by
  rcases d.guardRefresh_eq with heq | heq | heq <;> rw [heq] <;> rfl

@[simp] theorem Side.guardRefresh_dram (d : Side) : d.guardRefresh.dram = d.dram := by
  rcases d.guardRefresh_eq with heq | heq | heq <;> rw [heq] <;> rfl

@[simp] theorem Side.guardRefresh_hif (d : Side) : d.guardRefresh.hif = d.hif := by
  rcases d.guardRefresh_eq with heq | heq | heq <;> rw [heq] <;> rfl

/-- The security block lies behind every slot. -/
theorem not_slotWords_sec {j : Nat} (hj : j < 4) : ¬slotWords j 0x1000000 := by
  unfold slotWords
  omega

theorem not_slotWords_behind {j o : Nat} (h : 0x200114 + 0x20 * j ≤ o) : ¬slotWords j o := fun hw => absurd hw.2 (Nat.not_lt.2 h)

/-! Opening. -/

/-- STAGED of a slot that opens: the first block's offset. -/
def firstOff (rows : List (List Byte)) : Nat := ((rows.map entOf).head?.map (·.off)).getD 0

/-- The job that JOB_OPEN's descriptor b, header h and table rows describe. -/
def jobOf (b h : List Byte) (rows : List (List Byte)) : Job :=
  { base := dFld b 16 8, win := dFld b 24 4, len := leAt h 24 8, ents := rows.map entOf }

/-- Slot j of side d opened with a descriptor, a header and the rows of a table (R136). -/
def Side.jobOpened (j : Nat) (b h : List Byte) (rows : List (List Byte)) (d : Side) : Side :=
  let d1 := (((d.setJob j (jobOf b h rows)).slotWritten j 1 (leAt h 6 2 % 2) (leAt h 20 2) (leAt h 8 8) (firstOff rows)).set
    (F.STR_JOB_LAST_ERR_VALID j) 0).set (F.STR_JOB_LAST_ERR_BLOCK j) 0
  (({ d1 with pln := { d1.pln with stagedAt := tset d1.pln.stagedAt j (firstOff rows) } }).consumedRefresh j).guardRefresh

theorem Side.jobOpen_of_ok {d : Side} {p : Pkg} {n : Nat} {e : Desc} {h : List Byte} {rows : List (List Byte)}
    (he : d.nextStart n 0x30 = some e) (hbad : jobOpenBad e.bytes = none)
    (hok : d.jobOpenCheck p (byteAt e.bytes 4 % 4) e.bytes = .ok (h, rows)) :
    d.jobOpen p n = (d.jobOpened (byteAt e.bytes 4 % 4) e.bytes h rows).startDone n ⟨stSUCCESS, leAt h 16 4, leAt h 20 2⟩ := by
  simp only [Side.jobOpen, he, hbad, hok]
  exact Side.strDone_of_sound p n _ rfl

theorem Side.jobOpen_of_fails {d : Side} {p : Pkg} {n : Nat} {e : Desc} {r : Res} (he : d.nextStart n 0x30 = some e)
    (hr : (∃ o, jobOpenBad e.bytes = some o ∧ r = badField o) ∨
      (jobOpenBad e.bytes = none ∧ d.jobOpenCheck p (byteAt e.bytes 4 % 4) e.bytes = .error r)) :
    d.jobOpen p n = d.strDone p n r := by
  rcases hr with ⟨o, hbad, rfl⟩ | ⟨hbad, herr⟩
  · simp only [Side.jobOpen, he, hbad]
  · simp only [Side.jobOpen, he, hbad, herr]

theorem Side.jobOpened_shows (d : Side) {j : Nat} (hj : j < 4) (b h : List Byte) (rows : List (List Byte)) :
    (d.jobOpened j b h rows).slotShows j 1 (leAt h 6 2 % 2) (leAt h 20 2) (leAt h 8 8) (firstOff rows % 2 ^ 64) := by
  have hwritten := (d.setJob j (jobOf b h rows)).slotWritten_shows j (firstOff rows) (show 1 < 2 ^ 2 by decide)
    (Nat.mod_lt (leAt h 6 2) (show 0 < 2 ^ 1 by decide)) (leAt_lt h 20 2) (leAt_lt h 8 8)
  refine Side.slotShows_of_regsBut ?_ hwritten
  refine Side.regsBut.guardRefresh (Side.regsBut.consumedRefresh ?_ j (not_slotWords_behind (slotOff_le (by decide)))
    (not_slotWords_behind (slotOff_le (by decide)))) (not_slotWords_sec hj)
  have herr : ¬slotWords j (0x20011C + 0x20 * j) := not_slotWords_behind (slotOff_le (by decide))
  exact ((Side.regsBut_refl _ _).set (f := F.STR_JOB_LAST_ERR_VALID j) 0 herr).set (f := F.STR_JOB_LAST_ERR_BLOCK j) 0 herr

theorem Side.jobOpened_job (d : Side) (j : Nat) (b h : List Byte) (rows : List (List Byte)) :
    (d.jobOpened j b h rows).job j = jobOf b h rows := by
  rw [Side.job, Side.jobOpened, Side.guardRefresh_str, Side.consumedRefresh_str]
  exact tget_tset_self _ _ _ _

theorem Side.jobOpened_dram (d : Side) (j : Nat) (b h : List Byte) (rows : List (List Byte)) :
    (d.jobOpened j b h rows).dram = d.dram := by
  rw [Side.jobOpened, Side.guardRefresh_dram]
  rfl

theorem Side.jobOpened_sqList (d : Side) (j : Nat) (b h : List Byte) (rows : List (List Byte)) (n : Nat) :
    (d.jobOpened j b h rows).sqList n = d.sqList n := by
  rw [Side.sqList, Side.jobOpened, Side.guardRefresh_hif]
  rfl

/-! Staging. -/

theorem Side.jobStaged_of_ok {d : Side} {p : Pkg} {n : Nat} {e : Desc} (he : d.nextStart n 0x31 = some e) (hj : byteAt e.bytes 4 < 4)
    (hrsv : rsvCheck e.bytes [(5, 3), (16, 48)] = none) (hopen : d.slotOpen (byteAt e.bytes 4) = true)
    (hmin : d.staged (byteAt e.bytes 4) ≤ dFld e.bytes 8 8) (hlen : dFld e.bytes 8 8 ≤ (d.job (byteAt e.bytes 4)).len)
    (hwin : dFld e.bytes 8 8 ≤ d.consumed (byteAt e.bytes 4) + (d.job (byteAt e.bytes 4)).win) :
    d.jobStaged p n = (d.set64 (F.STR_JOB_STAGED_LO_STAGED (byteAt e.bytes 4)) (F.STR_JOB_STAGED_HI_STAGED (byteAt e.bytes 4))
      (dFld e.bytes 8 8)).startDone n ⟨stSUCCESS, d.consumed (byteAt e.bytes 4), 0⟩ := by
  have hdiv : ¬byteAt e.bytes 4 / 4 ≠ 0 := by omega
  simp only [Side.jobStaged, he, hdiv, if_false, hrsv, Nat.mod_eq_of_lt hj, hopen, Bool.not_true, Bool.false_eq_true,
    Nat.not_lt.2 hmin, Nat.not_lt.2 hlen, Nat.not_lt.2 hwin]
  exact Side.strDone_of_sound p n _ rfl

theorem Side.jobStaged_of_closed {d : Side} {p : Pkg} {n : Nat} {e : Desc} (he : d.nextStart n 0x31 = some e)
    (hj : byteAt e.bytes 4 < 4) (hrsv : rsvCheck e.bytes [(5, 3), (16, 48)] = none) (hopen : d.slotOpen (byteAt e.bytes 4) = false) :
    d.jobStaged p n = d.startDone n ⟨stREFUSED, 0, 1⟩ := by
  have hdiv : ¬byteAt e.bytes 4 / 4 ≠ 0 := by omega
  simp only [Side.jobStaged, he, hdiv, if_false, hrsv, Nat.mod_eq_of_lt hj, hopen, Bool.not_false, if_true]
  exact Side.strDone_of_sound p n d rfl

/-! Closing. -/

theorem Side.jobClose_of_open {d : Side} {p : Pkg} {n : Nat} {e : Desc} (he : d.nextStart n 0x32 = some e) (hj : byteAt e.bytes 4 < 4)
    (hrsv : firstNonZero e.bytes 5 59 = none) (hfree : d.slotInUse (byteAt e.bytes 4) = false)
    (hopen : d.slotOpen (byteAt e.bytes 4) = true) :
    d.jobClose p n = (d.slotClose (byteAt e.bytes 4)).startDone n ⟨stSUCCESS, 0, 0⟩ := by
  have hdiv : ¬byteAt e.bytes 4 / 4 ≠ 0 := by omega
  simp only [Side.jobClose, he, hdiv, if_false, hrsv, Nat.mod_eq_of_lt hj, hfree, hopen, Bool.false_eq_true, if_true]
  exact Side.strDone_of_sound p n _ rfl

theorem Side.slotClose_shows (d : Side) {j : Nat} (hj : j < 4) : (d.slotClose j).slotShows j 0 0 0 0 0 := by
  have hwritten := d.slotWritten_shows j 0 (show 0 < 2 ^ 2 by decide) (show 0 < 2 ^ 1 by decide) (show 0 < 2 ^ 16 by decide)
    (show 0 < 2 ^ 64 by decide)
  refine Side.slotShows_of_regsBut (Side.regsBut.guardRefresh ?_ (not_slotWords_sec hj)) hwritten
  exact (Side.regsBut_refl _ _).set64 (lo := F.STR_JOB_CONSUMED_LO_CONSUMED j) (hi := F.STR_JOB_CONSUMED_HI_CONSUMED j) 0
    (not_slotWords_behind (slotOff_le (by decide))) (not_slotWords_behind (slotOff_le (by decide)))

theorem Side.slotClose_job (d : Side) (j : Nat) : (d.slotClose j).job j = {} := by
  rw [Side.job, Side.slotClose, Side.guardRefresh_str]
  exact tget_tset_self _ _ _ _

theorem Side.slotClose_dram (d : Side) (j : Nat) : (d.slotClose j).dram = d.dram := by
  rw [Side.slotClose, Side.guardRefresh_dram]
  rfl

theorem Side.slotClose_sqList (d : Side) (j n : Nat) : (d.slotClose j).sqList n = d.sqList n := by
  rw [Side.sqList, Side.slotClose, Side.guardRefresh_hif]
  rfl

/-! The commands. -/

theorem exec_jobOpen {n : Nat} (h : n < 64) (s : State) : exec (.jobOpen n) s = .next (s.both fun p d => d.jobOpen p n) := if_pos h

theorem exec_jobStaged {n : Nat} (h : n < 64) (s : State) : exec (.jobStaged n) s = .next (s.both fun p d => d.jobStaged p n) :=
  if_pos h

theorem exec_jobClose {n : Nat} (h : n < 64) (s : State) : exec (.jobClose n) s = .next (s.both fun p d => d.jobClose p n) := if_pos h

end Sys2Proof.Machine
end

section
/-! The statement on job slots. -/

namespace Sys2Proof.Proofs
open Sys2Proof Sys2Proof.Machine

/-- Settles O18: on the running side each command is its slot's own operation and a retirement, and what follows the writes of the slot's
registers (LAST_ERR, CONSUMED, GUARD) leaves them alone. -/
theorem jobsOpenStageAndClose : Obligations.JobsOpenStageAndClose := by
  unfold Obligations.JobsOpenStageAndClose
  intro n s x e hn hx
  refine ⟨fun he => ⟨?opens, ?fails⟩, fun he hj hrsv => ⟨?staged, ?closed⟩, ?closes⟩
  case opens =>
    intro h rows hbad hok
    have hj : byteAt e.bytes 4 % 4 < 4 := Nat.mod_lt _ (by decide)
    obtain ⟨l, hside⟩ := State.both_of_running hx fun p d => d.jobOpen p n
    rw [Side.jobOpen_of_ok he hbad hok] at hside
    have hshows := (s.side x).jobOpened_shows hj e.bytes h rows
    have hopen := hshows.slotOpen
    obtain ⟨-, henc, hplates, hid, hstaged⟩ := hshows
    refine ⟨_, exec_jobOpen hn s, ?_⟩
    rw [hside]
    refine ⟨?_, hopen, hid, henc, hplates, hstaged, Side.jobOpened_job _ _ _ h rows, Side.jobOpened_dram _ _ _ h rows⟩
    exact (Side.sqList_startDone _ n _).trans (congrArg (startFirst _) (Side.jobOpened_sqList _ _ _ h rows n))
  case fails =>
    intro r hr
    obtain ⟨l, hside⟩ := State.both_of_running hx fun p d => d.jobOpen p n
    refine ⟨_, exec_jobOpen hn s, ?_⟩
    rw [hside, Side.jobOpen_of_fails he hr]
    exact ⟨Side.strDone_sqList _ n r _, Side.strDone_str _ n r _, Side.strDone_dram _ n r _⟩
  case staged =>
    intro hopen hmin hlen hwin
    obtain ⟨l, hside⟩ := State.both_of_running hx fun p d => d.jobStaged p n
    have hfit : dFld e.bytes 8 8 < 2 ^ 64 := leAt_lt _ _ _
    refine ⟨_, exec_jobStaged hn s, ?_⟩
    rw [hside, Side.jobStaged_of_ok he hj hrsv hopen hmin hlen hwin]
    refine ⟨Side.sqList_startDone _ n _, ?_, rfl, ?_⟩
    · exact (Side.get64_set64_self _ _ (slotOff_ne (by decide)) ⟨rfl, rfl⟩ ⟨rfl, rfl⟩).trans (Nat.mod_eq_of_lt hfit)
    · exact (Side.regsBut_refl _ _).set64 _ (.inl rfl) (.inr rfl)
  case closed =>
    intro hopen
    obtain ⟨l, hside⟩ := State.both_of_running hx fun p d => d.jobStaged p n
    refine ⟨_, exec_jobStaged hn s, ?_⟩
    rw [hside, Side.jobStaged_of_closed he hj hrsv hopen]
    exact ⟨Side.sqList_startDone _ n _, rfl, rfl⟩
  case closes =>
    intro he hj hrsv hfree hopen
    obtain ⟨l, hside⟩ := State.both_of_running hx fun p d => d.jobClose p n
    rw [Side.jobClose_of_open he hj hrsv hfree hopen] at hside
    have hshows := (s.side x).slotClose_shows hj
    have hclosed := hshows.slotOpen
    obtain ⟨-, -, -, hid, hstaged⟩ := hshows
    refine ⟨_, exec_jobClose hn s, ?_⟩
    rw [hside]
    refine ⟨?_, hclosed, Side.slotClose_job _ _, hid, hstaged, Side.slotClose_dram _ _⟩
    exact (Side.sqList_startDone _ n _).trans (congrArg (startFirst _) (Side.slotClose_sqList _ _ n))

end Sys2Proof.Proofs
end

section
/-! Requests of the Strudel dispatcher start, are refused and finish on DRAM (R140, R145 to R152). -/

namespace Sys2Proof.Machine

/-! Engines and contexts. -/

@[simp] theorem Side.decWork_setDec_self (d : Side) (e : Nat) (w : Work) : (d.setDec e w).decWork e = w := tget_tset_self _ _ _ _

@[simp] theorem Side.cmpWork_setCmp_self (d : Side) (e : Nat) (w : Work) : (d.setCmp e w).cmpWork e = w := tget_tset_self _ _ _ _

@[simp] theorem Side.ctxOf_setCtx_self (d : Side) (c : Nat) (x : Option Ctx) : (d.setCtx c x).ctxOf c = x := tget_tset_self _ _ _ _

/-! A decompression starts on its engine, or is refused. -/

theorem Side.startDec_of_passes {d : Side} {p : Pkg} {op n g : Nat} {e : Desc} (he : d.nextStart n op = some e)
    (hon : d.groupOn 1 = true) (hctx : d.ctxRunning (reqCtx e.bytes) = false)
    (hcheck : (if op = 0x34 then d.decCheck p e.bytes else d.contCheck p e.bytes) = none) (hroom : d.reqRoom = true)
    (hfeed : d.feedPick = none) (hg : d.freeDec = some g) :
    d.startDec p op n = (d.startRun n).setDec g (.req n e.slot) := by
  simp [Side.startDec, he, hon, hctx, hcheck, hg, hroom, hfeed]

theorem Side.startDec_of_fails {d : Side} {p : Pkg} {op n : Nat} {e : Desc} {r : Res} (he : d.nextStart n op = some e)
    (hon : d.groupOn 1 = true) (hctx : d.ctxRunning (reqCtx e.bytes) = false)
    (hcheck : (if op = 0x34 then d.decCheck p e.bytes else d.contCheck p e.bytes) = some r) :
    d.startDec p op n = d.strDone p n r := by
  simp [Side.startDec, he, hon, hctx, hcheck]

/-! A compression starts on its engine, or is refused. -/

theorem Side.startCmp_of_passes {d : Side} {p : Pkg} {n g : Nat} {e : Desc} (he : d.nextStart n 0x38 = some e)
    (hon : d.groupOn 2 = true) (hcheck : d.cmpCheck p e.bytes = none) (hwaits : d.chunkWaits = false) (hg : d.freeCmp = some g) :
    d.startCmp p n = (d.startRun n).setCmp g (.req n e.slot) := by
  simp [Side.startCmp, he, hon, hcheck, hwaits, hg]

theorem Side.startCmp_of_fails {d : Side} {p : Pkg} {n : Nat} {e : Desc} {r : Res} (he : d.nextStart n 0x38 = some e)
    (hon : d.groupOn 2 = true) (hcheck : d.cmpCheck p e.bytes = some r) : d.startCmp p n = d.strDone p n r := by
  simp [Side.startCmp, he, hon, hcheck]

/-! A context is dropped, or is not there. -/

theorem Side.ctxDrop_eq {d : Side} {p : Pkg} {n : Nat} {e : Desc} (he : d.nextStart n 0x36 = some e)
    (hctx : d.ctxRunning (reqCtx e.bytes) = false) (hword : dFld e.bytes 4 4 = 2 ^ 8 * reqCtx e.bytes)
    (hrsv : firstNonZero e.bytes 8 56 = none) : d.ctxDrop p n =
      if (d.ctxOf (reqCtx e.bytes)).isSome then (d.setCtx (reqCtx e.bytes) none).startDone n ⟨stSUCCESS, 0, 0⟩
      else d.strDone p n ⟨stSTR_CONTEXT, 0, reqCtx e.bytes⟩ := by
  have hfield : ¬dFld e.bytes 4 4 - 2 ^ 8 * reqCtx e.bytes ≠ 0 := by omega
  simp only [Side.ctxDrop, he, hctx, hfield, hrsv, Bool.false_eq_true, if_false]
  cases d.ctxOf (reqCtx e.bytes) with
  | none => rfl
  | some c => exact Side.strDone_of_sound p n _ rfl

/-! The engine that runs a request is freed. -/

theorem Side.foldl_strRf_eq {f : Side → Nat → Side} (hf : ∀ d e, ∃ w t, f d e = { d with rf := w, str := t }) (l : List Nat) (d : Side) :
    ∃ w t, l.foldl f d = { d with rf := w, str := t } := by
  refine List.foldlRecOn l f (motive := fun e : Side => ∃ w t, e = { d with rf := w, str := t }) ⟨d.rf, d.str, rfl⟩ fun e he k _ => ?_
  obtain ⟨w, t, rfl⟩ := he
  obtain ⟨w', t', heq⟩ := hf { d with rf := w, str := t } k
  exact ⟨w', t', heq⟩

/-- A request that leaves its engine changes ENG_BUSY and the dispatcher's own state alone. -/
theorem Side.reqFree_eq (n slot : Nat) (d : Side) : ∃ w t, d.reqFree n slot = { d with rf := w, str := t } := by
  obtain ⟨w, t, hdec⟩ := Side.foldl_strRf_eq (f := fun d e => if d.decWork e = .req n slot then d.setDec e .idle else d)
    (fun d e => by
      split
      · exact ⟨_, _, rfl⟩
      · exact ⟨d.rf, d.str, rfl⟩) (List.range 8) d
  obtain ⟨w', t', hcmp⟩ := Side.foldl_strRf_eq (f := fun d e => if d.cmpWork e = .req n slot then d.setCmp e .idle else d)
    (fun d e => by
      split
      · exact ⟨_, _, rfl⟩
      · exact ⟨d.rf, d.str, rfl⟩) (List.range 2) { d with rf := w, str := t }
  exact ⟨w', t', by rw [Side.reqFree, hdec]; exact hcmp⟩

/-! A request between two ranges of DRAM. -/

/-- Descriptor e of the request in a slot of ring n runs on an engine of side d, and names DRAM for source and destination. -/
structure Side.runsOnDram (d : Side) (n : Nat) (e : Desc) : Prop where
  found : (d.sqList n).find? (fun y => y.slot == e.slot && y.st == .running) = some e
  runs : d.reqRuns n e.slot = true
  src : bits (dFld e.bytes 4 4) 0 2 = 1
  dst : bits (dFld e.bytes 4 4) 2 2 = 1

/-- It waits for no Bus Master Enable and finishes with its opcode's own work. -/
theorem Side.runsOnDram.requestDone_dec {d : Side} {n : Nat} {e : Desc} (h : d.runsOnDram n e) (p : Pkg)
    (hop : dOpcode e.bytes = 0x34) : d.requestDone p n e.slot none = (d.reqFree n e.slot).decFinish p n e := by
  have hhost : d.reqHost e = false := by simp [Side.reqHost, h.src, h.dst, hop]
  simp [Side.requestDone, h.found, h.runs, hhost, hop]

theorem Side.runsOnDram.requestDone_cmp {d : Side} {n : Nat} {e : Desc} (h : d.runsOnDram n e) (p : Pkg)
    (hop : dOpcode e.bytes = 0x38) : d.requestDone p n e.slot none = (d.reqFree n e.slot).cmpFinish p n e := by
  have hhost : d.reqHost e = false := by simp [Side.reqHost, h.src, h.dst, hop]
  simp [Side.requestDone, h.found, h.runs, hhost, hop]

/-! A compression ends (R152, R153). -/

theorem Side.spaceWrite_sqList (p : Pkg) (d : Side) (fn : Fn) (space a : Nat) (l : List Byte) (n : Nat) :
    (d.spaceWrite p fn space a l).sqList n = d.sqList n := by
  obtain ⟨o, m, w, heq⟩ := Side.spaceWrite_eq p d fn space a l
  rw [heq]
  rfl

theorem Side.cmpFinish_of_block {d : Side} {p : Pkg} {n : Nat} {e : Desc} {l t : List Byte}
    (hsrc : bits (dFld e.bytes 4 4) 0 2 = 1) (hdst : bits (dFld e.bytes 4 4) 2 2 = 1)
    (hecc : d.eccIn false (dFld e.bytes 8 8) (dFld e.bytes 24 4) = none)
    (hl : l = memRead d.dram (dFld e.bytes 8 8) (dFld e.bytes 24 4)) (ht : compressPayload l (dFld e.bytes 28 2) = some t) :
    (d.cmpFinish p n e).dram = memWrite d.dram (dFld e.bytes 16 8) (mkBlock 0 l (dFld e.bytes 28 2) t) ∧
      (d.cmpFinish p n e).sqList n = finishSlot e.slot ⟨stSUCCESS, 20 + t.length, crc32c l⟩ (d.sqList n) := by
  have hread : d.spaceRead p 1 (dFld e.bytes 8 8) (dFld e.bytes 24 4) = l := hl.symm
  have heq : d.cmpFinish p n e =
      (d.spaceWrite p (ringFnNum n) 1 (dFld e.bytes 16 8) (mkBlock 0 l (dFld e.bytes 28 2) t)).strFinish p n e.slot
        ⟨stSUCCESS, 20 + t.length, crc32c l⟩ := by
    simp only [Side.cmpFinish, hsrc, hdst, hecc, hread, ht, if_true]
  rw [heq, Side.strFinish_dram, Side.spaceWrite_dram, if_pos rfl, Side.strFinish_sqList, Side.spaceWrite_sqList]
  exact ⟨rfl, rfl⟩

theorem Side.cmpFinish_of_noGain {d : Side} {p : Pkg} {n : Nat} {e : Desc} {l : List Byte}
    (hsrc : bits (dFld e.bytes 4 4) 0 2 = 1) (hecc : d.eccIn false (dFld e.bytes 8 8) (dFld e.bytes 24 4) = none)
    (hl : l = memRead d.dram (dFld e.bytes 8 8) (dFld e.bytes 24 4)) (ht : compressPayload l (dFld e.bytes 28 2) = none) :
    (d.cmpFinish p n e).sqList n = finishSlot e.slot ⟨stSTR_NO_GAIN, 0, crc32c l⟩ (d.sqList n) := by
  have hread : d.spaceRead p 1 (dFld e.bytes 8 8) (dFld e.bytes 24 4) = l := hl.symm
  obtain ⟨junk, heq⟩ : ∃ junk, d.cmpFinish p n e =
      (d.spaceWrite p (ringFnNum n) (bits (dFld e.bytes 4 4) 2 2) (dFld e.bytes 16 8) junk).strFinish p n e.slot
        ⟨stSTR_NO_GAIN, 0, crc32c l⟩ := by
    simp only [Side.cmpFinish, hsrc, hecc, hread, ht, if_true]
    exact ⟨_, rfl⟩
  rw [heq, Side.strFinish_sqList, Side.spaceWrite_sqList]

/-! A decompression ends (R146, R147). -/

/-- A block whose whole output fits its space is written, its context is free, and it retires with its CRC. -/
theorem Side.deliverOut_of_whole {d : Side} {p : Pkg} {n : Nat} {e : Desc} {c : Ctx} {o : List Byte}
    (hdst : bits (dFld e.bytes 4 4) 2 2 = 1) (hnew : c.out = []) (hulen : hULen c.blk ≤ dFld e.bytes 28 4)
    (hlen : o.length ≤ dFld e.bytes 28 4) (hcrc : leAt c.blk (16 + hCLen c.blk) 4 = crc32c o) :
    d.deliverOut p n e c ⟨o, none⟩ =
      (((d.dramWrite (dFld e.bytes 16 8) o).setCtx (reqCtx e.bytes) none).blockCount).strFinish p n e.slot
        ⟨stSUCCESS, o.length, crc32c o⟩ := by
  have hfits : ¬dFld e.bytes 28 4 < hULen c.blk := Nat.not_lt.2 hulen
  have hpart : o.take (dFld e.bytes 28 4) = o := List.take_of_length_le hlen
  simp [Side.deliverOut, hdst, hnew, hfits, hpart, hcrc, Side.spaceWrite]

/-- From d to e, the DECOMPRESS in a slot of ring n has written output o and retires. -/
def Side.decompressed (d : Side) (n : Nat) (x : Desc) (o : List Byte) (e : Side) : Prop :=
  e.dram = memWrite d.dram (dFld x.bytes 16 8) o ∧ e.ctxOf (reqCtx x.bytes) = none ∧
    e.sqList n = finishSlot x.slot ⟨stSUCCESS, o.length, crc32c o⟩ (d.sqList n)

theorem Side.decFinish_of_valid {d : Side} {p : Pkg} {n : Nat} {e : Desc} {h b o : List Byte}
    (hsrc : bits (dFld e.bytes 4 4) 0 2 = 1) (hdst : bits (dFld e.bytes 4 4) 2 2 = 1) (hh : h = memRead d.dram (dFld e.bytes 8 8) 16)
    (heccH : d.eccIn false (dFld e.bytes 8 8) 16 = none) (hgood : headerCheck h = none) (hsize : hSize h ≤ dFld e.bytes 24 4)
    (hclear : hEnc h = false) (hecc : d.eccIn false (dFld e.bytes 8 8) (hSize h) = none)
    (hb : b = memRead d.dram (dFld e.bytes 8 8) (hSize h)) (hulen : hULen b ≤ dFld e.bytes 28 4)
    (hdec : payloadDecode h ((b.drop 16).take (hCLen h)) = ⟨o, none⟩) (hlen : o.length ≤ dFld e.bytes 28 4)
    (hcrc : leAt b (16 + hCLen b) 4 = crc32c o) : d.decompressed n e o (d.decFinish p n e) := by
  have heq : d.decFinish p n e = d.deliverOut p n e ⟨ringFnNum n, 1, dFld e.bytes 8 8, dFld e.bytes 24 4, b, []⟩ ⟨o, none⟩ := by
    have hread : d.spaceRead p 1 (dFld e.bytes 8 8) 16 = h := hh.symm
    have hblk : d.spaceRead p 1 (dFld e.bytes 8 8) (hSize h) = b := hb.symm
    simp only [Side.decFinish, hsrc, if_true, heccH, hread, hgood, Nat.not_lt.2 hsize, if_false, hclear, Bool.false_eq_true, hecc,
      hblk, hdec]
  rw [heq, Side.deliverOut_of_whole hdst rfl hulen hlen hcrc]
  refine ⟨Side.strFinish_dram p n _ _ _, ?ctx, Side.strFinish_sqList p n _ _ _⟩
  case ctx =>
    rw [Side.ctxOf, Side.strFinish_str]
    exact Side.ctxOf_setCtx_self _ _ _

/-! The commands. -/

theorem exec_startDec {c : Instr} {op n : Nat} (hc : c = .decompress n ∧ op = 0x34 ∨ c = .decompressContinue n ∧ op = 0x35)
    (hn : n < 64) (s : State) : exec c s = .next (s.both (Side.timed fun p d => d.startDec p op n)) := by
  rcases hc with ⟨rfl, rfl⟩ | ⟨rfl, rfl⟩
  · exact if_pos hn
  · exact if_pos hn

theorem exec_contextDrop {n : Nat} (hn : n < 64) (s : State) : exec (.contextDrop n) s = .next (s.both fun p d => d.ctxDrop p n) :=
  if_pos hn

theorem exec_compress {n : Nat} (hn : n < 64) (s : State) :
    exec (.compress n) s = .next (s.both (Side.timed fun p d => d.startCmp p n)) := if_pos hn

theorem exec_strudelRequestDone {n : Nat} (hn : n < 64) (slot : Nat) (herr : Option Nat) (s : State) :
    exec (.strudelRequestDone n slot herr) s = .next (s.both (Side.timed fun p d => d.requestDone p n slot herr)) := if_pos hn

end Sys2Proof.Machine
end

section
/-! The statement on the requests of the Strudel dispatcher. -/

namespace Sys2Proof.Proofs
open Sys2Proof Sys2Proof.Machine

/-- Settles O19: each command's branch on the running side is named by its checks; what finishes a request works on the side whose
engine is freed, of which DRAM, its stored errors and the rings are as before. The lowest free engine (`freeDec`, `freeCmp`) is the
model's choice of log entry 15, and a command that waits for its context is log entry 16. -/
theorem requestsStartAndFinish : Obligations.RequestsStartAndFinish := by
  unfold Obligations.RequestsStartAndFinish
  intro n s x e hn hx
  refine ⟨fun c op hc he hon hctx => ⟨?decStarts, ?decFails⟩, fun he hon => ⟨?cmpStarts, ?cmpFails⟩,
    fun he hctx hword hrsv => ⟨?dropped, ?noContext⟩, fun hfound hruns hsrc hdst => ?finish⟩
  case decStarts =>
    intro hcheck hroom hfeed g hg
    obtain ⟨h, l, hside⟩ := State.both_timed_of_running hx fun p d => d.startDec p op n
    refine ⟨_, exec_startDec hc hn s, ?_⟩
    rw [hside, Side.startDec_of_passes he hon hctx hcheck hroom hfeed hg]
    exact ⟨Side.decWork_setDec_self _ g _, Side.sqList_startRun _ n, rfl⟩
  case decFails =>
    intro r hcheck
    obtain ⟨h, l, hside⟩ := State.both_timed_of_running hx fun p d => d.startDec p op n
    refine ⟨_, exec_startDec hc hn s, ?_⟩
    rw [hside, Side.startDec_of_fails he hon hctx hcheck]
    exact ⟨Side.strDone_sqList _ n r _, Side.strDone_str _ n r _, Side.strDone_dram _ n r _⟩
  case cmpStarts =>
    intro hcheck hwaits g hg
    obtain ⟨h, l, hside⟩ := State.both_timed_of_running hx fun p d => d.startCmp p n
    refine ⟨_, exec_compress hn s, ?_⟩
    rw [hside, Side.startCmp_of_passes he hon hcheck hwaits hg]
    exact ⟨Side.cmpWork_setCmp_self _ g _, Side.sqList_startRun _ n, rfl⟩
  case cmpFails =>
    intro r hcheck
    obtain ⟨h, l, hside⟩ := State.both_timed_of_running hx fun p d => d.startCmp p n
    refine ⟨_, exec_compress hn s, ?_⟩
    rw [hside, Side.startCmp_of_fails he hon hcheck]
    exact ⟨Side.strDone_sqList _ n r _, Side.strDone_str _ n r _, Side.strDone_dram _ n r _⟩
  case dropped =>
    intro hsome
    obtain ⟨l, hside⟩ := State.both_of_running hx fun p d => d.ctxDrop p n
    refine ⟨_, exec_contextDrop hn s, ?_⟩
    rw [hside, Side.ctxDrop_eq he hctx hword hrsv, if_pos hsome]
    exact ⟨Side.ctxOf_setCtx_self _ _ _, Side.sqList_startDone _ n _⟩
  case noContext =>
    intro hnone
    obtain ⟨l, hside⟩ := State.both_of_running hx fun p d => d.ctxDrop p n
    refine ⟨_, exec_contextDrop hn s, ?_⟩
    rw [hside, Side.ctxDrop_eq he hctx hword hrsv, hnone, if_neg (by decide)]
    exact ⟨Side.strDone_str _ n _ _, Side.strDone_sqList _ n _ _⟩
  case finish =>
    have hdram : (s.side x).runsOnDram n e := ⟨hfound, hruns, hsrc, hdst⟩
    obtain ⟨h, l, hside⟩ := State.both_timed_of_running hx fun p d => d.requestDone p n e.slot none
    obtain ⟨w, t, hfree⟩ := Side.reqFree_eq n e.slot (s.side x)
    constructor
    · intro input hop hecc hinput
      refine ⟨_, exec_strudelRequestDone hn e.slot none s, ?_⟩
      rw [hside, hdram.requestDone_cmp s.pkg hop, hfree]
      exact ⟨fun payload hpay => Side.cmpFinish_of_block hsrc hdst hecc hinput hpay,
        fun hnone => Side.cmpFinish_of_noGain hsrc hecc hinput hnone⟩
    · intro hd b o hop hh heccH hgood hsize hclear hecc hb hulen hdec hlen hcrc
      refine ⟨_, exec_strudelRequestDone hn e.slot none s, ?_⟩
      rw [hside, hdram.requestDone_dec s.pkg hop, hfree]
      exact Side.decFinish_of_valid hsrc hdst hh heccH hgood hsize hclear hecc hb hulen hdec hlen hcrc

end Sys2Proof.Proofs
end

section
/-! The plate feed (R138, R140, R141, R183): a block taken by an engine, decoded, or failed. -/

namespace Sys2Proof.Machine

/-! Entries and buffers. -/

theorem Side.setEnt_ents (j idx : Nat) (st : EntSt) (d : Side) :
    ((d.setEnt j idx st).job j).ents = (d.job j).ents.modify idx fun e => { e with st := st } :=
  congrArg Job.ents (tget_tset_self _ _ _ _)

@[simp] theorem Side.buf_setBuf_self (d : Side) (c : Nat) (l : List Piece) : (d.setBuf c l).buf c = l := tget_tset_self _ _ _ _

/-! A block that fails (R141, R155, R183). -/

/-- The Strudel block's registers (R59). -/
def strRegs (o : Nat) : Prop := 0x200000 ≤ o ∧ o < 0x300000

theorem offPost_of_strRegs {o : Nat} (h : strRegs o) : offPost o := by
  unfold strRegs at h
  unfold offPost
  omega

@[simp] theorem Side.blockErr_str (p : Pkg) (j idx st : Nat) (d : Side) : (d.blockErr p j idx st).str = d.str := by
  simp [Side.blockErr]

/-- A failed block is the one that LAST_ERR of its slot names. -/
theorem Side.blockErr_lastErr (p : Pkg) (j : Nat) {idx : Nat} (st : Nat) (d : Side) (hidx : idx < 2 ^ 31) :
    (d.blockErr p j idx st).get (F.STR_JOB_LAST_ERR_BLOCK j) = idx ∧ (d.blockErr p j idx st).get (F.STR_JOB_LAST_ERR_VALID j) = 1 := by
  constructor
  · rw [Side.blockErr, Side.get_set_bits _ _ _ _ (.inl (show 0 + 31 ≤ 31 by decide)) (show 0 + 31 ≤ 32 by decide),
      Side.get_set_self _ _ _ (show 0 + 31 ≤ 32 by decide)]
    exact Nat.mod_eq_of_lt hidx
  · exact Side.get_set_self _ _ 1 (show 31 + 1 ≤ 32 by decide)

theorem Side.spoilCause_str (d : Side) (p : Pkg) (r reason : Nat) : (d.spoilCause p r reason).str = d.str := by
  unfold Side.spoilCause Side.causeEntry
  split
  · rfl
  split
  · exact Side.faultD_str _ _ _ _ _ _
  · rfl

/-- A spoil cause shows in the planner's registers and what a posting changes, not in the Strudel block's. -/
theorem Side.spoilCause_get (d : Side) (p : Pkg) (r reason : Nat) {g : Fld} (hg : strRegs g.off) :
    (d.spoilCause p r reason).get g = d.get g := by
  have hne : g.off ≠ F.PLN_STATUS_SPOIL_SEEN.off := Nat.ne_of_lt hg.2
  unfold Side.spoilCause Side.causeEntry
  split
  · rfl
  split
  · exact Side.get_of_word g (Side.faultD_word_ne _ _ _ _ _ _ _ (by decide) (offPost_of_strRegs hg) hne)
  · rfl

/-- Block idx of job slot j fails with a status: its entry shows it, LAST_ERR names it, and a cause is posted for record r. -/
def Side.feedFailed (p : Pkg) (j idx st r reason : Nat) (d : Side) : Side :=
  ((d.setEnt j idx .failed).blockErr p j idx st).spoilCause p r reason

theorem Side.feedFailed_str (p : Pkg) (j idx st r reason : Nat) (d : Side) :
    (d.feedFailed p j idx st r reason).str = (d.setEnt j idx .failed).str := by
  rw [Side.feedFailed, Side.spoilCause_str, Side.blockErr_str]

/-- Of the dispatcher's state the entry alone changes. -/
theorem Side.feedFailed_bufs (p : Pkg) (j idx st r reason : Nat) (d : Side) :
    (d.feedFailed p j idx st r reason).str.bufs = d.str.bufs := by
  rw [Side.feedFailed_str]
  rfl

theorem Side.feedFailed_dec (p : Pkg) (j idx st r reason : Nat) (d : Side) :
    (d.feedFailed p j idx st r reason).str.dec = d.str.dec := by
  rw [Side.feedFailed_str]
  rfl

theorem Side.feedFailed_ents (p : Pkg) (j idx st r reason : Nat) (d : Side) :
    ((d.feedFailed p j idx st r reason).job j).ents = (d.job j).ents.modify idx fun e => { e with st := .failed } := by
  rw [Side.job, Side.feedFailed_str]
  exact d.setEnt_ents j idx .failed

theorem Side.feedFailed_lastErr (p : Pkg) {j idx : Nat} (st r reason : Nat) (d : Side) (hj : j < 4) (hidx : idx < 2 ^ 31) :
    (d.feedFailed p j idx st r reason).get (F.STR_JOB_LAST_ERR_BLOCK j) = idx ∧
      (d.feedFailed p j idx st r reason).get (F.STR_JOB_LAST_ERR_VALID j) = 1 := by
  have hreg : strRegs (0x20011C + 0x20 * j) := by
    unfold strRegs
    omega
  obtain ⟨hblock, hvalid⟩ := Side.blockErr_lastErr p j st (d.setEnt j idx .failed) hidx
  exact ⟨(Side.spoilCause_get _ p r reason hreg).trans hblock, (Side.spoilCause_get _ p r reason hreg).trans hvalid⟩

/-! BLOCK_ASSIGN. -/

/-- The key that a block of job slot j with header h is assigned with: the job's where the job or the block is encrypted. -/
def Side.feedKey (d : Side) (j : Nat) (h : List Byte) : Except Nat Nat :=
  if d.flag (F.STR_JOB_STATE_ENC j) || hEnc h then d.jobKey (d.jobId j) else .ok 0

theorem Side.feedKey_of_ok {d : Side} {j k : Nat} {h : List Byte}
    (hk : k = 0 ∧ d.flag (F.STR_JOB_STATE_ENC j) = false ∧ hEnc h = false ∨
      (d.flag (F.STR_JOB_STATE_ENC j) = true ∨ hEnc h = true) ∧ d.jobKey (d.jobId j) = .ok k) : d.feedKey j h = .ok k := by
  rcases hk with ⟨rfl, hjob, hblk⟩ | ⟨henc, hkey⟩
  · simp [Side.feedKey, hjob, hblk]
  · rw [Side.feedKey, if_pos (by simpa using henc), hkey]

theorem Side.feedKey_of_error {d : Side} {j why : Nat} {h : List Byte}
    (henc : d.flag (F.STR_JOB_STATE_ENC j) = true ∨ hEnc h = true) (hkey : d.jobKey (d.jobId j) = .error why) :
    d.feedKey j h = .error why := by
  rw [Side.feedKey, if_pos (by simpa using henc), hkey]

section
variable {d : Side} {eng r idx : Nat} {e : Ent} {h : List Byte}

theorem Side.blockAssign_of_key (p : Pkg) {k : Nat} (hon : d.groupOn 1 = true) (heng : d.freeDec = some eng)
    (hpick : d.feedPick = some (r, idx, e)) (hh : h = d.winRead (d.job (d.recSlot r)) e.off 16)
    (hk : d.feedKey (d.recSlot r) h = .ok k) : Side.blockAssign p d =
      ((d.setEnt (d.recSlot r) idx .onEngine).setDec eng (.feed (d.recSlot r) idx r k)).setBuf e.chan
        (d.buf e.chan ++ [⟨r, idx, hULen h, none⟩]) := by
  subst hh
  rw [Side.feedKey] at hk
  simp only [Side.blockAssign, hon, Bool.not_true, Bool.false_eq_true, if_false, heng, hpick, hk]
  rfl

theorem Side.blockAssign_of_no_key (p : Pkg) {why : Nat} (hon : d.groupOn 1 = true) (heng : d.freeDec = some eng)
    (hpick : d.feedPick = some (r, idx, e)) (hh : h = d.winRead (d.job (d.recSlot r)) e.off 16)
    (hk : d.feedKey (d.recSlot r) h = .error why) : Side.blockAssign p d = d.feedFailed p (d.recSlot r) idx stSECURITY r 4 := by
  subst hh
  rw [Side.feedKey] at hk
  simp only [Side.blockAssign, hon, Bool.not_true, Bool.false_eq_true, if_false, heng, hpick, hk, Side.feedFailed]

end

/-! BLOCK_DECODED. -/

/-- A buffer once the output of block idx of record r is in its place. -/
def piecesFilled (r idx : Nat) (out : List Byte) (l : List Piece) : List Piece :=
  l.map fun y => if y.pl = r && y.idx = idx then { y with ulen := out.length, data := some out } else y

section
variable {d : Side} {eng j idx r k : Nat} {e : Ent}

theorem Side.blockDecoded_of_ok (p : Pkg) {out : List Byte} (hwork : d.decWork eng = .feed j idx r k)
    (he : e = (d.job j).ents.getD idx default) (hout : d.blockDecode j idx e (.ok k) = .ok out) : d.blockDecoded p eng =
      (((((d.setDec eng .idle).blockCount).setBuf e.chan (piecesFilled r idx out (d.buf e.chan))).setEnt j idx
        (if d.recRunning r then .consumed else .decoded)).consumedRefresh j) := by
  subst he
  simp only [Side.blockDecoded, hwork, hout]
  rfl

theorem Side.blockDecoded_of_error (p : Pkg) {st r1 : Nat} (hwork : d.decWork eng = .feed j idx r k)
    (he : e = (d.job j).ents.getD idx default) (herr : d.blockDecode j idx e (.ok k) = .error (st, r1)) :
    d.blockDecoded p eng = (d.setDec eng .idle).feedFailed p j idx st r 3 := by
  subst he
  simp only [Side.blockDecoded, hwork, herr, Side.feedFailed]

end

/-! The commands. -/

theorem exec_blockAssign (s : State) : exec .blockAssign s = .next (s.both (Side.timed Side.blockAssign)) := rfl

theorem exec_blockDecoded {eng : Nat} (h : eng < 8) (s : State) :
    exec (.blockDecoded eng) s = .next (s.both (Side.timed fun p d => d.blockDecoded p eng)) := if_pos h

end Sys2Proof.Machine
end

section
/-! The statement on the plate feed. -/

namespace Sys2Proof.Proofs
open Sys2Proof Sys2Proof.Machine

/-- Settles O20: the block that is picked goes to the engine and its buffer or fails for want of its key, and the block on an engine
gives its output or fails; both failures are one operation. That the engine is the lowest free one (`freeDec`) is the model's choice of
log entry 15. -/
theorem plateFeedBlocks : Obligations.PlateFeedBlocks := by
  unfold Obligations.PlateFeedBlocks
  intro s x hx
  refine ⟨fun eng r idx e h hon heng hpick hh => ⟨?assigned, ?noKey⟩, fun eng j idx r k e heng hwork he => ⟨?decoded, ?failed⟩⟩
  case assigned =>
    intro k hk
    obtain ⟨q, l, hside⟩ := State.both_timed_of_running hx Side.blockAssign
    refine ⟨_, exec_blockAssign s, ?_⟩
    rw [hside, Side.blockAssign_of_key s.pkg hon heng hpick hh (Side.feedKey_of_ok hk)]
    exact ⟨Side.decWork_setDec_self _ eng _, Side.buf_setBuf_self _ _ _, Side.setEnt_ents _ idx .onEngine _, rfl⟩
  case noKey =>
    intro why henc hidx hslot hkey
    obtain ⟨q, l, hside⟩ := State.both_timed_of_running hx Side.blockAssign
    rw [Side.blockAssign_of_no_key s.pkg hon heng hpick hh (Side.feedKey_of_error henc hkey)] at hside
    refine ⟨_, exec_blockAssign s, ?_⟩
    rw [hside]
    exact ⟨Side.feedFailed_ents _ _ idx _ r 4 _, Side.feedFailed_bufs _ _ idx _ r 4 _,
      Side.feedFailed_dec _ _ idx _ r 4 _, Side.feedFailed_lastErr _ _ r 4 _ hslot hidx⟩
  case decoded =>
    intro out hout
    obtain ⟨q, l, hside⟩ := State.both_timed_of_running hx fun p d => d.blockDecoded p eng
    refine ⟨_, exec_blockDecoded heng s, ?_⟩
    rw [hside, Side.blockDecoded_of_ok s.pkg hwork he hout]
    exact ⟨Side.decWork_setDec_self _ eng _, Side.buf_setBuf_self _ _ _, Side.setEnt_ents _ idx _ _⟩
  case failed =>
    intro st r1 hj hidx herr
    obtain ⟨q, l, hside⟩ := State.both_timed_of_running hx fun p d => d.blockDecoded p eng
    rw [Side.blockDecoded_of_error s.pkg hwork he herr] at hside
    refine ⟨_, exec_blockDecoded heng s, ?_⟩
    rw [hside]
    have hidle := congrArg (tget .idle · eng) (Side.feedFailed_dec s.pkg j idx st r 3 ((s.side x).setDec eng .idle))
    exact ⟨hidle.trans (Side.decWork_setDec_self _ eng _), Side.feedFailed_bufs _ _ idx _ r 3 _,
      Side.feedFailed_ents _ _ idx _ r 3 _, Side.feedFailed_lastErr _ _ r 3 _ hj hidx⟩

end Sys2Proof.Proofs
end

section
/-! Telemetry chunks (R120, R130, R298, R299): closed, encoded, written to the window, and the host's count of what it has read. -/

namespace Sys2Proof.Machine

/-! The telemetry block's flags. -/

theorem srcAbsent_mpl (b : Bool) : srcAbsent b 0x150 = false := by cases b <;> decide

/-- A flag of MPL_STATUS that is posted reads 1. -/
theorem Side.mplFault_flag (d : Side) (p : Pkg) {f : Fld} (hoff : f.off = 0x880000) (hw : f.w = 1) (hlo : f.lo < 32) :
    (d.fault p 0x150 f).get f = 1 := by
  have hpost : offPost f.off := by
    rw [hoff]
    unfold offPost
    omega
  exact d.fault_flag p 0x150 f (by decide) hpost (srcAbsent_mpl _) hw hlo

/-- The registers of the telemetry window and its counts. -/
def telRegs (o : Nat) : Prop := 0x880024 ≤ o ∧ o ≤ 0x880040

theorem offPost_of_telRegs {o : Nat} (h : telRegs o) : offPost o := by
  unfold telRegs at h
  unfold offPost
  omega

/-- Posting such a flag leaves them alone. -/
theorem Side.mplFault_regsBut (d : Side) (p : Pkg) {f : Fld} (hoff : f.off = 0x880000) :
    d.regsBut (fun o => ¬telRegs o) (d.fault p 0x150 f) := fun o ho => by
  have htel : telRegs o := not_not.1 ho
  refine d.fault_word_ne p 0x150 f o (by decide) (offPost_of_telRegs htel) fun he => ?_
  rw [he, hoff] at htel
  exact absurd htel.1 (by decide)

/-! CHUNK_TIMEOUT. -/

/-- Side d with its telemetry chunks replaced. -/
def Side.withChunks (d : Side) (l : List Chunk) : Side := { d with mpl := { d.mpl with chunks := l } }

theorem Side.chunkTimeout_of_due {d : Side} {p : Pkg} {k : Nat} {y : Chunk} (hy : d.mpl.chunks[k]? = some y) (hopen : y.closed = false)
    (hdue : reached (d.dev p) (y.at_ + 10000000) = true) :
    d.chunkTimeout p k = d.withChunks (d.mpl.chunks.set k { y with closed := true }) := by
  simp only [Side.chunkTimeout, hy, hopen, hdue, Bool.not_true, Bool.or_self, Bool.false_eq_true, if_false]
  rfl

theorem Side.chunkTimeout_of_not_due {d : Side} {p : Pkg} {k : Nat} {y : Chunk} (hy : d.mpl.chunks[k]? = some y)
    (h : y.closed = true ∨ reached (d.dev p) (y.at_ + 10000000) = false) : d.chunkTimeout p k = d := by
  have hcond : (y.closed || !reached (d.dev p) (y.at_ + 10000000)) = true := by simpa using h
  simp only [Side.chunkTimeout, hy, hcond, if_true]

/-! TELEMETRY_ENCODE. -/

/-- Chunk y at place k is the oldest closed one that is not encoded, and compress engine e is free for it. -/
structure Side.encodes (d : Side) (e k : Nat) (y : Chunk) : Prop where
  on : d.groupOn 2 = true
  idle : d.cmpWork e = .idle
  oldest : d.mpl.chunks.findIdx? (fun z => z.closed && z.block.isNone) = some k
  chunk : y = d.mpl.chunks.getD k default

section
variable {d : Side} {e k : Nat} {y : Chunk}

theorem Side.encodes.telEncode_clear (h : d.encodes e k y) (p : Pkg) (henc : y.enc = false) : d.telEncode p e =
    d.chunkBlock k y (mkBlock (chunkClear y).1 y.recs.flatten (chunkClear y).2.1 (chunkClear y).2.2) := by
  obtain ⟨hon, hidle, hk, rfl⟩ := h
  simp only [Side.telEncode, hk, hon, hidle, henc, Bool.not_true, Bool.not_false, bne_self_eq_false, Bool.or_self, Bool.false_eq_true,
    if_false, if_true]

theorem Side.encodes.telEncode_no_key (h : d.encodes e k y) (p : Pkg) (henc : y.enc = true) (hkey : d.telKey y.job = none) :
    d.telEncode p e = ((d.chunkDrop k).inc F.MPL_TEL_LOST_COUNT y.recs.length).fault p 0x150 F.MPL_STATUS_TEL_KEY := by
  obtain ⟨hon, hidle, hk, rfl⟩ := h
  simp only [Side.telEncode, hk, hon, hidle, henc, hkey, Bool.not_true, bne_self_eq_false, Bool.or_self, Bool.false_eq_true, if_false]

theorem Side.encodes.telEncode_exhausted (h : d.encodes e k y) (p : Pkg) {key : Nat} (henc : y.enc = true)
    (hkey : d.telKey y.job = some key) (hidx : 0xFFFFFFFF < tget 0x80000000 d.mpl.ivs y.job) :
    d.telEncode p e = (d.telStop y.job).fault p 0x150 F.MPL_STATUS_TEL_EXHAUSTED := by
  obtain ⟨hon, hidle, hk, rfl⟩ := h
  simp only [Side.telEncode, hk, hon, hidle, henc, hkey, hidx, Bool.not_true, bne_self_eq_false, Bool.or_self, Bool.false_eq_true,
    if_false, if_true]

/-- Side d with the next block index of a job. -/
def Side.withIv (d : Side) (job idx : Nat) : Side := { d with mpl := { d.mpl with ivs := tset d.mpl.ivs job idx } }

theorem Side.encodes.telEncode_sealed (h : d.encodes e k y) (p : Pkg) {key idx : Nat} (henc : y.enc = true)
    (hkey : d.telKey y.job = some key) (hiv : idx = tget 0x80000000 d.mpl.ivs y.job) (hidx : idx ≤ 0xFFFFFFFF) :
    d.telEncode p e = (d.withIv y.job (idx + 1)).chunkBlock k y (chunkSealed key idx y) := by
  obtain ⟨hon, hidle, hk, rfl⟩ := h
  subst hiv
  have hleft := Nat.not_lt.2 hidx
  simp only [Side.telEncode, hk, hon, hidle, henc, hkey, hleft, Bool.not_true, bne_self_eq_false, Bool.or_self, Bool.false_eq_true,
    if_false]
  rfl

end

/-- A chunk lost for want of its key: its records count, and TEL_KEY is set (R298). -/
theorem Side.telLost_reads (d : Side) (p : Pkg) (k n : Nat) :
    (((d.chunkDrop k).inc F.MPL_TEL_LOST_COUNT n).fault p 0x150 F.MPL_STATUS_TEL_KEY).get F.MPL_TEL_LOST_COUNT =
      (d.get F.MPL_TEL_LOST_COUNT + n) % 2 ^ 32 := by
  rw [(Side.mplFault_regsBut _ p rfl).get (g := F.MPL_TEL_LOST_COUNT) (not_not_intro (by simp only [telRegs, F.MPL_TEL_LOST_COUNT]; omega))]
  exact Side.get_set_self _ _ _ (show 0 + 32 ≤ 32 by decide)

/-! TELEMETRY_BLOCK_WRITE. -/

/-- Bytes that enter the window change DRAM and its stored errors alone, as the DRAM was. -/
theorem Side.winWrite_eq (base size : Nat) (l : List Byte) : ∀ (w : Nat) (d : Side),
    ∃ q, Side.winWrite base size w l d = { d with dram := (Side.winWrite base size w l d).dram, eccBad := q } := by
  induction l with
  | nil => exact fun _ d => ⟨d.eccBad, rfl⟩
  | cons b t ih =>
    intro w d
    obtain ⟨q, hq⟩ := ih (w + 1) (d.dramWrite (base + w % size) [b])
    exact ⟨q, hq⟩

theorem Side.winWrite_dram_congr (base size : Nat) (l : List Byte) : ∀ (w : Nat) {d e : Side}, e.dram = d.dram →
    (Side.winWrite base size w l e).dram = (Side.winWrite base size w l d).dram := by
  induction l with
  | nil => exact fun _ _ _ h => h
  | cons b t ih => exact fun w d e h => ih (w + 1) (congrArg (memWrite · (base + w % size) [b]) h)

/-- The bytes that a telemetry block takes of the window: its length, padded to 16 (R299). -/
def padded (b : List Byte) : Nat := 16 * ceilDiv b.length 16

/-- Side d once block b of the chunk at place k is in the window. -/
def Side.telWritten (p : Pkg) (k : Nat) (b : List Byte) (d : Side) : Side :=
  ((Side.winWrite (d.get64 F.MPL_TEL_BASE_LO_BASE F.MPL_TEL_BASE_HI_BASE) (d.get F.MPL_TEL_SIZE_SIZE)
    (d.get64 F.MPL_TEL_WR_LO_COUNT F.MPL_TEL_WR_HI_COUNT) b (d.chunkDrop k)).set64 F.MPL_TEL_WR_LO_COUNT F.MPL_TEL_WR_HI_COUNT
      (d.get64 F.MPL_TEL_WR_LO_COUNT F.MPL_TEL_WR_HI_COUNT + padded b)).notice p 0x150 8 (padded b)
        (d.get64 F.MPL_TEL_WR_LO_COUNT F.MPL_TEL_WR_HI_COUNT)

/-- The bytes of the window that are not read yet once n more are written. -/
def Side.telHeld (d : Side) (n : Nat) : Nat :=
  d.get64 F.MPL_TEL_WR_LO_COUNT F.MPL_TEL_WR_HI_COUNT + n - d.get64 F.MPL_TEL_RD_LO_COUNT F.MPL_TEL_RD_HI_COUNT

theorem Side.telWrite_eq {d : Side} {p : Pkg} {k : Nat} {b : List Byte} (hk : d.mpl.chunks.findIdx? (fun y => y.block.isSome) = some k)
    (hb : b = ((d.mpl.chunks.getD k default).block).getD []) : d.telWrite p =
      if d.get F.MPL_TEL_SIZE_SIZE = 0 || d.get F.MPL_TEL_SIZE_SIZE < d.telHeld (padded b) then d else d.telWritten p k b := by
  subst hb
  simp only [Side.telWrite, hk]
  rfl

theorem Side.telWrite_of_full {d : Side} {p : Pkg} {k : Nat} {b : List Byte}
    (hk : d.mpl.chunks.findIdx? (fun y => y.block.isSome) = some k) (hb : b = ((d.mpl.chunks.getD k default).block).getD [])
    (hfull : d.get F.MPL_TEL_SIZE_SIZE = 0 ∨ d.get F.MPL_TEL_SIZE_SIZE < d.telHeld (padded b)) : d.telWrite p = d :=
  (Side.telWrite_eq hk hb).trans (if_pos (by simpa only [Bool.or_eq_true, decide_eq_true_eq] using hfull))

theorem Side.telWrite_of_room {d : Side} {p : Pkg} {k : Nat} {b : List Byte}
    (hk : d.mpl.chunks.findIdx? (fun y => y.block.isSome) = some k) (hb : b = ((d.mpl.chunks.getD k default).block).getD [])
    (hsome : d.get F.MPL_TEL_SIZE_SIZE ≠ 0) (hroom : d.telHeld (padded b) ≤ d.get F.MPL_TEL_SIZE_SIZE) :
    d.telWrite p = d.telWritten p k b :=
  (Side.telWrite_eq hk hb).trans
    (if_neg (by simpa only [Bool.or_eq_true, decide_eq_true_eq] using not_or.2 ⟨hsome, Nat.not_lt.2 hroom⟩))

theorem Side.telWritten_chunks (d : Side) (p : Pkg) (k : Nat) (b : List Byte) :
    (d.telWritten p k b).mpl.chunks = d.mpl.chunks.eraseIdx k := by
  obtain ⟨q, hq⟩ := Side.winWrite_eq (d.get64 F.MPL_TEL_BASE_LO_BASE F.MPL_TEL_BASE_HI_BASE) (d.get F.MPL_TEL_SIZE_SIZE) b
    (d.get64 F.MPL_TEL_WR_LO_COUNT F.MPL_TEL_WR_HI_COUNT) (d.chunkDrop k)
  rw [Side.telWritten, Side.notice_mpl, Side.set64_mpl, hq]
  rfl

theorem Side.telWritten_dram (d : Side) (p : Pkg) (k : Nat) (b : List Byte) : (d.telWritten p k b).dram =
    (Side.winWrite (d.get64 F.MPL_TEL_BASE_LO_BASE F.MPL_TEL_BASE_HI_BASE) (d.get F.MPL_TEL_SIZE_SIZE)
      (d.get64 F.MPL_TEL_WR_LO_COUNT F.MPL_TEL_WR_HI_COUNT) b d).dram := by
  rw [Side.telWritten, Side.notice_dram, Side.set64_dram]
  exact Side.winWrite_dram_congr _ _ b _ rfl

theorem Side.telWritten_wr (d : Side) (p : Pkg) (k : Nat) (b : List Byte) :
    (d.telWritten p k b).get64 F.MPL_TEL_WR_LO_COUNT F.MPL_TEL_WR_HI_COUNT =
      (d.get64 F.MPL_TEL_WR_LO_COUNT F.MPL_TEL_WR_HI_COUNT + padded b) % 2 ^ 64 := by
  have hpost : ∀ e : Side, e.regsBut (fun o => ¬telRegs o)
      (e.notice p 0x150 8 (padded b) (d.get64 F.MPL_TEL_WR_LO_COUNT F.MPL_TEL_WR_HI_COUNT)) := fun e o ho =>
    e.notice_word p _ _ _ _ o (by decide) (offPost_of_telRegs (not_not.1 ho))
  have hlo : ¬¬telRegs F.MPL_TEL_WR_LO_COUNT.off := not_not_intro ⟨by decide, by decide⟩
  have hhi : ¬¬telRegs F.MPL_TEL_WR_HI_COUNT.off := not_not_intro ⟨by decide, by decide⟩
  exact ((hpost _).get64 hlo hhi).trans (Side.get64_set64_self _ _ (by decide) ⟨rfl, rfl⟩ ⟨rfl, rfl⟩)

/-! TEL_RD_WRITE. -/

/-- RD once one of its halves is written. -/
def Side.rdNew (d : Side) (hi : Bool) (v : Nat) : Nat :=
  if hi then d.get64 F.MPL_TEL_RD_LO_COUNT F.MPL_TEL_RD_HI_COUNT % 2 ^ 32 + 2 ^ 32 * v
  else d.get64 F.MPL_TEL_RD_LO_COUNT F.MPL_TEL_RD_HI_COUNT / 2 ^ 32 * 2 ^ 32 + v

theorem Side.telRdWrite_eq (d : Side) (p : Pkg) (hi : Bool) (v : Nat) : d.telRdWrite p hi v =
    if d.rdNew hi v < d.get64 F.MPL_TEL_RD_LO_COUNT F.MPL_TEL_RD_HI_COUNT ||
        d.get64 F.MPL_TEL_WR_LO_COUNT F.MPL_TEL_WR_HI_COUNT < d.rdNew hi v then d.fault p 0x150 F.MPL_STATUS_WINDOW_VIOL
    else d.set64 F.MPL_TEL_RD_LO_COUNT F.MPL_TEL_RD_HI_COUNT (d.rdNew hi v) := rfl

theorem Side.telRdWrite_of_bad {d : Side} (p : Pkg) {hi : Bool} {v : Nat}
    (h : d.rdNew hi v < d.get64 F.MPL_TEL_RD_LO_COUNT F.MPL_TEL_RD_HI_COUNT ∨
      d.get64 F.MPL_TEL_WR_LO_COUNT F.MPL_TEL_WR_HI_COUNT < d.rdNew hi v) :
    d.telRdWrite p hi v = d.fault p 0x150 F.MPL_STATUS_WINDOW_VIOL :=
  (d.telRdWrite_eq p hi v).trans (if_pos (by simpa only [Bool.or_eq_true, decide_eq_true_eq] using h))

theorem Side.telRdWrite_of_between {d : Side} (p : Pkg) {hi : Bool} {v : Nat}
    (hmin : d.get64 F.MPL_TEL_RD_LO_COUNT F.MPL_TEL_RD_HI_COUNT ≤ d.rdNew hi v)
    (hmax : d.rdNew hi v ≤ d.get64 F.MPL_TEL_WR_LO_COUNT F.MPL_TEL_WR_HI_COUNT) :
    d.telRdWrite p hi v = d.set64 F.MPL_TEL_RD_LO_COUNT F.MPL_TEL_RD_HI_COUNT (d.rdNew hi v) :=
  (d.telRdWrite_eq p hi v).trans
    (if_neg (by simpa only [Bool.or_eq_true, decide_eq_true_eq] using not_or.2 ⟨Nat.not_lt.2 hmin, Nat.not_lt.2 hmax⟩))

/-- A value up to WR is taken whole: WR has 64 bits. -/
theorem Side.rdSet_reads {d : Side} {v : Nat} (hwr : v ≤ d.get64 F.MPL_TEL_WR_LO_COUNT F.MPL_TEL_WR_HI_COUNT) :
    (d.set64 F.MPL_TEL_RD_LO_COUNT F.MPL_TEL_RD_HI_COUNT v).get64 F.MPL_TEL_RD_LO_COUNT F.MPL_TEL_RD_HI_COUNT = v :=
  (Side.get64_set64_self d v (by decide) ⟨rfl, rfl⟩ ⟨rfl, rfl⟩).trans (Nat.mod_eq_of_lt (lt_of_le_of_lt hwr (d.get64_lt rfl rfl)))

theorem Side.rdRefused_reads (d : Side) (p : Pkg) :
    (d.fault p 0x150 F.MPL_STATUS_WINDOW_VIOL).get64 F.MPL_TEL_RD_LO_COUNT F.MPL_TEL_RD_HI_COUNT =
      d.get64 F.MPL_TEL_RD_LO_COUNT F.MPL_TEL_RD_HI_COUNT ∧
    (d.fault p 0x150 F.MPL_STATUS_WINDOW_VIOL).get F.MPL_STATUS_WINDOW_VIOL = 1 :=
  ⟨(d.mplFault_regsBut p rfl).get64 (not_not_intro ⟨by decide, by decide⟩) (not_not_intro ⟨by decide, by decide⟩),
    d.mplFault_flag p rfl rfl (by decide)⟩

/-! The commands. -/

theorem exec_chunkTimeout (k a : Nat) (s : State) : exec (.chunkTimeout k a) s = .next ((s.advance a).both fun p d => d.chunkTimeout p k) :=
  rfl

theorem exec_telemetryEncode {e : Nat} (he : e < 2) (s : State) :
    exec (.telemetryEncode e) s = .next (s.both fun p d => d.telEncode p e) := if_pos he

theorem exec_telemetryBlockWrite (s : State) : exec .telemetryBlockWrite s = .next (s.both Side.telWrite) := rfl

theorem exec_telRdWrite {hi : Bool} {v : Word} {s : State} (hacc : s.accepts true (if hi then 0x88003C else 0x880038) v.toNat) :
    exec (.telRdWrite hi v) s = .next (s.both fun p d => d.telRdWrite p hi v.toNat) :=
  congrArg _ (State.accepts_asWrite hacc _)

end Sys2Proof.Machine
end

section
/-! The statement on telemetry chunks. -/

namespace Sys2Proof.Proofs
open Sys2Proof Sys2Proof.Machine

/-- Settles O32: each command's branch on the running side is named by its conditions; what follows, a posting, touches neither the
chunks nor the window's counts. That the block is written without its pad bytes while WR moves by the padded length is log entry 114. -/
theorem telemetryChunks : Obligations.TelemetryChunks := by
  unfold Obligations.TelemetryChunks
  intro s x d hx hd
  subst hd
  refine ⟨fun k a y hy => ⟨?closes, ?staysOpen⟩,
    fun e k y he hon hidle hk hy => ⟨?clear, ?noKey, fun key idx henc hkey hiv => ⟨?exhausted, ?sealed⟩⟩,
    fun k b n size wr rd hk hb hn hsize hwr hrd => ⟨?waits, ?written⟩, fun hi v o rd new ho hacc hrd hnew => ⟨?taken, ?refused⟩⟩
  case closes =>
    intro hopen hdue
    obtain ⟨l, hside⟩ := State.both_advance_of_running hx a fun p d => d.chunkTimeout p k
    refine ⟨_, exec_chunkTimeout k a s, ?_⟩
    rw [hside, Side.chunkTimeout_of_due hy hopen hdue]
    rfl
  case staysOpen =>
    intro hnot
    obtain ⟨l, hside⟩ := State.both_advance_of_running hx a fun p d => d.chunkTimeout p k
    refine ⟨_, exec_chunkTimeout k a s, ?_⟩
    rw [hside, Side.chunkTimeout_of_not_due hy hnot]
  case clear =>
    intro henc
    obtain ⟨l, hside⟩ := State.both_of_running hx fun p d => d.telEncode p e
    have hencodes : (s.side x).encodes e k y := ⟨hon, hidle, hk, hy⟩
    refine ⟨_, exec_telemetryEncode he s, ?_⟩
    rw [hside, hencodes.telEncode_clear s.pkg henc]
    rfl
  case noKey =>
    intro henc hkey
    obtain ⟨l, hside⟩ := State.both_of_running hx fun p d => d.telEncode p e
    have hencodes : (s.side x).encodes e k y := ⟨hon, hidle, hk, hy⟩
    refine ⟨_, exec_telemetryEncode he s, ?_⟩
    rw [hside, hencodes.telEncode_no_key s.pkg henc hkey]
    exact ⟨congrArg Mpl.chunks (Side.fault_mpl _ s.pkg _ _), Side.telLost_reads _ s.pkg k _, Side.mplFault_flag _ s.pkg rfl rfl (by decide)⟩
  case exhausted =>
    intro hidx
    obtain ⟨l, hside⟩ := State.both_of_running hx fun p d => d.telEncode p e
    have hencodes : (s.side x).encodes e k y := ⟨hon, hidle, hk, hy⟩
    refine ⟨_, exec_telemetryEncode he s, ?_⟩
    rw [hside, hencodes.telEncode_exhausted s.pkg henc hkey (hiv ▸ hidx)]
    have hmpl := Side.fault_mpl ((s.side x).telStop y.job) s.pkg 0x150 F.MPL_STATUS_TEL_EXHAUSTED
    refine ⟨?_, congrArg Mpl.chunks hmpl, Side.mplFault_flag _ s.pkg rfl rfl (by decide)⟩
    exact (congrArg Mpl.stopped hmpl).symm ▸ List.mem_append_right _ (List.mem_singleton_self _)
  case sealed =>
    intro hidx
    obtain ⟨l, hside⟩ := State.both_of_running hx fun p d => d.telEncode p e
    have hencodes : (s.side x).encodes e k y := ⟨hon, hidle, hk, hy⟩
    refine ⟨_, exec_telemetryEncode he s, ?_⟩
    rw [hside, hencodes.telEncode_sealed s.pkg henc hkey hiv hidx]
    exact ⟨rfl, tget_tset_self _ _ _ _⟩
  case waits =>
    intro hfull
    subst hn hsize hwr hrd
    obtain ⟨l, hside⟩ := State.both_of_running hx Side.telWrite
    refine ⟨_, exec_telemetryBlockWrite s, ?_⟩
    rw [hside, Side.telWrite_of_full hk hb hfull]
    exact ⟨rfl, rfl, rfl⟩
  case written =>
    intro hsome hroom
    subst hn hsize hwr hrd
    obtain ⟨l, hside⟩ := State.both_of_running hx Side.telWrite
    refine ⟨_, exec_telemetryBlockWrite s, ?_⟩
    rw [hside, Side.telWrite_of_room hk hb hsome hroom]
    exact ⟨Side.telWritten_chunks _ s.pkg k b, Side.telWritten_dram _ s.pkg k b, Side.telWritten_wr _ s.pkg k b⟩
  case taken =>
    intro hmin hmax
    subst ho hrd hnew
    obtain ⟨l, hside⟩ := State.both_of_running hx fun p d => d.telRdWrite p hi v.toNat
    refine ⟨_, exec_telRdWrite hacc, ?_⟩
    rw [hside, Side.telRdWrite_of_between s.pkg hmin hmax]
    exact Side.rdSet_reads hmax
  case refused =>
    intro hbad
    subst ho hrd hnew
    obtain ⟨l, hside⟩ := State.both_of_running hx fun p d => d.telRdWrite p hi v.toNat
    refine ⟨_, exec_telRdWrite hacc, ?_⟩
    rw [hside, Side.telRdWrite_of_bad s.pkg hbad]
    exact Side.rdRefused_reads _ s.pkg

end Sys2Proof.Proofs
end

section
/-! Plate records under the planner's operations (R161, R166, R167, R174): the registers that show the records, what leaves them alone,
and what the work behind a record's state leaves of a side. -/

namespace Sys2Proof.Machine

/-! What a step of both sides leaves. The operation's result has a name of its own, so that a fact about it is read off the state after
the step without the operation being computed. -/

theorem State.both_result {s : State} {x : SideId} (h : s.pkg.hold.running x = true) (f : Pkg → Side → Side) :
    ∃ d l, d = f s.pkg (s.side x) ∧ (s.both f).side x = { d with out := l } := by
  obtain ⟨l, hside⟩ := State.both_of_running h f
  exact ⟨_, l, rfl, hside⟩

theorem State.both_advance_result {s : State} {x : SideId} (h : s.pkg.hold.running x = true) (k : Nat) (f : Pkg → Side → Side) :
    ∃ d l, d = f (s.pkg.advance k) (s.side x) ∧ ((s.advance k).both f).side x = { d with out := l } := by
  obtain ⟨l, hside⟩ := State.both_advance_of_running h k f
  exact ⟨_, l, rfl, hside⟩

/-! The registers of the records. -/

/-- The registers of the four plate records. -/
def recWords (o : Nat) : Prop := 0x300100 ≤ o ∧ o < 0x300180

theorem recWords_of_lt {a r : Nat} (ha : 0x300100 ≤ a ∧ a < 0x300120) (hr : r < 4) : recWords (a + 0x20 * r) := by
  unfold recWords
  omega

theorem not_recWords_below {o : Nat} (h : o < 0x300100) : ¬recWords o := fun hw => absurd hw.1 (Nat.not_le.2 h)

theorem not_recWords_behind {o : Nat} (h : 0x300180 ≤ o) : ¬recWords o := fun hw => absurd hw.2 (Nat.not_lt.2 h)

theorem offPost_of_recWords {o : Nat} (h : recWords o) : offPost o := by
  unfold recWords at h
  unfold offPost
  omega

/-- From d to e, the records' registers keep their words. -/
def Side.recsKept (d e : Side) : Prop := d.regsBut (fun o => ¬recWords o) e

theorem Side.recsKept_refl (d : Side) : d.recsKept d := Side.regsBut_refl _ d

theorem Side.recsKept_of_rf {d e : Side} (h : e.rf = d.rf) : d.recsKept e := fun o _ => congrArg (rfWord · o) h

theorem Side.recsKept.trans {d e f : Side} (h : d.recsKept e) (h' : e.recsKept f) : d.recsKept f :=
  fun o ho => (h' o ho).trans (h o ho)

theorem Side.recsKept.set {d e : Side} (h : d.recsKept e) {f : Fld} (v : Nat) (hf : ¬recWords f.off) : d.recsKept (e.set f v) :=
  Side.regsBut.set h v hf

theorem Side.recsKept_startDone (d : Side) (n : Nat) (r : Res) : d.recsKept (d.startDone n r) := Side.recsKept_of_rf rfl

theorem Side.recsKept_foldl {α : Type} {f : Side → α → Side} (h : ∀ (e : Side) (a : α), e.recsKept (f e a)) (l : List α)
    (d : Side) : d.recsKept (l.foldl f d) :=
  List.foldlRecOn l f (motive := d.recsKept) d.recsKept_refl fun e he a _ => he.trans (h e a)

/-- A field of a record's registers. -/
theorem Side.recsKept.get {d e : Side} (h : d.recsKept e) {g : Fld} (hg : recWords g.off) : e.get g = d.get g :=
  Side.regsBut.get h (not_not_intro hg)

theorem Side.recsKept.recState {d e : Side} (h : d.recsKept e) {r : Nat} (hr : r < 4) : e.recState r = d.recState r :=
  h.get (recWords_of_lt (by decide) hr)

theorem Side.recsKept.recEnd {d e : Side} (h : d.recsKept e) {r : Nat} (hr : r < 4) : e.recEnd r = d.recEnd r := by
  rw [Side.recEnd, Side.get64, h.get (recWords_of_lt (by decide) hr), h.get (recWords_of_lt (by decide) hr)]
  rfl

theorem Side.recSlot_lt (d : Side) (r : Nat) : d.recSlot r < 4 := bits_lt _ _ 2

/-! Postings. -/

theorem Side.recsKept_notice (d : Side) (p : Pkg) {src : Nat} (c x y : Nat) (hs : src < 0x1000) : d.recsKept (d.notice p src c x y) :=
  fun o ho => d.notice_word p src c x y o hs (offPost_of_recWords (not_not.1 ho))

theorem Side.recsKept_fault (d : Side) (p : Pkg) {src : Nat} {f : Fld} (hs : src < 0x1000) (hf : ¬recWords f.off) :
    d.recsKept (d.fault p src f) := fun o ho =>
  d.fault_word_ne p src f o hs (offPost_of_recWords (not_not.1 ho)) fun he => ho (he ▸ hf)

theorem Side.recsKept_faultIf (d : Side) (p : Pkg) (c : Bool) {src : Nat} {f : Fld} (hs : src < 0x1000) (hf : ¬recWords f.off) :
    d.recsKept (d.faultIf p c src f) := by
  rw [Side.faultIf]
  split
  · exact d.recsKept_fault p hs hf
  · exact d.recsKept_refl

theorem Side.recsKept_recNotice (p : Pkg) {r : Nat} (code detail : Nat) (d : Side) (hr : r < 4) :
    d.recsKept (d.recNotice p r code detail) := d.recsKept_notice p _ _ _ (by omega)

@[simp] theorem Side.recNotice_sqList (p : Pkg) (r code detail n : Nat) (d : Side) :
    (d.recNotice p r code detail).sqList n = d.sqList n :=
  congrArg (tget [] · n) (d.notice_hif_sq p _ _ _ _)

/-! A record's state. -/

/-- STARTED_REC and STARTED_VALID alone are brought up to date. -/
theorem Side.startedRefresh_eq (d : Side) : ∃ a b,
    d.startedRefresh = (d.set F.PLN_STATUS_STARTED_VALID a).set F.PLN_STATUS_STARTED_REC b := by
  unfold Side.startedRefresh
  split
  · exact ⟨_, _, rfl⟩
  · exact ⟨_, _, rfl⟩

theorem Side.recsKept_startedRefresh (d : Side) : d.recsKept d.startedRefresh := by
  obtain ⟨a, b, heq⟩ := d.startedRefresh_eq
  rw [heq]
  exact (d.recsKept_refl.set a (not_recWords_below (by decide))).set b (not_recWords_below (by decide))

theorem Side.setRecState_eq (d : Side) (r st : Nat) : ∃ w, d.setRecState r st = { d with rf := w } := by
  obtain ⟨a, b, heq⟩ := (d.set (F.PLN_PLATE_STATE_STATE r) st).startedRefresh_eq
  rw [Side.setRecState, heq]
  exact ⟨_, rfl⟩

@[simp] theorem Side.setRecState_pln (d : Side) (r st : Nat) : (d.setRecState r st).pln = d.pln := by
  obtain ⟨w, heq⟩ := d.setRecState_eq r st
  rw [heq]

@[simp] theorem Side.setRecState_hif (d : Side) (r st : Nat) : (d.setRecState r st).hif = d.hif := by
  obtain ⟨w, heq⟩ := d.setRecState_eq r st
  rw [heq]

theorem Side.regsBut_setRecState (d : Side) (r st : Nat) :
    d.regsBut (fun o => o = 0x300000 ∨ o = 0x300100 + 0x20 * r) (d.setRecState r st) := by
  obtain ⟨a, b, heq⟩ := (d.set (F.PLN_PLATE_STATE_STATE r) st).startedRefresh_eq
  rw [Side.setRecState, heq]
  exact (((Side.regsBut_refl _ d).set st (.inr rfl)).set a (.inl rfl)).set b (.inl rfl)

theorem Side.setRecState_recState (d : Side) {r : Nat} (st : Nat) (hr : r < 4) : (d.setRecState r st).recState r = st % 8 :=
  ((Side.recsKept_startedRefresh _).recState hr).trans (Side.get_set_self _ _ _ (show 0 + 3 ≤ 32 by decide))

/-- The other fields of the records. -/
theorem Side.setRecState_get (d : Side) (r st : Nat) {g : Fld} (hg : recWords g.off) (hne : (F.PLN_PLATE_STATE_STATE r).apart g)
    (h32 : g.lo + g.w ≤ 32) : (d.setRecState r st).get g = d.get g :=
  ((Side.recsKept_startedRefresh _).get hg).trans (Side.get_set_apart _ _ hne h32)

/-! The plate feed's data, the allotment and the waits. -/

/-- Registers and the dispatcher's state are all that changes. -/
theorem Side.dropFeed_eq (r : Nat) (d : Side) : ∃ w t, d.dropFeed r = { d with rf := w, str := t } := by
  unfold Side.dropFeed
  generalize hidle : List.foldl _ d (List.range 8) = e
  obtain ⟨w, t, rfl⟩ : ∃ w t, e = { d with rf := w, str := t } := by
    rw [← hidle]
    refine Side.foldl_strRf_eq (fun e k => ?_) _ d
    split
    · split
      · exact ⟨_, _, rfl⟩
      · exact ⟨e.rf, e.str, rfl⟩
    · exact ⟨e.rf, e.str, rfl⟩
  obtain ⟨w', t', hbufs⟩ := Side.foldl_strRf_eq (f := fun d c => (d.setBuf c ((d.buf c).filter fun x => x.pl != r)).allotKeep c)
    (fun d c => ⟨d.rf, _, rfl⟩) (List.range 16) { d with rf := w, str := t }
  exact ⟨w', t', hbufs⟩

theorem Side.recsKept_dropFeed (r : Nat) (d : Side) : d.recsKept (d.dropFeed r) := by
  unfold Side.dropFeed
  refine Side.recsKept.trans (Side.recsKept_foldl (fun e k => ?idle) _ d) (Side.recsKept_foldl (fun e c => ?emptied) _ _)
  case idle =>
    have hidle : e.recsKept (e.setDec k .idle) := e.recsKept_refl.set _ (not_recWords_below (show 0x200008 < 0x300100 by decide))
    split
    · split
      · exact hidle
      · exact e.recsKept_refl
    · exact e.recsKept_refl
  case emptied => exact Side.recsKept_of_rf rfl

theorem Side.feedRelease_eq (r : Nat) (d : Side) : ∃ w t, d.feedRelease r = { d with rf := w, str := t } := by
  obtain ⟨w, t, heq⟩ := d.dropFeed_eq r
  rw [Side.feedRelease, heq]
  exact ⟨_, _, rfl⟩

@[simp] theorem Side.feedRelease_pln (r : Nat) (d : Side) : (d.feedRelease r).pln = d.pln := by
  obtain ⟨w, t, heq⟩ := d.feedRelease_eq r
  rw [heq]

@[simp] theorem Side.feedRelease_hif (r : Nat) (d : Side) : (d.feedRelease r).hif = d.hif := by
  obtain ⟨w, t, heq⟩ := d.feedRelease_eq r
  rw [heq]

theorem Side.recsKept_consumedRefresh (d : Side) {j : Nat} (hj : j < 4) : d.recsKept (d.consumedRefresh j) :=
  Side.regsBut.consumedRefresh (names := fun o => ¬recWords o) d.recsKept_refl j (not_recWords_below (by omega))
    (not_recWords_below (by omega))

theorem Side.recsKept_feedRelease (r : Nat) (d : Side) : d.recsKept (d.feedRelease r) := by
  have hdrop := d.recsKept_dropFeed r
  unfold Side.feedRelease
  generalize d.dropFeed r = e at hdrop
  refine Side.recsKept.trans hdrop (Side.recsKept.trans ?job (Side.recsKept_consumedRefresh _ (d.recSlot_lt r)))
  exact Side.recsKept_of_rf rfl

/-- The allotment is state of the dispatcher. -/
theorem Side.realloc_eq (d : Side) : ∃ t, d.realloc = { d with str := t } := by
  have hkeep : ∀ (l : List Nat) (e : Side), ∃ t, l.foldl (fun d c => d.allotKeep c) e = { e with str := t } := fun l e =>
    List.foldlRecOn l _ (motive := fun f : Side => ∃ t, f = { e with str := t }) ⟨e.str, rfl⟩ fun f hf c _ => by
      obtain ⟨t, rfl⟩ := hf
      exact ⟨_, rfl⟩
  unfold Side.realloc
  generalize hfirst : List.foldl _ d (List.range 16) = e
  obtain ⟨t, rfl⟩ : ∃ t, e = { d with str := t } := hfirst ▸ hkeep _ d
  exact hkeep _ _

theorem Side.recsKept_realloc (d : Side) : d.recsKept d.realloc := by
  obtain ⟨t, heq⟩ := d.realloc_eq
  rw [heq]
  exact Side.recsKept_of_rf rfl

@[simp] theorem Side.realloc_pln (d : Side) : d.realloc.pln = d.pln := by
  obtain ⟨t, heq⟩ := d.realloc_eq
  rw [heq]

@[simp] theorem Side.realloc_hif (d : Side) : d.realloc.hif = d.hif := by
  obtain ⟨t, heq⟩ := d.realloc_eq
  rw [heq]

@[simp] theorem Side.realloc_sqList (n : Nat) (d : Side) : d.realloc.sqList n = d.sqList n :=
  congrArg (fun h : Hif => tget [] h.sq n) d.realloc_hif

/-- A command that waits retires with an outcome. -/
def Hif.waitEnded (x : Res) (h : Hif) (w : Nat × Nat × Nat) : Hif :=
  { h with sq := tset h.sq w.2.1 (finishSlot w.2.2 x (tget [] h.sq w.2.1)) }

/-- The waits of the record leave the planner, and their commands retire in the rings. -/
theorem Side.endWaits_eq (r status t r1 : Nat) (d : Side) : d.endWaits r status t r1 =
    { d with pln := { d.pln with waits := d.pln.waits.filter fun w => w.1 != r },
             hif := (d.pln.waits.filter fun w => w.1 == r).foldl (Hif.waitEnded ⟨status, t, r1⟩) d.hif } := by
  have hends : ∀ (l : List (Nat × Nat × Nat)) (e : Side), l.foldl (fun d w => d.finish w.2.1 w.2.2 ⟨status, t, r1⟩) e =
      { e with hif := l.foldl (Hif.waitEnded ⟨status, t, r1⟩) e.hif } := by
    intro l
    induction l with
    | nil => exact fun e => rfl
    | cons w l ih => exact fun e => ih _
  exact hends _ _

theorem Side.recsKept_endWaits (r status t r1 : Nat) (d : Side) : d.recsKept (d.endWaits r status t r1) := by
  rw [Side.endWaits_eq]
  exact Side.recsKept_of_rf rfl

/-- What the rings hold then hangs on the rings and the waits alone. -/
theorem Side.endWaits_sqList_congr {d e : Side} (r status t r1 n : Nat) (hhif : e.hif = d.hif) (hwaits : e.pln.waits = d.pln.waits) :
    (e.endWaits r status t r1).sqList n = (d.endWaits r status t r1).sqList n := by
  rw [Side.endWaits_eq, Side.endWaits_eq, Side.sqList, Side.sqList, hhif, hwaits]

end Sys2Proof.Machine
end

section
/-! PLATE_ABORT and PLATE_WAIT (R166, R167): a record is released or takes a cause, and a command waits for a record's end. -/

namespace Sys2Proof.Machine

/-! The records' states by name. -/

theorem Side.recActive_of_running {d : Side} {r : Nat} (h : d.recRunning r = true) : d.recActive r = true := by
  simp only [Side.recRunning, Side.recActive, Bool.or_eq_true, beq_iff_eq, Bool.and_eq_true, decide_eq_true_eq] at *
  omega

theorem Side.not_recPending_of_running {d : Side} {r : Nat} (h : d.recRunning r = true) : d.recPending r = false := by
  simp only [Side.recRunning, Side.recPending, Side.recState, Bool.or_eq_true, Bool.or_eq_false_iff, beq_iff_eq, beq_eq_false_iff_ne] at *
  omega

/-- A record that is free or has ended neither waits for its start nor runs. -/
theorem Side.not_recActive_of_ended {d : Side} {r : Nat} (h : d.recState r = 0 ∨ 5 ≤ d.recState r) :
    d.recPending r = false ∧ d.recRunning r = false := by
  simp only [Side.recRunning, Side.recPending, Side.recState, Bool.or_eq_false_iff, beq_eq_false_iff_ne] at *
  omega

/-! A record is released. -/

theorem Side.release_recState (p : Pkg) {r : Nat} (d : Side) (hr : r < 4) : (d.release p r).recState r = 0 := by
  unfold Side.release
  dsimp only
  rw [(Side.recsKept_realloc _).recState hr, (Side.recsKept_recNotice p _ _ _ hr).recState hr,
    (Side.recsKept_endWaits r _ _ _ _).recState hr, (Side.recsKept_feedRelease r _).recState hr, Side.setRecState_recState _ 0 hr]

/-- Of the rings, what waits for the record ends. -/
theorem Side.release_sqList (p : Pkg) (r n : Nat) (d : Side) :
    (d.release p r).sqList n = (d.endWaits r stABORTED (d.dev p) 0).sqList n := by
  unfold Side.release
  dsimp only
  rw [Side.realloc_sqList, Side.recNotice_sqList]
  exact Side.endWaits_sqList_congr r _ _ _ n (by simp [Side.dropCauses]) (by simp [Side.dropCauses])

/-! The commands on a side. -/

section
variable {d : Side} {n : Nat} {e : Desc}

theorem Side.abort_of_bad {o : Nat} (p : Pkg) (he : d.nextStart n 0x42 = some e) (hbad : recFieldBad e.bytes = some o) :
    d.abort p n = d.startDone n (badField o) := by
  simp only [Side.abort, he, hbad]

theorem Side.plateWait_of_bad {o : Nat} (he : d.nextStart n 0x43 = some e) (hbad : recFieldBad e.bytes = some o) :
    d.plateWait n = d.startDone n (badField o) := by
  simp only [Side.plateWait, he, hbad]

variable {r : Nat} (hbad : recFieldBad e.bytes = none) (hr : r = byteAt e.bytes 4) (hlt : r < 4)
include hbad hr hlt

/-- PLATE_ABORT of a record that is COMMITTED or WAITING. -/
theorem Side.abort_of_pending (p : Pkg) (he : d.nextStart n 0x42 = some e) (hst : d.recPending r = true) :
    (d.abort p n).recState r = 0 ∧ (d.abort p n).sqList n =
      startFirst (.done stSUCCESS 0 0) ((d.endWaits r stABORTED (d.dev p) 0).sqList n) := by
  have heq : d.abort p n = (d.release p r).startDone n ⟨stSUCCESS, 0, 0⟩ := by
    simp only [Side.abort, he, hbad, ← hr, Nat.mod_eq_of_lt hlt, hst, if_true]
  rw [heq, Side.sqList_startDone, Side.release_sqList, (Side.recsKept_startDone _ n _).recState hlt]
  exact ⟨d.release_recState p hlt, rfl⟩

/-- PLATE_ABORT of a record that is STARTED or ENDING. -/
theorem Side.abort_of_running (p : Pkg) (he : d.nextStart n 0x42 = some e) (hst : d.recRunning r = true) :
    d.abort p n = ({ d with pln := { d.pln with causes := d.pln.causes ++ [(r, 1)] } } : Side).startDone n ⟨stSUCCESS, 0, 0⟩ := by
  simp only [Side.abort, he, hbad, ← hr, Nat.mod_eq_of_lt hlt, Side.not_recPending_of_running hst, hst, Bool.false_eq_true, if_false,
    if_true, Side.spoilCause, Side.recActive_of_running hst]

/-- PLATE_ABORT of a record that is free or has ended. -/
theorem Side.abort_of_ended (p : Pkg) (he : d.nextStart n 0x42 = some e) (hst : d.recState r = 0 ∨ 5 ≤ d.recState r) :
    d.abort p n = d.startDone n ⟨stPLN_STATE, 0, d.recState r⟩ := by
  obtain ⟨hpending, hrunning⟩ := Side.not_recActive_of_ended hst
  simp only [Side.abort, he, hbad, ← hr, Nat.mod_eq_of_lt hlt, hpending, hrunning, Bool.false_eq_true, if_false]

/-- PLATE_WAIT for a record that has ended. -/
theorem Side.plateWait_of_ended {y : Res} (he : d.nextStart n 0x43 = some e)
    (hy : d.recState r = 0 ∧ y = ⟨stPLN_STATE, 0, 0⟩ ∨ d.recState r = 5 ∧ y = ⟨stSUCCESS, d.recEnd r, 0⟩ ∨
      d.recState r = 6 ∧ y = ⟨stSPOILED, d.recEnd r, d.get (F.PLN_PLATE_STATE_REASON r)⟩) :
    d.plateWait n = d.startDone n y := by
  rcases hy with ⟨hst, rfl⟩ | ⟨hst, rfl⟩ | ⟨hst, rfl⟩
  all_goals simp only [Side.plateWait, he, hbad, ← hr, Nat.mod_eq_of_lt hlt, hst]

/-- PLATE_WAIT for an active record. -/
theorem Side.plateWait_of_active (he : d.nextStart n 0x43 = some e) (hst : 1 ≤ d.recState r ∧ d.recState r ≤ 4) :
    d.plateWait n = { d.startRun n with pln := { d.pln with waits := d.pln.waits ++ [(r, n, e.slot)] } } := by
  obtain hst | hst | hst | hst : d.recState r = 1 ∨ d.recState r = 2 ∨ d.recState r = 3 ∨ d.recState r = 4 := by omega
  all_goals simp only [Side.plateWait, he, hbad, ← hr, Nat.mod_eq_of_lt hlt, hst]

end

/-! The commands. -/

theorem exec_plateAbort {n : Nat} (h : n < 64) (s : State) : exec (.plateAbort n) s = .next (s.both fun p d => d.abort p n) := if_pos h

theorem exec_plateWait {n : Nat} (h : n < 64) (s : State) : exec (.plateWait n) s = .next (s.both fun _ d => d.plateWait n) := if_pos h

end Sys2Proof.Machine
end

section
/-! PLATE_COMMIT and GATE_QUERY (R161, R165): what a commit that is taken leaves of its record, and what PLN_COMMIT_STATUS shows. -/

namespace Sys2Proof.Machine

/-! The outcome that is posted. -/

theorem Side.recsKept_gatePost (code failed jar : Nat) (d : Side) : d.recsKept (d.gatePost code failed jar) := by
  have hoff : ¬recWords 0x300008 := not_recWords_below (by decide)
  exact ((((d.recsKept_refl.set (f := F.PLN_COMMIT_STATUS_CODE) _ hoff).set (f := F.PLN_COMMIT_STATUS_FAILED) _ hoff).set
    (f := F.PLN_COMMIT_STATUS_JAR) _ hoff).set (f := F.PLN_COMMIT_STATUS_SEQ) _ hoff).set (f := F.PLN_COMMIT_STATUS_VALID) _ hoff

theorem Side.gatePost_failed (code failed jar : Nat) (d : Side) :
    (d.gatePost code failed jar).get F.PLN_COMMIT_STATUS_FAILED = failed % 512 := by
  rw [Side.gatePost, Side.get_set_bits _ F.PLN_COMMIT_STATUS_VALID _ _ (.inl (by decide)) (by decide), Side.inc,
    Side.get_set_bits _ F.PLN_COMMIT_STATUS_SEQ _ _ (.inl (by decide)) (by decide),
    Side.get_set_bits _ F.PLN_COMMIT_STATUS_JAR _ _ (.inl (by decide)) (by decide)]
  exact Side.get_set_self _ _ _ (by decide)

/-! The metadata. -/

/-- Metadata that decodes counts its block, and nothing else of the side changes. -/
theorem Side.commitMeta_side {p : Pkg} {d d1 : Side} {j ix : Nat} {en : Ent} {m : List Byte}
    (h : Side.commitMeta p d j ix en = (d1, .ok m)) : d1 = d.blockCount := by
  unfold Side.commitMeta at h
  split at h
  · exact absurd (congrArg Prod.snd h) (by simp)
  · dsimp only at h
    split at h
    · exact absurd (congrArg Prod.snd h) (by simp)
    · exact (congrArg Prod.fst h).symm

theorem Side.recsKept_blockCount (d : Side) : d.recsKept d.blockCount :=
  Side.regsBut.set64 d.recsKept_refl _ (not_recWords_below (by decide)) (not_recWords_below (by decide))

/-! The verdict. -/

theorem Side.commitRun_of_early {d : Side} {p : Pkg} {q : Bool} {b : List Byte} {v : Verdict} (h : d.commitEarly b q = .error v) :
    d.commitRun p q b = (d, v) := by
  simp only [Side.commitRun, h]

/-- The bid of a descriptor for a plate whose metadata is m. -/
def bidOf (b : List Byte) (plate : Nat) (m : List Byte) : Bid :=
  ⟨byteAt b 4 % 4, plate, bits (byteAt b 4) 4 3, dFld b 16 8, m⟩

section
variable {d d1 : Side} {p : Pkg} {q : Bool} {b : List Byte} {ix : Nat} {en : Ent} {m : List Byte}
  (hearly : d.commitEarly b q = .ok (ix, en)) (hmeta : Side.commitMeta p d (byteAt b 4 % 4) ix en = (d1, .ok m))
  (hcheck : d1.plateCheck p m = none)
include hearly hmeta hcheck

theorem Side.commitRun_of_gate_fails {g : Nat × Nat} (hg : d1.gateCommit (bidOf b en.plate m) = g) (hne : g.1 ≠ 0) :
    d.commitRun p q b = (d1, ⟨⟨stPLN_GATE, 0, g.1 + 2 ^ 9 * g.2⟩, g.1, g.2⟩) := by
  subst hg
  simp only [Side.commitRun, hearly, hmeta, hcheck]
  exact if_pos hne

theorem Side.commitRun_of_query (hg : (d1.gateCommit (bidOf b en.plate m)).1 = 0) (hq : q = true) :
    d.commitRun p q b = (d1, ⟨⟨stSUCCESS, 0, 0⟩, 0, 0⟩) := by
  simp only [Side.commitRun, hearly, hmeta, hcheck]
  exact (if_neg (not_not_intro hg)).trans (if_pos hq)

theorem Side.commitRun_of_commit {r : Nat} (hg : (d1.gateCommit (bidOf b en.plate m)).1 = 0) (hq : q = false)
    (hfree : d1.freeRec = some r) :
    d.commitRun p q b = (d1.commitRec r b (bidOf b en.plate m), ⟨⟨stSUCCESS, r, 0⟩, 0, 0⟩) := by
  simp only [Side.commitRun, hearly, hmeta, hcheck, hfree]
  exact (if_neg (not_not_intro hg)).trans (if_neg (by simp [hq]))

end

/-! The record that is taken. -/

theorem mem_of_mem_insertBy {α : Type} (key : α → Nat) {x y : α} : ∀ {l : List α}, y ∈ insertBy key x l → y = x ∨ y ∈ l
  | [], h => .inl (List.mem_singleton.1 h)
  | z :: l, h => by
    rw [insertBy] at h
    split at h
    · exact List.mem_cons.1 h
    · rcases List.mem_cons.1 h with rfl | h
      · exact .inr List.mem_cons_self
      · exact (mem_of_mem_insertBy key h).imp_right (List.mem_cons_of_mem z)

theorem mem_of_mem_sortBy {α : Type} (key : α → Nat) {y : α} (l : List α) : y ∈ sortBy key l → y ∈ l := by
  refine List.foldlRecOn l _ (motive := fun a => y ∈ a → y ∈ l) (fun h => absurd h List.not_mem_nil) fun a ha x hx h => ?_
  rcases mem_of_mem_insertBy key h with rfl | h
  · exact hx
  · exact ha h

/-- The record that a commit takes is one of the four. -/
theorem Side.freeRec_lt {d : Side} {r : Nat} (h : d.freeRec = some r) : r < 4 := by
  unfold Side.freeRec at h
  split at h
  case h_1 q hfind =>
    obtain rfl := Option.some.inj h
    exact List.mem_range.1 (List.mem_of_find?_eq_some hfind)
  case h_2 => exact List.mem_range.1 (List.mem_of_mem_filter (mem_of_mem_sortBy _ _ (List.mem_of_mem_head? h)))

/-- The record shows COMMITTED, its job slot and its metadata. -/
theorem Side.commitRec_shows (d : Side) {r : Nat} (b : List Byte) (x : Bid) (hr : r < 4) (hslot : x.slot < 4) :
    (d.commitRec r b x).recState r = 1 ∧ (d.commitRec r b x).recSlot r = x.slot ∧ (d.commitRec r b x).mdat r = x.mdat := by
  have hreg : recWords (0x300100 + 0x20 * r) := recWords_of_lt (by decide) hr
  have htimes : ∀ (e : Side) (plate : Nat), e.regsBut (fun o => 0x300104 + 0x20 * r ≤ o)
      (((e.set (F.PLN_PLATE_ID_PLATE r) plate).set64 (F.PLN_PLATE_START_LO_TIME r) (F.PLN_PLATE_START_HI_TIME r) 0).set64
        (F.PLN_PLATE_END_LO_TIME r) (F.PLN_PLATE_END_HI_TIME r) 0) := fun e plate =>
    (((Side.regsBut_refl _ e).set plate (slotOff_le (by decide))).set64 0 (slotOff_le (by decide)) (slotOff_le (by decide))).set64 0
      (slotOff_le (by decide)) (slotOff_le (by decide))
  unfold Side.commitRec
  dsimp only
  refine ⟨?state, ?slot, ?mdat⟩
  case state => rw [(Side.recsKept_realloc _).recState hr, Side.setRecState_recState _ 1 hr]
  case slot =>
    rw [Side.recSlot, (Side.recsKept_realloc _).get hreg,
      Side.setRecState_get _ r 1 (g := F.PLN_PLATE_STATE_SLOT r) hreg (.inr (.inr (show 0 + 3 ≤ 16 by decide)))
        (show 16 + 2 ≤ 32 by decide),
      (htimes _ _).get (slotOff_not_le (by decide)), Side.get_set_self _ _ _ (show 16 + 2 ≤ 32 by decide)]
    exact Nat.mod_eq_of_lt hslot
  case mdat =>
    rw [Side.mdat, Side.recd, Side.realloc_pln, Side.setRecState_pln]
    exact congrArg Rec.mdat (tget_tset_self _ _ _ _)

theorem Side.commitRec_sqList (d : Side) (r : Nat) (b : List Byte) (x : Bid) (n : Nat) : (d.commitRec r b x).sqList n = d.sqList n := by
  unfold Side.commitRec
  dsimp only
  rw [Side.realloc_sqList, Side.sqList, Side.setRecState_hif]
  rfl

/-! The command. -/

/-- From a to e, an outcome is posted, and ring n's next descriptor retires with it. -/
structure Side.concluded (a : Side) (n : Nat) (v : Verdict) (e : Side) : Prop where
  kept : a.recsKept e
  pln : e.pln = a.pln
  failed : e.get F.PLN_COMMIT_STATUS_FAILED = v.failed % 512
  ring : e.sqList n = startFirst (.done v.res.status v.res.r0 v.res.r1) (a.sqList n)

theorem Side.commit_concluded {d a : Side} {n op : Nat} {q : Bool} {e : Desc} {v : Verdict} (p : Pkg) (hop : op = if q then 0x41 else 0x40)
    (he : d.nextStart n op = some e) (hon : d.groupOn 1 = true) (hrun : d.commitRun p q e.bytes = (a, v)) :
    a.concluded n v (d.commit p q n) := by
  have heq : d.commit p q n = (a.gatePost v.res.status v.failed v.jar).startDone n v.res := by
    subst hop
    simp [Side.commit, he, hon, hrun]
  rw [heq]
  have hposted := a.recsKept_gatePost v.res.status v.failed v.jar
  have hshown := a.gatePost_failed v.res.status v.failed v.jar
  exact ⟨hposted, rfl, hshown, Side.sqList_startDone _ n _⟩

/-- The same on a running side of the state after the command. -/
theorem State.commit_concluded {s : State} {x : SideId} {a : Side} {n op : Nat} {q : Bool} {e : Desc} {v : Verdict}
    (hx : s.pkg.hold.running x = true) (hop : op = if q then 0x41 else 0x40) (he : (s.side x).nextStart n op = some e)
    (hon : (s.side x).groupOn 1 = true) (hrun : (s.side x).commitRun s.pkg q e.bytes = (a, v)) :
    a.concluded n v ((s.both fun p d => d.commit p q n).side x) := by
  obtain ⟨d, l, hd, hside⟩ := State.both_result hx fun p d => d.commit p q n
  have h := Side.commit_concluded s.pkg hop he hon hrun
  rw [← hd] at h
  rw [hside]
  exact ⟨h.kept, h.pln, h.failed, h.ring⟩

theorem exec_commit {c : Instr} {n op : Nat} {q : Bool}
    (hc : c = .plateCommit n ∧ op = 0x40 ∧ q = false ∨ c = .gateQuery n ∧ op = 0x41 ∧ q = true) (hn : n < 64) (s : State) :
    op = (if q then 0x41 else 0x40) ∧ exec c s = .next (s.both fun p d => d.commit p q n) := by
  rcases hc with ⟨rfl, rfl, rfl⟩ | ⟨rfl, rfl, rfl⟩
  · exact ⟨rfl, if_pos hn⟩
  · exact ⟨rfl, if_pos hn⟩

end Sys2Proof.Machine
end

section
/-! The statement on PLATE_COMMIT, GATE_QUERY, PLATE_ABORT and PLATE_WAIT. -/

namespace Sys2Proof.Proofs
open Sys2Proof Sys2Proof.Machine

/-- Settles O21: on the running side a commit or a query is the posting of its verdict and a retirement, and the verdict alone tells which
record, if any, is taken; an abort and a wait branch on the record's state. RESULT0 of a query that would start and of a wait that a
release ends is the model's choice of log entries 102 and 97. -/
theorem platesCommitAbortAndWait : Obligations.PlatesCommitAbortAndWait := by
  unfold Obligations.PlatesCommitAbortAndWait
  intro n s x e hn hx
  refine ⟨fun c op q hc he hon => ?commit, fun c op hc he o hbad => ?badField,
    fun hbad r hr hlt => ⟨fun he => ?abort, fun he => ?wait⟩⟩
  case commit =>
    obtain ⟨hop, hexec⟩ := exec_commit hc hn s
    have hconcluded := fun a v => State.commit_concluded (a := a) (v := v) hx hop he hon
    refine ⟨fun v hv => ⟨_, hexec, ?early⟩, fun ix en d m hearly hmeta hcheck g hg => ?judged⟩
    case early =>
      have h := hconcluded _ _ (Side.commitRun_of_early hv)
      exact ⟨h.ring, fun k hk => h.kept.recState hk⟩
    obtain rfl := Side.commitMeta_side hmeta
    have hcounted := (s.side x).recsKept_blockCount
    refine ⟨fun hpass hq r hfree => ⟨_, hexec, ?taken⟩, fun hpass hq => ⟨_, hexec, ?answered⟩,
      fun hfail => ⟨_, hexec, ?refused⟩⟩
    case taken =>
      have hrec : r < 4 := Side.freeRec_lt hfree
      have h := hconcluded _ _ (Side.commitRun_of_commit hearly hmeta hcheck (hg ▸ hpass) hq hfree)
      obtain ⟨hstate, hslot, hmdat⟩ :=
        (s.side x).blockCount.commitRec_shows e.bytes (bidOf e.bytes en.plate m) hrec (Nat.mod_lt _ (by decide))
      refine ⟨(h.kept.recState hrec).trans hstate, (h.kept.get (recWords_of_lt (by decide) hrec)).trans hslot, ?_, ?_⟩
      · rw [Side.mdat, Side.recd, h.pln]
        exact hmdat
      · rw [h.ring, Side.commitRec_sqList]
        rfl
    case answered =>
      have h := hconcluded _ _ (Side.commitRun_of_query hearly hmeta hcheck (hg ▸ hpass) hq)
      exact ⟨fun k hk => (hcounted.trans h.kept).recState hk, h.ring⟩
    case refused =>
      have h := hconcluded _ _ (Side.commitRun_of_gate_fails hearly hmeta hcheck hg hfail)
      exact ⟨fun k hk => (hcounted.trans h.kept).recState hk, h.failed, h.ring⟩
  case badField =>
    rcases hc with ⟨rfl, rfl⟩ | ⟨rfl, rfl⟩
    · obtain ⟨l, hside⟩ := State.both_of_running hx fun p d => d.abort p n
      refine ⟨_, exec_plateAbort hn s, ?_⟩
      rw [hside, Side.abort_of_bad s.pkg he hbad]
      exact ⟨Side.sqList_startDone _ n _, rfl⟩
    · obtain ⟨l, hside⟩ := State.both_of_running hx fun _ d => d.plateWait n
      refine ⟨_, exec_plateWait hn s, ?_⟩
      rw [hside, Side.plateWait_of_bad he hbad]
      exact ⟨Side.sqList_startDone _ n _, rfl⟩
  case abort =>
    obtain ⟨d, l, hd, hside⟩ := State.both_result hx fun p d => d.abort p n
    refine ⟨fun hpending => ⟨_, exec_plateAbort hn s, ?_⟩, fun hrunning => ⟨_, exec_plateAbort hn s, ?_⟩,
      fun hended => ⟨_, exec_plateAbort hn s, ?_⟩⟩
    · have hreleased := Side.abort_of_pending hbad hr hlt s.pkg he hpending
      rw [← hd] at hreleased
      rw [hside]
      exact hreleased
    · rw [hside, hd, Side.abort_of_running hbad hr hlt s.pkg he hrunning]
      exact ⟨rfl, fun k _ => rfl, Side.sqList_startDone _ n _⟩
    · rw [hside, hd, Side.abort_of_ended hbad hr hlt s.pkg he hended]
      exact ⟨rfl, Side.sqList_startDone _ n _⟩
  case wait =>
    obtain ⟨l, hside⟩ := State.both_of_running hx fun _ d => d.plateWait n
    refine ⟨fun y hy => ⟨_, exec_plateWait hn s, ?_⟩, fun hactive => ⟨_, exec_plateWait hn s, ?_⟩⟩
    · rw [hside, Side.plateWait_of_ended hbad hr hlt he hy]
      exact ⟨rfl, Side.sqList_startDone _ n _⟩
    · rw [hside, Side.plateWait_of_active hbad hr hlt he hactive]
      exact ⟨rfl, Side.sqList_startRun _ n⟩

end Sys2Proof.Proofs
end

section
/-! PLATE_ENDING and PLATE_DONE (R159, R161, R187): the end that a record shows, and the work that follows it. -/

namespace Sys2Proof.Machine

/-! Device time. -/

/-- Device time hangs on the timebase's OFFSET, RATE and EPOCH alone. -/
theorem Side.dev_of_regsBut {names : Nat → Prop} {d e : Side} (h : d.regsBut names e)
    (htim : ∀ o, 0xE00040 ≤ o ∧ o < 0xE00058 → ¬names o) (p : Pkg) : e.dev p = d.dev p := by
  have hget : ∀ g : Fld, 0xE00040 ≤ g.off ∧ g.off < 0xE00058 → e.get g = d.get g := fun g hg => h.get (htim g.off hg)
  simp (disch := decide) only [Side.dev, Side.devAt, Side.rate, Side.get64, hget]

/-! A record ends. -/

/-- Record r of side d shown DONE, with LATE_MODE 0 and device time as its end. -/
def Side.doneStamped (p : Pkg) (r : Nat) (d : Side) : Side :=
  (((d.dropCauses r).setRecState r 5).set (F.PLN_PLATE_STATE_LATE_MODE r) 0).stampEnd p r

/-- The end is stamped behind the state's register. -/
theorem Side.regsBut_stampEnd (p : Pkg) (r : Nat) (d : Side) : d.regsBut (fun o => 0x300110 + 0x20 * r ≤ o) (d.stampEnd p r) :=
  (Side.regsBut_refl _ d).set64 (lo := F.PLN_PLATE_END_LO_TIME r) (hi := F.PLN_PLATE_END_HI_TIME r) (d.dev p) (slotOff_le (by decide))
    (slotOff_le (by decide))

theorem Side.stampEnd_recEnd (p : Pkg) (r : Nat) (d : Side) : (d.stampEnd p r).recEnd r = d.dev p % 2 ^ 64 :=
  Side.get64_set64_self _ _ (slotOff_ne (by decide)) ⟨rfl, rfl⟩ ⟨rfl, rfl⟩

theorem Side.doneStamped_shows (p : Pkg) {r : Nat} (d : Side) (hr : r < 4) :
    (d.doneStamped p r).recState r = 5 ∧ (d.doneStamped p r).get (F.PLN_PLATE_STATE_LATE_MODE r) = 0 ∧
      (d.doneStamped p r).recEnd r = d.dev p % 2 ^ 64 := by
  unfold Side.doneStamped
  refine ⟨?state, ?lateMode, ?ended⟩
  case state =>
    rw [Side.recState, (Side.regsBut_stampEnd p r _).get (slotOff_not_le (by decide)),
      Side.get_set_bits _ _ _ _ (.inl (show 0 + 3 ≤ 4 by decide)) (show 0 + 3 ≤ 32 by decide)]
    exact Side.setRecState_recState _ 5 hr
  case lateMode =>
    rw [(Side.regsBut_stampEnd p r _).get (slotOff_not_le (by decide))]
    exact Side.get_set_self _ _ 0 (show 4 + 2 ≤ 32 by decide)
  case ended =>
    have hstate := ((d.dropCauses r).regsBut_setRecState r 5).set (f := F.PLN_PLATE_STATE_LATE_MODE r) 0 (.inr rfl)
    rw [Side.stampEnd_recEnd, Side.dev_of_regsBut hstate (fun o ho => by omega)]
    rfl

/-! What follows the end leaves the records' registers alone. -/

theorem Side.recsKept_refine (p : Pkg) (r : Nat) (d : Side) : d.recsKept (d.refine p r) := by
  unfold Side.refine
  dsimp only
  generalize hjars : List.foldl _ (d, false) (List.range 32) = a
  have hkept : d.recsKept a.1 := by
    rw [← hjars]
    refine List.foldlRecOn _ _ (motive := fun a : Side × Bool => d.recsKept a.1) d.recsKept_refl fun a ha j _ => ?_
    split
    · exact ha
    · exact ha.set _ (not_recWords_behind (show 0x300180 ≤ 0x30101C + 0x20 * j by omega))
  refine Side.recsKept.trans ?_ (Side.recsKept_faultIf _ p _ (by decide) (not_recWords_below (by decide)))
  split
  · exact hkept
  · exact hkept.set _ (not_recWords_below (by decide))

theorem Side.recsKept_vecFree (c : Nat) (d : Side) : d.recsKept (d.vecFree c) := by
  have hoff : ¬recWords (0x600004 + 0x10000 * c) := not_recWords_behind (by omega)
  exact ((d.recsKept_refl.set (f := F.VEC_STATUS_STATE c) 0 hoff).set (f := F.VEC_STATUS_STOP_RR c) 0 hoff).set
    (f := F.VEC_STATUS_STOP_THR c) 0 hoff

theorem Side.recsKept_vectorDone (p : Pkg) (r : Nat) (d : Side) : d.recsKept (d.vectorDone p r) := by
  unfold Side.vectorDone
  refine Side.recsKept_foldl (fun e c => ?_) _ d
  dsimp only
  split
  · exact Side.recsKept.trans (Side.recsKept_of_rf rfl) (Side.recsKept_vecFree c _)
  · exact e.recsKept_refl

theorem Side.recsKept_telAdd (t : TelJob) (now : Nat) (last : Bool) (l : List Byte) (d : Side) : d.recsKept (d.telAdd t now last l) := by
  refine Side.recsKept_of_rf ?_
  unfold Side.telAdd
  dsimp only
  split
  · rfl
  split
  · rfl
  split <;> rfl

theorem Side.recsKept_telPlate (p : Pkg) (r what reason : Nat) (d : Side) : d.recsKept (d.telPlate p r what reason) := by
  unfold Side.telPlate
  exact Side.recsKept_telAdd _ _ _ _ d

theorem Side.recsKept_rasterDrop (r : Nat) (d : Side) : d.recsKept (d.rasterDrop r) := Side.recsKept_of_rf rfl

theorem Side.recsKept_recDone (p : Pkg) {r : Nat} (d : Side) (hr : r < 4) : (d.doneStamped p r).recsKept (d.recDone p r) := by
  have hfed := Side.recsKept_dropFeed r (d.doneStamped p r)
  have hrefined := hfed.trans (Side.recsKept_refine p r _)
  have hended := hrefined.trans (Side.recsKept_endWaits r stSUCCESS (d.dev p) 0 _)
  exact (hended.trans (Side.recsKept_recNotice p 1 (d.recPlate r) _ hr)).trans (Side.recsKept_realloc _)

theorem Side.recsKept_plateDone {p : Pkg} {r : Nat} {d : Side} (hr : r < 4) (hst : d.recState r = 4) (hleft : d.outputLeft p r = true) :
    (d.doneStamped p r).recsKept (d.plateDone p r) := by
  have heq : d.plateDone p r = (((d.recDone p r).rasterDrop r).vectorDone p r).telPlate p r 1 0 := by
    simp only [Side.plateDone, hst, hleft, decide_true, Bool.and_self, if_true]
  rw [heq]
  refine Side.recsKept.trans (d.recsKept_recDone p hr) (Side.recsKept.trans (Side.recsKept_rasterDrop r _) ?_)
  exact Side.recsKept.trans (Side.recsKept_vectorDone p r _) (Side.recsKept_telPlate p r 1 0 _)

theorem Side.plateDone_of_not {p : Pkg} {r : Nat} {d : Side} (h : d.recState r ≠ 4 ∨ d.outputLeft p r = false) :
    d.plateDone p r = d := by
  rw [Side.plateDone, if_neg]
  rcases h with h | h <;> simp [h]

/-! ENDING. -/

theorem Side.plateEnding_of_taken {r : Nat} {d : Side} (hst : d.recState r = 3) (htaken : d.chansIn r (d.recd r).taken = true) :
    d.plateEnding r = d.setRecState r 4 := by
  rw [Side.plateEnding, if_pos (by simp [hst, htaken])]

theorem Side.plateEnding_of_not {r : Nat} {d : Side} (h : d.recState r ≠ 3 ∨ d.chansIn r (d.recd r).taken = false) :
    d.plateEnding r = d := by
  rw [Side.plateEnding, if_neg]
  rcases h with h | h <;> simp [h]

/-! The commands. -/

theorem exec_plateEnding {r : Nat} (h : r < 4) (s : State) : exec (.plateEnding r) s = .next (s.both fun _ d => d.plateEnding r) := if_pos h

theorem exec_plateDone {r : Nat} (h : r < 4) (s : State) :
    exec (.plateDone r) s = .next (s.runPorts.both fun p d => d.plateDone p r) := if_pos h

/-- The ports' slots are the hold die's. -/
theorem State.runPorts_side (s : State) (x : SideId) :
    s.runPorts.side x = s.side x ∧ s.runPorts.pkg.hold.running x = s.pkg.hold.running x := by
  refine List.foldlRecOn _ _ (motive := fun t : State => t.side x = s.side x ∧ t.pkg.hold.running x = s.pkg.hold.running x)
    ⟨rfl, rfl⟩ fun t ht n _ => ?_
  rw [State.runPort, State.updPort_side, State.updPort_running]
  exact ht

end Sys2Proof.Machine
end

section
/-! INGEST_INTERVAL_END and JAR_ENABLE (R185, R186, R189): the sums of the last intervals, and a jar's CFG. -/

namespace Sys2Proof.Machine

/-! Ingest. -/

/-- The intervals of job slot j that count when one ends: it and the nine before it. -/
def Side.ingestLast (d : Side) (j : Nat) : List Nat := ((d.staged j - tget 0 d.pln.stagedAt j) :: tget [] d.pln.ingest j).take 10

/-- The interval that ends, for job slot j. -/
def Side.ingestStep (d : Side) (j : Nat) : Side :=
  ({ d with pln := { d.pln with ingest := tset d.pln.ingest j (d.ingestLast j), stagedAt := tset d.pln.stagedAt j (d.staged j) } }).set
    (F.PLN_INGEST_BYTES j) (d.ingestLast j).sum

/-- Another slot's intervals. -/
theorem Side.ingestStep_last_ne (d : Side) {i j : Nat} (hne : j ≠ i) (hj : j < 4) : (d.ingestStep i).ingestLast j = d.ingestLast j := by
  have hkept : d.regsBut (fun o => 0x300020 ≤ o) (d.ingestStep i) :=
    Side.regsBut.set (d := d) (e := { d with pln := _ }) (fun _ _ => rfl) _ (show 0x300020 ≤ 0x300020 + 0x4 * i by omega)
  have hstaged : (d.ingestStep i).staged j = d.staged j :=
    hkept.get64 (show ¬0x300020 ≤ 0x20010C + 0x20 * j by omega) (show ¬0x300020 ≤ 0x200110 + 0x20 * j by omega)
  rw [Side.ingestLast, Side.ingestLast, hstaged, Side.ingestStep, Side.set_pln, tget_tset_ne _ _ _ hne, tget_tset_ne _ _ _ hne]

/-- After an interval of a list of slots, each slot's INGEST is the sum of its own, the others' as it was. -/
theorem Side.ingestSteps_bytes (l : List Nat) : ∀ (d : Side) (j : Nat), l.Nodup → j < 4 →
    (l.foldl Side.ingestStep d).get (F.PLN_INGEST_BYTES j) =
      if j ∈ l then (d.ingestLast j).sum % 2 ^ 32 else d.get (F.PLN_INGEST_BYTES j) := by
  induction l with
  | nil => exact fun d j _ _ => rfl
  | cons i l ih =>
    intro d j hnodup hj
    obtain ⟨hi, hl⟩ := List.nodup_cons.1 hnodup
    rw [List.foldl_cons, ih _ j hl hj]
    by_cases hji : j = i
    · subst hji
      rw [if_neg hi, if_pos List.mem_cons_self]
      exact Side.get_set_self _ _ _ (show 0 + 32 ≤ 32 by decide)
    · have hother : (d.ingestStep i).get (F.PLN_INGEST_BYTES j) = d.get (F.PLN_INGEST_BYTES j) :=
        Side.get_set_off _ _ (show 0x300020 + 0x4 * j ≠ 0x300020 + 0x4 * i by omega)
      rw [d.ingestStep_last_ne hji hj, hother]
      simp [hji]

theorem Side.ingestEnd_of_due {p : Pkg} {d : Side} (h : reached (d.dev p) d.pln.ingestAt = true) :
    (d.ingestEnd p).pln.ingestAt = nextMs (d.dev p) ∧
      ∀ j, j < 4 → (d.ingestEnd p).get (F.PLN_INGEST_BYTES j) = (d.ingestLast j).sum % 2 ^ 32 := by
  have heq : ∃ q : Pln, d.ingestEnd p =
      { (List.range 4).foldl Side.ingestStep d with pln := { q with ingestAt := nextMs (d.dev p) } } := by
    unfold Side.ingestEnd
    rw [h]
    exact ⟨_, rfl⟩
  obtain ⟨q, heq⟩ := heq
  rw [heq]
  refine ⟨rfl, fun j hj => ?_⟩
  have hsum := Side.ingestSteps_bytes (List.range 4) d j List.nodup_range hj
  rw [if_pos (List.mem_range.2 hj)] at hsum
  generalize (List.range 4).foldl Side.ingestStep d = e at hsum ⊢
  exact hsum

theorem Side.ingestEnd_of_not_due {p : Pkg} {d : Side} (h : reached (d.dev p) d.pln.ingestAt = false) : d.ingestEnd p = d := by
  rw [Side.ingestEnd, h]
  rfl

/-! A jar's CFG. -/

/-- A jar's CFG word as a write stores it: EN, SRC and ALPHA, INDEX, and CHMASK of the written word. -/
def jarCfgWord (cur v : Nat) : Nat := putBits (putBits (putBits cur 0 7 (bits v 0 7)) 8 8 (bits v 8 8)) 16 16 (bits v 16 16)

theorem bits_jarCfgWord_low (cur v : Nat) {lo w : Nat} (h : lo + w ≤ 7) : bits (jarCfgWord cur v) lo w = bits v lo w := by
  have hlow : bits (jarCfgWord cur v) 0 7 = bits v 0 7 := by
    rw [jarCfgWord, bits_putBits_ne _ _ _ _ _ _ (.inl (by decide)), bits_putBits_ne _ _ _ _ _ _ (.inl (by decide)), bits_putBits_self]
    exact Nat.mod_eq_of_lt (bits_lt v 0 7)
  have hcut : ∀ u, bits (bits u 0 7) lo w = bits u lo w := fun u => by
    rw [show bits u 0 7 = u % 2 ^ 7 by simp [bits]]
    exact bits_mod u 7 lo w h
  rw [← hcut (jarCfgWord cur v), hlow, hcut v]

theorem bit_eq_of_bits {v k b : Nat} (h : bits v k 1 = b) : bit v k = (b == 1) := by
  rw [← h]
  simp [bit, bits]

/-- A jar that is enabled keeps its CFG, and its level is its capacity. -/
theorem Side.jarEnable_shows (d : Side) (j : Nat) :
    (d.jarEnable j).word (F.PLN_JAR_CFG_EN j).off = d.word (F.PLN_JAR_CFG_EN j).off ∧
      tget 0 (d.jarEnable j).pln.level j = (d.get (F.PLN_JAR_CAP_MJ j) : Rat) * 1000 :=
  ⟨Side.word_set_ne _ (F.PLN_JAR_LEVEL_MJ j) _ (slotOff_ne (by decide)), tget_tset_self _ _ _ _⟩

/-- A jar's EN rises: the word is stored and the jar is enabled. -/
theorem Side.jarWrite_of_enable {d : Side} {j v : Nat} (p : Pkg) (hwin : d.plateWindow = true) (hsrc : bits v 1 3 ≤ 5)
    (hoff : d.get (F.PLN_JAR_CFG_EN j) = 0) (hon : bits v 0 1 = 1) :
    d.jarWrite p j v = (d.setWord (F.PLN_JAR_CFG_EN j).off (jarCfgWord (d.word (F.PLN_JAR_CFG_EN j).off) v)).jarEnable j := by
  have hcur : bits (d.word (F.PLN_JAR_CFG_EN j).off) 0 1 = 0 := hoff
  have hnew : bits (jarCfgWord (d.word (F.PLN_JAR_CFG_EN j).off) v) 0 1 = 1 := (bits_jarCfgWord_low _ v (by decide)).trans hon
  have hchange : jarCfgWord (d.word (F.PLN_JAR_CFG_EN j).off) v ≠ d.word (F.PLN_JAR_CFG_EN j).off := fun h => by
    rw [h, hcur] at hnew
    exact absurd hnew (by decide)
  unfold jarCfgWord at hchange hnew ⊢
  simp [Side.jarWrite, hchange, hwin, Nat.not_lt.2 hsrc, bit_eq_of_bits hcur, bit_eq_of_bits hnew]

theorem Side.jarWrite_enables {d : Side} {j v : Nat} (p : Pkg) (hwin : d.plateWindow = true) (hsrc : bits v 1 3 ≤ 5)
    (hoff : d.get (F.PLN_JAR_CFG_EN j) = 0) (hon : bits v 0 1 = 1) :
    (d.jarWrite p j v).get (F.PLN_JAR_CFG_EN j) = 1 ∧ (d.jarWrite p j v).get (F.PLN_JAR_CFG_SRC j) = bits v 1 3 ∧
      tget 0 (d.jarWrite p j v).pln.level j = (d.get (F.PLN_JAR_CAP_MJ j) : Rat) * 1000 := by
  rw [Side.jarWrite_of_enable p hwin hsrc hoff hon]
  obtain ⟨hword, hlevel⟩ :=
    (d.setWord (F.PLN_JAR_CFG_EN j).off (jarCfgWord (d.word (F.PLN_JAR_CFG_EN j).off) v)).jarEnable_shows j
  refine ⟨?en, ?src, ?level⟩
  case en =>
    rw [Side.get_of_word (F.PLN_JAR_CFG_EN j) hword, Side.get_setWord _ _ rfl (show 0 + 1 ≤ 32 by decide)]
    exact (bits_jarCfgWord_low _ v (show 0 + 1 ≤ 7 by decide)).trans hon
  case src =>
    rw [Side.get_of_word (F.PLN_JAR_CFG_SRC j) hword]
    exact (Side.get_setWord _ (g := F.PLN_JAR_CFG_SRC j) _ rfl (show 1 + 3 ≤ 32 by decide)).trans
      (bits_jarCfgWord_low _ v (show 1 + 3 ≤ 7 by decide))
  case level =>
    rw [hlevel]
    exact congrArg (fun n : Nat => (n : Rat) * 1000) (rfGet_put_off _ (F.PLN_JAR_CAP_MJ j) _ _ (slotOff_ne (by decide)))

/-- While a plate is active a jar's CFG and the ledger stay. -/
theorem Side.jarWrite_of_active {d : Side} (p : Pkg) {j : Nat} (v : Nat) (hj : j < 32) (hwin : d.plateWindow = false) :
    (d.jarWrite p j v).word (F.PLN_JAR_CFG_EN j).off = d.word (F.PLN_JAR_CFG_EN j).off ∧ (d.jarWrite p j v).pln = d.pln := by
  unfold Side.jarWrite
  simp only [hwin, Bool.not_false, Bool.true_or, if_true]
  split
  · exact ⟨rfl, rfl⟩
  · refine ⟨Side.fault_word_ne _ p 0x0F0 _ _ (by decide) ?_ ?_, Side.fault_pln _ _ _ _⟩
    · simp only [offPost, F.PLN_JAR_CFG_EN]
      omega
    · exact Nat.ne_of_gt (show 0x300000 < 0x301000 + 0x20 * j by omega)

/-! The commands. -/

theorem exec_ingestIntervalEnd (k : Nat) (s : State) :
    exec (.ingestIntervalEnd k) s = .next ((s.advance k).both Side.ingestEnd) := rfl

theorem exec_jarEnable {j : Nat} {v : Word} {s : State} (hj : j < 32) (hacc : s.accepts true (F.PLN_JAR_CFG_EN j).off v.toNat) :
    exec (.jarEnable j v) s = .next (s.both fun p d => d.jarWrite p j v.toNat) :=
  (if_pos hj).trans (congrArg Host.Outcome.next (State.accepts_asWrite hacc _))

end Sys2Proof.Machine
end

section
/-! The statement on plates that end, the ingest and the jars. -/

namespace Sys2Proof.Proofs
open Sys2Proof Sys2Proof.Machine

/-- Settles O22: a record's end is stamped, and what follows it leaves the records' registers alone; each slot's interval is its own; a
jar's CFG word keeps the written fields. -/
theorem platesEndAndLedger : Obligations.PlatesEndAndLedger := by
  unfold Obligations.PlatesEndAndLedger
  intro s x hx
  refine ⟨fun r hr => ⟨?ending, ?notEnding, ?done, ?notDone⟩, fun k => ?ingest, fun j v hj hacc => ⟨?enabled, ?active⟩⟩
  case ending =>
    intro hst htaken
    obtain ⟨l, hside⟩ := State.both_of_running hx fun _ d => d.plateEnding r
    refine ⟨_, exec_plateEnding hr s, ?_⟩
    rw [hside, Side.plateEnding_of_taken hst htaken]
    exact Side.setRecState_recState _ 4 hr
  case notEnding =>
    intro h
    obtain ⟨l, hside⟩ := State.both_of_running hx fun _ d => d.plateEnding r
    refine ⟨_, exec_plateEnding hr s, ?_⟩
    rw [hside, Side.plateEnding_of_not h]
  case done =>
    intro hst hleft
    obtain ⟨hports, hrun⟩ := s.runPorts_side x
    obtain ⟨d, l, hd, hside⟩ := State.both_result (hrun.trans hx) fun p d => d.plateDone p r
    obtain ⟨hstate, hlate, hend⟩ := (s.side x).doneStamped_shows s.runPorts.pkg hr
    have hkept := Side.recsKept_plateDone hr hst hleft
    rw [hports] at hd
    rw [← hd] at hkept
    refine ⟨_, exec_plateDone hr s, ?_⟩
    rw [hside]
    exact ⟨(hkept.recState hr).trans hstate, (hkept.get (recWords_of_lt (by decide) hr)).trans hlate, (hkept.recEnd hr).trans hend⟩
  case notDone =>
    intro h
    obtain ⟨hports, hrun⟩ := s.runPorts_side x
    obtain ⟨l, hside⟩ := State.both_of_running (hrun.trans hx) fun p d => d.plateDone p r
    refine ⟨_, exec_plateDone hr s, ?_⟩
    rw [hside, hports, Side.plateDone_of_not h]
  case ingest =>
    obtain ⟨d, l, hd, hside⟩ := State.both_advance_result hx k Side.ingestEnd
    refine ⟨_, exec_ingestIntervalEnd k s, fun hdue => ?_, fun hnot => ?_⟩
    · have hends := Side.ingestEnd_of_due hdue
      rw [← hd] at hends
      rw [hside]
      exact hends
    · rw [hside, hd, Side.ingestEnd_of_not_due hnot]
      exact ⟨rfl, rfl⟩
  case enabled =>
    intro hwin hsrc hoff hon
    obtain ⟨d, l, hd, hside⟩ := State.both_result hx fun p d => d.jarWrite p j v.toNat
    have henables := Side.jarWrite_enables s.pkg hwin hsrc hoff hon
    rw [← hd] at henables
    refine ⟨_, exec_jarEnable hj hacc, ?_⟩
    rw [hside]
    exact henables
  case active =>
    intro hwin
    obtain ⟨d, l, hd, hside⟩ := State.both_result hx fun p d => d.jarWrite p j v.toNat
    have hkept := Side.jarWrite_of_active s.pkg v.toNat hj hwin
    rw [← hd] at hkept
    refine ⟨_, exec_jarEnable hj hacc, ?_⟩
    rw [hside]
    exact hkept

end Sys2Proof.Proofs
end

section
/-! A BeamLink port's link (R190, R196, R197): what training reads and sets of a port, which neither the port's stream nor the sides change,
and a port that trains from the start. -/

namespace Sys2Proof.Machine

/-! What of a port its training reads and sets. -/

/-- A port's STATE, its locks, the TSTATE it sends, its counts of ALIGN markers and of TRAIN blocks, and nothing else. -/
def Port.link (x : Port) : Port :=
  { st := x.st, lock0 := x.lock0, lock1 := x.lock1, tx := x.tx, agree := x.agree, disagree := x.disagree, trains := x.trains }

theorem Port.link_of_unframed {x y : Port} (h : x.unframed = y.unframed) : x.link = y.link := (congrArg Port.link h :)

theorem Port.link_of_untagged {x y : Port} (h : x.untagged = y.untagged) : x.link = y.link := (congrArg Port.link h :)

theorem Port.link_of_unhanded {x y : Port} (h : x.unhanded = y.unhanded) : x.link = y.link := (congrArg Port.link h :)

theorem Port.training_of_link {x y : Port} (h : x.link = y.link) : x.training = y.training := (congrArg Port.training h :)

theorem Port.link_iff {x y : Port} : x.link = y.link ↔ x.st = y.st ∧ x.lock0 = y.lock0 ∧ x.lock1 = y.lock1 ∧ x.tx = y.tx ∧
    x.agree = y.agree ∧ x.disagree = y.disagree ∧ x.trains = y.trains := by
  simp [Port.link]

theorem Port.up_of_training {x : Port} (h : x.training = true) : x.up = false := by
  simp only [Port.training, Bool.or_eq_true, beq_iff_eq] at h
  simp only [Port.up, decide_eq_false_iff_not]
  omega

theorem Port.st_ne_of_up {x : Port} (h : x.up = true) : x.st ≠ 0 := by
  simp only [Port.up, decide_eq_true_eq] at h
  omega

@[simp] theorem State.portNow_link (s : State) (n : Nat) : ((s.portNow n).pkg.hold.port n).link = (s.pkg.hold.port n).link :=
  Port.link_of_unframed (s.portNow_unframed n)

@[simp] theorem State.both_link (s : State) (f : Pkg → Side → Side) (n : Nat) :
    ((s.both f).pkg.hold.port n).link = (s.pkg.hold.port n).link := Port.link_of_unhanded (s.both_unhanded f n)

@[simp] theorem State.mirror_link (s : State) (n : Nat) : ((s.mirror n).pkg.hold.port n).link = (s.pkg.hold.port n).link :=
  s.both_link _ n

/-! The sides while a port's stream runs and its frames and blocks are put to wait. -/

@[simp] theorem State.portNow_side (s : State) (n : Nat) (z : SideId) : (s.portNow n).side z = s.side z := by
  rw [State.portNow, State.updPort_side, State.runPort, State.updPort_side]

@[simp] theorem State.sendFrame_side (s : State) (n : Nat) (f : Fr) (z : SideId) : (s.sendFrame n f).side z = s.side z := by
  rw [State.sendFrame]
  split
  · rw [State.updPort_side, State.portNow_side]
  · rfl

@[simp] theorem State.sendCtrl_side (s : State) (n op arg0 arg1 : Nat) (host : Bool) (z : SideId) :
    (s.sendCtrl n op arg0 arg1 host).side z = s.side z := by
  rw [State.sendCtrl]
  dsimp only
  split
  · rw [State.updPort_side, State.sendFrame_side]
  · split
    · exact State.updPort_side _ _ _ _
    · rfl

/-! BLANK blocks that are put into the next slots (R212). -/

/-- The blocks of the causes in each of some slots from slot k on. -/
def blankSlots (k slots : Nat) (causes : List (Nat × Nat)) : List (Nat × Blk) :=
  causes.flatMap fun c => (List.range slots).map fun i => (k + i, blankBlk c.1 c.2)

theorem mem_blankSlots {k slots i : Nat} {causes : List (Nat × Nat)} {c : Nat × Nat} (hc : c ∈ causes) (hi : i < slots) :
    (k + i, blankBlk c.1 c.2) ∈ blankSlots k slots causes :=
  List.mem_flatMap.2 ⟨c, hc, List.mem_map.2 ⟨i, List.mem_range.2 hi, rfl⟩⟩

theorem State.putBlanks_of_off {s : State} {n : Nat} (h : (s.pkg.hold.port n).st = 0) (slots : Nat) (causes : List (Nat × Nat)) :
    s.putBlanks n slots causes = s := if_pos h

theorem State.putBlanks_of_on {s : State} {n : Nat} (h : (s.pkg.hold.port n).st ≠ 0) (slots : Nat) (causes : List (Nat × Nat)) :
    s.putBlanks n slots causes =
      (s.portNow n).updPort n fun x => { x with blanks := x.blanks ++ blankSlots (slotsBefore n s.pkg.now) slots causes } := if_neg h

theorem State.mem_putBlanks {s : State} {n : Nat} (h : (s.pkg.hold.port n).st ≠ 0) {slots i : Nat} {causes : List (Nat × Nat)}
    {c : Nat × Nat} (hc : c ∈ causes) (hi : i < slots) :
    (slotsBefore n s.pkg.now + i, blankBlk c.1 c.2) ∈ ((s.putBlanks n slots causes).pkg.hold.port n).blanks := by
  rw [State.putBlanks_of_on h, State.updPort_port]
  exact List.mem_append_right _ (mem_blankSlots hc hi)

/-- Beside the blocks that wait, only the port's stream changes. -/
@[simp] theorem State.putBlanks_unframed (s : State) (n slots : Nat) (causes : List (Nat × Nat)) :
    ((s.putBlanks n slots causes).pkg.hold.port n).unframed = (s.pkg.hold.port n).unframed := by
  by_cases h : (s.pkg.hold.port n).st = 0
  · rw [State.putBlanks_of_off h]
  · rw [State.putBlanks_of_on h, State.updPort_port]
    exact s.portNow_unframed n

@[simp] theorem State.putBlanks_side (s : State) (n slots : Nat) (causes : List (Nat × Nat)) (z : SideId) :
    (s.putBlanks n slots causes).side z = s.side z := by
  rw [State.putBlanks]
  split
  · rfl
  · rw [State.updPort_side, State.portNow_side]

@[simp] theorem State.putBlanks_running (s : State) (n slots : Nat) (causes : List (Nat × Nat)) (z : SideId) :
    (s.putBlanks n slots causes).pkg.hold.running z = s.pkg.hold.running z := by
  rw [State.putBlanks]
  split <;> rfl

@[simp] theorem State.putBlanks_fuses (s : State) (n slots : Nat) (causes : List (Nat × Nat)) :
    (s.putBlanks n slots causes).pkg.fuses = s.pkg.fuses := by
  rw [State.putBlanks]
  split <;> rfl

/-- A port whose beams of a mask are to be released by UNBLANK later. -/
def Port.owing (x : Port) (mask : Nat) : Port := { x with owed := Nat.lor x.owed mask }

theorem State.sendBlank_port (s : State) (n mask cause : Nat) :
    (s.sendBlank n mask cause).pkg.hold.port n = ((s.putBlanks n 4 [(mask, cause)]).pkg.hold.port n).owing mask :=
  State.updPort_port _ n _

@[simp] theorem State.sendBlank_link (s : State) (n mask cause : Nat) :
    ((s.sendBlank n mask cause).pkg.hold.port n).link = (s.pkg.hold.port n).link := by
  rw [State.sendBlank_port]
  change ((s.putBlanks n 4 _).pkg.hold.port n).link = _
  exact Port.link_of_unframed (s.putBlanks_unframed n 4 _)

@[simp] theorem State.sendBlank_running (s : State) (n mask cause : Nat) (z : SideId) :
    (s.sendBlank n mask cause).pkg.hold.running z = s.pkg.hold.running z := by
  rw [State.sendBlank, State.updPort_running, State.putBlanks_running]

@[simp] theorem State.sendBlank_fuses (s : State) (n mask cause : Nat) : (s.sendBlank n mask cause).pkg.fuses = s.pkg.fuses := by
  rw [State.sendBlank, State.updPort_fuses, State.putBlanks_fuses]

/-! The state of training is judged again (R196; log entry 17). -/

/-- A training port with both locks, two agreeing markers and TSTATE 0 goes to TSTATE 1; another one only shows its locks. -/
theorem Port.settle_of_training {x : Port} (h : x.training = true) (n : Nat) : x.settle n =
    if x.lock0 && x.lock1 && decide (2 ≤ x.agree) && x.tx = 0 then { ({ x with st := 2 } : Port).sendTrain n 1 with trains := 0 }
    else { x with st := if x.lock0 && x.lock1 then 2 else 1 } := by
  rw [Port.settle, if_pos h]
  cases x.lock0 && x.lock1 <;> rfl

theorem Port.settle_keeps (x : Port) (n : Nat) : (x.settle n).lock0 = x.lock0 ∧ (x.settle n).lock1 = x.lock1 ∧
    (x.settle n).agree = x.agree ∧ (x.settle n).disagree = x.disagree := by
  cases h : x.training with
  | false => simp [Port.settle, h]
  | true =>
    rw [Port.settle_of_training h]
    split <;> exact ⟨rfl, rfl, rfl, rfl⟩

theorem Port.settle_st {x : Port} (h : x.training = true) (n : Nat) : (x.settle n).st = if x.lock0 && x.lock1 then 2 else 1 := by
  rw [Port.settle_of_training h]
  split
  next hc =>
    simp only [Bool.and_eq_true] at hc
    obtain ⟨⟨⟨h0, h1⟩, -⟩, -⟩ := hc
    rw [h0, h1]
    rfl
  next => rfl

theorem Port.settle_tx {x : Port} (h : x.training = true) (h0 : x.lock0 = true) (h1 : x.lock1 = true) (hagree : 2 ≤ x.agree)
    (htx : x.tx = 0) (n : Nat) : (x.settle n).tx = 1 := by
  rw [Port.settle_of_training h, if_pos (by simp [h0, h1, hagree, htx])]
  rfl

/-! Training from the start (R196, R197). -/

/-- Port y trains from the start with the locks of x. -/
def Port.fromStart (x y : Port) : Prop :=
  y.training = true ∧ y.tx = 0 ∧ y.agree = 0 ∧ y.trains = 0 ∧ y.lock0 = x.lock0 ∧ y.lock1 = x.lock1

theorem Port.fromStart_congr {x x' y y' : Port} (hx : x'.link = x.link) (hy : y'.link = y.link) (h : x.fromStart y) : x'.fromStart y' := by
  obtain ⟨-, h0, h1, -⟩ := Port.link_iff.1 hx
  obtain ⟨-, h0', h1', htx, hagree, -, htrains⟩ := Port.link_iff.1 hy
  rw [Port.fromStart, Port.training_of_link hy, htx, hagree, htrains, h0, h1, h0', h1']
  exact h

theorem Port.restart_fromStart (x : Port) (n now : Nat) : x.fromStart (x.restart n now) := by
  rw [Port.restart, Port.settle_of_training rfl, if_neg (by simp)]
  refine ⟨?_, rfl, rfl, rfl, rfl, rfl⟩
  simp only [Port.training]
  split <;> rfl

theorem State.train_fromStart (s : State) (n : Nat) : (s.pkg.hold.port n).fromStart ((s.train n).pkg.hold.port n) := by
  refine Port.fromStart_congr (s.portNow_link n).symm ?_ (Port.restart_fromStart _ n s.dev)
  rw [State.train, State.mirror_link, State.sendBlank_link, State.updPort_port]

theorem State.linkDown_fromStart (s : State) (n : Nat) : (s.pkg.hold.port n).fromStart ((s.linkDown n).pkg.hold.port n) :=
  Port.fromStart_congr rfl (State.both_link _ _ n) (s.train_fromStart n)

@[simp] theorem State.train_running (s : State) (n : Nat) (z : SideId) : (s.train n).pkg.hold.running z = s.pkg.hold.running z := by
  rw [State.train, State.mirror, State.both_running, State.sendBlank_running, State.updPort_running]
  rfl

@[simp] theorem State.train_fuses (s : State) (n : Nat) : (s.train n).pkg.fuses = s.pkg.fuses := by
  rw [State.train, State.mirror, State.both_pkg_fuses, State.sendBlank_fuses, State.updPort_fuses]
  rfl

end Sys2Proof.Machine
end

section
/-! What a side shows of a port and its head (R220, R244), while plates are spoiled, heads and temperatures are judged and the fault
pair follows (R181, R462 to R467, R490). -/

namespace Sys2Proof.Machine

/-! The registers. -/

/-- The registers of the BLK block, and HEAD_TEMP of channel n. -/
def shownWords (n o : Nat) : Prop := 0x400000 ≤ o ∧ o < 0x410000 ∨ o = 0x500038 + 0x10000 * n

theorem offPost_of_shownWords {n o : Nat} (hn : n < 16) (h : shownWords n o) : offPost o := by
  unfold shownWords at h
  unfold offPost
  omega

theorem not_shownWords_below {n o : Nat} (h : o < 0x400000) : ¬shownWords n o := by
  unfold shownWords
  omega

/-- RASc_STATUS and the health words of channel n lie between them. -/
theorem not_shownWords_ras {n o k : Nat} (h : o = 0x500000 + k + 0x10000 * n) (hk : k < 0x38) : ¬shownWords n o := by
  unfold shownWords
  omega

theorem not_shownWords_thm {n o : Nat} (hn : n < 16) (h : 0x1100000 ≤ o) : ¬shownWords n o := by
  unfold shownWords
  omega

/-- From d to e, none of them changes. -/
def Side.shownKept (n : Nat) (d e : Side) : Prop := d.regsBut (fun o => ¬shownWords n o) e

theorem Side.shownKept_refl (n : Nat) (d : Side) : d.shownKept n d := Side.regsBut_refl _ d

theorem Side.shownKept_of_rf {n : Nat} {d e : Side} (h : e.rf = d.rf) : d.shownKept n e := fun o _ => congrArg (rfWord · o) h

section
variable {n : Nat} {d e : Side}

theorem Side.shownKept.trans {f : Side} (h : d.shownKept n e) (h' : e.shownKept n f) : d.shownKept n f :=
  fun o ho => (h' o ho).trans (h o ho)

theorem Side.shownKept.get (h : d.shownKept n e) {g : Fld} (hg : shownWords n g.off) : e.get g = d.get g :=
  Side.regsBut.get h (not_not_intro hg)

theorem Side.shownKept.blk_get (h : d.shownKept n e) {g : Fld} (hg : 0x400000 ≤ g.off ∧ g.off < 0x410000) : e.get g = d.get g :=
  h.get (.inl hg)

theorem Side.shownKept.set (h : d.shownKept n e) {f : Fld} (v : Nat) (hf : ¬shownWords n f.off) : d.shownKept n (e.set f v) :=
  Side.regsBut.set h v hf

theorem Side.shownKept.faultD (h : d.shownKept n e) (hn : n < 16) (p : Pkg) {src : Nat} {f : Fld} (x y : Nat) (hs : src < 0x1000)
    (hf : ¬shownWords n f.off) : d.shownKept n (e.faultD p src f x y) := fun o ho => by
  have ho : shownWords n o := not_not.1 ho
  rw [Side.faultD_word_ne _ _ _ _ _ _ _ hs (offPost_of_shownWords hn ho) fun heq => hf (heq ▸ ho)]
  exact h o (not_not_intro ho)

theorem Side.shownKept.fault (h : d.shownKept n e) (hn : n < 16) (p : Pkg) {src : Nat} {f : Fld} (hs : src < 0x1000)
    (hf : ¬shownWords n f.off) : d.shownKept n (e.fault p src f) := h.faultD hn p _ _ hs hf

theorem Side.shownKept.faultIf (h : d.shownKept n e) (hn : n < 16) (p : Pkg) (c : Bool) {src : Nat} {f : Fld} (hs : src < 0x1000)
    (hf : ¬shownWords n f.off) : d.shownKept n (e.faultIf p c src f) := by
  rw [Side.faultIf]
  split
  · exact h.fault hn p hs hf
  · exact h

theorem Side.shownKept.foldl {α : Type} {f : Side → α → Side} (h : d.shownKept n e) (hf : ∀ (b : Side) (a : α), b.shownKept n (f b a))
    (l : List α) : d.shownKept n (l.foldl f e) :=
  List.foldlRecOn l f (motive := fun b => d.shownKept n b) h fun b hb a _ => hb.trans (hf b a)

/-! Plates are spoiled (R181). -/

theorem Side.shownKept.spoilCause (h : d.shownKept n e) (hn : n < 16) (p : Pkg) (r reason : Nat) :
    d.shownKept n (e.spoilCause p r reason) := by
  unfold Side.spoilCause Side.causeEntry
  split
  · exact h.trans (Side.shownKept_of_rf rfl)
  split
  · exact h.faultD hn p _ _ (by decide) (not_shownWords_below (by decide))
  · exact h

theorem Side.shownKept.spoilChan (h : d.shownKept n e) (hn : n < 16) (p : Pkg) (c reason : Nat) :
    d.shownKept n (e.spoilChan p c reason) := by
  refine h.foldl (fun b r => ?_) _
  split
  · exact (b.shownKept_refl n).spoilCause hn p r reason
  · exact b.shownKept_refl n

theorem Side.shownKept.spoilRunning (h : d.shownKept n e) (hn : n < 16) (p : Pkg) (reason : Nat) :
    d.shownKept n (e.spoilRunning p reason) := by
  refine h.foldl (fun b r => ?_) _
  split
  · exact (b.shownKept_refl n).spoilCause hn p r reason
  · exact b.shownKept_refl n

/-! Temperatures are judged (R462 to R467). -/

theorem Side.shownKept.thmSet (h : d.shownKept n e) (hn : n < 16) {f : Fld} (v : Nat) (hf : 0x1100000 ≤ f.off) :
    d.shownKept n (e.set f v) := h.set v (not_shownWords_thm hn hf)

theorem Side.shownKept.thmFaultIf (h : d.shownKept n e) (hn : n < 16) (p : Pkg) (c : Bool) {f : Fld} (hf : 0x1100000 ≤ f.off) :
    d.shownKept n (e.faultIf p c 0x290 f) := h.faultIf hn p c (by decide) (not_shownWords_thm hn hf)

theorem Side.shownKept.bandEval (h : d.shownKept n e) (hn : n < 16) (p : Pkg) {f : Fld} (lo k : Nat) (hf : 0x1100000 ≤ f.off) :
    d.shownKept n (e.bandEval p f lo k) := by
  rw [Side.bandEval]
  split
  · exact h
  · exact h.thmSet hn _ hf

/-- Side b once the causes, the throttle and ABOVE_HARD show these values and what is new of them is posted. -/
def Side.thmCauses (p : Pkg) (temp rise head on above : Nat) (first hits rises : Bool) (b : Side) : Side :=
  ((((((((b.set F.THM_STATUS_CAUSE_TEMP temp).set F.THM_STATUS_CAUSE_RISE rise).set F.THM_STATUS_CAUSE_HEAD head).set
    F.THM_STATUS_THROTTLE on).set F.THM_STATUS_ABOVE_HARD above).faultIf p first 0x290 F.THM_STATUS_THR_SEEN).faultIf p hits 0x290
    F.THM_STATUS_HARD_SEEN).faultIf p rises 0x290 F.THM_STATUS_RISE_SEEN)

/-- Side b once the bands of the three dies are judged. -/
def Side.thmBands (p : Pkg) (b : Side) : Side :=
  ((b.bandEval p F.THM_BANDS_BAND_A 0 64).bandEval p F.THM_BANDS_BAND_B 64 64).bandEval p F.THM_BANDS_BAND_HLD 128 16

/-- Whatever is found, the evaluation sets Θ, the causes and the bands, and spoils the plates that run at the hard limit. -/
theorem Side.thmEval_eq (p : Pkg) (met : Bool) (d : Side) : ∃ (b : Side) (t k temp rise head on above : Nat) (first hits rises : Bool),
    b.rf = ((d.set F.THM_THETA_TEMP t).set F.THM_THETA_SENSOR k).rf ∧ d.thmEval p met = Side.thmBands p
      (if hits then (b.thmCauses p temp rise head on above first hits rises).spoilRunning p 0x08
        else b.thmCauses p temp rise head on above first hits rises) := by
  rw [Side.thmEval]
  refine ⟨_, ofSigned 16 ((d.hottest p 0 144).getD (0, -1024)).2,
    ((d.hottest p 0 144).getD (0, -1024)).1, _, _, _, _, _, _, _, _, ?_, rfl⟩
  split <;> rfl

theorem Side.shownKept.thmCauses (h : d.shownKept n e) (hn : n < 16) (p : Pkg) (temp rise head on above : Nat) (first hits rises : Bool) :
    d.shownKept n (e.thmCauses p temp rise head on above first hits rises) := by
  have hshown := ((((h.thmSet hn (f := F.THM_STATUS_CAUSE_TEMP) temp (by decide)).thmSet hn (f := F.THM_STATUS_CAUSE_RISE) rise
    (by decide)).thmSet hn (f := F.THM_STATUS_CAUSE_HEAD) head (by decide)).thmSet hn (f := F.THM_STATUS_THROTTLE) on
    (by decide)).thmSet hn (f := F.THM_STATUS_ABOVE_HARD) above (by decide)
  exact ((hshown.thmFaultIf hn p first (by decide)).thmFaultIf hn p hits (by decide)).thmFaultIf hn p rises (by decide)

theorem Side.shownKept.thmBands (h : d.shownKept n e) (hn : n < 16) (p : Pkg) : d.shownKept n (e.thmBands p) :=
  ((h.bandEval hn p 0 64 (by decide)).bandEval hn p 64 64 (by decide)).bandEval hn p 128 16 (by decide)

theorem Side.shownKept.thmEval (h : d.shownKept n e) (hn : n < 16) (p : Pkg) (met : Bool) : d.shownKept n (e.thmEval p met) := by
  obtain ⟨b, t, k, temp, rise, head, on, above, first, hits, rises, hrf, heq⟩ := e.thmEval_eq p met
  have htheta : d.shownKept n ((e.set F.THM_THETA_TEMP t).set F.THM_THETA_SENSOR k) :=
    (h.thmSet hn t (by decide)).thmSet hn k (by decide)
  have hcauses := (htheta.trans (Side.shownKept_of_rf hrf)).thmCauses hn p temp rise head on above first hits rises
  rw [heq]
  split
  · exact (hcauses.spoilRunning hn p 0x08).thmBands hn p
  · exact hcauses.thmBands hn p

/-! A head's health and temperature (R241, R244). -/

theorem Side.shownKept.health (h : d.shownKept n e) (hn : n < 16) (p : Pkg) (v : Nat) : d.shownKept n (e.health p n v) := by
  have hs : srcRas n < 0x1000 := by unfold srcRas; omega
  unfold Side.health
  dsimp only
  split
  · exact h
  · have hset : d.shownKept n (e.set64 (F.RAS_HEALTH_LO_HEALTH n) (F.RAS_HEALTH_HI_HEALTH n) v) :=
      Side.regsBut.set64 h v (not_shownWords_ras (k := 0x30) rfl (by decide)) (not_shownWords_ras (k := 0x34) rfl (by decide))
    exact hset.faultD hn p _ _ hs (not_shownWords_ras (k := 4) rfl (by decide))

theorem Side.shownKept.setRas (h : d.shownKept n e) (c : Nat) (x : Ras) : d.shownKept n (e.setRas c x) := h

/-- HEAD_TEMP once set, the judgement of the head leaves it. -/
theorem Side.headTemp_shownKept (hn : n < 16) (p : Pkg) (temp : Int) (d : Side) :
    (d.set (F.RAS_HEAD_TEMP_TEMP n) (ofSigned 16 temp)).shownKept n (d.headTemp p n temp) := by
  have hs : srcRas n < 0x1000 := by unfold srcRas; omega
  have hstatus {f : Fld} (hf : f.off = 0x500000 + 4 + 0x10000 * n) : ¬shownWords n f.off := not_shownWords_ras hf (by decide)
  have hkept := Side.shownKept_refl n (d.set (F.RAS_HEAD_TEMP_TEMP n) (ofSigned 16 temp))
  have hsoft := (hkept.set (f := F.RAS_STATUS_HEAD_HOT n) 1 (hstatus rfl)).fault hn p (f := F.RAS_STATUS_HEAD_SOFT n) hs (hstatus rfl)
  unfold Side.headTemp
  dsimp only
  split
  · split
    · exact ((hsoft.setRas n _).fault hn p (f := F.RAS_STATUS_HEAD_HARD n) hs (hstatus rfl)).spoilChan hn p n 0x08
    · exact hsoft
  split
  · exact hkept.set 0 (hstatus rfl)
  · exact hkept

end

/-! The fault pair follows on the hold die (R490), and its postings are all that a side sees. -/

theorem State.setHold_side (s : State) (h : Hold) (z : SideId) : (s.setHold h).side z = s.side z := by cases z <;> rfl

theorem State.both_shownKept {n : Nat} {f : Pkg → Side → Side} (hf : ∀ p (d : Side), d.shownKept n (f p d)) (s : State) (z : SideId) :
    (s.side z).shownKept n ((s.both f).side z) := by
  intro o ho
  rw [State.both_word]
  cases s.pkg.hold.running z
  · rfl
  · exact hf _ _ o ho

theorem State.holdFault_shownKept (s : State) {n src : Nat} (hn : n < 16) (hs : src < 0x1000) (f : Fld) (z : SideId) :
    (s.side z).shownKept n ((s.holdFault src f).side z) := by
  rw [State.holdFault, State.holdFaultD]
  split
  · exact Side.shownKept_refl n _
  · refine Side.shownKept.trans (Side.shownKept_of_rf ?_) (State.both_shownKept (fun p d o ho => ?_) _ z)
    · cases z <;> rfl
    · exact d.routePost_word p _ _ o hs (offPost_of_shownWords hn (not_not.1 ho))

theorem State.fltStart_shownKept (s : State) {n : Nat} (hn : n < 16) (causes : List Nat) (z : SideId) :
    (s.side z).shownKept n ((s.fltStart causes).side z) := by
  unfold State.fltStart
  dsimp only
  refine List.foldlRecOn _ _ (motive := fun t : State => (s.side z).shownKept n (t.side z)) ?first ?next
  case first =>
    refine Side.shownKept.trans ?_ (State.holdFault_shownKept _ hn (by decide) _ z)
    rw [State.setHold_side]
    exact Side.shownKept_refl n _
  case next =>
    intro t ht k _
    split
    · exact ht.trans (t.holdFault_shownKept hn (by decide) _ z)
    · exact ht

theorem State.fltRefresh_shownKept (s : State) {n : Nat} (hn : n < 16) (z : SideId) : (s.side z).shownKept n (s.fltRefresh.side z) := by
  unfold State.fltRefresh
  dsimp only
  have hset (x : Flt) : (s.side z).shownKept n ((s.setFlt x).side z) := by
    rw [State.setFlt, State.setHold_side]
    exact Side.shownKept_refl n _
  split
  · exact hset _
  · exact (hset _).trans (State.fltStart_shownKept _ hn _ z)

end Sys2Proof.Machine
end

section
/-! BLOCK_LOCK, ALIGN_MARKER, TRAIN_BLOCK_RECEIVED, LINK_DOWN and RETRAIN (R190, R194, R196, R197, R220). -/

namespace Sys2Proof.Machine

/-! A lane gains block lock. -/

/-- The port once the receiver of a lane has block lock. -/
def Port.locked (x : Port) (lane : Nat) : Port := { x with lock0 := x.lock0 || lane == 0, lock1 := x.lock1 || lane == 1 }

theorem exec_blockLock {s : State} {n lane : Nat} (h : n < s.pkg.beams) (hlane : lane < 2)
    (htraining : (s.pkg.hold.port n).training = true) :
    exec (.blockLock n lane) s = .next (((s.portNow n).updPort n fun x => (x.locked lane).settle n).mirror n) :=
  if_pos (by simp [State.portOk_of_lt h, hlane, htraining])

theorem State.blockLock_port {s : State} {n : Nat} (lane : Nat) (htraining : (s.pkg.hold.port n).training = true) :
    ∃ y, y = (((s.portNow n).updPort n fun x => (x.locked lane).settle n).mirror n).pkg.hold.port n ∧
      y.lock0 = ((s.pkg.hold.port n).lock0 || lane == 0) ∧ y.lock1 = ((s.pkg.hold.port n).lock1 || lane == 1) ∧
      y.st = if y.lock0 && y.lock1 then 2 else 1 := by
  have hnow := s.portNow_link n
  obtain ⟨-, hx0, hx1, -⟩ := Port.link_iff.1 hnow
  have hafter := State.mirror_link ((s.portNow n).updPort n fun x => (x.locked lane).settle n) n
  rw [State.updPort_port] at hafter
  obtain ⟨hst, h0, h1, -⟩ := Port.link_iff.1 hafter
  obtain ⟨hs0, hs1, -⟩ := (((s.portNow n).pkg.hold.port n).locked lane).settle_keeps n
  refine ⟨_, rfl, ?_, ?_, ?_⟩
  · rw [h0, hs0, Port.locked, hx0]
  · rw [h1, hs1, Port.locked, hx1]
  · rw [hst, h0, h1, hs0, hs1]
    exact Port.settle_st (x := ((s.portNow n).pkg.hold.port n).locked lane) ((Port.training_of_link hnow).trans htraining) n

/-! ALIGN markers arrive. -/

/-- The port once both lanes have sent the same count. -/
def Port.agreed (x : Port) : Port := { x with agree := x.agree + 1, disagree := 0 }

/-- The port once the lanes have sent different counts. -/
def Port.disagreed (x : Port) : Port := { x with agree := 0, disagree := x.disagree + 1 }

theorem exec_alignMarker {s : State} {n : Nat} (h : n < s.pkg.beams) (c : Nat × Nat) :
    exec (.alignMarker n c) s = .next (s.alignMarker n (c.1 % 2 ^ 16 == c.2 % 2 ^ 16)) := if_pos (State.portOk_of_lt h)

theorem State.alignMarker_of_agree {s : State} {n : Nat} (hst : (s.pkg.hold.port n).st ≠ 0) :
    s.alignMarker n true = ((s.portNow n).updPort n fun x => x.agreed.settle n).mirror n := if_neg hst

theorem State.alignMarker_of_first {s : State} {n : Nat} (hst : (s.pkg.hold.port n).st ≠ 0)
    (h : (s.pkg.hold.port n).up = false ∨ (s.pkg.hold.port n).disagree = 0) :
    s.alignMarker n false = (s.updPort n Port.disagreed).mirror n := by
  rw [State.alignMarker, if_neg hst, if_neg Bool.false_ne_true, if_neg (by rcases h with h | h <;> simp [h])]
  rfl

theorem State.alignMarker_of_second {s : State} {n : Nat} (hup : (s.pkg.hold.port n).up = true)
    (h : 1 ≤ (s.pkg.hold.port n).disagree) : s.alignMarker n false = s.linkDown n := by
  rw [State.alignMarker, if_neg (Port.st_ne_of_up hup), if_neg Bool.false_ne_true, if_pos (by simp [hup, h])]

/-- Agreeing markers count, and the second in a row with both locks brings TSTATE 1. -/
theorem State.alignMarker_agree_port {s : State} {n : Nat} (hst : (s.pkg.hold.port n).st ≠ 0) :
    ∃ y, y = (s.alignMarker n true).pkg.hold.port n ∧ y.agree = (s.pkg.hold.port n).agree + 1 ∧ y.disagree = 0 ∧
      ((s.pkg.hold.port n).training = true → (s.pkg.hold.port n).lock0 = true → (s.pkg.hold.port n).lock1 = true →
        1 ≤ (s.pkg.hold.port n).agree → (s.pkg.hold.port n).tx = 0 → y.tx = 1) := by
  have hnow := s.portNow_link n
  obtain ⟨-, hx0, hx1, hxtx, hxagree, -⟩ := Port.link_iff.1 hnow
  have hafter := State.mirror_link ((s.portNow n).updPort n fun x => x.agreed.settle n) n
  rw [State.updPort_port, ← State.alignMarker_of_agree hst] at hafter
  obtain ⟨-, -, -, htx, hagree, hdisagree, -⟩ := Port.link_iff.1 hafter
  obtain ⟨-, -, hsagree, hsdisagree⟩ := ((s.portNow n).pkg.hold.port n).agreed.settle_keeps n
  refine ⟨_, rfl, ?_, hdisagree.trans hsdisagree, fun htraining h0 h1 hone hzero => ?_⟩
  · rw [hagree, hsagree, Port.agreed, hxagree]
  · rw [htx]
    exact Port.settle_tx (x := ((s.portNow n).pkg.hold.port n).agreed) ((Port.training_of_link hnow).trans htraining)
      (hx0.trans h0) (hx1.trans h1) (Nat.succ_le_succ (hxagree ▸ hone)) (hxtx.trans hzero) n

theorem State.alignMarker_first_port {s : State} {n : Nat} (hst : (s.pkg.hold.port n).st ≠ 0)
    (h : (s.pkg.hold.port n).up = false ∨ (s.pkg.hold.port n).disagree = 0) :
    ∃ y, y = (s.alignMarker n false).pkg.hold.port n ∧ y.agree = 0 ∧ y.disagree = (s.pkg.hold.port n).disagree + 1 ∧
      y.st = (s.pkg.hold.port n).st := by
  have hafter := State.mirror_link (s.updPort n Port.disagreed) n
  rw [State.updPort_port, ← State.alignMarker_of_first hst h] at hafter
  obtain ⟨hst', -, -, -, hagree, hdisagree, -⟩ := Port.link_iff.1 hafter
  exact ⟨_, rfl, hagree, hdisagree, hst'⟩

/-! TRAIN blocks arrive (log entries 156 and 157). -/

theorem exec_trainBlockReceived {s : State} {n : Nat} {b : DWord} {v : Option Nat} (h : n < s.pkg.beams) (hb : trainState b = some v) :
    exec (.trainBlockReceived n b) s = .next (s.trainBlock n v) := by
  change execTrainBlockReceived n b s = _
  rw [execTrainBlockReceived, if_pos (State.portOk_of_lt h), hb]

theorem State.trainBlock_of_up {s : State} {n : Nat} (hup : (s.pkg.hold.port n).up = true) (v : Option Nat) :
    s.trainBlock n v = s.linkDown n := if_pos hup

/-- The TRAIN blocks in a row that count on port x after one that carries v. -/
def Port.trainCount (x : Port) (v : Option Nat) : Nat := if v = some 1 ∨ v = some 2 then x.trains + 1 else 0

theorem Port.trainCount_of_counts {x : Port} {v : Option Nat} (h : v = some 1 ∨ v = some 2) : x.trainCount v = x.trains + 1 := if_pos h

theorem Port.trainCount_of_other {x : Port} {v : Option Nat} (h1 : v ≠ some 1) (h2 : v ≠ some 2) : x.trainCount v = 0 :=
  if_neg (not_or.2 ⟨h1, h2⟩)

theorem State.trainBlock_of_training {s : State} {n : Nat} (htraining : (s.pkg.hold.port n).training = true)
    (htx : (s.pkg.hold.port n).tx = 1) (v : Option Nat) : s.trainBlock n v =
    if 16 ≤ (s.pkg.hold.port n).trainCount v then s.portUp n
    else s.updPort n fun x => { x with trains := (s.pkg.hold.port n).trainCount v } := by
  rw [State.trainBlock]
  dsimp only
  rw [if_neg (by simp [Port.up_of_training htraining]), if_pos (by simp [htraining, htx])]
  rfl

theorem State.trainBlock_counted {s : State} {n : Nat} (htraining : (s.pkg.hold.port n).training = true)
    (htx : (s.pkg.hold.port n).tx = 1) {v : Option Nat} {k : Nat} (hk : (s.pkg.hold.port n).trainCount v = k) (hfew : k < 16) :
    ∃ y, y = (s.trainBlock n v).pkg.hold.port n ∧ y.trains = k ∧ y.st = (s.pkg.hold.port n).st := by
  rw [State.trainBlock_of_training htraining htx, hk, if_neg (Nat.not_le.2 hfew)]
  exact ⟨_, rfl, by rw [State.updPort_port], by rw [State.updPort_port]⟩

/-! The port enters UP. -/

theorem Side.portMirror_get (p : Pkg) {n : Nat} (d : Side) {g : Fld} (h : g.off ≠ 0x400004 + 0x1000 * n) :
    (d.portMirror p n).get g = d.get g := by
  rw [Side.portMirror, Side.get_set_off _ _ h, Side.get_set_off _ _ h, Side.get_set_off _ _ h, Side.get_set_off _ _ h]

theorem State.mirror_get (s : State) {n : Nat} (z : SideId) {g : Fld} (h : g.off ≠ 0x400004 + 0x1000 * n) :
    ((s.mirror n).side z).get g = (s.side z).get g := by
  rw [State.mirror, State.both_get]
  cases s.pkg.hold.running z
  · rfl
  · exact Side.portMirror_get s.pkg (s.side z) h

@[simp] theorem State.echoStart_link (s : State) (n : Nat) :
    ((s.echoStart n).pkg.hold.port n).link = (s.pkg.hold.port n).link := by
  have h := Port.link_of_untagged ((s.updPort n fun x => { x with echo := [], echoLeft := 15 }).sendCtrl_untagged n 3 0 0)
  rw [State.updPort_port] at h
  exact h

/-- The port is UP, before its path delay is measured. -/
theorem State.portUp_eq (s : State) (n : Nat) : ∃ t : State,
    s.portUp n = ((t.mirror n).both fun _ d => d.inc (F.BLK_LINKUPS_COUNT n) 1).echoStart n ∧
      (t.pkg.hold.port n).st = 3 ∧ (t.pkg.hold.port n).tx = 2 ∧
      ∀ z, t.side z = s.side z ∧ t.pkg.hold.running z = s.pkg.hold.running z := by
  refine ⟨_, rfl, ?_, ?_, fun z => ⟨?_, rfl⟩⟩
  · rw [State.updPort_port]
  · rw [State.updPort_port]
  · rw [State.updPort_side, State.portNow_side]

@[simp] theorem State.echoStart_side (s : State) (n : Nat) (z : SideId) : (s.echoStart n).side z = s.side z := by
  rw [State.echoStart, State.sendCtrl_side, State.updPort_side]

theorem State.linkUp_counted {s : State} {z : SideId} (hz : s.pkg.hold.running z = true) (n : Nat) :
    (((s.mirror n).both fun _ d => d.inc (F.BLK_LINKUPS_COUNT n) 1).side z).get (F.BLK_LINKUPS_COUNT n) =
      ((s.side z).get (F.BLK_LINKUPS_COUNT n) + 1) % 2 ^ 32 := by
  have hrunning : (s.mirror n).pkg.hold.running z = true := by rw [State.mirror, State.both_running, hz]
  rw [State.both_get, hrunning, Side.ranIf_true, Side.inc, Side.get_set_self _ _ _ (show 0 + 32 ≤ 32 by decide),
    State.mirror_get s z (show 0x400060 + 0x1000 * n ≠ 0x400004 + 0x1000 * n by omega)]
  rfl

theorem State.portUp_effect (s : State) (n : Nat) : ∃ y, y = (s.portUp n).pkg.hold.port n ∧ y.st = 3 ∧ y.tx = 2 ∧ y.echoLeft = 15 ∧
    ∀ z, s.pkg.hold.running z = true →
      ((s.portUp n).side z).get (F.BLK_LINKUPS_COUNT n) = ((s.side z).get (F.BLK_LINKUPS_COUNT n) + 1) % 2 ^ 32 := by
  obtain ⟨t, heq, hst, htx, hside⟩ := s.portUp_eq n
  have hlink := (State.both_link (t.mirror n) (fun _ d => d.inc (F.BLK_LINKUPS_COUNT n) 1) n).trans (t.mirror_link n)
  obtain ⟨hstCounted, -⟩ := Port.link_iff.1 hlink
  obtain ⟨hstAfter, -, -, htxAfter, -⟩ := Port.link_iff.1 ((State.echoStart_link _ n).trans hlink)
  obtain ⟨-, hleft, -⟩ := State.echoStart_port (n := n) (decide_eq_true (Nat.le_of_eq (hstCounted.trans hst).symm))
  rw [heq]
  refine ⟨_, rfl, hstAfter.trans hst, htxAfter.trans htx, hleft, fun z hz => ?_⟩
  obtain ⟨hkept, hrunning⟩ := hside z
  rw [State.echoStart_side, State.linkUp_counted (hrunning.trans hz), hkept]

/-! The link goes down. -/

/-- LINK_LOST stays set while the plates on the channel are spoiled. -/
theorem State.linkDown_lost {s : State} {n : Nat} (hn : n < s.pkg.beams) {z : SideId} (hz : s.pkg.hold.running z = true) :
    ((s.linkDown n).side z).get (F.BLK_STATUS_LINK_LOST n) = 1 := by
  have hlt : n < 16 := Nat.lt_of_lt_of_le hn s.pkg.beams_le
  have hbeams : n < (s.train n).pkg.beams := by rwa [Pkg.beams, State.train_fuses]
  rw [State.linkDown, State.both_get, State.train_running, hz, Side.ranIf_true]
  rw [((Side.shownKept_refl n _).spoilChan hlt (s.train n).pkg n 0x0B).blk_get (by simp only [F.BLK_STATUS_LINK_LOST]; omega)]
  exact Side.blkFault_flag _ hbeams rfl rfl (show 8 < 32 by decide)

theorem exec_linkDown_of_up {s : State} {n lane : Nat} (h : n < s.pkg.beams) (hlane : lane < 2) (hup : (s.pkg.hold.port n).up = true) :
    exec (.linkDown ⟨n, lane⟩) s = .next ((s.updPort n fun x => x.unlock lane).linkDown n) := by
  change execLinkDown ⟨n, lane⟩ s = _
  rw [execLinkDown]
  dsimp only
  rw [if_neg (by simp [State.portOk_of_lt h, hlane]), if_pos hup]

theorem exec_linkDown_of_training {s : State} {n lane : Nat} (h : n < s.pkg.beams) (hlane : lane < 2)
    (htraining : (s.pkg.hold.port n).training = true) :
    exec (.linkDown ⟨n, lane⟩) s = .next ((s.updPort n fun x => x.unlock lane).train n) := by
  change execLinkDown ⟨n, lane⟩ s = _
  rw [execLinkDown]
  dsimp only
  rw [if_neg (by simp [State.portOk_of_lt h, hlane]), if_neg (by simp [Port.up_of_training htraining]), if_pos htraining]

/-! RETRAIN. -/

theorem exec_retrain {s : State} {n : Nat} (h : n < s.pkg.beams) (hdeep : s.pkg.hold.deep = false)
    (hacc : s.accepts true (0x400008 + 0x1000 * n) 1) : exec (.retrain n) s = .next (s.retrain n) := by
  change execRetrain n s = _
  rw [execRetrain, State.blkCmd_of_accepts h hdeep hacc]

theorem State.retrain_of_window {s : State} {n : Nat} (hwindow : s.actSide.plateWindow = true) (hst : (s.pkg.hold.port n).st ≠ 0) :
    s.retrain n = s.train n := by
  rw [State.retrain, if_neg (by simp [hwindow]), if_neg hst]

theorem State.retrain_refused {s : State} {n : Nat} (hwindow : s.actSide.plateWindow = false) : s.retrain n = s.blkViol n :=
  if_pos (by simp [hwindow])

end Sys2Proof.Machine

namespace Sys2Proof.Proofs

open Sys2Proof Sys2Proof.Machine

/-- Settles O23: neither the port's stream nor what a side shows changes a port's link, so each command's own update is what is left of it;
a port that is dropped or retrained trains from the start with its locks as they are. That both locks are STATE ALIGN is log entry 17, UP at the
sixteenth TRAIN block log entry 156, which blocks count log entry 157. -/
theorem portsTrainAndDrop : Obligations.PortsTrainAndDrop := by
  unfold Obligations.PortsTrainAndDrop
  rintro n s x hn rfl
  refine ⟨?lock, ?marker, ?train, ?drop, ?unlock, ?retrain⟩
  case lock =>
    intro lane hlane htraining
    obtain ⟨y, hport, hlocks⟩ := State.blockLock_port lane htraining
    exact ⟨_, y, exec_blockLock hn hlane htraining, hport, hlocks⟩
  case marker =>
    intro c hst
    have hexec := exec_alignMarker hn c
    refine ⟨fun hagree => ?_, fun hdisagree hfirst => ?_⟩
    · rw [beq_iff_eq.2 hagree] at hexec
      obtain ⟨y, hport, hcounts⟩ := State.alignMarker_agree_port hst
      exact ⟨_, y, hexec, hport, hcounts⟩
    · rw [beq_eq_false_iff_ne.2 hdisagree] at hexec
      obtain ⟨y, hport, hcounts⟩ := State.alignMarker_first_port hst hfirst
      exact ⟨_, y, hexec, hport, hcounts⟩
  case train =>
    intro b v hb htraining htx
    have hexec := exec_trainBlockReceived hn hb
    refine ⟨fun hv hfew => ?_, fun hv hmany => ?_, fun h1 h2 => ?_⟩
    · obtain ⟨y, hport, hcount⟩ := State.trainBlock_counted htraining htx (Port.trainCount_of_counts hv) hfew
      exact ⟨_, y, hexec, hport, hcount⟩
    · rw [State.trainBlock_of_training htraining htx, Port.trainCount_of_counts hv, if_pos hmany] at hexec
      obtain ⟨y, hport, hup⟩ := s.portUp_effect n
      exact ⟨_, y, hexec, hport, hup⟩
    · obtain ⟨y, hport, hcount⟩ := State.trainBlock_counted htraining htx (Port.trainCount_of_other h1 h2) (by decide)
      exact ⟨_, y, hexec, hport, hcount⟩
  case drop =>
    rintro hup c (⟨b, v, hb, rfl⟩ | ⟨k, hk, hsecond, rfl⟩ | ⟨lane, hlane, rfl⟩)
    · obtain ⟨htraining, htx, hagree, htrains, -⟩ := s.linkDown_fromStart n
      have hexec := exec_trainBlockReceived hn hb
      rw [State.trainBlock_of_up hup] at hexec
      exact ⟨_, _, hexec, rfl, htraining, htx, hagree, htrains, nofun, fun z hz => State.linkDown_lost hn hz⟩
    · obtain ⟨htraining, htx, hagree, htrains, -⟩ := s.linkDown_fromStart n
      have hexec := exec_alignMarker hn k
      rw [beq_eq_false_iff_ne.2 hk, State.alignMarker_of_second hup hsecond] at hexec
      exact ⟨_, _, hexec, rfl, htraining, htx, hagree, htrains, nofun, fun z hz => State.linkDown_lost hn hz⟩
    · obtain ⟨htraining, htx, hagree, htrains, h0, h1⟩ := (s.updPort n fun x => x.unlock lane).linkDown_fromStart n
      rw [State.updPort_port] at h0 h1
      refine ⟨_, _, exec_linkDown_of_up hn hlane hup, rfl, htraining, htx, hagree, htrains, ?_, fun z hz => ?_⟩
      · rintro _ ⟨⟩
        exact ⟨h0, h1⟩
      · exact State.linkDown_lost (s := s.updPort n fun x => x.unlock lane) hn hz
  case unlock =>
    intro htraining lane hlane
    obtain ⟨htraining', htx, hagree, htrains, h0, h1⟩ := (s.updPort n fun x => x.unlock lane).train_fromStart n
    rw [State.updPort_port] at h0 h1
    exact ⟨_, _, exec_linkDown_of_training hn hlane htraining, rfl, htx, h0, h1, hagree, htrains, htraining'⟩
  case retrain =>
    intro hacc hdeep
    have hexec := exec_retrain hn hdeep hacc
    refine ⟨fun hwindow hst => ?_, fun hwindow => ?_⟩
    · rw [State.retrain_of_window hwindow hst] at hexec
      obtain ⟨htraining, htx, hagree, htrains, h0, h1⟩ := s.train_fromStart n
      exact ⟨_, _, hexec, rfl, htraining, htx, hagree, htrains, h0, h1⟩
    · rw [State.retrain_refused hwindow] at hexec
      obtain ⟨hport, hviol⟩ := State.blkViol_effect hn
      exact ⟨_, hexec, Port.st_of_unhanded hport, hviol⟩

end Sys2Proof.Proofs
end

section
/-! BLANK, BLANK_REPEAT and ALIGN_BLOCK_SEND (R194, R212, R220, R467). -/

namespace Sys2Proof.Machine

/-! BLANK. -/

theorem Port.blanks_of_unhanded {x y : Port} (h : x.unhanded = y.unhanded) : x.blanks = y.blanks := congrArg (·.blanks) h

/-- Cause 3 and the beams that UNBLANK is owed to are not the sides' to change, nor the stream's. -/
theorem Port.blanking_of_unhanded {x y : Port} (h : x.unhanded = y.unhanded) : x.cause3 = y.cause3 ∧ x.owed = y.owed ∧ x.st = y.st :=
  ⟨congrArg (·.cause3) h, congrArg (·.owed) h, congrArg (·.st) h⟩

theorem Port.blanking_of_unframed {x y : Port} (h : x.unframed = y.unframed) : x.cause3 = y.cause3 ∧ x.owed = y.owed ∧ x.st = y.st :=
  ⟨congrArg (·.cause3) h, congrArg (·.owed) h, congrArg (·.st) h⟩

/-- The port once cause 3 holds its beams. -/
def Port.held (x : Port) : Port := { x with cause3 := true }

theorem exec_blank {s : State} {n : Nat} (h : n < s.pkg.beams) (hdeep : s.pkg.hold.deep = false)
    (hacc : s.accepts true (0x400008 + 0x1000 * n) 4) : exec (.blank n) s = .next (s.blankCmd n) := by
  change execBlank n s = _
  rw [execBlank, State.blkCmd_of_accepts h hdeep hacc]

/-- The state in which the sides show the port that BLANK holds. -/
def State.blankHeld (s : State) (n : Nat) : State := (s.updPort n Port.held).sendBlank n allBeams 3

theorem State.blankCmd_eq (s : State) (n : Nat) : s.blankCmd n = (s.blankHeld n).mirror n := rfl

theorem State.blankHeld_blanking (s : State) (n : Nat) : ((s.blankHeld n).pkg.hold.port n).cause3 = true ∧
    ((s.blankHeld n).pkg.hold.port n).owed = Nat.lor (s.pkg.hold.port n).owed allBeams ∧
    ((s.blankHeld n).pkg.hold.port n).st = (s.pkg.hold.port n).st := by
  have hkeep := (s.updPort n Port.held).putBlanks_unframed n 4 [(allBeams, 3)]
  rw [State.updPort_port] at hkeep
  obtain ⟨hcause, howed, hst⟩ := Port.blanking_of_unframed hkeep
  rw [State.blankHeld, State.sendBlank_port]
  exact ⟨hcause, congrArg (Nat.lor · allBeams) howed, hst⟩

/-- The block of cause 3 waits for each of the next four slots. -/
theorem State.mem_blankHeld {s : State} {n i : Nat} (hst : (s.pkg.hold.port n).st ≠ 0) (hi : i < 4) :
    (slotsBefore n s.pkg.now + i, blankBlk allBeams 3) ∈ ((s.blankHeld n).pkg.hold.port n).blanks := by
  rw [State.blankHeld, State.sendBlank_port]
  exact State.mem_putBlanks (s := s.updPort n Port.held) (by rw [State.updPort_port]; exact hst)
    (List.mem_singleton_self (allBeams, 3)) hi

theorem Hold.blanked_of_cause3 {h : Hold} {n : Nat} (hcause : (h.port n).cause3 = true) : h.blanked n = allBeams := by
  rw [Hold.blanked]
  exact if_pos (by simp [hcause])

theorem Side.portMirror_blanking (p : Pkg) (n : Nat) (d : Side) :
    (d.portMirror p n).get (F.BLK_STATUS_BLANKING n) = b2n (p.hold.blanked n != 0) % 2 :=
  Side.get_set_self _ (F.BLK_STATUS_BLANKING n) _ (show 5 + 1 ≤ 32 by decide)

theorem State.blankCmd_shown (s : State) (n : Nat) {z : SideId} (hz : s.pkg.hold.running z = true) :
    ((s.blankCmd n).side z).get (F.BLK_STATUS_BLANKING n) = 1 := by
  have hrunning : (s.blankHeld n).pkg.hold.running z = true := by
    rw [State.blankHeld, State.sendBlank_running, State.updPort_running, hz]
  rw [State.blankCmd_eq, State.mirror, State.both_get, hrunning, Side.ranIf_true, Side.portMirror_blanking,
    Hold.blanked_of_cause3 (s.blankHeld_blanking n).1]
  rfl

/-! BLANK_REPEAT. -/

theorem exec_blankRepeat {s : State} {n : Nat} (h : n < s.pkg.beams) (k : Nat) :
    exec (.blankRepeat ⟨n, k⟩) s = .next ((s.advance k).blankRepeat n) := if_pos (State.portOk_of_lt h)

/-! ALIGN_BLOCK_SEND. -/

theorem exec_alignBlockSend {s : State} {n : Nat} (h : n < s.pkg.beams) (k : Nat) :
    exec (.alignBlockSend ⟨n, k⟩) s = .next ((s.advance k).alignSend n) := if_pos (State.portOk_of_lt h)

/-- The last slot kept for ALIGN that has begun. -/
def State.lastAlign (s : State) (n : Nat) : Nat := (slotsBefore n s.pkg.now - 1) / alignPeriod * alignPeriod

theorem State.alignSend_of_none {s : State} {n : Nat}
    (h : (s.pkg.hold.port n).st = 0 ∨ s.lastAlign n ≤ (s.pkg.hold.port n).alignSlot) : s.alignSend n = s :=
  if_pos (by simpa [State.lastAlign] using h)

/-- The port once both lanes have sent ALIGN in slot m, pre-emphasis code pre being wanted. -/
def Port.aligned (x : Port) (m pre : Nat) : Port :=
  { x with marks := (x.marks + 1) % 2 ^ 16, pre := pre, alignSlot := m,
           wire := x.wire ++ [.blk (2 * m) (alignBlk 0 x.marks), .blk (2 * m + 1) (alignBlk 1 x.marks)] }

theorem State.alignSend_of_due {s : State} {n : Nat} (hst : (s.pkg.hold.port n).st ≠ 0)
    (hdue : (s.pkg.hold.port n).alignSlot < s.lastAlign n) :
    s.alignSend n = (s.runPort n).updPort n fun x => x.aligned (s.lastAlign n) s.preWanted := by
  rw [State.alignSend]
  exact if_neg (by simpa [State.lastAlign] using ⟨hst, hdue⟩)

theorem State.alignSend_port {s : State} {n : Nat} (hst : (s.pkg.hold.port n).st ≠ 0)
    (hdue : (s.pkg.hold.port n).alignSlot < s.lastAlign n) : ∃ y w, y = (s.alignSend n).pkg.hold.port n ∧ y.alignSlot = s.lastAlign n ∧
      y.marks = ((s.pkg.hold.port n).marks + 1) % 2 ^ 16 ∧ y.pre = s.preWanted ∧ (∀ z, (s.alignSend n).side z = s.side z) ∧
      y.wire = w ++ [.blk (2 * s.lastAlign n) (alignBlk 0 (s.pkg.hold.port n).marks),
        .blk (2 * s.lastAlign n + 1) (alignBlk 1 (s.pkg.hold.port n).marks)] := by
  have hmarks : ((s.runPort n).pkg.hold.port n).marks = (s.pkg.hold.port n).marks := congrArg (·.marks) (s.runPort_unframed n)
  rw [State.alignSend_of_due hst hdue]
  refine ⟨_, ((s.runPort n).pkg.hold.port n).wire, (State.updPort_port _ n _).symm, rfl, ?_, rfl, fun z => ?_, ?_⟩
  · rw [Port.aligned, hmarks]
  · rw [State.updPort_side, State.runPort, State.updPort_side]
  · rw [Port.aligned, hmarks]

end Sys2Proof.Machine

namespace Sys2Proof.Proofs

open Sys2Proof Sys2Proof.Machine

/-- Settles O24: a block of BLANK waits for its slot behind nothing but the blocks that wait already, and what a port has of blanking is
neither its stream's nor the sides' to change; the two ALIGN blocks are the last on the wire, behind what the stream has sent until then. -/
theorem blankAndAlignBlocks : Obligations.BlankAndAlignBlocks := by
  unfold Obligations.BlankAndAlignBlocks
  rintro n s x hn rfl
  refine ⟨?blank, ?again, ?align⟩
  case blank =>
    intro hacc hdeep
    have hafter := (s.blankHeld n).mirror_unhanded n n
    obtain ⟨hcause, howed, hst⟩ := Port.blanking_of_unhanded hafter
    obtain ⟨hcause', howed', hst'⟩ := s.blankHeld_blanking n
    refine ⟨_, _, exec_blank hn hdeep hacc, rfl, hcause.trans hcause', howed.trans howed', hst.trans hst', fun hon i hi => ?_,
      fun z hz => s.blankCmd_shown n hz⟩
    rw [State.blankCmd_eq, Port.blanks_of_unhanded hafter]
    exact State.mem_blankHeld hon hi
  case again =>
    intro k
    have hport : (s.advance k).pkg.hold.port n = s.pkg.hold.port n := by rw [State.advance_pkg, Pkg.advance_hold]
    refine ⟨_, _, exec_blankRepeat hn k, rfl, fun z => ?_, fun hon e he => ?_, fun hoff => ?_⟩
    · rw [State.blankRepeat, State.putBlanks_side, State.advance_side]
    · have he : e ∈ (s.advance k).pkg.hold.causes n := by rwa [State.advance_pkg, Pkg.advance_hold]
      have hmem := State.mem_putBlanks (s := s.advance k) (n := n) (hport ▸ hon) he Nat.zero_lt_one
      rwa [Nat.add_zero, State.advance_pkg] at hmem
    · rw [State.blankRepeat, State.putBlanks_of_off (hport ▸ hoff), hport]
  case align =>
    intro k m hm
    rw [← State.advance_pkg, ← State.lastAlign] at hm
    subst hm
    have hport : (s.advance k).pkg.hold.port n = s.pkg.hold.port n := by rw [State.advance_pkg, Pkg.advance_hold]
    have hpre : (s.advance k).preWanted = s.actSide.get F.THM_BANDS_BAND_HLD := by
      rw [State.preWanted, State.actSide, State.advance_pkg, Pkg.advance_hold, State.advance_side]
      rfl
    refine ⟨fun hon hdue => ?_, fun h => ?_⟩
    · obtain ⟨y, w, hy, hslot, hmarks, hcode, hside, hwire⟩ :=
        State.alignSend_port (s := s.advance k) (n := n) (hport ▸ hon) (hport ▸ hdue)
      rw [hport] at hmarks hwire
      exact ⟨_, y, w, exec_alignBlockSend hn k, hy, hslot, hmarks, hcode.trans hpre,
        fun z => (hside z).trans (s.advance_side k z), hwire⟩
    · rw [exec_alignBlockSend hn k, State.alignSend_of_none (hport ▸ h)]

end Sys2Proof.Proofs
end

section
/-! What upstream frames and a silent head leave of a port and of what the sides show of it (R199, R215 to R217, R244). -/

namespace Sys2Proof.Machine

/-! A port is updated, the sides that run follow, and the fault pair is judged again. -/

theorem State.judged_unhanded (s : State) (n : Nat) (f : Port → Port) (g : Pkg → Side → Side) :
    ((((s.updPort n f).both g).fltRefresh).pkg.hold.port n).unhanded = (f (s.pkg.hold.port n)).unhanded := by
  rw [State.fltRefresh_unhanded, State.both_unhanded, State.updPort_port]

/-- The judgement leaves what a side's work shows of the port and its head. -/
theorem State.judged_shownKept {s : State} {n : Nat} (hn : n < 16) (f : Port → Port) (g : Pkg → Side → Side) {z : SideId}
    (hz : s.pkg.hold.running z = true) :
    (g (s.updPort n f).pkg (s.side z)).shownKept n (((s.updPort n f).both g).fltRefresh.side z) := by
  obtain ⟨l, hside⟩ := State.both_of_running (s := s.updPort n f) hz g
  rw [State.updPort_side] at hside
  refine Side.shownKept.trans (Side.shownKept_of_rf ?_) (State.fltRefresh_shownKept _ hn z)
  rw [hside]

/-- The sides change nothing of what a port has of STAT. -/
theorem Port.stat_of_unhanded {x y : Port} (h : x.unhanded = y.unhanded) :
    x.statSeen = y.statSeen ∧ x.silent = y.silent ∧ x.statAt = y.statAt :=
  ⟨congrArg (·.statSeen) h, congrArg (·.silent) h, congrArg (·.statAt) h⟩

/-- Nor of what it has of ENC. -/
theorem Port.enc_of_unhanded {x y : Port} (h : x.unhanded = y.unhanded) :
    x.enc = y.enc ∧ x.encAt = y.encAt ∧ x.rxAt = y.rxAt ∧ x.ref = y.ref ∧ x.tMove = y.tMove :=
  ⟨congrArg (·.enc) h, congrArg (·.encAt) h, congrArg (·.rxAt) h, congrArg (·.ref) h, congrArg (·.tMove) h⟩

/-! What a side shows of a STAT frame (R216). -/

/-- A side that has stored the first m words of a STAT frame of port n. -/
def Side.statStored (n m : Nat) (w : Nat → Nat) (d : Side) : Side :=
  (List.range m).foldl (fun d k => d.set (F.BLK_STATW_WORD n k) (w k)) d

theorem Side.statStored_succ (n m : Nat) (w : Nat → Nat) (d : Side) :
    d.statStored n (m + 1) w = (d.statStored n m w).set (F.BLK_STATW_WORD n m) (w m) := by
  rw [Side.statStored, List.range_succ, List.foldl_append]
  rfl

theorem Side.statStored_word (n : Nat) (w : Nat → Nat) (d : Side) {j m : Nat} (h : j < m) :
    (d.statStored n m w).get (F.BLK_STATW_WORD n j) = w j % 2 ^ 32 := by
  induction m with
  | zero => cases h
  | succ m ih =>
    rw [Side.statStored_succ]
    rcases Nat.lt_succ_iff_lt_or_eq.1 h with hlt | rfl
    · rw [Side.get_set_off _ _ (show 0x400030 + 0x1000 * n + 4 * j ≠ 0x400030 + 0x1000 * n + 4 * m by omega), ih hlt]
    · exact Side.get_set_self _ (F.BLK_STATW_WORD n j) _ (show 0 + 32 ≤ 32 by decide)

theorem Side.statStored_get (n m : Nat) (w : Nat → Nat) (d : Side) {g : Fld} (hm : m ≤ 7) (h : 0x40004C + 0x1000 * n ≤ g.off) :
    (d.statStored n m w).get g = d.get g := by
  induction m with
  | zero => rfl
  | succ m ih =>
    rw [Side.statStored_succ, Side.get_set_off _ _ (show g.off ≠ 0x400030 + 0x1000 * n + 4 * m by omega), ih (by omega)]

/-- The frame is stored, stamped and counted. -/
def Side.statCounted (p : Pkg) (n : Nat) (w : Nat → Nat) (d : Side) : Side :=
  ((d.statStored n 7 w).set (F.BLK_STAT_TS_TIME n) (d.dev p % 2 ^ 32)).inc (F.BLK_RX_FRAMES_COUNT n) 1

/-- Side e shows of port n a STAT frame of words w that side d took at a device time. -/
def Side.statShown (d : Side) (n : Nat) (w : Nat → Nat) (dev : Nat) (e : Side) : Prop :=
  (∀ j, j < 7 → e.get (F.BLK_STATW_WORD n j) = w j % 2 ^ 32) ∧ e.get (F.BLK_STAT_TS_TIME n) = dev % 2 ^ 32 ∧
    e.get (F.BLK_RX_FRAMES_COUNT n) = (d.get (F.BLK_RX_FRAMES_COUNT n) + 1) % 2 ^ 32

/-- What it shows lies in the BLK block, outside the port's STATUS. -/
theorem Side.statShown_congr {d e e' : Side} {n dev : Nat} {w : Nat → Nat} (hn : n < 16) (h : d.statShown n w dev e)
    (hkept : ∀ g : Fld, 0x400000 ≤ g.off → g.off < 0x410000 → g.off ≠ 0x400004 + 0x1000 * n → e'.get g = e.get g) :
    d.statShown n w dev e' := by
  obtain ⟨hwords, hstamp, hcount⟩ := h
  refine ⟨fun j hj => (hkept _ ?_ ?_ ?_).trans (hwords j hj), (hkept _ ?_ ?_ ?_).trans hstamp, (hkept _ ?_ ?_ ?_).trans hcount⟩
  all_goals
    simp only [F.BLK_STATW_WORD, F.BLK_STAT_TS_TIME, F.BLK_RX_FRAMES_COUNT]
    omega

theorem Side.statCounted_shown (p : Pkg) (n : Nat) (w : Nat → Nat) (d : Side) : d.statShown n w (d.dev p) (d.statCounted p n w) := by
  have hcount {g : Fld} (h : g.off ≠ 0x400054 + 0x1000 * n) : (d.statCounted p n w).get g =
      ((d.statStored n 7 w).set (F.BLK_STAT_TS_TIME n) (d.dev p % 2 ^ 32)).get g := Side.get_set_off _ _ h
  refine ⟨fun j hj => ?_, ?_, ?_⟩
  · rw [hcount (show 0x400030 + 0x1000 * n + 4 * j ≠ _ by omega),
      Side.get_set_off _ _ (show 0x400030 + 0x1000 * n + 4 * j ≠ 0x40004C + 0x1000 * n by omega)]
    exact d.statStored_word n w hj
  · rw [hcount (show 0x40004C + 0x1000 * n ≠ _ by omega), Side.get_set_self _ _ _ (show 0 + 32 ≤ 32 by decide)]
    exact Nat.mod_mod _ _
  · rw [Side.statCounted, Side.inc, Side.get_set_self _ _ _ (show 0 + 32 ≤ 32 by decide),
      Side.get_set_off _ _ (show 0x400054 + 0x1000 * n ≠ 0x40004C + 0x1000 * n by omega),
      d.statStored_get n 7 w (Nat.le_refl 7) (show _ ≤ 0x400054 + 0x1000 * n by omega)]
    rfl

/-- The order of a side's work on a STAT frame: counted, the counters and the health compared, the head judged, then the module's band and
the temperatures. -/
theorem Side.stat_eq (p : Pkg) (n : Nat) (w : Nat → Nat) (seen waveErr : Bool) (d : Side) : ∃ (adv : Bool) (health valid band : Nat),
    d.stat p n w seen waveErr =
      (((((((d.statCounted p n w).faultIf p adv (srcBlk n) (F.BLK_STATUS_REMOTE_ERR n)).health p n health).set
        (F.RAS_HEAD_TEMP_VALID n) valid).headTemp p n (toSigned 16 (w 0))).set (modBand n) band).thmEval p false).faultIf p waveErr 0x290
          F.THM_STATUS_WAVE_ERR := by
  rw [Side.stat]
  exact ⟨_, _, _, _, rfl⟩

theorem Side.faultIf_get (d : Side) (p : Pkg) (c : Bool) {src : Nat} {f g : Fld} (hs : src < 0x1000) (h : offPost g.off)
    (ho : g.off ≠ f.off) : (d.faultIf p c src f).get g = d.get g := by
  rw [Side.faultIf]
  split
  · exact d.fault_get p src f g hs h ho
  · rfl

theorem ofSigned_lt (w : Nat) (i : Int) : ofSigned w i < 2 ^ w := by
  have hpos : (0 : Int) < ((2 ^ w : Nat) : Int) := Int.natCast_pos.2 (Nat.two_pow_pos w)
  rw [ofSigned]
  exact (Int.toNat_lt (Int.emod_nonneg i hpos.ne')).2 (Int.emod_lt_of_pos i hpos)

/-- A head's temperature, once set, is what its register reads. -/
theorem Side.headTemp_get {n : Nat} {d e : Side} {temp : Int}
    (h : (d.set (F.RAS_HEAD_TEMP_TEMP n) (ofSigned 16 temp)).shownKept n e) : e.get (F.RAS_HEAD_TEMP_TEMP n) = ofSigned 16 temp := by
  rw [h.get (.inr rfl), Side.get_set_self _ _ _ (show 0 + 16 ≤ 32 by decide)]
  exact Nat.mod_eq_of_lt (ofSigned_lt 16 temp)

theorem Side.stat_shown {p : Pkg} {n : Nat} (hn : n < 16) (w : Nat → Nat) (seen waveErr : Bool) (d : Side) :
    d.statShown n w (d.dev p) (d.stat p n w seen waveErr) ∧
      (d.stat p n w seen waveErr).get (F.RAS_HEAD_TEMP_TEMP n) = ofSigned 16 (toSigned 16 (w 0)) := by
  obtain ⟨adv, health, valid, band, heq⟩ := d.stat_eq p n w seen waveErr
  have hsrc : srcBlk n < 0x1000 := by unfold srcBlk; omega
  have hjudged := (((Side.headTemp_shownKept hn p (toSigned 16 (w 0))
    ((((d.statCounted p n w).faultIf p adv (srcBlk n) (F.BLK_STATUS_REMOTE_ERR n)).health p n health).set (F.RAS_HEAD_TEMP_VALID n)
      valid)).thmSet hn (f := modBand n) band (show 0x1100000 ≤ 0x110001C by decide)).thmEval hn p false).thmFaultIf hn p waveErr
        (f := F.THM_STATUS_WAVE_ERR) (by decide)
  rw [← heq] at hjudged
  refine ⟨Side.statShown_congr hn (d.statCounted_shown p n w) fun g hlo hhi hstatus => ?_, Side.headTemp_get hjudged⟩
  have htemp : g.off ≠ 0x500038 + 0x10000 * n := by omega
  rw [hjudged.blk_get ⟨hlo, hhi⟩, Side.get_set_off _ _ htemp, Side.get_set_off _ _ htemp,
    ((Side.shownKept_refl n _).health hn p health).blk_get ⟨hlo, hhi⟩,
    Side.faultIf_get _ p adv hsrc (offPost_of_shownWords hn (.inl ⟨hlo, hhi⟩)) hstatus]

end Sys2Proof.Machine
end

section
/-! STAT_RECEIVED, STAT_SILENT, ENC_RECEIVED and UPSTREAM_FRAME_ERROR (R199, R215 to R217, R244, R397). -/

namespace Sys2Proof.Machine

/-! STAT_RECEIVED. -/

/-- Word k of a STAT frame. -/
def statWord (l : List Word) (k : Nat) : Nat := (l.getD k 0).toNat

theorem exec_statReceived {s : State} {n : Nat} (h : n < s.pkg.beams) (l : List Word) (k : Nat) :
    exec (.statReceived n l k) s = .next ((s.advance k).statFrame n l) := if_pos (State.portOk_of_lt h)

theorem State.statFrame_of_down {s : State} {n : Nat} (hdown : (s.pkg.hold.port n).up = false) (l : List Word) : s.statFrame n l = s :=
  if_pos (by rw [hdown]; rfl)

/-- The port x at which a STAT frame arrives at a device time: bad frames in a row disagree with the module's table, wave is the table to
select. -/
def Port.statTaken (x : Port) (dev bad : Nat) (wave : Option (Nat × Nat × Nat)) : Port :=
  { x with statAt := dev, statSeen := true, silent := false, waveBad := bad, wave := wave }

theorem State.statFrame_of_up {s : State} {n : Nat} (hup : (s.pkg.hold.port n).up = true) (l : List Word) :
    ∃ (f : Port → Port) (seen waveErr : Bool), s.statFrame n l =
      ((s.updPort n f).both fun p d => d.stat p n (statWord l) seen waveErr).fltRefresh ∧
        ∀ x, ∃ bad wave, f x = x.statTaken s.dev bad wave := by
  rw [State.statFrame]
  dsimp only
  rw [if_neg (by simp [hup])]
  exact ⟨_, _, _, rfl, fun x => ⟨_, _, rfl⟩⟩

theorem State.statFrame_effect {s : State} {n : Nat} (hn : n < 16) (hup : (s.pkg.hold.port n).up = true) (l : List Word) :
    ∃ y, y = (s.statFrame n l).pkg.hold.port n ∧ y.statSeen = true ∧ y.silent = false ∧ y.statAt = s.dev ∧
      ∀ z, s.pkg.hold.running z = true →
        (s.side z).statShown n (statWord l) ((s.side z).dev s.pkg) ((s.statFrame n l).side z) ∧
          ((s.statFrame n l).side z).get (F.RAS_HEAD_TEMP_TEMP n) = ofSigned 16 (toSigned 16 (statWord l 0)) := by
  obtain ⟨f, seen, waveErr, heq, hf⟩ := State.statFrame_of_up hup l
  obtain ⟨bad, wave, hport⟩ := hf (s.pkg.hold.port n)
  have hafter := s.judged_unhanded n f fun p d => d.stat p n (statWord l) seen waveErr
  rw [← heq, hport] at hafter
  obtain ⟨hseen, hsilent, hat⟩ := Port.stat_of_unhanded hafter
  refine ⟨_, rfl, hseen, hsilent, hat, fun z hz => ?_⟩
  have hkept := State.judged_shownKept hn f (fun p d => d.stat p n (statWord l) seen waveErr) hz
  obtain ⟨hshown, htemp⟩ := (s.side z).stat_shown (p := (s.updPort n f).pkg) hn (statWord l) seen waveErr
  rw [← heq] at hkept
  exact ⟨Side.statShown_congr hn hshown fun g hlo hhi _ => hkept.blk_get ⟨hlo, hhi⟩, (hkept.get (.inr rfl)).trans htemp⟩

/-! STAT_SILENT. -/

theorem exec_statSilent {s : State} {n : Nat} (h : n < s.pkg.beams) (k : Nat) :
    exec (.statSilent n k) s = .next ((s.advance k).statSilent n) := if_pos (State.portOk_of_lt h)

/-- The instant from which a head without STAT is silent: four intervals after the last. -/
def State.silentFrom (s : State) (n : Nat) : Nat := (s.pkg.hold.port n).statAt + 40000 * s.actSide.get (F.BLK_CFG_STAT_10US n)

theorem State.statSilent_of_not {s : State} {n : Nat}
    (h : (s.pkg.hold.port n).up = false ∨ (s.pkg.hold.port n).silent = true ∨ reached s.dev (s.silentFrom n) = false) :
    s.statSilent n = s := if_pos (by simpa [State.silentFrom, or_assoc] using h)

/-- The port whose head is found silent. -/
def Port.silenced (x : Port) : Port := { x with silent := true }

/-- A side that finds the head of port n silent, which then reads 150 °C. -/
def Side.statSilent (p : Pkg) (n : Nat) (d : Side) : Side :=
  ((d.fault p (srcBlk n) (F.BLK_STATUS_SILENT n)).headTemp p n 2400).thmEval p false

theorem State.statSilent_of_due {s : State} {n : Nat} (hup : (s.pkg.hold.port n).up = true)
    (hheard : (s.pkg.hold.port n).silent = false) (hdue : reached s.dev (s.silentFrom n) = true) :
    s.statSilent n = ((s.updPort n Port.silenced).both fun p d => d.statSilent p n).fltRefresh := by
  rw [State.silentFrom] at hdue
  rw [State.statSilent]
  exact if_neg (by simp [hup, hheard, hdue])

theorem Side.statSilent_shown (d : Side) {p : Pkg} {n : Nat} (hn : n < p.beams) : (d.statSilent p n).get (F.BLK_STATUS_SILENT n) = 1 ∧
    (d.statSilent p n).get (F.RAS_HEAD_TEMP_TEMP n) = 2400 := by
  have hlt : n < 16 := Nat.lt_of_lt_of_le hn p.beams_le
  have hkept := (Side.headTemp_shownKept hlt p 2400 (d.fault p (srcBlk n) (F.BLK_STATUS_SILENT n))).thmEval hlt p false
  refine ⟨?_, Side.headTemp_get hkept⟩
  rw [Side.statSilent, hkept.blk_get (by simp only [F.BLK_STATUS_SILENT]; omega),
    Side.get_set_off _ _ (show 0x400004 + 0x1000 * n ≠ 0x500038 + 0x10000 * n by omega)]
  exact d.blkFault_flag hn rfl rfl (show 9 < 32 by decide)

theorem State.statSilent_effect {s : State} {n : Nat} (hn : n < s.pkg.beams) (hup : (s.pkg.hold.port n).up = true)
    (hheard : (s.pkg.hold.port n).silent = false) (hdue : reached s.dev (s.silentFrom n) = true) :
    ((s.statSilent n).pkg.hold.port n).silent = true ∧ ∀ z, s.pkg.hold.running z = true →
      ((s.statSilent n).side z).get (F.BLK_STATUS_SILENT n) = 1 ∧ ((s.statSilent n).side z).get (F.RAS_HEAD_TEMP_TEMP n) = 2400 := by
  have hlt : n < 16 := Nat.lt_of_lt_of_le hn s.pkg.beams_le
  rw [State.statSilent_of_due hup hheard hdue]
  obtain ⟨-, hsilenced, -⟩ := Port.stat_of_unhanded (s.judged_unhanded n Port.silenced fun p d => d.statSilent p n)
  refine ⟨hsilenced, fun z hz => ?_⟩
  have hkept := State.judged_shownKept hlt Port.silenced (fun p d => d.statSilent p n) hz
  obtain ⟨hsilent, htemp⟩ := (s.side z).statSilent_shown (p := (s.updPort n Port.silenced).pkg) hn
  exact ⟨(hkept.blk_get (by simp only [F.BLK_STATUS_SILENT]; omega)).trans hsilent, (hkept.get (.inr rfl)).trans htemp⟩

/-! ENC_RECEIVED. -/

theorem exec_encReceived {s : State} {n : Nat} (h : n < s.pkg.beams) (a b c ts : Word) (k : Nat) :
    exec (.encReceived n a b c ts k) s = .next ((s.advance k).encFrame n a.toNat b.toNat c.toNat ts.toNat) :=
  if_pos (State.portOk_of_lt h)

theorem State.encFrame_of_down {s : State} {n : Nat} (hdown : (s.pkg.hold.port n).up = false) (a b c ts : Nat) :
    s.encFrame n a b c ts = s := if_pos (by rw [hdown]; rfl)

/-- The dwell guard of port n is on and sees counts a and b as a movement. -/
def State.dwellMoved (s : State) (n a b : Nat) : Bool :=
  s.pkg.hold.flag (F.HLD_DWELL_CFG_EN n) && moved (a, b) (s.pkg.hold.port n).ref (s.pkg.hold.get (F.HLD_DWELL_CFG_MOVE n))

/-- The port x that has taken an ENC frame at device time dev: its counts, the time tm of its sample, and the guard's reference where hit. -/
def Port.encTaken (x : Port) (a b c tm dev : Nat) (hit : Bool) : Port :=
  { x with enc := (a, b, c), encAt := some tm, rxAt := dev, ref := if hit then (a, b) else x.ref, tMove := if hit then tm else x.tMove }

theorem Port.encTaken_reference (x : Port) (a b c tm dev : Nat) (hit : Bool) :
    (hit = true → (x.encTaken a b c tm dev hit).ref = (a, b) ∧ (x.encTaken a b c tm dev hit).tMove = tm) ∧
      (hit = false → (x.encTaken a b c tm dev hit).ref = x.ref ∧ (x.encTaken a b c tm dev hit).tMove = x.tMove) := by
  cases hit
  · exact ⟨nofun, fun _ => ⟨rfl, rfl⟩⟩
  · exact ⟨fun _ => ⟨rfl, rfl⟩, nofun⟩

theorem State.encFrame_of_up {s : State} {n : Nat} (hup : (s.pkg.hold.port n).up = true) (a b c ts : Nat) :
    s.encFrame n a b c ts = (s.updPort n fun x => x.encTaken a b c (extendStamp ts s.dev) s.dev (s.dwellMoved n a b)).both
      fun _ d => d.inc (F.BLK_RX_FRAMES_COUNT n) 1 := by
  rw [State.encFrame]
  exact if_neg (by simp [hup])

theorem State.encFrame_port {s : State} {n : Nat} (hup : (s.pkg.hold.port n).up = true) (a b c ts : Nat) :
    ((s.encFrame n a b c ts).pkg.hold.port n).unhanded =
      ((s.pkg.hold.port n).encTaken a b c (extendStamp ts s.dev) s.dev (s.dwellMoved n a b)).unhanded := by
  rw [State.encFrame_of_up hup, State.both_unhanded, State.updPort_port]

theorem State.encFrame_counted {s : State} {n : Nat} (hup : (s.pkg.hold.port n).up = true) (a b c ts : Nat) {z : SideId}
    (hz : s.pkg.hold.running z = true) :
    ((s.encFrame n a b c ts).side z).get (F.BLK_RX_FRAMES_COUNT n) = ((s.side z).get (F.BLK_RX_FRAMES_COUNT n) + 1) % 2 ^ 32 := by
  rw [State.encFrame_of_up hup, State.both_get, State.updPort_running, hz, Side.ranIf_true, State.updPort_side]
  exact Side.get_set_self _ (F.BLK_RX_FRAMES_COUNT n) _ (show 0 + 32 ≤ 32 by decide)

theorem State.encFrame_effect {s : State} {n : Nat} (hup : (s.pkg.hold.port n).up = true) (a b c ts : Nat) :
    ∃ y, y = (s.encFrame n a b c ts).pkg.hold.port n ∧ y.enc = (a, b, c) ∧ y.encAt = some (extendStamp ts s.dev) ∧ y.rxAt = s.dev ∧
      (s.dwellMoved n a b = true → y.ref = (a, b) ∧ y.tMove = extendStamp ts s.dev) ∧
      (s.dwellMoved n a b = false → y.ref = (s.pkg.hold.port n).ref ∧ y.tMove = (s.pkg.hold.port n).tMove) := by
  obtain ⟨henc, hat, hrx, href, hmove⟩ := Port.enc_of_unhanded (State.encFrame_port hup a b c ts)
  obtain ⟨hhit, hmiss⟩ :=
    (s.pkg.hold.port n).encTaken_reference a b c (extendStamp ts s.dev) s.dev (s.dwellMoved n a b)
  refine ⟨_, rfl, henc, hat, hrx, ?_⟩
  rw [href, hmove]
  exact ⟨hhit, hmiss⟩

/-! UPSTREAM_FRAME_ERROR. -/

/-- An errored frame of port n is counted and reported. -/
def Side.rxErrCount (p : Pkg) (n : Nat) (d : Side) : Side :=
  (d.inc (F.BLK_RX_ERR_COUNT n) 1).fault p (srcBlk n) (F.BLK_STATUS_RX_ERR n)

theorem exec_upstreamFrameError_of_errored {s : State} {n : Nat} {b : List (Nat × DWord)} (h : n < s.pkg.beams)
    (hup : (s.pkg.hold.port n).up = true) (herr : upErrored (b.map blkOf) = true) :
    exec (.upstreamFrameError ⟨n, b⟩) s = .next (s.both fun p d => d.rxErrCount p n) :=
  if_pos (by simp [State.portOk_of_lt h, hup, herr])

theorem exec_upstreamFrameError_of_not {s : State} {n : Nat} {b : List (Nat × DWord)}
    (h : (s.pkg.hold.port n).up = false ∨ upErrored (b.map blkOf) = false) : exec (.upstreamFrameError ⟨n, b⟩) s = .next s :=
  if_neg (by rcases h with h | h <;> simp [h])

theorem Side.rxErrCount_shown (d : Side) {p : Pkg} {n : Nat} (hn : n < p.beams) : (d.rxErrCount p n).get (F.BLK_STATUS_RX_ERR n) = 1 ∧
    (d.rxErrCount p n).get (F.BLK_RX_ERR_COUNT n) = (d.get (F.BLK_RX_ERR_COUNT n) + 1) % 2 ^ 32 := by
  have hlt : n < 16 := Nat.lt_of_lt_of_le hn p.beams_le
  refine ⟨Side.blkFault_flag _ hn rfl rfl (show 11 < 32 by decide), ?_⟩
  rw [Side.rxErrCount, Side.fault_get _ p _ _ _ (by unfold srcBlk; omega) (by simp only [offPost, F.BLK_RX_ERR_COUNT]; omega)
    (show 0x400058 + 0x1000 * n ≠ 0x400004 + 0x1000 * n by omega)]
  exact Side.get_set_self _ (F.BLK_RX_ERR_COUNT n) _ (show 0 + 32 ≤ 32 by decide)

end Sys2Proof.Machine

namespace Sys2Proof.Proofs

open Sys2Proof Sys2Proof.Machine

/-- Settles O27: what a side makes of a STAT frame or of a silent head leaves the frame's own registers and the head's temperature as they
were set, through the judgement of the head, of the temperatures and of the fault pair; a frame's port is not the sides' to change. That STAT and
ENC are ignored on a port that is not UP is log entry 60; that any control block where data is due errs a frame is log entry 158. -/
theorem upstreamFrames : Obligations.UpstreamFrames := by
  unfold Obligations.UpstreamFrames
  rintro n k s S x hn rfl rfl
  have hhold : (s.advance k).pkg.hold = s.pkg.hold := by rw [State.advance_pkg, Pkg.advance_hold]
  have hbeams : n < (s.advance k).pkg.beams := by rwa [Pkg.beams, State.advance_pkg, Pkg.advance_fuses]
  have hlt : n < 16 := Nat.lt_of_lt_of_le hn s.pkg.beams_le
  simp only [← hhold, ← State.advance_side s k]
  refine ⟨?stat, ?silent, ?enc, ?error⟩
  case stat =>
    intro l
    have hexec := exec_statReceived hn l k
    refine ⟨fun hdown => by rw [hexec, State.statFrame_of_down hdown], fun hup => ?_⟩
    obtain ⟨y, hport, hseen, hsilent, hat, hshown⟩ := State.statFrame_effect hlt hup l
    refine ⟨_, y, hexec, hport, hseen, hsilent, hat, fun z hz => ?_⟩
    obtain ⟨⟨hwords, hstamp, hcount⟩, htemp⟩ := hshown z hz
    exact ⟨fun j hj => (hwords j hj).trans (Nat.mod_eq_of_lt (l.getD j 0).isLt), hstamp, hcount, htemp⟩
  case silent =>
    rintro iv rfl
    refine ⟨fun hup hheard hdue => ?_, fun h => ?_⟩
    · obtain ⟨hsilent, hshown⟩ := State.statSilent_effect hbeams hup hheard hdue
      exact ⟨_, exec_statSilent hn k, hsilent, hshown⟩
    · rw [exec_statSilent hn k, State.statSilent_of_not h]
  case enc =>
    intro a b c ts
    have hexec := exec_encReceived hn a b c ts k
    refine ⟨fun hdown => by rw [hexec, State.encFrame_of_down hdown], fun hup => ?_⟩
    obtain ⟨y, hport, henc, hat, hrx, hhit, hmiss⟩ := State.encFrame_effect hup a.toNat b.toNat c.toNat ts.toNat
    refine ⟨_, y, hexec, hport, henc, hat, hrx, fun hon hmoved => hhit ?_, fun hstill => hmiss ?_,
      fun z hz => State.encFrame_counted hup _ _ _ _ hz⟩
    · rw [State.dwellMoved, hon, hmoved]
      rfl
    · rw [State.dwellMoved]
      exact Bool.and_eq_false_iff.2 hstill
  case error =>
    intro b
    rw [hhold]
    refine ⟨fun hup herr => ⟨_, exec_upstreamFrameError_of_errored hn hup herr, fun z hz => ?_⟩, exec_upstreamFrameError_of_not⟩
    rw [State.both_get, State.both_get, hz, Side.ranIf_true, State.advance_side]
    exact (s.side z).rxErrCount_shown hn

end Sys2Proof.Proofs
end

section
/-! The registers of a raster channel that show its tracking (R246): what a posting, a spoiled plate, the figures of R230 and the
restart of acquisition leave of them. -/

namespace Sys2Proof.Machine

/-! The RAS block. -/

theorem srcRas_lt {c : Nat} (hc : c < 16) : srcRas c < 0x1000 := by
  unfold srcRas
  omega

/-- A raster channel of the part is a source that can post. -/
theorem srcAbsent_srcRas {p : Pkg} {c : Nat} (h : c < p.beams) : srcAbsent p.fuses.is7708 (srcRas c) = false := by
  unfold Pkg.beams at h
  unfold srcAbsent srcRas
  split at h
  case isTrue => simp; omega
  case isFalse hp => simp [hp]

/-- The registers of the RAS block. -/
def rasBlock (o : Nat) : Prop := 0x500000 ≤ o ∧ o < 0x600000

theorem rasBlock_of_lt {a c : Nat} (hc : c < 16) (ha : 0x500000 ≤ a ∧ a < 0x510000) : rasBlock (a + 0x10000 * c) := by
  unfold rasBlock
  omega

theorem offPost_of_rasBlock {o : Nat} (h : rasBlock o) : offPost o := by
  unfold rasBlock at h
  unfold offPost
  omega

/-- A fault of a channel sets its flag and touches nothing else of the block. -/
theorem Side.rasFault_get (d : Side) {p : Pkg} {c : Nat} (h : c < p.beams) (f : Fld) {g : Fld} (hg : rasBlock g.off) :
    (d.fault p (srcRas c) f).get g = (d.set f 1).get g :=
  Side.get_of_word g (d.fault_word p (srcRas c) f g.off (srcRas_lt (Nat.lt_of_lt_of_le h p.beams_le)) (offPost_of_rasBlock hg)
    (srcAbsent_srcRas h))

/-- Plates that are spoiled show in the planner's registers, not in the block's. -/
theorem Side.spoilCause_rasGet (d : Side) (p : Pkg) (r reason : Nat) {g : Fld} (hg : rasBlock g.off) :
    (d.spoilCause p r reason).get g = d.get g := by
  have hne : g.off ≠ F.PLN_STATUS_SPOIL_SEEN.off := (Nat.lt_of_lt_of_le (by decide) hg.1).ne'
  unfold Side.spoilCause Side.causeEntry
  split
  · rfl
  split
  · exact Side.get_of_word g (Side.faultD_word_ne _ _ _ _ _ _ _ (by decide) (offPost_of_rasBlock hg) hne)
  · rfl

theorem Side.spoilChan_rasGet (d : Side) (p : Pkg) (c reason : Nat) {g : Fld} (hg : rasBlock g.off) :
    (d.spoilChan p c reason).get g = d.get g := by
  refine List.foldlRecOn _ _ (motive := fun e : Side => e.get g = d.get g) rfl fun e he r _ => ?_
  split
  · exact (e.spoilCause_rasGet p r reason hg).trans he
  · exact he

/-! The channel's state. -/

@[simp] theorem Side.rasCh_setRas_self (d : Side) (c : Nat) (x : Ras) : (d.setRas c x).rasCh c = x := tget_tset_self _ _ _ _

theorem Side.rasCh_congr {d e : Side} (h : e.ras = d.ras) (c : Nat) : e.rasCh c = d.rasCh c := congrArg (tget ({} : Ras) · c) h

/-! The figures of R230 lie behind the channel's other registers. -/

theorem Side.rasFigures_keeps (d : Side) (c : Nat) :
    (d.rasFigures c).ras = d.ras ∧ ∀ g : Fld, g.off < 0x502000 + 0x10000 * c → (d.rasFigures c).get g = d.get g := by
  unfold Side.rasFigures
  dsimp only
  split
  · exact ⟨rfl, fun _ _ => rfl⟩
  · refine List.foldlRecOn _ _
      (motive := fun e : Side => e.ras = d.ras ∧ ∀ g : Fld, g.off < 0x502000 + 0x10000 * c → e.get g = d.get g)
      ⟨rfl, fun _ _ => rfl⟩ fun e he f _ => ⟨he.1, fun g hg => ?_⟩
    have hmeas : g.off ≠ (F.RAS_FACET_MEAS_VALUE c f).off := by simp only [F.RAS_FACET_MEAS_VALUE]; omega
    have hsweep : g.off ≠ (F.RAS_FACET_SWEEP_VALUE c f).off := by simp only [F.RAS_FACET_SWEEP_VALUE]; omega
    rw [Side.get_set_off _ _ hsweep, Side.get_set_off _ _ hmeas, he.2 g hg]

/-! The mean interval, FACET and MISSES are shown. -/

theorem Side.rasMean_rasCh (d : Side) (c : Nat) : ∃ mean, (d.rasMean c).rasCh c = { d.rasCh c with mean := mean } :=
  ⟨_, d.rasCh_setRas_self c _⟩

@[simp] theorem Side.rasMean_get (d : Side) (c : Nat) (g : Fld) : (d.rasMean c).get g = d.get g := rfl

@[simp] theorem Side.rasPost_ras (d : Side) (c misses : Nat) : (d.rasPost c misses).ras = d.ras := rfl

theorem Side.rasPost_misses (d : Side) (c misses : Nat) : (d.rasPost c misses).get (F.RAS_STATUS_MISSES c) = misses % 4 := by
  rw [Side.rasPost, Side.get_set_off _ _ (show 0x500004 + 0x10000 * c ≠ 0x50003C + 0x10000 * c by omega)]
  exact Side.get_set_self _ (F.RAS_STATUS_MISSES c) misses (show 5 + 2 ≤ 32 by decide)

/-- LOCK, the flags and the other registers stay. -/
theorem Side.rasPost_get (d : Side) {c : Nat} (misses : Nat) {g : Fld} (hmean : g.off ≠ 0x50003C + 0x10000 * c)
    (hg : g.off ≠ 0x500004 + 0x10000 * c ∨ g.lo + g.w ≤ 1 ∨ 7 ≤ g.lo) (h32 : g.lo + g.w ≤ 32) :
    (d.rasPost c misses).get g = d.get g := by
  have hfacet : (F.RAS_STATUS_FACET c).apart g := hg.imp_right (Or.imp_right (Nat.le_trans (by decide : 1 + 4 ≤ 7)))
  have hmisses : (F.RAS_STATUS_MISSES c).apart g := hg.imp_right (Or.imp_left fun h => Nat.le_trans h (by decide : 1 ≤ 5))
  rw [Side.rasPost, Side.get_set_off _ _ hmean, Side.get_set_apart _ _ hmisses h32, Side.get_set_apart _ _ hfacet h32]

theorem Side.rasPost_lock (d : Side) (c misses : Nat) : (d.rasPost c misses).get (F.RAS_STATUS_LOCK c) = d.get (F.RAS_STATUS_LOCK c) :=
  d.rasPost_get misses (show 0x500004 + 0x10000 * c ≠ 0x50003C + 0x10000 * c by omega) (.inr (.inl (show 0 + 1 ≤ 1 by decide)))
    (show 0 + 1 ≤ 32 by decide)

/-! Acquisition starts over (R227). -/

theorem Side.acquire_held (d : Side) (c : Nat) : ((d.acquire c).rasCh c).held = false :=
  congrArg Ras.held (d.rasCh_setRas_self c _)

theorem Side.acquire_misses (d : Side) (c : Nat) : (d.acquire c).get (F.RAS_STATUS_MISSES c) = 0 := Side.rasPost_misses _ c 0

theorem Side.acquire_lock (d : Side) (c : Nat) : (d.acquire c).get (F.RAS_STATUS_LOCK c) = 0 := by
  rw [Side.acquire, Side.rasPost_lock]
  exact Side.get_set_self _ (F.RAS_STATUS_LOCK c) 0 (show 0 + 1 ≤ 32 by decide)

/-- The flags of STATUS and the other registers stay. -/
theorem Side.acquire_get (d : Side) {c : Nat} {g : Fld} (hmean : g.off ≠ 0x50003C + 0x10000 * c)
    (hg : g.off ≠ 0x500004 + 0x10000 * c ∨ 7 ≤ g.lo) (h32 : g.lo + g.w ≤ 32) : (d.acquire c).get g = d.get g := by
  have hlock : (F.RAS_STATUS_LOCK c).apart g := hg.imp_right fun h => .inr (Nat.le_trans (by decide : 0 + 1 ≤ 7) h)
  rw [Side.acquire, Side.rasPost_get _ _ hmean (hg.imp_right .inr) h32, Side.get_set_apart _ _ hlock h32]
  rfl

/-! Lock is lost (R228). -/

theorem Side.loseLock_held (d : Side) (p : Pkg) (c : Nat) : ((d.loseLock p c).rasCh c).held = false := Side.acquire_held _ c

theorem Side.loseLock_lock (d : Side) (p : Pkg) (c : Nat) : (d.loseLock p c).get (F.RAS_STATUS_LOCK c) = 0 := Side.acquire_lock _ c

/-- LOCK_LOST is posted, and what acquisition leaves is left. -/
theorem Side.loseLock_get (d : Side) {p : Pkg} {c : Nat} (h : c < p.beams) {g : Fld} (hblock : rasBlock g.off)
    (hmean : g.off ≠ 0x50003C + 0x10000 * c) (hg : g.off ≠ 0x500004 + 0x10000 * c ∨ 7 ≤ g.lo) (h32 : g.lo + g.w ≤ 32) :
    (d.loseLock p c).get g = (d.set (F.RAS_STATUS_LOCK_LOST c) 1).get g := by
  rw [Side.loseLock, Side.acquire_get _ hmean hg h32, Side.spoilChan_rasGet _ _ _ _ hblock]
  exact d.rasFault_get h _ hblock

end Sys2Proof.Machine
end

section
/-! A sweep enters a raster channel's tracking (R224 to R228): the channel and the registers behind an accepted edge, behind a missed
sweep and behind a third one in a row. -/

namespace Sys2Proof.Machine

/-- Tracking x of a channel of some facets once the sweep at stamp t has entered: its facet is the next one, or facet 0 where
FACET_ZERO waits for the edge. -/
def Ras.enter (x : Ras) (facets : Nat) (t : Int) (accepted : Bool) (win : Option Int) : Ras :=
  { x with
    held := true
    t := t
    winFrom := win
    eosSeen := false
    s := if x.held then x.s + 1 else x.s
    f := if accepted && x.zero then 0 else if x.held then (x.f + 1) % facets else x.f
    acc := if accepted then x.acc + 1 else 0
    known := x.known || accepted && x.zero
    zero := !accepted && x.zero }

/-- The facet of an accepted edge behind an earlier one. -/
theorem Ras.enter_facet {x : Ras} (h : x.held = true) (facets : Nat) (t : Int) (win : Option Int) :
    (x.enter facets t true win).f = if x.zero then 0 else (x.f + 1) % facets := by
  simp [Ras.enter, h]

/-- Side e is side d with tracking x on channel c, up to its lists of intervals and deviations; the channel's registers below its facets'
are those of d. -/
def Side.tracks (d : Side) (c : Nat) (x : Ras) (e : Side) : Prop :=
  (∃ ivs meas, e.rasCh c = { x with ivs := ivs, meas := meas }) ∧ ∀ g : Fld, g.off < 0x502000 + 0x10000 * c → e.get g = d.get g

/-- Tracking y is x, up to its intervals, their mean and their deviations. -/
def Ras.follows (x y : Ras) : Prop := ∃ ivs meas mean, y = { x with ivs := ivs, meas := meas, mean := mean }

theorem Ras.follows.fields {x y : Ras} (h : x.follows y) :
    y.held = x.held ∧ y.t = x.t ∧ y.s = x.s ∧ y.f = x.f ∧ y.acc = x.acc ∧ y.zero = x.zero := by
  obtain ⟨ivs, meas, mean, rfl⟩ := h
  exact ⟨rfl, rfl, rfl, rfl, rfl, rfl⟩

/-- Without an index edge the channel's count is not judged. -/
theorem Side.rasIndex_of_none {d : Side} {c : Nat} (h : (d.rasCh c).index = false) : d.rasIndex c = (true, d) := by
  rw [Side.rasIndex]
  exact if_pos (by rw [h]; rfl)

/-- A missed sweep is counted. -/
def Side.sweepCounted (c : Nat) (accepted : Bool) (d : Side) : Side := if accepted then d else d.inc (F.RAS_MISSES_COUNT c) 1

/-- The two cases of FACET_ZERO in one. -/
theorem Ras.enter_eq (x : Ras) (facets : Nat) (t : Int) (accepted : Bool) (win : Option Int) (y : Ras)
    (hy : y = { x with held := true, t := t, winFrom := win, eosSeen := false, s := if x.held then x.s + 1 else x.s,
                       f := if x.held then (x.f + 1) % facets else x.f, acc := if accepted then x.acc + 1 else 0 }) :
    (if accepted && x.zero then { y with zero := false, f := 0, known := true } else y) = x.enter facets t accepted win := by
  subst hy
  cases accepted <;> cases hz : x.zero <;> simp [Ras.enter, hz]

/-- The sweep before a channel's first has no interval. -/
theorem Ras.ite_intervals (x : Ras) (had : Bool) (ivs : List Int) (meas : Tab (List Int)) :
    (if had then { x with ivs := ivs, meas := meas } else x) =
      { x with ivs := if had then ivs else x.ivs, meas := if had then meas else x.meas } := by
  cases had <;> rfl

section
variable {d : Side} {c : Nat}

theorem Side.tracks_figures {x : Ras} (b : Side) (ivs : List Int) (meas : Tab (List Int)) (h : b.rf = d.rf) :
    d.tracks c x ((b.setRas c { x with ivs := ivs, meas := meas }).rasFigures c) := by
  obtain ⟨hras, hget⟩ := (b.setRas c { x with ivs := ivs, meas := meas }).rasFigures_keeps c
  refine ⟨⟨ivs, meas, (Side.rasCh_congr hras c).trans (b.rasCh_setRas_self c _)⟩, fun g hg => ?_⟩
  rw [hget g hg]
  exact congrArg (rfGet · g) h

/-- The sweep enters, and the third missed one in a row loses lock; else the tracking is shown, and the 2F-th accepted edge in a row
locks a channel whose facet is known. -/
theorem Side.sweep_eq (hindex : (d.rasCh c).index = false) (p : Pkg) (t : Int) (accepted : Bool) (win : Option Int) :
    ∃ e x, x = (d.rasCh c).enter (d.rasF c) t accepted win ∧ (d.sweepCounted c accepted).tracks c x e ∧
      d.sweep p c t accepted win = if !accepted && 3 ≤ d.get (F.RAS_STATUS_MISSES c) + 1 then e.loseLock p c
        else (((if accepted && x.known && decide (2 * d.rasF c ≤ x.acc) then e.set (F.RAS_STATUS_LOCK c) 1 else e).rasMean c).rasPost c
          (if accepted then 0 else d.get (F.RAS_STATUS_MISSES c) + 1)).faultIf p (!accepted) (srcRas c) (F.RAS_STATUS_SOS_MISS c) := by
  generalize hx : (d.rasCh c).enter (d.rasF c) t accepted win = x
  have hnone : ((d.setRas c x).rasCh c).index = false := by
    rw [Side.rasCh_setRas_self, ← hx]
    exact hindex
  unfold Side.sweep
  dsimp only
  rw [Ras.enter_eq _ _ _ _ _ _ rfl, hx, Side.rasIndex_of_none hnone]
  dsimp only
  rw [if_neg (by decide)]
  generalize hd1 : (if accepted = true then d.setRas c x else (d.setRas c x).inc (F.RAS_MISSES_COUNT c) 1) = d1
  have hrf : d1.rf = (d.sweepCounted c accepted).rf := by
    rw [← hd1]
    cases accepted <;> rfl
  have hy : d1.rasCh c = x := by
    rw [← hd1]
    cases accepted <;> exact d.rasCh_setRas_self c x
  rw [hy, Ras.ite_intervals]
  exact ⟨_, _, rfl, Side.tracks_figures d1 _ _ hrf, rfl⟩

/-- Where nothing is counted or lost, the tracking stays as the sweep entered it, but for the mean interval. -/
theorem Side.tracks.shown {b e : Side} {x : Ras} (h : b.tracks c x e) {e' : Side} (hras : e'.ras = e.ras) (misses : Nat) :
    x.follows (((e'.rasMean c).rasPost c misses).rasCh c) := by
  obtain ⟨⟨ivs, meas, hch⟩, -⟩ := h
  obtain ⟨mean, hmean⟩ := e'.rasMean_rasCh c
  refine ⟨ivs, meas, mean, (Side.rasCh_congr (Side.rasPost_ras _ c misses) c).trans ?_⟩
  rw [hmean, Side.rasCh_congr hras, hch]

/-- An accepted edge. -/
theorem Side.sweep_accepted (hindex : (d.rasCh c).index = false) (p : Pkg) (t : Int) (win : Option Int) :
    ((d.rasCh c).enter (d.rasF c) t true win).follows ((d.sweep p c t true win).rasCh c) ∧
      (d.sweep p c t true win).get (F.RAS_STATUS_MISSES c) = 0 ∧
      (((d.rasCh c).known || (d.rasCh c).zero) = true → 2 * d.rasF c ≤ (d.rasCh c).acc + 1 →
        (d.sweep p c t true win).get (F.RAS_STATUS_LOCK c) = 1) := by
  obtain ⟨e, x, hx, htracks, heq⟩ := Side.sweep_eq hindex p t true win
  rw [if_neg (by simp)] at heq
  generalize hb : (if true && x.known && decide (2 * d.rasF c ≤ x.acc) then e.set (F.RAS_STATUS_LOCK c) 1 else e) = b at heq
  have hras : b.ras = e.ras := by
    rw [← hb]
    split <;> rfl
  rw [← hx, heq]
  refine ⟨htracks.shown hras 0, Side.rasPost_misses _ c 0, fun hknown hacc => ?_⟩
  have hlock : b = e.set (F.RAS_STATUS_LOCK c) 1 := by
    rw [Bool.or_eq_true] at hknown
    rw [← hb, hx]
    exact if_pos (by simpa [Ras.enter] using ⟨hknown, hacc⟩)
  change ((b.rasMean c).rasPost c 0).get (F.RAS_STATUS_LOCK c) = 1
  rw [Side.rasPost_lock, Side.rasMean_get, hlock]
  exact Side.get_set_self _ (F.RAS_STATUS_LOCK c) 1 (show 0 + 1 ≤ 32 by decide)

/-- What a missed sweep leaves of a register below the facets', before its tracking is shown. -/
theorem Side.tracks.missed_get {x : Ras} {e : Side} (h : (d.sweepCounted c false).tracks c x e) {g : Fld}
    (hg : g.off < 0x502000 + 0x10000 * c) : e.get g = (d.inc (F.RAS_MISSES_COUNT c) 1).get g := h.2 g hg

/-- A missed sweep of a channel that stays LOCKED. -/
theorem Side.sweep_missed (hindex : (d.rasCh c).index = false) {p : Pkg} (h : c < p.beams) (hfew : d.get (F.RAS_STATUS_MISSES c) < 2)
    (t : Int) (win : Option Int) :
    ((d.rasCh c).enter (d.rasF c) t false win).follows ((d.sweep p c t false win).rasCh c) ∧
      (d.sweep p c t false win).get (F.RAS_STATUS_MISSES c) = d.get (F.RAS_STATUS_MISSES c) + 1 ∧
      (d.sweep p c t false win).get (F.RAS_STATUS_LOCK c) = d.get (F.RAS_STATUS_LOCK c) ∧
      (d.sweep p c t false win).get (F.RAS_STATUS_SOS_MISS c) = 1 ∧
      (d.sweep p c t false win).get (F.RAS_MISSES_COUNT c) = (d.get (F.RAS_MISSES_COUNT c) + 1) % 2 ^ 32 := by
  have hc : c < 16 := Nat.lt_of_lt_of_le h p.beams_le
  obtain ⟨e, x, hx, htracks, heq⟩ := Side.sweep_eq hindex p t false win
  rw [if_neg (by simpa using hfew)] at heq
  change _ = Side.fault ((e.rasMean c).rasPost c (d.get (F.RAS_STATUS_MISSES c) + 1)) p (srcRas c) (F.RAS_STATUS_SOS_MISS c) at heq
  have hstatus : rasBlock (0x500004 + 0x10000 * c) := rasBlock_of_lt hc (by decide)
  rw [← hx, heq]
  refine ⟨?track, ?misses, ?lock, ?flag, ?count⟩
  case track =>
    rw [Side.rasCh_congr (Side.fault_ras _ _ _ _)]
    exact htracks.shown rfl _
  case misses =>
    rw [Side.rasFault_get _ h _ hstatus, Side.get_set_bits _ _ _ _ (.inl (show 5 + 2 ≤ 8 by decide)) (show 5 + 2 ≤ 32 by decide),
      Side.rasPost_misses]
    exact Nat.mod_eq_of_lt (by omega)
  case lock =>
    rw [Side.rasFault_get _ h _ hstatus, Side.get_set_bits _ _ _ _ (.inl (show 0 + 1 ≤ 8 by decide)) (show 0 + 1 ≤ 32 by decide),
      Side.rasPost_lock, Side.rasMean_get, htracks.missed_get (show 0x500004 + _ < _ by omega)]
    exact Side.get_set_off _ _ (show 0x500004 + 0x10000 * c ≠ 0x50004C + 0x10000 * c by omega)
  case flag =>
    rw [Side.rasFault_get _ h _ hstatus]
    exact Side.get_set_self _ (F.RAS_STATUS_SOS_MISS c) 1 (show 8 + 1 ≤ 32 by decide)
  case count =>
    rw [Side.rasFault_get _ h _ (rasBlock_of_lt hc (a := 0x50004C) (by decide)),
      Side.get_set_off _ _ (show 0x50004C + 0x10000 * c ≠ 0x500004 + 0x10000 * c by omega),
      Side.rasPost_get _ _ (show 0x50004C + 0x10000 * c ≠ 0x50003C + 0x10000 * c by omega)
        (.inl (show 0x50004C + 0x10000 * c ≠ 0x500004 + 0x10000 * c by omega)) (show 0 + 32 ≤ 32 by decide),
      Side.rasMean_get, htracks.missed_get (show 0x50004C + _ < _ by omega)]
    exact Side.get_set_self _ (F.RAS_MISSES_COUNT c) _ (show 0 + 32 ≤ 32 by decide)

/-- The third missed sweep in a row. -/
theorem Side.sweep_lost (hindex : (d.rasCh c).index = false) {p : Pkg} (h : c < p.beams) (hmany : 2 ≤ d.get (F.RAS_STATUS_MISSES c))
    (t : Int) (win : Option Int) : ((d.sweep p c t false win).rasCh c).held = false ∧
      (d.sweep p c t false win).get (F.RAS_STATUS_LOCK c) = 0 ∧ (d.sweep p c t false win).get (F.RAS_STATUS_LOCK_LOST c) = 1 ∧
      (d.sweep p c t false win).get (F.RAS_MISSES_COUNT c) = (d.get (F.RAS_MISSES_COUNT c) + 1) % 2 ^ 32 := by
  have hc : c < 16 := Nat.lt_of_lt_of_le h p.beams_le
  obtain ⟨e, x, -, htracks, heq⟩ := Side.sweep_eq hindex p t false win
  rw [if_pos (by simpa using hmany)] at heq
  rw [heq]
  refine ⟨e.loseLock_held p c, e.loseLock_lock p c, ?lost, ?count⟩
  case lost =>
    rw [e.loseLock_get h (rasBlock_of_lt hc (a := 0x500004) (by decide)) (show 0x500004 + 0x10000 * c ≠ 0x50003C + 0x10000 * c by omega)
      (.inr (show 7 ≤ 9 by decide)) (show 9 + 1 ≤ 32 by decide)]
    exact Side.get_set_self _ (F.RAS_STATUS_LOCK_LOST c) 1 (show 9 + 1 ≤ 32 by decide)
  case count =>
    have hstatus : 0x50004C + 0x10000 * c ≠ 0x500004 + 0x10000 * c := by omega
    rw [e.loseLock_get h (rasBlock_of_lt hc (a := 0x50004C) (by decide)) (show 0x50004C + 0x10000 * c ≠ 0x50003C + 0x10000 * c by omega)
      (.inl hstatus) (show 0 + 32 ≤ 32 by decide), Side.get_set_off _ _ hstatus, htracks.missed_get (show 0x50004C + _ < _ by omega)]
    exact Side.get_set_self _ (F.RAS_MISSES_COUNT c) _ (show 0 + 32 ≤ 32 by decide)

end

end Sys2Proof.Machine
end

section
/-! SOS_EDGE, SOS_MISSED, EOS_EDGE, FACET_ZERO and RELOCK on one side and on both (R224 to R228, R230, R246). -/

namespace Sys2Proof.Machine

section
variable {s : State} {c : Nat}

theorem exec_sosEdge (h : c < s.pkg.beams) (k fr : Nat) : exec (.sosEdge c k fr) s =
    .next ((s.advance k).both (Side.grouped 4 fun p d => d.sosEdge p c (d.stamp64 p fr))) := if_pos h

theorem exec_eosEdge (h : c < s.pkg.beams) (k fr : Nat) : exec (.eosEdge c k fr) s =
    .next ((s.advance k).both (Side.grouped 4 fun p d => d.eosEdge c (d.stamp64 p fr))) := if_pos h

theorem exec_sosMissed (h : c < s.pkg.beams) (k : Nat) : exec (.sosMissed c k) s =
    .next ((s.advance k).both (Side.grouped 4 fun p d => d.sosMissed p c)) := if_pos h

theorem exec_facetZero (h : c < s.pkg.beams) (hacc : s.accepts true (0x500008 + 0x10000 * c) 1) :
    exec (.facetZero c) s = .next (s.both fun p d => d.facetZero p c) := by
  change execFacetZero c s = _
  rw [execFacetZero, if_pos h, State.accepts_asWrite hacc]

theorem exec_relock (h : c < s.pkg.beams) (hacc : s.accepts true (0x500008 + 0x10000 * c) 2) :
    exec (.relock c) s = .next (s.both fun p d => d.relock p c) := by
  change execRelock c s = _
  rw [execRelock, if_pos h, State.accepts_asWrite hacc]

/-- What the engines of a group leave on a running side where they are on, at a raw time. -/
theorem State.both_grouped_of_on {x : SideId} (hx : s.pkg.hold.running x = true) {g : Nat} (hon : (s.side x).groupOn g = true) (k : Nat)
    (f : Pkg → Side → Side) :
    ∃ l, ((s.advance k).both (Side.grouped g f)).side x = { f (s.pkg.advance k) (s.side x) with out := l } := by
  obtain ⟨l, hside⟩ := State.both_advance_of_running hx k (Side.grouped g f)
  exact ⟨l, by rw [hside, Side.grouped, if_pos hon]⟩

end

section
variable {d : Side} {p : Pkg} {c : Nat}

/-! An SOS edge (R225, R227). -/

theorem Side.sosEdge_of_first (hheld : (d.rasCh c).held = false) (p : Pkg) (stamp : Int) :
    d.sosEdge p c stamp = d.sweep p c stamp true none := by
  have hlift : d.rasLift c stamp = stamp := if_neg (by simp [hheld])
  rw [Side.sosEdge]
  dsimp only
  rw [if_pos (by simp [hheld]), hlift]

theorem Side.sosEdge_of_outside (hheld : (d.rasCh c).held = true) (p : Pkg) {stamp : Int}
    (h : d.rasLift c stamp < d.rasOpen c ∨ d.rasClose c < d.rasLift c stamp) :
    d.sosEdge p c stamp = d.inc (F.RAS_SPURIOUS_COUNT c) 1 := by
  rw [Side.sosEdge]
  dsimp only
  rw [if_neg (by simp [hheld]), if_pos (by simpa using h)]

/-! The error of an accepted edge shows in PRED_ERR alone (R246). -/

theorem Side.predErr_ras (d : Side) (c : Nat) (t ref : Int) : (d.predErr c t ref).ras = d.ras := by
  unfold Side.predErr
  dsimp only
  split <;> rfl

theorem Side.predErr_get (d : Side) {c : Nat} (t ref : Int) {g : Fld} (hg : g.off ≠ 0x500040 + 0x10000 * c) :
    (d.predErr c t ref).get g = d.get g := by
  unfold Side.predErr
  dsimp only
  split
  · exact Side.get_set_off _ _ hg
  · rfl

/-- An edge in its window is an accepted sweep; its error is taken up before. -/
theorem Side.sosEdge_of_inside (hheld : (d.rasCh c).held = true) (p : Pkg) {stamp : Int}
    (hopen : d.rasOpen c ≤ d.rasLift c stamp) (hclose : d.rasLift c stamp ≤ d.rasClose c) :
    ∃ e : Side, d.sosEdge p c stamp = e.sweep p c (d.rasLift c stamp) true (some (d.rasClose c)) ∧ e.rasCh c = d.rasCh c ∧
      e.rasF c = d.rasF c := by
  rw [Side.sosEdge]
  dsimp only
  rw [if_neg (by simp [hheld]), if_neg (by simpa using ⟨hopen, hclose⟩)]
  refine ⟨_, rfl, ?_⟩
  split
  · exact ⟨Side.rasCh_congr (d.predErr_ras c _ _) c,
      congrArg (· + 1) (d.predErr_get _ _ (g := F.RAS_CFG_FACETS_M1 c) (show 0x500000 + 0x10000 * c ≠ 0x500040 + 0x10000 * c by omega))⟩
  · exact ⟨rfl, rfl⟩

theorem Side.sosEdge_first_track (hheld : (d.rasCh c).held = false) (hindex : (d.rasCh c).index = false) (p : Pkg) (stamp : Int) :
    ((d.sosEdge p c stamp).rasCh c).held = true ∧ ((d.sosEdge p c stamp).rasCh c).t = stamp := by
  obtain ⟨hfollows, -⟩ := Side.sweep_accepted hindex p stamp none
  obtain ⟨hheld', ht, -⟩ := hfollows.fields
  rw [Side.sosEdge_of_first hheld]
  exact ⟨hheld', ht⟩

theorem Side.sosEdge_next_track (hheld : (d.rasCh c).held = true) (hindex : (d.rasCh c).index = false) (p : Pkg) {stamp : Int}
    (hopen : d.rasOpen c ≤ d.rasLift c stamp) (hclose : d.rasLift c stamp ≤ d.rasClose c) :
    ((d.rasCh c).enter (d.rasF c) (d.rasLift c stamp) true (some (d.rasClose c))).follows ((d.sosEdge p c stamp).rasCh c) ∧
      (d.sosEdge p c stamp).get (F.RAS_STATUS_MISSES c) = 0 ∧
      (((d.rasCh c).known || (d.rasCh c).zero) = true → 2 * d.rasF c ≤ (d.rasCh c).acc + 1 →
        (d.sosEdge p c stamp).get (F.RAS_STATUS_LOCK c) = 1) := by
  obtain ⟨e, hedge, hch, hfacets⟩ := Side.sosEdge_of_inside hheld p hopen hclose
  rw [hedge, ← hch, ← hfacets]
  exact Side.sweep_accepted (by rw [hch]; exact hindex) p (d.rasLift c stamp) (some (d.rasClose c))

/-! An EOS edge (R226, R230). -/

theorem Side.flag_of_get_zero {f : Fld} (h : d.get f = 0) : d.flag f = false := by
  rw [Side.flag, h]
  rfl

theorem Side.eosEdge_of_index (h : d.get (F.RAS_CFG_FACET_SRC c) = 1) (t : Int) :
    d.eosEdge c t = d.setRas c { d.rasCh c with index := true } := if_pos ((d.flag_iff _).2 h)

/-- Tracking x once its sweep's EOS has come at stamp t. -/
def Ras.ended (x : Ras) (t : Int) : Ras :=
  { x with eosSeen := true, eos := tset x.eos x.f ((rasDiff t x.t :: tget [] x.eos x.f).take 16) }

theorem Side.eosEdge_of_first (h : d.get (F.RAS_CFG_FACET_SRC c) = 0) (hheld : (d.rasCh c).held = true)
    (hseen : (d.rasCh c).eosSeen = false) (t : Int) : d.eosEdge c t = d.setRas c ((d.rasCh c).ended t) := by
  rw [Side.eosEdge]
  rw [if_neg (by simp [Side.flag_of_get_zero h]), if_pos (by simp [hheld, hseen])]
  rfl

theorem Side.eosEdge_of_other (h : d.get (F.RAS_CFG_FACET_SRC c) = 0) (hnot : (d.rasCh c).held = false ∨ (d.rasCh c).eosSeen = true)
    (t : Int) : d.eosEdge c t = d := by
  rw [Side.eosEdge]
  rw [if_neg (by simp [Side.flag_of_get_zero h]), if_neg (by rcases hnot with h | h <;> simp [h])]

/-! A window closes with no edge (R227, R228). -/

theorem Side.sosMissed_of_early
    (h : (d.rasCh c).held = false ∨ d.rasLift c (d.stamp64 p 0) < d.rasClose c) : d.sosMissed p c = d :=
  if_pos (by simpa using h)

theorem Side.sosMissed_of_locked (hheld : (d.rasCh c).held = true) (hdue : d.rasClose c ≤ d.rasLift c (d.stamp64 p 0))
    (hlocked : d.rasLocked c = true) : d.sosMissed p c = d.sweep p c (d.rasPred c 1) false (some (d.rasClose c)) := by
  rw [Side.sosMissed, if_neg (by simp [hheld, hdue]), if_pos hlocked]

/-- Acquisition starts over, and the miss is counted. -/
def Side.missCounted (c : Nat) (d : Side) : Side := ((d.acquire c).inc (F.RAS_MISSES_COUNT c) 1).set (F.RAS_STATUS_MISSES c) 1

theorem Side.sosMissed_of_acquiring (hheld : (d.rasCh c).held = true) (hdue : d.rasClose c ≤ d.rasLift c (d.stamp64 p 0))
    (hlocked : d.rasLocked c = false) : d.sosMissed p c = (d.missCounted c).fault p (srcRas c) (F.RAS_STATUS_SOS_MISS c) := by
  rw [Side.sosMissed, if_neg (by simp [hheld, hdue]), if_neg (by simp [hlocked])]
  rfl

theorem Side.missCounted_count (d : Side) (c : Nat) :
    (d.missCounted c).get (F.RAS_MISSES_COUNT c) = (d.get (F.RAS_MISSES_COUNT c) + 1) % 2 ^ 32 := by
  have hstatus : 0x50004C + 0x10000 * c ≠ 0x500004 + 0x10000 * c := by omega
  rw [Side.missCounted, Side.get_set_off _ _ hstatus, Side.inc, Side.get_set_self _ _ _ (show 0 + 32 ≤ 32 by decide),
    Side.acquire_get d (show 0x50004C + 0x10000 * c ≠ 0x50003C + 0x10000 * c by omega) (.inl hstatus) (show 0 + 32 ≤ 32 by decide)]
  rfl

theorem Side.sosMissed_acquiring_shown (h : c < p.beams) (hheld : (d.rasCh c).held = true)
    (hdue : d.rasClose c ≤ d.rasLift c (d.stamp64 p 0)) (hlocked : d.rasLocked c = false) :
    ((d.sosMissed p c).rasCh c).held = false ∧
      (d.sosMissed p c).get (F.RAS_MISSES_COUNT c) = (d.get (F.RAS_MISSES_COUNT c) + 1) % 2 ^ 32 ∧
      (d.sosMissed p c).get (F.RAS_STATUS_SOS_MISS c) = 1 := by
  have hc : c < 16 := Nat.lt_of_lt_of_le h p.beams_le
  rw [Side.sosMissed_of_acquiring hheld hdue hlocked]
  refine ⟨?held, ?count, ?flag⟩
  case held =>
    rw [Side.rasCh_congr (Side.fault_ras _ _ _ _)]
    exact d.acquire_held c
  case count =>
    rw [Side.rasFault_get _ h _ (rasBlock_of_lt hc (a := 0x50004C) (by decide)),
      Side.get_set_off _ _ (show 0x50004C + 0x10000 * c ≠ 0x500004 + 0x10000 * c by omega), Side.missCounted_count]
  case flag =>
    rw [Side.rasFault_get _ h _ (rasBlock_of_lt hc (a := 0x500004) (by decide))]
    exact Side.get_set_self _ (F.RAS_STATUS_SOS_MISS c) 1 (show 8 + 1 ≤ 32 by decide)

/-! The commands (R226, R227, R246). -/

theorem Side.facetZero_of_refused (p : Pkg) (c : Nat) (h : d.plateWindow = false ∨ d.stale 4 = true) :
    d.facetZero p c = d.rasViol p c := if_pos (by simpa using h)

theorem Side.facetZero_of_taken (p : Pkg) (c : Nat) (hwindow : d.plateWindow = true) (hstale : d.stale 4 = false) : d.facetZero p c =
    if d.flag (F.RAS_CFG_FACET_SRC c) then d else d.setRas c { d.rasCh c with zero := true } := if_neg (by simp [hwindow, hstale])

theorem Side.relock_of_refused (p : Pkg) (c : Nat) (h : d.plateWindow = false ∨ d.stale 4 = true) :
    d.relock p c = d.rasViol p c := if_neg (by rcases h with h | h <;> simp [h])

theorem Side.relock_of_taken (p : Pkg) (c : Nat) (hwindow : d.plateWindow = true) (hstale : d.stale 4 = false) :
    d.relock p c = d.acquire c := if_pos (by simp [hwindow, hstale])

theorem Side.rasViol_shown (d : Side) (h : c < p.beams) :
    (d.rasViol p c).ras = d.ras ∧ (d.rasViol p c).get (F.RAS_STATUS_WINDOW_VIOL c) = 1 := by
  refine ⟨d.fault_ras p _ _, ?_⟩
  rw [Side.rasViol, d.rasFault_get h _ (rasBlock_of_lt (Nat.lt_of_lt_of_le h p.beams_le) (a := 0x500004) (by decide))]
  exact Side.get_set_self _ (F.RAS_STATUS_WINDOW_VIOL c) 1 (show 16 + 1 ≤ 32 by decide)

end

end Sys2Proof.Machine

namespace Sys2Proof.Proofs

open Sys2Proof Sys2Proof.Machine

/-- Settles O28: an edge in its window and a missed sweep of a LOCKED channel are the one entry of a sweep into the tracking, which posts,
figures and spoiled plates leave alone; the commands reach the running side as they are. -/
theorem sweepsAreTracked : Obligations.SweepsAreTracked := by
  unfold Obligations.SweepsAreTracked
  rintro c s x d v hc hx rfl rfl
  have hbeams (k : Nat) : c < (s.pkg.advance k).beams := by rwa [Pkg.beams, Pkg.advance_fuses]
  refine ⟨?edges, ?missed, ?commands⟩
  case edges =>
    rintro hon k fr T rfl
    obtain ⟨l, hsos⟩ := State.both_grouped_of_on hx hon k fun p d => d.sosEdge p c (d.stamp64 p fr)
    obtain ⟨m, heos⟩ := State.both_grouped_of_on hx hon k fun p d => d.eosEdge c (d.stamp64 p fr)
    refine ⟨?first, ?outside, ?inside, ?index, ?ended, ?other⟩
    case first =>
      intro hheld hindex
      refine ⟨_, _, exec_sosEdge hc k fr, rfl, ?_⟩
      rw [hsos]
      exact Side.sosEdge_first_track hheld hindex _ _
    case outside =>
      intro hheld hout
      refine ⟨_, exec_sosEdge hc k fr, ?_⟩
      rw [hsos, Side.sosEdge_of_outside hheld _ hout]
      exact ⟨rfl, Side.get_set_self _ (F.RAS_SPURIOUS_COUNT c) _ (show 0 + 32 ≤ 32 by decide)⟩
    case inside =>
      intro hheld hindex hopen hclose
      obtain ⟨hfollows, hmisses, hlock⟩ := Side.sosEdge_next_track hheld hindex (s.pkg.advance k) hopen hclose
      obtain ⟨hheld', ht, hs, hf, hacc, hzero⟩ := hfollows.fields
      refine ⟨_, _, exec_sosEdge hc k fr, rfl, ?_⟩
      rw [hsos]
      exact ⟨hheld', ht, hs.trans (if_pos hheld), hf.trans (Ras.enter_facet hheld _ _ _), hacc, hzero, hmisses, hlock⟩
    case index =>
      intro hsrc
      refine ⟨_, exec_eosEdge hc k fr, ?_⟩
      rw [heos, Side.eosEdge_of_index hsrc]
      exact congrArg Ras.index ((s.side x).rasCh_setRas_self c _)
    case ended =>
      intro hsrc hheld hseen
      refine ⟨_, ((s.side x).rasCh c).ended ((s.side x).stamp64 (s.pkg.advance k) fr), exec_eosEdge hc k fr, ?_, rfl, ?_⟩
      · rw [heos, Side.eosEdge_of_first hsrc hheld hseen]
        exact ((s.side x).rasCh_setRas_self c _).symm
      · exact tget_tset_self _ _ _ _
    case other =>
      intro hsrc hnot
      refine ⟨_, exec_eosEdge hc k fr, ?_⟩
      rw [heos, Side.eosEdge_of_other hsrc hnot]
  case missed =>
    rintro hon k n rfl
    obtain ⟨l, hside⟩ := State.both_grouped_of_on hx hon k fun p d => d.sosMissed p c
    refine ⟨?early, ?acquiring, ?locked⟩
    case early =>
      intro h
      refine ⟨_, exec_sosMissed hc k, ?_⟩
      rw [hside, Side.sosMissed_of_early h]
      exact ⟨rfl, rfl⟩
    case acquiring =>
      intro hheld hdue hlocked
      refine ⟨_, exec_sosMissed hc k, ?_⟩
      rw [hside]
      exact Side.sosMissed_acquiring_shown (hbeams k) hheld hdue hlocked
    case locked =>
      intro hheld hdue hlocked hindex
      have hlock : (s.side x).get (F.RAS_STATUS_LOCK c) = 1 := ((s.side x).flag_iff _).1 hlocked
      refine ⟨_, exec_sosMissed hc k, ?_⟩
      rw [hside, Side.sosMissed_of_locked hheld hdue hlocked]
      by_cases hfew : (s.side x).get (F.RAS_STATUS_MISSES c) < 2
      · obtain ⟨hfollows, hmisses, hstill, hflag, hcount⟩ := Side.sweep_missed hindex (hbeams k) hfew
          ((s.side x).rasPred c 1) (some ((s.side x).rasClose c))
        obtain ⟨-, ht, hs, -⟩ := hfollows.fields
        exact ⟨hcount, fun _ => ⟨ht, hs.trans (if_pos hheld), hmisses, hstill.trans hlock, hflag⟩,
          fun hmany => absurd hmany (Nat.not_le.2 hfew)⟩
      · obtain ⟨hheld', hlock', hlost, hcount⟩ := Side.sweep_lost hindex (hbeams k) (Nat.le_of_not_lt hfew)
          ((s.side x).rasPred c 1) (some ((s.side x).rasClose c))
        exact ⟨hcount, fun h => absurd h hfew, fun _ => ⟨hlock', hlost, hheld'⟩⟩
  case commands =>
    rintro cmd w (⟨rfl, rfl⟩ | ⟨rfl, rfl⟩) hacc
    · obtain ⟨l, hside⟩ := State.both_of_running hx fun p d => d.facetZero p c
      refine ⟨fun hrefused => ⟨_, exec_facetZero hc hacc, ?_⟩, fun hwindow hstale => ⟨_, exec_facetZero hc hacc, ?_, ?_, nofun⟩⟩
      · rw [hside, Side.facetZero_of_refused _ _ hrefused]
        exact (s.side x).rasViol_shown hc
      · intro _ hsrc
        rw [hside, Side.facetZero_of_taken _ _ hwindow hstale, if_neg (by simp [Side.flag_of_get_zero hsrc])]
        exact congrArg Ras.zero ((s.side x).rasCh_setRas_self c _)
      · intro _ hsrc
        rw [hside, Side.facetZero_of_taken _ _ hwindow hstale, if_pos (((s.side x).flag_iff _).2 hsrc)]
    · obtain ⟨l, hside⟩ := State.both_of_running hx fun p d => d.relock p c
      refine ⟨fun hrefused => ⟨_, exec_relock hc hacc, ?_⟩, fun hwindow hstale => ⟨_, exec_relock hc hacc, nofun, nofun, fun _ => ?_⟩⟩
      · rw [hside, Side.relock_of_refused _ _ hrefused]
        exact (s.side x).rasViol_shown hc
      · rw [hside, Side.relock_of_taken _ _ hwindow hstale]
        exact ⟨(s.side x).acquire_held c, (s.side x).acquire_lock c, (s.side x).acquire_misses c⟩

end Sys2Proof.Proofs
end

section
/-! A vector channel and the registers of the VEC block (R248 to R268): its state under an update of its own, and what a posting, a spoiled
plate and a side's other state leave of it. -/

namespace Sys2Proof.Machine

/-! The channels. -/

@[simp] theorem Side.vehCh_setVeh_self (d : Side) (c : Nat) (x : Veh) : (d.setVeh c x).vehCh c = x := tget_tset_self _ _ _ _

theorem Side.vehCh_setVeh_ne (d : Side) {c m : Nat} (x : Veh) (h : m ≠ c) : (d.setVeh c x).vehCh m = d.vehCh m := tget_tset_ne _ _ _ h

theorem Side.vehCh_congr {d e : Side} (h : e.veh = d.veh) (c : Nat) : e.vehCh c = d.vehCh c := congrArg (tget ({} : Veh) · c) h

/-! The registers. -/

theorem srcVec_lt {c : Nat} (hc : c < 16) : srcVec c < 0x1000 := by
  unfold srcVec
  omega

/-- A vector channel of the part is a source that can post. -/
theorem srcAbsent_srcVec {p : Pkg} {c : Nat} (h : c < p.beams) : srcAbsent p.fuses.is7708 (srcVec c) = false := by
  unfold Pkg.beams at h
  unfold srcAbsent srcVec
  split at h
  case isTrue => simp; omega
  case isFalse hp => simp [hp]

/-- The registers of the VEC block. -/
def vecBlock (o : Nat) : Prop := 0x600000 ≤ o ∧ o < 0x700000

theorem vecBlock_of_lt {a c : Nat} (hc : c < 16) (ha : 0x600000 ≤ a ∧ a < 0x610000) : vecBlock (a + 0x10000 * c) := by
  unfold vecBlock
  omega

theorem offPost_of_vecBlock {o : Nat} (h : vecBlock o) : offPost o := by
  unfold vecBlock at h
  unfold offPost
  omega

/-- A fault of a channel sets its flag and touches nothing else of the block. -/
theorem Side.vecFault_get (d : Side) {p : Pkg} {c : Nat} (h : c < p.beams) (f : Fld) (x y : Nat) {g : Fld} (hg : vecBlock g.off) :
    (d.faultD p (srcVec c) f x y).get g = (d.set f 1).get g :=
  Side.get_of_word g (d.faultD_word p (srcVec c) f x y g.off (srcVec_lt (Nat.lt_of_lt_of_le h p.beams_le)) (offPost_of_vecBlock hg)
    (srcAbsent_srcVec h))

/-- From d to e, no vector channel and no register of the block changes. -/
def Side.vecKept (d e : Side) : Prop := e.veh = d.veh ∧ ∀ g : Fld, vecBlock g.off → e.get g = d.get g

theorem Side.vecKept_of_eq {d e : Side} (hveh : e.veh = d.veh) (hrf : e.rf = d.rf) : d.vecKept e :=
  ⟨hveh, fun g _ => congrArg (rfGet · g) hrf⟩

theorem Side.vecKept_refl (d : Side) : d.vecKept d := Side.vecKept_of_eq rfl rfl

theorem Side.vecKept.vehCh {d e : Side} (h : d.vecKept e) (c : Nat) : e.vehCh c = d.vehCh c := Side.vehCh_congr h.1 c

/-- A register of another block. -/
theorem Side.vecKept_inc (d : Side) {f : Fld} (n : Nat) (hf : ¬vecBlock f.off) : d.vecKept (d.inc f n) :=
  ⟨rfl, fun _ hg => Side.get_set_off _ _ fun he => hf (he ▸ hg)⟩

/-- Plates that are spoiled show in the planner's registers (R181, R183). -/
theorem Side.vecKept_spoilCause (d : Side) (p : Pkg) (r reason : Nat) : d.vecKept (d.spoilCause p r reason) := by
  unfold Side.spoilCause Side.causeEntry
  split
  · exact Side.vecKept_of_eq rfl rfl
  split
  · refine ⟨Side.faultD_veh _ _ _ _ _ _, fun g hg => Side.get_of_word g ?_⟩
    exact Side.faultD_word_ne _ _ _ _ _ _ _ (by decide) (offPost_of_vecBlock hg) (Nat.lt_of_lt_of_le (by decide) hg.1).ne'
  · exact d.vecKept_refl

theorem Side.vecKept_dataLate (d : Side) (p : Pkg) (r : Nat) : d.vecKept (d.dataLate p r) := by
  rw [Side.dataLate]
  split
  · exact d.vecKept_refl
  · exact d.vecKept_spoilCause p r 2

end Sys2Proof.Machine
end

section
/-! VEC_GRID_LOAD on one side and on both (R263). -/

namespace Sys2Proof.Machine

/-- The reason for which the command of descriptor b, its grid read as img, is refused; 0 where it is taken. -/
def Side.gridReason (d : Side) (p : Pkg) (b img : List Byte) : Nat :=
  if d.plateWindow = false then 1
  else if p.beams ≤ byteAt b 4 % 16 then 2
  else if crc32c img ≠ dFld b 16 4 then 3
  else if gridBad 16641 img then 4
  else 0

/-- Side d with a grid taken on channel c. -/
def Side.gridTaken (d : Side) (c crc : Nat) (img : List Byte) : Side :=
  ((d.setVeh c { d.vehCh c with grid := img }).set (F.VEC_GRID_CRC_CRC c) crc).set (F.VEC_STATUS_GRID_VALID c) 1

theorem Side.gridTaken_grid (d : Side) (c crc : Nat) (img : List Byte) : ((d.gridTaken c crc img).vehCh c).grid = img :=
  congrArg Veh.grid (d.vehCh_setVeh_self c _)

theorem Side.gridTaken_vehCh_ne (d : Side) {c m : Nat} (crc : Nat) (img : List Byte) (h : m ≠ c) :
    (d.gridTaken c crc img).vehCh m = d.vehCh m := d.vehCh_setVeh_ne _ h

theorem Side.gridTaken_crc (d : Side) (c crc : Nat) (img : List Byte) :
    (d.gridTaken c crc img).get (F.VEC_GRID_CRC_CRC c) = crc % 2 ^ 32 := by
  rw [Side.gridTaken, Side.get_set_off _ _ (show 0x60003C + 0x10000 * c ≠ 0x600004 + 0x10000 * c by omega)]
  exact Side.get_set_self _ (F.VEC_GRID_CRC_CRC c) crc (show 0 + 32 ≤ 32 by decide)

theorem Side.gridTaken_valid (d : Side) (c crc : Nat) (img : List Byte) :
    (d.gridTaken c crc img).get (F.VEC_STATUS_GRID_VALID c) = 1 :=
  Side.get_set_self _ (F.VEC_STATUS_GRID_VALID c) 1 (show 10 + 1 ≤ 32 by decide)

section
variable {d : Side} {p : Pkg} {n : Nat} {e : Desc} (he : d.nextHost p n 0x74 = some e)
include he

theorem Side.vecGridLoad_of_bad {o : Nat} (hbad : gridLoadBad e.bytes = some o) (herr : Option Nat) :
    d.vecGridLoad p n herr = d.startDone n (badField o) := by
  simp only [Side.vecGridLoad, he, hbad]

variable (hbad : gridLoadBad e.bytes = none)
include hbad

theorem Side.vecGridLoad_of_hostFault (a : Nat) : d.vecGridLoad p n (some a) = d.startDone n (hostFaultRes a) := by
  simp only [Side.vecGridLoad, he, hbad]

/-- The checks in their order: the first that fails gives the reason. -/
theorem Side.vecGridLoad_of_read {img : List Byte} (himg : img = memRead p.host (dFld e.bytes 8 8) 133128) :
    d.vecGridLoad p n none = if d.gridReason p e.bytes img = 0
      then (d.gridTaken (byteAt e.bytes 4 % 16) (dFld e.bytes 16 4) img).startDone n ⟨stSUCCESS, 0, 0⟩
      else d.startDone n ⟨stREFUSED, 0, d.gridReason p e.bytes img⟩ := by
  simp only [Side.vecGridLoad, he, hbad, ← himg, Side.gridReason]
  by_cases hwindow : d.plateWindow = false
  · simp [hwindow]
  by_cases hchan : p.beams ≤ byteAt e.bytes 4 % 16
  · simp [hwindow, hchan]
  by_cases hcrc : crc32c img = dFld e.bytes 16 4
  · by_cases hres : gridBad 16641 img = true
    · simp [hwindow, hchan, hcrc, hres]
    · simp [hwindow, hchan, hcrc, hres, Side.gridTaken]
  · simp [hwindow, hchan, hcrc]

end

theorem exec_vecGridLoad {n : Nat} (h : n < 64) (herr : Option Nat) (s : State) :
    exec (.vecGridLoad n herr) s = .next (s.both fun p d => d.vecGridLoad p n herr) := if_pos h

end Sys2Proof.Machine

namespace Sys2Proof.Proofs
open Sys2Proof Sys2Proof.Machine

/-- Settles O31: the descriptor's field check comes first, then the host read, then the four checks that give the reason. -/
theorem gridsLoad : Obligations.GridsLoad := by
  unfold Obligations.GridsLoad
  rintro n s x d hn hx rfl e b c img he rfl rfl himg
  have hside (herr : Option Nat) := State.both_of_running hx fun p d => d.vecGridLoad p n herr
  refine ⟨fun o herr hbad => ⟨_, exec_vecGridLoad hn herr s, ?bad⟩, fun hbad =>
    ⟨fun a => ⟨_, exec_vecGridLoad hn (some a) s, ?fault⟩, fun k hk =>
      ⟨fun hrefused => ⟨_, exec_vecGridLoad hn none s, ?refused⟩, fun htaken => ⟨_, exec_vecGridLoad hn none s, ?taken⟩⟩⟩⟩
  case bad =>
    obtain ⟨l, hl⟩ := hside herr
    rw [hl, Side.vecGridLoad_of_bad he hbad]
    exact ⟨Side.sqList_startDone _ n _, rfl⟩
  case fault =>
    obtain ⟨l, hl⟩ := hside (some a)
    rw [hl, Side.vecGridLoad_of_hostFault he hbad]
    exact ⟨Side.sqList_startDone _ n _, rfl⟩
  all_goals
    obtain ⟨l, hl⟩ := hside none
    change k = (s.side x).gridReason s.pkg e.bytes img at hk
    rw [hl, Side.vecGridLoad_of_read he hbad himg, ← hk]
  case refused =>
    rw [if_neg hrefused]
    exact ⟨Side.sqList_startDone _ n _, rfl, rfl⟩
  case taken =>
    rw [if_pos htaken]
    exact ⟨Side.sqList_startDone _ n _, Side.gridTaken_grid _ _ (dFld e.bytes 16 4) img,
      fun m hm => Side.gridTaken_vehCh_ne _ (dFld e.bytes 16 4) img hm,
      Side.gridTaken_crc _ _ _ _, Side.gridTaken_valid _ _ _ _⟩

end Sys2Proof.Proofs
end

section
/-! A word of a channel's own stream enters its look-ahead or fails (R249, R251, R253, R268, R275). -/

namespace Sys2Proof.Machine

section
variable {d : Side} {p : Pkg} {c r : Nat} {w : List Byte}

/-! Whether an entry happens. -/

/-- No plate waits for the channel. -/
theorem Side.vecSwitch_of_alone (p : Pkg) (h : (d.vehCh c).next = []) : d.vecSwitch p c = d := by
  simp only [Side.vecSwitch, h]

/-- A channel without a running plate, or with a full look-ahead, takes nothing. -/
theorem Side.lookahead_of_idle (p : Pkg) (hnext : (d.vehCh c).next = [])
    (h : (d.vehCh c).pl = none ∨ (∃ r, (d.vehCh c).pl = some r ∧ d.recRunning r = false) ∨ 32 ≤ d.laFill c) : d.lookahead p c = d := by
  simp only [Side.lookahead, Side.vecSwitch_of_alone p hnext]
  rcases h with hnone | ⟨r, hpl, hrun⟩ | hfull
  · simp only [hnone]
  · simp only [hpl, hrun, Bool.not_false, Bool.true_or, if_true]
  · cases (d.vehCh c).pl with
    | none => rfl
    | some r => simp only [hfull, decide_true, Bool.or_true, Bool.true_or, if_true]

/-- Channel c, with a free place, takes word w of record r's stream next. -/
structure Side.takesNext (p : Pkg) (d : Side) (c r : Nat) (w : List Byte) : Prop where
  alone : (d.vehCh c).next = []
  plate : (d.vehCh c).pl = some r
  running : d.recRunning r = true
  room : d.laFill c < 32
  still : (d.vehCh c).coast = none
  fresh : (d.vehCh c).kept = false
  inbox : (d.vehCh c).inbox = []
  word : d.nextWord r c = some w
  ready : d.wordWaits p c w = false

theorem Side.takesNext.lookahead_eq (h : d.takesNext p c r w) : d.lookahead p c = d.enterNext p c r := by
  have hgoes : ¬(!d.recRunning r || decide (32 ≤ d.laFill c) || (d.vehCh c).coast.isSome && decide (d.vecState c = 1)) = true := by
    simp [h.running, h.still, h.room]
  simp only [Side.lookahead, Side.vecSwitch_of_alone p h.alone, h.plate, h.fresh, h.inbox, if_neg hgoes]

/-- The entry of the word, and where the arbiter cannot record it a count in another block (R297). -/
theorem Side.takesNext.vecKept_enterOwn (h : d.takesNext p c r w) : (d.enterOwn p c r w).vecKept (d.lookahead p c) := by
  rw [h.lookahead_eq]
  simp only [Side.enterNext, h.word, h.ready, Bool.false_eq_true, if_false]
  split
  · exact Side.vecKept_inc _ 1 (by simp only [vecBlock, F.STI_UNLOGGED_COUNT]; omega)
  · exact Side.vecKept_refl _

/-! The word leaves its stream. -/

/-- From d to e, word w of channel c has left its stream: the running order stays, and the next word starts at its end. -/
def Side.tookWord (c : Nat) (w : List Byte) (d e : Side) : Prop :=
  (e.vehCh c).q = (d.vehCh c).q ∧ (e.vehCh c).held = (d.vehCh c).held ∧ (e.vehCh c).prev = some (wEnd w) ∧
    (e.vehCh c).words = (d.vehCh c).words + 1 ∧ ∀ g : Fld, vecBlock g.off → e.get g = d.get g

theorem Side.tookWord.kept {d e f : Side} (h : d.tookWord c w e) (h' : e.vecKept f) : d.tookWord c w f := by
  obtain ⟨hq, hheld, hprev, hwords, hget⟩ := h
  rw [Side.tookWord, h'.vehCh c]
  exact ⟨hq, hheld, hprev, hwords, fun g hg => (h'.2 g hg).trans (hget g hg)⟩

theorem Side.wordTaken_vecKept (d : Side) (r c : Nat) (w : List Byte) :
    (d.setVeh c { d.vehCh c with prev := some (wEnd w), prevOk := wType w == 0 || wMig w, kept := false }).vecKept
      (d.wordTaken r c w) := by
  rw [Side.wordTaken]
  split
  · exact Side.vecKept_of_eq rfl rfl
  · exact Side.vecKept_of_eq rfl rfl

theorem Side.countWord_wordTaken_tookWord (d : Side) (r c : Nat) (w : List Byte) (v : Vec) :
    d.tookWord c w ((d.wordTaken r c w).countWord c v) := by
  obtain ⟨hveh, hget⟩ := d.wordTaken_vecKept r c w
  rw [Side.tookWord, Side.countWord, Side.vehCh_setVeh_self, Side.vehCh_congr hveh, Side.vehCh_setVeh_self]
  exact ⟨rfl, rfl, rfl, rfl, hget⟩

/-! What enters with it. -/

/-- A word that needs no bridge is judged at once (R249, R276). -/
theorem Side.enterWord_of_bridged {origin : Nat} {own prevOk : Bool} {b0 : Option (Int × Int × Int)}
    (h : wType w = 1 → (b0.map (d.toField c)).getD (d.vecTail c) = d.vecTail c) : d.enterWord p c r origin own prevOk b0 w =
      ((d.wordReason p c origin prevOk (d.vecTail c) w).elim
        (d.pushVec p c (d.wordVec c origin own (if wType w = 1 then b0.getD (d.bedTail c) else d.bedTail c) w))
        fun k => d.wordFail p c r k (wVid w), true) := by
  have hbridged : ¬(decide (wType w = 1) && decide ((b0.map (d.toField c)).getD (d.vecTail c) ≠ d.vecTail c)) = true := by
    simpa using h
  rw [Side.enterWord, if_neg hbridged]
  cases d.wordReason p c origin prevOk (d.vecTail c) w <;> rfl

/-- A MARK with a bridge behind it starts where the running order ends. -/
theorem Side.start_eq_tail {b0 : Option (Int × Int × Int)} {b t : Int × Int × Int} (h : b0 = none ∨ d.toField c (b0.getD b) = t) :
    (b0.map (d.toField c)).getD t = t := by
  cases b0 with
  | none => rfl
  | some a => exact h.resolve_left (by simp)

/-- What the entry of the word makes of the side, before the word leaves its stream. -/
theorem Side.takesNext.tookWord (h : d.takesNext p c r w) {e : Side}
    (henter : d.enterWord p c r c true (d.vehCh c).prevOk (d.vehCh c).prev w = (e, true)) : e.tookWord c w (d.lookahead p c) := by
  refine Side.tookWord.kept ?_ h.vecKept_enterOwn
  simp only [Side.enterOwn, henter]
  exact e.countWord_wordTaken_tookWord r c w _

/-- A vector joins the running order of a channel that runs. -/
theorem Side.pushVec_of_run (p : Pkg) (hrun : d.vecState c = 1) (v : Vec) :
    ∃ ready, (d.pushVec p c v).vehCh c = { d.vehCh c with ready := ready, q := d.replan c ((d.vehCh c).q ++ [v]) } := by
  rw [Side.pushVec]
  dsimp only
  rw [if_neg (by simp [hrun])]
  split
  · exact ⟨_, Side.vehCh_setVeh_self d c _⟩
  · exact ⟨_, Side.vehCh_setVeh_self d c _⟩

/-- A failed word shows in WORD_ERR and the two registers behind it (R249). -/
theorem Side.wordFail_shows (d : Side) (h : c < p.beams) (r reason vid : Nat) :
    (d.wordFail p c r reason vid).veh = d.veh ∧
      (d.wordFail p c r reason vid).get (F.VEC_WORD_ERR_REASON c) = reason % 2 ^ 8 ∧
      (d.wordFail p c r reason vid).get (F.VEC_ERR_VID_VID c) = vid % 2 ^ 32 ∧
      (d.wordFail p c r reason vid).get (F.VEC_STATUS_WORD_ERR c) = 1 := by
  have hc : c < 16 := Nat.lt_of_lt_of_le h p.beams_le
  have hkept : (((d.set (F.VEC_WORD_ERR_REASON c) reason).set (F.VEC_ERR_VID_VID c) vid).faultD p (srcVec c) (F.VEC_STATUS_WORD_ERR c)
      reason vid).vecKept (d.wordFail p c r reason vid) := by
    rw [Side.wordFail]
    split
    · exact Side.vecKept_refl _
    · exact Side.vecKept_spoilCause _ p r 3
  obtain ⟨hveh, hget⟩ := hkept
  have hreason : vecBlock (0x600048 + 0x10000 * c) := vecBlock_of_lt hc (by decide)
  have hvid : vecBlock (0x60004C + 0x10000 * c) := vecBlock_of_lt hc (by decide)
  have hstatus : vecBlock (0x600004 + 0x10000 * c) := vecBlock_of_lt hc (by decide)
  refine ⟨hveh.trans (Side.faultD_veh _ _ _ _ _ _), ?shownReason, ?shownVid, ?flag⟩
  case shownReason =>
    rw [hget _ hreason, Side.vecFault_get _ h _ _ _ hreason,
      Side.get_set_off _ _ (show 0x600048 + 0x10000 * c ≠ 0x600004 + 0x10000 * c by omega),
      Side.get_set_off _ _ (show 0x600048 + 0x10000 * c ≠ 0x60004C + 0x10000 * c by omega)]
    exact Side.get_set_self _ (F.VEC_WORD_ERR_REASON c) reason (show 0 + 8 ≤ 32 by decide)
  case shownVid =>
    rw [hget _ hvid, Side.vecFault_get _ h _ _ _ hvid,
      Side.get_set_off _ _ (show 0x60004C + 0x10000 * c ≠ 0x600004 + 0x10000 * c by omega)]
    exact Side.get_set_self _ (F.VEC_ERR_VID_VID c) vid (show 0 + 32 ≤ 32 by decide)
  case flag =>
    rw [hget _ hstatus, Side.vecFault_get _ h _ _ _ hstatus]
    exact Side.get_set_self _ (F.VEC_STATUS_WORD_ERR c) 1 (show 16 + 1 ≤ 32 by decide)

/-! The entry of a word that needs no bridge. -/

section
variable (h : d.takesNext p c r w) {b : Int × Int × Int} (hb : b = (d.vehCh c).prev.getD (d.bedTail c))
  (hstart : wType w = 1 → (d.vehCh c).prev = none ∨ d.toField c b = d.vecTail c)
include h hb hstart

/-- What the word's judgement makes of the side, before the word leaves its stream. -/
theorem Side.takesNext.judged {out : Option Nat} (hout : d.wordReason p c c (d.vehCh c).prevOk (d.vecTail c) w = out) :
    (out.elim (d.pushVec p c (d.wordVec c c true (if wType w = 1 then b else d.bedTail c) w))
      fun k => d.wordFail p c r k (wVid w)).tookWord c w (d.lookahead p c) := by
  subst hb hout
  exact h.tookWord (Side.enterWord_of_bridged fun hmark => Side.start_eq_tail (hstart hmark))

/-- A word that passes its checks enters a channel that runs. -/
theorem Side.takesNext.enters (hpasses : d.wordReason p c c (d.vehCh c).prevOk (d.vecTail c) w = none) (hrun : d.vecState c = 1) :
    ((d.lookahead p c).vehCh c).q =
        d.replan c ((d.vehCh c).q ++ [d.wordVec c c true (if wType w = 1 then b else d.bedTail c) w]) ∧
      ((d.lookahead p c).vehCh c).held = (d.vehCh c).held ∧ ((d.lookahead p c).vehCh c).prev = some (wEnd w) ∧
      ((d.lookahead p c).vehCh c).words = (d.vehCh c).words + 1 := by
  obtain ⟨hq, hheld, hprev, hwords, -⟩ := h.judged hb hstart hpasses
  obtain ⟨ready, hpushed⟩ := Side.pushVec_of_run p hrun (d.wordVec c c true (if wType w = 1 then b else d.bedTail c) w)
  rw [Option.elim_none, hpushed] at hq hheld hwords
  exact ⟨hq, hheld, hprev, hwords⟩

/-- A word that fails is recorded with its reason. -/
theorem Side.takesNext.fails (hc : c < p.beams) {k : Nat}
    (hfails : d.wordReason p c c (d.vehCh c).prevOk (d.vecTail c) w = some k) :
    ((d.lookahead p c).vehCh c).q = (d.vehCh c).q ∧ ((d.lookahead p c).vehCh c).held = (d.vehCh c).held ∧
      ((d.lookahead p c).vehCh c).prev = some (wEnd w) ∧ (d.lookahead p c).get (F.VEC_WORD_ERR_REASON c) = k % 2 ^ 8 ∧
      (d.lookahead p c).get (F.VEC_ERR_VID_VID c) = wVid w % 2 ^ 32 ∧ (d.lookahead p c).get (F.VEC_STATUS_WORD_ERR c) = 1 := by
  have hlt : c < 16 := Nat.lt_of_lt_of_le hc p.beams_le
  obtain ⟨hq, hheld, hprev, -, hget⟩ := h.judged hb hstart hfails
  obtain ⟨hveh, hreason, hvid, hflag⟩ := d.wordFail_shows hc r k (wVid w)
  rw [Option.elim_some, Side.vehCh_congr hveh] at hq hheld
  exact ⟨hq, hheld, hprev, (hget _ (vecBlock_of_lt hlt (a := 0x600048) (by decide))).trans hreason,
    (hget _ (vecBlock_of_lt hlt (a := 0x60004C) (by decide))).trans hvid,
    (hget _ (vecBlock_of_lt hlt (a := 0x600004) (by decide))).trans hflag⟩

end

end

theorem exec_lookaheadEntry {s : State} {c : Nat} (h : c < s.pkg.beams) :
    exec (.lookaheadEntry c) s = .next (s.both (Side.grouped 5 fun p d => d.lookahead p c)) := if_pos h

end Sys2Proof.Machine
end

section
/-! VECTOR_BEGIN and VECTOR_END on one side (R251, R256, R265). -/

namespace Sys2Proof.Machine

section
variable {d : Side} {p : Pkg} {c : Nat}

/-! The first vector begins. -/

theorem Side.vectorBegin_of_not (h : (d.vehCh c).q = [] ∨ (d.vehCh c).begun ≠ none ∨
    (d.vnow c (d.dev p) : Rat) < (d.vehCh c).ready ∨ d.vecState c = 3) : d.vectorBegin p c = d := by
  unfold Side.vectorBegin
  dsimp only
  split
  case h_1 v l hq hbegun => exact if_pos (by simpa [hq, hbegun] using h)
  case h_2 => rfl

/-- Side d once vector u of channel c has begun. -/
def Side.vecBegun (d : Side) (c : Nat) (u : Vec) : Side :=
  (d.setVeh c { d.vehCh c with begun := some (d.vehCh c).ready }).set (F.VEC_VID_VID c) u.vid

theorem Side.vecBegun_vid (d : Side) (c : Nat) (u : Vec) : (d.vecBegun c u).get (F.VEC_VID_VID c) = u.vid % 2 ^ 32 :=
  Side.get_set_self _ (F.VEC_VID_VID c) u.vid (show 0 + 32 ≤ 32 by decide)

theorem Side.vecBegun_recActive (d : Side) (c : Nat) (u : Vec) {r : Nat} (hr : r < 4) (hst : d.recState r = 3) :
    (d.vecBegun c u).recActive r = true := by
  have hstate : (d.vecBegun c u).get (F.PLN_PLATE_STATE_STATE r) = 3 :=
    (Side.get_set_off _ _ (show 0x300100 + 0x20 * r ≠ 0x600040 + 0x10000 * c by omega)).trans hst
  simp [Side.recActive, hstate]

/-- Fewer than 32 vectors of record r's plate are there, and more are to come: its data is late (R251, R252). -/
def Side.vecLate (d : Side) (c r : Nat) : Bool :=
  decide (d.laFill c + (d.vehCh c).inbox.length + d.recFill r c / 32 < 32) && !d.recWhole r c && decide (d.recState r = 3)

section
variable {u : Vec} {l : List Vec} (hq : (d.vehCh c).q = u :: l) (hbegun : (d.vehCh c).begun = none)
  (hready : (d.vehCh c).ready ≤ d.vnow c (d.dev p)) (hst : d.vecState c ≠ 3)
include hq hbegun hready hst

theorem Side.vectorBegin_of_ready : d.vectorBegin p c = (d.vehCh c).pl.elim (d.vecBegun c u) fun r =>
    if d.vecLate c r then (d.vecBegun c u).dataLate p r else d.vecBegun c u := by
  unfold Side.vectorBegin
  dsimp only
  split
  case h_1 v rest hq' hbegun' =>
    obtain ⟨rfl, rfl⟩ := List.cons.inj (hq'.symm.trans hq)
    rw [if_neg (by simpa [hst] using hready), ← Side.vecBegun]
    cases (d.vehCh c).pl <;> rfl
  case h_2 hnot => exact absurd hbegun (hnot _ _ hq)

/-- Beyond its begin, at most late data is posted. -/
theorem Side.vectorBegin_kept : (d.vecBegun c u).vecKept (d.vectorBegin p c) := by
  rw [Side.vectorBegin_of_ready hq hbegun hready hst]
  cases (d.vehCh c).pl with
  | none => exact Side.vecKept_refl _
  | some r =>
    rw [Option.elim_some]
    split
    · exact Side.vecKept_dataLate _ p r
    · exact Side.vecKept_refl _

/-- A STARTED plate whose words are not all there. -/
theorem Side.vectorBegin_of_started {r : Nat} (hpl : (d.vehCh c).pl = some r) (hrec : d.recState r = 3)
    (hwhole : d.recWhole r c = false) : d.vectorBegin p c =
      if d.laFill c + (d.vehCh c).inbox.length + d.recFill r c / 32 < 32 then (d.vecBegun c u).dataLate p r else d.vecBegun c u := by
  rw [Side.vectorBegin_of_ready hq hbegun hready hst, hpl, Option.elim_some]
  simp only [Side.vecLate, hrec, hwhole, Bool.not_false, Bool.and_true, decide_true, decide_eq_true_eq]

end

theorem Side.dataLate_causes {d : Side} (p : Pkg) {r : Nat} (h : d.recActive r = true) : (r, 2) ∈ (d.dataLate p r).pln.causes := by
  rw [Side.dataLate]
  split
  case isTrue hc => exact List.contains_iff_mem.1 hc
  case isFalse => simp [Side.spoilCause, h]

/-! The first vector ends. -/

theorem Side.vectorEnd_of_not (h : (d.vehCh c).q = [] ∨ (d.vehCh c).begun = none) : d.vectorEnd p c = d := by
  unfold Side.vectorEnd
  dsimp only
  split
  case h_1 v l b hq hbegun => simp [hq, hbegun] at h
  case h_2 => rfl

/-- Channel c once its vector u, before l, has run from b to e. -/
def Side.vehEnded (d : Side) (c : Nat) (u : Vec) (l : List Vec) (b e : Rat) : Veh :=
  { d.vehCh c with
    q := l
    begun := none
    ready := e + (u.settle * d.fineNs : Nat)
    x := u.f1.1
    y := u.f1.2.1
    z := u.f1.2.2
    bed := (u.b1.1, u.b1.2.1)
    bedEnd := some u.b1
    wins := if u.mark then d.vecWin u b e :: (d.vehCh c).wins else (d.vehCh c).wins }

/-- The vector is counted, and the look-ahead's fill is shown. -/
def Side.vecEnded (d : Side) (c : Nat) (x : Veh) : Side := ((d.setVeh c x).inc (F.VEC_VDONE_COUNT c) 1).vecPost c

theorem Side.vecEnded_vehCh (d : Side) (c : Nat) (x : Veh) : (d.vecEnded c x).vehCh c = x := d.vehCh_setVeh_self c x

theorem Side.vecEnded_count (d : Side) (c : Nat) (x : Veh) :
    (d.vecEnded c x).get (F.VEC_VDONE_COUNT c) = (d.get (F.VEC_VDONE_COUNT c) + 1) % 2 ^ 32 := by
  rw [Side.vecEnded, Side.vecPost, Side.get_set_off _ _ (show 0x600044 + 0x10000 * c ≠ 0x600004 + 0x10000 * c by omega)]
  exact Side.get_set_self _ (F.VEC_VDONE_COUNT c) _ (show 0 + 32 ≤ 32 by decide)

/-- From d to e, channel c overshoots or stands, and its STATUS is the one register that changes. -/
def Side.vecRests (c : Nat) (d e : Side) : Prop :=
  (∃ coast bedEnd, e.vehCh c = { d.vehCh c with coast := coast, bedEnd := bedEnd }) ∧
    ∀ g : Fld, g.off ≠ 0x600004 + 0x10000 * c → e.get g = d.get g

theorem Side.vecRests_refl (c : Nat) (d : Side) : d.vecRests c d := ⟨⟨_, _, rfl⟩, fun _ _ => rfl⟩

/-- What follows the last vector of a stop or of a spoiled plate (R265, R267). -/
theorem Side.vecRests_vecRest (c : Nat) (v : Vec) (e : Rat) (back : Bool) (d : Side) : d.vecRests c (d.vecRest c v e back) := by
  unfold Side.vecRest
  dsimp only
  split
  · split
    · exact ⟨⟨_, _, rfl⟩, fun g hg => Side.get_set_off _ _ hg⟩
    · exact d.vecRests_refl c
  · exact ⟨⟨_, _, d.vehCh_setVeh_self c _⟩, fun _ _ => rfl⟩

section
variable {u : Vec} {l : List Vec} {b : Rat} (hq : (d.vehCh c).q = u :: l) (hbegun : (d.vehCh c).begun = some b)
include hq hbegun

theorem Side.vectorEnd_of_early (h : (d.vnow c (d.dev p) : Rat) < b + (d.vecProf c u).time) : d.vectorEnd p c = d := by
  simp only [Side.vectorEnd, hq, hbegun, if_pos h]

theorem Side.vectorEnd_of_over {e : Rat} (he : e = b + (d.vecProf c u).time) (h : e ≤ d.vnow c (d.dev p)) :
    (d.vecEnded c (d.vehEnded c u l b e)).vecRests c (d.vectorEnd p c) := by
  subst he
  simp only [Side.vectorEnd, hq, hbegun]
  rw [if_neg (not_lt.2 h)]
  split
  · exact Side.vecRests_vecRest c u _ _ _
  split
  · exact Side.vecRests_vecRest c u _ _ _
  · exact Side.vecRests_refl c _

/-- A vector that has ended is counted and leaves the head at its end; the next one is ready after its SETTLE (R256). -/
theorem Side.vectorEnd_shows {e : Rat} (he : e = b + (d.vecProf c u).time) (h : e ≤ d.vnow c (d.dev p)) :
    ((d.vectorEnd p c).vehCh c).q = l ∧ ((d.vectorEnd p c).vehCh c).begun = none ∧
      ((d.vectorEnd p c).vehCh c).ready = e + (u.settle * d.fineNs : Nat) ∧ ((d.vectorEnd p c).vehCh c).x = u.f1.1 ∧
      ((d.vectorEnd p c).vehCh c).y = u.f1.2.1 ∧ ((d.vectorEnd p c).vehCh c).z = u.f1.2.2 ∧
      ((d.vectorEnd p c).vehCh c).wins = (if u.mark then d.vecWin u b e :: (d.vehCh c).wins else (d.vehCh c).wins) ∧
      (d.vectorEnd p c).get (F.VEC_VDONE_COUNT c) = (d.get (F.VEC_VDONE_COUNT c) + 1) % 2 ^ 32 := by
  obtain ⟨⟨coast, bedEnd, hch⟩, hget⟩ := Side.vectorEnd_of_over hq hbegun he h
  have hcount := hget (F.VEC_VDONE_COUNT c) (show 0x600044 + 0x10000 * c ≠ 0x600004 + 0x10000 * c by omega)
  rw [hch, Side.vecEnded_vehCh, hcount, Side.vecEnded_count]
  exact ⟨rfl, rfl, rfl, rfl, rfl, rfl, rfl, rfl⟩

end

end

/-! The commands. -/

section
variable {s : State} {c : Nat}

theorem exec_vectorBegin (h : c < s.pkg.beams) (k : Nat) : exec (.vectorBegin c k) s =
    .next ((s.advance k).both (Side.grouped 5 fun p d => d.vectorBegin p c)) := if_pos h

theorem exec_vectorEnd (h : c < s.pkg.beams) (k : Nat) : exec (.vectorEnd c k) s =
    .next ((s.advance k).both (Side.grouped 5 fun p d => d.vectorEnd p c)) := if_pos h

end

end Sys2Proof.Machine

namespace Sys2Proof.Proofs
open Sys2Proof Sys2Proof.Machine

/-- Settles O30: a word enters the look-ahead or fails before it leaves its stream, and what leaves the stream keeps what entered; a vector
that begins or ends is the channel's own update, which late data and the rest behind a stop leave alone. That a first vector starts at the
head's rest position is log entry 35, and its begin instant log entry 163. -/
theorem vectorsRun : Obligations.VectorsRun := by
  unfold Obligations.VectorsRun
  rintro c s x d v hc hx rfl rfl hon
  refine ⟨fun hnext => ?entry, fun k now hnow => ?instants⟩
  case entry =>
    obtain ⟨l, hside⟩ := State.both_of_running hx (Side.grouped 5 fun p d => d.lookahead p c)
    rw [Side.grouped, if_pos hon] at hside
    refine ⟨fun hidle => ⟨_, exec_lookaheadEntry hc, ?idle⟩,
      fun r w b hpl hrun hroom hcoast hkept hinbox hword hwaits hb hstart => ?takes⟩
    case idle =>
      rw [hside, Side.lookahead_of_idle s.pkg hnext hidle]
      exact ⟨rfl, rfl⟩
    case takes =>
      have htakes : (s.side x).takesNext s.pkg c r w := ⟨hnext, hpl, hrun, hroom, hcoast, hkept, hinbox, hword, hwaits⟩
      refine ⟨fun hpasses hstate => ⟨_, _, exec_lookaheadEntry hc, rfl, ?_⟩,
        fun reason hfails => ⟨_, _, exec_lookaheadEntry hc, rfl, ?_⟩⟩ <;> rw [hside]
      · exact htakes.enters hb hstart hpasses hstate
      · exact htakes.fails hb hstart hc hfails
  case instants =>
    subst hnow
    obtain ⟨l, hbegin⟩ := State.both_grouped_of_on hx hon k fun p d => d.vectorBegin p c
    obtain ⟨m, hend⟩ := State.both_grouped_of_on hx hon k fun p d => d.vectorEnd p c
    refine ⟨fun hnot => ⟨_, exec_vectorBegin hc k, ?waits⟩,
      fun u rest hq hbegun hready hstate => ⟨_, exec_vectorBegin hc k, ?begins⟩,
      fun hnot => ⟨_, exec_vectorEnd hc k, ?idle⟩, fun u rest b e hq hbegun he =>
        ⟨fun hearly => ⟨_, exec_vectorEnd hc k, ?early⟩, fun hover => ⟨_, _, exec_vectorEnd hc k, rfl, ?ends⟩⟩⟩
    case waits =>
      rw [hbegin, Side.vectorBegin_of_not hnot]
      exact ⟨rfl, rfl⟩
    case begins =>
      have hkept := Side.vectorBegin_kept hq hbegun hready hstate
      have hvid : vecBlock (0x600040 + 0x10000 * c) := vecBlock_of_lt (Nat.lt_of_lt_of_le hc s.pkg.beams_le) (by decide)
      rw [hbegin]
      refine ⟨(hkept.vehCh c).trans (Side.vehCh_setVeh_self _ c _), (hkept.2 _ hvid).trans (Side.vecBegun_vid _ c u),
        fun r hpl hr hrec hwhole => ⟨fun hmany => ?_, fun hfew => ?_⟩⟩
      · rw [Side.vectorBegin_of_started hq hbegun hready hstate hpl hrec hwhole, if_neg (Nat.not_lt.2 hmany)]
        rfl
      · rw [Side.vectorBegin_of_started hq hbegun hready hstate hpl hrec hwhole, if_pos hfew]
        exact Side.dataLate_causes _ (Side.vecBegun_recActive _ c u hr hrec)
    case idle =>
      rw [hend, Side.vectorEnd_of_not hnot]
      exact ⟨rfl, rfl⟩
    case early =>
      rw [hend, Side.vectorEnd_of_early hq hbegun (he ▸ hearly)]
      exact ⟨rfl, rfl⟩
    case ends =>
      rw [hend]
      exact Side.vectorEnd_shows hq hbegun he hover

end Sys2Proof.Proofs
end

section
/-! The melt-pool ports and the heat map's clear on one side (R285, R286, R290). -/

namespace Sys2Proof.Machine

theorem Side.mpCh_setMp_self (d : Side) (c : Nat) (m : MpCh) : (d.setMp c m).mpCh c = m := tget_tset_self _ _ _ _

/-! Conversion edges. -/

/-- A port once a conversion edge has come at device time t: the edge takes the next index (R286). -/
def MpCh.edged (m : MpCh) (t : Nat) : MpCh :=
  { m with convs := (⟨t, m.nextIdx, none⟩ :: m.convs).take 64, nextIdx := m.nextIdx + 1, convI := m.convI + 1 }

/-- The word of the last edge has come. -/
def MpCh.lastCame (m : MpCh) : Bool :=
  match m.convs with
  | [] => false
  | v :: _ => v.word.isSome

theorem MpCh.lastCame_of_cons {m : MpCh} {v : Conv} {l : List Conv} (h : m.convs = v :: l) : m.lastCame = v.word.isSome := by
  rw [MpCh.lastCame, h]

/-- The next conversion edge of port c's fine tick has not come yet, or there is none (R285). -/
def Side.convWaits (d : Side) (p : Pkg) (c : Nat) : Bool :=
  !d.flag (F.MPL_CH_CFG_EN c) || decide (d.mpQ c ≤ (d.mpCh c).convI) ||
    decide (tdiff (d.dev p) (d.mpCh c).convB * d.mpQ c < ((d.mpCh c).convI * d.fineNs : Nat))

section
variable {d : Side} {p : Pkg} {c : Nat}

theorem Side.convEdge_eq (d : Side) (p : Pkg) (c : Nat) : d.convEdge p c = if d.convWaits p c then d
    else (d.setMp c ((d.mpCh c).edged (d.dev p))).set (F.MPL_CH_STATUS_PORT_LOCK c) (b2n (d.mpCh c).lastCame) := rfl

theorem Side.convEdge_of_due (hen : d.get (F.MPL_CH_CFG_EN c) = 1) (hleft : (d.mpCh c).convI < d.mpQ c)
    (hdue : (((d.mpCh c).convI * d.fineNs : Nat) : Int) ≤ tdiff (d.dev p) (d.mpCh c).convB * d.mpQ c) : d.convEdge p c =
      (d.setMp c ((d.mpCh c).edged (d.dev p))).set (F.MPL_CH_STATUS_PORT_LOCK c) (b2n (d.mpCh c).lastCame) := by
  have hwaits : d.convWaits p c = false := by
    simp only [Side.convWaits, (d.flag_iff _).2 hen, decide_eq_false (Nat.not_le.2 hleft), decide_eq_false (Int.not_lt.2 hdue),
      Bool.not_true, Bool.or_self]
  rw [Side.convEdge_eq, hwaits, if_neg Bool.false_ne_true]

theorem Side.convEdge_of_not_due (h : d.get (F.MPL_CH_CFG_EN c) = 0 ∨ d.mpQ c ≤ (d.mpCh c).convI ∨
    tdiff (d.dev p) (d.mpCh c).convB * d.mpQ c < (((d.mpCh c).convI * d.fineNs : Nat) : Int)) : d.convEdge p c = d := by
  have hwaits : d.convWaits p c = true := by
    rw [Side.convWaits]
    rcases h with hoff | hdone | hearly
    · simp only [Side.flag_of_get_zero hoff, Bool.not_false, Bool.true_or]
    · simp only [decide_eq_true hdone, Bool.or_true, Bool.true_or]
    · simp only [decide_eq_true hearly, Bool.or_true]
  rw [Side.convEdge_eq, if_pos hwaits]

theorem Side.get_set_portLock (d : Side) (c : Nat) (came : Bool) :
    (d.set (F.MPL_CH_STATUS_PORT_LOCK c) (b2n came)).get (F.MPL_CH_STATUS_PORT_LOCK c) = if came then 1 else 0 := by
  rw [Side.get_set_self _ _ _ (show 0 + 1 ≤ 32 by decide)]
  cases came <;> rfl

/-! Words. -/

variable {v : Conv} {l : List Conv} (hconvs : (d.mpCh c).convs = v :: l)
include hconvs

theorem Side.mpWord_of_first (p : Pkg) (a b : Nat) (hword : v.word = none) (hen : d.get (F.MPL_CH_CFG_EN c) = 1) : d.mpWord p c a b =
    d.setMp c { d.mpCh c with
      convs := { v with word := some (a, b, d.dev p, d.flag (F.MPL_CH_STATUS_PORT_LOCK c)) } :: l } := by
  simp only [Side.mpWord, hconvs, hword, (d.flag_iff _).2 hen, Option.isSome_none, Bool.not_true, Bool.or_self, Bool.false_eq_true,
    if_false]

theorem Side.mpWord_of_not (p : Pkg) (a b : Nat) (h : v.word ≠ none ∨ d.get (F.MPL_CH_CFG_EN c) = 0) : d.mpWord p c a b = d := by
  have hignored : (v.word.isSome || !d.flag (F.MPL_CH_CFG_EN c)) = true := by
    rcases h with hword | hoff
    · simp only [Option.isSome_iff_ne_none.2 hword, Bool.true_or]
    · simp only [Side.flag_of_get_zero hoff, Bool.not_false, Bool.or_true]
  simp only [Side.mpWord, hconvs, hignored, if_true]

end

/-! HM_CLEAR. -/

theorem Side.hmClear_of_window {d : Side} (p : Pkg) (hwindow : d.plateWindow = true) (hfresh : d.stale 7 = false) :
    d.hmClear p = { d with mpl := { d.mpl with clear := true } } := by
  simp only [Side.hmClear, hwindow, hfresh, Bool.not_false, Bool.and_self, if_true]

theorem Side.hmClear_of_refused {d : Side} (p : Pkg) (h : d.plateWindow = false ∨ d.stale 7 = true) :
    d.hmClear p = d.fault p 0x150 F.MPL_STATUS_WINDOW_VIOL := by
  rcases h with hwindow | hstale
  · simp only [Side.hmClear, hwindow, Bool.false_and, Bool.false_eq_true, if_false]
  · simp only [Side.hmClear, hstale, Bool.not_true, Bool.and_false, Bool.false_eq_true, if_false]

/-! The commands. -/

section
variable {s : State} {c : Nat}

theorem exec_mpConversionEdge (h : c < s.pkg.beams) (k : Nat) : exec (.mpConversionEdge c k) s =
    .next ((s.advance k).both (Side.grouped 7 fun p d => d.convEdge p c)) := if_pos h

theorem exec_mpWordReceived (h : c < s.pkg.beams) (a b : Word) (k : Nat) : exec (.mpWordReceived c a b k) s =
    .next ((s.advance k).both (Side.grouped 7 fun p d => d.mpWord p c (a.toNat % 65536) (b.toNat % 65536))) := if_pos h

theorem exec_hmClear (hacc : s.accepts true 0x880014 1) : exec .hmClear s = .next (s.both Side.hmClear) :=
  congrArg _ (State.accepts_asWrite hacc _)

end

end Sys2Proof.Machine

namespace Sys2Proof.Proofs
open Sys2Proof Sys2Proof.Machine

/-- Settles O33: an edge that is due, a word and a clear each take the one branch that their conditions name, and the clear itself
waits in `Mpl.clear` for the edge. -/
theorem meltPortAndHeatMap : Obligations.MeltPortAndHeatMap := by
  unfold Obligations.MeltPortAndHeatMap
  rintro s x d hx rfl hon
  refine ⟨fun c k m dv hc hm hdv => ?port, fun hacc => ?clear⟩
  case port =>
    subst hm hdv
    obtain ⟨l, hedge⟩ := State.both_grouped_of_on hx hon k fun p d => d.convEdge p c
    refine ⟨fun hen hleft hdue => ⟨_, exec_mpConversionEdge hc k, ?due⟩, fun hnot => ⟨_, exec_mpConversionEdge hc k, ?notDue⟩,
      fun a b v rest hconvs => ⟨fun hword hen => ⟨_, exec_mpWordReceived hc a b k, ?first⟩,
        fun hnot => ⟨_, exec_mpWordReceived hc a b k, ?ignored⟩⟩⟩
    case due =>
      rw [hedge, Side.convEdge_of_due hen hleft hdue]
      refine ⟨Side.mpCh_setMp_self _ c _, fun v rest hconvs => ?_⟩
      rw [← MpCh.lastCame_of_cons hconvs]
      exact Side.get_set_portLock _ c _
    case notDue =>
      rw [hedge, Side.convEdge_of_not_due hnot]
      exact ⟨rfl, rfl⟩
    all_goals
      obtain ⟨l, hside⟩ := State.both_grouped_of_on hx hon k fun p d => d.mpWord p c (a.toNat % 65536) (b.toNat % 65536)
      rw [hside]
    case first =>
      rw [Side.mpWord_of_first hconvs _ _ _ hword hen]
      exact Side.mpCh_setMp_self _ c _
    case ignored => rw [Side.mpWord_of_not hconvs _ _ _ hnot]
  case clear =>
    obtain ⟨l, hside⟩ := State.both_of_running hx Side.hmClear
    refine ⟨fun hwindow hfresh => ⟨_, exec_hmClear hacc, ?taken⟩, fun hnot => ⟨_, exec_hmClear hacc, ?refused⟩⟩
    case taken => rw [hside, Side.hmClear_of_window _ hwindow hfresh]
    case refused =>
      rw [hside, Side.hmClear_of_refused _ hnot]
      exact ⟨Side.fault_mpl _ _ _ _, Side.mplFault_flag _ _ rfl rfl (by decide)⟩

end Sys2Proof.Proofs
end

section
/-! ARBITER_DECISION on one side (R273 to R276, R282, R295): what an assignment leaves of the telemetry and of the arbiter's counts, and
where the word goes. -/

namespace Sys2Proof.Machine

/-! What the arbiter has counted and recorded. -/

/-- The registers that count decisions and migrations (R302). -/
def arbCounts (o : Nat) : Prop := o = 0x70001C ∨ o = 0x700020

theorem offPost_of_arbCounts {o : Nat} (h : arbCounts o) : offPost o := by
  unfold arbCounts at h
  unfold offPost
  omega

/-- A register of a vector channel is none of them. -/
theorem not_arbCounts_of_lt {a c : Nat} (hc : c < 16) (ha : 0x600000 ≤ a ∧ a < 0x610000) : ¬arbCounts (a + 0x10000 * c) := by
  unfold arbCounts
  omega

/-- From d to e, no telemetry and no count of the arbiter changes. -/
def Side.arbKept (d e : Side) : Prop := e.mpl = d.mpl ∧ ∀ g : Fld, arbCounts g.off → e.get g = d.get g

theorem Side.arbKept_of_eq {d e : Side} (hmpl : e.mpl = d.mpl) (hrf : e.rf = d.rf) : d.arbKept e :=
  ⟨hmpl, fun g _ => congrArg (rfGet · g) hrf⟩

theorem Side.arbKept_refl (d : Side) : d.arbKept d := Side.arbKept_of_eq rfl rfl

theorem Side.arbKept.trans {d e f : Side} (h : d.arbKept e) (h' : e.arbKept f) : d.arbKept f :=
  ⟨h'.1.trans h.1, fun g hg => (h'.2 g hg).trans (h.2 g hg)⟩

theorem Side.arbKept_set (d : Side) {f : Fld} (v : Nat) (hf : ¬arbCounts f.off) : d.arbKept (d.set f v) :=
  ⟨rfl, fun _ hg => Side.get_set_off _ _ fun he => hf (he ▸ hg)⟩

theorem Side.arbKept_faultD (d : Side) (p : Pkg) {src : Nat} {f : Fld} (x y : Nat) (hsrc : src < 0x1000) (hf : ¬arbCounts f.off) :
    d.arbKept (d.faultD p src f x y) :=
  ⟨d.faultD_mpl p src f x y, fun g hg => Side.get_of_word g
    (d.faultD_word_ne p src f x y g.off hsrc (offPost_of_arbCounts hg) fun he => hf (he ▸ hg))⟩

theorem Side.arbKept_spoilCause (d : Side) (p : Pkg) (r reason : Nat) : d.arbKept (d.spoilCause p r reason) := by
  unfold Side.spoilCause
  split
  · exact Side.arbKept_of_eq rfl rfl
  split
  · exact d.arbKept_faultD p _ _ (by decide) (by simp only [arbCounts, F.PLN_STATUS_SPOIL_SEEN]; omega)
  · exact d.arbKept_refl

/-! A record of telemetry changes nothing else of a side. -/

theorem Side.telAdd_eq (d : Side) (t : TelJob) (now : Nat) (last : Bool) (l : List Byte) :
    d.telAdd t now last l = { d with mpl := (d.telAdd t now last l).mpl } := by
  unfold Side.telAdd
  dsimp only
  split
  · rfl
  split
  · rfl
  split <;> rfl

theorem Side.telAdd_get (d : Side) (t : TelJob) (now : Nat) (last : Bool) (l : List Byte) (g : Fld) :
    (d.telAdd t now last l).get g = d.get g := by
  rw [Side.telAdd_eq]
  rfl

theorem Side.telAdd_veh (d : Side) (t : TelJob) (now : Nat) (last : Bool) (l : List Byte) : (d.telAdd t now last l).veh = d.veh := by
  rw [Side.telAdd_eq]

/-! A word enters its origin's look-ahead. -/

section
variable {c : Nat} (hc : c < 16)
include hc

theorem Side.arbKept_vecPost (d : Side) : d.arbKept (d.vecPost c) :=
  d.arbKept_set _ (not_arbCounts_of_lt hc (a := 0x600004) (by decide))

theorem Side.arbKept_pushVec (p : Pkg) (v : Vec) (d : Side) : d.arbKept (d.pushVec p c v) := by
  unfold Side.pushVec
  dsimp only
  split
  · exact (Side.arbKept_of_eq rfl rfl).trans (Side.arbKept_vecPost hc _)
  · exact (Side.arbKept_of_eq rfl rfl).trans (Side.arbKept_vecPost hc _)

theorem Side.arbKept_wordFail (p : Pkg) (r reason vid : Nat) (d : Side) : d.arbKept (d.wordFail p c r reason vid) := by
  have hreason := d.arbKept_set (f := F.VEC_WORD_ERR_REASON c) reason (not_arbCounts_of_lt hc (a := 0x600048) (by decide))
  have hvid := hreason.trans (Side.arbKept_set _ (f := F.VEC_ERR_VID_VID c) vid (not_arbCounts_of_lt hc (a := 0x60004C) (by decide)))
  have hfault := hvid.trans (Side.arbKept_faultD _ p (f := F.VEC_STATUS_WORD_ERR c) reason vid (srcVec_lt hc)
    (not_arbCounts_of_lt hc (a := 0x600004) (by decide)))
  unfold Side.wordFail
  dsimp only
  split
  · exact hfault
  · exact hfault.trans (Side.arbKept_spoilCause _ p r 3)

theorem Side.arbKept_enterWord (p : Pkg) (r origin : Nat) (own prevOk : Bool)
    (b0 : Option (Int × Int × Int)) (w : List Byte) (d : Side) : d.arbKept (d.enterWord p c r origin own prevOk b0 w).1 := by
  unfold Side.enterWord
  dsimp only
  split
  · exact Side.arbKept_pushVec hc p _ d
  split
  · exact Side.arbKept_wordFail hc p r _ _ d
  · exact Side.arbKept_pushVec hc p _ d

end

theorem Side.arbKept_countWord_wordTaken (d : Side) (r c : Nat) (w : List Byte) (v : Vec) :
    d.arbKept ((d.wordTaken r c w).countWord c v) := by
  unfold Side.wordTaken
  dsimp only
  split
  · exact Side.arbKept_of_eq rfl rfl
  · exact Side.arbKept_of_eq rfl rfl

theorem Side.arbKept_enterOwn {c : Nat} (hc : c < 16) (p : Pkg) (r : Nat) (w : List Byte) (d : Side) :
    d.arbKept (d.enterOwn p c r w) := by
  have henter := Side.arbKept_enterWord hc p r c true (d.vehCh c).prevOk (d.vehCh c).prev w d
  unfold Side.enterOwn
  dsimp only
  split
  case h_1 e he =>
    rw [he] at henter
    exact henter.trans (e.arbKept_countWord_wordTaken r c w _)
  case h_2 e he =>
    rw [he] at henter
    exact henter.trans (Side.arbKept_of_eq rfl rfl)

/-! The word goes to its channel (R275). -/

section
variable {d : Side} {p : Pkg} {u : Due} {b : Nat}

/-- Side d once the word of u has joined the tail of channel b's inbox. -/
def Side.arbSent (d : Side) (u : Due) (b : Nat) : Side :=
  (d.setVeh b { d.vehCh b with inbox := (d.vehCh b).inbox ++ [⟨u.r, u.c, u.b0, u.w⟩] }).inboxPost b

/-- The vector of the word on its origin's head (R278). -/
def Side.arbVec (d : Side) (u : Due) : Vec := d.wordVecAt u.c u.c true (d.toField u.c u.b0) u.b0 u.w

theorem Side.assign_of_other (p : Pkg) (h : b ≠ u.c) :
    d.assign p u b = ((d.arbSent u b).wordTaken u.r u.c u.w).countWord u.c (d.arbVec u) := if_neg h

theorem Side.arbKept_arbSent (d : Side) (u : Due) (b : Nat) : d.arbKept (d.arbSent u b) := by
  refine Side.arbKept.trans (e := d.setVeh b _) (Side.arbKept_of_eq rfl rfl) (Side.arbKept_set _ _ ?_)
  split
  · simp only [arbCounts, F.STI_INBOX_LO_FILL]
    omega
  · simp only [arbCounts, F.STI_INBOX_HI_FILL]
    omega

/-- No assignment changes what has been recorded and counted. -/
theorem Side.arbKept_assign (p : Pkg) (hc : u.c < 16) (b : Nat) (d : Side) : d.arbKept (d.assign p u b) := by
  by_cases h : b = u.c
  case pos =>
    have hkept : d.arbKept (d.setVeh b { d.vehCh b with kept := true }) := Side.arbKept_of_eq rfl rfl
    have hfirst := hkept.trans (Side.arbKept_enterOwn hc p u.r u.w _)
    unfold Side.assign
    rw [if_pos h]
    dsimp only
    split
    · exact hfirst.trans (Side.arbKept_enterOwn hc p u.r u.w _)
    · exact hfirst
  case neg =>
    rw [Side.assign_of_other p h]
    exact (d.arbKept_arbSent u b).trans (Side.arbKept_countWord_wordTaken _ u.r u.c u.w _)

/-- A word that goes to another channel joins the tail of its inbox, and leaves its own stream. -/
theorem Side.assign_other_shows (p : Pkg) (h : b ≠ u.c) :
    ((d.assign p u b).vehCh b).inbox = (d.vehCh b).inbox ++ [⟨u.r, u.c, u.b0, u.w⟩] ∧
      ((d.assign p u b).vehCh u.c).prev = some (wEnd u.w) ∧ ((d.assign p u b).vehCh u.c).words = (d.vehCh u.c).words + 1 := by
  have hown : (d.arbSent u b).vehCh u.c = d.vehCh u.c := Side.vehCh_setVeh_ne d _ h.symm
  have hother : (d.arbSent u b).vehCh b = { d.vehCh b with inbox := (d.vehCh b).inbox ++ [⟨u.r, u.c, u.b0, u.w⟩] } :=
    Side.vehCh_setVeh_self d b _
  obtain ⟨-, -, hprev, hwords, -⟩ := (d.arbSent u b).countWord_wordTaken_tookWord u.r u.c u.w (d.arbVec u)
  have htaken := ((d.arbSent u b).wordTaken_vecKept u.r u.c u.w).vehCh b
  rw [Side.vehCh_setVeh_ne _ _ h, hother] at htaken
  rw [Side.assign_of_other p h]
  refine ⟨?_, hprev, by rw [hwords, hown]⟩
  rw [Side.countWord, Side.vehCh_setVeh_ne _ _ h, htaken]

/-! The decision. -/

/-- The word that is due belongs to a channel of the part. -/
theorem Side.beam_of_arbDue (h : d.arbDue p = some u) : u.c < p.beams := by
  unfold Side.arbDue at h
  split at h
  · cases h
  obtain ⟨c, hc, hfound⟩ := List.exists_of_findSome?_eq_some h
  dsimp only at hfound
  split at hfound
  · cases hfound
  split at hfound
  · cases hfound
  split at hfound
  · obtain rfl := Option.some.inj hfound
    exact List.mem_range.1 hc
  · cases hfound

/-- Side d once the decision on u is recorded: outcome o for channel b, with the exclusion codes (R295). -/
def Side.arbRecorded (d : Side) (u : Due) (b o excl : Nat) : Side := d.telAdd (d.telJob u.r) u.now false (d.assignRec u b o excl)

/-- The same once it is counted too, and a migration in its own count (R282, R302). -/
def Side.arbCounted (d : Side) (u : Due) (b o excl : Nat) : Side :=
  let e := (d.arbRecorded u b o excl).inc F.STI_DECISIONS_COUNT 1
  if o = 1 then e.inc F.STI_MIGRATED_COUNT 1 else e

theorem Side.arbCounted_mpl (d : Side) (u : Due) (b o excl : Nat) : (d.arbCounted u b o excl).mpl = (d.arbRecorded u b o excl).mpl := by
  unfold Side.arbCounted
  dsimp only
  split <;> rfl

theorem Side.arbCounted_vehCh (d : Side) (u : Due) (b o excl c : Nat) : (d.arbCounted u b o excl).vehCh c = d.vehCh c := by
  refine Side.vehCh_congr ?_ c
  have hrecorded : (d.arbRecorded u b o excl).veh = d.veh := d.telAdd_veh _ _ _ _
  unfold Side.arbCounted
  dsimp only
  split <;> exact hrecorded

theorem Side.arbCounted_decisions (d : Side) (u : Due) (b o excl : Nat) :
    (d.arbCounted u b o excl).get F.STI_DECISIONS_COUNT = (d.get F.STI_DECISIONS_COUNT + 1) % 2 ^ 32 := by
  have hcount : ((d.arbRecorded u b o excl).inc F.STI_DECISIONS_COUNT 1).get F.STI_DECISIONS_COUNT =
      (d.get F.STI_DECISIONS_COUNT + 1) % 2 ^ 32 := by
    rw [Side.inc, Side.get_set_self _ _ _ (by decide), Side.arbRecorded, Side.telAdd_get]
    rfl
  unfold Side.arbCounted
  dsimp only
  split
  · exact (Side.get_set_off _ _ (by decide)).trans hcount
  · exact hcount

theorem Side.arbCounted_migrated (d : Side) (u : Due) (b o excl : Nat) : (d.arbCounted u b o excl).get F.STI_MIGRATED_COUNT =
    if o = 1 then (d.get F.STI_MIGRATED_COUNT + 1) % 2 ^ 32 else d.get F.STI_MIGRATED_COUNT := by
  have hbefore : ((d.arbRecorded u b o excl).inc F.STI_DECISIONS_COUNT 1).get F.STI_MIGRATED_COUNT = d.get F.STI_MIGRATED_COUNT :=
    (Side.get_set_off _ _ (by decide)).trans (d.telAdd_get _ _ _ _ _)
  unfold Side.arbCounted
  dsimp only
  split
  · rw [Side.inc, Side.get_set_self _ _ _ (by decide), hbefore]
    rfl
  · exact hbefore

theorem Side.arbiter_of_none (h : (d.logFull p).arbDue p = none) : d.arbiter p = d.logFull p := by
  simp only [Side.arbiter, h]

theorem Side.arbiter_of_due (h : (d.logFull p).arbDue p = some u) : d.arbiter p = (d.logFull p).decide_ p u := by
  simp only [Side.arbiter, h]

/-- A word in no zone stays with its channel and is recorded (R272). -/
theorem Side.decide_of_no_zone (p : Pkg) (h : d.zoneOf u.c u.b0 (wEnd u.w) = none) :
    d.decide_ p u = (d.arbRecorded u u.c 3 0).assign p u u.c := by
  simp only [Side.decide_, h]
  rfl

/-- The exclusion codes of a zone's channels as an ASSIGN record holds them: 7 for a channel that passes and is chosen (R273, R295). -/
def exclWord (b : Nat) (codes : List (Nat × Nat)) : Nat :=
  (codes.map fun e => (if e.1 = b && e.2 = 6 then 7 else e.2) * 16 ^ e.1).sum

theorem Side.decide_of_zone {z o : Nat} {codes : List (Nat × Nat)} (h : d.zoneOf u.c u.b0 (wEnd u.w) = some z)
    (hcodes : codes = ((List.range p.beams).filter fun b => bit (d.get (F.STI_ZONE_MASK_MASK z)) b).map fun b => (b, d.exclude p u b))
    (hchoose : d.choose u ((codes.filter fun e => e.2 == 6).map (·.1)) = (b, o)) : d.decide_ p u =
      (d.arbCounted u b o (exclWord b codes)).assign p u b := by
  subst hcodes
  simp only [Side.decide_, h, hchoose]
  rfl

end

/-! The command. -/

theorem exec_arbiterDecision (s : State) : exec .arbiterDecision s = .next (s.both (Side.grouped 6 Side.arbiter)) := rfl

end Sys2Proof.Machine

namespace Sys2Proof.Proofs
open Sys2Proof Sys2Proof.Machine

/-- Settles O34: a decision records and counts before the word goes to its channel, and no assignment changes what is recorded and
counted. -/
theorem arbiterDecides : Obligations.ArbiterDecides := by
  unfold Obligations.ArbiterDecides
  rintro s x d D hx rfl rfl hon
  obtain ⟨l, hside⟩ := State.both_of_running hx (Side.grouped 6 Side.arbiter)
  rw [Side.grouped, if_pos hon] at hside
  refine ⟨fun hnone => ⟨_, exec_arbiterDecision s, ?idle⟩, fun u hu => ⟨fun hz => ⟨_, exec_arbiterDecision s, ?stays⟩,
    fun z codes b o hz hcodes hchoose => ⟨_, exec_arbiterDecision s, ?decided⟩⟩⟩
  case idle =>
    rw [hside, Side.arbiter_of_none hnone]
    exact ⟨rfl, rfl, rfl⟩
  all_goals
    have hc : u.c < 16 := Nat.lt_of_lt_of_le (Side.beam_of_arbDue hu) s.pkg.beams_le
    rw [hside, Side.arbiter_of_due hu]
    generalize (s.side x).logFull s.pkg = D at *
  case stays =>
    obtain ⟨hmpl, hget⟩ := Side.arbKept_assign s.pkg hc u.c (D.arbRecorded u u.c 3 0)
    rw [Side.decide_of_no_zone _ hz]
    exact ⟨hmpl, (hget F.STI_DECISIONS_COUNT (.inl rfl)).trans (D.telAdd_get _ _ _ _ _)⟩
  case decided =>
    rw [Side.decide_of_zone hz hcodes hchoose]
    obtain ⟨hmpl, hget⟩ := Side.arbKept_assign s.pkg hc b (D.arbCounted u b o (exclWord b codes))
    refine ⟨hmpl.trans (D.arbCounted_mpl u b o _), (hget F.STI_DECISIONS_COUNT (.inl rfl)).trans (D.arbCounted_decisions u b o _),
      (hget F.STI_MIGRATED_COUNT (.inr rfl)).trans (D.arbCounted_migrated u b o _), fun hb => ?_⟩
    obtain ⟨hinbox, hprev, hwords⟩ := Side.assign_other_shows (d := D.arbCounted u b o (exclWord b codes)) s.pkg hb
    rw [Side.arbCounted_vehCh] at hinbox hwords
    exact ⟨hinbox, hprev, hwords⟩

end Sys2Proof.Proofs
end

section
/-! What every operation of the package keeps (R427, R446, R498, R505): the fuses, the flash, the fitted memory and the debug port, and the
canonical form of host memory. One rule per operation of the state; an operation that is built of others follows from theirs. -/

namespace Sys2Proof.Machine

/-- From s to t the package keeps fuses, flash, fitted memory and debug port, and host memory keeps its canonical form. -/
def State.quiet (s t : State) : Prop := s.pkg.keeps t.pkg ∧ (memWf s.pkg.host = true → memWf t.pkg.host = true)

theorem State.quiet_refl (s : State) : s.quiet s := ⟨⟨rfl, rfl, rfl, rfl, rfl, rfl⟩, id⟩

theorem Pkg.keeps.trans {p q r : Pkg} (h : p.keeps q) (h' : q.keeps r) : p.keeps r := by
  obtain ⟨h1, h2, h3, h4, h5, h6⟩ := h
  obtain ⟨g1, g2, g3, g4, g5, g6⟩ := h'
  exact ⟨g1.trans h1, g2.trans h2, g3.trans h3, g4.trans h4, g5.trans h5, g6.trans h6⟩

theorem State.quiet.trans {s t u : State} (h : s.quiet t) (h' : t.quiet u) : s.quiet u := ⟨h.1.trans h'.1, h'.2 ∘ h.2⟩

section
variable {s t : State}

theorem State.quiet.ite {u v : State} {c : Prop} [Decidable c] (hu : s.quiet u) (hv : s.quiet v) : s.quiet (if c then u else v) := by
  split
  · exact hu
  · exact hv

theorem State.quiet.foldl {α : Type} (h : s.quiet t) {f : State → α → State} {l : List α} (hf : ∀ u : State, ∀ a ∈ l, u.quiet (f u a)) :
    s.quiet (l.foldl f t) := by
  induction l generalizing t with
  | nil => exact h
  | cons a l ih =>
    exact ih (h.trans (hf t a (List.mem_cons_self ..))) fun u b hb => hf u b (List.mem_cons_of_mem _ hb)

/-! Updates of the sides and of the hold die. -/

theorem State.quiet.setHold (h : s.quiet t) (k : Hold) : s.quiet (t.setHold k) := h

theorem State.quiet.setSide (h : s.quiet t) (x : SideId) (d : Side) : s.quiet (t.setSide x d) := h

theorem State.quiet.setSides (h : s.quiet t) (a b : Side) : s.quiet { t with sideA := a, sideB := b } := h

theorem State.quiet.setFlt (h : s.quiet t) (k : Flt) : s.quiet (t.setFlt k) := h

theorem State.quiet.updPort (h : s.quiet t) (n : Nat) (f : Port → Port) : s.quiet (t.updPort n f) := h

theorem State.quiet.onBooting (h : s.quiet t) (f : Side → Side) : s.quiet (t.onBooting f) := h

theorem State.quiet.advance (h : s.quiet t) (k : Nat) : s.quiet (t.advance k) := by
  unfold State.advance Pkg.advance
  split
  · exact h
  · exact h

theorem State.quiet.setPci (h : s.quiet t) (c : Pci) : s.quiet { t with pkg := { t.pkg with pci := c } } := h

/-! Packets that leave. -/

theorem Pkg.memWf_sendMsix {p : Pkg} (fn : Fn) (v : Nat) (h : memWf p.host = true) : memWf (p.sendMsix fn v).host = true := by
  unfold Pkg.sendMsix
  split
  · exact h
  · exact memWf_memWrite _ _ _ h

theorem Pkg.memWf_emit {p : Pkg} (o : Outbound) (h : memWf p.host = true) : memWf (p.emit o).host = true := by
  cases o with
  | hostWrite fn a l => exact memWf_memWrite _ _ _ h
  | msix fn v => exact Pkg.memWf_sendMsix fn v h
  | dot n num owner t0 body =>
    unfold Pkg.emit
    dsimp only
    split
    · exact h
    · exact h
  | setpt n item v => exact h
  | ptp n a m => exact h

theorem Pkg.memWf_send {p : Pkg} (o : Outbound) (h : memWf p.host = true) : memWf (p.send o).host = true := by
  unfold Pkg.send
  split
  · split
    · exact Pkg.memWf_emit o h
    · exact h
  · exact Pkg.memWf_emit o h

theorem Pkg.memWf_foldl {f : Pkg → Outbound → Pkg} (hf : ∀ p o, memWf p.host = true → memWf (f p o).host = true) (l : List Outbound)
    {p : Pkg} (h : memWf p.host = true) : memWf (l.foldl f p).host = true := by
  induction l generalizing p with
  | nil => exact h
  | cons o l ih => exact ih (hf p o h)

theorem Pkg.keeps_emit (p : Pkg) (o : Outbound) : p.keeps (p.emit o) := by
  unfold Pkg.keeps
  simp

theorem Pkg.keeps_foldl_emit (l : List Outbound) (p : Pkg) : p.keeps (l.foldl Pkg.emit p) := by
  induction l generalizing p with
  | nil => exact ⟨rfl, rfl, rfl, rfl, rfl, rfl⟩
  | cons o l ih => exact (p.keeps_emit o).trans (ih _)

theorem State.memWf_deliver (h : memWf t.pkg.host = true) : memWf t.deliver.pkg.host = true := by
  unfold State.deliver
  split
  · exact Pkg.memWf_foldl (fun _ o => Pkg.memWf_send o) _ h
  · split
    · exact h
    · exact h

theorem State.quiet.deliver (h : s.quiet t) : s.quiet t.deliver :=
  h.trans ⟨by simp [Pkg.keeps], State.memWf_deliver⟩

/-! Both sides, and the postings of the hold die. -/

theorem State.quiet.both (h : s.quiet t) (f : Pkg → Side → Side) : s.quiet (t.both f) :=
  h.trans (State.quiet.deliver (t := { t with pkg := { t.pkg with free := t.pkg.free + 1 }, sideA := _, sideB := _ }) t.quiet_refl)

theorem State.quiet.bothOn (h : s.quiet t) (f : Pkg → Side → Side) : s.quiet (t.bothOn f) :=
  h.trans (State.quiet.deliver (t := { t with pkg := { t.pkg with free := t.pkg.free + 1 }, sideA := _, sideB := _ }) t.quiet_refl)

theorem State.quiet.holdFaultD (h : s.quiet t) (src : Nat) (f : Fld) (x : Nat) : s.quiet (t.holdFaultD src f x) := by
  unfold State.holdFaultD
  exact .ite h ((h.setHold _).both _)

theorem State.quiet.holdFault (h : s.quiet t) (src : Nat) (f : Fld) : s.quiet (t.holdFault src f) := h.holdFaultD ..

theorem State.quiet.recipeRefuse (h : s.quiet t) (off : Nat) : s.quiet (t.recipeRefuse off) := by
  unfold State.recipeRefuse
  exact .ite ((h.holdFault ..).both _) (h.both _)

theorem State.quiet.asWrite {u : State} (h : s.quiet t) (hu : s.quiet u) (b : Bool) (o w : Nat) : s.quiet (t.asWrite b o w u) := by
  unfold State.asWrite
  exact .ite h (.ite (h.recipeRefuse o) hu)

theorem State.quiet.asPosted {u : State} (h : s.quiet t) (hu : s.quiet u) : s.quiet (t.asPosted u) := .ite hu h

/-! The fault pair (R490). -/

theorem State.quiet.fltStart (h : s.quiet t) (causes : List Nat) : s.quiet (t.fltStart causes) := by
  unfold State.fltStart
  exact ((h.setHold _).holdFault ..).foldl fun u k _ => .ite (u.quiet_refl.holdFault ..) u.quiet_refl

theorem State.quiet.fltRefresh (h : s.quiet t) : s.quiet t.fltRefresh := by
  unfold State.fltRefresh
  exact .ite (h.setFlt _) ((h.setFlt _).fltStart _)

theorem State.quiet.fltRelease (h : s.quiet t) : s.quiet t.fltRelease := by
  unfold State.fltRelease
  dsimp only
  split
  · exact .ite h.fltRefresh ((h.fltRefresh.setHold _).setFlt _)
  · exact (h.fltRefresh.setHold _).holdFault ..

theorem State.quiet.kick (h : s.quiet t) : s.quiet t.kick := (h.setFlt _).fltRefresh

theorem State.quiet.wdogExpire (h : s.quiet t) : s.quiet t.wdogExpire := by
  unfold State.wdogExpire
  exact .ite (h.setFlt _).fltRefresh h

theorem State.quiet.fltCfg (h : s.quiet t) : s.quiet t.fltCfg := (h.setFlt _).fltRefresh

/-! The BeamLink ports. -/

theorem State.quiet.runPort (h : s.quiet t) (n : Nat) : s.quiet (t.runPort n) := h.updPort ..

theorem State.quiet.portNow (h : s.quiet t) (n : Nat) : s.quiet (t.portNow n) := (h.runPort n).updPort ..

theorem State.quiet.runPorts (h : s.quiet t) : s.quiet t.runPorts := h.foldl fun u n _ => u.quiet_refl.runPort n

theorem State.quiet.mirror (h : s.quiet t) (n : Nat) : s.quiet (t.mirror n) := h.both _

theorem State.quiet.sendFrame (h : s.quiet t) (n : Nat) (f : Fr) : s.quiet (t.sendFrame n f) := by
  unfold State.sendFrame
  exact .ite ((h.portNow n).updPort ..) h

theorem State.quiet.sendCtrl (h : s.quiet t) (n op arg0 arg1 : Nat) (host : Bool) : s.quiet (t.sendCtrl n op arg0 arg1 host) := by
  unfold State.sendCtrl
  exact .ite ((h.sendFrame ..).updPort ..) (.ite (h.updPort ..) h)

theorem State.quiet.putBlanks (h : s.quiet t) (n slots : Nat) (causes : List (Nat × Nat)) : s.quiet (t.putBlanks n slots causes) := by
  unfold State.putBlanks
  exact .ite h ((h.portNow n).updPort ..)

theorem State.quiet.sendBlank (h : s.quiet t) (n mask cause : Nat) : s.quiet (t.sendBlank n mask cause) := (h.putBlanks ..).updPort ..

theorem State.quiet.train (h : s.quiet t) (n : Nat) : s.quiet (t.train n) :=
  (((h.portNow n).updPort ..).sendBlank ..).mirror n

theorem State.quiet.linkDown (h : s.quiet t) (n : Nat) : s.quiet (t.linkDown n) := (h.train n).both _

theorem State.quiet.echoStart (h : s.quiet t) (n : Nat) : s.quiet (t.echoStart n) := (h.updPort ..).sendCtrl ..

theorem State.quiet.portUp (h : s.quiet t) (n : Nat) : s.quiet (t.portUp n) :=
  (((((h.portNow n).updPort ..).mirror n).both _).echoStart n)

theorem State.quiet.alignMarker (h : s.quiet t) (n : Nat) (ok : Bool) : s.quiet (t.alignMarker n ok) := by
  unfold State.alignMarker
  exact .ite h (.ite (((h.portNow n).updPort ..).mirror n) (.ite (h.linkDown n) ((h.updPort ..).mirror n)))

theorem State.quiet.trainBlock (h : s.quiet t) (n : Nat) (tstate : Option Nat) : s.quiet (t.trainBlock n tstate) := by
  unfold State.trainBlock
  exact .ite (h.linkDown n) (.ite (.ite (h.portUp n) (h.updPort ..)) h)

theorem State.quiet.sendRate (h : s.quiet t) (n : Nat) : s.quiet (t.sendRate n) := h.sendCtrl ..

theorem State.quiet.portOff (h : s.quiet t) (n : Nat) : s.quiet (t.portOff n) := by
  unfold State.portOff
  exact .ite h (((h.portNow n).updPort ..).mirror n)

theorem State.quiet.portCfg (h : s.quiet t) (n old : Nat) : s.quiet (t.portCfg n old) := by
  unfold State.portCfg
  exact .ite (h.train n) (.ite (h.portOff n) (.ite (h.sendRate n) h))

theorem State.quiet.blkViol (h : s.quiet t) (n : Nat) : s.quiet (t.blkViol n) := h.both _

theorem State.quiet.blkCmd {u : State} (h : s.quiet t) (hu : s.quiet u) (n w : Nat) : s.quiet (t.blkCmd n w u) := .ite (h.asWrite hu ..) h

theorem State.quiet.blkBit {u : State} (h : s.quiet t) (hu : s.quiet u) : s.quiet (t.blkBit u) := .ite h hu

theorem State.quiet.retrain (h : s.quiet t) (n : Nat) : s.quiet (t.retrain n) := by
  unfold State.retrain
  exact .ite (h.blkViol n) (.ite h (h.train n))

theorem State.quiet.echoCmd (h : s.quiet t) (n : Nat) : s.quiet (t.echoCmd n) := by
  unfold State.echoCmd
  exact .ite (h.echoStart n) (h.blkViol n)

theorem State.quiet.blankCmd (h : s.quiet t) (n : Nat) : s.quiet (t.blankCmd n) := ((h.updPort ..).sendBlank ..).mirror n

theorem State.quiet.ctrlGo (h : s.quiet t) (n : Nat) : s.quiet (t.ctrlGo n) := by
  unfold State.ctrlGo
  exact .ite (h.blkViol n) ((h.sendCtrl ..).both _)

theorem State.quiet.unblank (h : s.quiet t) : s.quiet t.unblank := by
  refine h.foldl fun u n _ => State.quiet.mirror (State.quiet.ite ?_ ?_) n
  · exact ((u.quiet_refl.updPort ..).updPort ..).sendCtrl ..
  · exact u.quiet_refl.updPort ..

theorem State.quiet.alignSend (h : s.quiet t) (n : Nat) : s.quiet (t.alignSend n) := by
  unfold State.alignSend
  exact .ite h ((h.runPort n).updPort ..)

theorem State.quiet.dotIntake (h : s.quiet t) (n : Nat) : s.quiet (t.dotIntake n) := h.updPort ..

theorem State.quiet.dotRelease (h : s.quiet t) (n : Nat) : s.quiet (t.dotRelease n) := by
  unfold State.dotRelease
  have h0 := (h.dotIntake n).portNow n
  dsimp only
  split
  · exact h0
  · exact .ite (h0.updPort ..) h0

theorem State.quiet.dotLateDrop (h : s.quiet t) (n : Nat) : s.quiet (t.dotLateDrop n) := by
  unfold State.dotLateDrop
  have h0 := (h.dotIntake n).runPort n
  dsimp only
  split
  · exact .ite ((h0.updPort ..).both _) h0
  · exact .ite ((h0.updPort ..).both _) h0
  · exact h0

theorem State.quiet.syncFrames (h : s.quiet t) (edge : Nat) : s.quiet (t.syncFrames edge) := by
  unfold State.syncFrames
  exact .ite h (h.foldl fun u _ _ => u.quiet_refl.sendFrame ..)

theorem State.quiet.echoNext (h : s.quiet t) (n : Nat) : s.quiet (t.echoNext n) := by
  unfold State.echoNext
  exact .ite ((h.updPort ..).sendCtrl ..) (.ite h (((h.updPort ..).sendCtrl ..).both _))

theorem State.quiet.waveFail (h : s.quiet t) (n k : Nat) : s.quiet (t.waveFail n k) := by
  unfold State.waveFail
  split
  · exact .ite h (.ite ((h.updPort ..).both _) (h.updPort ..))
  · exact h

theorem State.quiet.waveEdge (h : s.quiet t) : s.quiet t.waveEdge := by
  unfold State.waveEdge
  refine .ite h (h.foldl fun u n _ => ?_)
  dsimp only
  split
  · exact .ite ((u.quiet_refl.updPort ..).sendCtrl ..) u.quiet_refl
  · exact u.quiet_refl

theorem State.quiet.ack (h : s.quiet t) (n ctag result op data : Nat) : s.quiet (t.ack n ctag result op data) := by
  unfold State.ack
  dsimp only
  refine .ite h ?_
  split
  · exact h.both _
  · refine .ite (.both ?_ _) (.ite (.echoNext (.updPort ?_ _ _) n) (.ite (.ite ?_ (.both (.mirror (.sendRate (.updPort ?_ _ _) n) n) _))
      (.ite (.ite (.updPort ?_ _ _) (.waveFail ?_ _ _)) ?_)))
    all_goals exact (h.both _).updPort ..

theorem State.quiet.noAck (h : s.quiet t) (n : Nat) : s.quiet (t.noAck n) := by
  unfold State.noAck
  split
  · exact h
  · exact .ite h (.ite (((h.updPort ..).both _).echoNext n) (.ite (((h.updPort ..).both _).waveFail ..) ((h.updPort ..).both _)))

theorem State.quiet.beOpens (h : s.quiet t) : s.quiet t.beOpens := by
  unfold State.beOpens
  refine .ite h (State.quiet.fltRefresh ?_)
  refine State.quiet.foldl (State.quiet.both ?_ _) fun u n _ => u.quiet_refl.mirror n
  exact (h.setHold _).foldl fun u n _ => .ite u.quiet_refl (u.quiet_refl.sendBlank ..)

theorem State.quiet.beCloses (h : s.quiet t) : s.quiet t.beCloses :=
  ((h.setHold _).foldl fun u n _ => u.quiet_refl.mirror n).fltRefresh

/-! SET, STAT and ENC frames, dwell guards. -/

theorem State.quiet.setFrame (h : s.quiet t) (n : Nat) : s.quiet (t.setFrame n) := by
  unfold State.setFrame
  refine .ite h (.fltRefresh (.mirror (.ite ?_ (.sendCtrl ?_ ..)) n))
  all_goals exact (((h.sendFrame ..).updPort ..).setHold _).updPort ..

theorem State.quiet.dwellCut (h : s.quiet t) (n : Nat) : s.quiet (t.dwellCut n) := by
  unfold State.dwellCut
  exact .ite h ((((h.setHold _).holdFaultD ..).mirror n).setFlt _).fltRefresh

theorem State.quiet.encFrame (h : s.quiet t) (n x y z ts : Nat) : s.quiet (t.encFrame n x y z ts) := by
  unfold State.encFrame
  exact .ite h ((h.updPort ..).both _)

theorem State.quiet.statFrame (h : s.quiet t) (n : Nat) (l : List Word) : s.quiet (t.statFrame n l) := by
  unfold State.statFrame
  exact .ite h ((h.updPort ..).both _).fltRefresh

theorem State.quiet.statSilent (h : s.quiet t) (n : Nat) : s.quiet (t.statSilent n) := by
  unfold State.statSilent
  exact .ite h ((h.updPort ..).both _).fltRefresh

end

end Sys2Proof.Machine
end

section
/-! The same of the two sides' roles, of power states, boots, injections, ticks and accesses. -/

namespace Sys2Proof.Machine

section
variable {s t : State}

/-! Roles of the sides (R388 to R407). -/

theorem State.quiet.enterSafe (h : s.quiet t) : s.quiet t.enterSafe :=
  (((h.setHold _).foldl fun u n _ => .ite u.quiet_refl (u.quiet_refl.train n)).holdFault ..).fltRefresh

theorem State.quiet.sideLost (h : s.quiet t) (x : SideId) (last : Nat) : s.quiet (t.sideLost x last) := by
  unfold State.sideLost
  have h1 (k : Hold) (f : Pkg → Side → Side) : s.quiet ((t.setHold k).both f) := (h.setHold k).both f
  exact .ite h (.ite (.ite (h1 _ _).enterSafe ((h1 _ _).holdFault ..)) (.ite ((h1 _ _).setHold _) (h1 _ _).enterSafe))

theorem State.quiet.resign (h : s.quiet t) (x : SideId) : s.quiet (t.resign x) := by
  unfold State.resign
  exact .ite ((h.holdFault ..).sideLost ..).fltRefresh h

theorem State.quiet.signTick (h : s.quiet t) : s.quiet t.signTick := h

theorem State.quiet.startCopy (h : s.quiet t) : s.quiet t.startCopy := (h.setHold _).both _

theorem State.quiet.mismatch (h : s.quiet t) (m : Nat) : s.quiet (t.mismatch m) := by
  unfold State.mismatch
  exact .startCopy (.ite (((h.setHold _).holdFault ..).both _) ((h.setHold _).holdFault ..))

theorem State.quiet.match3 (h : s.quiet t) : s.quiet t.match3 := by
  unfold State.match3
  exact .ite h (.ite (h.both _) (((h.both _).both _).setHold _))

theorem State.quiet.compareSigs (h : s.quiet t) : s.quiet t.compareSigs := by
  unfold State.compareSigs
  dsimp only
  split
  · exact .ite h (.ite (h.setHold _).match3 ((h.setHold _).mismatch _))
  · exact h

theorem State.quiet.sendBeat (h : s.quiet t) (x : SideId) (extra : Bool) : s.quiet (t.sendBeat x extra) := h

theorem State.quiet.heartbeat (h : s.quiet t) : s.quiet t.heartbeat := by
  unfold State.heartbeat
  have ha : s.quiet (if t.pkg.hold.running .a then t.sendBeat .a false else t) := .ite (h.sendBeat ..) h
  exact .ite h (.ite (ha.sendBeat ..) ha)

theorem State.quiet.setSeen (h : s.quiet t) (x : SideId) (v : Bool) : s.quiet (t.setSeen x v) := by
  unfold State.setSeen
  exact .ite h (.ite ((h.setHold _).sendBeat ..) (h.setHold _))

theorem State.quiet.beat1 (h : s.quiet t) (x : SideId) (ok : Bool) : s.quiet (t.beat1 x ok) := by
  unfold State.beat1
  dsimp only
  split
  · exact h
  · exact .ite (h.setHold _).compareSigs (h.setHold _)

theorem State.quiet.beat2 (h : s.quiet t) (x : SideId) (ok : Bool) : s.quiet (t.beat2 x ok) := by
  unfold State.beat2
  dsimp only
  split
  · exact h
  · exact .ite ((h.setHold _).setSeen ..) (h.setHold _)

theorem State.quiet.deadline (h : s.quiet t) (x : SideId) : s.quiet (t.deadline x) := by
  unfold State.deadline
  have hs (c : Bool) : s.quiet (if c then t.setSeen (otherSide x) false else t) := .ite (h.setSeen ..) h
  exact .ite h (.ite ((hs _).sideLost ..).fltRefresh (.ite (((hs _).setHold _).holdFault ..)
    (.ite (((hs _).setHold _).holdFault ..) (hs _))))

theorem State.quiet.grant (h : s.quiet t) : s.quiet t.grant := by
  unfold State.grant
  split
  · exact h
  · exact .ite h (((h.setHold _).holdFault ..).both _)

theorem State.quiet.ackTimeout (h : s.quiet t) : s.quiet t.ackTimeout := by
  unfold State.ackTimeout
  split
  · exact h
  · exact ((h.setHold _).sideLost ..).fltRefresh

theorem State.quiet.copyEdge (h : s.quiet t) : s.quiet t.copyEdge := by
  unfold State.copyEdge
  split
  · exact h
  · exact .ite (((h.setHold _).setSide ..).both _) ((h.setHold _).both _)

theorem State.quiet.swapEdge (h : s.quiet t) (edge : Nat) (ran : Bool) (dur : Option Nat) : s.quiet (t.swapEdge edge ran dur) := by
  unfold State.swapEdge
  exact .ite h (.ite (.ite ((h.setHold _).both _) (h.both _)) (h.both _))

/-! Power states and boots (R386, R470 to R472, R498 to R508). -/

theorem State.quiet.deep (h : s.quiet t) : s.quiet t.deep := by
  unfold State.deep
  refine .ite (h.both _) (.setHold (.both ?_ _) _)
  exact h.foldl fun u n _ => u.quiet_refl.portOff n

theorem State.quiet.beginBoot (h : s.quiet t) (x : SideId) (base : Side) (powerOn revived : Bool) :
    s.quiet (t.beginBoot x base powerOn revived) := by
  unfold State.beginBoot
  dsimp only
  split
  · exact (h.setHold _).setSide ..
  · exact ((h.setHold _).setSide ..).setSide ..

theorem State.quiet.bootsFailed (h : s.quiet t) : s.quiet t.bootsFailed := by
  unfold State.bootsFailed
  exact .ite h.enterSafe h

theorem State.quiet.warm (h : s.quiet t) : s.quiet t.warm := by
  unfold State.warm
  have hsafe := h.enterSafe
  generalize t.enterSafe = v at hsafe
  extract_lets v ld k q c p s2 boot
  have hboot (u : State) (x : SideId) : u.quiet (boot u x) := .ite (u.quiet_refl.setSide ..) (u.quiet_refl.beginBoot ..)
  have hs2 : s.quiet s2 := (hsafe.setHold _).setPci c
  exact ((hs2.trans (hboot s2 .a)).trans (hboot _ .b)).bootsFailed

theorem State.quiet.revive (h : s.quiet t) (x : SideId) : s.quiet (t.revive x) := by
  unfold State.revive
  have hboot := (h.setHold { t.pkg.hold with stopped := t.pkg.hold.stopped.filter (· ≠ x) }).beginBoot x (t.side x).warmBase false true
  exact .ite ((h.setHold _).holdFault ..) (.ite ((h.setHold _).holdFault ..) (.ite ((hboot.setHold _).holdFault ..) hboot))

theorem State.quiet.wakeDeep (h : s.quiet t) : s.quiet t.wakeDeep := by
  unfold State.wakeDeep
  have hboot {u : State} (hu : s.quiet u) (c : Prop) [Decidable c] (x : SideId) (d : Side) :
      s.quiet (if c then u else u.beginBoot x d false false) := .ite hu (hu.beginBoot ..)
  exact .bootsFailed (hboot (hboot (h.setHold _) _ .a _) _ .b _)

theorem State.quiet.wake (h : s.quiet t) : s.quiet t.wake := .ite h.wakeDeep (h.both _)

theorem State.quiet.untrip (h : s.quiet t) (m : Monitor) : s.quiet (t.untrip m) := by
  cases m
  · exact h
  · exact h.setHold _

/-! The link and the functions' resets (R82, R88). -/

theorem State.quiet.fnReset (h : s.quiet t) (fn : Fn) (bme : Bool) : s.quiet (t.fnReset fn bme) := by
  unfold State.fnReset
  exact (h.setPci _).bothOn _

theorem State.quiet.setLink (h : s.quiet t) (up : Bool) (speed width : Nat) : s.quiet (t.setLink up speed width) := h

theorem State.quiet.perst (h : s.quiet t) : s.quiet t.perst := ((h.fnReset ..).fnReset ..).setLink ..

theorem State.quiet.unmask (h : s.quiet t) (fn : Fn) (v : Nat) : s.quiet { t with pkg := t.pkg.unmask fn v } := by
  refine h.trans ?_
  unfold Pkg.unmask
  dsimp only
  split
  · exact ⟨by simp [Pkg.keeps], fun hm => Pkg.memWf_send _ hm⟩
  · exact t.quiet_refl

theorem State.quiet.bmeOn (h : s.quiet t) (fn : Fn) : s.quiet (t.bmeOn fn) :=
  h.trans ⟨Pkg.keeps_foldl_emit _ { t.pkg with pci := _ }, fun hm => Pkg.memWf_foldl (fun _ o => Pkg.memWf_emit o) _ hm⟩

/-! Injections (R494 to R496). -/

theorem State.quiet.injViol (h : s.quiet t) : s.quiet t.injViol := h.holdFault ..

theorem State.quiet.injArm (h : s.quiet t) : s.quiet t.injArm := by
  unfold State.injArm
  exact .ite h.injViol (h.setHold _)

theorem State.quiet.injDisarm (h : s.quiet t) : s.quiet t.injDisarm := by
  unfold State.injDisarm
  exact .ite h.injViol (.ite (h.setHold _) h)

theorem State.quiet.injDone (h : s.quiet t) : s.quiet t.injDone := by
  unfold State.injDone
  exact (h.setHold _).holdFaultD ..

theorem State.quiet.localFault (h : s.quiet t) (x : SideId) (f : Fld) : s.quiet (t.localFault x f) := by
  unfold State.localFault
  exact .ite (h.setSide ..).deliver (h.setSide ..)

theorem State.quiet.injReact (h : s.quiet t) : s.quiet t.injReact := by
  unfold State.injReact
  dsimp only
  split
  · exact (h.setSide ..).localFault ..
  · exact h.resign _
  · exact h.setSides ..
  · exact h.setSide ..
  · exact .ite (h.setHold _) h
  · exact h.setHold _
  · exact (h.setFlt _).enterSafe
  · exact h

theorem State.quiet.injEdge (h : s.quiet t) (edge : Nat) : s.quiet (t.injEdge edge) := by
  unfold State.injEdge
  refine .ite h (.ite (.injReact (.ite (.localFault ?_ ..) ?_)) (.injDone (.injReact (.ite (.localFault ?_ ..) ?_))))
  all_goals exact h.setHold _

theorem State.quiet.injEnd (h : s.quiet t) : s.quiet t.injEnd := by
  unfold State.injEnd
  exact .ite h.injDone h

/-! Ticks (R41 to R46). -/

theorem State.quiet.startsEdge (h : s.quiet t) (edge : Nat) (stepped : Bool) : s.quiet (t.startsEdge edge stepped) := by
  unfold State.startsEdge
  exact .ite (h.both _).unblank (h.both _)

theorem State.quiet.tickEdge (h : s.quiet t) : s.quiet t.tickEdge := by
  unfold State.tickEdge
  exact .ite h (((((((((h.both _).signTick).injEdge _).copyEdge).swapEdge ..).startsEdge ..).both _).syncFrames _).waveEdge.fltRefresh)

theorem State.quiet.tickOverrun (h : s.quiet t) (x : SideId) (work : OverrunWork) : s.quiet (t.tickOverrun x work) := by
  unfold State.tickOverrun
  refine .ite (State.quiet.deliver ?_) h
  exact h.setSide ..

theorem State.quiet.sdValue (h : s.quiet t) (ch : Nat) (bs : List Bool) : s.quiet (State.sdValue ch bs t) := by
  unfold State.sdValue
  exact .ite ((h.both _).setSide ..) (h.both _)

/-! Accesses from outside (R12, R57 to R60, R408, R446). -/

theorem State.quiet.hifFlag (h : s.quiet t) (f : Fld) : s.quiet (t.hifFlag f) := h.bothOn _

theorem State.quiet.unmapped (h : s.quiet t) : s.quiet t.unmapped := .ite (h.hifFlag _) h

theorem State.quiet.badAccess (h : s.quiet t) : s.quiet t.badAccess := .ite (h.hifFlag _) h

theorem State.quiet.peek (h : s.quiet t) : s.quiet t.peek := by
  unfold State.peek
  exact .both (.ite (h.both _) h) _

theorem forall_ite {α : Type} {P : α → Prop} {c : Prop} [Decidable c] {l m : List α} (hl : l.Forall P) (hm : m.Forall P) :
    (if c then l else m).Forall P := by
  split
  · exact hl
  · exact hm

/-- The commands of the command registers, in the order of the table. -/
theorem cmdBits_quiet (base i : Nat) : (cmdBits State.peek base i).Forall fun e => ∀ u : State, u.quiet (e.2 u) := by
  have hboth (f : Pkg → Side → Side) (u : State) : u.quiet (u.both f) := u.quiet_refl.both f
  have hunit (k : Nat) : ([(0, fun u => u.both fun p d => d.focEnable p k), (1, fun u => u.both fun _ d => d.unitCmd k 1),
      (2, fun u => u.both fun p d => d.focClear p k)] : List (Nat × (State → State))).Forall fun e => ∀ u : State, u.quiet (e.2 u) :=
    ⟨hboth _, hboth _, hboth _⟩
  unfold cmdBits
  dsimp only
  refine forall_ite (fun u => u.quiet_refl.bothOn _) <| forall_ite ⟨fun u => ?retrain, fun u => ?echo, fun u => ?blank, fun u => ?ctrl⟩ <|
    forall_ite ⟨hboth _, hboth _⟩ <| forall_ite (hboth _) <| forall_ite (hboth _) <| forall_ite ⟨hboth _, hboth _⟩ <|
    forall_ite ⟨hboth _, hboth _⟩ <| forall_ite ⟨hboth _, hboth _⟩ <| forall_ite (hboth _) <| forall_ite (hunit _) <|
    forall_ite (hunit _) <| forall_ite (hboth _) <| forall_ite ⟨hboth _, hboth _, fun u => ?peek⟩ <|
    forall_ite ⟨hboth _, hboth _, hboth _, hboth _, hboth _⟩ <| forall_ite ⟨hboth _, hboth _⟩ <|
    forall_ite ⟨hboth _, fun u => ?deep, fun u => ?wake⟩ <| forall_ite ⟨fun u => ?proceed, fun u => ?warm⟩ <|
    forall_ite ⟨fun u => ?reviveA, fun u => ?reviveB⟩ <| forall_ite ⟨fun u => ?assert, fun u => ?release, fun u => ?kick⟩ <|
    forall_ite ⟨fun u => ?arm, fun u => ?disarm⟩ trivial
  case retrain => exact u.quiet_refl.blkBit (u.quiet_refl.retrain i)
  case echo => exact u.quiet_refl.blkBit (u.quiet_refl.echoCmd i)
  case blank => exact u.quiet_refl.blkBit (u.quiet_refl.blankCmd i)
  case ctrl => exact u.quiet_refl.blkBit (u.quiet_refl.ctrlGo i)
  case peek => exact u.quiet_refl.peek
  case deep => exact u.quiet_refl.deep
  case wake => exact u.quiet_refl.wake
  case proceed => exact u.quiet_refl.onBooting _
  case warm => exact .ite u.quiet_refl.warm u.quiet_refl
  case reviveA => exact u.quiet_refl.revive .a
  case reviveB => exact u.quiet_refl.revive .b
  case assert => exact u.quiet_refl.fltStart _
  case release => exact u.quiet_refl.fltRelease
  case kick => exact u.quiet_refl.kick
  case arm => exact u.quiet_refl.injArm
  case disarm => exact u.quiet_refl.injDisarm

theorem State.quiet.runBits (h : s.quiet t) {l : List (Nat × (State → State))} (hl : ∀ e ∈ l, ∀ u : State, u.quiet (e.2 u)) :
    s.quiet (runBits l t) := h.foldl fun u e he => hl e he u

theorem State.quiet.holdWrite (h : s.quiet t) (r : RegRow) (ix : List Nat) (off v : Nat) : s.quiet (t.holdWrite r ix off v) := by
  unfold State.holdWrite State.holdBits
  have hbits : ∀ e ∈ (cmdBits State.peek r.base (ix.getD 0 0)).filter (fun e => bit v e.1), ∀ u : State, u.quiet (e.2 u) :=
    fun e he => List.forall_iff_forall_mem.1 (cmdBits_quiet ..) e (List.mem_of_mem_filter he)
  refine .ite (h.holdFault ..) (.ite (.fltCfg (.ite (.holdFault ?_ ..) (.runBits ?_ hbits))) (.ite (.holdFault ?_ ..) (.runBits ?_ hbits)))
  all_goals exact h.setHold _

theorem State.quiet.sideBits (h : s.quiet t) (r : RegRow) (ix : List Nat) (off v : Nat) {l : List (Nat × (State → State))}
    (hl : ∀ e ∈ l, ∀ u : State, u.quiet (e.2 u)) : s.quiet (t.sideBits r ix off v l) := by
  unfold State.sideBits
  exact .ite (.ite (h.both _) (h.runBits hl)) (.setSide (.ite (h.both _) (h.runBits hl)) ..)

theorem State.quiet.sideWrite (h : s.quiet t) (r : RegRow) (ix : List Nat) (off v : Nat) : s.quiet (t.sideWrite r ix off v) := by
  unfold State.sideWrite
  refine .ite (h.sideBits r ix off v fun e he => ?_) (.ite (h.bothOn _) (.ite ((h.both _).portCfg ..) (h.both _)))
  exact List.forall_iff_forall_mem.1 (cmdBits_quiet ..) e (List.mem_of_mem_filter he)

theorem State.quiet.regPut (h : s.quiet t) (pf0 : Bool) (r : RegRow) (ix : List Nat) (off v : Nat) : s.quiet (t.regPut pf0 r ix off v) := by
  unfold State.regPut
  exact .ite (.ite h (h.onBooting _)) (.ite (h.asWrite (h.holdWrite ..) ..) (h.asWrite (h.sideWrite ..) ..))

theorem State.quiet.bar0Write (h : s.quiet t) (fn : Fn) (pf0 : Bool) (off v : Nat) : s.quiet (t.bar0Write fn pf0 off v) := by
  unfold State.bar0Write
  refine .ite h.badAccess ?_
  split
  · exact .ite h h.unmapped
  · exact .ite h (h.regPut ..)

theorem State.quiet.sqDoorbell (h : s.quiet t) (fn : Fn) (n v : Nat) : s.quiet (after (execSqDoorbell fn n v) t) := by
  unfold after execSqDoorbell
  by_cases hn : n < 64
  · rw [if_pos hn]
    exact h.asPosted (h.bothOn _)
  · rw [if_neg hn]
    exact h

theorem State.quiet.cqDoorbell (h : s.quiet t) (fn : Fn) (r : RingId) (v : Nat) : s.quiet (after (execCqDoorbell fn r v) t) := by
  unfold after execCqDoorbell
  by_cases hr : ringOk r = true
  · rw [if_pos hr]
    exact h.asPosted (h.bothOn _)
  · rw [if_neg hr]
    exact h

theorem State.quiet.bar2Write (h : s.quiet t) (fn : Fn) (addr v : Nat) : s.quiet (t.bar2Write fn addr v) := by
  unfold State.bar2Write
  exact .ite h.badAccess (.ite h.unmapped (.ite (h.sqDoorbell ..) (.ite (h.cqDoorbell ..) (h.cqDoorbell ..))))

theorem State.quiet.bar4Write (h : s.quiet t) (fn : Fn) (addr v : Nat) : s.quiet (t.bar4Write fn addr v) := by
  unfold State.bar4Write
  exact .ite h.badAccess (.ite h.unmapped (.ite h (.ite ((h.setPci _).unmask ..) (h.setPci _))))

theorem State.quiet.regWriteCmd (h : s.quiet t) (fn : Fn) (bar addr v : Nat) : s.quiet (t.regWriteCmd fn bar addr v) := by
  unfold State.regWriteCmd
  exact .ite (.ite (h.bar0Write ..) h) (.ite (.ite (h.bar2Write ..) h) (.ite (h.bar4Write ..) h))

/-! RECIPE_LOAD (R442 to R444) and the debug port (R446). -/

theorem State.quiet.setAll {u : State} (l : List RecEnt) (h : s.quiet t) (hu : t.setAll l = some u) : s.quiet u := by
  induction l generalizing t with
  | nil =>
    cases hu
    exact h
  | cons e l ih =>
    unfold State.setAll at hu
    split at hu
    · split at hu
      · cases hu
      · exact ih (h.bar0Write ..) hu
    · exact ih h hu

theorem State.quiet.recipeRun (h : s.quiet t) (a len : Nat) : s.quiet (t.recipeRun a len).1 := by
  unfold State.recipeRun
  dsimp only
  split
  · exact h
  · split
    · exact h
    · next u hu =>
      split
      · exact h
      · exact (h.setAll _ hu).both _

theorem State.quiet.recipeLoad (h : s.quiet t) (n : Nat) (herr : Option Nat) : s.quiet (t.recipeLoad n herr) := by
  unfold State.recipeLoad
  split
  · exact h
  · split
    · exact h.both _
    · exact h.both _
    · exact (h.recipeRun ..).both _

end

end Sys2Proof.Machine
end

section
/-! What a command can turn the package into before it moves on quietly (R427, R428, R431, R446, R498, R501, R505), and that every command
does so: the layer that the statements on fuses, flash and memories rest on. -/

namespace Sys2Proof.Machine

/-- The state with its package replaced. -/
def State.repkg (s : State) (q : Pkg) : State := { s with pkg := q }

/-- What command c can first turn the package of s into: its fuses, flash or debug port, as the rules of c say. -/
def State.mayTurn (s : State) (c : Instr) (q : Pkg) : Prop :=
  match c with
  | .powerOnReset => ∃ i l, q = { s.pkg with fuses := { s.pkg.fuses with mono := min monoEnd (s.pkg.fuses.mono + 1) }, tap := i, dbg := l }
  | .bootComplete _ _ | .bootFail _ | .supplyMonitorTrip _ =>
      ∃ m, s.pkg.fuses.minVer ≤ m ∧ q = { s.pkg with fuses := { s.pkg.fuses with minVer := m } }
  | .statement _ _ | .debugPortToken _ =>
      q = s.pkg ∨ ∃ m, s.actSide.stmtCheck s.pkg m = none ∧ q = { s.pkg with fuses := s.pkg.fuses.take m }
  | .flashProgram _ _ _ => ∃ f, (flashWf s.pkg.flash → flashWf f) ∧ q = { s.pkg with flash := f }
  | .trst | .debugPortAccess _ => ∃ i l, q = { s.pkg with tap := i, dbg := l }
  | _ => q = s.pkg

/-- From s the outcome of c turns the package as c may, and from there is quiet. -/
def turnsOut (s : State) (c : Instr) (o : Host.Outcome State Fault Refusal) : Prop :=
  ∀ t, o = .next t → ∃ q, s.mayTurn c q ∧ (s.repkg q).quiet t

/-- The outcome's state, if there is one, keeps what `State.quiet` keeps. -/
def quietOut (s : State) (o : Host.Outcome State Fault Refusal) : Prop := ∀ t, o = .next t → s.quiet t

section
variable {s t : State}

theorem quietOut.next (h : s.quiet t) : quietOut s (.next t) := by
  rintro u ⟨⟩
  exact h

theorem quietOut.ite {c : Prop} [Decidable c] {o o' : Host.Outcome State Fault Refusal} (h : quietOut s o) (h' : quietOut s o') :
    quietOut s (if c then o else o') := by
  split
  · exact h
  · exact h'

/-- A command that may turn nothing is quiet throughout. -/
theorem turnsOut.of {c : Instr} (hc : s.mayTurn c s.pkg) (h : quietOut s (exec c s)) : turnsOut s c (exec c s) := fun t ht =>
  ⟨s.pkg, hc, h t ht⟩

theorem turnsOut.next {c : Instr} {q : Pkg} (hq : s.mayTurn c q) (h : (s.repkg q).quiet t) : turnsOut s c (.next t) := by
  rintro u ⟨⟩
  exact ⟨q, hq, h⟩

theorem turnsOut.ite {c : Instr} {g : Prop} [Decidable g] {o o' : Host.Outcome State Fault Refusal} (h : turnsOut s c o)
    (h' : turnsOut s c o') : turnsOut s c (if g then o else o') := by
  split
  · exact h
  · exact h'

theorem State.quiet.badAccessBy (h : s.quiet t) (fn : Fn) : s.quiet (t.badAccessBy fn) := by
  cases fn with
  | pf0 => exact h.badAccess
  | pf1 => exact h.badAccess

theorem quietOut_trainBlockReceived (h : s.quiet s) (p : Nat) (b : DWord) : quietOut s (execTrainBlockReceived p b s) := by
  refine .ite ?_ (.next h)
  split
  · exact .next (h.trainBlock ..)
  · exact .next h

theorem quietOut_refreshRateRead (h : s.quiet s) (x : SideId) (a b : Nat) : quietOut s (execRefreshRateRead x a b s) := by
  refine .ite ?_ (.next h)
  cases x with
  | a => exact .next h
  | b => exact .next h

end

/-! Resets and the debug port. -/

theorem turnsOut_powerOnReset (s : State) : turnsOut s .powerOnReset (execPowerOnReset s) := by
  refine .next ⟨.idcode, [], rfl⟩ ?_
  unfold State.powerOn
  refine .bootsFailed (.beginBoot (.beginBoot ?_ ..) ..)
  exact ⟨⟨rfl, rfl, rfl, rfl, rfl, rfl⟩, id⟩

theorem turnsOut_trst (s : State) : turnsOut s .trst (execTrst s) := .next ⟨.idcode, s.pkg.dbg, rfl⟩ (State.quiet_refl _)

/-- An answer of the debug port, given from a state that is quiet. -/
theorem State.quiet.answer {s t : State} (h : s.quiet t) (l : List Byte) : (s.repkg { s.pkg with dbg := l }).quiet (t.answer l) := by
  obtain ⟨⟨h1, h2, h3, h4, h5, -⟩, hm⟩ := h
  exact ⟨⟨h1, h2, h3, h4, h5, rfl⟩, hm⟩

theorem turnsOut_answer {s t : State} (h : s.quiet t) (a : DbgAcc) (l : List Byte) : turnsOut s (.debugPortAccess a) (.next (t.answer l)) :=
  .next ⟨s.pkg.tap, l, rfl⟩ (h.answer l)

theorem turnsOut_debugReg (s : State) (a : DbgAcc) (x : SideId) (off : Nat) : turnsOut s (.debugPortAccess a) (.next (s.debugReg x off)) := by
  unfold State.debugReg
  split
  · exact turnsOut_answer s.quiet_refl _ _
  · exact turnsOut_answer (.ite (s.quiet_refl.both _) s.quiet_refl) _ _

theorem turnsOut_debugPortAccess (s : State) (a : DbgAcc) : turnsOut s (.debugPortAccess a) (execDebugPortAccess a s) := by
  have stay {t : State} (h : s.quiet t) : turnsOut s (.debugPortAccess a) (.next t) := .next ⟨s.pkg.tap, s.pkg.dbg, rfl⟩ h
  unfold execDebugPortAccess
  cases a with
  | ir i =>
    unfold State.debugAccess
    dsimp only
    split
    · exact .next ⟨i, s.pkg.dbg, rfl⟩ (State.quiet_refl _)
    · exact stay s.quiet_refl
  | readReg x off => exact turnsOut_debugReg s _ x off
  | readMem x space b n =>
    unfold State.debugAccess
    dsimp only
    split
    · exact turnsOut_answer s.quiet_refl _ _
    · exact turnsOut_answer s.quiet_refl _ _
  | writeReg off v => exact stay (.ite (s.quiet_refl.bar0Write ..) s.quiet_refl)
  | writeMem x b l => exact stay (s.quiet_refl.both _)

/-! Boots that end: the minimum version may rise. -/

/-- The state with the minimum version m in its fuses. -/
def State.withMin (s : State) (m : Nat) : State := s.repkg { s.pkg with fuses := { s.pkg.fuses with minVer := m } }

/-- From s to t the minimum version has risen, and else the package is quiet. -/
def State.raises (s t : State) : Prop := ∃ m, s.pkg.fuses.minVer ≤ m ∧ (s.withMin m).quiet t

section
variable {s t u : State}

theorem State.quiet.raises (h : s.quiet t) : s.raises t := ⟨s.pkg.fuses.minVer, Nat.le_refl _, h⟩

theorem State.raises.quiet (h : s.raises t) (h' : t.quiet u) : s.raises u := by
  obtain ⟨m, hm, hq⟩ := h
  exact ⟨m, hm, hq.trans h'⟩

/-- After a quiet change the minimum version is still that of s. -/
theorem State.quiet.andRaises (h : s.quiet t) (h' : t.raises u) : s.raises u := by
  obtain ⟨⟨hf, h2, h3, h4, h5, h6⟩, hw⟩ := h
  obtain ⟨m, hm, hq⟩ := h'
  rw [hf] at hm
  have hs : (s.withMin m).quiet (t.withMin m) := ⟨⟨by simp only [State.withMin, State.repkg, hf], h2, h3, h4, h5, h6⟩, hw⟩
  exact ⟨m, hm, hs.trans hq⟩

theorem State.raises.ite {g : Prop} [Decidable g] (ht : s.raises t) (hu : s.raises u) : s.raises (if g then t else u) := by
  split
  · exact ht
  · exact hu

theorem State.raises_raiseMin (s : State) (x : SideId) : s.raises (s.raiseMin x) :=
  ⟨_, Nat.le_max_left .., State.quiet_refl _⟩

/-- The ports take their configuration again once the minimum version is raised. -/
theorem State.raises_ports (s : State) (x : SideId) (k : Hold) :
    s.raises ((List.range ((s.setHold k).raiseMin x).pkg.beams).foldl (fun s n => s.portCfg n 0) ((s.setHold k).raiseMin x)) :=
  (s.quiet_refl.setHold k).andRaises ((State.raises_raiseMin ..).quiet (.foldl (State.quiet_refl _) fun u n _ => u.quiet_refl.portCfg n 0))

theorem State.raises_takeGrant (s : State) (x : SideId) : s.raises (s.takeGrant x) :=
  (s.raises_ports x _).quiet (.fltRefresh (.setHold (.ite ((State.quiet_refl _).both _) (State.quiet_refl _)) _))

theorem State.raises_bootComplete (s : State) (x : SideId) (ms : Nat) : s.raises (s.bootComplete x ms) := by
  unfold State.bootComplete
  have h := (s.quiet_refl.setSide x ((s.side x).ready s.pkg ms)).setHold
    ((s.pkg.hold.setHealth x 2).setWatch x
      { s.pkg.hold.look x with at1 := s.pkg.now, at2 := s.pkg.now, hb1 := hbNs s.pkg.hold, hb2 := hbNs s.pkg.hold, revived := false })
  have grant (y : SideId) := h.andRaises (State.raises_takeGrant _ y)
  refine .ite s.quiet_refl.raises (.ite (.ite ?_ ?_) (.ite (grant x) (.ite ?_ (.ite (grant .a) h.raises))))
  · exact (h.setSide ..).startCopy.raises
  · exact ((h.setSide ..).both _).raises
  · exact (grant x).quiet ((State.quiet_refl _).holdFault ..)

theorem State.raises_bootFail (s : State) (x : SideId) : s.raises (s.bootFail x) := by
  unfold State.bootFail
  have h := s.quiet_refl.setHold (s.pkg.hold.setHealth x 0)
  refine .ite s.quiet_refl.raises (.ite ?_ (.ite ?_ (.ite ?_ ?_)))
  · exact ((h.setHold _).holdFault ..).raises
  · exact (h.holdFault ..).raises
  · exact (h.andRaises (State.raises_takeGrant ..)).quiet ((State.quiet_refl _).holdFault ..)
  · exact h.bootsFailed.raises

theorem State.raises_trip (s : State) (m : Monitor) : s.raises (s.trip m) := by
  unfold State.trip
  cases m with
  | hold => exact s.quiet_refl.raises
  | side x =>
    exact .ite ((s.quiet_refl.setHold _).andRaises (State.raises_bootFail ..)) (s.quiet_refl.setHold _).raises

theorem State.raises.turns (h : s.raises t) {c : Instr}
    (hc : ∀ m, s.pkg.fuses.minVer ≤ m → s.mayTurn c { s.pkg with fuses := { s.pkg.fuses with minVer := m } }) : turnsOut s c (.next t) := by
  obtain ⟨m, hm, hq⟩ := h
  exact .next (hc m hm) hq

end

/-! Statements and tokens: the fuses take an accepted one. -/

/-- Where s keeps quiet to t, t with the fuses that statement m leaves is s or s with the statement taken, and quiet. -/
theorem State.quiet.stmtFuses {s t : State} (h : s.quiet t) {c : Instr} (hkeep : s.mayTurn c s.pkg) (m : List Byte)
    (htake : s.actSide.stmtCheck s.pkg m = none → s.mayTurn c { s.pkg with fuses := s.pkg.fuses.take m }) :
    turnsOut s c (.next { t with pkg := { t.pkg with fuses := (s.stmtFuses m).pkg.fuses } }) := by
  obtain ⟨⟨-, h2, h3, h4, h5, h6⟩, hw⟩ := h
  unfold State.stmtFuses
  split
  next hok =>
    simp only [Bool.and_eq_true, Option.isNone_iff_eq_none] at hok
    exact .next (htake hok.2) ⟨⟨rfl, h2, h3, h4, h5, h6⟩, hw⟩
  next => exact .next hkeep ⟨⟨rfl, h2, h3, h4, h5, h6⟩, hw⟩

theorem turnsOut_statement (s : State) (n : Nat) (herr : Option Nat) : turnsOut s (.statement n herr) (execStatement n herr s) := by
  have hkeep : s.mayTurn (.statement n herr) s.pkg := .inl rfl
  refine .ite ?_ (.next hkeep s.quiet_refl)
  unfold State.statementCmd
  dsimp only
  split
  · exact .next hkeep (s.quiet_refl.both _)
  · exact (s.quiet_refl.both _).stmtFuses hkeep _ fun hm => .inr ⟨_, hm, rfl⟩

theorem turnsOut_debugPortToken (s : State) (m : List Byte) : turnsOut s (.debugPortToken m) (execDebugPortToken m s) := by
  have hkeep : s.mayTurn (.debugPortToken m) s.pkg := .inl rfl
  unfold execDebugPortToken State.portToken
  split
  · exact .next hkeep (s.quiet_refl.both _)
  · exact (s.quiet_refl.both _).stmtFuses hkeep _ fun hm => .inr ⟨_, hm, rfl⟩

/-! FLASH_PROGRAM: the flash keeps its canonical form. -/

theorem Pkg.flashWf_flashAfter (p : Pkg) (b : List Byte) (ok : Bool) (h : flashWf p.flash) : flashWf (p.flashAfter b ok) :=
  flashWf_program _ _ _ (flashWf_filter _ _ h)

theorem turnsOut_flashProgram (s : State) (n : Nat) (herr : Option Nat) (ok : Bool) :
    turnsOut s (.flashProgram n herr ok) (execFlashProgram n herr ok s) := by
  have stay {t : State} (h : s.quiet t) : turnsOut s (.flashProgram n herr ok) (.next t) := .next ⟨s.pkg.flash, id, rfl⟩ h
  refine .ite ?_ (stay s.quiet_refl)
  unfold State.flashProg
  dsimp only
  split
  · exact stay (s.quiet_refl.both _)
  next x _ =>
    split
    · obtain ⟨⟨h1, -, h3, h4, h5, h6⟩, hw⟩ := s.quiet_refl.both (Side.flashCmd n herr ok)
      exact .next ⟨s.pkg.flashAfter x.bytes ok, s.pkg.flashWf_flashAfter x.bytes ok, rfl⟩ ⟨⟨h1, rfl, h3, h4, h5, h6⟩, hw⟩
    · exact stay (s.quiet_refl.both _)

/-! Every command, by the shape of its meaning. -/

theorem turnsOut_exec (s : State) (c : Instr) : turnsOut s c (exec c s) := by
  have h := s.quiet_refl
  cases c
  case snapPosted | blockAssign | telemetryBlockWrite | arbiterDecision | jobClear | jobClearDone =>
    exact .of rfl (.next (h.both _))
  case descriptorFetched | nop | barrier | descriptorRetire | copy | fill | flush | dmaTransferComplete | fenceComplete | half
    | dmaTransferError | jobOpen | jobStaged | jobClose | strudelRequestDone | blockDecoded | decompress | decompressContinue
    | contextDrop | compress | plateEnding | upstreamFrameError | motProfLoad | indexEdge | lookaheadEntry | vecGridLoad | telemetryEncode
    | lawSetLoad | carrierPeriodStart | stpTableLoad | plateCommit | gateQuery | plateAbort | plateWait | challenge | keyLoad | keyRemove
    | keyLock | debugClose | certRead | wakeGroupRestored =>
    exact .of rfl (.ite (.next (h.both _)) (.next h))
  case snap | adjGo | rateGo | jumpAccept | jumpDiscard | timTickWrite | hmClear | go | telRdWrite | halt | fixedArm | fixedDisarm | nap =>
    exact .of rfl (.next (h.asWrite (h.both _) ..))
  case alarmArm | alarmDisarm | shadowArm | shadowDisarm | motStart | motEnd | facetZero | relock | injStart | injStop | traceArm
    | traceStop | enable | disable | clear | chopClr | jarEnable | eventArm =>
    exact .of rfl (.ite (.next (h.asWrite (h.both _) ..)) (.next h))
  case ingestIntervalEnd | chunkTimeout => exact .of rfl (.next ((h.advance _).both _))
  case alarmFire | throttlePauseEnd | coalesceTimeout | quadEdge | ssiFrame | sosEdge | eosEdge | sosMissed | stripeBuild | vectorBegin
    | vectorEnd | mpConversionEdge | mpWordReceived | zeroCrossEdge | ssrSwitch | zxLost | alignDone | ptpMessageSend | ptpMessageReceived
    | announceTimeout | syncTimeout =>
    exact .of rfl (.ite (.next ((h.advance _).both _)) (.next h))
  case sqEnable | sqDisable | resume | cqEqEnable | cqEqDisable =>
    exact .of rfl (.ite (.next (h.asWrite (h.bothOn _) ..)) (.next h))
  case sqDoorbell | cqDoorbell => exact .of rfl (.ite (.next (h.asPosted (h.bothOn _))) (.next h))
  case vectorUnmask => exact .of rfl (.ite (.next (h.asPosted (h.unmask ..))) (.next h))
  case busMasterDisable => exact .of rfl (.next (h.setPci _))
  case busMasterEnable => exact .of rfl (.next (h.bmeOn _))
  case pcieLinkUp => exact .of rfl (.ite (.next (h.setLink ..)) (.next h))
  case pcieLinkDown => exact .of rfl (.next (h.setLink ..))
  case blockLock => exact .of rfl (.ite (.next (((h.portNow _).updPort ..).mirror _)) (.next h))
  case alignMarker => exact .of rfl (.ite (.next (h.alignMarker ..)) (.next h))
  case trainBlockReceived => exact .of rfl (quietOut_trainBlockReceived h _ _)
  case linkDown => exact .of rfl (.ite (.next h) (.ite (.next ((h.updPort ..).linkDown _)) (.ite (.next ((h.updPort ..).train _)) (.next h))))
  case retrain => exact .of rfl (.next (h.blkCmd (h.retrain _) ..))
  case echo => exact .of rfl (.next (h.blkCmd (h.echoCmd _) ..))
  case blank => exact .of rfl (.next (h.blkCmd (h.blankCmd _) ..))
  case ctrlGo => exact .of rfl (.next (h.blkCmd (h.ctrlGo _) ..))
  case blankRepeat => exact .of rfl (.ite (.next ((h.advance _).putBlanks ..)) (.next h))
  case alignBlockSend => exact .of rfl (.ite (.next ((h.advance _).alignSend _)) (.next h))
  case dotFrameRelease => exact .of rfl (.ite (.next ((h.advance _).dotRelease _)) (.next h))
  case dotLate => exact .of rfl (.ite (.next ((h.advance _).dotLateDrop _)) (.next h))
  case ackReceived => exact .of rfl (.ite (.next (((h.advance _).runPort _).ack ..)) (.next h))
  case ctrlNoack => exact .of rfl (.ite (.next (((h.advance _).runPort _).noAck _)) (.next h))
  case sdValue => exact .of rfl (.ite (.next (h.sdValue ..)) (.next h))
  case assert => exact .of rfl (.next (h.asWrite (h.fltStart _) ..))
  case release => exact .of rfl (.next (h.asWrite h.fltRelease ..))
  case kick => exact .of rfl (.next (h.asWrite h.kick ..))
  case watchdogExpiry => exact .of rfl (.next (h.advance _).wdogExpire)
  case beamEnableOpen => exact .of rfl (.next h.beOpens)
  case beamEnableClose => exact .of rfl (.next h.beCloses)
  case thermalSample => exact .of rfl (.ite (.next ((h.advance _).both _).fltRefresh) (.next h))
  case setFrameSend => exact .of rfl (.ite (.next ((h.advance _).setFrame _)) (.next h))
  case dwellCut => exact .of rfl (.ite (.next (((h.advance _).runPort _).dwellCut _)) (.next h))
  case encReceived => exact .of rfl (.ite (.next ((h.advance _).encFrame ..)) (.next h))
  case statReceived => exact .of rfl (.ite (.next ((h.advance _).statFrame ..)) (.next h))
  case statSilent => exact .of rfl (.ite (.next ((h.advance _).statSilent _)) (.next h))
  case holdDieError => exact .of rfl (.next (h.setFlt _).enterSafe)
  case resign => exact .of rfl (.next ((h.advance _).resign _))
  case heartbeat => exact .of rfl (.next (h.advance _).heartbeat)
  case heartbeatReceived => exact .of rfl (.ite (.next ((h.advance _).beat1 ..)) (.ite (.next ((h.advance _).beat2 ..)) (.next h)))
  case heartbeatDeadline => exact .of rfl (.next ((h.advance _).deadline _))
  case grant => exact .of rfl (.next (h.advance _).grant)
  case grantAckTimeout => exact .of rfl (.next h.ackTimeout)
  case plateDone => exact .of rfl (.ite (.next (h.runPorts.both _)) (.next h))
  case deep => exact .of rfl (.next (h.asWrite h.deep ..))
  case ethLinkDown | ethLinkUp => exact .of rfl (.ite (.next ((h.setHold _).both _)) (.next h))
  case warmReset => exact .of rfl (.ite (.next h.warm) (.next h))
  case warm => exact .of rfl (.ite (.next (h.asWrite h.warm ..)) (.next h))
  case proceed => exact .of rfl (.next (h.asWrite (h.onBooting _) ..))
  case revive => exact .of rfl (.ite (.next (h.asWrite (h.revive _) ..)) (.next h))
  case wake => exact .of rfl (.next (h.asWrite h.wake ..))
  case supplyMonitorRelease => exact .of rfl (.next (h.untrip _))
  case functionLevelReset | d3hotEntry => exact .of rfl (.next (h.fnReset ..))
  case perst => exact .of rfl (.next h.perst)
  case injArm => exact .of rfl (.next (h.asWrite h.injArm ..))
  case injDisarm => exact .of rfl (.next (h.asWrite h.injDisarm ..))
  case injectionEnd => exact .of rfl (.next (h.advance _).injEnd)
  case controlTickEdge => exact .of rfl (.next (h.advance _).tickEdge)
  case fineTickBoundary => exact .of rfl (.next ((h.advance _).both _).fltRefresh)
  case tickOverrun => exact .of rfl (.next (h.tickOverrun ..))
  case unmappedAccess => exact .of rfl (.ite (.next h.unmapped) (.next h))
  case badAccess => exact .of rfl (.next (h.badAccessBy _))
  case peek => exact .of rfl (.next (h.asWrite h.peek ..))
  case registerWrite => exact .of rfl (.next (h.regWriteCmd ..))
  case recipeLoad => exact .of rfl (.ite (.next (h.recipeLoad ..)) (.next h))
  case refreshRateRead => exact .of rfl (quietOut_refreshRateRead h _ _ _)
  case powerOnReset => exact turnsOut_powerOnReset s
  case trst => exact turnsOut_trst s
  case supplyMonitorTrip mon => exact (s.raises_trip mon).turns fun m hm => ⟨m, hm, rfl⟩
  case bootComplete x ms => exact (s.raises_bootComplete x ms).turns fun m hm => ⟨m, hm, rfl⟩
  case bootFail x => exact (s.raises_bootFail x).turns fun m hm => ⟨m, hm, rfl⟩
  case flashProgram n herr ok => exact turnsOut_flashProgram s n herr ok
  case statement n herr => exact turnsOut_statement s n herr
  case debugPortToken m => exact turnsOut_debugPortToken s m
  case debugPortAccess a => exact turnsOut_debugPortAccess s a

theorem exec_turns {s t : State} {c : Instr} (h : exec c s = .next t) : ∃ q, s.mayTurn c q ∧ (s.repkg q).quiet t := turnsOut_exec s c t h

/-! What the turned package keeps. -/

/-- Every turn of the package leaves host memory alone and the flash in its canonical form. -/
theorem State.mayTurn_memories {s : State} {c : Instr} {q : Pkg} (h : s.mayTurn c q) :
    q.host = s.pkg.host ∧ (flashWf s.pkg.flash → flashWf q.flash) := by
  unfold State.mayTurn at h
  split at h
  · obtain ⟨i, l, rfl⟩ := h
    exact ⟨rfl, id⟩
  iterate 3
    obtain ⟨m, -, rfl⟩ := h
    exact ⟨rfl, id⟩
  iterate 2
    obtain rfl | ⟨m, -, rfl⟩ := h
    · exact ⟨rfl, id⟩
    · exact ⟨rfl, id⟩
  · obtain ⟨f, hf, rfl⟩ := h
    exact ⟨rfl, hf⟩
  iterate 2
    obtain ⟨i, l, rfl⟩ := h
    exact ⟨rfl, id⟩
  · subst h
    exact ⟨rfl, id⟩

theorem exec_memOk {s t : State} {c : Instr} (h : exec c s = .next t) (hs : s.memOk) : t.memOk := by
  obtain ⟨q, hq, ⟨-, hflash, -⟩, hhost⟩ := exec_turns h
  obtain ⟨hh, hf⟩ := State.mayTurn_memories hq
  refine ⟨hhost ?_, ?_⟩
  · exact (congrArg memWf hh).trans hs.1
  · exact hflash ▸ hf hs.2

/-! Fuses move onward. -/

theorem Fuses.onward_refl (f : Fuses) : f.onward f := ⟨rfl, Nat.le_refl _, Nat.le_refl _, fun _ => rfl, id, id⟩

/-- The counter's next value lies no lower, and no higher than the last. -/
theorem Fuses.onward_count {f : Fuses} (h : f.sound) :
    f.onward { f with mono := min monoEnd (f.mono + 1) } ∧ ({ f with mono := min monoEnd (f.mono + 1) } : Fuses).sound := by
  obtain ⟨hm, hl, ho, hd⟩ := h
  exact ⟨⟨rfl, Nat.le_refl _, Nat.le_min.mpr ⟨hm, Nat.le_succ _⟩, fun _ => rfl, id, id⟩, Nat.min_le_left .., hl, ho, hd⟩

/-- A lifecycle statement that is permitted moves the lifecycle up to its ARG, and to FIELD from OEM alone (R428). -/
theorem stmtAllowed_lifecycle {life level : Nat} {m : List Byte} (ht : stType m ≠ 1) (h : stmtAllowed life level m = true) :
    life < stArg m ∧ 1 ≤ stArg m ∧ stArg m ≤ 4 ∧ (stArg m = 2 → life = 1) ∧ (stArg m = 1 → life = 0) := by
  unfold stmtAllowed at h
  simp only [ht, if_false] at h
  split at h <;> simp_all

/-- A permitted statement moves the fuses onward. -/
theorem Fuses.onward_take {f : Fuses} {level : Nat} {m : List Byte} (h : f.sound) (hok : stmtAllowed f.lifecycle level m = true) :
    f.onward (f.take m) ∧ (f.take m).sound := by
  have count := Fuses.onward_count h
  obtain ⟨hm, hl, ho, hd⟩ := h
  unfold Fuses.take
  dsimp only
  split
  · exact count
  next ht =>
    obtain ⟨hup, h1, h4, hfield, hoem⟩ := stmtAllowed_lifecycle ht hok
    obtain ⟨⟨hpart, -, hmono, -⟩, hend, -⟩ := count
    split
    next h2 =>
      obtain ⟨hnone, hreq⟩ := ho (hfield h2).le
      refine ⟨⟨rfl, hup.le, hmono, ?_, ?_, id⟩, hend, h4, ?_, ?_⟩
      · simp [hnone]
      · simp [hreq]
      · dsimp only
        omega
      · dsimp only
        omega
    · split
      next h4' =>
        refine ⟨⟨rfl, hup.le, hmono, fun _ => rfl, id, fun _ => rfl⟩, hend, h4, ?_, fun _ => rfl⟩
        dsimp only
        omega
      · refine ⟨⟨rfl, hup.le, hmono, fun _ => rfl, id, id⟩, hend, h4, ?_, ?_⟩
        · intro hle
          exact ho (by dsimp only at hle; omega)
        · intro h4'
          dsimp only at h4'
          contradiction

/-- A statement that passes every check is permitted. -/
theorem Side.stmtAllowed_of_stmtCheck {p : Pkg} {d : Side} {m : List Byte} (h : d.stmtCheck p m = none) :
    stmtAllowed p.fuses.lifecycle d.level m = true := by
  unfold Side.stmtCheck Side.stmtRest at h
  split at h
  · cases h
  · split at h
    · cases h
    · split at h
      · cases h
      · split at h
        · cases h
        · split at h
          · cases h
          next hn => simpa using hn

theorem State.mayTurn_fuses {s : State} {c : Instr} {q : Pkg} (h : s.mayTurn c q) (hs : s.pkg.fuses.sound) :
    s.pkg.fuses.onward q.fuses ∧ q.fuses.sound := by
  unfold State.mayTurn at h
  split at h
  · obtain ⟨i, l, rfl⟩ := h
    exact Fuses.onward_count hs
  iterate 3
    obtain ⟨m, -, rfl⟩ := h
    exact ⟨s.pkg.fuses.onward_refl, hs⟩
  iterate 2
    obtain rfl | ⟨m, hm, rfl⟩ := h
    · exact ⟨Fuses.onward_refl _, hs⟩
    · exact Fuses.onward_take hs (Side.stmtAllowed_of_stmtCheck hm)
  · obtain ⟨f, hf, rfl⟩ := h
    exact ⟨s.pkg.fuses.onward_refl, hs⟩
  iterate 2
    obtain ⟨i, l, rfl⟩ := h
    exact ⟨s.pkg.fuses.onward_refl, hs⟩
  · subst h
    exact ⟨Fuses.onward_refl _, hs⟩

theorem exec_fuses {s t : State} {c : Instr} (h : exec c s = .next t) (hs : s.pkg.fuses.sound) :
    s.pkg.fuses.onward t.pkg.fuses ∧ t.pkg.fuses.sound := by
  obtain ⟨q, hq, ⟨hf, -⟩, -⟩ := exec_turns h
  rw [hf]
  exact State.mayTurn_fuses hq hs

/-! A step idles or runs the command at the front. -/

/-- A step that goes on has idled, or has run the command at the front of the queue. -/
theorem step_cases {s t : State} (h : step s = .next t) :
    t = s.idle ∨ ∃ c rest, s.pending = c :: rest ∧ exec c { s with pending := rest } = .next t := by
  unfold step at h
  split at h
  · exact .inl (Host.Outcome.next.inj h).symm
  next c rest hp => exact .inr ⟨c, rest, hp, h⟩

end Sys2Proof.Machine
end

section
/-! The statements on what every step keeps of the package, and on the step itself. -/

namespace Sys2Proof.Proofs

open Sys2Proof Sys2Proof.Machine

/-- Settles O1: every command turns the package as its rules say and is quiet from there. -/
theorem packageKept : Obligations.PackageKept := by
  unfold Obligations.PackageKept
  intro c s t h
  obtain ⟨q, hq, hk, -⟩ := exec_turns h
  unfold State.mayTurn at hq
  split at hq
  · obtain ⟨i, l, rfl⟩ := hq
    obtain ⟨hf, hfl, ha, hb, -⟩ := hk
    exact ⟨hf, hfl, ha, hb⟩
  iterate 3
    obtain ⟨m, hm, rfl⟩ := hq
    exact ⟨m, hm, hk⟩
  iterate 2
    obtain rfl | ⟨m, hm, rfl⟩ := hq
    · exact .inl hk
    · exact .inr ⟨m, hm, hk⟩
  · obtain ⟨f, -, rfl⟩ := hq
    obtain ⟨hf, hfl, hrest⟩ := hk
    exact ⟨hf, rfl, hrest⟩
  iterate 2
    obtain ⟨i, l, rfl⟩ := hq
    obtain ⟨hf, hfl, ha, hb, -⟩ := hk
    exact ⟨hf, hfl, ha, hb, rfl, rfl⟩
  · subst hq
    change s.pkg.keeps t.pkg at hk
    simp only [*]

/-- Settles O2: only the host's writes and FLASH_PROGRAM change the shared memories, and both keep the canonical form. -/
theorem everyStepKeepsMemoriesCanonical : Obligations.EveryStepKeepsMemoriesCanonical := by
  unfold Obligations.EveryStepKeepsMemoriesCanonical
  intro s t hs h
  obtain rfl | ⟨c, rest, -, hc⟩ := step_cases h
  · exact hs
  · exact exec_memOk hc hs

/-- Settles O3: the counter, the minimum version and a permitted statement are all that moves the fuses. -/
theorem everyStepMovesFusesOnward : Obligations.EveryStepMovesFusesOnward := by
  unfold Obligations.EveryStepMovesFusesOnward
  intro s t hs h
  obtain rfl | ⟨c, rest, -, hc⟩ := step_cases h
  · exact ⟨Fuses.onward_refl _, hs⟩
  · exact exec_fuses (s := { s with pending := rest }) hc hs

/-- Settles O55: on a queue that holds a command, step is exec on the rest, and the host's step is step. -/
theorem stepRunsTheFrontCommand : Obligations.StepRunsTheFrontCommand := by
  unfold Obligations.StepRunsTheFrontCommand
  intro c rest s
  have front : step { s with pending := c :: rest } = exec c { s with pending := rest } := rfl
  exact ⟨front, front⟩

end Sys2Proof.Proofs
end

section
/-! Loads from host memory: law sets (R323), motion tables (R345) and stepper tables (R378). Each descriptor's field check comes first, then
the host read, then the checks of what was read. -/

namespace Sys2Proof.Machine

/-! The axis and its registers after a load. -/

@[simp] theorem Side.axis_setAxis_self (d : Side) (a : Nat) (x : Axis) : (d.setAxis a x).axis a = x := tget_tset_self ..

@[simp] theorem Side.axis_setAxis_ne (d : Side) {a k : Nat} (x : Axis) (h : k ≠ a) : (d.setAxis a x).axis k = d.axis k := tget_tset_ne _ _ _ h

/-! LAW_SET_LOAD. -/

/-- Side d with law set y waiting for the next edge. -/
def Side.lawTaken (d : Side) (y : LSet) : Side := { d with law := { d.law with next := some y, halt := false } }.set F.LAW_STATUS_LOAD_PENDING 1

/-- What a law set's read comes to: refused, or the set. -/
def Side.lawJudge (p : Pkg) (d : Side) (raw : List Byte) (crc : Nat) : Except Res LSet :=
  if d.plateWindow = false then .error (lawRefused 1 0) else if crc32c raw ≠ crc then .error (lawRefused 2 0) else d.lawCheck p raw crc

section
variable {d : Side} {p : Pkg} {n : Nat} {e : Desc} (he : d.nextHost p n 0x78 = some e)
include he

theorem Side.lawSetLoad_of_bad {o : Nat} (hbad : lawLoadBad e.bytes = some o) (herr : Option Nat) :
    d.lawSetLoad p n herr = d.startDone n (badField o) := by
  simp only [Side.lawSetLoad, he, hbad]

variable (hbad : lawLoadBad e.bytes = none)
include hbad

theorem Side.lawSetLoad_of_hostFault (a : Nat) : d.lawSetLoad p n (some a) = d.startDone n (hostFaultRes a) := by
  simp only [Side.lawSetLoad, he, hbad]

variable {raw : List Byte} (hraw : raw = memRead p.host (dFld e.bytes 8 8) (dFld e.bytes 16 4))
include hraw

theorem Side.lawSetLoad_of_refused {r : Res} (hr : d.lawJudge p raw (dFld e.bytes 20 4) = .error r) :
    d.lawSetLoad p n none = d.startDone n r := by
  simp only [Side.lawSetLoad, he, hbad, ← hraw]
  unfold Side.lawJudge at hr
  split at hr
  next hwindow =>
    cases hr
    simp only [hwindow, Bool.not_false, if_true]
  next hwindow =>
    simp only [hwindow, Bool.not_true, Bool.false_eq_true, if_false]
    split at hr
    next hcrc =>
      cases hr
      simp only [hcrc, ne_eq, not_false_eq_true, if_true]
    next hcrc => simp only [hcrc, if_false, hr]

theorem Side.lawSetLoad_of_passed {y : LSet} (hwindow : d.plateWindow = true) (hcrc : crc32c raw = dFld e.bytes 20 4)
    (hy : d.lawCheck p raw (dFld e.bytes 20 4) = .ok y) :
    d.lawSetLoad p n none = (d.lawTaken y).startDone n ⟨stSUCCESS, y.maxWork, y.id⟩ := by
  simp only [Side.lawSetLoad, he, hbad, ← hraw, hwindow, hcrc, hy, Side.lawTaken, Bool.not_true, Bool.false_eq_true, if_false, ne_eq,
    not_true_eq_false]

end

theorem exec_lawSetLoad {n : Nat} (h : n < 64) (herr : Option Nat) (s : State) :
    exec (.lawSetLoad n herr) s = .next (s.both fun p d => d.lawSetLoad p n herr) := if_pos h

/-! MOT_PROF_LOAD. -/

/-- Why a motion table is refused, in the order of the checks; 0 where it is not (R345). -/
def Side.motReason (d : Side) (p : Pkg) (b raw : List Byte) : Nat :=
  let a := bits (byteAt b 4) 0 5
  if p.axes ≤ a then 2
  else if d.motState a ≠ 0 ∨ d.get (F.MOT_STATUS_START_PEND a) = 1 then 1
  else if crc32c raw ≠ dFld b 20 4 then 3
  else match tableBad (cut16 (dFld b 16 2) raw) (bit (byteAt b 4) 7) (dFld b 18 2) with
    | some k => 4 + 2 ^ 16 * k
    | none => 0

/-- Side d with the table of a descriptor b taken from what was read. -/
def Side.motTaken (d : Side) (b raw : List Byte) : Side :=
  let a := bits (byteAt b 4) 0 5
  let d1 := d.setAxis a { d.axis a with segs := (cut16 (dFld b 16 2) raw).map segOf }
  let d2 := ((d1.set (F.MOT_TBL_NSEG a) (dFld b 16 2)).set (F.MOT_TBL_LOOP a) (dFld b 18 2)).set (F.MOT_TBL_LOOP_EN a) (b2n (bit (byteAt b 4) 7))
  d2.set (F.MOT_TBL_CRC_CRC a) (dFld b 20 4)

section
variable {d : Side} {b raw : List Byte} {a : Nat} (ha : a = bits (byteAt b 4) 0 5)
include ha

theorem Side.motTaken_segs : ((d.motTaken b raw).axis a).segs = (cut16 (dFld b 16 2) raw).map segOf := by
  subst ha
  exact congrArg Axis.segs (d.axis_setAxis_self _ _)

theorem Side.motTaken_axis_ne {k : Nat} (hk : k ≠ a) : (d.motTaken b raw).axis k = d.axis k := by
  subst ha
  exact d.axis_setAxis_ne _ hk

theorem Side.motTaken_crc : (d.motTaken b raw).get (F.MOT_TBL_CRC_CRC a) = dFld b 20 4 % 2 ^ 32 := by
  subst ha
  exact Side.get_set_self _ _ _ (show 0 + 32 ≤ 32 by decide)

theorem Side.motTaken_nseg : (d.motTaken b raw).get (F.MOT_TBL_NSEG a) = dFld b 16 2 % 2 ^ 13 := by
  subst ha
  unfold Side.motTaken
  dsimp only
  rw [Side.get_set_off _ _ (by simp [F.MOT_TBL_NSEG, F.MOT_TBL_CRC_CRC]),
    Side.get_set_bits _ _ _ _ (by simp [F.MOT_TBL_NSEG, F.MOT_TBL_LOOP_EN]) (by simp [F.MOT_TBL_NSEG]),
    Side.get_set_bits _ _ _ _ (by simp [F.MOT_TBL_NSEG, F.MOT_TBL_LOOP]) (by simp [F.MOT_TBL_NSEG])]
  exact Side.get_set_self _ _ _ (by simp [F.MOT_TBL_NSEG])

end

section
variable {d : Side} {p : Pkg} {n : Nat} {e : Desc} (he : d.nextHost p n 0x70 = some e)
include he

theorem Side.motProfLoad_of_bad {o : Nat} (hbad : motLoadBad e.bytes = some o) (herr : Option Nat) :
    d.motProfLoad p n herr = d.startDone n (badField o) := by
  simp only [Side.motProfLoad, he, hbad]

variable (hbad : motLoadBad e.bytes = none)
include hbad

theorem Side.motProfLoad_of_hostFault (a : Nat) : d.motProfLoad p n (some a) = d.startDone n (hostFaultRes a) := by
  simp only [Side.motProfLoad, he, hbad]

/-- The checks in their order: the first that fails gives the reason. -/
theorem Side.motProfLoad_of_read {raw : List Byte} (hraw : raw = memRead p.host (dFld e.bytes 8 8) (16 * dFld e.bytes 16 2)) :
    d.motProfLoad p n none = if d.motReason p e.bytes raw = 0 then (d.motTaken e.bytes raw).startDone n ⟨stSUCCESS, 0, 0⟩
      else d.startDone n ⟨stREFUSED, 0, d.motReason p e.bytes raw⟩ := by
  simp only [Side.motProfLoad, he, hbad, ← hraw, Side.motReason, Bool.or_eq_true, decide_eq_true_eq, Side.flag_iff]
  by_cases haxis : p.axes ≤ bits (byteAt e.bytes 4) 0 5
  · simp [haxis]
  by_cases hidle : d.motState (bits (byteAt e.bytes 4) 0 5) ≠ 0 ∨ d.get (F.MOT_STATUS_START_PEND (bits (byteAt e.bytes 4) 0 5)) = 1
  · simp [haxis, hidle]
  by_cases hcrc : crc32c raw = dFld e.bytes 20 4
  · simp only [haxis, hidle, hcrc, if_false, ne_eq, not_true_eq_false]
    cases tableBad (cut16 (dFld e.bytes 16 2) raw) (bit (byteAt e.bytes 4) 7) (dFld e.bytes 18 2) with
    | some k => simp
    | none => simp [Side.motTaken]
  · simp [haxis, hidle, hcrc]

end

theorem exec_motProfLoad {n : Nat} (h : n < 64) (herr : Option Nat) (s : State) :
    exec (.motProfLoad n herr) s = .next (s.both fun p d => d.motProfLoad p n herr) := if_pos h

/-! STP_TABLE_LOAD. -/

/-- Side d with stepper unit u's table waiting for the next boundary. -/
def Side.stpTaken (d : Side) (u : Nat) (raw : List Byte) (crc : Nat) : Side :=
  { d with foc := { d.foc with tblNext := tset d.foc.tblNext u (raw, crc) } }

/-- The axis that a unit is bound to, if any, is IDLE. -/
def Side.boundIdle (d : Side) (u : Nat) : Prop := ∀ a, d.unitAxis u = some a → d.motState a = 0

theorem Side.any_unitAxis (d : Side) (u : Nat) : ((d.unitAxis u).any fun a => d.motState a != 0) = true ↔ ¬d.boundIdle u := by
  cases h : d.unitAxis u with
  | none => simp [Side.boundIdle, h]
  | some a => simp [Side.boundIdle, h]

section
variable {d : Side} {p : Pkg} {n : Nat} {e : Desc} (he : d.nextHost p n 0x7A = some e)
include he

theorem Side.stpTableLoad_of_bad {o : Nat} (hbad : stpLoadBad e.bytes = some o) (herr : Option Nat) :
    d.stpTableLoad p n herr = d.startDone n (badField o) := by
  simp only [Side.stpTableLoad, he, hbad]

variable (hbad : stpLoadBad e.bytes = none)
include hbad

theorem Side.stpTableLoad_of_hostFault (a : Nat) : d.stpTableLoad p n (some a) = d.startDone n (hostFaultRes a) := by
  simp only [Side.stpTableLoad, he, hbad]

theorem Side.stpTableLoad_of_absent (hu : p.stps ≤ bits (byteAt e.bytes 4) 0 3) : d.stpTableLoad p n none = d.startDone n ⟨stREFUSED, 0, 2⟩ := by
  simp only [Side.stpTableLoad, he, hbad, hu, if_true]

variable (hu : ¬p.stps ≤ bits (byteAt e.bytes 4) 0 3)
include hu

theorem Side.stpTableLoad_of_bound (hb : ¬d.boundIdle (16 + bits (byteAt e.bytes 4) 0 3)) :
    d.stpTableLoad p n none = d.startDone n ⟨stREFUSED, 0, 1⟩ := by
  simp only [Side.stpTableLoad, he, hbad, hu, if_false, Side.any_unitAxis, hb, not_false_eq_true, if_true]

variable (hb : d.boundIdle (16 + bits (byteAt e.bytes 4) 0 3)) {raw : List Byte} (hraw : raw = memRead p.host (dFld e.bytes 8 8) 4096)
include hb hraw

theorem Side.stpTableLoad_of_crc (hcrc : crc32c raw ≠ dFld e.bytes 16 4) : d.stpTableLoad p n none = d.startDone n ⟨stREFUSED, 0, 3⟩ := by
  simp only [Side.stpTableLoad, he, hbad, hu, if_false, Side.any_unitAxis, hb, not_true_eq_false, ← hraw, hcrc, ne_eq, not_false_eq_true,
    if_true]

theorem Side.stpTableLoad_of_passed (hcrc : crc32c raw = dFld e.bytes 16 4) :
    d.stpTableLoad p n none = (d.stpTaken (bits (byteAt e.bytes 4) 0 3) raw (dFld e.bytes 16 4)).startDone n ⟨stSUCCESS, 0, 0⟩ := by
  simp only [Side.stpTableLoad, he, hbad, hu, if_false, Side.any_unitAxis, hb, not_true_eq_false, ← hraw, hcrc, ne_eq, Side.stpTaken]

end

theorem exec_stpTableLoad {n : Nat} (h : n < 64) (herr : Option Nat) (s : State) :
    exec (.stpTableLoad n herr) s = .next (s.both fun p d => d.stpTableLoad p n herr) := if_pos h

end Sys2Proof.Machine
end

section
/-! The statements on loads of law sets, motion tables and stepper tables. -/

namespace Sys2Proof.Proofs

open Sys2Proof Sys2Proof.Machine

/-- Settles O35: the window, the checksum and the set's own checks judge what was read, in this order. -/
theorem lawSetsLoad : Obligations.LawSetsLoad := by
  unfold Obligations.LawSetsLoad
  rintro n s x d hn hx rfl e b raw he rfl hraw
  have hside (herr : Option Nat) := State.both_of_running hx fun p d => d.lawSetLoad p n herr
  refine ⟨fun o herr hbad => ⟨_, exec_lawSetLoad hn herr s, ?bad⟩, fun hbad =>
    ⟨fun a => ⟨_, exec_lawSetLoad hn (some a) s, ?fault⟩, fun r hr => ⟨_, exec_lawSetLoad hn none s, ?refused⟩,
      fun y hwindow hcrc hy => ⟨_, exec_lawSetLoad hn none s, ?taken⟩⟩⟩
  case bad =>
    obtain ⟨l, hl⟩ := hside herr
    rw [hl, Side.lawSetLoad_of_bad he hbad]
    exact ⟨Side.sqList_startDone _ n _, rfl⟩
  case fault =>
    obtain ⟨l, hl⟩ := hside (some a)
    rw [hl, Side.lawSetLoad_of_hostFault he hbad]
    exact ⟨Side.sqList_startDone _ n _, rfl⟩
  case refused =>
    obtain ⟨l, hl⟩ := hside none
    have hjudge : (s.side x).lawJudge s.pkg raw (dFld e.bytes 20 4) = .error r := by
      obtain ⟨hwindow, rfl⟩ | ⟨hwindow, hcrc, rfl⟩ | ⟨hwindow, hcrc, hr⟩ := hr
      · simp [Side.lawJudge, hwindow]
      · simp [Side.lawJudge, hwindow, hcrc]
      · simp [Side.lawJudge, hwindow, hcrc, hr]
    rw [hl, Side.lawSetLoad_of_refused he hbad hraw hjudge]
    exact ⟨Side.sqList_startDone _ n _, rfl, rfl⟩
  case taken =>
    obtain ⟨l, hl⟩ := hside none
    rw [hl, Side.lawSetLoad_of_passed he hbad hraw hwindow hcrc hy]
    exact ⟨Side.sqList_startDone _ n _, rfl, Side.get_set_self _ F.LAW_STATUS_LOAD_PENDING 1 (by decide)⟩

/-- Settles O38: the axis, its state, the checksum and the table judge what was read, in this order. -/
theorem motionTablesLoad : Obligations.MotionTablesLoad := by
  unfold Obligations.MotionTablesLoad
  rintro n s x d hn hx rfl e b a m raw he rfl ha rfl hraw
  have hside (herr : Option Nat) := State.both_of_running hx fun p d => d.motProfLoad p n herr
  refine ⟨fun o herr hbad => ⟨_, exec_motProfLoad hn herr s, ?bad⟩, fun hbad =>
    ⟨fun q => ⟨_, exec_motProfLoad hn (some q) s, ?fault⟩, fun r hr => ⟨_, exec_motProfLoad hn none s, ?refused⟩,
      fun haxis hidle hpend hcrc htable => ⟨_, exec_motProfLoad hn none s, ?taken⟩⟩⟩
  case bad =>
    obtain ⟨l, hl⟩ := hside herr
    rw [hl, Side.motProfLoad_of_bad he hbad]
    exact ⟨Side.sqList_startDone _ n _, rfl⟩
  case fault =>
    obtain ⟨l, hl⟩ := hside (some q)
    rw [hl, Side.motProfLoad_of_hostFault he hbad]
    exact ⟨Side.sqList_startDone _ n _, rfl⟩
  case refused =>
    obtain ⟨l, hl⟩ := hside none
    have hreason : (s.side x).motReason s.pkg e.bytes raw = r ∧ r ≠ 0 := by
      obtain ⟨haxis, rfl⟩ | ⟨haxis, hbusy, rfl⟩ | ⟨haxis, hidle, hpend, ⟨hcrc, rfl⟩ | ⟨hcrc, k, hk, rfl⟩⟩ := hr
      · simp [Side.motReason, ← ha, haxis]
      · simp [Side.motReason, ← ha, haxis, hbusy]
      · simp [Side.motReason, ← ha, haxis, hidle, hpend, hcrc]
      · simp [Side.motReason, ← ha, haxis, hidle, hpend, hcrc, hk]
    obtain ⟨hreason, hr0⟩ := hreason
    rw [hl, Side.motProfLoad_of_read he hbad hraw, hreason, if_neg hr0]
    exact ⟨Side.sqList_startDone _ n _, rfl, rfl⟩
  case taken =>
    obtain ⟨l, hl⟩ := hside none
    have hreason : (s.side x).motReason s.pkg e.bytes raw = 0 := by
      simp [Side.motReason, ← ha, haxis, hidle, hpend, hcrc, htable]
    rw [hl, Side.motProfLoad_of_read he hbad hraw, if_pos hreason]
    exact ⟨Side.sqList_startDone _ n _, Side.motTaken_segs ha, fun k hk => Side.motTaken_axis_ne ha hk, Side.motTaken_nseg ha, Side.motTaken_crc ha⟩

/-- Settles O44: the unit, its axis and the checksum judge what was read, in this order. -/
theorem stepperTablesLoad : Obligations.StepperTablesLoad := by
  unfold Obligations.StepperTablesLoad
  rintro n s x d hn hx rfl e b u raw he rfl rfl hraw
  have hside (herr : Option Nat) := State.both_of_running hx fun p d => d.stpTableLoad p n herr
  refine ⟨fun o herr hbad => ⟨_, exec_stpTableLoad hn herr s, ?bad⟩, fun hbad =>
    ⟨fun q => ⟨_, exec_stpTableLoad hn (some q) s, ?fault⟩, fun r hr => ⟨_, exec_stpTableLoad hn none s, ?refused⟩,
      fun hu hidle hcrc => ⟨_, exec_stpTableLoad hn none s, ?taken⟩⟩⟩
  case bad =>
    obtain ⟨l, hl⟩ := hside herr
    rw [hl, Side.stpTableLoad_of_bad he hbad]
    exact ⟨Side.sqList_startDone _ n _, rfl⟩
  case fault =>
    obtain ⟨l, hl⟩ := hside (some q)
    rw [hl, Side.stpTableLoad_of_hostFault he hbad]
    exact ⟨Side.sqList_startDone _ n _, rfl⟩
  case refused =>
    obtain ⟨l, hl⟩ := hside none
    have hres : (s.side x).stpTableLoad s.pkg n none = (s.side x).startDone n ⟨stREFUSED, 0, r⟩ := by
      obtain ⟨hu, rfl⟩ | ⟨hu, ⟨a, ha, hm⟩, rfl⟩ | ⟨hu, hidle, hcrc, rfl⟩ := hr
      · exact Side.stpTableLoad_of_absent he hbad hu
      · exact Side.stpTableLoad_of_bound he hbad hu.not_ge fun hidle => hm (hidle a ha)
      · exact Side.stpTableLoad_of_crc he hbad hu.not_ge hidle hraw hcrc
    rw [hl, hres]
    exact ⟨Side.sqList_startDone _ n _, rfl⟩
  case taken =>
    obtain ⟨l, hl⟩ := hside none
    rw [hl, Side.stpTableLoad_of_passed he hbad hu.not_ge hidle hraw hcrc]
    exact ⟨Side.sqList_startDone _ n _, tget_tset_self _ _ _ _, rfl, rfl⟩

end Sys2Proof.Proofs
end

section
/-! What a fault leaves of the fields beside its flag, from a source that can post, and what a fold over numbers does at one of them. -/

namespace Sys2Proof.Machine

/-- Source src can post: it is a source of the part (R475). -/
def Pkg.canPost (p : Pkg) (src : Nat) : Prop := src < 0x1000 ∧ srcAbsent p.fuses.is7708 src = false

section
variable {p : Pkg} {src : Nat} {f g : Fld}

theorem Side.fault_get_self (d : Side) (hsrc : p.canPost src) (hf : offPost f.off) (hw : f.w = 1) (hl : f.lo < 32) :
    (d.fault p src f).get f = 1 := d.fault_flag p src f hsrc.1 hf hsrc.2 hw hl

/-- A fault sets one bit: a field apart from it reads as before. -/
theorem Side.fault_get_apart (d : Side) (hsrc : p.canPost src) (hg : offPost g.off) (h : f.apart g) (h32 : g.lo + g.w ≤ 32) :
    (d.fault p src f).get g = d.get g :=
  (Side.get_of_word g (d.fault_word p src f g.off hsrc.1 hg hsrc.2)).trans (d.get_set_apart 1 h h32)

end

/-! The sources of the engines of motion, law and field control. -/

theorem Pkg.canPost_law (p : Pkg) : p.canPost 0x160 := ⟨by decide, by cases h : p.fuses.is7708 <;> simp [srcAbsent]⟩

theorem Pkg.axes_le (p : Pkg) : p.axes ≤ 24 := by
  unfold Pkg.axes
  split <;> decide

theorem Pkg.canPost_mot {p : Pkg} {a : Nat} (h : a < p.axes) : p.canPost (srcMot a) := by
  have hle := p.axes_le
  unfold Pkg.axes at h
  unfold Pkg.canPost srcAbsent srcMot
  split at h
  next => simp; omega
  next hp => simp [hp]; omega

theorem Pkg.canPost_enc (p : Pkg) {e : Nat} (h : e < 24) : p.canPost (srcEnc e) := by
  unfold Pkg.canPost srcAbsent srcEnc
  simp
  omega

theorem Pkg.canPost_unit {p : Pkg} {u : Nat} (hu : u < 24) (h : p.unitOk u = true) : p.canPost (srcUnit u) := by
  unfold Pkg.unitOk Pkg.focs Pkg.stps at h
  unfold Pkg.canPost srcAbsent srcUnit
  cases hp : p.fuses.is7708 with
  | false => simp; omega
  | true =>
    simp [hp] at h ⊢
    split at h
    · omega
    · omega

theorem Pkg.canPost_bus (p : Pkg) {b : Nat} (h : b < 4) : p.canPost (srcBus b) := by
  unfold Pkg.canPost srcAbsent srcBus
  simp
  omega

/-! A fold over the numbers below a bound. -/

section
variable {α : Type} {K : α → α → Prop} (hrefl : ∀ d, K d d) (htrans : ∀ {d e g}, K d e → K e g → K d g) {f : α → Nat → α}
include hrefl htrans

theorem foldl_range_keeps {m : Nat} (hf : ∀ d n, n < m → K d (f d n)) (d : α) : K d ((List.range m).foldl f d) := by
  induction m with
  | zero => exact hrefl d
  | succ m ih =>
    rw [List.range_succ, List.foldl_append]
    exact htrans (ih fun d n hn => hf d n (by omega)) (hf _ m (by omega))

/-- Where every other number keeps what K says, the fold comes to number a in a state that K relates to the first, and what a's turn leaves
is kept. -/
theorem foldl_range_at {m a : Nat} (ha : a < m) (hf : ∀ d n, n ≠ a → n < m → K d (f d n)) (d : α) :
    ∃ e, K d e ∧ K (f e a) ((List.range m).foldl f d) := by
  induction m with
  | zero => cases ha
  | succ m ih =>
    rw [List.range_succ, List.foldl_append]
    by_cases ham : a = m
    · subst ham
      exact ⟨_, foldl_range_keeps hrefl htrans (fun d n hn => hf d n (by omega) (by omega)) d, hrefl _⟩
    · obtain ⟨e, he, hk⟩ := ih (by omega) fun d n hn hm => hf d n hn (by omega)
      exact ⟨e, he, htrans hk (hf _ m (Ne.symm ham) (by omega))⟩

end

end Sys2Proof.Machine
end

section
/-! HALT, injections and trace channels (R325, R330, R335). -/

namespace Sys2Proof.Machine

theorem exec_halt {s : State} (h : s.accepts true 0x900004 1) : exec .halt s = .next (s.both Side.lawHaltCmd) :=
  congrArg Host.Outcome.next (State.accepts_asWrite h _)

theorem exec_injStart {s : State} {g : Nat} (hg : g < 4) (h : s.accepts true (0x902014 + 0x20 * g) 1) :
    exec (.injStart g) s = .next (s.both fun p d => d.injStart p g) :=
  (if_pos hg).trans (congrArg Host.Outcome.next (State.accepts_asWrite h _))

theorem exec_injStop {s : State} {g : Nat} (hg : g < 4) (h : s.accepts true (0x902014 + 0x20 * g) 2) :
    exec (.injStop g) s = .next (s.both fun _ d => d.injStop g) :=
  (if_pos hg).trans (congrArg Host.Outcome.next (State.accepts_asWrite h _))

theorem exec_traceArm {s : State} {k : Nat} (hk : k < 16) (h : s.accepts true (0x901008 + 0x20 * k) 1) :
    exec (.traceArm k) s = .next (s.both fun p d => d.traceArm p k) :=
  (if_pos hk).trans (congrArg Host.Outcome.next (State.accepts_asWrite h _))

theorem exec_traceStop {s : State} {k : Nat} (hk : k < 16) (h : s.accepts true (0x901008 + 0x20 * k) 2) :
    exec (.traceStop k) s = .next (s.both fun _ d => d.traceStop k) :=
  (if_pos hk).trans (congrArg Host.Outcome.next (State.accepts_asWrite h _))

/-- A refused command of the law engine shows in WINDOW_VIOL. -/
theorem Side.lawViol_flag (d : Side) (p : Pkg) : (d.fault p 0x160 F.LAW_STATUS_WINDOW_VIOL).get F.LAW_STATUS_WINDOW_VIOL = 1 :=
  d.fault_get_self p.canPost_law (by simp [offPost, F.LAW_STATUS_WINDOW_VIOL]) rfl (by decide)

section
variable {d : Side} {p : Pkg}

theorem Side.lawHaltCmd_of_window (h : d.plateWindow = true) : d.lawHaltCmd p = { d with law := { d.law with halt := true } } := if_pos h

theorem Side.lawHaltCmd_of_closed (h : d.plateWindow = false) : d.lawHaltCmd p = d.fault p 0x160 F.LAW_STATUS_WINDOW_VIOL :=
  if_neg (by simp [h])

theorem Side.injStart_of_window {g : Nat} (h : d.plateWindow = true) :
    d.injStart p g = ({ d with law := { d.law with gens := tset d.law.gens g {} } }).set (F.LAW_INJ_STATE_STATE g) 1 := if_pos h

theorem Side.injStart_of_closed {g : Nat} (h : d.plateWindow = false) : d.injStart p g = d.fault p 0x160 F.LAW_STATUS_WINDOW_VIOL :=
  if_neg (by simp [h])

theorem Side.traceArm_of_mode {k : Nat} (h : d.get (F.LAW_TR_CFG_MODE k) ≠ 0) :
    d.traceArm p k = (({ d with law := { d.law with trcs := tset d.law.trcs k { mark := d.posted.length } } }).set
      (F.LAW_TR_COUNT_COUNT k) 0).set (F.LAW_TR_STATE_STATE k) 1 := if_neg h

theorem Side.traceArm_of_off {k : Nat} (h : d.get (F.LAW_TR_CFG_MODE k) = 0) : d.traceArm p k = d.fault p 0x160 F.LAW_STATUS_WINDOW_VIOL :=
  if_pos h

end

theorem Side.injStop_stop (d : Side) (g : Nat) : (tget {} (d.injStop g).law.gens g).stop = true := congrArg Gen.stop (tget_tset_self ..)

theorem Side.traceStop_stop (d : Side) (k : Nat) : (tget {} (d.traceStop k).law.trcs k).stop = true := congrArg Trc.stop (tget_tset_self ..)

end Sys2Proof.Machine

namespace Sys2Proof.Proofs

open Sys2Proof Sys2Proof.Machine

/-- Settles O36: each command by its guard, the PLATE window or the channel's MODE. -/
theorem lawCommands : Obligations.LawCommands := by
  unfold Obligations.LawCommands
  rintro s x d hx rfl
  refine ⟨fun hacc => ⟨fun hwin => ⟨_, exec_halt hacc, ?halt⟩, fun hwin => ⟨_, exec_halt hacc, ?haltRefused⟩⟩, fun g hg =>
    ⟨fun hacc => ⟨fun hwin => ⟨_, exec_injStart hg hacc, ?start⟩, fun hwin => ⟨_, exec_injStart hg hacc, ?startRefused⟩⟩,
      fun hacc => ⟨_, exec_injStop hg hacc, ?stop⟩⟩, fun k hk =>
    ⟨fun hacc => ⟨fun hmode => ⟨_, exec_traceArm hk hacc, ?arm⟩, fun hmode => ⟨_, exec_traceArm hk hacc, ?armRefused⟩⟩,
      fun hacc => ⟨_, exec_traceStop hk hacc, ?traceStop⟩⟩⟩
  case halt =>
    obtain ⟨l, hl⟩ := State.both_of_running hx Side.lawHaltCmd
    rw [hl, Side.lawHaltCmd_of_window hwin]
    exact ⟨rfl, rfl⟩
  case haltRefused =>
    obtain ⟨l, hl⟩ := State.both_of_running hx Side.lawHaltCmd
    rw [hl, Side.lawHaltCmd_of_closed hwin]
    exact ⟨Side.fault_law .., Side.lawViol_flag ..⟩
  case start =>
    obtain ⟨l, hl⟩ := State.both_of_running hx fun p d => d.injStart p g
    rw [hl, Side.injStart_of_window hwin]
    exact ⟨Side.get_set_self _ (F.LAW_INJ_STATE_STATE g) 1 (show 0 + 2 ≤ 32 by decide), tget_tset_self .., fun j hj => tget_tset_ne _ _ _ hj⟩
  case startRefused =>
    obtain ⟨l, hl⟩ := State.both_of_running hx fun p d => d.injStart p g
    rw [hl, Side.injStart_of_closed hwin]
    exact ⟨Side.fault_law .., Side.lawViol_flag ..⟩
  case stop =>
    obtain ⟨l, hl⟩ := State.both_of_running hx fun _ d => d.injStop g
    rw [hl]
    exact ⟨rfl, Side.injStop_stop ..⟩
  case arm =>
    obtain ⟨l, hl⟩ := State.both_of_running hx fun p d => d.traceArm p k
    rw [hl, Side.traceArm_of_mode hmode]
    have hcount : (F.LAW_TR_COUNT_COUNT k).off ≠ (F.LAW_TR_STATE_STATE k).off := by simp [F.LAW_TR_COUNT_COUNT, F.LAW_TR_STATE_STATE]
    exact ⟨Side.get_set_self _ (F.LAW_TR_STATE_STATE k) 1 (show 0 + 2 ≤ 32 by decide),
      (Side.get_set_off _ _ hcount).trans (Side.get_set_self _ (F.LAW_TR_COUNT_COUNT k) 0 (show 0 + 32 ≤ 32 by decide)),
      congrArg Trc.n (tget_tset_self ..), congrArg Trc.trig (tget_tset_self ..)⟩
  case armRefused =>
    obtain ⟨l, hl⟩ := State.both_of_running hx fun p d => d.traceArm p k
    rw [hl, Side.traceArm_of_off hmode]
    exact ⟨Side.fault_law .., Side.lawViol_flag ..⟩
  case traceStop =>
    obtain ⟨l, hl⟩ := State.both_of_running hx fun _ d => d.traceStop k
    rw [hl]
    exact ⟨rfl, Side.traceStop_stop ..⟩

end Sys2Proof.Proofs
end

section
/-! MOT_START, GO and MOT_END (R346, R347, R355). -/

namespace Sys2Proof.Machine

theorem exec_motStart {s : State} {a : Nat} (ha : a < s.pkg.axes) (h : s.accepts true (0xA00008 + 0x1000 * a) 1) :
    exec (.motStart a) s = .next (s.both fun p d => d.motStart p a) :=
  (if_pos ha).trans (congrArg Host.Outcome.next (State.accepts_asWrite h _))

theorem exec_motEnd {s : State} {a : Nat} (ha : a < s.pkg.axes) (h : s.accepts true (0xA00008 + 0x1000 * a) 2) :
    exec (.motEnd a) s = .next (s.both fun p d => d.motEnd p a) :=
  (if_pos ha).trans (congrArg Host.Outcome.next (State.accepts_asWrite h _))

theorem exec_go {s : State} (h : s.accepts true 0xA30004 1) : exec .go s = .next (s.both Side.motGo) :=
  congrArg Host.Outcome.next (State.accepts_asWrite h _)

/-- The axis can start: it is IDLE and has a table. -/
def Side.motReady (d : Side) (a : Nat) : Prop := d.motState a = 0 ∧ d.get (F.MOT_TBL_NSEG a) ≠ 0

section
variable {d : Side} {p : Pkg} {a : Nat}

theorem Side.motStart_of_ready (h : d.motReady a) :
    d.motStart p a = (d.set (F.MOT_STATUS_START_PEND a) 1).setAxis a { d.axis a with fwd := true } :=
  if_pos (by simpa [Side.motReady] using h)

theorem Side.motStart_of_unready (h : ¬d.motReady a) : d.motStart p a = d.motViol p a := if_neg (by simpa [Side.motReady] using h)

theorem Side.motEnd_of_paused (h : d.motState a = 2) : d.motEnd p a = d.set (F.MOT_STATUS_STATE a) 0 := if_pos h

theorem Side.motEnd_of_other (h : d.motState a ≠ 2) : d.motEnd p a = d.motViol p a := if_neg h

/-- A refused axis shows its WINDOW_VIOL, and another field of its status stays. -/
theorem Side.motViol_flag (d : Side) (ha : a < p.axes) : (d.motViol p a).get (F.MOT_STATUS_WINDOW_VIOL a) = 1 := by
  have hle := p.axes_le
  exact d.fault_get_self (Pkg.canPost_mot ha) (by simp only [offPost, F.MOT_STATUS_WINDOW_VIOL]; omega) rfl (show 18 < 32 by decide)

theorem Side.motViol_get (d : Side) (ha : a < p.axes) {g : Fld} (hg : offPost g.off) (h : (F.MOT_STATUS_WINDOW_VIOL a).apart g)
    (h32 : g.lo + g.w ≤ 32) : (d.motViol p a).get g = d.get g := d.fault_get_apart (Pkg.canPost_mot ha) hg h h32

end

/-! What the other axes' turns in a GO keep of axis a. -/

/-- The fields of axis a that a start reads or changes, and the mask of GO. -/
def motFlds (a : Nat) : List Fld :=
  [F.MOT_STATUS_STATE a, F.MOT_STATUS_START_PEND a, F.MOT_STATUS_WINDOW_VIOL a, F.MOT_TBL_NSEG a, F.MOT_START_MASK_MASK]

/-- From d to e axis a and its fields stay. -/
def Side.motKept (a : Nat) (d e : Side) : Prop := e.axis a = d.axis a ∧ ∀ g ∈ motFlds a, e.get g = d.get g

theorem Side.motKept_refl (a : Nat) (d : Side) : Side.motKept a d d := ⟨rfl, fun _ _ => rfl⟩

theorem Side.motKept.trans {a : Nat} {d e g : Side} (h : Side.motKept a d e) (h' : Side.motKept a e g) : Side.motKept a d g :=
  ⟨h'.1.trans h.1, fun f hf => (h'.2 f hf).trans (h.2 f hf)⟩

/-- The fields of axis a lie off the posting registers and off another axis's status. -/
theorem motFlds_apart {a : Nat} (ha : a < 24) {g : Fld} (hg : g ∈ motFlds a) :
    offPost g.off ∧ ∀ n, n ≠ a → g.off ≠ 0xA00004 + 0x1000 * n := by
  simp only [motFlds, List.mem_cons, List.not_mem_nil, or_false] at hg
  obtain rfl | rfl | rfl | rfl | rfl := hg
  · simp only [offPost, F.MOT_STATUS_STATE]
    exact ⟨by omega, fun n hn => by omega⟩
  · simp only [offPost, F.MOT_STATUS_START_PEND]
    exact ⟨by omega, fun n hn => by omega⟩
  · simp only [offPost, F.MOT_STATUS_WINDOW_VIOL]
    exact ⟨by omega, fun n hn => by omega⟩
  · simp only [offPost, F.MOT_TBL_NSEG]
    exact ⟨by omega, fun n hn => by omega⟩
  · simp only [offPost, F.MOT_START_MASK_MASK]
    exact ⟨by omega, fun n hn => by omega⟩

theorem Side.motStart_motKept (d : Side) (p : Pkg) {a n : Nat} (ha : a < 24) (hn : n ≠ a) (hp : n < p.axes) : Side.motKept a d (d.motStart p n) := by
  by_cases h : d.motReady n
  · rw [Side.motStart_of_ready h]
    refine ⟨Side.axis_setAxis_ne _ _ (Ne.symm hn), fun g hg => ?_⟩
    exact Side.get_set_off d _ ((motFlds_apart ha hg).2 n hn)
  · rw [Side.motStart_of_unready h]
    refine ⟨by simp only [Side.axis, Side.motViol, Side.fault_axes], fun g hg => ?_⟩
    obtain ⟨hpost, hoff⟩ := motFlds_apart ha hg
    exact d.fault_get p _ _ g (Pkg.canPost_mot hp).1 hpost (hoff n hn)

/-- GO comes to axis a with the axis as it was, and what it leaves there stays. -/
theorem Side.motGo_at (d : Side) {p : Pkg} {a : Nat} (ha : a < p.axes) : ∃ e, Side.motKept a d e ∧
    Side.motKept a (if bit (d.get F.MOT_START_MASK_MASK) a then e.motStart p a else e) (d.motGo p) := by
  have h24 : a < 24 := lt_of_lt_of_le ha p.axes_le
  obtain ⟨e, hde, hk⟩ := foldl_range_at (Side.motKept_refl a) Side.motKept.trans
    (f := fun d n => if bit (d.get F.MOT_START_MASK_MASK) n then d.motStart p n else d) ha
    (fun d n hn hp => by
      split
      · exact d.motStart_motKept p h24 hn hp
      · exact Side.motKept_refl a d) d
  rw [hde.2 F.MOT_START_MASK_MASK (by simp [motFlds])] at hk
  exact ⟨e, hde, hk⟩

end Sys2Proof.Machine

namespace Sys2Proof.Proofs

open Sys2Proof Sys2Proof.Machine

/-- Settles O39: a start by whether the axis is ready, an end by whether it is PAUSED; GO comes to each axis as it was. -/
theorem motionCommands : Obligations.MotionCommands := by
  unfold Obligations.MotionCommands
  rintro s x d hx rfl
  refine ⟨fun a ha => ⟨fun hacc => ⟨fun hidle htab => ⟨_, exec_motStart ha hacc, ?start⟩, fun hbusy => ⟨_, exec_motStart ha hacc, ?startRefused⟩⟩,
    fun hacc => ⟨fun hpaused => ⟨_, exec_motEnd ha hacc, ?end_⟩, fun hother => ⟨_, exec_motEnd ha hacc, ?endRefused⟩⟩⟩,
    fun hacc => ⟨_, exec_go hacc, ?go⟩⟩
  case start =>
    obtain ⟨l, hl⟩ := State.both_of_running hx fun p d => d.motStart p a
    rw [hl, Side.motStart_of_ready ⟨hidle, htab⟩]
    exact ⟨Side.get_set_self _ (F.MOT_STATUS_START_PEND a) 1 (show 3 + 1 ≤ 32 by decide), congrArg Axis.fwd (Side.axis_setAxis_self ..)⟩
  case startRefused =>
    obtain ⟨l, hl⟩ := State.both_of_running hx fun p d => d.motStart p a
    rw [hl, Side.motStart_of_unready fun h => hbusy.elim (· h.1) h.2]
    exact ⟨Side.motViol_flag _ ha, Side.fault_axes ..⟩
  case end_ =>
    obtain ⟨l, hl⟩ := State.both_of_running hx fun p d => d.motEnd p a
    rw [hl, Side.motEnd_of_paused hpaused]
    exact ⟨Side.get_set_self _ (F.MOT_STATUS_STATE a) 0 (show 0 + 3 ≤ 32 by decide), rfl⟩
  case endRefused =>
    obtain ⟨l, hl⟩ := State.both_of_running hx fun p d => d.motEnd p a
    rw [hl, Side.motEnd_of_other hother]
    obtain ⟨hpost, -⟩ := motFlds_apart (lt_of_lt_of_le ha s.pkg.axes_le) (g := F.MOT_STATUS_STATE a) (by simp [motFlds])
    exact ⟨Side.motViol_get _ ha hpost (by simp [Fld.apart, F.MOT_STATUS_WINDOW_VIOL, F.MOT_STATUS_STATE]) (show 0 + 3 ≤ 32 by decide),
      Side.motViol_flag _ ha⟩
  case go =>
    intro a ha
    obtain ⟨l, hl⟩ := State.both_of_running hx Side.motGo
    obtain ⟨e, ⟨haxis, hflds⟩, ⟨haxis', hflds'⟩⟩ := (s.side x).motGo_at ha
    have hidle : e.motState a = (s.side x).motState a := hflds _ (by simp [motFlds])
    have htab : e.get (F.MOT_TBL_NSEG a) = (s.side x).get (F.MOT_TBL_NSEG a) := hflds _ (by simp [motFlds])
    have hpend := hflds' (F.MOT_STATUS_START_PEND a) (by simp [motFlds])
    have hviol := hflds' (F.MOT_STATUS_WINDOW_VIOL a) (by simp [motFlds])
    rw [hl]
    refine ⟨fun hm h0 ht => ?_, fun hm hbusy => ?_, fun hm => ?_⟩
    · simp only [hm, if_true, Side.motStart_of_ready (⟨hidle.trans h0, htab ▸ ht⟩ : e.motReady a)] at hpend haxis'
      exact ⟨hpend.trans (Side.get_set_self e (F.MOT_STATUS_START_PEND a) 1 (show 3 + 1 ≤ 32 by decide)),
        congrArg Axis.fwd (haxis'.trans (Side.axis_setAxis_self ..))⟩
    · have hnot : ¬e.motReady a := fun h => hbusy.elim (· (hidle ▸ h.1)) fun h0 => h.2 (htab ▸ h0)
      simp only [hm, if_true, Side.motStart_of_unready hnot] at hpend hviol
      obtain ⟨hpost, -⟩ := motFlds_apart (lt_of_lt_of_le ha s.pkg.axes_le) (g := F.MOT_STATUS_START_PEND a) (by simp [motFlds])
      refine ⟨hviol.trans (Side.motViol_flag _ ha), hpend.trans ((Side.motViol_get _ ha hpost ?_ (show 3 + 1 ≤ 32 by decide)).trans
        (hflds _ (by simp [motFlds])))⟩
      simp [Fld.apart, F.MOT_STATUS_WINDOW_VIOL, F.MOT_STATUS_START_PEND]
    · simp only [hm, Bool.false_eq_true, if_false] at hpend hviol haxis'
      exact ⟨hpend.trans (hflds _ (by simp [motFlds])), hviol.trans (hflds _ (by simp [motFlds])), haxis'.trans haxis⟩

end Sys2Proof.Proofs
end

section
/-! Commands of a unit and CHOP_CLR (R369, R372). -/

namespace Sys2Proof.Machine

section
variable {s : State} {u : Nat} (hu : u < 24) (hok : s.pkg.unitOk u = true)
include hu hok

theorem exec_enable (h : s.accepts true (uCmdOff u) 1) : exec (.enable u) s = .next (s.both fun p d => d.focEnable p u) :=
  (if_pos (by simp [hu, hok])).trans (congrArg Host.Outcome.next (State.accepts_asWrite h _))

theorem exec_disable (h : s.accepts true (uCmdOff u) 2) : exec (.disable u) s = .next (s.both fun _ d => d.unitCmd u 1) :=
  (if_pos (by simp [hu, hok])).trans (congrArg Host.Outcome.next (State.accepts_asWrite h _))

theorem exec_clear (h : s.accepts true (uCmdOff u) 4) : exec (.clear u) s = .next (s.both fun p d => d.focClear p u) :=
  (if_pos (by simp [hu, hok])).trans (congrArg Host.Outcome.next (State.accepts_asWrite h _))

end

theorem exec_chopClr {s : State} {b : Nat} (hb : b < 4) (h : s.accepts true (0xB20008 + 0x100 * b) 1) :
    exec (.chopClr b) s = .next (s.both fun p d => d.chopClr p b) :=
  (if_pos hb).trans (congrArg Host.Outcome.next (State.accepts_asWrite h _))

/-! Fields of either kind of unit: they lie off the posting registers, REASON and STATE apart from the flags. -/

theorem uWINDOW_VIOL_offPost {u : Nat} (h : u < 24) : offPost (uWINDOW_VIOL u).off := by
  unfold uWINDOW_VIOL pickF
  split
  · simp only [offPost, F.FOC_STATUS_WINDOW_VIOL]; omega
  · simp only [offPost, F.FOC_STP_STATUS_WINDOW_VIOL]; omega

theorem uWINDOW_VIOL_bit (u : Nat) : (uWINDOW_VIOL u).lo = 22 ∧ (uWINDOW_VIOL u).w = 1 := by
  unfold uWINDOW_VIOL pickF
  split
  · exact ⟨rfl, rfl⟩
  · exact ⟨rfl, rfl⟩

theorem uREASON_bits (u : Nat) : (uREASON u).off = (uWINDOW_VIOL u).off ∧ (uREASON u).lo = 8 ∧ (uREASON u).w = 4 := by
  unfold uREASON uWINDOW_VIOL pickF
  split
  · exact ⟨rfl, rfl, rfl⟩
  · exact ⟨rfl, rfl, rfl⟩

/-- A refused command shows its reason and WINDOW_VIOL, and field control keeps its state. -/
theorem Side.unitRefuse_shown (d : Side) {p : Pkg} {u r : Nat} (hu : u < 24) (hok : p.unitOk u = true) (hr : r < 16) :
    (d.unitRefuse p u r).foc = d.foc ∧ (d.unitRefuse p u r).get (uREASON u) = r ∧ (d.unitRefuse p u r).get (uWINDOW_VIOL u) = 1 := by
  obtain ⟨hvlo, hvw⟩ := uWINDOW_VIOL_bit u
  obtain ⟨hoff, hlo, hw⟩ := uREASON_bits u
  have hpost := uWINDOW_VIOL_offPost hu
  refine ⟨Side.fault_foc .., ?_, Side.fault_get_self _ (Pkg.canPost_unit hu hok) hpost hvw (by omega)⟩
  rw [Side.unitRefuse, Side.fault_get_apart _ (Pkg.canPost_unit hu hok) (by rwa [hoff]) (.inr (.inl (by omega))) (by omega),
    Side.get_set_self _ _ _ (by omega), hw]
  exact Nat.mod_eq_of_lt hr

theorem Side.enableBad_lt {d : Side} {u r : Nat} (h : d.enableBad u = some r) : r < 16 := by
  unfold Side.enableBad at h
  grind

theorem Side.unitCmd_cmds (d : Side) (u c : Nat) : ((d.unitCmd u c).focU u).cmds = (d.focU u).cmds ++ [c] :=
  congrArg FocU.cmds (tget_tset_self ..)

section
variable {d : Side} {p : Pkg} {u b : Nat}

theorem Side.focEnable_of_good (h : d.enableBad u = none) : d.focEnable p u = d.unitCmd u 0 := by
  rw [Side.focEnable, h]

theorem Side.focEnable_of_bad {r : Nat} (h : d.enableBad u = some r) : d.focEnable p u = d.unitRefuse p u r := by
  rw [Side.focEnable, h]

theorem Side.focClear_of_cut (h : d.uState u = 4) (hv : d.busAtLeast (d.get (uBUS u)) (d.get (F.FOC_BUS_VLIM1_V_OFF (d.get (uBUS u)))) = false) :
    d.focClear p u = d.unitCmd u 2 := by
  simp [Side.focClear, h, hv]

theorem Side.focClear_of_other
    (h : d.uState u ≠ 4 ∨ d.busAtLeast (d.get (uBUS u)) (d.get (F.FOC_BUS_VLIM1_V_OFF (d.get (uBUS u)))) = true) :
    d.focClear p u = d.unitRefuse p u 8 := by
  simp [Side.focClear, h]

theorem Side.chopClr_of_below (h : d.busAtLeast b (d.get (F.FOC_BUS_VLIM1_V_OFF b)) = false) :
    d.chopClr p b = d.set (F.FOC_BUS_STATUS_NOCHOP b) 0 := if_neg (by simp [h])

theorem Side.chopClr_of_above (h : d.busAtLeast b (d.get (F.FOC_BUS_VLIM1_V_OFF b)) = true) :
    d.chopClr p b = d.fault p (srcBus b) (F.FOC_BUS_STATUS_WINDOW_VIOL b) := if_pos h

end

end Sys2Proof.Machine

namespace Sys2Proof.Proofs

open Sys2Proof Sys2Proof.Machine

/-- Settles O41: each command by its guard, the reasons against an ENABLE, a CUT unit's bus, the bus of CHOP_CLR. -/
theorem unitCommands : Obligations.UnitCommands := by
  unfold Obligations.UnitCommands
  rintro s x d hx rfl
  refine ⟨?unit, ?bus⟩
  case unit =>
    rintro u b hu hok rfl
    refine ⟨fun hacc => ⟨fun hgood => ⟨_, exec_enable hu hok hacc, ?enable⟩, fun r hbad => ⟨_, exec_enable hu hok hacc, ?enableRefused⟩⟩,
      fun hacc => ⟨_, exec_disable hu hok hacc, ?disable⟩,
      fun hacc => ⟨fun hcut hv => ⟨_, exec_clear hu hok hacc, ?clear⟩, fun hother => ⟨_, exec_clear hu hok hacc, ?clearRefused⟩⟩⟩
    case enable =>
      obtain ⟨l, hl⟩ := State.both_of_running hx fun p d => d.focEnable p u
      rw [hl, Side.focEnable_of_good hgood]
      exact ⟨Side.unitCmd_cmds .., rfl⟩
    case enableRefused =>
      obtain ⟨l, hl⟩ := State.both_of_running hx fun p d => d.focEnable p u
      rw [hl, Side.focEnable_of_bad hbad]
      exact Side.unitRefuse_shown _ hu hok (Side.enableBad_lt hbad)
    case disable =>
      obtain ⟨l, hl⟩ := State.both_of_running hx fun _ d => d.unitCmd u 1
      rw [hl]
      exact ⟨Side.unitCmd_cmds .., rfl⟩
    case clear =>
      obtain ⟨l, hl⟩ := State.both_of_running hx fun p d => d.focClear p u
      rw [hl, Side.focClear_of_cut hcut hv]
      exact ⟨Side.unitCmd_cmds .., rfl⟩
    case clearRefused =>
      obtain ⟨l, hl⟩ := State.both_of_running hx fun p d => d.focClear p u
      rw [hl, Side.focClear_of_other hother]
      exact Side.unitRefuse_shown _ hu hok (by decide)
  case bus =>
    intro b hb hacc
    obtain ⟨l, hl⟩ := State.both_of_running hx fun p d => d.chopClr p b
    have hpost : offPost (0xB20004 + 0x100 * b) := by unfold offPost; omega
    refine ⟨fun hbelow => ⟨_, exec_chopClr hb hacc, ?_⟩, fun habove => ⟨_, exec_chopClr hb hacc, ?_⟩⟩
    · rw [hl, Side.chopClr_of_below hbelow]
      exact Side.get_set_self _ (F.FOC_BUS_STATUS_NOCHOP b) 0 (show 1 + 1 ≤ 32 by decide)
    · rw [hl, Side.chopClr_of_above habove]
      exact ⟨Side.fault_get_self _ (Pkg.canPost_bus _ hb) hpost rfl (show 10 < 32 by decide),
        Side.fault_get_apart _ (Pkg.canPost_bus _ hb) (g := F.FOC_BUS_STATUS_NOCHOP b) hpost (.inr (.inl (show 1 + 1 ≤ 10 by decide)))
          (show 1 + 1 ≤ 32 by decide)⟩

end Sys2Proof.Proofs
end

section
/-! CARRIER_PERIOD_START (R319, R358, R360). -/

namespace Sys2Proof.Machine

theorem exec_carrierPeriodStart {g : Nat} (h : g < 8) (s : State) :
    exec (.carrierPeriodStart g) s = .next (s.both fun p d => d.carrierStart p g) := if_pos h

/-- The outputs of a list take the duties that have reached the output hold stage, for a period of T ns (R319, R358). -/
def Side.takeDuties (t : Nat) (l : List Nat) (d : Side) : Side := l.foldl (fun d o => d.outDuty o (tget 0 d.law.duty o) t) d

theorem Side.takeDuties_cons (t o : Nat) (l : List Nat) (d : Side) :
    d.takeDuties t (o :: l) = (d.outDuty o (tget 0 d.law.duty o) t).takeDuties t l := rfl

theorem Side.takeDuties_frame (t : Nat) (l : List Nat) (d : Side) :
    (d.takeDuties t l).rf = d.rf ∧ (d.takeDuties t l).law = d.law ∧ (d.takeDuties t l).foc.car = d.foc.car := by
  induction l generalizing d with
  | nil => exact ⟨rfl, rfl, rfl⟩
  | cons o l ih => exact ih _

/-- The outputs of the list have the law's duty and its high time, the others what they had. -/
theorem Side.takeDuties_duty (t : Nat) (l : List Nat) (d : Side) (o : Nat) :
    tget 0 (d.takeDuties t l).foc.duty o = (if o ∈ l then tget 0 d.law.duty o else tget 0 d.foc.duty o) ∧
    tget 0 (d.takeDuties t l).foc.high o = if o ∈ l then pwmHigh (tget 0 d.law.duty o) t else tget 0 d.foc.high o := by
  induction l generalizing d with
  | nil => simp [Side.takeDuties]
  | cons k l ih =>
    obtain ⟨hduty, hhigh⟩ := ih (d.outDuty k (tget 0 d.law.duty k) t)
    rw [Side.takeDuties_cons, hduty, hhigh]
    by_cases hl : o ∈ l
    · simp [hl, Side.outDuty]
    · by_cases hk : o = k
      · subst hk
        simp [hl, Side.outDuty]
      · simp [hl, hk, Side.outDuty]

/-- A period of carrier g starts at the boundary of side d (R358). -/
def Side.carrierDue (d : Side) (g : Nat) : Bool :=
  d.get (F.FOC_CAR_CFG_PER_FT g) ≠ 0 && d.foc.n % d.get (F.FOC_CAR_CFG_PER_FT g) = 0 && tget 0 d.foc.car g ≠ d.foc.n + 1 &&
    carInRange (d.carT g) && !d.flag (F.FOC_CAR_CFG_RANGE_BAD g)

/-- The units us have run their period and latched. -/
def Side.unitsRun (p : Pkg) (g : Nat) (us : List Nat) (d : Side) : Side :=
  us.foldl (Side.unitLatch p) (us.foldl (Side.unitPeriod p (d.carT g)) { d with foc := { d.foc with car := tset d.foc.car g (d.foc.n + 1) } })

section
variable {d D : Side} {p : Pkg} {g : Nat} (hD : D = d.lawTake p)
include hD

theorem Side.carrierStart_of_idle (h : D.carrierDue g = false) : d.carrierStart p g = D := by
  subst hD
  exact if_neg (by simpa [Side.carrierDue] using h)

theorem Side.carrierStart_of_due (h : D.carrierDue g = true) {E : Side}
    (hE : E = D.unitsRun p g ((List.range 24).filter fun u => p.unitOk u && D.get (uCAR u) == g)) :
    d.carrierStart p g = E.takeDuties (D.carT g) ((List.range 128).filter fun o => E.outFree o && E.get (F.FOC_OUT_CFG_CAR o) == g) := by
  subst hD hE
  exact if_pos (by simpa [Side.carrierDue] using h)

end

end Sys2Proof.Machine

namespace Sys2Proof.Proofs

open Sys2Proof Sys2Proof.Machine

/-- Settles O43: a boundary that is due runs the units and then hands out the duties, any other takes the law values alone. -/
theorem carrierPeriods : Obligations.CarrierPeriods := by
  unfold Obligations.CarrierPeriods
  rintro g s x d D due hg hx rfl hD hdue
  change due = D.carrierDue g at hdue
  obtain ⟨l, hl⟩ := State.both_of_running hx fun p d => d.carrierStart p g
  refine ⟨fun hidle => ⟨_, exec_carrierPeriodStart hg s, ?idle⟩, fun hstart us E hus hE => ⟨_, exec_carrierPeriodStart hg s, ?start⟩⟩
  case idle =>
    rw [hl, Side.carrierStart_of_idle hD (hdue ▸ hidle)]
    exact ⟨rfl, rfl, rfl⟩
  case start =>
    subst hus
    rw [hl, Side.carrierStart_of_due hD (hdue ▸ hstart) hE]
    obtain ⟨hrf, -, hcar⟩ := E.takeDuties_frame (D.carT g) ((List.range 128).filter fun o => E.outFree o && E.get (F.FOC_OUT_CFG_CAR o) == g)
    refine ⟨hrf, hcar, fun o ho hfree ho' => ?_, fun o ho => ?_⟩
    · have hmem : o ∈ (List.range 128).filter fun o => E.outFree o && E.get (F.FOC_OUT_CFG_CAR o) == g := by simp [ho, hfree, ho']
      exact ⟨((E.takeDuties_duty ..).1).trans (if_pos hmem), ((E.takeDuties_duty ..).2).trans (if_pos hmem)⟩
    · have hmem : o ∉ (List.range 128).filter fun o => E.outFree o && E.get (F.FOC_OUT_CFG_CAR o) == g := by
        obtain h | h | h := ho
        · simp [h]
        · simp [h]
        · simp [h]
      exact ⟨((E.takeDuties_duty ..).1).trans (if_neg hmem), ((E.takeDuties_duty ..).2).trans (if_neg hmem)⟩

end Sys2Proof.Proofs
end

section
/-! SD_VALUE and ALIGN_DONE (R361, R377, R495). -/

namespace Sys2Proof.Machine

theorem exec_sdValue {c : Nat} (h : c < 64) (bs : List Bool) (s : State) : exec (.sdValue c bs) s = .next (s.sdValue c bs) := if_pos h

theorem exec_alignDone {s : State} {f : Nat} (h : f < s.pkg.focs) (k : Nat) :
    exec (.alignDone f k) s = .next ((s.advance k).both fun p d => d.alignDone p f) := if_pos h

/-! A window of modulator bits. -/

section
variable {d : Side} {p : Pkg} {c : Nat} {bs : List Bool}

theorem Side.sdPost_value (h : bs.length = 3 * d.osr c) :
    (d.sdPost p c bs).get (F.FOC_SDC_VAL_VALUE c) = ofSigned 16 (sdValue (d.osr c) bs) % 2 ^ 16 := by
  rw [Side.sdPost, if_pos h]
  exact Side.get_set_self _ _ _ (show 0 + 16 ≤ 32 by decide)

theorem Side.sdPost_of_other (h : bs.length ≠ 3 * d.osr c) : d.sdPost p c bs = d := if_neg h

theorem Side.sdPost_osr : (d.sdPost p c bs).osr c = d.osr c := by
  rw [Side.sdPost]
  split
  · refine Side.get_set_off _ _ ?_
    simp only [F.FOC_SDC_CFG_OSR, F.FOC_SDC_VAL_VALUE]
    omega
  · rfl

end

/-- The sides after SD_VALUE: on the side that an injection of kind 9 holds at ones, the window of ones comes last. -/
theorem State.sdValue_side {s : State} {x : SideId} (hx : s.pkg.hold.running x = true) (c : Nat) (bs : List Bool) :
    ∃ p q l, (s.sdValue c bs).side x =
      if (s.pkg.injActing 9 && s.pkg.hold.get F.HLD_INJ_LOC_LOC == c && s.pkg.hold.injSide == x) = true
      then Side.sdPost q c (bs.map fun _ => true) { (s.side x).sdPost p c bs with out := l } else { (s.side x).sdPost p c bs with out := l } := by
  obtain ⟨l, hl⟩ := State.both_of_running hx fun p d => d.sdPost p c bs
  refine ⟨s.pkg, (s.both fun p d => d.sdPost p c bs).pkg, l, ?_⟩
  rw [← hl, State.sdValue]
  generalize s.both (fun p d => d.sdPost p c bs) = s1
  by_cases hacts : s.pkg.injActing 9 = true ∧ s.pkg.hold.get F.HLD_INJ_LOC_LOC = c
  · obtain ⟨hact, hloc⟩ := hacts
    by_cases hside : s.pkg.hold.injSide = x
    · simp [hact, hloc, hside, hx]
    · simp only [hact, hloc, hside, beq_self_eq_true, Bool.true_and, beq_iff_eq, if_false]
      split
      · obtain rfl : x = otherSide s.pkg.hold.injSide := by
          revert hside
          cases s.pkg.hold.injSide <;> cases x <;> simp [otherSide]
        exact State.side_setSide_other ..
      · rfl
  · have hno : (s.pkg.injActing 9 && s.pkg.hold.get F.HLD_INJ_LOC_LOC == c) = false := by
      simpa [Bool.and_eq_false_iff, not_and_or] using hacts
    simp [hno]

/-! ALIGN ends. -/

theorem uSTATE_of_lt {f : Nat} (h : f < 16) : uSTATE f = F.FOC_STATUS_STATE f := if_pos h

theorem Pkg.focs_le (p : Pkg) : p.focs ≤ 16 := by
  unfold Pkg.focs
  split <;> decide

theorem Side.unitLow_rf (d : Side) (u : Nat) : (d.unitLow u).rf = d.rf := by
  unfold Side.unitLow
  split
  · exact List.foldlRecOn _ _ (motive := fun e : Side => e.rf = d.rf) rfl fun e he k _ => he
  · rfl

section
variable {d : Side} {p : Pkg} {f : Nat} (hf : f < p.focs)
include hf

theorem Side.set_uState (v : Nat) (hv : v < 8) : (d.set (uSTATE f) v).uState f = v := by
  rw [Side.uState, uSTATE_of_lt (lt_of_lt_of_le hf p.focs_le), Side.get_set_self _ _ _ (show 0 + 3 ≤ 32 by decide)]
  exact Nat.mod_eq_of_lt hv

/-- A failed catch leaves the unit OFF with CATCH_FAIL. -/
theorem Side.catchFail_shown : (d.catchFail p f).uState f = 0 ∧ (d.catchFail p f).get (F.FOC_STATUS_CATCH_FAIL f) = 1 := by
  have h16 : f < 16 := lt_of_lt_of_le hf p.focs_le
  have hsrc : p.canPost (srcUnit f) := Pkg.canPost_unit (by omega) (by simp [Pkg.unitOk, h16, hf])
  have hpost : offPost (0xB00004 + 0x1000 * f) := by unfold offPost; omega
  have hoff : (d.unitOff f).uState f = 0 := by
    rw [Side.uState, Side.get, Side.unitOff, Side.unitLow_rf]
    exact d.set_uState hf 0 (by decide)
  refine ⟨?_, Side.fault_get_self _ hsrc hpost rfl (show 19 < 32 by decide)⟩
  rw [← hoff, Side.uState, Side.uState, uSTATE_of_lt h16]
  exact Side.fault_get_apart _ hsrc hpost (.inr (.inl (show 0 + 3 ≤ 19 by decide))) (show 0 + 3 ≤ 32 by decide)

end

/-- The unit's ALIGN is over (R377). -/
def Side.alignOver (p : Pkg) (d : Side) (f : Nat) : Bool :=
  reached (d.dev p) ((d.focU f).alignAt + 1000000 * d.get (F.FOC_IANG_ALIGN_MS f))

section
variable {d : Side} {p : Pkg} {f : Nat}

theorem Side.alignDone_of_not (h : d.uState f ≠ 2 ∨ d.alignOver p f = false) : d.alignDone p f = d := by
  unfold Side.alignDone
  exact if_pos (by simpa [Side.alignOver] using h)

variable (h2 : d.uState f = 2) (hover : d.alignOver p f = true)
include h2 hover

theorem Side.alignDone_of_rest (hc : (d.focU f).caught = false) : d.alignDone p f = d.set (uSTATE f) 3 := by
  unfold Side.alignOver at hover
  simp only [Side.alignDone, h2, hover, hc, ne_eq, not_true_eq_false, decide_false, Bool.not_true, Bool.or_self, Bool.false_eq_true,
    Bool.not_false, if_true, if_false]

theorem Side.alignDone_of_caught (hc : (d.focU f).caught = true) {n : Nat} (hn : d.unitAxis f = some n) (hidle : d.motState n = 0) :
    d.alignDone p f = (d.set (F.MOT_UPOS_U n) (ofSigned 32 ((d.get (F.MOT_UPOS_U n) : Int) +
      toSigned 10 ((d.focU f).field / 64 + 1024 - d.get (F.MOT_UPOS_U n) % 1024)))).set (uSTATE f) 3 := by
  unfold Side.alignOver at hover
  simp only [Side.alignDone, h2, hover, hc, hn, hidle, ne_eq, not_true_eq_false, decide_false, Bool.not_true, Bool.or_self, Bool.false_eq_true,
    if_false]

theorem Side.alignDone_of_failed (hc : (d.focU f).caught = true)
    (hn : d.unitAxis f = none ∨ ∃ n, d.unitAxis f = some n ∧ d.motState n ≠ 0) : d.alignDone p f = d.catchFail p f := by
  unfold Side.alignOver at hover
  obtain hn | ⟨n, hn, hbusy⟩ := hn
  · simp only [Side.alignDone, h2, hover, hc, hn, ne_eq, not_true_eq_false, decide_false, Bool.not_true, Bool.or_self, Bool.false_eq_true,
      if_false]
  · simp only [Side.alignDone, h2, hover, hc, hn, hbusy, ne_eq, not_true_eq_false, decide_false, Bool.not_true, Bool.or_self,
      Bool.false_eq_true, if_false, not_false_eq_true, if_true]

end

end Sys2Proof.Machine

namespace Sys2Proof.Proofs

open Sys2Proof Sys2Proof.Machine

/-- Settles O42: the window by its length and the injection, the end of ALIGN by the time, the catch and the axis. -/
theorem valuesAndAlignment : Obligations.ValuesAndAlignment := by
  unfold Obligations.ValuesAndAlignment
  rintro s x d hx rfl
  refine ⟨?value, ?align⟩
  case value =>
    rintro c bs hc held rfl
    obtain ⟨p, q, l, hl⟩ := State.sdValue_side hx c bs
    refine ⟨fun hlen => ⟨_, exec_sdValue hc bs s, ?_⟩, fun hlen => ⟨_, exec_sdValue hc bs s, ?_⟩⟩
    · have hosr : ({ (s.side x).sdPost p c bs with out := l } : Side).osr c = (s.side x).osr c := Side.sdPost_osr
      rw [hl]
      split
      · rw [Side.sdPost_value (by rw [hosr, List.length_map, hlen]), hosr]
      · exact Side.sdPost_value hlen
    · rw [hl, Side.sdPost_of_other hlen]
      split
      · rw [Side.sdPost_of_other]
        rwa [List.length_map]
      · rfl
  case align =>
    rintro f k p hf rfl over_ hover
    change over_ = (s.side x).alignOver (s.pkg.advance k) f at hover
    have hf' : f < (s.pkg.advance k).focs := by simpa [Pkg.focs] using hf
    obtain ⟨l, hl⟩ := State.both_advance_of_running hx k fun p d => d.alignDone p f
    refine ⟨fun hnot => ⟨_, exec_alignDone hf k, ?not⟩, fun h2 hdue =>
      ⟨fun hc => ⟨_, exec_alignDone hf k, ?rest⟩, fun hc =>
        ⟨fun n hn hidle => ⟨_, exec_alignDone hf k, ?caught⟩, fun hn => ⟨_, exec_alignDone hf k, ?failed⟩⟩⟩⟩
    case not =>
      rw [hl, Side.alignDone_of_not (hover ▸ hnot)]
      exact ⟨rfl, rfl⟩
    all_goals rw [hdue] at hover
    case rest =>
      rw [hl, Side.alignDone_of_rest h2 hover.symm hc]
      exact Side.set_uState hf' 3 (by decide)
    case caught =>
      rw [hl, Side.alignDone_of_caught h2 hover.symm hc hn hidle]
      refine ⟨Side.set_uState hf' 3 (by decide), ?_⟩
      have hoff : (F.MOT_UPOS_U n).off ≠ (uSTATE f).off := by
        rw [uSTATE_of_lt (lt_of_lt_of_le hf s.pkg.focs_le)]
        simp only [F.MOT_UPOS_U, F.FOC_STATUS_STATE]
        omega
      exact (Side.get_set_off _ _ hoff).trans (Side.get_set_self _ (F.MOT_UPOS_U n) _ (show 0 + 32 ≤ 32 by decide))
    case failed =>
      obtain ⟨e, l, he, hl⟩ := State.both_advance_result hx k fun p d => d.alignDone p f
      have hshown := Side.catchFail_shown (d := s.side x) hf'
      rw [← Side.alignDone_of_failed h2 hover.symm hc hn, ← he] at hshown
      rw [hl]
      exact hshown

end Sys2Proof.Proofs
end

section
/-! Zero-cross edges and SSRs (R331, R332, R336): what an SSR's turn keeps of the others, and what it decides for itself. -/

namespace Sys2Proof.Machine

theorem exec_zeroCrossEdge {z : Nat} (h : z < 4) (k : Nat) (s : State) :
    exec (.zeroCrossEdge z k) s = .next ((s.advance k).both fun p d => d.zeroCross p z) := if_pos h

theorem exec_ssrSwitch {j : Nat} (h : j < 8) (k : Nat) (s : State) :
    exec (.ssrSwitch j k) s = .next ((s.advance k).both fun p d => d.ssrSwitch p j) := if_pos h

theorem exec_zxLost {z : Nat} (h : z < 4) (k : Nat) (s : State) :
    exec (.zxLost z k) s = .next ((s.advance k).both fun p d => d.zxLost p z) := if_pos h

@[simp] theorem Side.get_setPio (d : Side) (x : Pio) (g : Fld) : (d.setPio x).get g = d.get g := rfl
@[simp] theorem Side.word_setPio (d : Side) (x : Pio) (o : Nat) : (d.setPio x).word o = d.word o := rfl
@[simp] theorem Side.setPio_rf (d : Side) (x : Pio) : (d.setPio x).rf = d.rf := rfl
@[simp] theorem Side.setPio_law (d : Side) (x : Pio) : (d.setPio x).law = d.law := rfl
@[simp] theorem Side.setPio_pio (d : Side) (x : Pio) : (d.setPio x).pio = x := rfl

/-! The registers and the account of one SSR. -/

/-- The registers of the other SSRs than j. -/
def otherSsrRegs (j o : Nat) : Prop := 0xC00100 ≤ o ∧ o < 0xC00180 ∧ ¬(0xC00100 + 0x10 * j ≤ o ∧ o < 0xC00110 + 0x10 * j)

/-- From d to e only registers of other SSRs than j change; the inputs' account, j's switchings and the law stay. -/
def Side.ssrKept (j : Nat) (d e : Side) : Prop :=
  d.regsBut (otherSsrRegs j) e ∧ e.law = d.law ∧ tget [] e.pio.next j = tget [] d.pio.next j ∧
  e.pio.zx = d.pio.zx ∧ e.pio.seen = d.pio.seen ∧ e.pio.lost = d.pio.lost

theorem Side.ssrKept_refl (j : Nat) (d : Side) : Side.ssrKept j d d := ⟨fun _ _ => rfl, rfl, rfl, rfl, rfl, rfl⟩

theorem Side.ssrKept.trans {j : Nat} {d e g : Side} (h : Side.ssrKept j d e) (h' : Side.ssrKept j e g) : Side.ssrKept j d g := by
  obtain ⟨h1, h2, h3, h4, h5, h6⟩ := h
  obtain ⟨g1, g2, g3, g4, g5, g6⟩ := h'
  exact ⟨fun o ho => (g1 o ho).trans (h1 o ho), g2.trans h2, g3.trans h3, g4.trans h4, g5.trans h5, g6.trans h6⟩

/-- The line's change touches neither registers nor the inputs' account. -/
theorem Side.ssrLine_frame (p : Pkg) (k : Nat) (on : Bool) (d : Side) :
    (d.ssrLine p k on).rf = d.rf ∧ (d.ssrLine p k on).law = d.law ∧ (d.ssrLine p k on).pio.next = d.pio.next ∧
    (d.ssrLine p k on).pio.zx = d.pio.zx ∧ (d.ssrLine p k on).pio.seen = d.pio.seen ∧ (d.ssrLine p k on).pio.lost = d.pio.lost := by
  unfold Side.ssrLine
  split
  · exact ⟨rfl, rfl, rfl, rfl, rfl, rfl⟩
  · exact ⟨rfl, rfl, rfl, rfl, rfl, rfl⟩
  · exact ⟨rfl, rfl, rfl, rfl, rfl, rfl⟩

theorem Side.ssrLine_on (p : Pkg) (k : Nat) (on : Bool) (d : Side) : (tget none (d.ssrLine p k on).pio.on k).isSome = on := by
  unfold Side.ssrLine
  cases hline : tget none d.pio.on k with
  | none =>
    cases on with
    | true => simp [Side.setPio]
    | false => simp [hline]
  | some t =>
    cases on with
    | true => simp [hline]
    | false => simp [Side.setPio]

/-- What SSR k's account comes to at an edge, with the law's value. -/
def Side.ssrAcc (d : Side) (k : Nat) : Nat := d.get (F.PIO_SSR_STATE_ACC k) + tget 0 d.law.ssr k

/-- SSR k shows its decision: on where acc reaches 65,536, which its half-cycles count. -/
def Side.ssrShown (d : Side) (k acc : Nat) : Side :=
  let d1 := (d.set (F.PIO_SSR_STATE_ACC k) (if 65536 ≤ acc then acc - 65536 else acc)).set (F.PIO_SSR_STATE_ON k) (b2n (decide (65536 ≤ acc)))
  if 65536 ≤ acc then d1.inc (F.PIO_SSR_HALFS_COUNT k) 1 else d1

/-- The switching that a decision of SSR k leaves to wait. -/
def Side.ssrWait (d : Side) (p : Pkg) (k acc : Nat) : Nat × Bool :=
  ((d.dev p + 1000 * d.get (F.PIO_SSR_CFG_DELAY_US k)) % 2 ^ 64, decide (65536 ≤ acc))

theorem Side.ssrShown_frame (d : Side) (k acc : Nat) : (d.ssrShown k acc).law = d.law ∧ (d.ssrShown k acc).pio = d.pio := by
  unfold Side.ssrShown
  split
  · exact ⟨rfl, rfl⟩
  · exact ⟨rfl, rfl⟩

theorem Side.ssrDecide_of_enabled {p : Pkg} {d : Side} {k : Nat} (h : d.flag (F.PIO_SSR_CFG_EN k) = true) :
    d.ssrDecide p k = (d.ssrShown k (d.ssrAcc k)).setPio
      { d.pio with next := tset d.pio.next k (tget [] d.pio.next k ++ [d.ssrWait p k (d.ssrAcc k)]) } := by
  by_cases hacc : 65536 ≤ d.ssrAcc k
  · unfold Side.ssrAcc at hacc
    simp [Side.ssrDecide, h, Side.ssrShown, Side.ssrAcc, Side.ssrWait, tmod, hacc]
  · unfold Side.ssrAcc at hacc
    simp [Side.ssrDecide, h, Side.ssrShown, Side.ssrAcc, Side.ssrWait, tmod, hacc]

theorem Side.ssrDecide_of_disabled {p : Pkg} {d : Side} {k : Nat} (h : d.flag (F.PIO_SSR_CFG_EN k) = false) : d.ssrDecide p k = d :=
  if_pos (by simp [h])

section
variable {j k : Nat} (hj : j ≠ k) (hk : k < 8)
include hj hk

/-- A register of SSR k is one of another SSR than j. -/
theorem otherSsrRegs_of_ne {o : Nat} (ho : 0xC00100 + 0x10 * k ≤ o ∧ o < 0xC00110 + 0x10 * k) : otherSsrRegs j o := by
  unfold otherSsrRegs
  omega

theorem Side.regsBut.setSsr {d e : Side} (h : d.regsBut (otherSsrRegs j) e) {f : Fld} (v : Nat)
    (hf : 0xC00100 + 0x10 * k ≤ f.off ∧ f.off < 0xC00110 + 0x10 * k) : d.regsBut (otherSsrRegs j) (e.set f v) :=
  h.set v (otherSsrRegs_of_ne hj hk hf)

theorem Side.ssrShown_regsBut (d : Side) (acc : Nat) : d.regsBut (otherSsrRegs j) (d.ssrShown k acc) := by
  have hstate : 0xC00100 + 0x10 * k ≤ 0xC00104 + 0x10 * k ∧ 0xC00104 + 0x10 * k < 0xC00110 + 0x10 * k := by omega
  have hhalfs : 0xC00100 + 0x10 * k ≤ 0xC00108 + 0x10 * k ∧ 0xC00108 + 0x10 * k < 0xC00110 + 0x10 * k := by omega
  have decided (v w : Nat) := ((Side.regsBut_refl (otherSsrRegs j) d).setSsr hj hk (f := F.PIO_SSR_STATE_ACC k) v hstate).setSsr hj hk
    (f := F.PIO_SSR_STATE_ON k) w hstate
  unfold Side.ssrShown
  split
  · exact (decided _ _).setSsr hj hk (f := F.PIO_SSR_HALFS_COUNT k) _ hhalfs
  · exact decided _ _

theorem Side.ssrDecide_ssrKept (p : Pkg) (d : Side) : Side.ssrKept j d (d.ssrDecide p k) := by
  by_cases hen : d.flag (F.PIO_SSR_CFG_EN k) = true
  · rw [Side.ssrDecide_of_enabled hen]
    obtain ⟨hlaw, hpio⟩ := d.ssrShown_frame k (d.ssrAcc k)
    refine ⟨fun o ho => ?_, ?_⟩
    · rw [Side.word_setPio]
      exact d.ssrShown_regsBut hj hk _ o ho
    · simp only [Side.setPio_law, Side.setPio_pio, hlaw]
      exact ⟨trivial, tget_tset_ne _ _ _ hj, trivial, trivial, trivial⟩
  · rw [Side.ssrDecide_of_disabled (by simpa using hen)]
    exact Side.ssrKept_refl j d

theorem Side.ssrOff_ssrKept (p : Pkg) (d : Side) : Side.ssrKept j d (d.ssrOff p k) := by
  have hstate : 0xC00100 + 0x10 * k ≤ 0xC00104 + 0x10 * k ∧ 0xC00104 + 0x10 * k < 0xC00110 + 0x10 * k := by omega
  have hregs := ((Side.regsBut_refl (otherSsrRegs j) d).setSsr hj hk (f := F.PIO_SSR_STATE_ON k) 0 hstate).setSsr hj hk
    (f := F.PIO_SSR_STATE_ACC k) 0 hstate
  obtain ⟨hrf, hlaw, hnext, hzx, hseen, hlost⟩ :=
    ((d.set (F.PIO_SSR_STATE_ON k) 0).set (F.PIO_SSR_STATE_ACC k) 0).ssrLine_frame p k false
  rw [Side.ssrOff]
  refine ⟨fun o ho => ?_, ?_⟩
  · rw [Side.word_setPio, Side.word, hrf]
    exact hregs o ho
  · simp only [Side.setPio_law, Side.setPio_pio, hlaw, hnext, hzx, hseen, hlost, Side.set_law, Side.set_pio, tget_tset_ne _ _ _ hj, and_self]

end

/-! What an SSR's own turn decides. -/

/-- SSR j of side d shows that it is off with acc 0, no switching waiting. -/
def Side.ssrIsOff (d : Side) (j : Nat) : Prop :=
  d.get (F.PIO_SSR_STATE_ON j) = 0 ∧ d.get (F.PIO_SSR_STATE_ACC j) = 0 ∧ tget [] d.pio.next j = []

theorem Side.ssrOff_ssrIsOff (p : Pkg) (d : Side) (j : Nat) : (d.ssrOff p j).ssrIsOff j := by
  obtain ⟨hrf, -⟩ := ((d.set (F.PIO_SSR_STATE_ON j) 0).set (F.PIO_SSR_STATE_ACC j) 0).ssrLine_frame p j false
  rw [Side.ssrOff, Side.ssrIsOff, Side.get_setPio, Side.get_setPio, Side.setPio_pio, Side.get, Side.get, hrf]
  refine ⟨?_, ?_, tget_tset_self ..⟩
  · exact (Side.get_set_bits _ (F.PIO_SSR_STATE_ACC j) (F.PIO_SSR_STATE_ON j) 0 (.inl (show 0 + 1 ≤ 16 by decide)) (show 0 + 1 ≤ 32 by decide)).trans
      (Side.get_set_self d (F.PIO_SSR_STATE_ON j) 0 (show 0 + 1 ≤ 32 by decide))
  · exact Side.get_set_self _ (F.PIO_SSR_STATE_ACC j) 0 (show 16 + 16 ≤ 32 by decide)

theorem Side.ssrKept.get {j : Nat} {d e : Side} (h : Side.ssrKept j d e) {g : Fld} (hg : ¬otherSsrRegs j g.off) : e.get g = d.get g := h.1.get hg

/-- The registers of SSR j itself, and the input block's, are none of another SSR. -/
theorem not_otherSsrRegs {j o : Nat} (h : o < 0xC00100 ∨ 0xC00180 ≤ o ∨ 0xC00100 + 0x10 * j ≤ o ∧ o < 0xC00110 + 0x10 * j) : ¬otherSsrRegs j o := by
  unfold otherSsrRegs
  omega

theorem Side.ssrKept.dev {j : Nat} {d e : Side} (h : Side.ssrKept j d e) (p : Pkg) : e.dev p = d.dev p :=
  Side.dev_of_regsBut h.1 (fun o ho => not_otherSsrRegs (by omega)) p

theorem Side.ssrKept.ssrIsOff {j : Nat} {d e : Side} (h : Side.ssrKept j d e) (hd : d.ssrIsOff j) : e.ssrIsOff j := by
  obtain ⟨hon, hacc, hnext⟩ := hd
  have hreg : ¬otherSsrRegs j (0xC00104 + 0x10 * j) := not_otherSsrRegs (by omega)
  exact ⟨(h.get (g := F.PIO_SSR_STATE_ON j) hreg).trans hon, (h.get (g := F.PIO_SSR_STATE_ACC j) hreg).trans hacc, h.2.2.1.trans hnext⟩

/-- SSR j of side e is decided from what side d had: acc takes the law's value, and the switching waits for DELAY_US. -/
def Side.ssrDecided (p : Pkg) (j acc : Nat) (d e : Side) : Prop :=
  e.get (F.PIO_SSR_STATE_ON j) = (if 65536 ≤ acc then 1 else 0) ∧
  e.get (F.PIO_SSR_STATE_ACC j) = (if 65536 ≤ acc then acc - 65536 else acc) % 2 ^ 16 ∧
  tget [] e.pio.next j = tget [] d.pio.next j ++ [((d.dev p + 1000 * d.get (F.PIO_SSR_CFG_DELAY_US j)) % 2 ^ 64, decide (65536 ≤ acc))]

theorem Side.ssrShown_get (d : Side) (j acc : Nat) :
    (d.ssrShown j acc).get (F.PIO_SSR_STATE_ON j) = (if 65536 ≤ acc then 1 else 0) ∧
    (d.ssrShown j acc).get (F.PIO_SSR_STATE_ACC j) = (if 65536 ≤ acc then acc - 65536 else acc) % 2 ^ 16 := by
  have hon (e : Side) (w : Nat) : (e.set (F.PIO_SSR_STATE_ON j) w).get (F.PIO_SSR_STATE_ON j) = w % 2 ^ 1 :=
    Side.get_set_self _ _ _ (show 0 + 1 ≤ 32 by decide)
  have hacc (v w : Nat) : ((d.set (F.PIO_SSR_STATE_ACC j) v).set (F.PIO_SSR_STATE_ON j) w).get (F.PIO_SSR_STATE_ACC j) = v % 2 ^ 16 :=
    (Side.get_set_bits _ _ _ _ (.inr (show 0 + 1 ≤ 16 by decide)) (show 16 + 16 ≤ 32 by decide)).trans
      (Side.get_set_self _ _ _ (show 16 + 16 ≤ 32 by decide))
  have hhalfs (e : Side) (g : Fld) (hg : g.off = 0xC00104 + 0x10 * j) : (e.inc (F.PIO_SSR_HALFS_COUNT j) 1).get g = e.get g :=
    Side.get_set_off _ _ (by rw [hg]; simp [F.PIO_SSR_HALFS_COUNT])
  unfold Side.ssrShown
  by_cases h : 65536 ≤ acc
  · simp [h, hhalfs _ (F.PIO_SSR_STATE_ON j) rfl, hhalfs _ (F.PIO_SSR_STATE_ACC j) rfl, hon, hacc, b2n]
  · simp [h, hon, hacc, b2n]

theorem Side.ssrDecide_ssrDecided (p : Pkg) {d : Side} {j : Nat} (hen : d.get (F.PIO_SSR_CFG_EN j) = 1) :
    Side.ssrDecided p j (d.ssrAcc j) d (d.ssrDecide p j) := by
  obtain ⟨hon, hacc⟩ := d.ssrShown_get j (d.ssrAcc j)
  rw [Side.ssrDecide_of_enabled ((d.flag_iff _).2 hen), Side.ssrDecided, Side.get_setPio, Side.get_setPio, Side.setPio_pio]
  exact ⟨hon, hacc, tget_tset_self ..⟩

/-! The SSRs of an input, one after another. -/

/-- A turn of every SSR of input z comes to SSR j with j as it was. -/
theorem Side.ssrsOf_at {f : Side → Nat → Side} (hf : ∀ {j k : Nat}, j ≠ k → k < 8 → ∀ d, Side.ssrKept j d (f d k)) {z j : Nat} (hj : j < 8)
    {d0 : Side} (hz : d0.get (F.PIO_SSR_CFG_ZX j) = z) (d : Side) : ∃ e, Side.ssrKept j d e ∧ Side.ssrKept j (f e j) ((d0.ssrsOf z).foldl f d) := by
  obtain ⟨e, he, hk⟩ := foldl_range_at (Side.ssrKept_refl j) Side.ssrKept.trans
    (f := fun d k => if d0.get (F.PIO_SSR_CFG_ZX k) == z then f d k else d) hj
    (fun d k hk h8 => by
      split
      · exact hf (Ne.symm hk) h8 d
      · exact Side.ssrKept_refl j d) d
  refine ⟨e, he, ?_⟩
  rw [Side.ssrsOf, List.foldl_filter]
  simpa [hz] using hk

/-- From d to e the block's STATUS and the inputs' account stay. -/
def Side.inputsKept (d e : Side) : Prop :=
  (∀ o, ¬(0xC00100 ≤ o ∧ o < 0xC00180) → e.word o = d.word o) ∧ e.pio.zx = d.pio.zx ∧ e.pio.seen = d.pio.seen ∧ e.pio.lost = d.pio.lost

/-- Every SSR's turn leaves the inputs alone. -/
theorem Side.ssrsOf_inputsKept {f : Side → Nat → Side} (hf : ∀ {j k : Nat}, j ≠ k → k < 8 → ∀ d, Side.ssrKept j d (f d k)) (d0 : Side) (z : Nat) (d : Side) :
    Side.inputsKept d ((d0.ssrsOf z).foldl f d) := by
  refine List.foldlRecOn _ _ (motive := fun e => Side.inputsKept d e) ⟨fun _ _ => rfl, rfl, rfl, rfl⟩ fun e he k hk => ?_
  have hk8 : k < 8 := List.mem_range.1 (List.mem_filter.1 hk).1
  obtain ⟨hword, hzx, hseen, hlost⟩ := he
  obtain ⟨hregs, -, -, hzx', hseen', hlost'⟩ := hf (j := k + 1) (by omega) hk8 e
  refine ⟨fun o ho => (hregs o fun hother => ho ⟨hother.1, hother.2.1⟩).trans (hword o ho), hzx'.trans hzx, hseen'.trans hseen, hlost'.trans hlost⟩

/-! An edge of an input. -/

/-- The registers' account of an edge: the half-cycle's length, and ZX_OK. -/
def Side.zxRegs (p : Pkg) (z : Nat) (d : Side) : Side :=
  let d1 := if tget false d.pio.seen z then d.set (F.PIO_ZX_PERIOD_NS z) (ofSigned 32 (tdiff (d.dev p) (tget 0 d.pio.zx z))) else d
  d1.set F.PIO_STATUS_ZX_OK (Nat.lor (d1.get F.PIO_STATUS_ZX_OK) (2 ^ z))

/-- The input's account of an edge: its registers, and its time. -/
def Side.zxNoted (p : Pkg) (z : Nat) (d : Side) : Side :=
  (d.zxRegs p z).setPio { d.pio with zx := tset d.pio.zx z (d.dev p), seen := tset d.pio.seen z true, lost := tset d.pio.lost z false }

section
variable (p : Pkg) (z : Nat) (d : Side)

theorem Side.zxRegs_frame : (d.zxRegs p z).law = d.law ∧ (d.zxRegs p z).pio = d.pio := by
  unfold Side.zxRegs
  split
  · exact ⟨rfl, rfl⟩
  · exact ⟨rfl, rfl⟩

theorem Side.zeroCross_eq : d.zeroCross p z = ((d.lawTake p).ssrsOf z).foldl (Side.ssrDecide p) ((d.lawTake p).zxNoted p z) := by
  rw [Side.zxNoted, ← ((d.lawTake p).zxRegs_frame p z).2]
  rfl

theorem Side.zxRegs_regsBut : d.regsBut (fun o => o = 0xC00000 ∨ o = 0xC00200 + 4 * z) (d.zxRegs p z) := by
  unfold Side.zxRegs
  split
  · exact ((d.regsBut_refl _).set (f := F.PIO_ZX_PERIOD_NS z) _ (.inr rfl)).set (f := F.PIO_STATUS_ZX_OK) _ (.inl rfl)
  · exact (d.regsBut_refl _).set (f := F.PIO_STATUS_ZX_OK) _ (.inl rfl)

theorem Side.zxNoted_regsBut : d.regsBut (fun o => o = 0xC00000 ∨ o = 0xC00200 + 4 * z) (d.zxNoted p z) := fun o ho =>
  (Side.word_setPio ..).trans (d.zxRegs_regsBut p z o ho)

theorem Side.zxNoted_law : (d.zxNoted p z).law = d.law ∧ (d.zxNoted p z).pio.next = d.pio.next :=
  ⟨(Side.setPio_law ..).trans (d.zxRegs_frame p z).1, by rw [Side.zxNoted, Side.setPio_pio]⟩

theorem Side.zxNoted_pio : tget 0 (d.zxNoted p z).pio.zx z = d.dev p ∧ tget false (d.zxNoted p z).pio.seen z = true ∧
    tget false (d.zxNoted p z).pio.lost z = false := by
  rw [Side.zxNoted, Side.setPio_pio]
  exact ⟨tget_tset_self .., tget_tset_self .., tget_tset_self ..⟩

theorem Side.zxNoted_ok : (d.zxNoted p z).get F.PIO_STATUS_ZX_OK = Nat.lor (d.get F.PIO_STATUS_ZX_OK) (2 ^ z) % 2 ^ 4 := by
  have hoff : F.PIO_STATUS_ZX_OK.off ≠ (F.PIO_ZX_PERIOD_NS z).off := by
    simp only [F.PIO_STATUS_ZX_OK, F.PIO_ZX_PERIOD_NS]
    omega
  have hset (e : Side) (v : Nat) : (e.set F.PIO_STATUS_ZX_OK v).get F.PIO_STATUS_ZX_OK = v % 2 ^ 4 := Side.get_set_self _ _ _ (by decide)
  rw [Side.zxNoted, Side.get_setPio, Side.zxRegs, hset]
  split
  · rw [Side.get_set_off _ _ hoff]
  · rfl

theorem Side.zxNoted_period (h : tget false d.pio.seen z = true) :
    (d.zxNoted p z).get (F.PIO_ZX_PERIOD_NS z) = ofSigned 32 (tdiff (d.dev p) (tget 0 d.pio.zx z)) := by
  have hoff : (F.PIO_ZX_PERIOD_NS z).off ≠ F.PIO_STATUS_ZX_OK.off := by
    simp only [F.PIO_STATUS_ZX_OK, F.PIO_ZX_PERIOD_NS]
    omega
  rw [Side.zxNoted, Side.get_setPio, Side.zxRegs, if_pos h, Side.get_set_off _ _ hoff, Side.get_set_self _ _ _ (show 0 + 32 ≤ 32 by decide)]
  exact Nat.mod_eq_of_lt (ofSigned_lt 32 _)

end

/-- An enabled SSR of the input is decided from what it had before the edge. -/
theorem Side.zeroCross_ssrDecided {p : Pkg} {z j : Nat} {d D : Side} (hz : z < 4) (hj : j < 8) (hD : D = d.lawTake p)
    (hzx : D.get (F.PIO_SSR_CFG_ZX j) = z) (hen : D.get (F.PIO_SSR_CFG_EN j) = 1) :
    Side.ssrDecided p j (D.ssrAcc j) D (d.zeroCross p z) := by
  subst hD
  rw [Side.zeroCross_eq]
  obtain ⟨e, hkept, hend⟩ := Side.ssrsOf_at (fun hjk hk d => d.ssrDecide_ssrKept hjk hk p) hj hzx ((d.lawTake p).zxNoted p z)
  have hnoted := (d.lawTake p).zxNoted_regsBut p z
  obtain ⟨hlaw, hnext⟩ := (d.lawTake p).zxNoted_law p z
  have hcfg : ¬otherSsrRegs j (0xC00100 + 0x10 * j) ∧ ¬(0xC00100 + 0x10 * j = 0xC00000 ∨ 0xC00100 + 0x10 * j = 0xC00200 + 4 * z) :=
    ⟨not_otherSsrRegs (by omega), by omega⟩
  have hstate : ¬otherSsrRegs j (0xC00104 + 0x10 * j) ∧ ¬(0xC00104 + 0x10 * j = 0xC00000 ∨ 0xC00104 + 0x10 * j = 0xC00200 + 4 * z) :=
    ⟨not_otherSsrRegs (by omega), by omega⟩
  have hen' : e.get (F.PIO_SSR_CFG_EN j) = 1 := ((hkept.get hcfg.1).trans (hnoted.get hcfg.2)).trans hen
  have hacc : e.get (F.PIO_SSR_STATE_ACC j) = _ := (hkept.get hstate.1).trans (hnoted.get hstate.2)
  have hdelay : e.get (F.PIO_SSR_CFG_DELAY_US j) = _ := (hkept.get hcfg.1).trans (hnoted.get hcfg.2)
  have hdev : e.dev p = _ := (hkept.dev p).trans (Side.dev_of_regsBut hnoted (fun o ho => by omega) p)
  obtain ⟨hon, hacc', hnext'⟩ := Side.ssrDecide_ssrDecided p hen'
  have hssr : e.ssrAcc j = (d.lawTake p).ssrAcc j := by rw [Side.ssrAcc, Side.ssrAcc, hacc, hkept.2.1, hlaw]
  rw [hssr] at hon hacc' hnext'
  rw [hdev, hdelay, hkept.2.2.1, hnext] at hnext'
  exact ⟨(hend.get (g := F.PIO_SSR_STATE_ON j) hstate.1).trans hon, (hend.get (g := F.PIO_SSR_STATE_ACC j) hstate.1).trans hacc',
    hend.2.2.1.trans hnext'⟩

/-! A line that switches, and an input that is lost. -/

section
variable {p : Pkg} {d : Side} {j z : Nat}

theorem Side.ssrSwitch_of_due {at_ : Nat} {on : Bool} {rest : List (Nat × Bool)} (h : tget [] d.pio.next j = (at_, on) :: rest)
    (hdue : reached (d.dev p) at_ = true) : d.ssrSwitch p j = (d.setPio { d.pio with next := tset d.pio.next j rest }).ssrLine p j on := by
  rw [Side.ssrSwitch, h]
  exact if_pos hdue

theorem Side.ssrSwitch_of_waiting
    (h : tget [] d.pio.next j = [] ∨ ∃ at_ on rest, tget [] d.pio.next j = (at_, on) :: rest ∧ reached (d.dev p) at_ = false) :
    d.ssrSwitch p j = d := by
  obtain h | ⟨at_, on, rest, h, hdue⟩ := h
  · rw [Side.ssrSwitch, h]
  · rw [Side.ssrSwitch, h]
    exact if_neg (by simp [hdue])

/-- Input z is shown lost: its ZX_OK bit is clear. -/
def Side.zxMissed (z : Nat) (d : Side) : Side :=
  let d1 := d.set F.PIO_STATUS_ZX_OK (d.get F.PIO_STATUS_ZX_OK - (if bit (d.get F.PIO_STATUS_ZX_OK) z then 2 ^ z else 0))
  d1.setPio { d1.pio with lost := tset d1.pio.lost z true }

theorem Side.zxLost_of_due (hl : tget false d.pio.lost z = false) (hdue : reached (d.dev p) (tget 0 d.pio.zx z + 25000000) = true) :
    d.zxLost p z = ((d.ssrsOf z).foldl (fun d k => d.ssrOff p k) (d.zxMissed z)).fault p 0x240 F.PIO_STATUS_ZX_LOST := by
  unfold Side.zxLost
  exact if_pos (by simp [hl, hdue])

theorem Side.zxLost_of_not (h : tget false d.pio.lost z = true ∨ reached (d.dev p) (tget 0 d.pio.zx z + 25000000) = false) :
    d.zxLost p z = d := by
  unfold Side.zxLost
  exact if_neg (by simpa [imp_iff_not_or] using h)

theorem Pkg.canPost_pio (p : Pkg) : p.canPost 0x240 := ⟨by decide, by cases h : p.fuses.is7708 <;> simp [srcAbsent]⟩

/-- A lost input shows ZX_LOST and is lost until its next edge, and its SSRs are off. -/
theorem Side.zxLost_shown (hl : tget false d.pio.lost z = false) (hdue : reached (d.dev p) (tget 0 d.pio.zx z + 25000000) = true) :
    tget false (d.zxLost p z).pio.lost z = true ∧ (d.zxLost p z).get F.PIO_STATUS_ZX_LOST = 1 ∧
    ∀ j, j < 8 → d.get (F.PIO_SSR_CFG_ZX j) = z → (d.zxLost p z).ssrIsOff j := by
  rw [Side.zxLost_of_due hl hdue]
  have hturn : ∀ {j k : Nat}, j ≠ k → k < 8 → ∀ e : Side, Side.ssrKept j e (e.ssrOff p k) := fun hjk hk e => e.ssrOff_ssrKept hjk hk p
  obtain ⟨-, -, -, hlost⟩ := Side.ssrsOf_inputsKept hturn d z (d.zxMissed z)
  refine ⟨?_, Side.fault_get_self _ p.canPost_pio (by simp [offPost, F.PIO_STATUS_ZX_LOST]) rfl (by decide), fun j hj hz => ?_⟩
  · rw [Side.fault_pio, hlost]
    exact tget_tset_self ..
  · obtain ⟨e, -, hend⟩ := Side.ssrsOf_at hturn hj hz (d.zxMissed z)
    obtain ⟨hon, hacc, hnext⟩ := hend.ssrIsOff (e.ssrOff_ssrIsOff p j)
    have hpost : offPost (0xC00104 + 0x10 * j) := by unfold offPost; omega
    have hoff : 0xC00104 + 0x10 * j ≠ 0xC00000 := by omega
    exact ⟨(Side.fault_get _ p 0x240 F.PIO_STATUS_ZX_LOST (F.PIO_SSR_STATE_ON j) (by decide) hpost hoff).trans hon,
      (Side.fault_get _ p 0x240 F.PIO_STATUS_ZX_LOST (F.PIO_SSR_STATE_ACC j) (by decide) hpost hoff).trans hacc,
      (congrArg (fun x : Pio => tget [] x.next j) (Side.fault_pio ..)).trans hnext⟩

end

end Sys2Proof.Machine

namespace Sys2Proof.Proofs

open Sys2Proof Sys2Proof.Machine

/-- Settles O37: an edge notes the input and decides its SSRs one by one, a due switching drives the line, a lost input turns its SSRs off. -/
theorem zeroCrossesAndSsrs : Obligations.ZeroCrossesAndSsrs := by
  unfold Obligations.ZeroCrossesAndSsrs
  rintro k s x d D p hx rfl rfl hD
  refine ⟨fun z hz => ⟨_, exec_zeroCrossEdge hz k s, ?edge⟩, fun j hj =>
    ⟨fun at_ on rest hnext hdue => ⟨_, exec_ssrSwitch hj k s, ?switch⟩, fun hwait => ⟨_, exec_ssrSwitch hj k s, ?wait⟩⟩, fun z hz =>
    ⟨fun hl hdue => ⟨_, exec_zxLost hz k s, ?lost⟩, fun hnot => ⟨_, exec_zxLost hz k s, ?kept⟩⟩⟩
  case edge =>
    obtain ⟨e, l, he, hl⟩ := State.both_advance_result hx k fun p d => d.zeroCross p z
    obtain ⟨hword, hzx, hseen, hlost⟩ := Side.ssrsOf_inputsKept (fun hjk hk d => d.ssrDecide_ssrKept hjk hk (s.pkg.advance k)) D z
      (D.zxNoted (s.pkg.advance k) z)
    obtain ⟨hzx0, hseen0, hlost0⟩ := D.zxNoted_pio (s.pkg.advance k) z
    have heq : e = (D.ssrsOf z).foldl (Side.ssrDecide (s.pkg.advance k)) (D.zxNoted (s.pkg.advance k) z) := by
      rw [he, hD]
      exact Side.zeroCross_eq ..
    rw [← heq] at hword hzx hseen hlost
    rw [hl]
    refine ⟨(congrArg (tget 0 · z) hzx).trans hzx0, (congrArg (tget false · z) hseen).trans hseen0, (congrArg (tget false · z) hlost).trans hlost0,
      ?_, fun hs => ?_, fun j acc hj hcfg hen hacc => ?_⟩
    · exact (Side.get_of_word F.PIO_STATUS_ZX_OK (hword _ (by simp [F.PIO_STATUS_ZX_OK]))).trans (D.zxNoted_ok ..)
    · refine (Side.get_of_word (F.PIO_ZX_PERIOD_NS z) (hword _ ?_)).trans (D.zxNoted_period _ _ hs)
      simp only [F.PIO_ZX_PERIOD_NS]
      omega
    · subst hacc
      have hdecided := Side.zeroCross_ssrDecided hz hj hD hcfg hen
      rw [← he] at hdecided
      exact hdecided
  case switch =>
    obtain ⟨l, hl⟩ := State.both_advance_of_running hx k fun p d => d.ssrSwitch p j
    rw [hl, Side.ssrSwitch_of_due hnext hdue]
    obtain ⟨-, -, hn, -⟩ := ((s.side x).setPio { (s.side x).pio with next := tset (s.side x).pio.next j rest }).ssrLine_frame (s.pkg.advance k) j on
    exact ⟨(congrArg (tget [] · j) hn).trans (tget_tset_self ..), Side.ssrLine_on ..⟩
  case wait =>
    obtain ⟨l, hl⟩ := State.both_advance_of_running hx k fun p d => d.ssrSwitch p j
    rw [hl, Side.ssrSwitch_of_waiting hwait]
  case lost =>
    obtain ⟨e, l, he, hl'⟩ := State.both_advance_result hx k fun p d => d.zxLost p z
    have hshown := Side.zxLost_shown hl hdue
    rw [← he] at hshown
    rw [hl']
    exact hshown
  case kept =>
    obtain ⟨l, hl⟩ := State.both_advance_of_running hx k fun p d => d.zxLost p z
    rw [hl, Side.zxLost_of_not hnot]
    exact ⟨rfl, rfl⟩

end Sys2Proof.Proofs
end

section
/-! What the hold die's work keeps of the sides' roles (R385, R388, R392): the fields of HLD_TWN_STATUS, the gap of a failover and the
acknowledge that it waits for. -/

namespace Sys2Proof.Machine

/-- From s to t the fields of HLD_TWN_STATUS apart from those listed stay, and so do the gap, the acknowledge, the stopped sides, raw
time and the commands that wait. -/
def State.roleKept (l : List Fld) (s t : State) : Prop :=
  (∀ f : Fld, f.off = 0x3F00000 → f.lo + f.w ≤ 32 → (∀ g ∈ l, g.apart f) → t.pkg.hold.get f = s.pkg.hold.get f) ∧
  t.pkg.hold.gap = s.pkg.hold.gap ∧ t.pkg.hold.ack = s.pkg.hold.ack ∧ t.pkg.hold.stopped = s.pkg.hold.stopped ∧ t.pkg.raw = s.pkg.raw ∧
  t.pending = s.pending

theorem State.roleKept_refl (l : List Fld) (s : State) : s.roleKept l s := ⟨fun _ _ _ _ => rfl, rfl, rfl, rfl, rfl, rfl⟩

section
variable {l : List Fld} {s t u : State}

theorem State.roleKept.trans (h : s.roleKept l t) (h' : t.roleKept l u) : s.roleKept l u := by
  obtain ⟨h1, h2, h3, h4, h5, h6⟩ := h
  obtain ⟨g1, g2, g3, g4, g5, g6⟩ := h'
  exact ⟨fun f hf h32 ha => (g1 f hf h32 ha).trans (h1 f hf h32 ha), g2.trans h2, g3.trans h3, g4.trans h4, g5.trans h5, g6.trans h6⟩

theorem State.roleKept.of_nil (h : s.roleKept [] t) : s.roleKept l t :=
  ⟨fun f hf h32 _ => h.1 f hf h32 (by simp), h.2⟩

theorem State.roleKept.foldl {α : Type} {f : State → α → State} {as : List α} (hf : ∀ t : State, ∀ a ∈ as, t.roleKept l (f t a)) :
    s.roleKept l (as.foldl f s) :=
  List.foldlRecOn as f (motive := fun t => s.roleKept l t) (s.roleKept_refl l) fun t ht a ha => ht.trans (hf t a ha)

theorem State.roleKept.health (h : s.roleKept l t) (hl : ∀ g ∈ l, ∀ x, g.apart (healthFld x)) (x : SideId) :
    t.pkg.hold.health x = s.pkg.hold.health x := by
  rw [Hold.health_eq, Hold.health_eq]
  exact h.1 _ (by cases x <;> rfl) (by cases x <;> decide) fun g hg => hl g hg x

theorem State.roleKept.flag {f : Fld} (h : s.roleKept l t) (hoff : f.off = 0x3F00000) (h32 : f.lo + f.w ≤ 32) (hl : ∀ g ∈ l, g.apart f) :
    t.pkg.hold.flag f = s.pkg.hold.flag f := by
  rw [Hold.flag, Hold.flag, h.1 f hoff h32 hl]

theorem State.roleKept.now (h : s.roleKept l t) : t.pkg.now = s.pkg.now := congrArg BitVec.toNat h.2.2.2.2.1

end

/-! The steps that keep the roles. -/

section
variable {l : List Fld} (s : State)

/-- The hold die's registers and roles as they were. -/
theorem State.roleKept_setHold {h : Hold} (hrf : h.rf = s.pkg.hold.rf) (hgap : h.gap = s.pkg.hold.gap) (hack : h.ack = s.pkg.hold.ack)
    (hstop : h.stopped = s.pkg.hold.stopped) : s.roleKept l (s.setHold h) :=
  ⟨fun f _ _ _ => congrArg (rfGet · f) hrf, hgap, hack, hstop, rfl, rfl⟩

theorem State.roleKept_set (f : Fld) (v : Nat) : s.roleKept [f] (s.setHold (s.pkg.hold.set f v)) :=
  ⟨fun _ _ h32 ha => Hold.get_set_apart _ _ (ha f (by simp)) h32, rfl, rfl, rfl, rfl, rfl⟩

theorem State.roleKept_both (f : Pkg → Side → Side) : s.roleKept l (s.both f) :=
  ⟨fun g _ _ _ => s.both_hold_get f g, s.both_pkg_hold_gap f, s.both_pkg_hold_ack f, s.both_pkg_hold_stopped f, s.both_pkg_raw f, s.both_pending f⟩

theorem State.roleKept_holdFault (src : Nat) (f : Fld) : s.roleKept [f] (s.holdFault src f) := by
  rw [State.holdFault, State.holdFaultD]
  split
  · exact s.roleKept_refl _
  · refine State.roleKept.trans (t := { s with pkg := { s.pkg with hold := _ } }) ?_ (State.roleKept_both _ _)
    exact ⟨fun _ _ h32 ha => Hold.get_set_apart s.pkg.hold 1 (ha f (by simp)) h32, rfl, rfl, rfl, rfl, rfl⟩

/-- A fault of another register of the hold die. -/
theorem State.roleKept_holdFault_off (src : Nat) {f : Fld} (hf : f.off ≠ 0x3F00000) : s.roleKept l (s.holdFault src f) := by
  obtain ⟨hget, hrest⟩ := s.roleKept_holdFault src f
  refine ⟨fun g hg h32 _ => hget g hg h32 fun k hk => ?_, hrest⟩
  rw [List.mem_singleton.1 hk]
  exact .inl (by rw [hg]; exact Ne.symm hf)

theorem State.roleKept_updPort (n : Nat) (f : Port → Port) : s.roleKept l (s.updPort n f) := s.roleKept_setHold rfl rfl rfl rfl

theorem State.roleKept_setFlt (x : Flt) : s.roleKept l (s.setFlt x) := s.roleKept_setHold rfl rfl rfl rfl

theorem State.roleKept_putBlanks (n slots : Nat) (causes : List (Nat × Nat)) : s.roleKept l (s.putBlanks n slots causes) := by
  rw [State.putBlanks]
  split
  · exact s.roleKept_refl l
  · exact ((s.roleKept_updPort ..).trans (State.roleKept_updPort ..)).trans (State.roleKept_updPort ..)

theorem State.roleKept_train (n : Nat) : s.roleKept l (s.train n) :=
  (((((s.roleKept_updPort ..).trans (State.roleKept_updPort ..)).trans (State.roleKept_updPort ..)).trans
    (State.roleKept_putBlanks ..)).trans (State.roleKept_updPort ..)).trans (State.roleKept_both ..)

theorem State.roleKept_fltStart (causes : List Nat) : s.roleKept l (s.fltStart causes) := by
  have hflag (k : Nat) : (fltFlag k).off ≠ 0x3F00000 := by change 0x3F02000 ≠ 0x3F00000; decide
  have hset {h : Hold} (f : Fld) (v : Nat) (hf : f.off ≠ 0x3F00000) (hh : s.roleKept l (s.setHold h)) : s.roleKept l (s.setHold (h.set f v)) := by
    obtain ⟨hget, hrest⟩ := hh
    exact ⟨fun g hg h32 ha => (Hold.get_set_apart h v (.inl (by rw [hg]; exact Ne.symm hf)) h32).trans (hget g hg h32 ha), hrest⟩
  have htimes : s.roleKept l (s.setHold (s.pkg.hold.set64 F.HLD_FLT_ASSERTED_LO_TIME F.HLD_FLT_ASSERTED_HI_TIME s.pkg.now)) :=
    hset F.HLD_FLT_ASSERTED_HI_TIME _ (by decide) (hset F.HLD_FLT_ASSERTED_LO_TIME _ (by decide) (s.roleKept_setHold rfl rfl rfl rfl))
  rw [State.fltStart]
  refine .trans (.trans ?state (State.roleKept_holdFault_off _ _ (by decide))) (.foldl fun t k _ => ?cause)
  case state =>
    refine hset F.HLD_FLT_STATUS_STATE 1 (by decide) ?_
    split
    · exact hset F.HLD_FLT_COUNT_COUNT _ (by decide) htimes
    · exact htimes
  case cause =>
    split
    · exact t.roleKept_holdFault_off _ (hflag k)
    · exact t.roleKept_refl l

theorem State.roleKept_fltRefresh : s.roleKept l s.fltRefresh := by
  rw [State.fltRefresh]
  dsimp only
  split
  · exact s.roleKept_setFlt _
  · exact (s.roleKept_setFlt _).trans (State.roleKept_fltStart _ _)

end

/-! SAFE. -/

/-- The hold die as SAFE leaves it, before the ports train and the loss is reported. -/
def Hold.toSafe (h : Hold) : Hold :=
  { (h.set F.HLD_TWN_STATUS_SAFE 1).set F.HLD_TWN_STATUS_GRANTED 0 with gap := none, ack := none, copy := none, pwm := [], ssr := [] }

theorem State.enterSafe_roleKept (s : State) : (s.setHold s.pkg.hold.toSafe).roleKept [F.HLD_TWN_STATUS_DEVICE_LOST] s.enterSafe := by
  rw [State.enterSafe]
  refine .trans (.trans (.foldl fun t n _ => ?_) (State.roleKept_holdFault ..)) (State.roleKept_fltRefresh _)
  split
  · exact t.roleKept_refl _
  · exact t.roleKept_train n

/-- SAFE takes the grant, the gap and the acknowledge away. -/
theorem State.enterSafe_shown (s : State) : s.enterSafe.pkg.hold.flag F.HLD_TWN_STATUS_SAFE = true ∧ s.enterSafe.pkg.hold.granted = false ∧
    s.enterSafe.pkg.hold.gap = none ∧ s.enterSafe.pkg.hold.ack = none := by
  obtain ⟨hsafe, hgranted, -⟩ := s.enterSafe_effect
  obtain ⟨-, hgap, hack, -⟩ := s.enterSafe_roleKept
  exact ⟨hsafe, hgranted, hgap, hack⟩

/-- A field of HLD_TWN_STATUS that SAFE does not change. -/
theorem State.enterSafe_get (s : State) {f : Fld} (hoff : f.off = 0x3F00000) (h32 : f.lo + f.w ≤ 32) (hlost : F.HLD_TWN_STATUS_DEVICE_LOST.apart f)
    (hsafe : F.HLD_TWN_STATUS_SAFE.apart f) (hgranted : F.HLD_TWN_STATUS_GRANTED.apart f) :
    s.enterSafe.pkg.hold.get f = s.pkg.hold.get f := by
  refine (s.enterSafe_roleKept.1 f hoff h32 (by simpa using hlost)).trans ?_
  exact (Hold.get_set_apart _ _ hgranted h32).trans (Hold.get_set_apart _ _ hsafe h32)

/-! A fault of the hold die shows. -/

theorem State.holdFault_flag (s : State) {f : Fld} (hw : f.w = 1) (hl : f.lo < 32) : (s.holdFault 0x400 f).pkg.hold.flag f = true := by
  rw [Hold.flag, Hold.get, State.holdFault_rf _ _ (srcAbsent_hold _), rfGet_rfSet_self _ _ _ (by omega), hw]
  rfl

theorem State.holdFault_watch (s : State) (src : Nat) (f : Fld) : (s.holdFault src f).pkg.hold.watch = s.pkg.hold.watch := by
  rw [State.holdFault, State.holdFaultD]
  split
  · rfl
  · exact State.both_pkg_hold_watch _ _

theorem Hold.look_of_watch {h k : Hold} (hw : h.watch = k.watch) (x : SideId) : h.look x = k.look x := by
  rw [Hold.look, Hold.look, hw]

theorem sideIx_ne {x y : SideId} (h : x ≠ y) : sideIx x ≠ sideIx y := by
  cases x <;> cases y <;> simp_all [sideIx]

@[simp] theorem Hold.look_setWatch_ne (h : Hold) {x y : SideId} (w : Watch) (hxy : y ≠ x) : (h.setWatch x w).look y = h.look y :=
  tget_tset_ne _ _ _ (sideIx_ne hxy)

@[simp] theorem Hold.get_setWatch (h : Hold) (x : SideId) (w : Watch) (f : Fld) : (h.setWatch x w).get f = h.get f := rfl

end Sys2Proof.Machine
end

section
/-! A side is lost (R388, R389, R391, R393, R396). -/

namespace Sys2Proof.Machine

theorem exec_heartbeatDeadline (x : SideId) (k : Nat) (s : State) : exec (.heartbeatDeadline x k) s = .next ((s.advance k).deadline x) := rfl

theorem exec_resign (x : SideId) (k : Nat) (s : State) : exec (.resign x k) s = .next ((s.advance k).resign x) := rfl

theorem exec_grantAckTimeout (s : State) : exec .grantAckTimeout s = .next s.ackTimeout := rfl

/-! The declaration, in its order. -/

/-- Side x is FAILED and the copy and the comparison end. -/
def State.sideGone (s : State) (x : SideId) : State :=
  (s.setHold { s.pkg.hold.setHealth x 0 with copy := none, stopped := s.pkg.hold.stopped.filter (· ≠ x) }).both
    fun p d => (d.dropSensors p x).noCompare

section
variable {s : State} {x : SideId} {last : Nat} (hx : s.pkg.hold.health x ≠ 0)
include hx

theorem State.sideLost_of_active (ha : s.pkg.hold.active = x) (hy : s.pkg.hold.health (otherSide x) = 3) :
    s.sideLost x last = (s.sideGone x).setHold { (s.sideGone x).pkg.hold.set F.HLD_TWN_STATUS_GRANTED 0 with gap := some ⟨x, last, s.pkg.now⟩ } := by
  rw [State.sideLost, if_neg hx, if_neg (by simp [ha]), if_pos hy]
  rfl

theorem State.sideLost_of_standby (ha : s.pkg.hold.active ≠ x) (hg : s.pkg.hold.gap = none) :
    s.sideLost x last = (s.sideGone x).holdFault 0x400 F.HLD_TWN_STATUS_DEGRADED := by
  rw [State.sideLost, if_neg hx, if_pos (by simp [ha]), if_neg]
  · rfl
  · rw [State.both_pkg_hold_gap]
    cases x <;> simp [State.setHold, Hold.setHealth, Hold.set, hg]

theorem State.sideLost_of_safe
    (h : s.pkg.hold.active = x ∧ s.pkg.hold.health (otherSide x) ≠ 3 ∨ s.pkg.hold.active ≠ x ∧ s.pkg.hold.gap.isSome = true) :
    s.sideLost x last = (s.sideGone x).enterSafe := by
  rw [State.sideLost, if_neg hx]
  obtain ⟨ha, hy⟩ | ⟨ha, hg⟩ := h
  · rw [if_neg (by simp [ha]), if_neg hy]
    rfl
  · rw [if_pos (by simp [ha]), if_pos]
    · rfl
    · rw [State.both_pkg_hold_gap]
      cases x <;> simpa [State.setHold, Hold.setHealth, Hold.set] using hg

end

/-- The roles once a side is gone: its health alone has changed. -/
theorem State.sideGone_roles (s : State) (x : SideId) : (s.sideGone x).pkg.hold.health x = 0 ∧
    (s.sideGone x).pkg.hold.gap = s.pkg.hold.gap ∧ (s.sideGone x).pkg.hold.ack = s.pkg.hold.ack ∧
    ∀ f : Fld, f.lo + f.w ≤ 32 → (healthFld x).apart f → (s.sideGone x).pkg.hold.get f = s.pkg.hold.get f := by
  rw [State.sideGone, State.both_hold_health, State.both_pkg_hold_gap, State.both_pkg_hold_ack]
  refine ⟨?_, ?_, ?_, fun f h32 hf => ?_⟩
  · rw [Hold.health_eq]
    cases x
    · exact rfGet_rfSet_self _ _ _ (by decide)
    · exact rfGet_rfSet_self _ _ _ (by decide)
  · cases x <;> rfl
  · cases x <;> rfl
  · rw [State.both_hold_get]
    cases x
    · exact rfGet_rfSet_apart _ _ hf h32
    · exact rfGet_rfSet_apart _ _ hf h32

/-- The fields that a lost side changes beside its health. -/
def lossFlds : List Fld := [F.HLD_TWN_STATUS_GRANTED, F.HLD_TWN_STATUS_SAFE, F.HLD_TWN_STATUS_DEGRADED, F.HLD_TWN_STATUS_DEVICE_LOST]

/-- How a declaration ends: the gap of a failover, DEGRADED, or SAFE. -/
theorem State.sideLost_cases {s : State} {x : SideId} (last : Nat) (hx : s.pkg.hold.health x ≠ 0) :
    s.sideLost x last = (s.sideGone x).setHold { (s.sideGone x).pkg.hold.set F.HLD_TWN_STATUS_GRANTED 0 with gap := some ⟨x, last, s.pkg.now⟩ } ∨
    s.sideLost x last = (s.sideGone x).holdFault 0x400 F.HLD_TWN_STATUS_DEGRADED ∨ s.sideLost x last = (s.sideGone x).enterSafe := by
  by_cases ha : s.pkg.hold.active = x
  · by_cases hy : s.pkg.hold.health (otherSide x) = 3
    · exact .inl (State.sideLost_of_active hx ha hy)
    · exact .inr (.inr (State.sideLost_of_safe hx (.inl ⟨ha, hy⟩)))
  · cases hg : s.pkg.hold.gap with
    | none => exact .inr (.inl (State.sideLost_of_standby hx ha hg))
    | some g => exact .inr (.inr (State.sideLost_of_safe hx (.inr ⟨ha, by simp [hg]⟩)))

/-- The end of a declaration keeps every field of HLD_TWN_STATUS but those. -/
theorem State.sideLost_get {s : State} {x : SideId} {last : Nat} (hx : s.pkg.hold.health x ≠ 0) {f : Fld} (hoff : f.off = 0x3F00000)
    (h32 : f.lo + f.w ≤ 32) (hf : ∀ g ∈ lossFlds, g.apart f) : (s.sideLost x last).pkg.hold.get f = (s.sideGone x).pkg.hold.get f := by
  have hgranted : F.HLD_TWN_STATUS_GRANTED.apart f := hf _ (by simp [lossFlds])
  obtain h | h | h := State.sideLost_cases last hx
  · rw [h]
    exact Hold.get_set_apart _ _ hgranted h32
  · rw [h]
    exact (State.roleKept_holdFault _ 0x400 F.HLD_TWN_STATUS_DEGRADED).1 f hoff h32 (by simpa using hf _ (by simp [lossFlds]))
  · rw [h]
    exact State.enterSafe_get _ hoff h32 (hf _ (by simp [lossFlds])) (hf _ (by simp [lossFlds])) hgranted

theorem State.sideLost_ack {s : State} {x : SideId} {last : Nat} (hx : s.pkg.hold.health x ≠ 0) (hack : s.pkg.hold.ack = none) :
    (s.sideLost x last).pkg.hold.ack = none := by
  have hgone : (s.sideGone x).pkg.hold.ack = none := (s.sideGone_roles x).2.2.1.trans hack
  obtain h | h | h := State.sideLost_cases last hx
  · rw [h]
    exact hgone
  · rw [h]
    exact ((State.roleKept_holdFault _ 0x400 F.HLD_TWN_STATUS_DEGRADED).2.2.1).trans hgone
  · rw [h]
    exact (State.enterSafe_shown _).2.2.2

theorem lossFlds_health (x : SideId) : ∀ g ∈ lossFlds, g.apart (healthFld x) := by
  intro g hg
  simp only [lossFlds, List.mem_cons, List.not_mem_nil, or_false] at hg
  obtain rfl | rfl | rfl | rfl := hg
  all_goals cases x
  all_goals simp [Fld.apart, healthFld, F.HLD_TWN_STATUS_GRANTED, F.HLD_TWN_STATUS_SAFE, F.HLD_TWN_STATUS_DEGRADED,
    F.HLD_TWN_STATUS_DEVICE_LOST, F.HLD_TWN_STATUS_HEALTH_A, F.HLD_TWN_STATUS_HEALTH_B]

theorem healthFld_apart_other (x : SideId) : (healthFld x).apart (healthFld (otherSide x)) := by
  cases x <;> simp [Fld.apart, healthFld, otherSide, F.HLD_TWN_STATUS_HEALTH_A, F.HLD_TWN_STATUS_HEALTH_B]

theorem healthFld_apart_low (x : SideId) {f : Fld} (h : f.lo + f.w ≤ 3) : (healthFld x).apart f := by
  cases x
  · exact .inr (.inl h)
  · exact .inr (.inl (h.trans (by decide)))

theorem healthFld_apart_high (x : SideId) {f : Fld} (h : 7 ≤ f.lo) : (healthFld x).apart f := by
  cases x
  · exact .inr (.inr (le_trans (by decide) h))
  · exact .inr (.inr h)

/-- After a declaration the health of either side is what it is once side x is gone. -/
theorem State.sideLost_health {s : State} {x : SideId} {last : Nat} (hx : s.pkg.hold.health x ≠ 0) (y : SideId) :
    (s.sideLost x last).pkg.hold.health y = (s.sideGone x).pkg.hold.health y := by
  rw [Hold.health_eq, Hold.health_eq]
  exact State.sideLost_get hx (by cases y <;> rfl) (by cases y <;> decide) (lossFlds_health y)

theorem Hold.active_congr {h k : Hold} (hget : h.get F.HLD_TWN_STATUS_ACTIVE = k.get F.HLD_TWN_STATUS_ACTIVE) : h.active = k.active := by
  rw [Hold.active, Hold.active, Hold.flag, Hold.flag, hget]

theorem State.sideLost_lostTo {s : State} {x : SideId} (last : Nat) (hx : s.pkg.hold.health x ≠ 0) : s.lostTo (s.sideLost x last) x last := by
  obtain ⟨hzero, -, -, hgone⟩ := s.sideGone_roles x
  refine ⟨(State.sideLost_health hx x).trans hzero, ?other, fun ha hy => ?active, fun ha hg => ?standby, fun hsafe => ?safe⟩
  case other =>
    rw [State.sideLost_health hx, Hold.health_eq, Hold.health_eq]
    exact hgone _ (by cases x <;> decide) (healthFld_apart_other x)
  case active =>
    rw [State.sideLost_of_active hx ha hy]
    refine ⟨?_, rfl⟩
    exact congrArg (· == 1) (rfGet_rfSet_self _ F.HLD_TWN_STATUS_GRANTED 0 (by decide))
  case standby =>
    rw [State.sideLost_of_standby hx ha hg]
    have hkept := (s.sideGone x).roleKept_holdFault 0x400 F.HLD_TWN_STATUS_DEGRADED
    refine ⟨State.holdFault_flag _ rfl (by decide), ?_, Hold.active_congr ?_⟩
    · rw [Hold.granted, Hold.granted, Hold.flag, Hold.flag, hkept.1 F.HLD_TWN_STATUS_GRANTED rfl (by decide) (by simp [Fld.apart, F.HLD_TWN_STATUS_DEGRADED, F.HLD_TWN_STATUS_GRANTED]),
        hgone _ (by decide) (healthFld_apart_low x (by decide))]
    · rw [hkept.1 F.HLD_TWN_STATUS_ACTIVE rfl (by decide) (by simp [Fld.apart, F.HLD_TWN_STATUS_DEGRADED, F.HLD_TWN_STATUS_ACTIVE]),
        hgone _ (by decide) (healthFld_apart_low x (by decide))]
  case safe =>
    rw [State.sideLost_of_safe hx hsafe]
    obtain ⟨hs, hgr, hga, -⟩ := (s.sideGone x).enterSafe_shown
    exact ⟨hs, hgr, hga⟩

/-- A loss is one all the same where the roles before and after have only been kept. -/
theorem State.lostTo.of_kept {s s' t u : State} {x : SideId} {last : Nat} (h0 : s.roleKept [] s') (h : s'.lostTo t x last) (h1 : t.roleKept [] u) :
    s.lostTo u x last := by
  obtain ⟨hx, hy, hact, hstand, hsafe⟩ := h
  have health (y : SideId) : s'.pkg.hold.health y = s.pkg.hold.health y := h0.health (by simp) y
  have health' (y : SideId) : u.pkg.hold.health y = t.pkg.hold.health y := h1.health (by simp) y
  have active : s'.pkg.hold.active = s.pkg.hold.active := Hold.active_congr (h0.1 _ rfl (by decide) (by simp))
  have active' : u.pkg.hold.active = t.pkg.hold.active := Hold.active_congr (h1.1 _ rfl (by decide) (by simp))
  have granted : s'.pkg.hold.granted = s.pkg.hold.granted := h0.flag rfl (by decide) (by simp)
  have granted' : u.pkg.hold.granted = t.pkg.hold.granted := h1.flag rfl (by decide) (by simp)
  have degraded : u.pkg.hold.flag F.HLD_TWN_STATUS_DEGRADED = t.pkg.hold.flag F.HLD_TWN_STATUS_DEGRADED := h1.flag rfl (by decide) (by simp)
  have safe : u.pkg.hold.flag F.HLD_TWN_STATUS_SAFE = t.pkg.hold.flag F.HLD_TWN_STATUS_SAFE := h1.flag rfl (by decide) (by simp)
  rw [health, h0.2.1, active] at hsafe
  rw [active, h0.2.1, granted] at hstand
  rw [active, health, h0.now] at hact
  rw [health] at hy
  unfold State.lostTo
  rw [health', health', granted', active', degraded, safe, h1.2.1]
  exact ⟨hx, hy, hact, hstand, hsafe⟩

end Sys2Proof.Machine
end

section
/-! The deadlines of a side's beats (R388) and what follows a RESIGN and a grant that is not acknowledged (R389, R391). -/

namespace Sys2Proof.Machine

/-! PEER_SEEN. -/

theorem State.sendBeat_look_ne (s : State) {x y : SideId} (extra : Bool) (h : y ≠ x) : (s.sendBeat x extra).pkg.hold.look y = s.pkg.hold.look y :=
  Hold.look_setWatch_ne _ _ h

theorem State.sendBeat_seen (s : State) (x : SideId) (extra : Bool) : ((s.sendBeat x extra).pkg.hold.look x).seen = (s.pkg.hold.look x).seen :=
  (congrArg Watch.seen (Hold.look_setWatch ..) :)

theorem State.setSeen_rf (s : State) (x : SideId) (v : Bool) : (s.setSeen x v).pkg.hold.rf = s.pkg.hold.rf := by
  unfold State.setSeen
  split
  · rfl
  · dsimp only
    split
    · rfl
    · rfl

theorem State.roleKept_setSeen (s : State) (x : SideId) (v : Bool) : s.roleKept [] (s.setSeen x v) := by
  unfold State.setSeen
  split
  · exact s.roleKept_refl _
  · dsimp only
    split
    · exact (s.roleKept_setHold rfl rfl rfl rfl).trans (State.roleKept_setHold _ rfl rfl rfl rfl)
    · exact s.roleKept_setHold rfl rfl rfl rfl

theorem State.setSeen_look_ne (s : State) {x y : SideId} (v : Bool) (h : y ≠ x) : (s.setSeen x v).pkg.hold.look y = s.pkg.hold.look y := by
  unfold State.setSeen
  split
  · rfl
  · dsimp only
    split
    · exact (State.sendBeat_look_ne _ true h).trans (Hold.look_setWatch_ne _ _ h)
    · exact Hold.look_setWatch_ne _ _ h

theorem State.setSeen_seen (s : State) (x : SideId) (v : Bool) : ((s.setSeen x v).pkg.hold.look x).seen = v := by
  unfold State.setSeen
  split
  next h => exact beq_iff_eq.1 h
  next =>
    dsimp only
    split
    · exact (State.sendBeat_seen ..).trans (congrArg Watch.seen (Hold.look_setWatch ..))
    · exact congrArg Watch.seen (Hold.look_setWatch ..)

/-! The deadlines. -/

/-- Side x's deadline on path 1 has passed. -/
def State.dead1 (s : State) (x : SideId) : Bool := reached s.pkg.now ((s.pkg.hold.look x).at1 + (s.pkg.hold.look x).hb1)

/-- Its deadline on path 2 has. -/
def State.dead2 (s : State) (x : SideId) : Bool := reached s.pkg.now ((s.pkg.hold.look x).at2 + (s.pkg.hold.look x).hb2)

/-- The other side does not report on side x. -/
def State.otherQuiet (s : State) (x : SideId) : Bool := decide (s.pkg.hold.health (otherSide x) < 2) || s.dead1 (otherSide x)

/-- The other side no longer sees side x where path 2 is dead. -/
def State.unseen (s : State) (x : SideId) : State := if s.dead2 x then s.setSeen (otherSide x) false else s

/-- Path 1 of side x is faulted: COMPARE_LOST shows it of the active side, and the flag is posted. -/
def State.fault1 (s : State) (x : SideId) : State :=
  (s.setHold (s.pkg.hold.setWatch x { s.pkg.hold.look x with bad1 := true }).compareShow).holdFault 0x400 (sideFlag F.HLD_TWN_STATUS_PATH1_A x)

/-- Path 2 of side x is. -/
def State.fault2 (s : State) (x : SideId) : State :=
  (s.setHold (s.pkg.hold.setWatch x { s.pkg.hold.look x with bad2 := true })).holdFault 0x400 (sideFlag F.HLD_TWN_STATUS_PATH2_A x)

section
variable {s : State} {x : SideId}

theorem State.deadline_of_idle (h : s.pkg.hold.deep = true ∨ s.pkg.hold.health x < 2) : s.deadline x = s := by
  unfold State.deadline
  exact if_pos (by simpa using h)

theorem State.unseen_roleKept (s : State) (x : SideId) : s.roleKept [] (s.unseen x) := by
  unfold State.unseen
  split
  · exact s.roleKept_setSeen ..
  · exact s.roleKept_refl _

theorem State.unseen_look (s : State) (x : SideId) : (s.unseen x).pkg.hold.look x = s.pkg.hold.look x := by
  unfold State.unseen
  split
  · exact s.setSeen_look_ne false (otherSide_ne x).symm
  · rfl

theorem State.unseen_of_alive (h : s.dead2 x = false) : s.unseen x = s := if_neg (by simp [h])

theorem State.unseen_seen (h : s.dead2 x = true) : ((s.unseen x).pkg.hold.look (otherSide x)).seen = false := by
  rw [State.unseen, if_pos h]
  exact State.setSeen_seen ..

variable (hdeep : s.pkg.hold.deep = false) (hup : 2 ≤ s.pkg.hold.health x)
include hdeep hup

/-- A declaration of a side that is up, by the paths that are dead. -/
theorem State.deadline_eq : s.deadline x =
    if s.dead1 x && (s.dead2 x || s.otherQuiet x) then ((s.unseen x).sideLost x (s.pkg.hold.look x).at1).fltRefresh
    else if s.dead1 x && !(s.pkg.hold.look x).bad1 then (s.unseen x).fault1 x
    else if !s.dead1 x && s.dead2 x && !s.otherQuiet x && !(s.pkg.hold.look x).bad2 then (s.unseen x).fault2 x
    else s.unseen x := by
  unfold State.deadline
  have hlow : ¬s.pkg.hold.health x < 2 := by omega
  exact if_neg (by simp [hdeep, hlow])

theorem State.deadline_of_lost (h1 : s.dead1 x = true) (h2 : s.dead2 x = true ∨ s.otherQuiet x = true) :
    s.deadline x = ((s.unseen x).sideLost x (s.pkg.hold.look x).at1).fltRefresh := by
  rw [State.deadline_eq hdeep hup]
  exact if_pos (by simpa [h1] using h2)

theorem State.deadline_of_path1 (h1 : s.dead1 x = true) (h2 : s.dead2 x = false) (hq : s.otherQuiet x = false) :
    s.deadline x = if (s.pkg.hold.look x).bad1 then s else s.fault1 x := by
  rw [State.deadline_eq hdeep hup, State.unseen_of_alive h2]
  cases hb : (s.pkg.hold.look x).bad1 <;> simp [h1, h2, hq]

theorem State.deadline_of_path2 (h1 : s.dead1 x = false) (h2 : s.dead2 x = true) (hq : s.otherQuiet x = false)
    (hb : (s.pkg.hold.look x).bad2 = false) : s.deadline x = (s.unseen x).fault2 x := by
  rw [State.deadline_eq hdeep hup]
  simp [h1, h2, hq, hb]

theorem State.deadline_of_none (h1 : s.dead1 x = false) (h : s.dead2 x = false ∨ s.otherQuiet x = true ∨ (s.pkg.hold.look x).bad2 = true) :
    s.deadline x = s.unseen x := by
  rw [State.deadline_eq hdeep hup]
  obtain h | h | h := h
  · simp [h1, h]
  · simp [h1, h]
  · simp [h1, h]

theorem State.deadline_lostTo (h1 : s.dead1 x = true) (h2 : s.dead2 x = true ∨ s.otherQuiet x = true) :
    s.lostTo (s.deadline x) x (s.pkg.hold.look x).at1 := by
  rw [State.deadline_of_lost hdeep hup h1 h2]
  have hkept := s.unseen_roleKept x
  have hhealth : (s.unseen x).pkg.hold.health x ≠ 0 := by
    rw [hkept.health (by simp) x]
    omega
  exact (State.sideLost_lostTo _ hhealth).of_kept hkept (State.roleKept_fltRefresh _)

end

/-! What a faulted path leaves. -/

theorem sideFlag_health (f : Fld) (x y : SideId) (hf : 7 ≤ f.lo) : (sideFlag f x).apart (healthFld y) := by
  cases y
  · exact .inr (.inl (by change 3 + 2 ≤ f.lo + sideIx x; omega))
  · exact .inr (.inl (by change 5 + 2 ≤ f.lo + sideIx x; omega))

theorem State.fault1_shown (s : State) (x : SideId) : ((s.fault1 x).pkg.hold.look x).bad1 = true ∧
    (s.fault1 x).pkg.hold.flag (sideFlag F.HLD_TWN_STATUS_PATH1_A x) = true ∧
    (s.pkg.hold.active = x → (s.fault1 x).pkg.hold.flag F.HLD_TWN_STATUS_COMPARE_LOST = true) ∧
    ∀ y, (s.fault1 x).pkg.hold.health y = s.pkg.hold.health y := by
  rw [State.fault1]
  generalize hh : (s.pkg.hold.setWatch x { s.pkg.hold.look x with bad1 := true }) = h
  have hlook : (h.look x).bad1 = true := by
    rw [← hh, Hold.look_setWatch]
  have hkept := (s.setHold h.compareShow).roleKept_holdFault 0x400 (sideFlag F.HLD_TWN_STATUS_PATH1_A x)
  have hlo : (sideFlag F.HLD_TWN_STATUS_PATH1_A x).lo < 32 := by cases x <;> decide
  refine ⟨?_, State.holdFault_flag _ rfl hlo, fun ha => ?_, fun y => ?_⟩
  · rw [Hold.look_of_watch (State.holdFault_watch ..)]
    exact hlook
  · have hact : h.active = x := by
      rw [← hh]
      exact ha
    rw [hkept.flag (f := F.HLD_TWN_STATUS_COMPARE_LOST) rfl (by decide) (by cases x <;> simp [Fld.apart, sideFlag, sideIx, F.HLD_TWN_STATUS_PATH1_A, F.HLD_TWN_STATUS_COMPARE_LOST])]
    change (h.compareShow.get F.HLD_TWN_STATUS_COMPARE_LOST == 1) = true
    rw [Hold.compareShow, Hold.get_set_self _ _ (by decide), hact, hlook]
    rfl
  · rw [hkept.health (by simpa using fun y => sideFlag_health _ x y (by decide)) y, ← hh, Hold.health_eq, Hold.health_eq]
    exact (Hold.get_set_apart _ _ (by cases y <;> simp [Fld.apart, healthFld, F.HLD_TWN_STATUS_COMPARE_LOST, F.HLD_TWN_STATUS_HEALTH_A, F.HLD_TWN_STATUS_HEALTH_B])
      (by cases y <;> decide)).trans rfl

theorem State.fault2_shown (s : State) (x : SideId) : ((s.fault2 x).pkg.hold.look x).bad2 = true ∧
    (s.fault2 x).pkg.hold.flag (sideFlag F.HLD_TWN_STATUS_PATH2_A x) = true ∧
    ∀ y, (s.fault2 x).pkg.hold.health y = s.pkg.hold.health y := by
  rw [State.fault2]
  generalize hh : (s.pkg.hold.setWatch x { s.pkg.hold.look x with bad2 := true }) = h
  have hkept := (s.setHold h).roleKept_holdFault 0x400 (sideFlag F.HLD_TWN_STATUS_PATH2_A x)
  refine ⟨?_, State.holdFault_flag _ rfl (by cases x <;> decide), fun y => ?_⟩
  · rw [Hold.look_of_watch (State.holdFault_watch ..)]
    change (h.look x).bad2 = true
    rw [← hh, Hold.look_setWatch]
  · rw [hkept.health (by simpa using fun y => sideFlag_health _ x y (by decide)) y, ← hh]
    cases y <;> rfl

/-! RESIGN, and the grant that is not acknowledged. -/

theorem State.resign_of_dead {s : State} {x : SideId} (h : s.pkg.hold.alive x = false) : s.resign x = s := if_neg (by simp [h])

theorem State.resign_of_alive {s : State} {x : SideId} (h : s.pkg.hold.alive x = true) :
    s.resign x = ((s.holdFault 0x400 F.HLD_TWN_STATUS_RESIGN).sideLost x s.pkg.now).fltRefresh := if_pos h

theorem Hold.health_of_alive {h : Hold} {x : SideId} (ha : h.alive x = true) : 2 ≤ h.health x := by
  rw [Hold.alive, Bool.and_eq_true, decide_eq_true_eq] at ha
  exact ha.1

/-- A fault whose flag no loss reads. -/
theorem State.lostTo.of_flagged {s t u : State} {x : SideId} {last : Nat} {f : Fld} (hf : ∀ g ∈ lossFlds, f.apart g)
    (hh : ∀ y, f.apart (healthFld y)) (hact : f.apart F.HLD_TWN_STATUS_ACTIVE) (h0 : s.roleKept [f] t) (h : t.lostTo u x last) : s.lostTo u x last := by
  obtain ⟨hx, hy, hactive, hstand, hsafe⟩ := h
  have health (y : SideId) : t.pkg.hold.health y = s.pkg.hold.health y := h0.health (by simpa using hh) y
  have active : t.pkg.hold.active = s.pkg.hold.active := Hold.active_congr (h0.1 _ rfl (by decide) (by simpa using hact))
  have granted : t.pkg.hold.granted = s.pkg.hold.granted := h0.flag rfl (by decide) (by simpa using hf _ (by simp [lossFlds]))
  rw [health, h0.2.1, active] at hsafe
  rw [active, h0.2.1, granted] at hstand
  rw [active, health, h0.now] at hactive
  rw [health] at hy
  exact ⟨hx, hy, hactive, hstand, hsafe⟩

theorem State.resign_lostTo {s : State} {x : SideId} (h : s.pkg.hold.alive x = true) :
    s.lostTo (s.resign x) x s.pkg.now ∧ (s.resign x).pkg.hold.flag F.HLD_TWN_STATUS_RESIGN = true := by
  have hkept := s.roleKept_holdFault 0x400 F.HLD_TWN_STATUS_RESIGN
  have hh (y : SideId) : F.HLD_TWN_STATUS_RESIGN.apart (healthFld y) := by
    cases y <;> simp [Fld.apart, healthFld, F.HLD_TWN_STATUS_RESIGN, F.HLD_TWN_STATUS_HEALTH_A, F.HLD_TWN_STATUS_HEALTH_B]
  have hloss : ∀ g ∈ lossFlds, F.HLD_TWN_STATUS_RESIGN.apart g ∧ g.apart F.HLD_TWN_STATUS_RESIGN := by
    simp [lossFlds, Fld.apart, F.HLD_TWN_STATUS_RESIGN, F.HLD_TWN_STATUS_GRANTED, F.HLD_TWN_STATUS_SAFE, F.HLD_TWN_STATUS_DEGRADED,
      F.HLD_TWN_STATUS_DEVICE_LOST]
  have hup : (s.holdFault 0x400 F.HLD_TWN_STATUS_RESIGN).pkg.hold.health x ≠ 0 := by
    have h2 := Hold.health_of_alive h
    rw [hkept.health (by simpa using hh) x]
    omega
  have hlost := State.sideLost_lostTo s.pkg.now hup
  rw [State.resign_of_alive h]
  refine ⟨((hlost.of_kept (State.roleKept_refl _ _) (State.roleKept_fltRefresh _)).of_flagged (fun g hg => (hloss g hg).1) hh (by simp [Fld.apart, F.HLD_TWN_STATUS_RESIGN, F.HLD_TWN_STATUS_ACTIVE]) hkept), ?_⟩
  have hgone := (State.sideGone_roles (s.holdFault 0x400 F.HLD_TWN_STATUS_RESIGN) x).2.2.2 F.HLD_TWN_STATUS_RESIGN (by decide)
    (healthFld_apart_high x (by decide))
  rw [(State.roleKept_fltRefresh _).flag (l := []) rfl (by decide) (by simp), Hold.flag,
    State.sideLost_get hup rfl (by decide) fun g hg => (hloss g hg).2, hgone]
  exact State.holdFault_flag s (f := F.HLD_TWN_STATUS_RESIGN) rfl (by decide)

theorem State.ackTimeout_of_none {s : State} (h : s.pkg.hold.ack = none) : s.ackTimeout = s := by
  rw [State.ackTimeout, h]

theorem State.ackTimeout_lostTo {s : State} {x : SideId} (h : s.pkg.hold.ack = some x) (hx : s.pkg.hold.health x ≠ 0) :
    s.lostTo s.ackTimeout x s.pkg.now ∧ s.ackTimeout.pkg.hold.ack = none := by
  have hx' : (s.setHold { s.pkg.hold with ack := none }).pkg.hold.health x ≠ 0 := by
    cases x <;> exact hx
  have heq : s.ackTimeout = ((s.setHold { s.pkg.hold with ack := none }).sideLost x s.pkg.now).fltRefresh := by
    rw [State.ackTimeout, h]
  rw [heq]
  refine ⟨?_, (State.roleKept_fltRefresh (l := []) _).2.2.1.trans (State.sideLost_ack hx' rfl)⟩
  have hlost := (State.sideLost_lostTo s.pkg.now hx').of_kept (State.roleKept_refl _ _) (State.roleKept_fltRefresh _)
  cases x <;> exact hlost

end Sys2Proof.Machine

namespace Sys2Proof.Proofs

open Sys2Proof Sys2Proof.Machine

/-- Settles O45: the deadlines by the paths that are dead, and RESIGN and the missing acknowledge by the loss that they declare. -/
theorem sidesAreLost : Obligations.SidesAreLost := by
  unfold Obligations.SidesAreLost
  rintro k s x p w v rfl rfl rfl
  refine ⟨fun hidle => ⟨_, exec_heartbeatDeadline x k s, ?idle⟩, fun hdeep hup d1 d2 quiet hd1 hd2 hq => ?up,
    fun halive => ⟨_, exec_resign x k s, State.resign_lostTo halive⟩, fun hdead => ⟨_, exec_resign x k s, State.resign_of_dead hdead⟩,
    fun hack hx => ⟨_, exec_grantAckTimeout s, State.ackTimeout_lostTo hack hx⟩, fun hnone => ?none⟩
  case idle =>
    rw [State.deadline_of_idle (by simpa using hidle)]
    simp
  case none => rw [exec_grantAckTimeout, State.ackTimeout_of_none hnone]
  case up =>
    rw [← State.advance_pkg] at hdeep hup hd1 hd2 hq ⊢
    have hrun := exec_heartbeatDeadline x k s
    generalize s.advance k = S at *
    have hkept := (S.unseen_roleKept x).health (by simp)
    refine ⟨fun h1 h2 => ⟨_, hrun, ?lost⟩, fun h1 h2 h3 => ⟨fun hb => ⟨_, hrun, ?path1⟩, fun hb => ⟨_, hrun, ?same⟩⟩,
      fun h1 h2 h3 hb => ⟨_, hrun, ?path2⟩, fun h1 h2 => ⟨_, hrun, ?seen⟩⟩
    case lost => exact State.deadline_lostTo hdeep hup (hd1.symm.trans h1) (h2.imp hd2.symm.trans hq.symm.trans)
    case path1 =>
      rw [State.deadline_of_path1 hdeep hup (hd1.symm.trans h1) (hd2.symm.trans h2) (hq.symm.trans h3), if_neg (by simp [hb])]
      exact S.fault1_shown x
    case same => rw [State.deadline_of_path1 hdeep hup (hd1.symm.trans h1) (hd2.symm.trans h2) (hq.symm.trans h3), if_pos hb]
    case path2 =>
      rw [State.deadline_of_path2 hdeep hup (hd1.symm.trans h1) (hd2.symm.trans h2) (hq.symm.trans h3) hb]
      obtain ⟨hbad, hflag, hhealth⟩ := (S.unseen x).fault2_shown x
      exact ⟨hbad, hflag, fun y => (hhealth y).trans (hkept y)⟩
    case seen =>
      rw [State.deadline_of_none hdeep hup (hd1.symm.trans h1) (h2.imp hd2.symm.trans (Or.imp_left hq.symm.trans))]
      exact ⟨fun h => State.unseen_seen (hd2.symm.trans h), hkept⟩

end Sys2Proof.Proofs
end

section
/-! Beats leave and arrive (R387, R391): a beat touches the account of its own side and what that side's peer sees. -/

namespace Sys2Proof.Machine

theorem exec_heartbeat (k : Nat) (s : State) : exec (.heartbeat k) s = .next (s.advance k).heartbeat := rfl

theorem exec_heartbeatReceived_one (x : SideId) (ok : Bool) (k : Nat) (s : State) :
    exec (.heartbeatReceived x 1 ok k) s = .next ((s.advance k).beat1 x ok) := rfl

theorem exec_heartbeatReceived_two (x : SideId) (ok : Bool) (k : Nat) (s : State) :
    exec (.heartbeatReceived x 2 ok k) s = .next ((s.advance k).beat2 x ok) := rfl

/-! The beats that leave. -/

/-- The turn of side x at an instant of beats. -/
def State.beatTurn (s : State) (x : SideId) : State := if s.pkg.hold.running x then s.sendBeat x false else s

theorem State.heartbeat_of_off {s : State} (h : s.pkg.now % 1000 ≠ 0) : s.heartbeat = s := if_pos h

theorem State.heartbeat_of_due {s : State} (h : s.pkg.now % 1000 = 0) : s.heartbeat = (s.beatTurn .a).beatTurn .b := if_neg (by simp [h])

/-- What a side's beats keep of the package. -/
theorem State.beatTurn_frame (s : State) (y x : SideId) : (s.beatTurn y).side x = s.side x ∧ (s.beatTurn y).pkg.hold.rf = s.pkg.hold.rf ∧
    (s.beatTurn y).pkg.suppressed x = s.pkg.suppressed x ∧ (s.beatTurn y).pkg.hold.running x = s.pkg.hold.running x := by
  unfold State.beatTurn
  split
  · exact ⟨by cases x <;> rfl, rfl, rfl, rfl⟩
  · exact ⟨rfl, rfl, rfl, rfl⟩

theorem State.beatTurn_look_ne (s : State) {x y : SideId} (h : x ≠ y) : (s.beatTurn y).pkg.hold.look x = s.pkg.hold.look x := by
  unfold State.beatTurn
  split
  · exact s.sendBeat_look_ne false h
  · rfl

/-- From s to t side x has had its turn. -/
def State.beatSent (x : SideId) (s t : State) : Prop :=
  (s.pkg.hold.running x = true → (t.pkg.hold.look x).seq = (s.mkBeat x).seq ∧
    (t.pkg.hold.look x).out1 = (if s.pkg.suppressed x 1 then (s.pkg.hold.look x).out1 else (s.pkg.hold.look x).out1 ++ [s.mkBeat x]) ∧
    (t.pkg.hold.look x).out2 = (if s.pkg.suppressed x 2 then (s.pkg.hold.look x).out2 else (s.pkg.hold.look x).out2 ++ [s.mkBeat x])) ∧
  (s.pkg.hold.running x = false → t.pkg.hold.look x = s.pkg.hold.look x)

theorem State.beatTurn_sent (s : State) (x : SideId) : s.beatSent x (s.beatTurn x) := by
  refine ⟨fun h => ?_, fun h => ?_⟩
  · rw [State.beatTurn, if_pos h, State.sendBeat]
    change _ ∧ ((s.pkg.hold.setWatch x _).look x).out1 = _ ∧ ((s.pkg.hold.setWatch x _).look x).out2 = _
    rw [Hold.look_setWatch]
    exact ⟨congrArg Watch.seq (Hold.look_setWatch ..), rfl, by rw [Bool.false_or]⟩
  · rw [State.beatTurn, if_neg (by simp [h])]

theorem State.heartbeat_sent {s : State} (h : s.pkg.now % 1000 = 0) (x : SideId) : s.beatSent x s.heartbeat := by
  rw [State.heartbeat_of_due h]
  cases x with
  | a =>
    have hlook : ((s.beatTurn .a).beatTurn .b).pkg.hold.look .a = (s.beatTurn .a).pkg.hold.look .a := State.beatTurn_look_ne _ (by decide)
    rw [State.beatSent, hlook]
    exact s.beatTurn_sent .a
  | b =>
    have hlook : (s.beatTurn .a).pkg.hold.look .b = s.pkg.hold.look .b := s.beatTurn_look_ne (by decide)
    obtain ⟨hside, hrf, hsup, hrun⟩ := s.beatTurn_frame .a .b
    have hbeat : (s.beatTurn .a).mkBeat .b = s.mkBeat .b := by
      unfold State.mkBeat
      dsimp only
      rw [hlook, hside, Hold.active, Hold.active, Hold.flag, Hold.flag, Hold.get, Hold.get, hrf, Hold.health_eq, Hold.health_eq, Hold.get, Hold.get, hrf]
    have hsent := (s.beatTurn .a).beatTurn_sent .b
    rw [State.beatSent, hlook, hsup, hrun, hbeat] at hsent
    exact hsent

theorem State.heartbeat_frame {s : State} (h : s.pkg.now % 1000 = 0) (x : SideId) :
    s.heartbeat.side x = s.side x ∧ s.heartbeat.pkg.hold.rf = s.pkg.hold.rf := by
  rw [State.heartbeat_of_due h]
  obtain ⟨ha, hrfa, -⟩ := s.beatTurn_frame .a x
  obtain ⟨hb, hrfb, -⟩ := (s.beatTurn .a).beatTurn_frame .b x
  exact ⟨hb.trans ha, hrfb.trans hrfa⟩

/-! The comparison of signatures keeps the accounts of the beats. -/

/-- From s to t the sides' accounts of beats and the acknowledge that is waited for stay. -/
def State.beatsKept (s t : State) : Prop := t.pkg.hold.watch = s.pkg.hold.watch ∧ t.pkg.hold.ack = s.pkg.hold.ack

section
variable {s t u : State}

theorem State.beatsKept.trans (h : s.beatsKept t) (h' : t.beatsKept u) : s.beatsKept u := ⟨h'.1.trans h.1, h'.2.trans h.2⟩

theorem State.beatsKept_refl (s : State) : s.beatsKept s := ⟨rfl, rfl⟩

theorem State.beatsKept_both (s : State) (f : Pkg → Side → Side) : s.beatsKept (s.both f) :=
  ⟨s.both_pkg_hold_watch f, s.both_pkg_hold_ack f⟩

theorem State.beatsKept_setHold (s : State) {h : Hold} (hw : h.watch = s.pkg.hold.watch) (ha : h.ack = s.pkg.hold.ack) :
    s.beatsKept (s.setHold h) := ⟨hw, ha⟩

theorem State.beatsKept_setHealth (s : State) {h : Hold} (x : SideId) (v : Nat) (hw : h.watch = s.pkg.hold.watch) (ha : h.ack = s.pkg.hold.ack) :
    s.beatsKept (s.setHold (h.setHealth x v)) := by
  cases x
  · exact ⟨hw, ha⟩
  · exact ⟨hw, ha⟩

theorem State.beatsKept_holdFault (s : State) (src : Nat) (f : Fld) : s.beatsKept (s.holdFault src f) :=
  ⟨s.holdFault_watch src f, (s.roleKept_holdFault src f).2.2.1⟩

theorem State.beatsKept_match3 (s : State) : s.beatsKept s.match3 := by
  unfold State.match3
  dsimp only
  split
  · exact s.beatsKept_refl
  · split
    · exact s.beatsKept_both _
    · exact ((s.beatsKept_both _).trans (State.beatsKept_both _ _)).trans (State.beatsKept_setHealth _ _ _ rfl rfl)

theorem State.beatsKept_startCopy (s : State) : s.beatsKept s.startCopy := by
  unfold State.startCopy
  exact .trans (s.beatsKept_setHold rfl rfl) (State.beatsKept_both _ _)

theorem State.beatsKept_mismatch (s : State) (m : Nat) : s.beatsKept (s.mismatch m) := by
  unfold State.mismatch
  have hshow := (s.beatsKept_setHealth (h := s.pkg.hold.set64 F.HLD_CMP_TICK_LO_TICK F.HLD_CMP_TICK_HI_TICK m) s.pkg.hold.standby 2 rfl rfl).trans
    (State.beatsKept_holdFault _ 0x400 F.HLD_TWN_STATUS_MISMATCH)
  refine State.beatsKept.trans ?_ (State.beatsKept_startCopy _)
  split
  · exact hshow.trans (State.beatsKept_both _ _)
  · exact hshow

theorem State.beatsKept_compareSigs (s : State) : s.beatsKept s.compareSigs := by
  unfold State.compareSigs
  dsimp only
  split
  · split
    · exact s.beatsKept_refl
    · split
      · refine .trans ?_ (State.beatsKept_match3 _)
        exact s.beatsKept_setHold rfl rfl
      · refine .trans ?_ (State.beatsKept_mismatch _ _)
        exact s.beatsKept_setHold rfl rfl
  · exact s.beatsKept_refl

end

/-! The beats that arrive. -/

section
variable {s : State} {x : SideId} {b : Beat} {rest : List Beat} {ok : Bool}

theorem State.beat1_of_none (h : (s.pkg.hold.look x).out1 = []) : s.beat1 x ok = s := by
  rw [State.beat1, h]

theorem State.beat2_of_none (h : (s.pkg.hold.look x).out2 = []) : s.beat2 x ok = s := by
  rw [State.beat2, h]

theorem State.beat1_of_dropped (h : (s.pkg.hold.look x).out1 = b :: rest)
    (hbad : ok = false ∨ s.pkg.hold.health x < 2 ∨ b.seq ≤ (s.pkg.hold.look x).last1.getD 0) :
    s.beat1 x ok = s.setHold (s.pkg.hold.setWatch x { s.pkg.hold.look x with out1 := rest }) := by
  rw [State.beat1, h]
  refine if_neg fun hok => ?_
  simp only [Bool.and_eq_true, decide_eq_true_eq] at hok
  obtain ⟨⟨hk, hup⟩, hseq⟩ := hok
  obtain hbad | hbad | hbad := hbad
  · simp [hk] at hbad
  · omega
  · omega

theorem State.beat2_of_dropped (h : (s.pkg.hold.look x).out2 = b :: rest)
    (hbad : ok = false ∨ s.pkg.hold.health x < 2 ∨ b.seq ≤ (s.pkg.hold.look x).last2.getD 0) :
    s.beat2 x ok = s.setHold (s.pkg.hold.setWatch x { s.pkg.hold.look x with out2 := rest }) := by
  rw [State.beat2, h]
  refine if_neg fun hok => ?_
  simp only [Bool.and_eq_true, decide_eq_true_eq] at hok
  obtain ⟨⟨hk, hup⟩, hseq⟩ := hok
  obtain hbad | hbad | hbad := hbad
  · simp [hk] at hbad
  · omega
  · omega

/-- The account of side x once the beat b counts on path 1. -/
def State.heard1 (s : State) (x : SideId) (b : Beat) (rest : List Beat) : Watch :=
  { s.pkg.hold.look x with out1 := rest, last1 := some b.seq, at1 := s.pkg.now, hb1 := hbNs s.pkg.hold, bad1 := false, sig := b.sig }

/-- And on path 2. -/
def State.heard2 (s : State) (x : SideId) (b : Beat) (rest : List Beat) : Watch :=
  { s.pkg.hold.look x with out2 := rest, last2 := some b.seq, at2 := s.pkg.now, hb2 := hbNs s.pkg.hold, bad2 := false }

theorem State.beat1_of_valid (h : (s.pkg.hold.look x).out1 = b :: rest) (hk : ok = true) (hup : 2 ≤ s.pkg.hold.health x)
    (hseq : (s.pkg.hold.look x).last1.getD 0 < b.seq) :
    (s.beat1 x ok).pkg.hold.look x = s.heard1 x b rest ∧ (s.beat1 x ok).pkg.hold.look (otherSide x) = s.pkg.hold.look (otherSide x) ∧
    (s.beat1 x ok).pkg.hold.ack = if s.pkg.hold.ack = some x then none else s.pkg.hold.ack := by
  have heq : s.beat1 x ok = (s.setHold { (s.pkg.hold.setWatch x (s.heard1 x b rest)).compareShow with
      ack := if s.pkg.hold.ack = some x then none else s.pkg.hold.ack }).compareSigs := by
    rw [State.beat1, h]
    exact if_pos (by simp [hk, hup, hseq])
  obtain ⟨hwatch, hack⟩ := (s.setHold { (s.pkg.hold.setWatch x (s.heard1 x b rest)).compareShow with
    ack := if s.pkg.hold.ack = some x then none else s.pkg.hold.ack }).beatsKept_compareSigs
  rw [heq]
  refine ⟨?_, ?_, hack⟩
  · exact (Hold.look_of_watch hwatch x).trans (Hold.look_setWatch ..)
  · exact (Hold.look_of_watch hwatch _).trans (Hold.look_setWatch_ne _ _ (otherSide_ne x))

theorem State.beat2_of_valid (h : (s.pkg.hold.look x).out2 = b :: rest) (hk : ok = true) (hup : 2 ≤ s.pkg.hold.health x)
    (hseq : (s.pkg.hold.look x).last2.getD 0 < b.seq) :
    (s.beat2 x ok).pkg.hold.look x = s.heard2 x b rest ∧ ((s.beat2 x ok).pkg.hold.look (otherSide x)).seen = true ∧
    (s.beat2 x ok).pkg.hold.rf = s.pkg.hold.rf := by
  have heq : s.beat2 x ok = (s.setHold (s.pkg.hold.setWatch x (s.heard2 x b rest))).setSeen (otherSide x) true := by
    rw [State.beat2, h]
    exact if_pos (by simp [hk, hup, hseq])
  rw [heq]
  refine ⟨?_, State.setSeen_seen .., State.setSeen_rf ..⟩
  exact (State.setSeen_look_ne _ _ (otherSide_ne x).symm).trans (Hold.look_setWatch ..)

end

end Sys2Proof.Machine

namespace Sys2Proof.Proofs

open Sys2Proof Sys2Proof.Machine

/-- Settles O46: each side's turn at an instant of beats, and the oldest beat of a path by whether it counts. -/
theorem beatsLeaveAndArrive : Obligations.BeatsLeaveAndArrive := by
  unfold Obligations.BeatsLeaveAndArrive
  rintro k s S x w rfl rfl
  refine ⟨fun h => ⟨_, exec_heartbeat k s, State.heartbeat_of_off h⟩, fun h b hb => ⟨_, exec_heartbeat k s, ?sent⟩,
    fun b rest ok hout => ⟨fun hok hup hseq => ⟨_, exec_heartbeatReceived_one x ok k s, State.beat1_of_valid hout hok hup hseq⟩,
      fun hbad => ⟨_, exec_heartbeatReceived_one x ok k s, congrArg (·.pkg.hold) (State.beat1_of_dropped hout hbad)⟩⟩,
    fun b rest ok hout => ⟨fun hok hup hseq => ⟨_, exec_heartbeatReceived_two x ok k s, State.beat2_of_valid hout hok hup hseq⟩,
      fun hbad => ⟨_, exec_heartbeatReceived_two x ok k s, congrArg (·.pkg.hold) (State.beat2_of_dropped hout hbad)⟩⟩,
    fun hout ok => ⟨_, exec_heartbeatReceived_one x ok k s, State.beat1_of_none hout⟩,
    fun hout ok => ⟨_, exec_heartbeatReceived_two x ok k s, State.beat2_of_none hout⟩⟩
  case sent =>
    obtain ⟨hside, hrf⟩ := State.heartbeat_frame h x
    obtain ⟨hrun, hoff⟩ := State.heartbeat_sent h x
    rw [hb]
    exact ⟨hside, hrf, hrun, hoff⟩

end Sys2Proof.Proofs
end

section
/-! A side begins its boot (R386, R501, R506): what the load keeps of the die, and the roles that it leaves. -/

namespace Sys2Proof.Machine

/-- From d to e the die's memories, its streams and what its submission rings hold stay. -/
def Side.bootKept (d e : Side) : Prop := e.dram = d.dram ∧ e.sram = d.sram ∧ e.str = d.str ∧ e.hif.sq = d.hif.sq

section
variable {d e g : Side}

theorem Side.bootKept_refl (d : Side) : d.bootKept d := ⟨rfl, rfl, rfl, rfl⟩

theorem Side.bootKept.trans (h : d.bootKept e) (h' : e.bootKept g) : d.bootKept g := by
  obtain ⟨h1, h2, h3, h4⟩ := h
  obtain ⟨g1, g2, g3, g4⟩ := h'
  exact ⟨g1.trans h1, g2.trans h2, g3.trans h3, g4.trans h4⟩

/-- Registers change alone. -/
theorem Side.bootKept_rf (d : Side) (rf : Tab Word) : d.bootKept { d with rf := rf } := ⟨rfl, rfl, rfl, rfl⟩

theorem Side.bootKept.foldl {α : Type} {f : Side → α → Side} (hf : ∀ (d : Side) a, d.bootKept (f d a)) (l : List α) (d : Side) :
    d.bootKept (l.foldl f d) :=
  List.foldlRecOn l f (motive := d.bootKept) d.bootKept_refl fun e he a _ => he.trans (hf e a)

theorem Side.bootKept_faultD (d : Side) (p : Pkg) (src : Nat) (f : Fld) (x y : Nat) : d.bootKept (d.faultD p src f x y) := by
  refine ⟨d.faultD_dram p src f x y, d.faultD_sram p src f x y, d.faultD_str p src f x y, ?_⟩
  unfold Side.faultD
  split
  · rfl
  · exact Side.routePost_hif_sq ..

theorem Side.bootKept_faultIf (d : Side) (p : Pkg) (c : Bool) (src : Nat) (f : Fld) : d.bootKept (d.faultIf p c src f) := by
  unfold Side.faultIf
  split
  · exact d.bootKept_faultD ..
  · exact d.bootKept_refl

theorem Side.bootKept_set (d : Side) (f : Fld) (v : Nat) : d.bootKept (d.set f v) := ⟨rfl, rfl, rfl, rfl⟩

theorem Side.bootKept_identity (d : Side) (p : Pkg) (fw : FwPick) (ld : CfgLoad) : d.bootKept (d.identity p fw ld) := by
  simp [Side.bootKept, Side.identity, Side.linkFields]

theorem Side.bootKept_bootTick (d : Side) : d.bootKept d.bootTick := (d.bootKept_set ..).trans (Side.bootKept_set ..)

theorem Side.bootKept_bootJars (d : Side) : d.bootKept d.bootJars := by
  refine .foldl (fun d j => ?_) _ d
  split
  · exact ⟨rfl, rfl, rfl, rfl⟩
  · exact d.bootKept_refl

theorem Side.bootKept_bootFlags (d : Side) (p : Pkg) (fw : FwPick) (ld : CfgLoad) (po : Bool) : d.bootKept (d.bootFlags p fw ld po) := by
  unfold Side.bootFlags
  extract_lets d1 d2 d3 d4
  have h2 : d.bootKept d2 := (d.bootKept_faultIf ..).trans (Side.bootKept_faultIf ..)
  have h3 : d2.bootKept d3 := by
    unfold d3
    split
    · exact d2.bootKept_faultD ..
    · exact d2.bootKept_refl
  exact ((h2.trans h3).trans (d3.bootKept_faultIf ..)).trans (d4.bootKept_faultIf ..)

theorem Side.bootKept_load (d : Side) (p : Pkg) (fw : FwPick) (ld : CfgLoad) (po : Bool) : d.bootKept (d.load p fw ld po) := by
  unfold Side.load
  extract_lets side d0 d1 d2 d3
  have h1 : d.bootKept d1 := (d.bootKept_identity p fw ld).trans (d0.bootKept_rf _)
  have h2 : d1.bootKept d2 := (d1.bootKept_bootTick.trans (Side.bootKept_bootJars _)).trans (Side.bootKept_bootFlags _ p fw ld po)
  have h3 : d.bootKept d3 := (h1.trans h2).trans (d2.bootKept_set ..)
  exact h3.trans ⟨rfl, rfl, rfl, rfl⟩

theorem Side.bootKept_sensDrop (d : Side) (x : SideId) : d.bootKept (d.sensDrop x) := by
  unfold Side.sensDrop
  refine .foldl (fun d i => ?_) _ d
  exact ⟨rfl, rfl, rfl, rfl⟩

end

/-! The health that a boot gives. -/

theorem Hold.get_setHealth_apart (h : Hold) (x : SideId) (v : Nat) {f : Fld} (hf : (healthFld x).apart f) (h32 : f.lo + f.w ≤ 32) :
    (h.setHealth x v).get f = h.get f := by
  cases x
  · exact Hold.get_set_apart _ _ hf h32
  · exact Hold.get_set_apart _ _ hf h32

theorem Hold.health_setHealth (h : Hold) (x : SideId) {v : Nat} (hv : v < 4) : (h.setHealth x v).health x = v := by
  have hself (f : Fld) (hw : f.w = 2) (hlo : f.lo + f.w ≤ 32) : rfGet (rfSet h.rf f v) f = v := by
    rw [rfGet_rfSet_self _ _ _ hlo, hw]
    exact Nat.mod_eq_of_lt hv
  cases x
  · exact hself F.HLD_TWN_STATUS_HEALTH_A rfl (by decide)
  · exact hself F.HLD_TWN_STATUS_HEALTH_B rfl (by decide)

theorem Hold.health_setHealth_other (h : Hold) (x : SideId) (v : Nat) : (h.setHealth x v).health (otherSide x) = h.health (otherSide x) := by
  rw [Hold.health_eq, Hold.health_eq]
  exact h.get_setHealth_apart x v (healthFld_apart_other x) (by cases x <;> decide)

/-- The hold die once side x has begun a boot: its account of beats starts anew, and its health is BOOTING, or FAILED where no slot
verifies. -/
def Pkg.bootHold (p : Pkg) (x : SideId) (revived : Bool) : Hold :=
  (p.hold.setWatch x ((p.hold.look x).fresh p.now revived)).setHealth x (if p.fwPick.isSome then 1 else 0)

theorem State.beginBoot_pkg (s : State) (x : SideId) (base : Side) (po revived : Bool) :
    (s.beginBoot x base po revived).pkg = { s.pkg with hold := s.pkg.bootHold x revived } ∧ (s.beginBoot x base po revived).pending = s.pending := by
  unfold State.beginBoot Pkg.bootHold
  dsimp only
  split
  next h =>
    rw [h]
    cases x <;> exact ⟨rfl, rfl⟩
  next fw h =>
    rw [h]
    cases x <;> exact ⟨rfl, rfl⟩

theorem State.beginBoot_self (s : State) (x : SideId) (base : Side) (po revived : Bool) :
    base.bootKept ((s.beginBoot x base po revived).side x) := by
  unfold State.beginBoot
  dsimp only
  split
  next =>
    rw [State.side_setSide]
    exact ⟨rfl, rfl, rfl, rfl⟩
  next fw _ =>
    have hload := base.bootKept_load s.pkg fw s.pkg.cfgLoad po
    cases x <;> exact hload

theorem State.beginBoot_other (s : State) (x : SideId) (base : Side) (po revived : Bool) :
    (s.side (otherSide x)).bootKept ((s.beginBoot x base po revived).side (otherSide x)) := by
  unfold State.beginBoot
  dsimp only
  split
  next =>
    rw [State.side_setSide_other, State.setHold_side]
    exact Side.bootKept_refl _
  next =>
    rw [State.side_setSide, State.side_setSide_other, State.setHold_side]
    exact Side.bootKept_sensDrop _ x

end Sys2Proof.Machine
end

section
/-! PEEK, REVIVE and the dwell guards (R397, R405, R408). -/

namespace Sys2Proof.Machine

/-! PEEK. -/

theorem exec_peek {s : State} (h : s.accepts true 0xD00008 4) : exec .peek s = .next s.peek :=
  congrArg Host.Outcome.next (State.accepts_asWrite h _)

/-- The result of a PEEK on a side. -/
def Side.peeked (bad : Bool) (v : Nat) (d : Side) : Side :=
  (((d.set F.TWN_PEEK_STATUS_ERR (b2n bad)).set F.TWN_PEEK_DATA_DATA v).inc F.TWN_PEEK_STATUS_SEQ 1).set F.TWN_PEEK_STATUS_VALID 1

theorem Side.peeked_shown (bad : Bool) (v : Nat) (d : Side) : (d.peeked bad v).get F.TWN_PEEK_DATA_DATA = v % 2 ^ 32 ∧
    (d.peeked bad v).get F.TWN_PEEK_STATUS_ERR = b2n bad ∧
    (d.peeked bad v).get F.TWN_PEEK_STATUS_SEQ = (d.get F.TWN_PEEK_STATUS_SEQ + 1) % 2 ^ 8 ∧ (d.peeked bad v).get F.TWN_PEEK_STATUS_VALID = 1 := by
  have hbad : b2n bad % 2 = b2n bad := by cases bad <;> rfl
  simp (disch := simp only [Fld.apart, F.TWN_PEEK_STATUS_ERR, F.TWN_PEEK_DATA_DATA, F.TWN_PEEK_STATUS_SEQ, F.TWN_PEEK_STATUS_VALID] <;> omega)
    only [Side.peeked, Side.inc, Side.get_set_self, Side.get_set_apart]
  exact ⟨rfl, hbad, rfl, rfl⟩

theorem Side.secDenied_get (d : Side) (p : Pkg) {g : Fld} (hg : offPost g.off) (hcount : g.off ≠ F.SEC_DENIED_COUNT.off)
    (hstat : g.off ≠ F.SEC_STATUS_DENIED.off) : (d.secDenied p).get g = d.get g := by
  rw [Side.secDenied, Side.fault_get _ p 0x280 F.SEC_STATUS_DENIED g (by decide) hg hstat]
  exact d.get_set_off _ hcount

/-- The read of a register that the key guard covers counts as denied. -/
def State.peekGuarded (s : State) (bad : Bool) (o : Nat) : State := if !bad && s.guarded o then s.both fun p d => d.secDenied p else s

theorem State.peekGuarded_side {s : State} {x : SideId} (hx : s.pkg.hold.running x = true) (bad : Bool) (o : Nat) :
    (s.peekGuarded bad o).pkg.hold.running x = true ∧
    ((s.peekGuarded bad o).side x).get F.TWN_PEEK_STATUS_SEQ = (s.side x).get F.TWN_PEEK_STATUS_SEQ := by
  unfold State.peekGuarded
  split
  · refine ⟨(s.both_running _ x).trans hx, ?_⟩
    rw [State.both_get, hx, Side.ranIf_true]
    exact Side.secDenied_get _ _ (by simp [offPost, F.TWN_PEEK_STATUS_SEQ]) (by decide) (by decide)
  · exact ⟨hx, rfl⟩

theorem State.peek_shown {s : State} {x : SideId} (hx : s.pkg.hold.running x = true) {o : Nat} {bad : Bool}
    (ho : o = 4 * s.actSide.get F.TWN_PEEK_ADDR_WORD) (hbad : bad = (decide (s.pkg.hold.health s.pkg.hold.standby < 2) || decide (0x13FFFFC < o))) :
    (s.peek.side x).get F.TWN_PEEK_DATA_DATA = (if bad then 0 else s.regView s.pkg.hold.standby o) % 2 ^ 32 ∧
    (s.peek.side x).get F.TWN_PEEK_STATUS_ERR = b2n bad ∧
    (s.peek.side x).get F.TWN_PEEK_STATUS_SEQ = ((s.side x).get F.TWN_PEEK_STATUS_SEQ + 1) % 2 ^ 8 ∧ (s.peek.side x).get F.TWN_PEEK_STATUS_VALID = 1 := by
  have hpeek : s.peek = (s.peekGuarded bad o).both fun _ d => d.peeked bad (if bad then 0 else s.regView s.pkg.hold.standby o) := by
    rw [hbad, ho]
    rfl
  obtain ⟨hx', hseq⟩ := State.peekGuarded_side hx bad o
  rw [hpeek, State.both_get, State.both_get, State.both_get, State.both_get, hx', Side.ranIf_true, ← hseq]
  exact Side.peeked_shown ..

/-! REVIVE. -/

theorem exec_revive {s : State} {x : SideId} (hup : s.pkg.hold.up = true) (h : s.accepts true 0x3F00008 (2 ^ sideIx x)) :
    exec (.revive x) s = .next (s.revive x) :=
  (if_pos hup).trans (congrArg Host.Outcome.next (State.accepts_asWrite h _))

/-- A REVIVE that is refused, or whose boot has failed, with its reason. -/
def State.reviveFailed (s : State) (r : Nat) : State :=
  (s.setHold (s.pkg.hold.set F.HLD_TWN_STATUS_REVIVE_REASON r)).holdFault 0x400 F.HLD_TWN_STATUS_REVIVE_FAIL

theorem State.reviveFailed_shown (s : State) {r : Nat} (hr : r < 4) : (s.reviveFailed r).pkg.hold.get F.HLD_TWN_STATUS_REVIVE_REASON = r ∧
    (s.reviveFailed r).pkg.hold.flag F.HLD_TWN_STATUS_REVIVE_FAIL = true ∧ ∀ y, (s.reviveFailed r).pkg.hold.health y = s.pkg.hold.health y := by
  have hkept := (s.setHold (s.pkg.hold.set F.HLD_TWN_STATUS_REVIVE_REASON r)).roleKept_holdFault 0x400 F.HLD_TWN_STATUS_REVIVE_FAIL
  have hset := s.roleKept_set F.HLD_TWN_STATUS_REVIVE_REASON r
  refine ⟨?_, State.holdFault_flag _ rfl (by decide), fun y => ?_⟩
  · refine (hkept.1 F.HLD_TWN_STATUS_REVIVE_REASON rfl (by decide) (by simp [Fld.apart, F.HLD_TWN_STATUS_REVIVE_REASON, F.HLD_TWN_STATUS_REVIVE_FAIL])).trans ?_
    exact (Hold.get_set_self _ _ (by decide)).trans (Nat.mod_eq_of_lt hr)
  · have hfail : ∀ z, F.HLD_TWN_STATUS_REVIVE_FAIL.apart (healthFld z) := by
      intro z
      cases z <;> simp [Fld.apart, healthFld, F.HLD_TWN_STATUS_REVIVE_FAIL, F.HLD_TWN_STATUS_HEALTH_A, F.HLD_TWN_STATUS_HEALTH_B]
    have hreason : ∀ z, F.HLD_TWN_STATUS_REVIVE_REASON.apart (healthFld z) := by
      intro z
      cases z <;> simp [Fld.apart, healthFld, F.HLD_TWN_STATUS_REVIVE_REASON, F.HLD_TWN_STATUS_HEALTH_A, F.HLD_TWN_STATUS_HEALTH_B]
    exact (hkept.health (by simpa using hfail) y).trans (hset.health (by simpa using hreason) y)

/-- A side that a REVIVE lets boot. -/
def State.released (s : State) (x : SideId) : State :=
  (s.setHold { s.pkg.hold with stopped := s.pkg.hold.stopped.filter (· ≠ x) }).beginBoot x (s.side x).warmBase false true

section
variable {s : State} {x : SideId}

theorem State.revive_of_up (h : s.pkg.hold.health x ≠ 0) : s.revive x = s.reviveFailed 1 := if_pos h

theorem State.revive_of_dark (h : s.pkg.hold.health x = 0) (hpow : (s.pkg.hold.look x).lostPower = true) : s.revive x = s.reviveFailed 2 :=
  (if_neg (by simp [h])).trans (if_pos hpow)

theorem State.revive_of_failed (h : s.pkg.hold.health x = 0) (hpow : (s.pkg.hold.look x).lostPower = false) :
    s.revive x = if (s.released x).pkg.hold.health x = 0 then (s.released x).reviveFailed 3 else s.released x :=
  (if_neg (by simp [h])).trans (if_neg (by simp [hpow]))

theorem State.released_hold (s : State) (x : SideId) : (s.released x).pkg.hold =
    { s.pkg with hold := { s.pkg.hold with stopped := s.pkg.hold.stopped.filter (· ≠ x) } : Pkg }.bootHold x true :=
  congrArg Pkg.hold (State.beginBoot_pkg _ x _ false true).1

theorem State.released_health (s : State) (x : SideId) : (s.released x).pkg.hold.health x = if s.pkg.fwPick.isSome then 1 else 0 := by
  rw [State.released_hold, Pkg.bootHold, Hold.health_setHealth _ _ (by split <;> decide)]
  rfl

theorem State.released_roles (s : State) (x : SideId) : (s.released x).pkg.hold.stopped.contains x = false ∧
    (s.released x).pkg.hold.granted = s.pkg.hold.granted ∧ (s.released x).pkg.hold.active = s.pkg.hold.active := by
  have hget (f : Fld) (hf : f.lo + f.w ≤ 3) : (s.released x).pkg.hold.get f = s.pkg.hold.get f := by
    rw [State.released_hold, Pkg.bootHold, Hold.get_setHealth_apart _ _ _ (healthFld_apart_low x hf) (by omega)]
    rfl
  refine ⟨?_, ?_, Hold.active_congr (hget _ (by decide))⟩
  · rw [State.released_hold, Pkg.bootHold]
    have hmem : (s.pkg.hold.stopped.filter (· ≠ x)).contains x = false := by simp
    cases x <;> exact hmem
  · rw [Hold.granted, Hold.granted, Hold.flag, Hold.flag, hget _ (by decide)]

end

/-! The dwell guards. -/

theorem exec_dwellCut {s : State} {n : Nat} (h : s.portOk n = true) (k : Nat) :
    exec (.dwellCut n k) s = .next (((s.advance k).runPort n).dwellCut n) := if_pos h

theorem State.holdFaultD_rf (s : State) {src : Nat} (g : Fld) (v : Nat) (hsrc : srcAbsent s.pkg.fuses.is7708 src = false) :
    (s.holdFaultD src g v).pkg.hold.rf = rfSet s.pkg.hold.rf g 1 := by
  rw [State.holdFaultD, if_neg (by rw [hsrc]; decide), State.both_pkg_hold_rf]
  rfl

@[simp] theorem State.holdFaultD_unhanded (s : State) (src : Nat) (f : Fld) (v n : Nat) :
    ((s.holdFaultD src f v).pkg.hold.port n).unhanded = (s.pkg.hold.port n).unhanded := by
  rw [State.holdFaultD]
  split
  · rfl
  · exact State.both_unhanded _ _ n

/-! The emergency pair's causes start and are judged in registers of their own, from 0x3F02000. -/

theorem State.holdFault_get_off (s : State) (src : Nat) {f g : Fld} (h : f.off ≠ g.off) : (s.holdFault src g).pkg.hold.get f = s.pkg.hold.get f := by
  rw [State.holdFault, State.holdFaultD]
  split
  · rfl
  · exact (State.both_hold_get _ _ f).trans (rfGet_rfSet_off _ _ _ _ h)

theorem State.fltStart_get (s : State) (causes : List Nat) {f : Fld} (hf : f.off < 0x3F02000) : (s.fltStart causes).pkg.hold.get f = s.pkg.hold.get f := by
  have hne (g : Fld) (hg : 0x3F02000 ≤ g.off) : f.off ≠ g.off := by omega
  have hset (h : Hold) (g : Fld) (v : Nat) (hg : 0x3F02000 ≤ g.off) : (h.set g v).get f = h.get f := rfGet_rfSet_off _ _ _ _ (hne g hg)
  rw [State.fltStart]
  refine List.foldlRecOn (List.range 8) _ (motive := fun t : State => t.pkg.hold.get f = s.pkg.hold.get f) ?first fun t ht k _ => ?next
  case first =>
    rw [State.holdFault_get_off _ _ (hne _ (by decide))]
    refine (hset _ _ _ (by decide)).trans ?_
    have htimes : (s.pkg.hold.set64 F.HLD_FLT_ASSERTED_LO_TIME F.HLD_FLT_ASSERTED_HI_TIME s.pkg.now).get f = s.pkg.hold.get f :=
      (hset _ _ _ (by decide)).trans (hset _ _ _ (by decide))
    split
    · exact (hset _ _ _ (by decide)).trans htimes
    · exact htimes
  case next =>
    split
    · exact (t.holdFault_get_off _ (hne (fltFlag k) (by change 0x3F02000 ≤ 0x3F02000; decide))).trans ht
    · exact ht

theorem State.fltRefresh_get (s : State) {f : Fld} (hf : f.off < 0x3F02000) : s.fltRefresh.pkg.hold.get f = s.pkg.hold.get f := by
  rw [State.fltRefresh]
  dsimp only
  split
  · rfl
  · exact State.fltStart_get _ _ hf

theorem State.fltAgain_port (s : State) (key n : Nat) : (s.fltAgain key).pkg.hold.port n = s.pkg.hold.port n := rfl

/-- The hold die's registers once the beams of a mask are cut, before the fault. -/
def State.cutHold (s : State) (n c : Nat) : Hold :=
  (((s.updPort n fun x => { x with cut := c }).sendBlank n c 0).pkg.hold.dwellShow n).inc (F.HLD_DWELL_CUTS_COUNT n) 1

theorem State.sendBlank_hold_rf (s : State) (n mask cause : Nat) : (s.sendBlank n mask cause).pkg.hold.rf = s.pkg.hold.rf := by
  rw [State.sendBlank, State.putBlanks]
  split
  · rfl
  · rfl

theorem State.sendBlank_cut (s : State) (n mask cause : Nat) : ((s.sendBlank n mask cause).pkg.hold.port n).cut = (s.pkg.hold.port n).cut := by
  rw [State.sendBlank_port]
  change ((s.putBlanks n 4 _).pkg.hold.port n).cut = _
  exact Port.cut_of_unframed (s.putBlanks_unframed n 4 _)

theorem State.cutHold_cut (s : State) (n c : Nat) : ((s.cutHold n c).port n).cut = c := by
  refine (State.sendBlank_cut (s.updPort n fun x => { x with cut := c }) n c 0).trans ?_
  rw [State.updPort_port]

/-- A cut is counted. -/
theorem State.cutHold_count (s : State) (n c : Nat) :
    (s.cutHold n c).get (F.HLD_DWELL_CUTS_COUNT n) = (s.pkg.hold.get (F.HLD_DWELL_CUTS_COUNT n) + 1) % 2 ^ 32 := by
  rw [State.cutHold]
  generalize hx : (s.updPort n fun x => { x with cut := c }).sendBlank n c 0 = x
  have hrf : x.pkg.hold.rf = s.pkg.hold.rf := by
    rw [← hx]
    exact State.sendBlank_hold_rf _ n c 0
  have hshow : (x.pkg.hold.dwellShow n).get (F.HLD_DWELL_CUTS_COUNT n) = s.pkg.hold.get (F.HLD_DWELL_CUTS_COUNT n) := by
    refine (rfGet_rfSet_off _ _ _ _ (by change 0x3F0100C + 0x10 * n ≠ 0x3F01004 + 0x10 * n; omega)).trans
      ((rfGet_rfSet_off _ _ _ _ (by change 0x3F0100C + 0x10 * n ≠ 0x3F01008 + 0x10 * n; omega)).trans ?_)
    exact congrArg (rfGet · _) hrf
  rw [Hold.inc, Hold.get_set_self _ _ (by change 0 + 32 ≤ 32; decide), hshow]
  rfl

section
variable {s : State} {n : Nat}

theorem State.dwellCut_of_none (h : s.pkg.hold.flag (F.HLD_DWELL_CFG_EN n) = false ∨ s.dwellDue n = 0) : s.dwellCut n = s := by
  unfold State.dwellCut
  exact if_pos (by simpa using h)

/-- A guard that cuts. -/
theorem State.dwellCut_of_due (hen : s.pkg.hold.flag (F.HLD_DWELL_CFG_EN n) = true) (hm : s.dwellDue n ≠ 0) :
    s.dwellCut n = ((((s.setHold (s.cutHold n (Nat.lor (s.pkg.hold.port n).cut (s.dwellDue n)))).holdFaultD (0x410 + n) (F.HLD_DWELL_STATUS_CUT_SEEN n)
      (Nat.lor (s.pkg.hold.port n).cut (s.dwellDue n))).mirror n).fltAgain 6).fltRefresh := by
  unfold State.dwellCut
  exact if_neg (by simp [hen, hm])

theorem State.dwellCut_shown (hn : n < 16) (hsrc : srcAbsent s.pkg.fuses.is7708 (0x410 + n) = false) (hen : s.pkg.hold.flag (F.HLD_DWELL_CFG_EN n) = true)
    (hm : s.dwellDue n ≠ 0) :
    ((s.dwellCut n).pkg.hold.port n).cut = Nat.lor (s.pkg.hold.port n).cut (s.dwellDue n) ∧
    (s.dwellCut n).pkg.hold.flag (F.HLD_DWELL_STATUS_CUT_SEEN n) = true ∧
    (s.dwellCut n).pkg.hold.get (F.HLD_DWELL_CUTS_COUNT n) = (s.pkg.hold.get (F.HLD_DWELL_CUTS_COUNT n) + 1) % 2 ^ 32 := by
  rw [State.dwellCut_of_due hen hm]
  generalize hc : Nat.lor (s.pkg.hold.port n).cut (s.dwellDue n) = c
  generalize hT : (s.setHold (s.cutHold n c)).holdFaultD (0x410 + n) (F.HLD_DWELL_STATUS_CUT_SEEN n) c = T
  have hrf : T.pkg.hold.rf = rfSet (s.cutHold n c).rf (F.HLD_DWELL_STATUS_CUT_SEEN n) 1 := by
    rw [← hT]
    exact State.holdFaultD_rf _ _ _ hsrc
  have hget (f : Fld) (hf : f.off < 0x3F02000) : ((T.mirror n).fltAgain 6).fltRefresh.pkg.hold.get f = rfGet T.pkg.hold.rf f := by
    rw [State.fltRefresh_get _ hf]
    exact T.both_hold_get _ f
  refine ⟨?cut, ?seen, ?count⟩
  case cut =>
    have hport : ((((T.mirror n).fltAgain 6).fltRefresh.pkg.hold.port n).unhanded) = ((s.cutHold n c).port n).unhanded := by
      rw [State.fltRefresh_unhanded, State.fltAgain_port, State.mirror_unhanded, ← hT, State.holdFaultD_unhanded]
      rfl
    exact (Port.cut_of_unhanded hport).trans (s.cutHold_cut n c)
  case seen =>
    rw [Hold.flag, hget _ (by change 0x3F01004 + 0x10 * n < _; omega), hrf, rfGet_rfSet_self _ _ _ (by change 8 + 1 ≤ 32; decide)]
    rfl
  case count =>
    rw [hget _ (by change 0x3F0100C + 0x10 * n < _; omega), hrf,
      rfGet_rfSet_off _ _ _ _ (by change 0x3F0100C + 0x10 * n ≠ 0x3F01004 + 0x10 * n; omega)]
    exact s.cutHold_count n c

end

theorem srcAbsent_dwell {s : State} {n : Nat} (h : s.portOk n = true) : n < 16 ∧ srcAbsent s.pkg.fuses.is7708 (0x410 + n) = false := by
  rw [State.portOk, decide_eq_true_eq] at h
  refine ⟨h.trans_le s.pkg.beams_le, ?_⟩
  unfold Pkg.beams at h
  cases hpart : s.pkg.fuses.is7708
  · rfl
  · rw [hpart, if_pos rfl] at h
    simp only [srcAbsent, Bool.true_and, Bool.or_eq_false_iff, Bool.and_eq_false_iff, decide_eq_false_iff_not]
    omega

end Sys2Proof.Machine

namespace Sys2Proof.Proofs

open Sys2Proof Sys2Proof.Machine

/-- Settles O48: PEEK by what a side shows, REVIVE by the boot that it starts, DWELL_CUT by the beams that are due. -/
theorem peeksRevivesAndDwellCuts : Obligations.PeeksRevivesAndDwellCuts := by
  unfold Obligations.PeeksRevivesAndDwellCuts
  intro s x
  refine ⟨fun hacc hx y o bad hy ho hbad => ⟨_, exec_peek hacc, ?peek⟩, fun hup hacc => ⟨fun r hr => ⟨_, exec_revive hup hacc, ?refused⟩,
    fun hfail hpow => ⟨_, exec_revive hup hacc, ?boots, ?failed⟩⟩, ?dwell⟩
  case peek =>
    rw [hy] at hbad ⊢
    exact State.peek_shown hx ho hbad
  case refused =>
    obtain ⟨hhealth, rfl⟩ | ⟨hhealth, hpow, rfl⟩ := hr
    · obtain ⟨hreason, hflag, hkept⟩ := s.reviveFailed_shown (r := 1) (by decide)
      rw [State.revive_of_up hhealth]
      exact ⟨hreason, hflag, hkept x⟩
    · obtain ⟨hreason, hflag, hkept⟩ := s.reviveFailed_shown (r := 2) (by decide)
      rw [State.revive_of_dark hhealth hpow]
      exact ⟨hreason, hflag, hkept x⟩
  case boots =>
    intro hfw
    have hhealth : (s.released x).pkg.hold.health x = 1 := by rw [State.released_health, if_pos hfw]
    rw [State.revive_of_failed hfail hpow, if_neg (by simp [hhealth])]
    obtain ⟨hstop, hgranted, hactive⟩ := s.released_roles x
    obtain ⟨hdram, hsram, hstr, hsq⟩ := State.beginBoot_self _ x (s.side x).warmBase false true
    exact ⟨hhealth, hstop, hgranted, hactive, hdram, hsram, hstr, hsq⟩
  case failed =>
    intro hfw
    have hhealth : (s.released x).pkg.hold.health x = 0 := by simp [State.released_health, hfw]
    rw [State.revive_of_failed hfail hpow, if_pos hhealth]
    obtain ⟨hreason, hflag, hkept⟩ := (s.released x).reviveFailed_shown (r := 3) (by decide)
    exact ⟨(hkept x).trans hhealth, hreason, hflag⟩
  case dwell =>
    intro n k S hn hS m hm
    have hrun : exec (.dwellCut n k) s = .next (S.dwellCut n) := by rw [hS, exec_dwellCut hn k]
    have hfuses : S.pkg.fuses = s.pkg.fuses := by rw [hS, State.runPort, State.updPort_fuses, State.advance_pkg, Pkg.advance_fuses]
    obtain ⟨h16, hsrc⟩ := srcAbsent_dwell hn
    rw [← hfuses] at hsrc
    rw [hm]
    refine ⟨fun hen hdue => ⟨_, hrun, State.dwellCut_shown h16 hsrc hen hdue⟩, fun hnone => ?_⟩
    rw [hrun, State.dwellCut_of_none hnone]

end Sys2Proof.Proofs
end

section
/-! Resets restart the boot (R386, R431, R498, R501, R508). -/

namespace Sys2Proof.Machine

/-! The configuration load leaves HLD_TWN_STATUS: none of its fields is a configuration field. -/

theorem regFind_twnStatus : (regFind 0x3F00000).map (fun e => cfgFlds e.1) = some [] := by decide

theorem cfgWord_of_none {r : RegRow} (h : cfgFlds r = []) (cur v : Nat) : cfgWord r cur v = cur := by
  rw [cfgWord, h]
  rfl

theorem cfgWord_twnStatus {r : RegRow} {ix : List Nat} (h : regFind 0x3F00000 = some (r, ix)) (cur v : Nat) : cfgWord r cur v = cur := by
  have hnone := regFind_twnStatus
  rw [h] at hnone
  exact cfgWord_of_none (Option.some_inj.1 hnone) cur v

theorem tget_map_of_fixed {α : Type} {g : Nat × α → Nat × α} {i : Nat} (hkey : ∀ e, (g e).1 = e.1) (hfix : ∀ e, e.1 = i → g e = e) (d : α) (t : Tab α) :
    tget d (t.map g) i = tget d t i := by
  induction t with
  | nil => rfl
  | cons e t ih =>
    have hcons (f : Nat × α) (u : Tab α) : tget d (f :: u) i = if i = f.1 then f.2 else tget d u i := rfl
    rw [List.map_cons, hcons, hcons, ih, hkey]
    split
    next h => rw [hfix e h.symm]
    next => rfl

theorem entryPut_twnStatus (rf : Tab Word) (e : Nat × Nat) : rfWord (entryPut rf e) 0x3F00000 = rfWord rf 0x3F00000 := by
  unfold entryPut
  split
  next => rfl
  next r ix hr =>
    by_cases he : e.1 = 0x3F00000
    · rw [he] at hr ⊢
      rw [rfWord_put_self, cfgWord_twnStatus hr]
      exact Nat.mod_eq_of_lt (rfWord_lt ..)
    · exact rfWord_put_ne rf _ (Ne.symm he)

theorem holdLoad_get (p : Pkg) (ld : CfgLoad) (rf : Tab Word) {f : Fld} (hf : f.off = 0x3F00000) : rfGet (holdLoad p ld rf) f = rfGet rf f := by
  have hback : ∀ e : Nat × Word, e.1 = 0x3F00000 → (match regFind e.1 with
      | some (r, _) => (e.1, BitVec.ofNat 32 (cfgWord r e.2.toNat (resetWord e.1)))
      | none => e) = e := by
    intro e he
    split
    next r ix hr =>
      rw [he] at hr
      rw [cfgWord_twnStatus hr, BitVec.ofNat_toNat, BitVec.setWidth_eq]
    next => rfl
  have hkeys : ∀ e : Nat × Word, (match regFind e.1 with
      | some (r, _) => (e.1, BitVec.ofNat 32 (cfgWord r e.2.toNat (resetWord e.1)))
      | none => e).1 = e.1 := by
    intro e
    split <;> rfl
  have hentries (l : List (Nat × Nat)) (t : Tab Word) : rfWord (l.foldl entryPut t) 0x3F00000 = rfWord t 0x3F00000 :=
    List.foldlRecOn l entryPut (motive := fun u => rfWord u 0x3F00000 = rfWord t 0x3F00000) rfl fun u hu e _ => (entryPut_twnStatus u e).trans hu
  rw [rfGet, rfGet, hf, holdLoad, entriesPut, hentries, rfWord, rfWord]
  exact congrArg (fun w => bits w.toNat f.lo f.w) (tget_map_of_fixed hkeys hback _ rf)

/-! Both sides begin a boot. -/

theorem State.beginBoot_get (s : State) (x : SideId) (base : Side) (po revived : Bool) {f : Fld} (hf : (healthFld x).apart f) (h32 : f.lo + f.w ≤ 32) :
    (s.beginBoot x base po revived).pkg.hold.get f = s.pkg.hold.get f := by
  rw [(s.beginBoot_pkg x base po revived).1]
  exact Hold.get_setHealth_apart _ x _ hf h32

@[simp] theorem Hold.setHealth_watch (h : Hold) (x : SideId) (v : Nat) : (h.setHealth x v).watch = h.watch := by cases x <;> rfl

@[simp] theorem Hold.setHealth_deep (h : Hold) (x : SideId) (v : Nat) : (h.setHealth x v).deep = h.deep := by cases x <;> rfl

theorem Pkg.bootHold_frame (p : Pkg) (x : SideId) (revived : Bool) : (p.bootHold x revived).deep = p.hold.deep ∧
    (p.bootHold x revived).look (otherSide x) = p.hold.look (otherSide x) := by
  unfold Pkg.bootHold
  exact ⟨Hold.setHealth_deep .., (Hold.look_of_watch (Hold.setHealth_watch ..) _).trans (Hold.look_setWatch_ne _ _ (otherSide_ne x))⟩

/-- Side A begins its boot from one kept state, and then B from the other. -/
def State.bootBoth (s : State) (da db : Side) (po : Bool) : State := (s.beginBoot .a da po false).beginBoot .b db po false

/-- What two boots leave. -/
theorem State.bootBoth_pkg (s : State) (da db : Side) (po : Bool) :
    ((s.bootBoth da db po).pkg.raw = s.pkg.raw ∧ (s.bootBoth da db po).pkg.fuses = s.pkg.fuses ∧ (s.bootBoth da db po).pkg.flash = s.pkg.flash ∧
      (s.bootBoth da db po).pkg.host = s.pkg.host ∧ (s.bootBoth da db po).pkg.dramA = s.pkg.dramA ∧ (s.bootBoth da db po).pkg.dramB = s.pkg.dramB) ∧
    (s.bootBoth da db po).pending = s.pending ∧ (s.bootBoth da db po).pkg.hold.deep = s.pkg.hold.deep ∧
    (∀ f : Fld, (∀ x, (healthFld x).apart f) → f.lo + f.w ≤ 32 → (s.bootBoth da db po).pkg.hold.get f = s.pkg.hold.get f) ∧
    ∀ x, (s.bootBoth da db po).pkg.hold.health x = if s.pkg.fwPick.isSome then 1 else 0 := by
  obtain ⟨hA, hpA⟩ := s.beginBoot_pkg .a da po false
  obtain ⟨hB, hpB⟩ := (s.beginBoot .a da po false).beginBoot_pkg .b db po false
  have hdeep : (s.bootBoth da db po).pkg.hold.deep = s.pkg.hold.deep := by
    rw [State.bootBoth, hB, hA]
    rfl
  have hfw : (s.beginBoot .a da po false).pkg.fwPick = s.pkg.fwPick := by rw [hA]; rfl
  refine ⟨?pkg, hpB.trans hpA, hdeep, fun f hf h32 => ?get, fun x => ?health⟩
  case pkg =>
    rw [State.bootBoth, hB, hA]
    exact ⟨rfl, rfl, rfl, rfl, rfl, rfl⟩
  case get => exact (State.beginBoot_get _ .b db po false (hf .b) h32).trans (s.beginBoot_get .a da po false (hf .a) h32)
  case health =>
    rw [State.bootBoth, hB, Pkg.bootHold, hfw]
    have hone : (if s.pkg.fwPick.isSome then 1 else 0) < 4 := by split <;> decide
    cases x with
    | a =>
      refine (Hold.health_setHealth_other _ .b _).trans ?_
      change (s.beginBoot .a da po false).pkg.hold.health .a = _
      rw [hA]
      exact Hold.health_setHealth _ .a hone
    | b => exact Hold.health_setHealth _ .b hone

theorem State.bootBoth_sides (s : State) (da db : Side) (po : Bool) :
    da.bootKept ((s.bootBoth da db po).side .a) ∧ db.bootKept ((s.bootBoth da db po).side .b) :=
  ⟨(s.beginBoot_self .a da po false).trans (State.beginBoot_other _ .b db po false), State.beginBoot_self _ .b db po false⟩

theorem State.bootsFailed_of_up {s : State} (h : s.pkg.hold.health .a ≠ 0) : s.bootsFailed = s := if_neg (by simp [h])

theorem State.bootsFailed_of_safe {s : State} (h : s.pkg.hold.flag F.HLD_TWN_STATUS_SAFE = true) : s.bootsFailed = s := if_neg (by simp [h])

/-- Where both boots have failed the hold die is in SAFE. -/
theorem State.bootsFailed_shown {s : State} (h : ∀ x, s.pkg.hold.health x = 0) :
    s.bootsFailed.pkg.hold.flag F.HLD_TWN_STATUS_SAFE = true ∧ ∀ x, s.bootsFailed.pkg.hold.health x = 0 := by
  cases hsafe : s.pkg.hold.flag F.HLD_TWN_STATUS_SAFE with
  | true =>
    rw [State.bootsFailed_of_safe hsafe]
    exact ⟨hsafe, h⟩
  | false =>
    rw [State.bootsFailed, if_pos (by simp [h, hsafe])]
    refine ⟨s.enterSafe_shown.1, fun x => ?_⟩
    rw [← h x, Hold.health_eq, Hold.health_eq]
    exact s.enterSafe_get (by cases x <;> rfl) (by cases x <;> decide) (lossFlds_health x _ (by simp [lossFlds]))
      (lossFlds_health x _ (by simp [lossFlds])) (lossFlds_health x _ (by simp [lossFlds]))

/-! SAFE leaves raw time, the commands that wait and the accounts of the beats. -/

section
variable (s : State)

theorem State.fltStart_watch (causes : List Nat) : (s.fltStart causes).pkg.hold.watch = s.pkg.hold.watch := by
  rw [State.fltStart]
  refine List.foldlRecOn (List.range 8) _ (motive := fun t : State => t.pkg.hold.watch = s.pkg.hold.watch) ?_ fun t ht k _ => ?_
  · rw [State.holdFault_watch]
    split <;> rfl
  · split
    · exact (t.holdFault_watch _ _).trans ht
    · exact ht

theorem State.fltRefresh_watch : s.fltRefresh.pkg.hold.watch = s.pkg.hold.watch := by
  rw [State.fltRefresh]
  dsimp only
  split
  · rfl
  · exact State.fltStart_watch _ _

theorem State.sendBlank_watch (n mask cause : Nat) : (s.sendBlank n mask cause).pkg.hold.watch = s.pkg.hold.watch := by
  rw [State.sendBlank, State.putBlanks]
  split
  · rfl
  · rfl

theorem State.train_watch (n : Nat) : (s.train n).pkg.hold.watch = s.pkg.hold.watch :=
  (State.both_pkg_hold_watch _ _).trans (State.sendBlank_watch _ n allBeams 2)

theorem State.enterSafe_watch : s.enterSafe.pkg.hold.watch = s.pkg.hold.watch := by
  rw [State.enterSafe, State.fltRefresh_watch, State.holdFault_watch]
  refine List.foldlRecOn _ _ (motive := fun t : State => t.pkg.hold.watch = s.pkg.hold.watch) rfl fun t ht n _ => ?_
  split
  · exact ht
  · exact (t.train_watch n).trans ht

theorem State.enterSafe_time : s.enterSafe.pkg.raw = s.pkg.raw ∧ s.enterSafe.pending = s.pending := by
  obtain ⟨-, -, -, -, hraw, hpending⟩ := s.enterSafe_roleKept
  exact ⟨hraw, hpending⟩

end

/-! POWER_ON_RESET. -/

/-- The package that a power-on reset starts from: everything anew but fuses, flash, host memory and fitted DRAM, and the counter one on. -/
def Pkg.anew (p : Pkg) : Pkg :=
  { fuses := { p.fuses with mono := min monoEnd (p.fuses.mono + 1) }, host := p.host, flash := p.flash, dramA := p.dramA, dramB := p.dramB, free := p.free }

/-- That state with the registers and the subsystem that a load gives. -/
def State.coldTo (s : State) (rf : Tab Word) (subsys : Nat) : State :=
  { s with pkg := { s.pkg.anew with hold := { s.pkg.anew.hold with rf := rf }, pci := { s.pkg.anew.pci with subsys := subsys } }, sideA := {}, sideB := {} }

theorem State.coldTo_pkg (s : State) (rf : Tab Word) (subsys : Nat) : (s.coldTo rf subsys).pkg.raw = 0 ∧
    (s.coldTo rf subsys).pkg.fuses = { s.pkg.fuses with mono := min monoEnd (s.pkg.fuses.mono + 1) } ∧
    (s.coldTo rf subsys).pkg.flash = s.pkg.flash ∧ (s.coldTo rf subsys).pkg.dramA = s.pkg.dramA ∧ (s.coldTo rf subsys).pkg.dramB = s.pkg.dramB ∧
    (s.coldTo rf subsys).pkg.host = s.pkg.host ∧ (s.coldTo rf subsys).pending = s.pending ∧ (s.coldTo rf subsys).pkg.fwPick = s.pkg.fwPick :=
  ⟨rfl, rfl, rfl, rfl, rfl, rfl, rfl, rfl⟩

/-- The state that the boots of a power-on reset start from. -/
def State.cold (s : State) : State :=
  s.coldTo (holdLoad s.pkg.anew s.pkg.anew.cfgLoad s.pkg.anew.hold.rf) (s.pkg.anew.subsysOf s.pkg.anew.cfgLoad)

theorem State.powerOn_eq (s : State) : s.powerOn = (s.cold.bootBoth {} {} true).bootsFailed := rfl

theorem State.cold_pkg (s : State) : s.cold.pkg.raw = 0 ∧ s.cold.pkg.fuses = { s.pkg.fuses with mono := min monoEnd (s.pkg.fuses.mono + 1) } ∧
    s.cold.pkg.flash = s.pkg.flash ∧ s.cold.pkg.dramA = s.pkg.dramA ∧ s.cold.pkg.dramB = s.pkg.dramB ∧ s.cold.pkg.host = s.pkg.host ∧
    s.cold.pending = s.pending ∧ s.cold.pkg.fwPick = s.pkg.fwPick := s.coldTo_pkg ..

/-- Boots that have failed keep the package, raw time and the commands that wait. -/
theorem State.bootsFailed_kept (s : State) : s.pkg.keeps s.bootsFailed.pkg ∧ s.bootsFailed.pkg.raw = s.pkg.raw ∧ s.bootsFailed.pending = s.pending := by
  refine ⟨s.quiet_refl.bootsFailed.1, ?_⟩
  unfold State.bootsFailed
  split
  · exact s.enterSafe_time
  · exact ⟨rfl, rfl⟩

/-! WARM_RESET and WARM. -/

/-- The hold die, which is not in DEEP, with the registers and the subsystem that a load gives. -/
def State.reloadTo (s : State) (rf : Tab Word) (subsys : Nat) : State :=
  { s with pkg := { s.pkg with
      hold := { s.pkg.hold with rf := rf, deep := false, stopped := s.pkg.hold.stopped.filter fun x => (s.pkg.hold.look x).lostPower },
      pci := { s.pkg.pci with pend := [], held := [], subsys := subsys } } }

theorem State.reloadTo_side (s : State) (rf : Tab Word) (subsys : Nat) (x : SideId) : (s.reloadTo rf subsys).side x = s.side x := by cases x <;> rfl

theorem State.reloadTo_look (s : State) (rf : Tab Word) (subsys : Nat) (x : SideId) :
    (s.reloadTo rf subsys).pkg.hold.look x = s.pkg.hold.look x := rfl

theorem State.reloadTo_pkg (s : State) (rf : Tab Word) (subsys : Nat) : (s.reloadTo rf subsys).pkg.raw = s.pkg.raw ∧
    (s.reloadTo rf subsys).pkg.fuses = s.pkg.fuses ∧ (s.reloadTo rf subsys).pkg.flash = s.pkg.flash ∧ (s.reloadTo rf subsys).pending = s.pending ∧
    (s.reloadTo rf subsys).pkg.hold.deep = false := ⟨rfl, rfl, rfl, rfl, rfl⟩

theorem State.reloadTo_get (s : State) (rf : Tab Word) (subsys : Nat) (f : Fld) : (s.reloadTo rf subsys).pkg.hold.get f = rfGet rf f := rfl

/-- The configuration is loaded into the hold die again. -/
def State.reload (s : State) : State :=
  s.reloadTo (holdLoad s.pkg s.pkg.cfgLoad s.pkg.hold.rf) (s.pkg.subsysOf s.pkg.cfgLoad)

theorem State.reload_side (s : State) (x : SideId) : s.reload.side x = s.side x := s.reloadTo_side ..

theorem State.reload_look (s : State) (x : SideId) : s.reload.pkg.hold.look x = s.pkg.hold.look x := s.reloadTo_look ..

theorem State.reload_pkg (s : State) : s.reload.pkg.raw = s.pkg.raw ∧ s.reload.pkg.fuses = s.pkg.fuses ∧ s.reload.pkg.flash = s.pkg.flash ∧
    s.reload.pending = s.pending ∧ s.reload.pkg.hold.deep = false := s.reloadTo_pkg ..

theorem State.reload_get (s : State) {f : Fld} (hf : f.off = 0x3F00000) : s.reload.pkg.hold.get f = s.pkg.hold.get f :=
  (s.reloadTo_get ..).trans (holdLoad_get _ _ _ hf)

/-- A side that has its power begins a boot from what a warm reset keeps. -/
def State.bootPowered (s : State) (x : SideId) : State :=
  if (s.pkg.hold.look x).lostPower then s.setSide x {} else s.beginBoot x (s.side x).warmBase false false

theorem State.bootPowered_of_power {s : State} {x : SideId} (h : (s.pkg.hold.look x).lostPower = false) :
    s.bootPowered x = s.beginBoot x (s.side x).warmBase false false := if_neg (by simp [h])

/-- The boots of a warm reset, both sides having their power. -/
def State.bootWarm (s : State) : State :=
  s.bootBoth (s.side .a).warmBase ((s.beginBoot .a (s.side .a).warmBase false false).side .b).warmBase false

theorem State.bootWarm_pkg (s : State) : (s.bootWarm.pkg.raw = s.pkg.raw ∧ s.bootWarm.pkg.fuses = s.pkg.fuses ∧ s.bootWarm.pkg.flash = s.pkg.flash ∧
      s.bootWarm.pkg.host = s.pkg.host ∧ s.bootWarm.pkg.dramA = s.pkg.dramA ∧ s.bootWarm.pkg.dramB = s.pkg.dramB) ∧
    s.bootWarm.pending = s.pending ∧ s.bootWarm.pkg.hold.deep = s.pkg.hold.deep ∧
    (∀ f : Fld, (∀ x, (healthFld x).apart f) → f.lo + f.w ≤ 32 → s.bootWarm.pkg.hold.get f = s.pkg.hold.get f) ∧
    ∀ x, s.bootWarm.pkg.hold.health x = if s.pkg.fwPick.isSome then 1 else 0 := s.bootBoth_pkg ..

theorem State.warm_eq (s : State) : s.warm = ((s.enterSafe.reload.bootPowered .a).bootPowered .b).bootsFailed := rfl

theorem State.bootPowered_both {s : State} (hpow : ∀ x, (s.pkg.hold.look x).lostPower = false) : (s.bootPowered .a).bootPowered .b = s.bootWarm := by
  rw [State.bootPowered_of_power (hpow .a), State.bootPowered_of_power]
  · rfl
  · rw [(State.beginBoot_pkg ..).1]
    exact (congrArg Watch.lostPower (Pkg.bootHold_frame _ .a false).2).trans (hpow .b)

theorem Pkg.fwPick_congr {p q : Pkg} (hflash : q.flash = p.flash) (hfuses : q.fuses = p.fuses) : q.fwPick = p.fwPick := by
  unfold Pkg.fwPick Pkg.fwOk
  rw [hflash, hfuses]

theorem State.bootWarm_side (s : State) (x : SideId) : (s.bootWarm.side x).dram = (s.side x).dram ∧ (s.bootWarm.side x).sram = [] ∧
    (s.bootWarm.side x).str = {} ∧ (s.bootWarm.side x).hif.sq = [] := by
  obtain ⟨hA, hB⟩ := s.bootBoth_sides (s.side .a).warmBase ((s.beginBoot .a (s.side .a).warmBase false false).side .b).warmBase false
  cases x with
  | a => exact hA
  | b =>
    obtain ⟨hdram, hsram, hstr, hsq⟩ := hB
    obtain ⟨hother, -⟩ := s.beginBoot_other .a (s.side .a).warmBase false false
    exact ⟨hdram.trans hother, hsram, hstr, hsq⟩

end Sys2Proof.Machine

namespace Sys2Proof.Proofs

open Sys2Proof Sys2Proof.Machine

/-- Settles O8: both resets by the two boots that they begin, a warm one in SAFE. -/
theorem resetsRestartTheBoot : Obligations.ResetsRestartTheBoot := by
  unfold Obligations.ResetsRestartTheBoot
  intro s
  refine ⟨⟨s.powerOn, rfl, ?cold⟩, fun hup hpow c hc => ⟨s.warm, ?run, ?warm⟩⟩
  case cold =>
    obtain ⟨craw, cfuses, cflash, cA, cB, chost, cpending, cfw⟩ := s.cold_pkg
    rw [State.powerOn_eq]
    generalize s.cold = c at *
    obtain ⟨⟨hraw, hfuses, hflash, hhost, hA, hB⟩, hpending, -, hget, hhealth⟩ := c.bootBoth_pkg {} {} true
    obtain ⟨hsa, hsb⟩ := c.bootBoth_sides {} {} true
    generalize c.bootBoth {} {} true = t at *
    obtain ⟨⟨kfuses, kflash, kA, kB, -⟩, kraw, kpending⟩ := t.bootsFailed_kept
    rw [cfw] at hhealth
    refine ⟨kraw.trans (hraw.trans craw), kfuses.trans (hfuses.trans cfuses), kflash.trans (hflash.trans cflash), kA.trans (hA.trans cA),
      kB.trans (hB.trans cB), kpending.trans (hpending.trans cpending), fun hfw => ?_, fun hfw => ?_⟩
    · have hone (x : SideId) : t.pkg.hold.health x = 1 := by rw [hhealth, if_pos hfw]
      rw [State.bootsFailed_of_up (by simp [hone])]
      refine ⟨hhost.trans chost, fun x => ⟨hone x, ?_⟩⟩
      cases x
      · exact hsa
      · exact hsb
    · exact State.bootsFailed_shown fun x => by simp [hhealth, hfw]
  case run =>
    obtain rfl | ⟨rfl, hcfg, hacc⟩ := hc
    · exact if_pos hup
    · exact (if_pos hcfg).trans (congrArg Host.Outcome.next (State.accepts_asWrite hacc _))
  case warm =>
    have hpow' (x : SideId) : (s.enterSafe.reload.pkg.hold.look x).lostPower = false := by
      rw [State.reload_look, Hold.look_of_watch s.enterSafe_watch, hpow]
    obtain ⟨hfuses, hflash, -⟩ := s.quiet_refl.enterSafe.1
    obtain ⟨hraw, hpending⟩ := s.enterSafe_time
    obtain ⟨hsafe, hgranted, hside⟩ := s.enterSafe_effect
    obtain ⟨rraw, rfuses, rflash, rpending, rdeep⟩ := s.enterSafe.reload_pkg
    have rside := s.enterSafe.reload_side
    have rget (f : Fld) := s.enterSafe.reload_get (f := f)
    rw [State.warm_eq, State.bootPowered_both hpow']
    generalize s.enterSafe.reload = r at *
    generalize s.enterSafe = v at *
    obtain ⟨⟨braw, bfuses, bflash, -⟩, bpending, bdeep, bget, bhealth⟩ := r.bootWarm_pkg
    have bside := r.bootWarm_side
    generalize r.bootWarm = t at *
    have hflag (f : Fld) (hoff : f.off = 0x3F00000) (hlo : f.lo + f.w ≤ 3) : t.pkg.hold.flag f = v.pkg.hold.flag f := by
      rw [Hold.flag, Hold.flag, bget f (fun x => healthFld_apart_low x hlo) (by omega), rget f hoff]
    have hsafe' : t.pkg.hold.flag F.HLD_TWN_STATUS_SAFE = true := (hflag _ rfl (by decide)).trans hsafe
    have hfw : r.pkg.fwPick = s.pkg.fwPick := Pkg.fwPick_congr (rflash.trans hflash) (rfuses.trans hfuses)
    rw [hfw] at bhealth
    rw [State.bootsFailed_of_safe hsafe']
    refine ⟨braw.trans (rraw.trans hraw), bfuses.trans (rfuses.trans hfuses), bflash.trans (rflash.trans hflash), bpending.trans (rpending.trans hpending),
      hsafe', (hflag _ rfl (by decide)).trans hgranted, bdeep.trans rdeep, fun x => ⟨bhealth x, ?_⟩⟩
    have hsame : (s.side x).unpost (v.side x) = s.side x := hside x
    have hdram : (v.side x).dram = (s.side x).dram := (congrArg Side.dram hsame :)
    rw [← hdram, ← rside]
    exact bside x

end Sys2Proof.Proofs
end

section
/-! Boots end (R386, R407, R501), PROCEED (R507) and FLASH_PROGRAM (R505). -/

namespace Sys2Proof.Machine

/-! What the grant at rings ready leaves of the roles. -/

section
variable {l : List Fld} (s : State)

theorem State.roleKept_portNow (n : Nat) : s.roleKept l (s.portNow n) := (s.roleKept_updPort ..).trans (State.roleKept_updPort ..)

theorem State.roleKept_sendCtrl (n op arg0 arg1 : Nat) (host : Bool) : s.roleKept l (s.sendCtrl n op arg0 arg1 host) := by
  unfold State.sendCtrl
  dsimp only
  split
  · refine .trans ?_ (State.roleKept_updPort ..)
    rw [State.sendFrame]
    split
    · exact (s.roleKept_portNow n).trans (State.roleKept_updPort ..)
    · exact s.roleKept_refl l
  · split
    · exact s.roleKept_updPort ..
    · exact s.roleKept_refl l

theorem State.roleKept_portCfg (n old : Nat) : s.roleKept l (s.portCfg n old) := by
  unfold State.portCfg
  dsimp only
  split
  · exact s.roleKept_train n
  · split
    · rw [State.portOff]
      split
      · exact s.roleKept_refl l
      · exact ((s.roleKept_portNow n).trans (State.roleKept_updPort ..)).trans (State.roleKept_both ..)
    · split
      · exact s.roleKept_sendCtrl ..
      · exact s.roleKept_refl l

theorem State.roleKept_raiseMin (x : SideId) : s.roleKept l (s.raiseMin x) := ⟨fun _ _ _ _ => rfl, rfl, rfl, rfl, rfl, rfl⟩

end

/-- The hold die with the grant at side x, before the ports and the comparison. -/
def Hold.grantedAt (h : Hold) (x : SideId) : Hold :=
  let h1 := (((h.setHealth x 3).set F.HLD_TWN_STATUS_ACTIVE (sideIx x)).set F.HLD_TWN_STATUS_GRANTED 1).set F.HLD_TWN_STATUS_SAFE 0
  { h1 with gap := none, ack := none, flt := { h1.flt with boot := false } }

theorem Hold.grantedAt_get (h : Hold) (x : SideId) : (h.grantedAt x).get (healthFld x) = 3 ∧ (h.grantedAt x).get F.HLD_TWN_STATUS_ACTIVE = sideIx x ∧
    (h.grantedAt x).get F.HLD_TWN_STATUS_GRANTED = 1 ∧ (h.grantedAt x).get F.HLD_TWN_STATUS_SAFE = 0 := by
  have hsets (f : Fld) : (h.grantedAt x).get f =
      ((((h.setHealth x 3).set F.HLD_TWN_STATUS_ACTIVE (sideIx x)).set F.HLD_TWN_STATUS_GRANTED 1).set F.HLD_TWN_STATUS_SAFE 0).get f := rfl
  have hix : sideIx x % 2 ^ 1 = sideIx x := by cases x <;> rfl
  have hset : (h.setHealth x 3).get (healthFld x) = 3 := (Hold.health_eq _ x).symm.trans (h.health_setHealth x (by decide))
  simp only [hsets]
  refine ⟨?_, ?_, ?_, ?_⟩
  · have happ (f : Fld) (hf : f = F.HLD_TWN_STATUS_ACTIVE ∨ f = F.HLD_TWN_STATUS_GRANTED ∨ f = F.HLD_TWN_STATUS_SAFE) : f.apart (healthFld x) := by
      obtain rfl | rfl | rfl := hf <;> cases x <;>
        simp [Fld.apart, healthFld, F.HLD_TWN_STATUS_ACTIVE, F.HLD_TWN_STATUS_GRANTED, F.HLD_TWN_STATUS_SAFE, F.HLD_TWN_STATUS_HEALTH_A, F.HLD_TWN_STATUS_HEALTH_B]
    have h32 : (healthFld x).lo + (healthFld x).w ≤ 32 := by cases x <;> decide
    rw [Hold.get_set_apart _ _ (happ _ (by simp)) h32, Hold.get_set_apart _ _ (happ _ (by simp)) h32, Hold.get_set_apart _ _ (happ _ (by simp)) h32, hset]
  · rw [Hold.get_set_apart _ _ (by simp [Fld.apart, F.HLD_TWN_STATUS_ACTIVE, F.HLD_TWN_STATUS_SAFE]) (by decide),
      Hold.get_set_apart _ _ (by simp [Fld.apart, F.HLD_TWN_STATUS_ACTIVE, F.HLD_TWN_STATUS_GRANTED]) (by decide), Hold.get_set_self _ _ (by decide)]
    exact hix
  · rw [Hold.get_set_apart _ _ (by simp [Fld.apart, F.HLD_TWN_STATUS_GRANTED, F.HLD_TWN_STATUS_SAFE]) (by decide), Hold.get_set_self _ _ (by decide)]
    rfl
  · rw [Hold.get_set_self _ _ (by decide)]
    rfl

theorem State.roleKept_compareShow (s : State) (h : Hold) : (s.setHold h).roleKept [F.HLD_TWN_STATUS_COMPARE_LOST] (s.setHold h.compareShow) :=
  ⟨fun _ _ h32 ha => Hold.get_set_apart _ _ (ha _ (by simp)) h32, rfl, rfl, rfl, rfl, rfl⟩

/-- The grant of a hold die whose roles are those of h. -/
def State.grantWith (s : State) (x : SideId) (h : Hold) : State :=
  let s1 := (s.setHold h.compareShow).raiseMin x
  let s2 := (List.range s1.pkg.beams).foldl (fun s n => s.portCfg n 0) s1
  let s3 := if s2.pkg.hold.health (otherSide x) = 2 then
      s2.both fun _ d => (d.set F.TWN_STATUS_COMPARING 1).set F.TWN_STATUS_MATCHES 0
    else s2
  (s3.setHold { s3.pkg.hold with cmpTick := (s3.side x).tim.count }).fltRefresh

theorem State.takeGrant_eq (s : State) (x : SideId) : s.takeGrant x = s.grantWith x (s.pkg.hold.grantedAt x) := rfl

theorem State.grantWith_roleKept (s : State) (x : SideId) (h : Hold) : (s.setHold h).roleKept [F.HLD_TWN_STATUS_COMPARE_LOST] (s.grantWith x h) := by
  unfold State.grantWith
  extract_lets s1 s2 s3
  have e1 : (s.setHold h).roleKept [F.HLD_TWN_STATUS_COMPARE_LOST] s1 := (s.roleKept_compareShow h).trans (State.roleKept_raiseMin _ x)
  have e2 : s1.roleKept [F.HLD_TWN_STATUS_COMPARE_LOST] s2 := .foldl fun t n _ => t.roleKept_portCfg n 0
  have e3 : s2.roleKept [F.HLD_TWN_STATUS_COMPARE_LOST] s3 := by
    unfold s3
    split
    · exact s2.roleKept_both _
    · exact s2.roleKept_refl _
  have e4 : s3.roleKept [F.HLD_TWN_STATUS_COMPARE_LOST] (s3.setHold { s3.pkg.hold with cmpTick := (s3.side x).tim.count }) :=
    s3.roleKept_setHold rfl rfl rfl rfl
  clear_value s3
  exact (((e1.trans e2).trans e3).trans e4).trans (State.roleKept_fltRefresh _)

theorem State.takeGrant_roleKept (s : State) (x : SideId) :
    (s.setHold (s.pkg.hold.grantedAt x)).roleKept [F.HLD_TWN_STATUS_COMPARE_LOST] (s.takeGrant x) := by
  rw [State.takeGrant_eq]
  exact s.grantWith_roleKept x _

theorem State.takeGrant_shown (s : State) (x : SideId) : (s.takeGrant x).pkg.hold.health x = 3 ∧ (s.takeGrant x).pkg.hold.granted = true ∧
    (s.takeGrant x).pkg.hold.active = x ∧ (s.takeGrant x).pkg.hold.flag F.HLD_TWN_STATUS_SAFE = false := by
  have hkept := s.takeGrant_roleKept x
  have hget (f : Fld) (hoff : f.off = 0x3F00000) (hlo : f.lo + f.w ≤ 7) : (s.takeGrant x).pkg.hold.get f = (s.pkg.hold.grantedAt x).get f :=
    hkept.1 f hoff (by omega) (by simpa [Fld.apart, F.HLD_TWN_STATUS_COMPARE_LOST] using Or.inr (Or.inl hlo))
  obtain ⟨hhealth, hactive, hgranted, hsafe⟩ := s.pkg.hold.grantedAt_get x
  refine ⟨?_, ?_, ?_, ?_⟩
  · rw [Hold.health_eq, hget _ (by cases x <;> rfl) (by cases x <;> decide), hhealth]
  · rw [Hold.granted, Hold.flag, hget _ rfl (by decide), hgranted]
    rfl
  · rw [Hold.active, Hold.flag, hget _ rfl (by decide), hactive]
    cases x <;> rfl
  · rw [Hold.flag, hget _ rfl (by decide), hsafe]
    rfl

/-! BOOT_COMPLETE and BOOT_FAIL. -/

theorem exec_bootComplete (s : State) (x : SideId) (ms : Nat) : exec (.bootComplete x ms) s = .next (s.bootComplete x ms) := rfl

theorem exec_bootFail (s : State) (x : SideId) : exec (.bootFail x) s = .next (s.bootFail x) := rfl

@[simp] theorem Hold.setHealth_stopped (h : Hold) (x : SideId) (v : Nat) : (h.setHealth x v).stopped = h.stopped := by cases x <;> rfl

/-- The hold die once side x is READY: it is STALE, and its beats are watched from now on. -/
def Pkg.readyHold (p : Pkg) (x : SideId) : Hold :=
  (p.hold.setHealth x 2).setWatch x
    { p.hold.look x with at1 := p.now, at2 := p.now, hb1 := hbNs p.hold, hb2 := hbNs p.hold, revived := false }

theorem Pkg.readyHold_roles (p : Pkg) (x : SideId) : (p.readyHold x).health x = 2 ∧ (p.readyHold x).granted = p.hold.granted ∧
    (p.readyHold x).active = p.hold.active ∧ (p.readyHold x).running (otherSide x) = p.hold.running (otherSide x) := by
  have hget (f : Fld) (hlo : f.lo + f.w ≤ 3) : (p.readyHold x).get f = p.hold.get f :=
    p.hold.get_setHealth_apart x 2 (healthFld_apart_low x hlo) (by omega)
  have hother : (p.readyHold x).health (otherSide x) = p.hold.health (otherSide x) := p.hold.health_setHealth_other x 2
  have hstop : (p.readyHold x).stopped = p.hold.stopped := Hold.setHealth_stopped ..
  have hdeep : (p.readyHold x).deep = p.hold.deep := Hold.setHealth_deep ..
  refine ⟨p.hold.health_setHealth x (by decide), ?_, Hold.active_congr (hget _ (by decide)), ?_⟩
  · rw [Hold.granted, Hold.granted, Hold.flag, Hold.flag, hget _ (by decide)]
  · rw [Hold.running, Hold.running, Hold.alive, Hold.alive, hother, hstop, hdeep]

/-- A side that is READY, before its role. -/
def State.readied (s : State) (x : SideId) (ms : Nat) : State :=
  (s.setSide x ((s.side x).ready s.pkg ms)).setHold (s.pkg.readyHold x)

/-- A side that is READY beside a granted one takes over the power state. -/
def State.rejoined (s : State) (x : SideId) (ms : Nat) : State :=
  (s.readied x ms).setSide x ((s.side (otherSide x)).joinPower ((s.readied x ms).side x))

theorem State.rejoined_hold (s : State) (x : SideId) (ms : Nat) : (s.rejoined x ms).pkg.hold = s.pkg.readyHold x := by
  rw [State.rejoined, State.setSide_pkg]
  rfl

/-- The comparison of R407 begins on every side that runs. -/
def Side.compared (d : Side) : Side := (d.set F.TWN_STATUS_COMPARING 1).set F.TWN_STATUS_MATCHES 0

theorem Side.compared_get (d : Side) : d.compared.get F.TWN_STATUS_COMPARING = 1 ∧ d.compared.get F.TWN_STATUS_MATCHES = 0 := by
  refine ⟨?_, Side.get_set_self _ _ _ (by decide)⟩
  exact (Side.get_set_apart _ _ (by simp [Fld.apart, F.TWN_STATUS_COMPARING, F.TWN_STATUS_MATCHES]) (by decide)).trans (Side.get_set_self _ _ _ (by decide))

section
variable {s : State} {x : SideId} (hboot : s.pkg.hold.health x = 1)
include hboot

section
variable (hphase : (s.side x).get F.CFG_STATUS_PHASE ≠ 1) (hrev : (s.pkg.hold.look x).revived = false)
include hphase hrev

theorem State.bootComplete_of_granted (ms : Nat) (hg : s.pkg.hold.granted = true) :
    s.bootComplete x ms = (s.rejoined x ms).both fun _ d => d.compared := by
  unfold State.bootComplete
  refine (if_neg (by simp [hboot, hphase])).trans ?_
  refine (if_pos (by simp [hg])).trans ?_
  refine (if_neg (by simp [hrev])).trans ?_
  rfl

theorem State.bootComplete_of_first (ms : Nat) (hg : s.pkg.hold.granted = false) (hgap : s.pkg.hold.gap = none)
    (hother : s.pkg.hold.health (otherSide x) ≠ 0) (hx : x = .a ∨ s.pkg.hold.health .a = 2) : s.bootComplete x ms = (s.readied x ms).takeGrant .a := by
  have hturn : (x == .a || s.pkg.hold.health (otherSide x) == 2) = true := by
    cases x with
    | a => rfl
    | b =>
      obtain hx | hx := hx
      · cases hx
      · simp [otherSide, hx]
  unfold State.bootComplete
  refine (if_neg (by simp [hboot, hphase])).trans ?_
  refine (if_neg (by simp [hg, hgap])).trans ?_
  refine (if_neg (by simp [hrev])).trans ?_
  refine (if_neg hother).trans ?_
  exact if_pos hturn

end

theorem State.bootFail_of_granted (hrev : (s.pkg.hold.look x).revived = false) (hg : s.pkg.hold.granted = true) :
    s.bootFail x = (s.setHold (s.pkg.hold.setHealth x 0)).holdFault 0x400 F.HLD_TWN_STATUS_DEGRADED := by
  unfold State.bootFail
  refine (if_neg (by simp [hboot])).trans ?_
  refine (if_neg (by simp [hrev])).trans ?_
  exact if_pos hg

end

theorem State.bootFail_shown (s : State) (x : SideId) :
    ((s.setHold (s.pkg.hold.setHealth x 0)).holdFault 0x400 F.HLD_TWN_STATUS_DEGRADED).pkg.hold.health x = 0 ∧
    ((s.setHold (s.pkg.hold.setHealth x 0)).holdFault 0x400 F.HLD_TWN_STATUS_DEGRADED).pkg.hold.flag F.HLD_TWN_STATUS_DEGRADED = true ∧
    ((s.setHold (s.pkg.hold.setHealth x 0)).holdFault 0x400 F.HLD_TWN_STATUS_DEGRADED).pkg.hold.granted = s.pkg.hold.granted ∧
    ((s.setHold (s.pkg.hold.setHealth x 0)).holdFault 0x400 F.HLD_TWN_STATUS_DEGRADED).pkg.hold.active = s.pkg.hold.active := by
  have hkept := (s.setHold (s.pkg.hold.setHealth x 0)).roleKept_holdFault 0x400 F.HLD_TWN_STATUS_DEGRADED
  have hhealth : ∀ y, F.HLD_TWN_STATUS_DEGRADED.apart (healthFld y) := fun y => lossFlds_health y _ (by simp [lossFlds])
  have hget (f : Fld) (hoff : f.off = 0x3F00000) (hlo : f.lo + f.w ≤ 3) :
      ((s.setHold (s.pkg.hold.setHealth x 0)).holdFault 0x400 F.HLD_TWN_STATUS_DEGRADED).pkg.hold.get f = s.pkg.hold.get f :=
    (hkept.1 f hoff (by omega) (by simpa [Fld.apart, F.HLD_TWN_STATUS_DEGRADED] using Or.inr (Or.inl (by omega)))).trans
      (Hold.get_setHealth_apart _ x 0 (healthFld_apart_low x hlo) (by omega))
  refine ⟨?_, State.holdFault_flag _ rfl (by decide), ?_, Hold.active_congr (hget _ rfl (by decide))⟩
  · exact (hkept.health (by simpa using hhealth) x).trans (s.pkg.hold.health_setHealth x (by decide))
  · rw [Hold.granted, Hold.granted, Hold.flag, Hold.flag, hget _ rfl (by decide)]

/-! PROCEED. -/

theorem exec_proceed {s : State} (h : s.accepts true 0x1300004 1) : exec .proceed s = .next (s.onBooting Side.proceed) :=
  congrArg Host.Outcome.next (State.accepts_asWrite h _)

theorem State.onBooting_side {s : State} {x : SideId} (h : s.pkg.hold.health x = 1) (f : Side → Side) : (s.onBooting f).side x = f (s.side x) := by
  cases x
  · exact if_pos h
  · exact if_pos h

theorem Side.proceed_of_held {d : Side} (h : d.get F.CFG_STATUS_PHASE = 1) : d.proceed = d.set F.CFG_STATUS_PHASE 0 := if_pos h

/-! FLASH_PROGRAM. -/

theorem exec_flashProgram {n : Nat} (h : n < 64) (herr : Option Nat) (ok : Bool) (s : State) :
    exec (.flashProgram n herr ok) s = .next (s.flashProg n herr ok) := if_pos h

section
variable {n : Nat} {s : State} {x : Desc}

theorem Side.flashCmd_of_success {d : Side} {p : Pkg} {herr : Option Nat} {ok : Bool} (h : d.nextHost p n 0x7C = some x)
    (hres : d.flashRes p herr ok x.bytes = ⟨stSUCCESS, 0, 0⟩) : d.flashCmd n herr ok p = d.startDone n ⟨stSUCCESS, 0, 0⟩ := by
  rw [Side.flashCmd, h]
  dsimp only
  rw [hres]
  rfl

theorem State.flashProg_of_success (hrun : s.pkg.hold.running s.pkg.hold.active = true) (h : s.actSide.nextHost s.pkg n 0x7C = some x)
    (hres : s.actSide.flashRes s.pkg none true x.bytes = ⟨stSUCCESS, 0, 0⟩) :
    s.flashProg n none true = { s.both (Side.flashCmd n none true) with
      pkg := { (s.both (Side.flashCmd n none true)).pkg with flash := s.pkg.flashAfter x.bytes true } } := by
  unfold State.flashProg
  dsimp only
  rw [h]
  dsimp only
  rw [hres]
  exact if_pos (by simp [hrun])

/-- The state with other flash has the same active side. -/
theorem State.actSide_flash (s : State) (f : Tab Byte) : ({ s with pkg := { s.pkg with flash := f } } : State).actSide = s.actSide := rfl

theorem State.flashProg_side (hrun : s.pkg.hold.running s.pkg.hold.active = true) (h : s.actSide.nextHost s.pkg n 0x7C = some x)
    (hres : s.actSide.flashRes s.pkg none true x.bytes = ⟨stSUCCESS, 0, 0⟩) :
    (({ s.both (Side.flashCmd n none true) with
      pkg := { (s.both (Side.flashCmd n none true)).pkg with flash := s.pkg.flashAfter x.bytes true } } : State).actSide.sqList n =
        startFirst (.done stSUCCESS 0 0) (s.actSide.sqList n)) ∧
    (({ s.both (Side.flashCmd n none true) with
      pkg := { (s.both (Side.flashCmd n none true)).pkg with flash := s.pkg.flashAfter x.bytes true } } : State).actSide.rf = s.actSide.rf) := by
  rw [State.actSide_flash]
  have hact : (s.both (Side.flashCmd n none true)).pkg.hold.active = s.pkg.hold.active := Hold.active_congr (State.both_hold_get ..)
  obtain ⟨l, hl⟩ := State.both_of_running hrun (Side.flashCmd n none true)
  have hcmd : Side.flashCmd n none true s.pkg (s.side s.pkg.hold.active) = s.actSide.startDone n ⟨stSUCCESS, 0, 0⟩ := Side.flashCmd_of_success h hres
  rw [State.actSide, hact, hl, hcmd]
  exact ⟨Side.sqList_startDone _ n _, rfl⟩

end

end Sys2Proof.Machine

namespace Sys2Proof.Proofs

open Sys2Proof Sys2Proof.Machine

/-- Settles O9: the ends of a boot by the roles that they leave, PROCEED by the one field it writes, FLASH_PROGRAM by its successful case. -/
theorem bootsEndAndFlashIsProgrammed : Obligations.BootsEndAndFlashIsProgrammed := by
  unfold Obligations.BootsEndAndFlashIsProgrammed
  intro s x ms n
  refine ⟨fun hboot hphase hrev => ⟨fun hg hother => ⟨_, exec_bootComplete s x ms, ?beside⟩,
      fun hg hgap hother hx => ⟨_, exec_bootComplete s x ms, ?first⟩⟩,
    fun hboot hrev hg => ⟨_, exec_bootFail s x, ?fail⟩, fun hacc hboot hphase => ⟨_, exec_proceed hacc, ?proceed⟩,
    fun hn hrun d hd hres => ⟨_, exec_flashProgram hn none true s, ?flash⟩⟩
  case beside =>
    obtain ⟨hhealth, hgranted, hactive, hrunning⟩ := s.pkg.readyHold_roles x
    rw [← s.rejoined_hold x ms] at hhealth hgranted hactive hrunning
    rw [State.bootComplete_of_granted hboot hphase hrev ms hg, State.both_hold_health, State.both_get, State.both_get, hrunning, hother, Side.ranIf_true,
      Hold.granted, Hold.flag, State.both_hold_get, ← hactive]
    exact ⟨hhealth, hgranted.trans hg, Hold.active_congr (State.both_hold_get ..), Side.compared_get _⟩
  case first =>
    rw [State.bootComplete_of_first hboot hphase hrev ms hg hgap hother hx]
    exact State.takeGrant_shown _ .a
  case fail =>
    obtain ⟨hhealth, hflag, hgranted, hactive⟩ := s.bootFail_shown x
    rw [State.bootFail_of_granted hboot hrev hg]
    exact ⟨hhealth, hflag, hgranted.trans hg, hactive⟩
  case proceed =>
    rw [State.onBooting_side hboot, Side.proceed_of_held hphase]
    exact ⟨Side.get_set_self _ _ _ (by decide), (Side.regsBut_refl _ _).set 0 rfl, rfl, rfl⟩
  case flash =>
    rw [State.flashProg_of_success hrun hd hres]
    exact ⟨rfl, State.flashProg_side hrun hd hres⟩

end Sys2Proof.Proofs
end

section
/-! The key store (R435 to R439): what its operations keep of the security block, and the commands by their outcomes. -/

namespace Sys2Proof.Machine

theorem Pkg.canPost_sec (p : Pkg) : p.canPost 0x280 := ⟨by decide, by cases h : p.fuses.is7708 <;> simp [srcAbsent]⟩

/-- A field of the security block that only its own operation changes: one of another register than SEC_STATUS, or the level, or the
lifecycle. -/
def secOwn (f : Fld) : Prop :=
  0x1000000 ≤ f.off ∧ f.off < 0x1000100 ∧ f.lo + f.w ≤ 32 ∧ (f.off = 0x1000000 → f.lo + f.w ≤ 5)

theorem secOwn.offPost {f : Fld} (h : secOwn f) : offPost f.off := by
  obtain ⟨hlo, hhi, -⟩ := h
  unfold Sys2Proof.Machine.offPost
  omega

/-- From d to e the field and what the submission rings hold stay. -/
def Side.secKept (f : Fld) (d e : Side) : Prop := e.get f = d.get f ∧ e.hif.sq = d.hif.sq

section
variable {f g : Fld} {d e u : Side}

theorem Side.secKept_refl (f : Fld) (d : Side) : d.secKept f d := ⟨rfl, rfl⟩

theorem Side.secKept.trans (h : d.secKept f e) (h' : e.secKept f u) : d.secKept f u := ⟨h'.1.trans h.1, h'.2.trans h.2⟩

theorem Side.secKept.foldl {α : Type} {k : Side → α → Side} (hk : ∀ (d : Side) a, d.secKept f (k d a)) (l : List α) (d : Side) : d.secKept f (l.foldl k d) :=
  List.foldlRecOn l k (motive := d.secKept f) (d.secKept_refl f) fun e he a _ => he.trans (hk e a)

theorem Side.secKept_set (d : Side) (v : Nat) (h : g.apart f) (h32 : f.lo + f.w ≤ 32) : d.secKept f (d.set g v) := ⟨d.get_set_apart v h h32, rfl⟩

/-- A flag or a field of SEC_STATUS that lies above the level and the lifecycle. -/
def secHigh (g : Fld) : Prop := g.off = 0x1000000 ∧ 5 ≤ g.lo

theorem secHigh.apart (hg : secHigh g) (hf : secOwn f) : g.apart f := by
  obtain ⟨hoff, hlo⟩ := hg
  obtain ⟨-, -, -, h5⟩ := hf
  by_cases h : f.off = 0x1000000
  · exact .inr (.inl ((h5 h).trans hlo))
  · exact .inl (by rw [hoff]; exact h)

theorem Side.secKept_high (d : Side) (v : Nat) (hg : secHigh g) (hf : secOwn f) : d.secKept f (d.set g v) :=
  d.secKept_set v (hg.apart hf) hf.2.2.1

theorem Side.secKept_fault (d : Side) (p : Pkg) (hg : secHigh g) (hf : secOwn f) : d.secKept f (d.fault p 0x280 g) :=
  ⟨d.fault_get_apart p.canPost_sec hf.offPost (hg.apart hf) hf.2.2.1, d.fault_hif_sq p 0x280 g⟩

theorem Side.secKept_faultIf (d : Side) (p : Pkg) (c : Bool) (hg : secHigh g) (hf : secOwn f) : d.secKept f (d.faultIf p c 0x280 g) := by
  unfold Side.faultIf
  split
  · exact d.secKept_fault p hg hf
  · exact d.secKept_refl f

theorem Side.secKept_guardRefresh (d : Side) (hf : secOwn f) : d.secKept f d.guardRefresh := by
  rcases d.guardRefresh_eq with heq | heq | heq <;> rw [heq]
  · exact d.secKept_refl f
  · exact d.secKept_high 1 ⟨rfl, by decide⟩ hf
  · exact d.secKept_high 1 ⟨rfl, by decide⟩ hf

theorem Side.secKept_obsLock (d : Side) (k : Nat) (hf : secOwn f) : d.secKept f (d.obsLock k) :=
  d.secKept_set _ (.inl (by obtain ⟨-, hhi, -⟩ := hf; change f.off ≠ 0x1000108 + 0x10 * k; omega)) hf.2.2.1

theorem Side.secKept_keyDrop (d : Side) (k : Nat) (hf : secOwn f) : d.secKept f (d.keyDrop k) := by
  obtain ⟨-, hhi, h32, -⟩ := hf
  refine ⟨?_, rfl⟩
  refine Side.get_of_word f ?_
  have hid : ((d.set64 (F.SEC_KEY_ID_LO_JOB_ID k) (F.SEC_KEY_ID_HI_JOB_ID k) 0).word f.off) = d.word f.off :=
    (rfWord_rfSet_off _ _ _ _ (by change f.off ≠ 0x1000104 + 0x10 * k; omega)).trans (rfWord_rfSet_off _ _ _ _ (by change f.off ≠ 0x1000100 + 0x10 * k; omega))
  exact (rfWord_put_ne _ _ (by change f.off ≠ 0x1000108 + 0x10 * k; omega)).trans hid

theorem Side.secKept_keysZero (d : Side) (p : Pkg) (hf : secOwn f) : d.secKept f (d.keysZero p) := by
  unfold Side.keysZero
  split
  · exact ((Side.secKept.foldl (fun e k => e.secKept_keyDrop k hf) _ d).trans (Side.secKept_fault _ p ⟨rfl, by decide⟩ hf)).trans
      (Side.secKept_guardRefresh _ hf)
  · exact d.secKept_refl f

/-- A change of the level keeps what is not in its own field. -/
theorem Side.secKept_toLevel (d : Side) (p : Pkg) (v signer : Nat) (hdebug : F.SEC_STATUS_DEBUG.apart f) (hf : secOwn f) :
    d.secKept f (d.toLevel p v signer) := by
  unfold Side.toLevel
  split
  · exact d.secKept_refl f
  · exact (((d.secKept_set v hdebug hf.2.2.1).trans (Side.secKept_high _ signer ⟨rfl, by decide⟩ hf)).trans
      (Side.secKept.foldl (fun e k => e.secKept_obsLock k hf) _ _)).trans (Side.secKept_fault _ p ⟨rfl, by decide⟩ hf)

theorem Side.sqList_of_hif {d e : Side} (h : e.hif.sq = d.hif.sq) (n : Nat) : e.sqList n = d.sqList n := by
  rw [Side.sqList, Side.sqList, h]

end

theorem secOwn_debug : secOwn F.SEC_STATUS_DEBUG := ⟨by decide, by decide, by decide, fun _ => by decide⟩
theorem secOwn_lifecycle : secOwn F.SEC_STATUS_LIFECYCLE := ⟨by decide, by decide, by decide, fun _ => by decide⟩
theorem secOwn_mono : secOwn F.SEC_MONO_COUNT := ⟨by decide, by decide, by decide, fun h => absurd h (by decide)⟩

/-! CHALLENGE. -/

theorem exec_challenge {n : Nat} (h : n < 64) (s : State) : exec (.challenge n) s = .next (s.both fun p d => d.challenge p n) := if_pos h

theorem Side.nonce_setNonce (d : Side) (v : Nat) : (d.setNonce v).nonce = v % 2 ^ 64 := d.get64_set64_self v (by decide) ⟨rfl, rfl⟩ ⟨rfl, rfl⟩

section
variable {n : Nat} {p : Pkg} {d : Side} {x : Desc}

section
variable (hx : d.nextStart n 0x60 = some x)
include hx

theorem Side.challenge_of_bad {o : Nat} (ho : firstNonZero x.bytes 4 60 = some o) : d.challenge p n = d.startDone n (badField o) := by
  unfold Side.challenge
  rw [hx]
  dsimp only
  rw [ho]

theorem Side.challenge_of_ok (hok : firstNonZero x.bytes 4 60 = none) :
    d.challenge p n = (d.setNonce (1 + Config.free p.free 0x60000 % (2 ^ 64 - 1))).startDone n
      ⟨stSUCCESS, 1 + Config.free p.free 0x60000 % (2 ^ 64 - 1), 0⟩ := by
  unfold Side.challenge
  rw [hx]
  dsimp only
  rw [hok]

end

/-! KEY_LOAD. -/

theorem exec_keyLoad (h : n < 64) (herr : Option Nat) (s : State) : exec (.keyLoad n herr) s = .next (s.both fun p d => d.keyLoad p n herr) := if_pos h

section
variable (hx : d.nextHost p n 0x61 = some x)
include hx

theorem Side.keyLoad_of_bad {o : Nat} (herr : Option Nat) (ho : keyLoadBad x.bytes = some o) : d.keyLoad p n herr = d.startDone n (badField o) := by
  unfold Side.keyLoad
  rw [hx]
  dsimp only
  rw [ho]

variable (hok : keyLoadBad x.bytes = none)
include hok

theorem Side.keyLoad_of_hostFault (a : Nat) : d.keyLoad p n (some a) = d.startDone n (hostFaultRes a) := by
  unfold Side.keyLoad
  rw [hx]
  dsimp only
  rw [hok]

theorem Side.keyLoad_of_error {r : Res} (hr : d.keyCheck p (memRead p.host (dFld x.bytes 8 8) 176) = .error r) : d.keyLoad p n none = d.startDone n r := by
  unfold Side.keyLoad
  rw [hx]
  dsimp only
  rw [hok]
  dsimp only
  rw [hr]

/-- The slot that a key of a job takes: the job's own, or the first empty one. -/
def Side.keyPlace (d : Side) (job : Nat) : Nat := (d.keySlot job).getD (((List.range 16).find? fun i => !d.keyPresent i).getD 0)

theorem Side.keyLoad_of_key {k : List Byte} {key : Nat} (hk : k = memRead p.host (dFld x.bytes 8 8) 176) (hkey : d.keyCheck p k = .ok key) :
    d.keyLoad p n none = (d.keyStore (d.keyPlace (leAt k 8 8)) key (leAt k 8 8) (leAt k 6 2)).startDone n
      ⟨stSUCCESS, leAt k 8 8, d.keyPlace (leAt k 8 8)⟩ := by
  unfold Side.keyLoad
  rw [hx]
  dsimp only
  rw [hok]
  dsimp only
  rw [← hk, hkey]
  rfl

end

end

/-! What a stored key shows. -/

theorem Side.keySlot_lt {d : Side} {job k : Nat} (h : d.keySlot job = some k) : k < 16 := List.mem_range.1 (List.mem_of_find?_eq_some h)

theorem Side.keyPlace_lt (d : Side) (job : Nat) : d.keyPlace job < 16 := by
  unfold Side.keyPlace
  cases h : d.keySlot job with
  | some k => exact Side.keySlot_lt h
  | none =>
    cases hfree : (List.range 16).find? fun i => !d.keyPresent i with
    | some i => exact List.mem_range.1 (List.mem_of_find?_eq_some hfree)
    | none => decide

theorem Side.guardRefresh_get (d : Side) {f : Fld} (h : f.off ≠ 0x1000000) : d.guardRefresh.get f = d.get f := by
  rcases d.guardRefresh_eq with heq | heq | heq <;> rw [heq]
  · exact d.get_set_off _ h
  · exact d.get_set_off _ h

@[simp] theorem Side.guardRefresh_sec (d : Side) : d.guardRefresh.sec = d.sec := by
  rcases d.guardRefresh_eq with heq | heq | heq <;> rw [heq] <;> rfl

/-- The registers of a key's slot once the key is there. -/
def Side.keyShown (slot job policy : Nat) (d : Side) : Side :=
  ((d.set64 (F.SEC_KEY_ID_LO_JOB_ID slot) (F.SEC_KEY_ID_HI_JOB_ID slot) job).set (F.SEC_KEY_STATE_PRESENT slot) 1).set (F.SEC_KEY_STATE_TELEM slot)
    (b2n (bit policy 1))

/-- The key itself beside them. -/
def Side.keyHeld (slot key policy : Nat) (d : Side) : Side :=
  { d with sec := { d.sec with keys := tset d.sec.keys slot key, deny := tset d.sec.deny slot (bit policy 0) } }

theorem Side.keyStore_eq (slot key job policy : Nat) (d : Side) :
    d.keyStore slot key job policy = (((d.keyShown slot job policy).keyHeld slot key policy).obsLock slot).guardRefresh := rfl

section
variable (slot key job policy : Nat) (d : Side)

theorem Side.keyStore_sec : (d.keyStore slot key job policy).sec =
    { d.sec with keys := tset d.sec.keys slot key, deny := tset d.sec.deny slot (bit policy 0) } := by
  rw [Side.keyStore_eq, Side.guardRefresh_sec]
  rfl

theorem Side.keyStore_hif : (d.keyStore slot key job policy).hif = d.hif := by
  rw [Side.keyStore_eq, Side.guardRefresh_hif]
  rfl

/-- A field of the slot's registers apart from the lock of OBSERVE. -/
theorem Side.keyStore_get {f : Fld} (hoff : f.off ≠ 0x1000000) (hlock : (F.SEC_KEY_STATE_OBS_LOCK slot).apart f) (h32 : f.lo + f.w ≤ 32) :
    (d.keyStore slot key job policy).get f = (d.keyShown slot job policy).get f := by
  rw [Side.keyStore_eq, Side.guardRefresh_get _ hoff]
  exact Side.get_set_apart _ _ hlock h32

theorem Side.keyStore_shown (hjob : job < 2 ^ 64) : (d.keyStore slot key job policy).keyPresent slot = true ∧
    (d.keyStore slot key job policy).keyId slot = job ∧ (d.keyStore slot key job policy).flag (F.SEC_KEY_STATE_TELEM slot) = bit policy 1 := by
  have hstat (f : Fld) (hf : f.off = 0x1000108 + 0x10 * slot) (h32 : f.lo + f.w ≤ 32) (hlo : f.lo + f.w ≤ 2 ∨ 3 ≤ f.lo) :
      (d.keyStore slot key job policy).get f = (d.keyShown slot job policy).get f :=
    d.keyStore_get slot key job policy (by omega) (.inr (hlo.imp id id)) h32
  refine ⟨?_, ?_, ?_⟩
  · rw [Side.keyPresent, Side.flag, hstat _ rfl (by change 0 + 1 ≤ 32; decide) (.inl (by change 0 + 1 ≤ 2; decide)), Side.keyShown,
      Side.get_set_apart _ _ (.inr (.inl (by change 0 + 1 ≤ 3; decide))) (by change 0 + 1 ≤ 32; decide), Side.get_set_self _ _ _ (by change 0 + 1 ≤ 32; decide)]
    rfl
  · have hword (f : Fld) (hf : f.off < 0x1000108 + 0x10 * slot) (hlo : 0x1000100 ≤ f.off) (h32 : f.lo + f.w ≤ 32) :
        (d.keyStore slot key job policy).get f = (d.set64 (F.SEC_KEY_ID_LO_JOB_ID slot) (F.SEC_KEY_ID_HI_JOB_ID slot) job).get f := by
      have hne : f.off ≠ 0x1000108 + 0x10 * slot := by omega
      rw [d.keyStore_get slot key job policy (by omega) (.inl hne) h32, Side.keyShown, Side.get_set_off _ _ hne, Side.get_set_off _ _ hne]
    have hid : (d.keyStore slot key job policy).keyId slot =
        (d.set64 (F.SEC_KEY_ID_LO_JOB_ID slot) (F.SEC_KEY_ID_HI_JOB_ID slot) job).get64 (F.SEC_KEY_ID_LO_JOB_ID slot) (F.SEC_KEY_ID_HI_JOB_ID slot) := by
      rw [Side.keyId, Side.get64, Side.get64, hword _ (by change 0x1000100 + _ < _; omega) (by change _ ≤ 0x1000100 + _; omega) (by change 0 + 32 ≤ 32; decide),
        hword _ (by change 0x1000104 + _ < _; omega) (by change _ ≤ 0x1000104 + _; omega) (by change 0 + 32 ≤ 32; decide)]
    rw [hid, Side.get64_set64_self _ _ (by change 0x1000100 + 0x10 * slot ≠ 0x1000104 + 0x10 * slot; omega) ⟨rfl, rfl⟩ ⟨rfl, rfl⟩, Nat.mod_eq_of_lt hjob]
  · rw [Side.flag, hstat _ rfl (by change 3 + 1 ≤ 32; decide) (.inr (by change 3 ≤ 3; decide)), Side.keyShown, Side.get_set_self _ _ _ (by change 3 + 1 ≤ 32; decide)]
    cases bit policy 1 <;> rfl

end

/-! KEY_REMOVE. -/

theorem exec_keyRemove {n : Nat} (h : n < 64) (s : State) : exec (.keyRemove n) s = .next (s.both fun p d => d.keyRemove p n) := if_pos h

theorem exec_keyLock {n : Nat} (h : n < 64) (s : State) : exec (.keyLock n) s = .next (s.both fun _ d => d.keyLock n) := if_pos h

section
variable {n : Nat} {p : Pkg} {d : Side} {x : Desc}

/-- A side whose key in slot k has been taken out. -/
def Side.keyGone (p : Pkg) (k : Nat) (d : Side) : Side := ((d.keyDrop k).fault p 0x280 F.SEC_STATUS_ZEROISED).guardRefresh

section
variable (hx : d.nextStart n 0x62 = some x)
include hx

theorem Side.keyRemove_of_bad {o : Nat} (ho : firstSome [firstNonZero x.bytes 4 4, firstNonZero x.bytes 16 48] = some o) :
    d.keyRemove p n = d.startDone n (badField o) := by
  unfold Side.keyRemove
  rw [hx]
  dsimp only
  rw [ho]

variable (hok : firstSome [firstNonZero x.bytes 4 4, firstNonZero x.bytes 16 48] = none)
include hok

theorem Side.keyRemove_of_none (hk : d.keySlot (dFld x.bytes 8 8) = none) : d.keyRemove p n = d.startDone n ⟨stSEC_NO_KEY, 0, 0⟩ := by
  unfold Side.keyRemove
  rw [hx]
  dsimp only
  rw [hok]
  dsimp only
  rw [hk]

theorem Side.keyRemove_of_used {k r : Nat} (hk : d.keySlot (dFld x.bytes 8 8) = some k) (hr : d.jobRec (dFld x.bytes 8 8) = some r) :
    d.keyRemove p n = d.startDone n ⟨stSEC_IN_USE, 0, r⟩ := by
  unfold Side.keyRemove
  rw [hx]
  dsimp only
  rw [hok]
  dsimp only
  rw [hk]
  dsimp only
  rw [hr]

theorem Side.keyRemove_of_free {k : Nat} (hk : d.keySlot (dFld x.bytes 8 8) = some k) (hr : d.jobRec (dFld x.bytes 8 8) = none) :
    d.keyRemove p n = (d.keyGone p k).startDone n ⟨stSUCCESS, 0, 0⟩ := by
  unfold Side.keyRemove
  rw [hx]
  dsimp only
  rw [hok]
  dsimp only
  rw [hk]
  dsimp only
  rw [hr]
  rfl

end

theorem Side.keyGone_hif (p : Pkg) (k : Nat) (d : Side) : (d.keyGone p k).hif.sq = d.hif.sq := by
  rw [Side.keyGone, Side.guardRefresh_hif, Side.fault_hif_sq]
  rfl

theorem Side.keyGone_sec (p : Pkg) (k : Nat) (d : Side) : (d.keyGone p k).sec =
    { d.sec with keys := tset d.sec.keys k 0, deny := tset d.sec.deny k false } := by
  rw [Side.keyGone, Side.guardRefresh_sec, Side.fault_sec]
  rfl

theorem Side.keyGone_shown (p : Pkg) {k : Nat} (hk : k < 16) (d : Side) :
    (d.keyGone p k).keyPresent k = false ∧ (d.keyGone p k).flag F.SEC_STATUS_ZEROISED = true := by
  have hoff : (F.SEC_KEY_STATE_PRESENT k).off = 0x1000108 + 0x10 * k := rfl
  refine ⟨?_, ?_⟩
  · rw [Side.keyPresent, Side.flag, Side.keyGone, Side.guardRefresh_get _ (by omega),
      Side.fault_get_apart _ p.canPost_sec (by simp only [offPost, hoff]; omega) (.inl (by change 0x1000108 + 0x10 * k ≠ 0x1000000; omega)) (by change 0 + 1 ≤ 32; decide)]
    have hzero : (d.keyDrop k).get (F.SEC_KEY_STATE_PRESENT k) = bits 0 0 1 :=
      Side.get_setWord (g := F.SEC_KEY_STATE_PRESENT k) _ 0 rfl (by change 0 + 1 ≤ 32; decide)
    exact congrArg (· == 1) hzero
  · have hfault : ((d.keyDrop k).fault p 0x280 F.SEC_STATUS_ZEROISED).get F.SEC_STATUS_ZEROISED = 1 :=
      Side.fault_get_self _ p.canPost_sec (by simp [offPost, F.SEC_STATUS_ZEROISED]) rfl (by decide)
    rw [Side.flag_iff, Side.keyGone]
    rcases ((d.keyDrop k).fault p 0x280 F.SEC_STATUS_ZEROISED).guardRefresh_eq with heq | heq | heq <;> rw [heq]
    · exact hfault
    · exact (Side.get_set_apart _ _ (by simp [Fld.apart, F.SEC_STATUS_GUARD, F.SEC_STATUS_ZEROISED]) (by decide)).trans hfault
    · exact (Side.get_set_apart _ _ (by simp [Fld.apart, F.SEC_STATUS_CLEARING, F.SEC_STATUS_ZEROISED]) (by decide)).trans hfault

/-! KEY_LOCK. -/

section
variable (hx : d.nextStart n 0x63 = some x)
include hx

theorem Side.keyLock_of_bad {o : Nat} (ho : firstSome [if 2 ≤ byteAt x.bytes 4 then some 4 else none, firstNonZero x.bytes 5 3, firstNonZero x.bytes 16 48] = some o) :
    d.keyLock n = d.startDone n (badField o) := by
  unfold Side.keyLock
  rw [hx]
  dsimp only
  rw [ho]

variable (hok : firstSome [if 2 ≤ byteAt x.bytes 4 then some 4 else none, firstNonZero x.bytes 5 3, firstNonZero x.bytes 16 48] = none)
include hok

theorem Side.keyLock_of_none (hk : d.keySlot (dFld x.bytes 8 8) = none) : d.keyLock n = d.startDone n ⟨stSEC_NO_KEY, 0, 0⟩ := by
  unfold Side.keyLock
  rw [hx]
  dsimp only
  rw [hok]
  dsimp only
  rw [hk]

theorem Side.keyLock_of_key {k : Nat} (hk : d.keySlot (dFld x.bytes 8 8) = some k) :
    d.keyLock n = (d.set (F.SEC_KEY_STATE_HOST_LOCK k) (byteAt x.bytes 4)).startDone n ⟨stSUCCESS, 0, 0⟩ := by
  unfold Side.keyLock
  rw [hx]
  dsimp only
  rw [hok]
  dsimp only
  rw [hk]

omit hx in
theorem keyLock_value : byteAt x.bytes 4 < 2 := by
  by_contra h
  simp [firstSome, show 2 ≤ byteAt x.bytes 4 by omega] at hok

end

end

end Sys2Proof.Machine
end

section
/-! STATEMENT (R431 to R435, R445, R452): what an accepted statement leaves of level, lifecycle and counter, and the fuses. -/

namespace Sys2Proof.Machine

theorem exec_statement {n : Nat} (h : n < 64) (herr : Option Nat) (s : State) : exec (.statement n herr) s = .next (s.statementCmd n herr) := if_pos h

/-! The steps of a statement that is taken. -/

section
variable (d : Side) (p : Pkg) (m : List Byte)

theorem Side.secKept_stmtNonce (res : Option Res) {f : Fld} (hf : secOwn f) (hlo : F.SEC_NONCE_LO_NONCE.off ≠ f.off) (hhi : F.SEC_NONCE_HI_NONCE.off ≠ f.off) :
    d.secKept f (d.stmtNonce m res) := by
  unfold Side.stmtNonce
  extract_lets early
  split
  · exact (d.secKept_set _ (.inl (Ne.symm hlo)) hf.2.2.1).trans (Side.secKept_set _ _ (.inl (Ne.symm hhi)) hf.2.2.1)
  · exact d.secKept_refl f

theorem Side.secKept_monoNext {f : Fld} (hf : secOwn f) (hmono : F.SEC_MONO_COUNT.off ≠ f.off) : d.secKept f (d.monoNext p) :=
  (d.secKept_set _ (.inl (Ne.symm hmono)) hf.2.2.1).trans (Side.secKept_faultIf _ p _ ⟨rfl, by decide⟩ hf)

theorem Side.monoNext_mono : (d.monoNext p).mono = min monoEnd (d.mono + 1) ∧ (d.monoNext p).hif.sq = d.hif.sq := by
  have hv : min monoEnd (d.mono + 1) < 2 ^ 32 := (min_le_left _ _).trans_lt (by norm_num [monoEnd])
  unfold Side.monoNext
  dsimp only
  generalize decide (monoEnd ≤ min monoEnd (d.mono + 1) + 1024) = c
  generalize min monoEnd (d.mono + 1) = v at *
  have hset : (d.set F.SEC_MONO_COUNT v).mono = v := (d.get_set_self _ _ (by decide)).trans (Nat.mod_eq_of_lt hv)
  obtain ⟨hmono, hsq⟩ := (d.set F.SEC_MONO_COUNT v).secKept_faultIf p c (g := F.SEC_STATUS_MONO_LOW) ⟨rfl, by decide⟩ secOwn_mono
  exact ⟨hmono.trans hset, hsq⟩

theorem Side.toLevel_level {v : Nat} (hv : v < 4) (signer : Nat) : (d.toLevel p v signer).level = v := by
  unfold Side.toLevel
  split
  next h => exact h
  next =>
    obtain ⟨hfault, -⟩ := Side.secKept_fault ((List.range 16).foldl Side.obsLock ((d.set F.SEC_STATUS_DEBUG v).set F.SEC_STATUS_LVL_SIGNER signer)) p
      (g := F.SEC_STATUS_LEVEL_CHG) ⟨rfl, by decide⟩ secOwn_debug
    obtain ⟨hlocks, -⟩ := Side.secKept.foldl (fun e k => e.secKept_obsLock k secOwn_debug) (List.range 16)
      ((d.set F.SEC_STATUS_DEBUG v).set F.SEC_STATUS_LVL_SIGNER signer)
    obtain ⟨hsigner, -⟩ := (d.set F.SEC_STATUS_DEBUG v).secKept_high signer (g := F.SEC_STATUS_LVL_SIGNER) ⟨rfl, by decide⟩ secOwn_debug
    exact hfault.trans (hlocks.trans (hsigner.trans ((d.get_set_self _ _ (by decide)).trans (Nat.mod_eq_of_lt hv))))

/-- After the lifecycle's own field nothing moves it, nor the counter. -/
theorem Side.secKept_lifeTo {f : Fld} (hf : secOwn f) (hdebug : F.SEC_STATUS_DEBUG.apart f) (hid : F.SEC_RECIPE_ID_ID.off ≠ f.off) :
    (d.set F.SEC_STATUS_LIFECYCLE (stArg m)).secKept f (d.lifeTo p m) := by
  unfold Side.lifeTo
  have hlevel := (d.set F.SEC_STATUS_LIFECYCLE (stArg m)).secKept_toLevel p 0 0 hdebug hf
  dsimp only
  split
  · exact (hlevel.trans (Side.secKept_high _ _ ⟨rfl, by decide⟩ hf)).trans (Side.secKept_high _ _ ⟨rfl, by decide⟩ hf)
  · split
    · have hrecipe (e : Side) : e.secKept f e.recipeClear :=
        (e.secKept_high 0 (g := F.SEC_STATUS_RECIPE) ⟨rfl, by decide⟩ hf).trans (Side.secKept_set _ 0 (.inl (Ne.symm hid)) hf.2.2.1)
      exact (((hlevel.trans (Side.secKept_keysZero _ p hf)).trans (hrecipe _)).trans (Side.secKept_high _ _ ⟨rfl, by decide⟩ hf)).trans
        (Side.secKept_high _ _ ⟨rfl, by decide⟩ hf)
    · exact hlevel

end

/-! A statement that is judged. -/

section
variable {d : Side} {p : Pkg} {m : List Byte}

theorem Side.stmtApply_of_refused {r : Res} (h : d.stmtCheck p m = some r) :
    d.stmtApply p m = (d.stmtNonce m (some r)).fault p 0x280 F.SEC_STATUS_STMT_REFUSED := by
  rw [Side.stmtApply, h]

theorem Side.stmtApply_of_taken (h : d.stmtCheck p m = none) : d.stmtApply p m = (d.stmtNonce m none).stmtTake p m := by
  rw [Side.stmtApply, h]

/-- A refused statement shows STMT_REFUSED, and level, lifecycle and counter stay. -/
theorem Side.stmtApply_refused {r : Res} (h : d.stmtCheck p m = some r) : (d.stmtApply p m).flag F.SEC_STATUS_STMT_REFUSED = true ∧
    (d.stmtApply p m).level = d.level ∧ (d.stmtApply p m).lifecycle = d.lifecycle ∧ (d.stmtApply p m).mono = d.mono ∧
    (d.stmtApply p m).hif.sq = d.hif.sq := by
  have hkept {f : Fld} (hf : secOwn f) (hlo : F.SEC_NONCE_LO_NONCE.off ≠ f.off) (hhi : F.SEC_NONCE_HI_NONCE.off ≠ f.off) : d.secKept f (d.stmtApply p m) := by
    rw [Side.stmtApply_of_refused h]
    exact (d.secKept_stmtNonce m (some r) hf hlo hhi).trans (Side.secKept_fault _ p ⟨rfl, by decide⟩ hf)
  refine ⟨?_, (hkept secOwn_debug (by decide) (by decide)).1, (hkept secOwn_lifecycle (by decide) (by decide)).1,
    hkept secOwn_mono (by decide) (by decide)⟩
  rw [Side.stmtApply_of_refused h, Side.flag_iff]
  exact Side.fault_get_self _ p.canPost_sec (by simp [offPost, F.SEC_STATUS_STMT_REFUSED]) rfl (by decide)

/-- The counter once the statement's nonce is spent and it has advanced. -/
theorem Side.counted_mono (d : Side) (p : Pkg) (m : List Byte) : ((d.stmtNonce m none).monoNext p).mono = min monoEnd (d.mono + 1) ∧
    ((d.stmtNonce m none).monoNext p).hif.sq = d.hif.sq := by
  obtain ⟨hmono, hsq⟩ := (d.stmtNonce m none).monoNext_mono p
  obtain ⟨hnonce, hsq'⟩ := d.secKept_stmtNonce m none secOwn_mono (by decide) (by decide)
  exact ⟨hmono.trans (congrArg (fun v => min monoEnd (v + 1)) hnonce), hsq.trans hsq'⟩

/-- A token for OBSERVE. -/
theorem Side.stmtApply_observe (h : d.stmtCheck p m = none) (htype : stType m = 1) (harg : stArg m = 1) : (d.stmtApply p m).level = 1 ∧
    (d.stmtApply p m).mono = min monoEnd (d.mono + 1) ∧ (d.stmtApply p m).hif.sq = d.hif.sq := by
  have htake : d.stmtApply p m = ((d.stmtNonce m none).monoNext p).toLevel p 1 (stSigner m) := by
    rw [Side.stmtApply_of_taken h, Side.stmtTake, if_neg (by omega), if_neg (by omega)]
  obtain ⟨hmono, hsq⟩ := ((d.stmtNonce m none).monoNext p).secKept_toLevel p 1 (stSigner m) (f := F.SEC_MONO_COUNT)
    (by simp [Fld.apart, F.SEC_STATUS_DEBUG, F.SEC_MONO_COUNT]) secOwn_mono
  obtain ⟨cmono, csq⟩ := d.counted_mono p m
  rw [htake]
  exact ⟨Side.toLevel_level _ p (by decide) _, hmono.trans cmono, hsq.trans csq⟩

/-- A statement on the lifecycle. -/
theorem Side.stmtApply_lifecycle (h : d.stmtCheck p m = none) (htype : stType m = 2) : (d.stmtApply p m).lifecycle = stArg m % 8 ∧
    (d.stmtApply p m).mono = min monoEnd (d.mono + 1) ∧ (d.stmtApply p m).hif.sq = d.hif.sq := by
  have htake : d.stmtApply p m = ((d.stmtNonce m none).monoNext p).lifeTo p m := by
    rw [Side.stmtApply_of_taken h, Side.stmtTake, if_pos htype]
  obtain ⟨cmono, csq⟩ := d.counted_mono p m
  rw [htake]
  generalize (d.stmtNonce m none).monoNext p = e at *
  obtain ⟨hlife, hsq⟩ := e.secKept_lifeTo p m (f := F.SEC_STATUS_LIFECYCLE) secOwn_lifecycle
    (by simp [Fld.apart, F.SEC_STATUS_DEBUG, F.SEC_STATUS_LIFECYCLE]) (by decide)
  obtain ⟨hmono, -⟩ := e.secKept_lifeTo p m (f := F.SEC_MONO_COUNT) secOwn_mono (by simp [Fld.apart, F.SEC_STATUS_DEBUG, F.SEC_MONO_COUNT]) (by decide)
  exact ⟨hlife.trans (e.get_set_self _ _ (by decide)), hmono.trans ((e.get_set_off _ (by decide)).trans cmono), hsq.trans csq⟩

/-! STATEMENT by its outcomes. -/

variable {n : Nat} {x : Desc} (hx : d.nextHost p n 0x64 = some x)
include hx

theorem Side.statement_of_bad {o : Nat} (herr : Option Nat) (ho : stmtCmdBad x.bytes = some o) : d.statement p n herr = d.startDone n (badField o) := by
  unfold Side.statement
  rw [hx]
  dsimp only
  rw [ho]

theorem Side.stmtMsg_of_bad {o : Nat} (herr : Option Nat) (ho : stmtCmdBad x.bytes = some o) : d.stmtMsg p n herr = none := by
  rw [Side.stmtMsg, hx]
  exact if_pos (by simp [ho])

theorem Side.stmtMsg_of_hostFault (a : Nat) : d.stmtMsg p n (some a) = none := by
  rw [Side.stmtMsg, hx]
  exact if_pos (by simp)

variable (hok : stmtCmdBad x.bytes = none)
include hok

theorem Side.statement_of_hostFault (a : Nat) : d.statement p n (some a) = d.startDone n (hostFaultRes a) := by
  unfold Side.statement
  rw [hx]
  dsimp only
  rw [hok]

variable (hm : m = memRead p.host (dFld x.bytes 8 8) 272)
include hm

theorem Side.stmtMsg_of_read : d.stmtMsg p n none = some m := by
  rw [Side.stmtMsg, hx, hm]
  exact if_neg (by simp [hok])

theorem Side.statement_of_refused {r : Res} (h : d.stmtCheck p m = some r) : d.statement p n none = (d.stmtApply p m).startDone n r := by
  unfold Side.statement
  rw [hx]
  dsimp only
  rw [hok]
  dsimp only
  rw [← hm, h]

theorem Side.statement_of_taken (h : d.stmtCheck p m = none) :
    d.statement p n none = (d.stmtApply p m).startDone n ⟨stSUCCESS, (d.stmtApply p m).mono, 0⟩ := by
  unfold Side.statement
  rw [hx]
  dsimp only
  rw [hok]
  dsimp only
  rw [← hm, h]

end

/-! Both sides and the fuses. -/

section
variable {s : State} {n : Nat} {herr : Option Nat}

theorem State.statementCmd_side (s : State) (n : Nat) (herr : Option Nat) (x : SideId) :
    (s.statementCmd n herr).side x = (s.both fun p d => d.statement p n herr).side x := by
  unfold State.statementCmd
  dsimp only
  split
  · rfl
  · cases x <;> rfl

theorem State.statementCmd_fuses_of_none (h : s.actSide.stmtMsg s.pkg n herr = none) : (s.statementCmd n herr).pkg.fuses = s.pkg.fuses := by
  unfold State.statementCmd
  rw [h]
  exact State.both_pkg_fuses ..

theorem State.statementCmd_fuses_of_msg {m : List Byte} (h : s.actSide.stmtMsg s.pkg n herr = some m) :
    (s.statementCmd n herr).pkg.fuses = (s.stmtFuses m).pkg.fuses := by
  unfold State.statementCmd
  rw [h]

theorem State.stmtFuses_of_refused {m : List Byte} {r : Res} (h : s.actSide.stmtCheck s.pkg m = some r) : (s.stmtFuses m).pkg.fuses = s.pkg.fuses := by
  rw [State.stmtFuses, if_neg (by simp [h])]

theorem State.stmtFuses_of_taken {m : List Byte} (hrun : s.pkg.hold.running s.pkg.hold.active = true) (h : s.actSide.stmtCheck s.pkg m = none) :
    (s.stmtFuses m).pkg.fuses = s.pkg.fuses.take m := by
  rw [State.stmtFuses, if_pos (by simp [h, hrun])]

end

end Sys2Proof.Machine

namespace Sys2Proof.Proofs

open Sys2Proof Sys2Proof.Machine

/-- Settles O51: each command by the check that ends it. -/
theorem keysAndStatements : Obligations.KeysAndStatements := by
  unfold Obligations.KeysAndStatements
  rintro n s x d e b hn hx rfl rfl
  have hrun (f : Pkg → Side → Side) := State.both_of_running hx f
  refine ⟨?challenge, ?load, ?remove, ?lock, ?statement⟩
  case challenge =>
    rintro he v rfl
    obtain ⟨l, hl⟩ := hrun fun p d => d.challenge p n
    refine ⟨fun o ho => ⟨_, exec_challenge hn s, ?_⟩, fun hok => ⟨_, exec_challenge hn s, ?_⟩⟩
    · rw [hl, Side.challenge_of_bad he ho]
      exact ⟨Side.sqList_startDone _ n _, rfl⟩
    · rw [hl, Side.challenge_of_ok he hok]
      refine ⟨Side.sqList_startDone _ n _, (Side.nonce_setNonce _ _).trans (Nat.mod_eq_of_lt ?_)⟩
      omega
  case load =>
    intro he k hk
    refine ⟨fun o h ho => ⟨_, exec_keyLoad hn h s, ?_⟩, fun hok => ⟨fun a => ⟨_, exec_keyLoad hn (some a) s, ?_⟩, fun r hr => ⟨_, exec_keyLoad hn none s, ?_⟩,
      fun key j hkey hj => ⟨_, exec_keyLoad hn none s, ?_⟩⟩⟩
    · obtain ⟨l, hl⟩ := hrun fun p d => d.keyLoad p n h
      rw [hl, Side.keyLoad_of_bad he h ho]
      exact ⟨Side.sqList_startDone _ n _, rfl, rfl⟩
    · obtain ⟨l, hl⟩ := hrun fun p d => d.keyLoad p n (some a)
      rw [hl, Side.keyLoad_of_hostFault he hok]
      exact ⟨Side.sqList_startDone _ n _, rfl, rfl⟩
    · obtain ⟨l, hl⟩ := hrun fun p d => d.keyLoad p n none
      rw [hl, Side.keyLoad_of_error he hok (hk ▸ hr)]
      exact ⟨Side.sqList_startDone _ n _, rfl, rfl⟩
    · obtain ⟨l, hl⟩ := hrun fun p d => d.keyLoad p n none
      have hplace : j = (s.side x).keyPlace (leAt k 8 8) := hj
      rw [hl, Side.keyLoad_of_key he hok hk hkey, ← hplace]
      have hsec := Side.keyStore_sec j key (leAt k 8 8) (leAt k 6 2) (s.side x)
      have hhif := Side.keyStore_hif j key (leAt k 8 8) (leAt k 6 2) (s.side x)
      obtain ⟨hpresent, hid, htelem⟩ := Side.keyStore_shown j key (leAt k 8 8) (leAt k 6 2) (s.side x) (leAt_lt k 8 8)
      generalize (s.side x).keyStore j key (leAt k 8 8) (leAt k 6 2) = u at *
      have hkeys : u.sec.keys = tset (s.side x).sec.keys j key := congrArg Sec.keys hsec
      have hdeny : u.sec.deny = tset (s.side x).sec.deny j (bit (leAt k 6 2) 0) := congrArg Sec.deny hsec
      refine ⟨(Side.sqList_startDone u n _).trans ?_, ?_, fun m hm => ?_, hpresent, hid, htelem, ?_⟩
      · rw [Side.sqList_of_hif (congrArg Hif.sq hhif)]
      · exact (congrArg (tget 0 · j) hkeys).trans (tget_tset_self ..)
      · exact (congrArg (tget 0 · m) hkeys).trans (tget_tset_ne _ _ _ hm)
      · exact (congrArg (tget false · j) hdeny).trans (tget_tset_self ..)
  case remove =>
    rintro he bad rfl
    obtain ⟨l, hl⟩ := hrun fun p d => d.keyRemove p n
    refine ⟨fun o ho => ⟨_, exec_keyRemove hn s, ?_⟩, fun hok hk => ⟨_, exec_keyRemove hn s, ?_⟩, fun k r hok hk hr => ⟨_, exec_keyRemove hn s, ?_⟩,
      fun k hok hk hr => ⟨_, exec_keyRemove hn s, ?_⟩⟩
    · rw [hl, Side.keyRemove_of_bad he ho]
      exact ⟨Side.sqList_startDone _ n _, rfl⟩
    · rw [hl, Side.keyRemove_of_none he hok hk]
      exact ⟨Side.sqList_startDone _ n _, rfl⟩
    · rw [hl, Side.keyRemove_of_used he hok hk hr]
      exact ⟨Side.sqList_startDone _ n _, rfl⟩
    · rw [hl, Side.keyRemove_of_free he hok hk hr]
      have hsec := Side.keyGone_sec s.pkg k (s.side x)
      have hsq := Side.keyGone_hif s.pkg k (s.side x)
      obtain ⟨hpresent, hzeroised⟩ := Side.keyGone_shown s.pkg (Side.keySlot_lt hk) (s.side x)
      generalize (s.side x).keyGone s.pkg k = u at *
      have hkeys : u.sec.keys = tset (s.side x).sec.keys k 0 := congrArg Sec.keys hsec
      refine ⟨(Side.sqList_startDone u n _).trans ?_, ?_, hpresent, fun m hm => ?_, hzeroised⟩
      · rw [Side.sqList_of_hif hsq]
      · exact (congrArg (tget 0 · k) hkeys).trans (tget_tset_self ..)
      · exact (congrArg (tget 0 · m) hkeys).trans (tget_tset_ne _ _ _ hm)
  case lock =>
    rintro he bad rfl
    obtain ⟨l, hl⟩ := hrun fun _ d => d.keyLock n
    refine ⟨fun o ho => ⟨_, exec_keyLock hn s, ?_⟩, fun hok hk => ⟨_, exec_keyLock hn s, ?_⟩, fun k hok hk => ⟨_, exec_keyLock hn s, ?_⟩⟩
    · rw [hl, Side.keyLock_of_bad he ho]
      exact ⟨Side.sqList_startDone _ n _, rfl⟩
    · rw [hl, Side.keyLock_of_none he hok hk]
      exact ⟨Side.sqList_startDone _ n _, rfl⟩
    · rw [hl, Side.keyLock_of_key he hok hk]
      exact ⟨Side.sqList_startDone _ n _, (Side.get_set_self _ _ _ (by change 1 + 1 ≤ 32; decide)).trans (Nat.mod_eq_of_lt (keyLock_value hok))⟩
  case statement =>
    intro he m hm
    have hactive (hact : x = s.pkg.hold.active) : s.side x = s.actSide := by rw [hact]; rfl
    refine ⟨fun o h ho => ⟨_, exec_statement hn h s, ?_⟩, fun hok => ⟨fun a => ⟨_, exec_statement hn (some a) s, ?_⟩,
      fun r hr => ⟨_, exec_statement hn none s, ?_⟩, fun hr => ⟨_, exec_statement hn none s, ?_⟩⟩⟩
    · obtain ⟨l, hl⟩ := hrun fun p d => d.statement p n h
      rw [s.statementCmd_side, hl, Side.statement_of_bad he h ho]
      exact ⟨Side.sqList_startDone _ n _, rfl, fun hact => State.statementCmd_fuses_of_none (Side.stmtMsg_of_bad (hactive hact ▸ he) h ho)⟩
    · obtain ⟨l, hl⟩ := hrun fun p d => d.statement p n (some a)
      rw [s.statementCmd_side, hl, Side.statement_of_hostFault he hok]
      exact ⟨Side.sqList_startDone _ n _, rfl, fun hact => State.statementCmd_fuses_of_none (Side.stmtMsg_of_hostFault (hactive hact ▸ he) a)⟩
    · obtain ⟨l, hl⟩ := hrun fun p d => d.statement p n none
      rw [s.statementCmd_side, hl, Side.statement_of_refused he hok hm hr]
      obtain ⟨hflag, hlevel, hlife, hmono, hsq⟩ := Side.stmtApply_refused hr
      generalize (s.side x).stmtApply s.pkg m = u at *
      refine ⟨(Side.sqList_startDone u n _).trans (by rw [Side.sqList_of_hif hsq]), hflag, hlevel, hlife, hmono, fun hact => ?_⟩
      rw [State.statementCmd_fuses_of_msg (Side.stmtMsg_of_read (hactive hact ▸ he) hok hm)]
      exact State.stmtFuses_of_refused (hactive hact ▸ hr)
    · obtain ⟨l, hl⟩ := hrun fun p d => d.statement p n none
      rw [s.statementCmd_side, hl, Side.statement_of_taken he hok hm hr]
      refine ⟨fun hact => ?_, fun htype harg => ?_, fun htype => ?_⟩
      · rw [State.statementCmd_fuses_of_msg (Side.stmtMsg_of_read (hactive hact ▸ he) hok hm)]
        exact State.stmtFuses_of_taken (hact ▸ hx) (hactive hact ▸ hr)
      · obtain ⟨hlevel, hmono, hsq⟩ := Side.stmtApply_observe hr htype harg
        generalize (s.side x).stmtApply s.pkg m = u at *
        exact ⟨hlevel, hmono, (Side.sqList_startDone u n _).trans (by rw [Side.sqList_of_hif hsq, hmono]; rfl)⟩
      · obtain ⟨hlife, hmono, hsq⟩ := Side.stmtApply_lifecycle hr htype
        generalize (s.side x).stmtApply s.pkg m = u at *
        exact ⟨hlife, hmono, (Side.sqList_startDone u n _).trans (by rw [Side.sqList_of_hif hsq, hmono]; rfl)⟩

end Sys2Proof.Proofs
end

section
/-! What the clock servo and the states of the ports keep of a port of the network clock (R420 to R425). -/

namespace Sys2Proof.Machine

/-- From d to e the accounts of the network ports stay, and every field of their registers. -/
def Side.portsKept (d e : Side) : Prop :=
  e.ptp.ports = d.ptp.ports ∧ ∀ f : Fld, 0xF01000 ≤ f.off → f.off < 0xF02000 → e.get f = d.get f

section
variable {d e u : Side}

theorem Side.portsKept_refl (d : Side) : d.portsKept d := ⟨rfl, fun _ _ _ => rfl⟩

theorem Side.portsKept.trans (h : d.portsKept e) (h' : e.portsKept u) : d.portsKept u :=
  ⟨h'.1.trans h.1, fun f hlo hhi => (h'.2 f hlo hhi).trans (h.2 f hlo hhi)⟩

theorem Side.portsKept.ite {c : Prop} [Decidable c] (h : d.portsKept e) (h' : d.portsKept u) : d.portsKept (if c then e else u) := by
  split
  · exact h
  · exact h'

theorem Side.portsKept.pport (h : d.portsKept e) (n : Nat) : e.pport n = d.pport n := by
  rw [Side.pport, Side.pport, h.1]

/-- A field of the clock's own registers, or of another block before them. -/
theorem Side.portsKept_set (d : Side) {g : Fld} (v : Nat) (h : g.off < 0xF01000) : d.portsKept (d.set g v) :=
  ⟨rfl, fun f hlo _ => d.get_set_off v (by omega)⟩

theorem Side.portsKept_set64 (d : Side) {lo hi : Fld} (v : Nat) (hlo : lo.off < 0xF01000) (hhi : hi.off < 0xF01000) : d.portsKept (d.set64 lo hi v) :=
  (d.portsKept_set _ hlo).trans (Side.portsKept_set _ _ hhi)

theorem Side.portsKept_fault (d : Side) (p : Pkg) {src : Nat} {g : Fld} (hs : src < 0x1000) (h : g.off < 0xF01000) : d.portsKept (d.fault p src g) :=
  ⟨congrArg Ptp.ports (d.fault_ptp p src g), fun f hlo hhi => d.fault_get p src g f hs (by unfold offPost; omega) (by omega)⟩

theorem Side.portsKept_ptp (d : Side) {x : Ptp} (h : x.ports = d.ptp.ports) : d.portsKept { d with ptp := x } := ⟨h, fun _ _ _ => rfl⟩

variable (d) (p : Pkg)

theorem Side.portsKept_alignRefresh : d.portsKept (d.alignRefresh p) :=
  .ite d.portsKept_refl ((d.portsKept_set _ (by decide)).trans (Side.portsKept_fault _ p (by decide) (by decide)))

theorem Side.portsKept_setServo (st : Nat) : d.portsKept (d.setServo p st) := (d.portsKept_set st (by decide)).trans (Side.portsKept_alignRefresh _ p)

theorem Side.portsKept_holdover {g : Fld} (h : g.off < 0xF01000) : d.portsKept (d.holdover p g) := by
  unfold Side.holdover
  extract_lets d1 x d2
  have h1 : d.portsKept d1 := .ite (d.portsKept_set 0 (by decide)) d.portsKept_refl
  have h2 : d1.portsKept d2 := d1.portsKept_ptp rfl
  exact ((h1.trans h2).trans (d2.portsKept_setServo p 4)).trans (Side.portsKept_fault _ p (by decide) h)

theorem Side.portsKept_adjSubmit (adj : Int) : d.portsKept (d.adjSubmit p adj) := by
  unfold Side.adjSubmit
  refine .ite ((d.portsKept_set _ (by decide)).trans (Side.portsKept_set _ _ (by decide))) (.ite (d.portsKept_fault p (by decide) (by decide)) ?_)
  exact ((d.portsKept_set64 _ (by decide) (by decide)).trans (Side.portsKept_set _ 1 (by decide))).trans (Side.portsKept_fault _ p (by decide) (by decide))

theorem Side.portsKept_servoAdj (adj : Int) : d.portsKept (d.servoAdj p adj) :=
  (d.portsKept_set64 _ (by decide) (by decide)).trans (Side.portsKept_adjSubmit _ p _)

theorem Side.portsKept_rateSubmit (r : Nat) : d.portsKept (d.rateSubmit p r) := by
  unfold Side.rateSubmit
  refine .ite ?_ (d.portsKept_fault p (by decide) (by decide))
  exact (d.portsKept_set 1 (g := F.TIM_STATUS_RATE_PENDING) (by decide)).trans ⟨rfl, fun _ _ _ => rfl⟩

theorem Side.portsKept_servoRate (r : Int) : d.portsKept (d.servoRate p r) :=
  ((d.portsKept_set _ (by decide)).trans (Side.portsKept_set _ _ (by decide))).trans (Side.portsKept_rateSubmit _ p _)

theorem Side.portsKept_toJumpWait : d.portsKept (d.toJumpWait p) := (d.portsKept_setServo p 3).trans (Side.portsKept_fault _ p (by decide) (by decide))

theorem Side.portsKept_servoAct (theta l : Int) : d.portsKept (d.servoAct p theta l) := by
  unfold Side.servoAct
  split
  · extract_lets adj ok d1
    have h1 : d.portsKept d1 := d.portsKept_servoAdj p adj
    exact .ite (h1.trans (d1.portsKept_setServo p 2)) (h1.trans (d1.portsKept_toJumpWait p))
  · extract_lets adj ok d1
    have h1 : d.portsKept d1 := d.portsKept_servoAdj p adj
    exact .ite (h1.trans (d1.portsKept_servoRate p _)) (h1.trans (d1.portsKept_toJumpWait p))
  · exact .ite (d.portsKept_servoAdj p _) d.portsKept_refl
  · exact d.portsKept_refl

theorem Side.portsKept_theta1 (n : Nat) (theta l mpd : Int) : d.portsKept (d.theta1 p n theta l mpd) := by
  unfold Side.theta1
  split
  · exact (d.portsKept_set _ (g := F.PTP_OUTLIERS_COUNT) (by decide)).trans ⟨rfl, fun _ _ _ => rfl⟩
  · extract_lets d1 d1a d2 en acquire was d3 vals d4
    have h1 : d.portsKept d1 := (d.portsKept_set64 _ (by decide) (by decide)).trans (Side.portsKept_set _ _ (by decide))
    clear_value d1
    have h1a : d1.portsKept d1a := (d1.portsKept_set64 _ (by decide) (by decide)).trans (Side.portsKept_set _ _ (by decide))
    clear_value d1a
    have h2 : d1a.portsKept d2 :=
      ((d1a.portsKept_set _ (g := F.PTP_OFS_STATUS_SEQ) (by decide)).trans (Side.portsKept_set _ 1 (by decide))).trans (Side.portsKept_set _ n (by decide))
    clear_value d2
    have h3 : d2.portsKept d3 := by
      unfold d3
      split
      · exact d2.portsKept_set 0 (by decide)
      · split
        · exact (d2.portsKept_set 1 (g := F.PTP_OFS_STATUS_SERVO) (by decide)).trans ⟨rfl, fun _ _ _ => rfl⟩
        · exact d2.portsKept_refl
    clear_value d3
    have h4 : d3.portsKept d4 := ⟨rfl, fun _ _ _ => rfl⟩
    clear_value d4
    have h5 : d4.portsKept (if en then d4.servoAct p theta l else d4) := .ite (d4.portsKept_servoAct p theta l) d4.portsKept_refl
    exact ((((h1.trans h1a).trans h2).trans h3).trans (h4.trans h5)).trans (Side.portsKept_alignRefresh _ p)

/-! States of a port. -/

theorem Side.portsKept_movePort (n st : Nat) : (d.setPst n st).portsKept (d.movePort p n st) :=
  .ite (Side.portsKept_holdover _ p (by decide)) (Side.portsKept_refl _)

theorem Side.pst_setPst (n : Nat) {st : Nat} (h : st < 16) : (d.setPst n st).pst n = st :=
  (d.get_set_self _ _ (by change 0 + 4 ≤ 32; decide)).trans (Nat.mod_eq_of_lt h)

theorem Side.movePort_pst (n : Nat) {st : Nat} (hn : n < 2) (h : st < 16) : (d.movePort p n st).pst n = st := by
  refine ((d.portsKept_movePort p n st).2 (F.PTP_P_STATUS_STATE n) ?_ ?_).trans (d.pst_setPst n h)
  · change 0xF01000 ≤ 0xF01004 + 0x100 * n
    omega
  · change 0xF01004 + 0x100 * n < 0xF02000
    omega

/-- A state of the port leaves its account, and its registers but the state. -/
theorem Side.movePort_kept (n st k : Nat) : (d.movePort p n st).pport k = d.pport k := (d.portsKept_movePort p n st).pport k

theorem Side.movePort_get (n st : Nat) {f : Fld} (hlo : 0xF01000 ≤ f.off) (hhi : f.off < 0xF02000) (hst : (F.PTP_P_STATUS_STATE n).apart f) (h32 : f.lo + f.w ≤ 32) :
    (d.movePort p n st).get f = d.get f :=
  ((d.portsKept_movePort p n st).2 f hlo hhi).trans (d.get_set_apart _ hst h32)

end

end Sys2Proof.Machine
end

section
/-! Messages in, timeouts and links of a port of the network clock (R414, R416, R420, R422, R425). -/

namespace Sys2Proof.Machine

theorem exec_ptpMessageReceived {n : Nat} (h : n < 2) (m : PtpMsg) (frac k : Nat) (s : State) :
    exec (.ptpMessageReceived n m frac k) s = .next ((s.advance k).both fun p d => d.ptpRx p n m frac) := if_pos h

theorem exec_announceTimeout {n : Nat} (h : n < 2) (k : Nat) (s : State) :
    exec (.announceTimeout n k) s = .next ((s.advance k).both fun p d => d.annTimeout p n) := if_pos h

theorem exec_syncTimeout {n : Nat} (h : n < 2) (k : Nat) (s : State) :
    exec (.syncTimeout n k) s = .next ((s.advance k).both fun p d => d.syncTimeout p n) := if_pos h

theorem exec_ethLinkDown {n : Nat} (h : n < 2) (s : State) :
    exec (.ethLinkDown n) s = .next ((s.ethPort n false).both fun p d => d.linkDrop p n) := if_pos h

theorem exec_ethLinkUp {n : Nat} (h : n < 2) (s : State) :
    exec (.ethLinkUp n) s = .next ((s.ethPort n true).both fun p d => d.linkRise p n) := if_pos h

@[simp] theorem Side.pport_setPport (d : Side) (n : Nat) (x : PPort) : (d.setPport n x).pport n = x := tget_tset_self ..

theorem Side.pport_setPport_ne (d : Side) {n k : Nat} (x : PPort) (h : k ≠ n) : (d.setPport n x).pport k = d.pport k := tget_tset_ne _ _ _ h

@[simp] theorem Side.get_setPport (d : Side) (n : Nat) (x : PPort) (f : Fld) : (d.setPport n x).get f = d.get f := rfl

/-! The state decision keeps the foreign masters. -/

/-- From d to e each port keeps its foreign masters and the instant of its last Announce, and its registers but the state's. -/
def Side.mastersKept (d e : Side) : Prop :=
  (∀ k, (e.pport k).foreign = (d.pport k).foreign ∧ (e.pport k).annAt = (d.pport k).annAt) ∧
  ∀ f : Fld, 0xF01000 ≤ f.off → f.off < 0xF02000 → (∀ k, f.off ≠ 0xF01004 + 0x100 * k) → e.get f = d.get f

section
variable {d e u : Side} (p : Pkg)

theorem Side.mastersKept_refl (d : Side) : d.mastersKept d := ⟨fun _ => ⟨rfl, rfl⟩, fun _ _ _ _ => rfl⟩

theorem Side.mastersKept.trans (h : d.mastersKept e) (h' : e.mastersKept u) : d.mastersKept u :=
  ⟨fun k => ⟨(h'.1 k).1.trans (h.1 k).1, (h'.1 k).2.trans (h.1 k).2⟩, fun f hlo hhi hst => (h'.2 f hlo hhi hst).trans (h.2 f hlo hhi hst)⟩

theorem Side.portsKept.masters (h : d.portsKept e) : d.mastersKept e :=
  ⟨fun k => by rw [h.pport k]; exact ⟨rfl, rfl⟩, fun f hlo hhi _ => h.2 f hlo hhi⟩

theorem Side.mastersKept_setPst (d : Side) (n st : Nat) : d.mastersKept (d.setPst n st) :=
  ⟨fun _ => ⟨rfl, rfl⟩, fun _ _ _ hst => d.get_set_off st (hst n)⟩

theorem Side.mastersKept_setPport (d : Side) {n : Nat} {x : PPort} (hforeign : x.foreign = (d.pport n).foreign) (hann : x.annAt = (d.pport n).annAt) :
    d.mastersKept (d.setPport n x) := by
  refine ⟨fun k => ?_, fun _ _ _ _ => rfl⟩
  by_cases hk : k = n
  · rw [hk, Side.pport_setPport]
    exact ⟨hforeign, hann⟩
  · rw [d.pport_setPport_ne x hk]
    exact ⟨rfl, rfl⟩

theorem Side.mastersKept_movePort (d : Side) (n st : Nat) : d.mastersKept (d.movePort p n st) :=
  (d.mastersKept_setPst n st).trans (d.portsKept_movePort p n st).masters

theorem Side.mastersKept_takeParent (d : Side) (n : Nat) (m : PtpMsg) : d.mastersKept (d.takeParent p n m) := by
  unfold Side.takeParent
  extract_lets same d1 parent d2 port d3
  have h1 : d.mastersKept d1 := (d.portsKept_set _ (by decide)).masters
  have h2 : d1.mastersKept d2 := (d1.portsKept_ptp rfl).masters
  have h3 : d2.mastersKept d3 := d2.mastersKept_setPport rfl rfl
  clear_value d3
  split
  · exact h1
  · split
    · exact ((h1.trans h2).trans h3).trans ((d3.mastersKept_setPst n psUncal).trans (Side.portsKept_holdover _ p (by decide)).masters)
    · exact (h1.trans h2).trans h3

theorem Side.mastersKept_bmca (d : Side) : d.mastersKept (d.bmca p) := by
  unfold Side.bmca
  extract_lets d1
  have h1 : d.mastersKept d1 := by
    refine List.foldlRecOn (List.range 2) _ (motive := d.mastersKept) d.mastersKept_refl fun e he n _ => ?_
    split
    · exact he.trans (e.mastersKept_movePort p n _)
    · exact he
  clear_value d1
  split
  · split
    · exact h1.trans (d1.mastersKept_takeParent p _ _)
    · exact h1
  · exact h1

end

/-! Messages in (R414, R416, R420). -/

/-- θ from a Sync pair: the state of the port may become SLAVE, and the servo keeps the ports. -/
theorem Side.offset_kept (d : Side) (p : Pkg) (n : Nat) : d.portsKept (d.offset p n) ∨ (d.setPst n psSlave).portsKept (d.offset p n) := by
  unfold Side.offset
  dsimp only
  split
  · split
    · exact .inr (Side.portsKept_theta1 ..)
    · exact .inl d.portsKept_refl
  · exact .inl d.portsKept_refl

theorem Side.offset_pport (d : Side) (p : Pkg) (n k : Nat) : (d.offset p n).pport k = d.pport k := by
  obtain h | h := d.offset_kept p n <;> exact h.pport k

theorem Side.mastersKept_offset (d : Side) (p : Pkg) (n : Nat) : d.mastersKept (d.offset p n) := by
  obtain h | h := d.offset_kept p n
  · exact h.masters
  · exact (d.mastersKept_setPst n _).trans h.masters

@[simp] theorem Side.syncPair_pport (d : Side) (p : Pkg) (n : Nat) (t1 t2 : Int) :
    (d.syncPair p n t1 t2).pport n = { d.pport n with pair := some (t1, t2), wait := none } := by
  rw [Side.syncPair, Side.offset_pport, Side.pport_setPport]

theorem Side.rxAnnounce_shown (d : Side) (p : Pkg) (n : Nat) (m : PtpMsg) :
    ((d.rxAnnounce p n m).pport n).annAt = p.now ∧
    ((d.rxAnnounce p n m).pport n).foreign = (m, p.now, ((d.pport n).foreign.find? fun e => e.1.srcId == m.srcId && e.1.srcPort == m.srcPort).map (·.2.1)) ::
      (d.pport n).foreign.filter fun e => !(e.1.srcId == m.srcId && e.1.srcPort == m.srcPort) := by
  unfold Side.rxAnnounce
  extract_lets x old rest
  obtain ⟨hforeign, hann⟩ := (Side.mastersKept_bmca p (d.setPport n { x with foreign := (m, p.now, old.map (·.2.1)) :: rest, annAt := p.now })).1 n
  rw [hforeign, hann, Side.pport_setPport]
  exact ⟨rfl, rfl⟩

section
variable {d e : Side} {n : Nat} {m : PtpMsg} {st : Int} (p : Pkg) (frac : Nat) (hon : d.pOn n = true) (hok : d.ptpOk n m = true)
  (he : e = d.inc (F.PTP_P_RX_COUNT n) 1) (hst : st = e.rxStamp p n frac)

theorem Side.ptpRx_of_off (h : d.pOn n = false) : d.ptpRx p n m frac = d := if_pos (by rw [h]; rfl)

include hon

theorem Side.ptpRx_of_bad (h : d.ptpOk n m = false) : d.ptpRx p n m frac = d.inc (F.PTP_P_DROP_COUNT n) 1 := by
  simp only [Side.ptpRx, hon, h, Bool.not_true, Bool.not_false, Bool.false_eq_true, if_true, if_false]

include hok he

/-! What a message of each kind that the port takes leaves. -/

theorem Side.ptpRx_announce (hk : m.kind = .announce) : d.ptpRx p n m frac = e.rxAnnounce p n m := by
  simp only [Side.ptpRx, hon, hok, hk, he, Bool.not_true, Bool.false_eq_true, if_false]

theorem Side.ptpRx_sync (hst : st = e.rxStamp p n frac) (hk : m.kind = .sync) (hparent : e.fromParent n m = true) {d1 : Side}
    (hd1 : d1 = e.setPport n { d.pport n with syncAt := p.now, logSync := m.logInt, wait := some (m.seq, st, m.corr + e.asym n) }) :
    d.ptpRx p n m frac = if m.twoStep then d1 else d1.syncPair p n (65536 * (m.ts : Int) + (m.corr + e.asym n)) st := by
  subst hd1 hst he
  simp only [Side.ptpRx, hon, hok, hk, hparent, Bool.not_true, Bool.false_eq_true, if_false]
  rfl

theorem Side.ptpRx_followUp (hk : m.kind = .followUp) (hparent : e.fromParent n m = true) {t2 c : Int} (hwait : (d.pport n).wait = some (m.seq, t2, c)) :
    d.ptpRx p n m frac = e.syncPair p n (65536 * (m.ts : Int) + c + m.corr) t2 := by
  have hwait' : (e.pport n).wait = some (m.seq, t2, c) := he ▸ hwait
  simp only [Side.ptpRx, hon, hok, hk, ← he, hparent, hwait', Bool.not_true, Bool.false_eq_true, if_false, BEq.rfl, Bool.and_self, if_true]

theorem Side.ptpRx_delayReq (hst : st = e.rxStamp p n frac) (hk : m.kind = .delayReq) (hmaster : e.pst n = psMaster) (hmech : e.get F.PTP_CFG_DELAY_MECH = 0) :
    d.ptpRx p n m frac = e.setPport n { d.pport n with
      owed := (d.pport n).owed ++ [({ e.ptpOwn n .delayResp m.logInt 0 with
        seq := m.seq, ts := wholeNs st, corr := m.corr - fracNs st, reqId := m.srcId, reqPort := m.srcPort }, st)] } := by
  subst hst he
  simp only [Side.ptpRx, hon, hok, hk, hmaster, hmech, Bool.not_true, Bool.false_eq_true, if_false, decide_true, Bool.and_self, if_true]
  rfl

theorem Side.ptpRx_delayResp (hk : m.kind = .delayResp) {t3 t1 t2 : Int} (hdreq : (d.pport n).dreq = some (m.seq, t3)) (hpair : (d.pport n).pair = some (t1, t2))
    (hparent : e.fromParent n m = true) (hid : m.reqId = e.clockId) (hport : m.reqPort = n + 1) :
    d.ptpRx p n m frac = e.setPport n { d.pport n with dreq := none, mpd := some ((t2 - t3) + (65536 * (m.ts : Int) - m.corr - t1)) } := by
  have hdreq' : (e.pport n).dreq = some (m.seq, t3) := he ▸ hdreq
  have hpair' : (e.pport n).pair = some (t1, t2) := he ▸ hpair
  simp only [Side.ptpRx, hon, hok, hk, ← he, hdreq', hpair', hparent, hid, hport, Bool.not_true, Bool.false_eq_true, if_false, BEq.rfl, Bool.and_self, if_true]
  rw [he, ← hpair]
  rfl

theorem Side.ptpRx_pdelayReq (hst : st = e.rxStamp p n frac) (hk : m.kind = .pdelayReq) (hmech : e.get F.PTP_CFG_DELAY_MECH = 1) :
    d.ptpRx p n m frac = e.setPport n { d.pport n with
      owed := (d.pport n).owed ++ [({ e.ptpOwn n .pdelayResp m.logInt 0 with seq := m.seq, corr := m.corr, reqId := m.srcId, reqPort := m.srcPort }, st)] } := by
  subst hst he
  simp only [Side.ptpRx, hon, hok, hk, hmech, Bool.not_true, Bool.false_eq_true, if_false, if_true]
  rfl

theorem Side.ptpRx_pdelayResp (hst : st = e.rxStamp p n frac) (hk : m.kind = .pdelayResp) {t1 : Int} (hpreq : (d.pport n).preq = some (m.seq, t1))
    (hid : m.reqId = e.clockId) (hport : m.reqPort = n + 1) :
    d.ptpRx p n m frac = if m.twoStep then e.setPport n { d.pport n with presp := some (m.seq, 65536 * (m.ts : Int), st, m.corr + e.asym n) }
      else e.setPport n { d.pport n with preq := none, mpd := some (st - t1 - (m.corr + e.asym n)) } := by
  have hpreq' : (e.pport n).preq = some (m.seq, t1) := he ▸ hpreq
  simp only [Side.ptpRx, hon, hok, hk, ← he, ← hst, hpreq', hid, hport, Bool.not_true, Bool.false_eq_true, if_false, BEq.rfl, Bool.and_self, if_true]
  rw [he, ← hpreq]
  rfl

theorem Side.ptpRx_pdelayRespFollowUp (hk : m.kind = .pdelayRespFollowUp) {t1 t2 t4 c : Int} (hpreq : (d.pport n).preq = some (m.seq, t1))
    (hpresp : (d.pport n).presp = some (m.seq, t2, t4, c)) (hid : m.reqId = e.clockId) :
    d.ptpRx p n m frac = e.setPport n { d.pport n with preq := none, presp := none, mpd := some ((t4 - t1) - (65536 * (m.ts : Int) - t2) - c - m.corr) } := by
  have hpreq' : (e.pport n).preq = some (m.seq, t1) := he ▸ hpreq
  have hpresp' : (e.pport n).presp = some (m.seq, t2, t4, c) := he ▸ hpresp
  simp only [Side.ptpRx, hon, hok, hk, ← he, hpreq', hpresp', hid, Bool.not_true, Bool.false_eq_true, if_false, BEq.rfl, Bool.and_self, if_true]
  rw [he]
  rfl

/-- A message of a master that is not the port's parent leaves the port. -/
theorem Side.ptpRx_stranger (hk : m.kind = .sync ∨ m.kind = .followUp ∨ m.kind = .delayResp) (hparent : e.fromParent n m = false) : d.ptpRx p n m frac = e := by
  obtain hk | hk | hk := hk
  · simp only [Side.ptpRx, hon, hok, hk, ← he, hparent, Bool.not_true, Bool.not_false, Bool.false_eq_true, if_false, if_true]
  · simp only [Side.ptpRx, hon, hok, hk, ← he, hparent, Bool.not_true, Bool.false_eq_true, if_false, Bool.false_and]
    split <;> rfl
  · simp only [Side.ptpRx, hon, hok, hk, ← he, hparent, Bool.not_true, Bool.false_eq_true, if_false, Bool.false_and]
    split <;> rfl

/-- A Delay_Req that finds no master under the end-to-end mechanism leaves the port. -/
theorem Side.ptpRx_unanswered (hk : m.kind = .delayReq) (h : e.pst n ≠ psMaster ∨ e.get F.PTP_CFG_DELAY_MECH = 1) : d.ptpRx p n m frac = e := by
  have hno : (decide (e.pst n = psMaster) && decide (e.get F.PTP_CFG_DELAY_MECH = 0)) = false := by
    obtain h | h := h <;> simp [h]
  simp only [Side.ptpRx, hon, hok, hk, ← he, hno, Bool.not_true, Bool.false_eq_true, if_false]

/-- RX counts a message that the port takes: what the message does leaves the count. -/
theorem Side.ptpRx_count (hn : n < 2) : (d.ptpRx p n m frac).get (F.PTP_P_RX_COUNT n) = (d.get (F.PTP_P_RX_COUNT n) + 1) % 2 ^ 32 := by
  have hcount : e.get (F.PTP_P_RX_COUNT n) = (d.get (F.PTP_P_RX_COUNT n) + 1) % 2 ^ 32 := he ▸ d.get_set_self _ _ (by change 0 + 32 ≤ 32; decide)
  have hmasters {u w : Side} (h : u.mastersKept w) : w.get (F.PTP_P_RX_COUNT n) = u.get (F.PTP_P_RX_COUNT n) := by
    refine h.2 _ ?_ ?_ fun k => ?_ <;> simp only [F.PTP_P_RX_COUNT] <;> omega
  have hpair (u : Side) (t1 t2 : Int) : (u.syncPair p n t1 t2).get (F.PTP_P_RX_COUNT n) = u.get (F.PTP_P_RX_COUNT n) := by
    rw [Side.syncPair, hmasters (Side.mastersKept_offset ..), Side.get_setPport]
  have hann : (e.rxAnnounce p n m).get (F.PTP_P_RX_COUNT n) = e.get (F.PTP_P_RX_COUNT n) := by
    rw [Side.rxAnnounce, hmasters (Side.mastersKept_bmca ..), Side.get_setPport]
  simp only [Side.ptpRx, hon, hok, ← he, Bool.not_true, Bool.false_eq_true, if_false]
  split
  case h_1 => exact hann.trans hcount
  all_goals
    repeat' split
    all_goals simp only [hpair, Side.get_setPport, hcount]

end

/-! Timeouts (R422, R425). -/

section
variable {d : Side} {p : Pkg} {n : Nat}

theorem Side.annTimeout_of_due {due : Bool} (h : due = (d.pOn n && d.pst n != psMaster && decide (psListening ≤ d.pst n) && reached p.now ((d.pport n).annAt + d.get F.PTP_LIMITS_ANN_TMO * d.annNs n))) :
    d.annTimeout p n = if due then (d.setPport n { d.pport n with foreign := [], annAt := p.now, pair := none, mpd := none, wait := none }).movePort p n
      (if d.flag F.PTP_CFG_SLAVE_ONLY then psListening else psMaster) else d := by
  have hnot : (!d.pOn n || decide (d.pst n = psMaster) || decide (d.pst n < psListening) || !reached p.now ((d.pport n).annAt + d.get F.PTP_LIMITS_ANN_TMO * d.annNs n)) = !due := by
    simp only [h, bne, Bool.not_and, ← decide_not, Nat.not_le, beq_eq_decide, not_not]
  unfold Side.annTimeout
  dsimp only
  rw [hnot]
  cases due <;> rfl

theorem Pkg.canPost_ptp (p : Pkg) {n : Nat} (h : n < 2) : p.canPost srcPtp ∧ p.canPost (0x271 + n) := by
  unfold Pkg.canPost srcAbsent srcPtp
  refine ⟨⟨by decide, by cases p.fuses.is7708 <;> decide⟩, by omega, ?_⟩
  simp
  omega

theorem Side.holdover_shown (d : Side) (p : Pkg) : (d.holdover p F.PTP_STATUS_MASTER_LOST).servo = 4 ∧ (d.holdover p F.PTP_STATUS_MASTER_LOST).get F.PTP_STATUS_MASTER_LOST = 1 := by
  unfold Side.holdover
  extract_lets d1 x d2
  have hservo : (d2.set F.PTP_OFS_STATUS_SERVO 4).get F.PTP_OFS_STATUS_SERVO = 4 := d2.get_set_self _ _ (by decide)
  refine ⟨?_, Side.fault_get_self _ (p.canPost_ptp (n := 0) (by decide)).1 (by simp [offPost, F.PTP_STATUS_MASTER_LOST]) rfl (by decide)⟩
  rw [Side.servo, Side.fault_get _ _ _ _ _ (by decide) (by simp [offPost, F.PTP_OFS_STATUS_SERVO]) (by decide), Side.setServo, Side.alignRefresh]
  split
  · exact hservo
  · rw [Side.fault_get _ _ _ _ _ (by decide) (by simp [offPost, F.PTP_OFS_STATUS_SERVO]) (by decide), Side.get_set_off _ _ (by decide)]
    exact hservo

theorem Side.syncTimeout_of_late (hst : d.pst n = psSlave) (hservo : d.servo ≠ 4)
    (hlate : ¬(tdiff p.now (d.pport n).syncAt : Rat) < ((d.get F.PTP_LIMITS_SYNC_TMO : Nat) : Rat) * intervalNs (d.pport n).logSync) :
    d.syncTimeout p n = d.holdover p F.PTP_STATUS_MASTER_LOST := if_neg (by simp [hst, hservo, hlate])

theorem Side.syncTimeout_of_not (h : d.pst n ≠ psSlave ∨ d.servo = 4 ∨ (tdiff p.now (d.pport n).syncAt : Rat) < ((d.get F.PTP_LIMITS_SYNC_TMO : Nat) : Rat) * intervalNs (d.pport n).logSync) :
    d.syncTimeout p n = d := if_pos (by simpa [or_assoc] using h)

/-! The links (R425). -/

theorem State.ethPort_ethUp (s : State) (n : Nat) (up : Bool) :
    (s.ethPort n up).pkg.hold.ethUp = if up then n :: s.pkg.hold.ethUp.filter (· ≠ n) else s.pkg.hold.ethUp.filter (· ≠ n) := rfl

/-- A port that starts anew has its state, a fresh account, and its other registers. -/
theorem Side.portStart_shown (hn : n < 2) {st : Nat}
    (hst : st = if !d.flag (F.PTP_P_CFG_EN n) then psDisabled else if d.flag (F.PTP_P_STATUS_LINK n) then psListening else psFaulty) :
    (d.portStart p n).pst n = st ∧ (d.portStart p n).pport n = { annAt := p.now, seqs := (d.pport n).seqs } ∧
    (d.portStart p n).get (F.PTP_P_STATUS_LINK n) = d.get (F.PTP_P_STATUS_LINK n) := by
  have hlt : st < 16 := by
    rw [hst]
    split
    · decide
    · split <;> decide
  unfold Side.portStart
  extract_lets st'
  rw [← show st = st' from hst]
  refine ⟨Side.movePort_pst _ p n hn hlt, ?_, ?_⟩
  · rw [Side.movePort_kept, Side.pport_setPport]
  · rw [Side.movePort_get]
    · rfl
    · change 0xF01000 ≤ 0xF01004 + 0x100 * n
      omega
    · change 0xF01004 + 0x100 * n < 0xF02000
      omega
    · exact .inr (.inr (show 0 + 4 ≤ 4 by decide))
    · change 4 + 1 ≤ 32
      decide

theorem Side.linkDrop_shown (hn : n < 2) (h : d.get (F.PTP_P_STATUS_LINK n) = 1) :
    (d.linkDrop p n).get (F.PTP_P_STATUS_LINK n) = 0 ∧ (d.linkDrop p n).get (F.PTP_P_STATUS_LINK_LOST n) = 1 ∧
    (d.linkDrop p n).pst n = (if d.flag (F.PTP_P_CFG_EN n) then psFaulty else psDisabled) ∧
    (d.linkDrop p n).pport n = { annAt := p.now, seqs := (d.pport n).seqs } := by
  have hlink : (d.set (F.PTP_P_STATUS_LINK n) 0).get (F.PTP_P_STATUS_LINK n) = 0 := d.get_set_self _ _ (show 4 + 1 ≤ 32 by decide)
  have hen : (d.set (F.PTP_P_STATUS_LINK n) 0).flag (F.PTP_P_CFG_EN n) = d.flag (F.PTP_P_CFG_EN n) :=
    congrArg (· == 1) (d.get_set_off 0 (show 0xF01000 + 0x100 * n ≠ 0xF01004 + 0x100 * n by omega))
  obtain ⟨hst, hport, hget⟩ := Side.portStart_shown (d := d.set (F.PTP_P_STATUS_LINK n) 0) (p := p) hn rfl
  have hsrc := (p.canPost_ptp hn).2
  have hpost : offPost (0xF01004 + 0x100 * n) := by
    unfold offPost
    omega
  rw [Side.linkDrop, if_pos ((Side.flag_iff d _).2 h)]
  refine ⟨?_, Side.fault_get_self _ hsrc hpost rfl (show 8 < 32 by decide), ?_, ?_⟩
  · rw [Side.fault_get_apart _ hsrc hpost (.inr (.inl (show 4 + 1 ≤ 8 by decide))) (show 4 + 1 ≤ 32 by decide), hget, hlink]
  · rw [Side.pst, Side.fault_get_apart _ hsrc hpost (.inr (.inl (show 0 + 4 ≤ 8 by decide))) (show 0 + 4 ≤ 32 by decide), ← Side.pst, hst, hen, show (d.set (F.PTP_P_STATUS_LINK n) 0).flag (F.PTP_P_STATUS_LINK n) = false from congrArg (· == 1) hlink]
    cases d.flag (F.PTP_P_CFG_EN n) <;> rfl
  · rw [Side.pport, Side.fault_ptp]
    exact hport

theorem Side.linkRise_shown (hn : n < 2) (h : d.get (F.PTP_P_STATUS_LINK n) = 0) :
    (d.linkRise p n).get (F.PTP_P_STATUS_LINK n) = 1 ∧ (d.linkRise p n).pst n = (if d.flag (F.PTP_P_CFG_EN n) then psListening else psDisabled) ∧
    (d.linkRise p n).pport n = { annAt := p.now, seqs := (d.pport n).seqs } := by
  have hlink : (d.set (F.PTP_P_STATUS_LINK n) 1).get (F.PTP_P_STATUS_LINK n) = 1 := d.get_set_self _ _ (show 4 + 1 ≤ 32 by decide)
  have hen : (d.set (F.PTP_P_STATUS_LINK n) 1).flag (F.PTP_P_CFG_EN n) = d.flag (F.PTP_P_CFG_EN n) :=
    congrArg (· == 1) (d.get_set_off 1 (show 0xF01000 + 0x100 * n ≠ 0xF01004 + 0x100 * n by omega))
  obtain ⟨hst, hport, hget⟩ := Side.portStart_shown (d := d.set (F.PTP_P_STATUS_LINK n) 1) (p := p) hn rfl
  rw [Side.linkRise, if_neg (by rw [Side.flag, h]; decide)]
  refine ⟨hget.trans hlink, ?_, hport⟩
  rw [hst, hen, (Side.flag_iff _ _).2 hlink]
  cases d.flag (F.PTP_P_CFG_EN n) <;> rfl

end

end Sys2Proof.Machine

namespace Sys2Proof.Proofs
open Sys2Proof Sys2Proof.Machine

/-- Settles O50: a message by its kind and the checks it passes, each timeout by its condition, each link by the port that starts anew. -/
theorem ptpMessagesArrive : Obligations.PtpMessagesArrive := by
  unfold Obligations.PtpMessagesArrive
  rintro n k s x d p v hn hx rfl hp rfl
  have hrun (f : Pkg → Side → Side) : ∃ l, ((s.advance k).both f).side x = { f p (s.side x) with out := l } := hp ▸ State.both_advance_of_running hx k f
  refine ⟨?message, ?announce, ?sync, ?down, ?up⟩
  case message =>
    intro m frac e st he hst
    obtain ⟨l, hl⟩ := hrun fun p d => d.ptpRx p n m frac
    refine ⟨fun hoff => ⟨_, exec_ptpMessageReceived hn m frac k s, ?off⟩, fun hon hbad => ⟨_, exec_ptpMessageReceived hn m frac k s, ?bad⟩,
      fun hon hok => ⟨_, exec_ptpMessageReceived hn m frac k s, ?taken⟩⟩
    case off =>
      rw [hl, Side.ptpRx_of_off p frac hoff]
      exact ⟨rfl, rfl⟩
    case bad =>
      rw [hl, Side.ptpRx_of_bad p frac hon hbad]
      exact ⟨rfl, Side.get_set_self _ _ _ (show 0 + 32 ≤ 32 by decide)⟩
    case taken =>
      rw [hl]
      refine ⟨Side.ptpRx_count p frac hon hok rfl hn, fun w (hw : w = ((s.side x).ptpRx p n m frac).pport n) => ?_⟩
      subst hw
      have hforeign := e.rxAnnounce_shown p n m
      have hv : e.pport n = (s.side x).pport n := he ▸ rfl
      refine ⟨fun hk => ?_, fun hk hparent c hc => ?_, fun hk t2 c hwait hparent => ?_, fun hk hmaster hmech => ?_, fun hk t3 t1 t2 hdreq hpair hparent hid hport => ?_,
        fun hk hmech => ?_, fun hk t1 hpreq hid hport c hc => ?_, fun hk t1 t2 t4 c hpreq hpresp hid => ?_, fun hk hparent => ?_, fun hk hno => ?_⟩
      · rw [Side.ptpRx_announce p frac hon hok he hk]
        rwa [hv] at hforeign
      · rw [Side.ptpRx_sync p frac hon hok he hst hk hparent rfl, ← hc]
        cases m.twoStep <;> simp
      · rw [Side.ptpRx_followUp p frac hon hok he hk hparent hwait, Side.syncPair_pport]
        exact ⟨rfl, rfl⟩
      · rw [Side.ptpRx_delayReq p frac hon hok he hst hk hmaster hmech, Side.pport_setPport]
      · rw [Side.ptpRx_delayResp p frac hon hok he hk hdreq hpair hparent hid hport, Side.pport_setPport]
        exact ⟨rfl, rfl⟩
      · rw [Side.ptpRx_pdelayReq p frac hon hok he hst hk hmech, Side.pport_setPport]
      · rw [Side.ptpRx_pdelayResp p frac hon hok he hst hk hpreq hid hport, ← hc]
        cases m.twoStep <;> simp
      · rw [Side.ptpRx_pdelayRespFollowUp p frac hon hok he hk hpreq hpresp hid, Side.pport_setPport]
        exact ⟨rfl, rfl, rfl⟩
      · rw [Side.ptpRx_stranger p frac hon hok he hk hparent, hv]
      · rw [Side.ptpRx_unanswered p frac hon hok he hk hno, hv]
  case announce =>
    intro due hdue
    obtain ⟨l, hl⟩ := hrun fun p d => d.annTimeout p n
    refine ⟨fun hnot => ⟨_, exec_announceTimeout hn k s, ?_⟩, fun hyes => ⟨_, exec_announceTimeout hn k s, ?_⟩⟩
    · rw [hl, Side.annTimeout_of_due hdue, hnot]
      exact ⟨rfl, rfl⟩
    · rw [hl, Side.annTimeout_of_due hdue, hyes]
      set y : PPort := { (s.side x).pport n with foreign := [], annAt := p.now, pair := none, mpd := none, wait := none } with hy
      set st := if (s.side x).flag F.PTP_CFG_SLAVE_ONLY then psListening else psMaster with hst
      have hport : (((s.side x).setPport n y).movePort p n st).pport n = y := by rw [Side.movePort_kept, Side.pport_setPport]
      have hlt : st < 16 := by
        rw [hst]
        split <;> decide
      exact ⟨congrArg PPort.foreign hport, congrArg PPort.annAt hport, Side.movePort_pst _ p n hn hlt⟩
  case sync =>
    intro late hlate
    obtain ⟨l, hl⟩ := hrun fun p d => d.syncTimeout p n
    refine ⟨fun hst hservo hyes => ⟨_, exec_syncTimeout hn k s, ?_⟩, fun hnot => ⟨_, exec_syncTimeout hn k s, ?_⟩⟩
    · obtain ⟨hheld, hlost⟩ := (s.side x).holdover_shown p
      rw [hl, Side.syncTimeout_of_late hst hservo (by simpa [hlate] using hyes)]
      refine ⟨hheld, hlost, ((Side.portsKept_holdover _ p (by decide)).2 (F.PTP_P_STATUS_STATE n) ?_ ?_).trans hst⟩
      · change 0xF01000 ≤ 0xF01004 + 0x100 * n
        omega
      · change 0xF01004 + 0x100 * n < 0xF02000
        omega
    · rw [hl, Side.syncTimeout_of_not (by simpa [hlate] using hnot)]
      exact ⟨rfl, rfl⟩
  case down =>
    intro h
    obtain ⟨l, hl⟩ := State.both_of_running (s := s.ethPort n false) (x := x) hx fun p d => d.linkDrop p n
    obtain ⟨hlink, hlost, hst, hport⟩ := Side.linkDrop_shown (p := (s.ethPort n false).pkg) hn h
    refine ⟨_, exec_ethLinkDown hn s, ?_⟩
    rw [hl, State.both_pkg_hold_ethUp]
    exact ⟨hlink, hlost, hst, hport, by simp [State.ethPort_ethUp]⟩
  case up =>
    intro h
    obtain ⟨l, hl⟩ := State.both_of_running (s := s.ethPort n true) (x := x) hx fun p d => d.linkRise p n
    obtain ⟨hlink, hst, hport⟩ := Side.linkRise_shown (p := (s.ethPort n true).pkg) hn h
    refine ⟨_, exec_ethLinkUp hn s, ?_⟩
    rw [hl, State.both_pkg_hold_ethUp]
    exact ⟨hlink, hst, hport, by simp [State.ethPort_ethUp]⟩

end Sys2Proof.Proofs

end

section
/-! Messages out of a port of the network clock (R415, R417, R418, R419). -/

namespace Sys2Proof.Machine

theorem exec_ptpMessageSend {n : Nat} (h : n < 2) (q : PtpKind) (udp frac k : Nat) {s : State} (hg : s.pkg.hold.granted = true) :
    exec (.ptpMessageSend n q udp frac k) s = .next ((s.advance k).both fun p d => d.ptpSend p n q (udp % 65536) frac) :=
  if_pos (by rw [hg, decide_eq_true h]; rfl)

/-! A PTP message that the active side sends leaves the package. -/

theorem Pkg.send_eth_mem (p : Pkg) (o : Outbound) {y : Nat × PtpAddr × PtpMsg} (h : y ∈ p.hold.eth) : y ∈ (p.send o).hold.eth := by
  have hemit : y ∈ (p.emit o).hold.eth := by
    cases o with
    | hostWrite => exact h
    | msix fn v =>
      rw [Pkg.emit, Pkg.sendMsix]
      split <;> exact h
    | dot =>
      rw [Pkg.emit]
      split <;> exact h
    | setpt => exact h
    | ptp => exact List.mem_append_left _ h
  unfold Pkg.send
  split
  · split
    · exact hemit
    · exact h
  · exact hemit

theorem Pkg.foldl_send_eth_mem (l : List Outbound) (p : Pkg) {y : Nat × PtpAddr × PtpMsg} (h : y ∈ p.hold.eth ∨ Outbound.ptp y.1 y.2.1 y.2.2 ∈ l) :
    y ∈ (l.foldl Pkg.send p).hold.eth := by
  induction l generalizing p with
  | nil => exact h.resolve_right List.not_mem_nil
  | cons o l ih =>
    refine ih (p.send o) ?_
    obtain h | h := h
    · exact .inl (p.send_eth_mem o h)
    · obtain rfl | h := List.mem_cons.1 h
      · exact .inl (List.mem_append_right _ (List.mem_singleton.2 rfl))
      · exact .inr h

theorem State.deliver_eth {s : State} (hg : s.pkg.hold.granted = true) (ha : s.pkg.hold.alive s.pkg.hold.active = true) {n : Nat} {a : PtpAddr} {m : PtpMsg}
    (h : .ptp n a m ∈ s.actSide.out) : (n, a, m) ∈ s.deliver.pkg.hold.eth := by
  rw [State.deliver, if_pos (by rw [hg, ha]; rfl)]
  exact Pkg.foldl_send_eth_mem s.actSide.out s.pkg (.inr h)

theorem State.both_eth {s : State} {f : Pkg → Side → Side} {x : SideId} (hg : s.pkg.hold.granted = true) (hx : s.pkg.hold.running x = true)
    {n : Nat} {a : PtpAddr} {m : PtpMsg} (h : .ptp n a m ∈ (f s.pkg (s.side x)).out) (hact : s.pkg.hold.active = x) : (n, a, m) ∈ (s.both f).pkg.hold.eth := by
  unfold State.both
  extract_lets a b
  have halive : s.pkg.hold.alive s.pkg.hold.active = true := hact ▸ (Bool.and_eq_true_iff.1 hx).1
  refine State.deliver_eth ?_ ?_ ?_
  · exact hg
  · exact halive
  dsimp only [State.actSide]
  rw [hact]
  cases x with
  | a =>
    have ha : a = f s.pkg s.sideA := if_pos hx
    exact congrArg Side.out ha ▸ h
  | b =>
    have hb : b = f s.pkg s.sideB := if_pos hx
    exact congrArg Side.out hb ▸ h

/-! What a message leaves of its side. -/

/-- From d to e message m has left port n: TX counts it, its kind's number has advanced, and it stands among the packets. -/
def Side.ptpLeft (d e : Side) (n : Nat) (m : PtpMsg) : Prop :=
  e.get (F.PTP_P_TX_COUNT n) = (d.get (F.PTP_P_TX_COUNT n) + 1) % 2 ^ 32 ∧ tget 0 (e.pport n).seqs (kindIx m.kind) = (m.seq + 1) % 65536 ∧
  .ptp n (d.ptpAddr n m.kind) m ∈ e.out

theorem Side.ptpOut_pport (d : Side) (n : Nat) (m : PtpMsg) :
    (d.ptpOut n m).pport n = { d.pport n with seqs := tset (d.pport n).seqs (kindIx m.kind) ((m.seq + 1) % 65536) } := Side.pport_setPport ..

theorem Side.ptpLeft_ptpOut (d : Side) (n : Nat) (m : PtpMsg) : d.ptpLeft (d.ptpOut n m) n m := by
  refine ⟨(d.get_set_self _ _ (show 0 + 32 ≤ 32 by decide) : _), ?_, List.mem_append_right _ (List.mem_singleton.2 rfl)⟩
  rw [Side.ptpOut_pport]
  exact tget_tset_self ..

@[simp] theorem Side.ptpOut_owed (d : Side) (n : Nat) (m : PtpMsg) : ((d.ptpOut n m).pport n).owed = (d.pport n).owed := by
  rw [Side.ptpOut_pport]

theorem Side.ptpLeft.setPport {d e : Side} {n : Nat} {m : PtpMsg} (h : d.ptpLeft e n m) {y : PPort} (hy : y.seqs = (e.pport n).seqs) : d.ptpLeft (e.setPport n y) n m := by
  obtain ⟨htx, hseq, hout⟩ := h
  refine ⟨htx, ?_, hout⟩
  rwa [Side.pport_setPport, hy]

theorem Side.ptpLeft_of_setPport {d e : Side} {n : Nat} {m : PtpMsg} {y : PPort} (h : (d.setPport n y).ptpLeft e n m) : d.ptpLeft e n m := h

/-- A message that leaves the active side of a granted package is on the network. -/
theorem State.ptpSent_of_left {s : State} {x : SideId} {f : Pkg → Side → Side} {k n : Nat} {m : PtpMsg} (hg : s.pkg.hold.granted = true) (hx : s.pkg.hold.running x = true)
    (h : (s.side x).ptpLeft (f (s.advance k).pkg (s.side x)) n m) : s.ptpSent ((s.advance k).both f) x n m := by
  obtain ⟨e, l, he, hl⟩ := State.both_advance_result hx k f
  rw [State.advance_pkg, ← he] at h
  obtain ⟨htx, hseq, hout⟩ := h
  refine ⟨?_, ?_, fun hact => ?_⟩
  · rw [hl]
    exact htx
  · rw [hl]
    exact hseq
  · refine State.both_eth (x := x) ?_ ?_ ?_ ?_
    · rwa [State.advance_pkg, Pkg.advance_hold]
    · rwa [State.advance_pkg, Pkg.advance_hold]
    · rwa [State.advance_pkg, State.advance_side, ← he]
    · rwa [State.advance_pkg, Pkg.advance_hold]

/-! What a port sends of each kind. -/

section
variable {d : Side} {n : Nat} {st : Int} (p : Pkg) (u frac : Nat) (hon : d.pOn n = true) (hst : st = d.txStamp p n frac)
include hon

theorem Side.ptpSend_announce (hmaster : d.pst n = psMaster) : d.ptpSend p n .announce u frac =
    d.ptpOut n { d.ptpOwn n .announce (toSigned 4 (d.get (F.PTP_P_CFG_LOG_ANN n))) u with
      prio1 := d.get F.PTP_DS_PRIORITY1, cls := d.get F.PTP_DS_CLOCK_CLASS, acc := Config.clockAccuracy, var := Config.clockVariance,
      prio2 := d.get F.PTP_DS_PRIORITY2, gm := d.clockId, utc := toSigned 16 (d.get F.PTP_UTC_OFS), timeSource := 0xA0 } := by
  simp only [Side.ptpSend, hon, hmaster, Bool.not_true, Bool.false_eq_true, if_false, if_true]

include hst

theorem Side.ptpSend_sync (hmaster : d.pst n = psMaster) : d.ptpSend p n .sync u frac = d.sendSync n st u := by
  simp only [Side.ptpSend, hon, hmaster, ← hst, Bool.not_true, Bool.false_eq_true, if_false, if_true]

theorem Side.ptpSend_delayReq (hmech : d.get F.PTP_CFG_DELAY_MECH = 0) (hps : d.pst n = psUncal ∨ d.pst n = psSlave) {m : PtpMsg}
    (hm : m = { d.ptpOwn n .delayReq (toSigned 4 (d.get (F.PTP_P_CFG_LOG_DREQ n))) u with corr := -d.asym n }) :
    d.ptpSend p n .delayReq u frac = (d.ptpOut n m).setPport n { (d.ptpOut n m).pport n with dreq := some (m.seq, st) } := by
  have hmay : (decide (d.get F.PTP_CFG_DELAY_MECH = 0) && (decide (d.pst n = psUncal) || decide (d.pst n = psSlave))) = true := by simpa [hmech] using hps
  subst hm
  simp only [Side.ptpSend, hon, ← hst, hmay, Bool.not_true, Bool.false_eq_true, if_false, if_true]

theorem Side.ptpSend_pdelayReq (hmech : d.get F.PTP_CFG_DELAY_MECH = 1) (hps : psListening ≤ d.pst n) {m : PtpMsg}
    (hm : m = { d.ptpOwn n .pdelayReq (toSigned 4 (d.get (F.PTP_P_CFG_LOG_DREQ n))) u with corr := -d.asym n }) :
    d.ptpSend p n .pdelayReq u frac = (d.ptpOut n m).setPport n { (d.ptpOut n m).pport n with preq := some (m.seq, st) } := by
  have hmay : (decide (d.get F.PTP_CFG_DELAY_MECH = 1) && decide (psListening ≤ d.pst n)) = true := by simpa [hmech] using hps
  subst hm
  simp only [Side.ptpSend, hon, ← hst, hmay, Bool.not_true, Bool.false_eq_true, if_false, if_true]

/-- The kinds that answer: what is owed of them leaves. -/
theorem Side.ptpSend_owed {q : PtpKind} (hq : q = .followUp ∨ q = .delayResp ∨ q = .pdelayResp ∨ q = .pdelayRespFollowUp) :
    d.ptpSend p n q u frac = d.sendOwed n q st u := by
  obtain rfl | rfl | rfl | rfl := hq <;> simp only [Side.ptpSend, hon, ← hst, Bool.not_true, Bool.false_eq_true, if_false]

omit hst

theorem Side.ptpSend_none {q : PtpKind} (h : (d.pst n ≠ psMaster ∧ (q = .sync ∨ q = .announce)) ∨ (d.get F.PTP_CFG_DELAY_MECH = 1 ∧ q = .delayReq) ∨
      (d.get F.PTP_CFG_DELAY_MECH = 0 ∧ q = .pdelayReq) ∨ q = .other ∨
      ((q = .followUp ∨ q = .delayResp ∨ q = .pdelayResp ∨ q = .pdelayRespFollowUp) ∧ (d.pport n).owed.find? (fun e => e.1.kind == q) = none)) :
    d.ptpSend p n q u frac = d := by
  obtain ⟨hps, rfl | rfl⟩ | ⟨hmech, rfl⟩ | ⟨hmech, rfl⟩ | rfl | ⟨hq, hnone⟩ := h
  · simp only [Side.ptpSend, hon, hps, Bool.not_true, Bool.false_eq_true, if_false]
  · simp only [Side.ptpSend, hon, hps, Bool.not_true, Bool.false_eq_true, if_false]
  · simp only [Side.ptpSend, hon, hmech, one_ne_zero, decide_false, Bool.false_and, Bool.not_true, Bool.false_eq_true, if_false]
  · simp only [Side.ptpSend, hon, hmech, zero_ne_one, decide_false, Bool.false_and, Bool.not_true, Bool.false_eq_true, if_false]
  · simp only [Side.ptpSend, hon, Bool.not_true, Bool.false_eq_true, if_false]
  · rw [Side.ptpSend_owed p u frac hon rfl hq, Side.sendOwed, hnone]

end

theorem Side.sendSync_oneStep {d : Side} {n : Nat} (st : Int) (u : Nat) (hone : d.flag (F.PTP_P_CFG_ONE_STEP n) = true) {m : PtpMsg} (hm : m = d.ptpOwn n .sync (d.logSync n) u) :
    d.sendSync n st u = d.ptpOut n { m with ts := wholeNs st, corr := fracNs st, udp := udpUpdate m.transport u ((tsWords 0 ++ corrWords 0).zip (tsWords (wholeNs st) ++ corrWords (fracNs st))) } := by
  subst hm
  exact if_pos hone

theorem Side.sendSync_twoStep {d : Side} {n : Nat} (st : Int) (u : Nat) (hone : d.flag (F.PTP_P_CFG_ONE_STEP n) = false) {m : PtpMsg} (hm : m = d.ptpOwn n .sync (d.logSync n) u)
    {d1 : Side} (hd1 : d1 = d.ptpOut n { m with twoStep := true }) :
    d.sendSync n st u = d1.setPport n { d1.pport n with owed := (d1.pport n).owed ++ [({ m with kind := PtpKind.followUp, ts := wholeNs st, corr := fracNs st }, 0)] } := by
  subst hm hd1
  exact if_neg (by rw [hone]; decide)

section
variable {d d1 : Side} {n : Nat} {q : PtpKind} {e : PtpMsg × Int} (st : Int) (u : Nat) (he : (d.pport n).owed.find? (fun e => e.1.kind == q) = some e)
  (hd1 : d1 = d.setPport n { d.pport n with owed := (d.pport n).owed.erase e })
include he hd1

theorem Side.sendOwed_plain (hq : q ≠ .pdelayResp) : d.sendOwed n q st u = d1.ptpOut n { e.1 with udp := u } := by
  simp only [Side.sendOwed, he, if_neg hq, hd1]

theorem Side.sendOwed_oneStep (hq : q = .pdelayResp) (hone : d.flag (F.PTP_P_CFG_ONE_STEP n) = true) :
    d.sendOwed n q st u = d1.ptpOut n { e.1 with
      corr := e.1.corr + (st - e.2), udp := udpUpdate e.1.transport u ((corrWords e.1.corr).zip (corrWords (e.1.corr + (st - e.2)))) } := by
  simp only [Side.sendOwed, he, if_pos hq, if_pos hone, hd1]

theorem Side.sendOwed_twoStep (hq : q = .pdelayResp) (hone : d.flag (F.PTP_P_CFG_ONE_STEP n) = false) {d2 : Side}
    (hd2 : d2 = d1.ptpOut n { e.1 with twoStep := true, ts := wholeNs e.2, corr := -fracNs e.2, udp := u }) :
    d.sendOwed n q st u = d2.setPport n { d2.pport n with
      owed := (d2.pport n).owed ++ [({ e.1 with kind := PtpKind.pdelayRespFollowUp, ts := wholeNs st, corr := e.1.corr + fracNs st }, 0)] } := by
  simp only [Side.sendOwed, he, if_pos hq, hone, Bool.false_eq_true, if_false, hd1, hd2]

end

end Sys2Proof.Machine

namespace Sys2Proof.Proofs
open Sys2Proof Sys2Proof.Machine

/-- Settles O49: each kind by what the port sends of it, and by what is owed before and after. -/
theorem ptpMessagesLeave : Obligations.PtpMessagesLeave := by
  unfold Obligations.PtpMessagesLeave
  rintro n frac udp k s x d st u hn hg hx rfl hst hu hon
  have hexec (q : PtpKind) : exec (.ptpMessageSend n q udp frac k) s = .next ((s.advance k).both fun p d => d.ptpSend p n q u frac) :=
    hu ▸ exec_ptpMessageSend hn q udp frac k hg
  have hside (q : PtpKind) {e : Side} (he : (s.side x).ptpSend (s.advance k).pkg n q u frac = e) :
      ∃ l, ((s.advance k).both fun p d => d.ptpSend p n q u frac).side x = { e with out := l } :=
    he ▸ State.both_advance_of_running hx k fun p d => d.ptpSend p n q u frac
  have hsent (q : PtpKind) {e : Side} {m : PtpMsg} (he : (s.side x).ptpSend (s.advance k).pkg n q u frac = e) (hleft : (s.side x).ptpLeft e n m) :
      s.ptpSent ((s.advance k).both fun p d => d.ptpSend p n q u frac) x n m := State.ptpSent_of_left (f := fun p d => d.ptpSend p n q u frac) hg hx (he ▸ hleft)
  refine ⟨fun hmaster m hm => ⟨fun hone => ?_, fun hone => ?_⟩, fun hmaster => ?_, fun hmech hps m hm => ?_, fun hmech hps m hm => ?_, fun q e hq he => ?_,
    fun e he => ⟨fun hone => ?_, fun hone => ?_⟩, fun q hq => ?_⟩
  · have heq := (Side.ptpSend_sync (s.advance k).pkg u frac hon hst hmaster).trans (Side.sendSync_oneStep st u hone hm)
    exact ⟨_, hexec .sync, hsent .sync heq (Side.ptpLeft_ptpOut ..)⟩
  · have heq := (Side.ptpSend_sync (s.advance k).pkg u frac hon hst hmaster).trans (Side.sendSync_twoStep st u hone hm rfl)
    obtain ⟨l, hl⟩ := hside .sync heq
    refine ⟨_, hexec .sync, hsent .sync heq ((Side.ptpLeft_ptpOut ..).setPport rfl), ?_⟩
    rw [hl]
    refine (congrArg PPort.owed (Side.pport_setPport ..)).trans ?_
    rw [Side.ptpOut_owed]
  · have heq := Side.ptpSend_announce (s.advance k).pkg u frac hon hmaster
    exact ⟨_, _, hexec .announce, hsent .announce heq (Side.ptpLeft_ptpOut ..), rfl, rfl, rfl, rfl, rfl, rfl, rfl, rfl⟩
  · have heq := Side.ptpSend_delayReq (s.advance k).pkg u frac hon hst hmech hps hm
    obtain ⟨l, hl⟩ := hside .delayReq heq
    refine ⟨_, hexec .delayReq, hsent .delayReq heq ((Side.ptpLeft_ptpOut ..).setPport rfl), ?_⟩
    rw [hl]
    exact congrArg PPort.dreq (Side.pport_setPport ..)
  · have heq := Side.ptpSend_pdelayReq (s.advance k).pkg u frac hon hst hmech hps hm
    obtain ⟨l, hl⟩ := hside .pdelayReq heq
    refine ⟨_, hexec .pdelayReq, hsent .pdelayReq heq ((Side.ptpLeft_ptpOut ..).setPport rfl), ?_⟩
    rw [hl]
    exact congrArg PPort.preq (Side.pport_setPport ..)
  · have hkind : q = .followUp ∨ q = .delayResp ∨ q = .pdelayResp ∨ q = .pdelayRespFollowUp := by tauto
    have hplain : q ≠ .pdelayResp := by
      obtain rfl | rfl | rfl := hq <;> decide
    have heq := (Side.ptpSend_owed (s.advance k).pkg u frac hon hst hkind).trans (Side.sendOwed_plain st u he rfl hplain)
    obtain ⟨l, hl⟩ := hside q heq
    refine ⟨_, hexec q, hsent q heq (Side.ptpLeft_of_setPport (Side.ptpLeft_ptpOut ..)), ?_⟩
    rw [hl]
    refine (Side.ptpOut_owed ..).trans ?_
    rw [Side.pport_setPport]
  · have heq := (Side.ptpSend_owed (s.advance k).pkg u frac hon hst (.inr (.inr (.inl rfl)))).trans (Side.sendOwed_oneStep st u he rfl rfl hone)
    obtain ⟨l, hl⟩ := hside .pdelayResp heq
    refine ⟨_, _, hexec .pdelayResp, hsent .pdelayResp heq (Side.ptpLeft_of_setPport (Side.ptpLeft_ptpOut ..)), rfl, ?_⟩
    rw [hl]
    refine (Side.ptpOut_owed ..).trans ?_
    rw [Side.pport_setPport]
  · have heq := (Side.ptpSend_owed (s.advance k).pkg u frac hon hst (.inr (.inr (.inl rfl)))).trans (Side.sendOwed_twoStep st u he rfl rfl hone rfl)
    obtain ⟨l, hl⟩ := hside .pdelayResp heq
    refine ⟨_, hexec .pdelayResp, hsent .pdelayResp heq ((Side.ptpLeft_of_setPport (Side.ptpLeft_ptpOut ..)).setPport rfl), ?_⟩
    rw [hl]
    refine (congrArg PPort.owed (Side.pport_setPport ..)).trans ?_
    rw [Side.ptpOut_owed, Side.pport_setPport]
  · obtain ⟨l, hl⟩ := hside q (Side.ptpSend_none (s.advance k).pkg u frac hon hq)
    refine ⟨_, hexec q, ?_⟩
    rw [hl]
    exact ⟨rfl, rfl⟩

end Sys2Proof.Proofs

end

section
/-! What steps outside the thermal block keep of it (R458 to R472): spoilt plates, shadow sets, acquisition, the fault pair. -/

namespace Sys2Proof.Machine

/-- An offset in the thermal block. -/
def thmBlock (o : Nat) : Prop := 0x1100000 ≤ o ∧ o < 0x1200000

theorem thmBlock.offPost {o : Nat} (h : thmBlock o) : offPost o := by
  unfold thmBlock at h
  unfold Sys2Proof.Machine.offPost
  omega

/-- From d to e the account of the sensors and the engines' pauses stays, and every register of the thermal block. -/
def Side.thmKept (d e : Side) : Prop := e.thm = d.thm ∧ d.regsBut (fun o => ¬thmBlock o) e

section
variable {d e u : Side}

theorem Side.thmKept_refl (d : Side) : d.thmKept d := ⟨rfl, Side.regsBut_refl _ d⟩

theorem Side.thmKept.trans (h : d.thmKept e) (h' : e.thmKept u) : d.thmKept u := ⟨h'.1.trans h.1, fun o ho => (h'.2 o ho).trans (h.2 o ho)⟩

theorem Side.thmKept.get (h : d.thmKept e) {g : Fld} (hg : thmBlock g.off) : e.get g = d.get g := Side.regsBut.get h.2 (not_not_intro hg)

theorem Side.thmKept.ite {c : Prop} [Decidable c] (h : d.thmKept e) (h' : d.thmKept u) : d.thmKept (if c then e else u) := by
  split
  · exact h
  · exact h'

theorem Side.thmKept.foldl {α : Type} {k : Side → α → Side} {l : List α} (hk : ∀ (d : Side), ∀ a ∈ l, d.thmKept (k d a)) (d : Side) : d.thmKept (l.foldl k d) :=
  List.foldlRecOn l k (motive := d.thmKept) d.thmKept_refl fun e he a ha => he.trans (hk e a ha)

theorem Side.thmKept_of_eq (hthm : e.thm = d.thm) (hrf : e.rf = d.rf) : d.thmKept e := ⟨hthm, fun o _ => congrArg (rfWord · o) hrf⟩

variable (d) (p : Pkg)

/-- A field of a block before the thermal one. -/
theorem Side.thmKept_set {f : Fld} (v : Nat) (h : f.off < 0x1100000) : d.thmKept (d.set f v) :=
  ⟨rfl, (Side.regsBut_refl _ d).set v fun ho => absurd ho.1 (by omega)⟩

theorem Side.thmKept_faultD {src : Nat} {f : Fld} (x y : Nat) (hs : src < 0x1000) (h : f.off < 0x1100000) : d.thmKept (d.faultD p src f x y) := by
  refine ⟨d.faultD_thm .., fun o ho => ?_⟩
  have ho : thmBlock o := not_not.1 ho
  exact Side.faultD_word_ne _ _ _ _ _ _ _ hs ho.offPost fun heq => absurd ho.1 (by omega)

theorem Side.thmKept_fault {src : Nat} {f : Fld} (hs : src < 0x1000) (h : f.off < 0x1100000) : d.thmKept (d.fault p src f) := d.thmKept_faultD p _ _ hs h

theorem Side.thmKept_faultIf (c : Bool) {src : Nat} {f : Fld} (hs : src < 0x1000) (h : f.off < 0x1100000) : d.thmKept (d.faultIf p c src f) :=
  .ite (d.thmKept_fault p hs h) d.thmKept_refl

theorem Side.thmKept_routePost {e : Ev} (st : Nat) (hs : e.src < 0x1000) : d.thmKept (d.routePost p e st) :=
  ⟨d.routePost_thm .., fun _ ho => d.routePost_word p e st _ hs (not_not.1 ho).offPost⟩

theorem Side.thmKept_secDenied : d.thmKept (d.secDenied p) := (d.thmKept_set _ (by decide)).trans (Side.thmKept_fault _ p (by decide) (by decide))

/-! Plates are spoiled (R181). -/

theorem Side.thmKept_spoilRunning (reason : Nat) : d.thmKept (d.spoilRunning p reason) := by
  refine .foldl (fun e r _ => .ite ?_ e.thmKept_refl) d
  unfold Side.spoilCause Side.causeEntry
  exact .ite (Side.thmKept_of_eq rfl rfl) (.ite (e.thmKept_faultD p _ _ (by decide) (by decide)) e.thmKept_refl)

/-! A shadow set is taken (R108 to R110). -/

theorem Side.thmKept_setCh (ch : Nat) (c : DmaCh) : d.thmKept (d.setCh ch c) := Side.thmKept_of_eq rfl rfl

variable {ch : Nat}

theorem Side.thmKept_dmaRefresh (h : ch < 32) : d.thmKept (d.dmaRefresh ch) := d.thmKept_set _ (by simp only [F.DMA_STATUS_MODE]; omega)

theorem Side.thmKept_setCur (h : ch < 32) (x : Option Xfer) : d.thmKept (d.setCur ch x) :=
  (d.thmKept_setCh ch _).trans (Side.thmKept_set _ _ (by simp only [F.DMA_STATUS_BUSY]; omega))

theorem Side.thmKept_shSet {ch s : Nat} (h : ch < 32) (hs : s < 3) {f : Fld} (v : Nat) (hf : f.off < 0x100100 + 0x1000 * ch + 0x40 * s) : d.thmKept (d.set f v) :=
  d.thmKept_set v (by omega)

theorem Side.thmKept_shPost (h : ch < 32) {s : Nat} (hs : s < 3) (r : Res) (bytes : Nat) : d.thmKept (d.shPost p ch s r bytes) := by
  unfold Side.shPost
  extract_lets d1 d2 d3 d4
  have hset (e : Side) {f : Fld} (v : Nat) (hf : f.off < 0x100100 + 0x1000 * ch + 0x40 * s) : e.thmKept (e.set f v) := e.thmKept_shSet h hs v hf
  have h1 : d.thmKept d1 := (hset d _ (by simp only [F.DMA_SH_RESULT_BYTES]; omega)).trans (hset _ _ (by simp only [F.DMA_SH_STATE_CODE]; omega))
  have h2 : d1.thmKept d2 := (hset d1 _ (by simp only [F.DMA_SH_STATE_SEQ]; omega)).trans (hset _ _ (by simp only [F.DMA_SH_STATE_VALID]; omega))
  have h3 : d2.thmKept d3 := (hset d2 _ (by simp only [F.DMA_SH_STATE_RUNNING]; omega)).trans (hset _ _ (by simp only [F.DMA_PROGRESS_BYTES]; omega))
  have h4 : d3.thmKept d4 := d3.thmKept_faultIf p _ (by omega) (by simp only [F.DMA_STATUS_ERR]; omega)
  have hall := ((h1.trans h2).trans h3).trans h4
  exact .ite (hall.trans (Side.thmKept_secDenied d4 p)) hall

theorem Side.thmKept_shDone (h : ch < 32) (s : Nat) (full : Bool) (bytes k : Nat) : d.thmKept (d.shDone p ch s full bytes k) :=
  .ite (d.thmKept_routePost p _ (show 0x0C0 + ch < 0x1000 by omega)) d.thmKept_refl

/-- The hand-over of a channel to the set armed first, whatever follows it, if that keeps the block. -/
theorem Side.thmKept_shTake (h : ch < 32) (fuel : Nat) : ∀ (k : Nat) (after : Side → Side) (d : Side), (∀ e : Side, e.thmKept (after e)) →
    d.thmKept (d.shTake p ch fuel k after) := by
  induction fuel with
  | zero => exact fun k after d ha => ha d
  | succ fuel ih =>
    intro k after d ha
    have hidle (e : Side) : e.thmKept (after (e.dmaRefresh ch)) := (e.thmKept_dmaRefresh h).trans (ha _)
    unfold Side.shTake
    dsimp only
    split
    · exact hidle d
    next head rest _ =>
    split
    · exact hidle d
    have htaken (c : DmaCh) (s : Nat) (hs : s < 3) : d.thmKept ((((d.setCh ch c).set (F.DMA_SH_STATE_ARMED ch s) 0).set
        (F.DMA_SH_STATE_RUNNING ch s) 1).set (F.DMA_STATUS_CUR_SH ch) s) :=
      (((d.thmKept_setCh ch c).trans (Side.thmKept_shSet _ h hs 0 (by simp only [F.DMA_SH_STATE_ARMED]; omega))).trans
        (Side.thmKept_shSet _ h hs 1 (by simp only [F.DMA_SH_STATE_RUNNING]; omega))).trans (Side.thmKept_set _ s (by simp only [F.DMA_STATUS_CUR_SH]; omega))
    have hhead : head.val < 3 := by omega
    split
    · exact ((htaken _ _ hhead).trans (Side.thmKept_setCur _ h _)).trans (hidle _)
    · exact ((((htaken _ _ hhead).trans (hidle _)).trans (Side.thmKept_shPost _ p h hhead _ _)).trans (Side.thmKept_setCh _ ch _)).trans
        (ih _ _ _ fun e => e.thmKept_shDone p h _ _ _ _)

/-! A raster channel acquires (R227). -/

theorem Side.thmKept_rasPost {c : Nat} (h : c < 16) (misses : Nat) : d.thmKept (d.rasPost c misses) := by
  refine ((d.thmKept_set _ ?_).trans (Side.thmKept_set _ misses ?_)).trans (Side.thmKept_set _ _ ?_) <;>
    simp only [F.RAS_STATUS_FACET, F.RAS_STATUS_MISSES, F.RAS_MEAN_INT_I] <;> omega

theorem Side.thmKept_acquire {c : Nat} (h : c < 16) : d.thmKept (d.acquire c) := by
  unfold Side.acquire
  exact ((Side.thmKept_of_eq rfl rfl).trans (Side.thmKept_set _ 0 (by simp only [F.RAS_STATUS_LOCK]; omega))).trans (Side.thmKept_rasPost _ h 0)

end

/-! The fault pair follows on the hold die (R490), and its postings are all that a side sees. -/

theorem State.thmKept_both {f : Pkg → Side → Side} (hf : ∀ p (d : Side), d.thmKept (f p d)) (s : State) (x : SideId) : (s.side x).thmKept ((s.both f).side x) := by
  obtain ⟨l, hl⟩ := s.both_side f x
  rw [hl]
  refine .trans ?_ (Side.thmKept_of_eq rfl rfl)
  cases s.pkg.hold.running x
  · exact (s.side x).thmKept_refl
  · exact hf _ _

theorem State.thmKept_holdFault (s : State) {src : Nat} (hs : src < 0x1000) (f : Fld) (x : SideId) : (s.side x).thmKept ((s.holdFault src f).side x) := by
  rw [State.holdFault, State.holdFaultD]
  split
  · exact (s.side x).thmKept_refl
  · exact .trans (Side.thmKept_of_eq (by cases x <;> rfl) (by cases x <;> rfl)) (State.thmKept_both (fun p d => d.thmKept_routePost p _ hs) _ x)

theorem State.thmKept_fltStart (s : State) (causes : List Nat) (x : SideId) : (s.side x).thmKept ((s.fltStart causes).side x) := by
  unfold State.fltStart
  dsimp only
  refine List.foldlRecOn _ _ (motive := fun t : State => (s.side x).thmKept (t.side x)) ?_ fun t ht k _ => ?_
  · refine .trans ?_ (State.thmKept_holdFault _ (by decide) _ x)
    rw [State.setHold_side]
    exact (s.side x).thmKept_refl
  · split
    · exact ht.trans (t.thmKept_holdFault (by decide) _ x)
    · exact ht

theorem State.thmKept_fltRefresh (s : State) (x : SideId) : (s.side x).thmKept (s.fltRefresh.side x) := by
  unfold State.fltRefresh
  dsimp only
  have hset (y : Flt) : (s.side x).thmKept ((s.setFlt y).side x) := by
    rw [State.setFlt, State.setHold_side]
    exact (s.side x).thmKept_refl
  split
  · exact hset _
  · exact (hset _).trans (State.thmKept_fltStart _ _ x)

end Sys2Proof.Machine
end

section
/-! A sensor is sampled, and the temperatures are judged (R458 to R463). -/

namespace Sys2Proof.Machine

theorem exec_thermalSample {k : Nat} (h : k < 144) (count m : Nat) (s : State) :
    exec (.thermalSample k count m) s = .next (((s.advance m).both fun p d => d.thmSample p k count).fltRefresh) := if_pos h

theorem Pkg.canPost_thm (p : Pkg) : p.canPost 0x290 := ⟨by decide, by cases h : p.fuses.is7708 <;> simp [srcAbsent]⟩

/-! A field of one bit set to a condition. -/

theorem Side.flag_set_b2n (d : Side) (f : Fld) (c : Bool) (hw : f.w = 1) (h32 : f.lo + f.w ≤ 32) : (d.set f (b2n c)).flag f = c := by
  rw [Side.flag, Side.get_set_self d f _ h32, hw]
  cases c <;> rfl

theorem Side.flag_set_apart (d : Side) {f g : Fld} (v : Nat) (h : f.apart g) (h32 : g.lo + g.w ≤ 32) : (d.set f v).flag g = d.flag g :=
  congrArg (· == 1) (d.get_set_apart v h h32)

/-! What follows once the causes show leaves them. -/

/-- From d to e the account of the sensors stays, and so does the thermal block but for the bands and the upper flags of THM_STATUS. -/
def Side.signsKept (d e : Side) : Prop :=
  e.thm = d.thm ∧ ∀ g : Fld, thmBlock g.off → g.off ≠ 0x1100018 → (g.off = 0x1100000 → g.lo + g.w ≤ 8) → g.lo + g.w ≤ 32 → e.get g = d.get g

section
variable {d e u : Side} (p : Pkg)

theorem Side.signsKept_refl (d : Side) : d.signsKept d := ⟨rfl, fun _ _ _ _ _ => rfl⟩

theorem Side.signsKept.trans (h : d.signsKept e) (h' : e.signsKept u) : d.signsKept u :=
  ⟨h'.1.trans h.1, fun g hg hb hs h32 => (h'.2 g hg hb hs h32).trans (h.2 g hg hb hs h32)⟩

theorem Side.thmKept.signs (h : d.thmKept e) : d.signsKept e := ⟨h.1, fun _ hg _ _ _ => h.get hg⟩

/-- An upper flag of THM_STATUS is posted. -/
theorem Side.signsKept_faultIf (d : Side) (c : Bool) {f : Fld} (hoff : f.off = 0x1100000) (hlo : 8 ≤ f.lo) : d.signsKept (d.faultIf p c 0x290 f) := by
  unfold Side.faultIf
  split
  · refine ⟨d.fault_thm .., fun g hg _ hs h32 => d.fault_get_apart p.canPost_thm hg.offPost ?_ h32⟩
    by_cases h : g.off = 0x1100000
    · exact .inr (.inl ((hs h).trans hlo))
    · exact .inl (by rwa [hoff])
  · exact d.signsKept_refl

theorem Side.signsKept_bandEval (d : Side) {f : Fld} (lo n : Nat) (hoff : f.off = 0x1100018) : d.signsKept (d.bandEval p f lo n) := by
  unfold Side.bandEval
  split
  · exact d.signsKept_refl
  · exact ⟨rfl, fun g _ hb _ _ => d.get_set_off _ (by rwa [hoff])⟩

end

/-! Θ and the causes. -/

/-- Side d once Θ shows the hottest sensor. -/
def Side.thetaShown (h : Nat × Int) (d : Side) : Side := (d.set F.THM_THETA_TEMP (ofSigned 16 h.2)).set F.THM_THETA_SENSOR h.1

/-- Side d once the causes, the throttle and ABOVE_HARD show these values. -/
def Side.causesShown (temp rise head above : Bool) (d : Side) : Side :=
  ((((d.set F.THM_STATUS_CAUSE_TEMP (b2n temp)).set F.THM_STATUS_CAUSE_RISE (b2n rise)).set F.THM_STATUS_CAUSE_HEAD (b2n head)).set
    F.THM_STATUS_THROTTLE (b2n (temp || rise || head))).set F.THM_STATUS_ABOVE_HARD (b2n above)

section
variable (temp rise head above : Bool) (d : Side)

theorem Side.causesShown_flags : (d.causesShown temp rise head above).flag F.THM_STATUS_CAUSE_TEMP = temp ∧
    (d.causesShown temp rise head above).flag F.THM_STATUS_CAUSE_RISE = rise ∧ (d.causesShown temp rise head above).flag F.THM_STATUS_CAUSE_HEAD = head ∧
    (d.causesShown temp rise head above).flag F.THM_STATUS_THROTTLE = (temp || rise || head) ∧
    (d.causesShown temp rise head above).flag F.THM_STATUS_ABOVE_HARD = above := by
  have hset (e : Side) (f : Fld) (c : Bool) (hw : f.w = 1) (h32 : f.lo + f.w ≤ 32) := e.flag_set_b2n f c hw h32
  have hkeep (e : Side) (f g : Fld) (v : Nat) (hne : f.lo + f.w ≤ g.lo ∨ g.lo + g.w ≤ f.lo) (h32 : g.lo + g.w ≤ 32) : (e.set f v).flag g = e.flag g :=
    e.flag_set_apart v (.inr hne.symm) h32
  unfold Side.causesShown
  refine ⟨?_, ?_, ?_, ?_, hset _ _ _ rfl (by decide)⟩
  · rw [hkeep _ _ _ _ (by decide) (by decide), hkeep _ _ _ _ (by decide) (by decide), hkeep _ _ _ _ (by decide) (by decide), hkeep _ _ _ _ (by decide) (by decide)]
    exact hset _ _ _ rfl (by decide)
  · rw [hkeep _ _ _ _ (by decide) (by decide), hkeep _ _ _ _ (by decide) (by decide), hkeep _ _ _ _ (by decide) (by decide)]
    exact hset _ _ _ rfl (by decide)
  · rw [hkeep _ _ _ _ (by decide) (by decide), hkeep _ _ _ _ (by decide) (by decide)]
    exact hset _ _ _ rfl (by decide)
  · rw [hkeep _ _ _ _ (by decide) (by decide)]
    exact hset _ _ _ rfl (by decide)

theorem Side.causesShown_get {g : Fld} (hg : g.off ≠ 0x1100000) : (d.causesShown temp rise head above).get g = d.get g :=
  ((((Side.get_set_off _ _ hg).trans (Side.get_set_off _ _ hg)).trans (Side.get_set_off _ _ hg)).trans (Side.get_set_off _ _ hg)).trans (Side.get_set_off _ _ hg)

end

theorem Side.thetaShown_shown (h : Nat × Int) (d : Side) :
    (d.thetaShown h).get F.THM_THETA_TEMP = ofSigned 16 h.2 ∧ (d.thetaShown h).get F.THM_THETA_SENSOR = h.1 % 256 := by
  refine ⟨?_, Side.get_set_self _ _ _ (by decide)⟩
  refine (Side.get_set_apart _ _ (.inr (.inl (by decide))) (by decide)).trans ((d.get_set_self _ _ (by decide)).trans ?_)
  exact Nat.mod_eq_of_lt (ofSigned_lt 16 h.2)

theorem Side.thetaShown_get (h : Nat × Int) (d : Side) {g : Fld} (hg : g.off ≠ 0x1100014) : (d.thetaShown h).get g = d.get g :=
  (Side.get_set_off _ _ hg).trans (d.get_set_off _ hg)

/-- The hottest sensor follows from the sensors' own registers. -/
theorem Side.hottest_congr {d e : Side} (h : ∀ g : Fld, 0x1101000 ≤ g.off → g.off < 0x1200000 → g.lo + g.w ≤ 32 → e.get g = d.get g) (p : Pkg) :
    e.hottest p 0 144 = d.hottest p 0 144 := by
  unfold Side.hottest
  refine List.foldl_ext _ _ _ fun best i hi => ?_
  have hi : i < 144 := List.mem_range.1 hi
  dsimp only
  rw [Side.flag, Side.flag, Side.flag, Side.flag, h (F.THM_SNS_CFG_EN (0 + i)), h (F.THM_SNS_VAL_VALID (0 + i)), h (F.THM_SNS_VAL_TEMP (0 + i))] <;>
    simp only [F.THM_SNS_CFG_EN, F.THM_SNS_VAL_VALID, F.THM_SNS_VAL_TEMP] <;> omega

section
variable {d : Side} (p : Pkg) (met : Bool) {h : Nat × Int} {temp rise above : Bool}

/-- The evaluation: Θ, the causes by what holds of it, and then only what leaves them. -/
theorem Side.thmEval_signs (hh : h = (d.hottest p 0 144).getD (0, -1024))
    (htemp : temp = decide (((d.get F.THM_LIMIT_THROTTLE : Nat) : Int) - (if d.flag F.THM_STATUS_CAUSE_TEMP then 32 else 0) ≤ h.2))
    (hrise : rise = (met || (d.flag F.THM_STATUS_CAUSE_RISE && decide (p.now - d.thm.rise < 10000000))))
    (habove : above = decide (((d.get F.THM_LIMIT_HARD : Nat) : Int) - (if d.flag F.THM_STATUS_ABOVE_HARD then 32 else 0) ≤ h.2)) :
    ∃ (head : Bool) (b : Side), b.thm.sens = d.thm.sens ∧ b.rf = (d.thetaShown h).rf ∧ (b.causesShown temp rise head above).signsKept (d.thmEval p met) := by
  unfold Side.thmEval
  extract_lets hot e1 y e2 thr hard temp' oldRise rise' head on first above' hits d1 d2 d3 d4
  obtain rfl : h = hot := hh
  have hrf : e2.rf = (d.thetaShown hot).rf := by
    unfold e2
    cases met <;> rfl
  have hsens : e2.thm.sens = d.thm.sens := by
    unfold e2
    cases met <;> rfl
  have hrun : met = true ∨ e2.thm.rise = d.thm.rise := by
    unfold e2
    cases met
    · exact .inr rfl
    · exact .inl rfl
  have hget (g : Fld) (hg : g.off ≠ 0x1100014) : e2.get g = d.get g :=
    (congrArg (rfGet · g) hrf).trans (d.thetaShown_get hot hg)
  have htemp' : temp' = temp := by
    unfold temp' thr
    rw [htemp, Side.flag, hget _ (by decide), hget _ (by decide), ← Side.flag]
    split <;> simp
  have hrise' : rise' = rise := by
    unfold rise' oldRise
    rw [hrise, Side.flag, hget _ (by decide), ← Side.flag]
    obtain hmet | hsame := hrun
    · rw [hmet]
      rfl
    · rw [hsame]
  have habove' : above' = above := by
    unfold above' hard
    rw [habove, Side.flag, hget _ (by decide), hget _ (by decide), ← Side.flag]
    split <;> simp
  have h1 : d1.set F.THM_STATUS_ABOVE_HARD (b2n above') = e2.causesShown temp rise head above := by
    rw [← htemp', ← hrise', ← habove']
    rfl
  have h2 : (d1.set F.THM_STATUS_ABOVE_HARD (b2n above')).signsKept d2 := Side.signsKept_faultIf p _ _ rfl (by decide)
  have h3 : d2.signsKept d3 := (d2.signsKept_faultIf p _ rfl (by decide)).trans (Side.signsKept_faultIf p _ _ rfl (by decide))
  have h4 : d3.signsKept d4 := (Side.thmKept.ite (d3.thmKept_spoilRunning p 0x08) d3.thmKept_refl).signs
  rw [h1] at h2
  refine ⟨head, e2, hsens, hrf, (((h2.trans h3).trans h4).trans ?_).trans (Side.signsKept_bandEval p _ 128 16 rfl)⟩
  exact (d4.signsKept_bandEval p 0 64 rfl).trans (Side.signsKept_bandEval p _ 64 64 rfl)

/-- What the evaluation shows, whatever follows that leaves the causes. -/
theorem Side.thmEval_shown {z : Side} (hh : h = (d.hottest p 0 144).getD (0, -1024)) (hz : (d.thmEval p met).signsKept z) :
    z.thm.sens = d.thm.sens ∧ (∀ g : Fld, 0x1101000 ≤ g.off → g.off < 0x1200000 → g.lo + g.w ≤ 32 → z.get g = d.get g) ∧
    z.get F.THM_THETA_TEMP = ofSigned 16 h.2 ∧ z.get F.THM_THETA_SENSOR = h.1 % 256 ∧
    z.flag F.THM_STATUS_CAUSE_TEMP = decide (((d.get F.THM_LIMIT_THROTTLE : Nat) : Int) - (if d.flag F.THM_STATUS_CAUSE_TEMP then 32 else 0) ≤ h.2) ∧
    z.flag F.THM_STATUS_CAUSE_RISE = (met || (d.flag F.THM_STATUS_CAUSE_RISE && decide (p.now - d.thm.rise < 10000000))) ∧
    z.flag F.THM_STATUS_THROTTLE = (z.flag F.THM_STATUS_CAUSE_TEMP || z.flag F.THM_STATUS_CAUSE_RISE || z.flag F.THM_STATUS_CAUSE_HEAD) ∧
    z.flag F.THM_STATUS_ABOVE_HARD = decide (((d.get F.THM_LIMIT_HARD : Nat) : Int) - (if d.flag F.THM_STATUS_ABOVE_HARD then 32 else 0) ≤ h.2) := by
  obtain ⟨head, b, hsens, hrf, hsigns⟩ := d.thmEval_signs p met hh rfl rfl rfl
  obtain ⟨hthm, hall⟩ := hsigns.trans hz
  obtain ⟨hth, hts⟩ := d.thetaShown_shown h
  have hb (g : Fld) : b.get g = (d.thetaShown h).get g := congrArg (rfGet · g) hrf
  have hstat (g : Fld) (hg : g.off = 0x1100000) (h8 : g.lo + g.w ≤ 8) := congrArg (· == 1) (hall g (by rw [hg]; exact ⟨by decide, by decide⟩) (by rw [hg]; decide) (fun _ => h8) (by omega))
  have htheta (g : Fld) (hg : g.off = 0x1100014) (h32 : g.lo + g.w ≤ 32) : z.get g = (d.thetaShown h).get g :=
    (hall g (by rw [hg]; exact ⟨by decide, by decide⟩) (by omega) (by omega) h32).trans ((Side.causesShown_get _ _ _ _ _ (by omega)).trans (hb g))
  obtain ⟨ctemp, crise, chead, cthr, cabove⟩ := Side.causesShown_flags
    (decide (((d.get F.THM_LIMIT_THROTTLE : Nat) : Int) - (if d.flag F.THM_STATUS_CAUSE_TEMP then 32 else 0) ≤ h.2))
    (met || (d.flag F.THM_STATUS_CAUSE_RISE && decide (p.now - d.thm.rise < 10000000))) head
    (decide (((d.get F.THM_LIMIT_HARD : Nat) : Int) - (if d.flag F.THM_STATUS_ABOVE_HARD then 32 else 0) ≤ h.2)) b
  have ztemp := (hstat F.THM_STATUS_CAUSE_TEMP rfl (by decide)).trans ctemp
  have zrise := (hstat F.THM_STATUS_CAUSE_RISE rfl (by decide)).trans crise
  have zhead := (hstat F.THM_STATUS_CAUSE_HEAD rfl (by decide)).trans chead
  have zthr := (hstat F.THM_STATUS_THROTTLE rfl (by decide)).trans cthr
  refine ⟨(congrArg Thm.sens hthm).trans hsens, fun g hlo hhi h32 => ?_, (htheta _ rfl (by decide)).trans hth, (htheta _ rfl (by decide)).trans hts, ztemp, zrise, ?_,
    (hstat F.THM_STATUS_ABOVE_HARD rfl (by decide)).trans cabove⟩
  · exact (hall g ⟨by omega, hhi⟩ (by omega) (by omega) h32).trans ((Side.causesShown_get _ _ _ _ _ (by omega)).trans ((hb g).trans (d.thetaShown_get _ (by omega))))
  · rw [← ztemp, ← zrise, ← zhead] at zthr
    exact zthr

end

/-! The sensor itself. -/

/-- Side d once sensor k shows a reading v. -/
def Side.sensShown (k : Nat) (v : Int) (broken fast : Bool) (d : Side) : Side :=
  (((d.set (F.THM_SNS_VAL_TEMP k) (ofSigned 16 v)).set (F.THM_SNS_VAL_BROKEN k) (b2n broken)).set (F.THM_SNS_VAL_FAST k) (b2n fast)).set (F.THM_SNS_VAL_VALID k) 1

section
variable (k : Nat) (v : Int) (broken fast : Bool) (d : Side)

theorem Side.sensShown_get {g : Fld} (hg : g.off ≠ 0x1102000 + 0x4 * k) : (d.sensShown k v broken fast).get g = d.get g :=
  (((Side.get_set_off _ _ hg).trans (Side.get_set_off _ _ hg)).trans (Side.get_set_off _ _ hg)).trans (Side.get_set_off _ _ hg)

theorem Side.sensShown_shown : (d.sensShown k v broken fast).get (F.THM_SNS_VAL_TEMP k) = ofSigned 16 v ∧
    (d.sensShown k v broken fast).flag (F.THM_SNS_VAL_BROKEN k) = broken ∧ (d.sensShown k v broken fast).flag (F.THM_SNS_VAL_FAST k) = fast ∧
    (d.sensShown k v broken fast).flag (F.THM_SNS_VAL_VALID k) = true := by
  unfold Side.sensShown
  refine ⟨?_, ?_, ?_, Side.flag_set_b2n _ (F.THM_SNS_VAL_VALID k) true rfl (show 31 + 1 ≤ 32 by decide)⟩
  · rw [Side.get_set_apart _ _ (.inr (.inl (show 0 + 16 ≤ 31 by decide))) (show 0 + 16 ≤ 32 by decide),
      Side.get_set_apart _ _ (.inr (.inl (show 0 + 16 ≤ 17 by decide))) (show 0 + 16 ≤ 32 by decide),
      Side.get_set_apart _ _ (.inr (.inl (show 0 + 16 ≤ 16 by decide))) (show 0 + 16 ≤ 32 by decide), Side.get_set_self _ _ _ (show 0 + 16 ≤ 32 by decide)]
    exact Nat.mod_eq_of_lt (ofSigned_lt 16 v)
  · rw [Side.flag_set_apart _ _ (.inr (.inl (show 16 + 1 ≤ 31 by decide))) (show 16 + 1 ≤ 32 by decide),
      Side.flag_set_apart _ _ (.inr (.inl (show 16 + 1 ≤ 17 by decide))) (show 16 + 1 ≤ 32 by decide)]
    exact Side.flag_set_b2n _ _ _ rfl (show 16 + 1 ≤ 32 by decide)
  · rw [Side.flag_set_apart _ _ (.inr (.inl (show 17 + 1 ≤ 31 by decide))) (show 17 + 1 ≤ 32 by decide)]
    exact Side.flag_set_b2n _ _ _ rfl (show 17 + 1 ≤ 32 by decide)

end

section
variable {d z : Side} {p : Pkg} {k count : Nat}

theorem Side.thmSample_absent (h : p.hold.counted k = false) : (d.thmSample p k count).word (F.THM_SNS_VAL_TEMP k).off = 0 ∧ tget {} (d.thmSample p k count).thm.sens k = {} := by
  rw [Side.thmSample, if_pos (by rw [h]; rfl)]
  exact ⟨rfWord_put_self .., tget_tset_self ..⟩

/-- Side d once sensor k has been sampled, before the temperatures are judged. -/
def Side.sensTaken (k : Nat) (v : Int) (broken fast : Bool) (w : Sens) (d : Side) : Side := (d.sensShown k v broken fast).setSens k w

theorem Side.sensTaken_kept (v : Int) (broken fast : Bool) (w : Sens) : (∀ g : Fld, (d.sensTaken k v broken fast w).get g = (d.sensShown k v broken fast).get g) ∧
    (d.sensTaken k v broken fast w).thm.rise = d.thm.rise ∧ tget {} (d.sensTaken k v broken fast w).thm.sens k = w := ⟨fun _ => rfl, rfl, tget_tset_self ..⟩

section
variable {n : Nat} {was broken met : Bool} {v : Int} {y : Sens} (hc : p.hold.counted k = true) (hn : n = p.sensCount k count)
  (hwas : was = d.flag (F.THM_SNS_VAL_BROKEN k)) (hy : y = tget {} d.thm.sens k)
  (hbroken : broken = if was then !whole ((n :: y.good).take 16) else countBad n || run4 ((n :: y.counts).take 4))
  (hv : v = if broken then 2400 else p.fuses.reading k n)
  (hmet : met = (d.flag (F.THM_SNS_CFG_EN k) && risen p.now (d.get F.THM_RISE_RATE) (keepReads p.now ((p.now, v) :: y.reads))))
include hc hn hwas hy hbroken hv hmet

theorem Side.thmSample_eq : d.thmSample p k count = ((d.sensTaken k v broken (broken || decide (((d.get F.THM_LIMIT_THROTTLE : Nat) : Int) - 160 ≤ v))
      { counts := (n :: y.counts).take 4, good := if was && broken then (n :: y.good).take 16 else [], reads := keepReads p.now ((p.now, v) :: y.reads) }).thmEval p met).faultIf
    p (broken && !was) 0x290 F.THM_STATUS_BROKEN := by
  rw [Side.thmSample, if_neg (by rw [hc]; decide)]
  dsimp only
  rw [← hn, ← hwas, ← hy, ← hbroken, ← hv, ← hmet]
  rfl

/-- What a sample shows, by the count it gives. -/
theorem Side.thmSample_shown (hk : k < 144) (hz : (d.thmSample p k count).thmKept z) :
    ∃ h, z.get (F.THM_SNS_VAL_TEMP k) = ofSigned 16 v ∧ z.flag (F.THM_SNS_VAL_BROKEN k) = broken ∧
      z.flag (F.THM_SNS_VAL_FAST k) = (broken || decide (((d.get F.THM_LIMIT_THROTTLE : Nat) : Int) - 160 ≤ v)) ∧ z.flag (F.THM_SNS_VAL_VALID k) = true ∧
      (tget {} z.thm.sens k).counts = (n :: y.counts).take 4 ∧ (tget {} z.thm.sens k).reads = keepReads p.now ((p.now, v) :: y.reads) ∧
      h = (z.hottest p 0 144).getD (0, -1024) ∧ z.get F.THM_THETA_TEMP = ofSigned 16 h.2 ∧ z.get F.THM_THETA_SENSOR = h.1 % 256 ∧
      z.flag F.THM_STATUS_CAUSE_TEMP = decide (((d.get F.THM_LIMIT_THROTTLE : Nat) : Int) - (if d.flag F.THM_STATUS_CAUSE_TEMP then 32 else 0) ≤ h.2) ∧
      z.flag F.THM_STATUS_CAUSE_RISE = (met || (d.flag F.THM_STATUS_CAUSE_RISE && decide (p.now - d.thm.rise < 10000000))) ∧
      z.flag F.THM_STATUS_THROTTLE = (z.flag F.THM_STATUS_CAUSE_TEMP || z.flag F.THM_STATUS_CAUSE_RISE || z.flag F.THM_STATUS_CAUSE_HEAD) ∧
      z.flag F.THM_STATUS_ABOVE_HARD = decide (((d.get F.THM_LIMIT_HARD : Nat) : Int) - (if d.flag F.THM_STATUS_ABOVE_HARD then 32 else 0) ≤ h.2) := by
  rw [Side.thmSample_eq hc hn hwas hy hbroken hv hmet] at hz
  generalize hw : ({ counts := _, good := _, reads := _ } : Sens) = w at hz
  generalize (broken || decide (((d.get F.THM_LIMIT_THROTTLE : Nat) : Int) - 160 ≤ v)) = fast at hz ⊢
  obtain ⟨hget, hrise, hsens⟩ := Side.sensTaken_kept (d := d) (k := k) v broken fast w
  obtain ⟨htemp, hbrk, hfst, hvld⟩ := d.sensShown_shown k v broken fast
  have hold (g : Fld) (hg : g.off < 0x1102000) : (d.sensTaken k v broken fast w).get g = d.get g := (hget g).trans (d.sensShown_get k v broken fast (by omega))
  generalize d.sensTaken k v broken fast w = e at *
  have hflag (g : Fld) (hg : g.off < 0x1102000) : e.flag g = d.flag g := congrArg (· == 1) (hold g hg)
  obtain ⟨zsens, zown, zth, zts, ztemp, zrise, zthr, zabove⟩ := Side.thmEval_shown p met rfl ((Side.signsKept_faultIf p _ (broken && !was) rfl (by decide)).trans hz.signs)
  rw [hold _ (by decide), hflag _ (by decide)] at ztemp zabove
  rw [hflag _ (by decide), hrise] at zrise
  have hval (g : Fld) (hg : g.off = 0x1102000 + 0x4 * k) (h32 : g.lo + g.w ≤ 32) : z.get g = (d.sensShown k v broken fast).get g :=
    (zown g (by omega) (by omega) h32).trans (hget g)
  have hvalFlag (g : Fld) (hg : g.off = 0x1102000 + 0x4 * k) (h32 : g.lo + g.w ≤ 32) : z.flag g = (d.sensShown k v broken fast).flag g := congrArg (· == 1) (hval g hg h32)
  have zw : tget {} z.thm.sens k = w := by rw [zsens, hsens]
  refine ⟨(e.hottest p 0 144).getD (0, -1024), (hval _ rfl (show 0 + 16 ≤ 32 by decide)).trans htemp, (hvalFlag _ rfl (show 16 + 1 ≤ 32 by decide)).trans hbrk,
    (hvalFlag _ rfl (show 17 + 1 ≤ 32 by decide)).trans hfst, (hvalFlag _ rfl (show 31 + 1 ≤ 32 by decide)).trans hvld, by rw [zw, ← hw], by rw [zw, ← hw],
    by rw [Side.hottest_congr zown], zth, zts, ztemp, zrise, zthr, zabove⟩

end

end

end Sys2Proof.Machine
end

section
/-! Throttle pauses, refresh rates, NAP, and the groups of a nap that ends (R464, R467, R470, R471). -/

namespace Sys2Proof.Machine

theorem exec_throttlePauseEnd {e : Nat} (h : e < 42) (k : Nat) (s : State) :
    exec (.throttlePauseEnd e k) s = .next ((s.advance k).both fun p d => d.pauseEnds p e) := if_pos h

theorem exec_nap {s : State} (h : s.accepts true 0x1100034 1) : exec .nap s = .next (s.both Side.nap) := congrArg Host.Outcome.next (State.accepts_asWrite h _)

theorem exec_deep {s : State} (h : s.accepts true 0x1100034 2) : exec .deep s = .next s.deep := congrArg Host.Outcome.next (State.accepts_asWrite h _)

theorem exec_wake {s : State} (h : s.accepts true 0x1100034 4) : exec .wake s = .next s.wake := congrArg Host.Outcome.next (State.accepts_asWrite h _)

theorem exec_wakeGroupRestored {g : Nat} (h : g < 8) (s : State) : exec (.wakeGroupRestored g) s = .next (s.both (Side.timed fun p d => d.groupBack p g)) := if_pos h

/-! A pause ends (R464). -/

/-- A table without the entries of one number. -/
theorem tget_filter_ne {α : Type} (d : α) (t : Tab α) (i j : Nat) : tget d (t.filter fun x => x.1 ≠ i) j = if j = i then d else tget d t j := by
  induction t with
  | nil => exact (ite_self d).symm
  | cons e t ih =>
    have hcons (u : Tab α) : tget d (e :: u) j = if j = e.1 then e.2 else tget d u j := rfl
    by_cases he : e.1 = i
    · rw [List.filter_cons_of_neg (by simpa using he), ih, hcons]
      by_cases hj : j = i
      · rw [if_pos hj, if_pos hj]
      · rw [if_neg hj, if_neg hj, if_neg (he ▸ hj)]
    · rw [List.filter_cons_of_pos (by simpa using he), hcons, ih, hcons]
      by_cases hj : j = i
      · rw [if_pos hj, if_neg (by rw [hj]; exact Ne.symm he), if_pos hj]
      · rw [if_neg hj, if_neg hj]

section
variable {d : Side} {p : Pkg} {e : Nat}

theorem Side.pauseEnds_of_due (hpaused : d.paused e = true) (hdue : reached p.now (tget 0 d.thm.pause e) = true) :
    (d.pauseEnds p e).paused e = false ∧ (∀ j, j ≠ e → (d.pauseEnds p e).paused j = d.paused j) ∧
    ((d.engOp e).isSome = true → tget 0 (d.pauseEnds p e).thm.busy e = p.now + 1) := by
  rw [Side.pauseEnds, if_pos (by rw [hpaused, hdue]; rfl)]
  refine ⟨?_, fun j hj => ?_, fun hop => ?_⟩
  · rw [Side.paused, tget_filter_ne, if_pos rfl]
    rfl
  · rw [Side.paused, tget_filter_ne, if_neg hj]
    rfl
  · dsimp only
    rw [if_pos hop]
    exact tget_tset_self ..

theorem Side.pauseEnds_of_not (h : d.paused e = false ∨ reached p.now (tget 0 d.thm.pause e) = false) : d.pauseEnds p e = d :=
  if_neg (by obtain h | h := h <;> simp [h])

end

/-! NAP and DEEP refused (R470). -/

theorem Side.pwrReason_lt (d : Side) (p : Pkg) (deep : Bool) : d.pwrReason p deep < 16 := by
  unfold Side.pwrReason
  repeat' split
  all_goals decide

theorem Side.pwrRefused_shown (d : Side) (p : Pkg) {r : Nat} (hr : r < 16) : (d.pwrRefused p r).get F.THM_PWR_STATE_STATE = d.get F.THM_PWR_STATE_STATE ∧
    (d.pwrRefused p r).get F.THM_PWR_STATE_REASON = r ∧ (d.pwrRefused p r).get F.THM_STATUS_WINDOW_VIOL = 1 := by
  have hpost {o : Nat} (h : thmBlock o) := h.offPost
  refine ⟨?_, ?_, Side.fault_get_self _ p.canPost_thm (hpost ⟨by decide, by decide⟩) rfl (by decide)⟩
  · exact (Side.fault_get_apart _ p.canPost_thm (hpost ⟨by decide, by decide⟩) (.inl (by decide)) (by decide)).trans
      (d.get_set_apart _ (.inr (.inl (by decide))) (by decide))
  · exact (Side.fault_get_apart _ p.canPost_thm (hpost ⟨by decide, by decide⟩) (.inl (by decide)) (by decide)).trans
      ((d.get_set_self _ _ (by decide)).trans (Nat.mod_eq_of_lt hr))

section
variable {d : Side} {p : Pkg}

theorem Side.nap_of_free (h : d.pwrReason p false = 0) : d.nap p = d.set F.THM_PWR_STATE_STATE 2 := by
  unfold Side.nap
  split
  next => rfl
  next h0 => exact absurd h h0

theorem Side.nap_of_busy (h : d.pwrReason p false ≠ 0) : d.nap p = d.pwrRefused p (d.pwrReason p false) := by
  unfold Side.nap
  split
  next h0 => exact absurd h0 h
  next => rfl

end

/-! A group is restored (R471). -/

theorem Side.stale_iff (d : Side) {k : Nat} (hk : k < 8) : d.stale k = d.flag ⟨0x1100038, k, 1⟩ := by
  have hlow : d.get F.THM_PWR_STALE_GROUP = d.word 0x1100038 % 2 ^ 8 := congrArg (· % 2 ^ 8) (Nat.div_one _)
  rw [Side.stale, hlow]
  exact bit_eq_of_bits (bits_mod (d.word 0x1100038) 8 k 1 (by omega))

theorem Side.stale_none {d : Side} (h : ∀ k, k < 8 → d.stale k = false) : d.get F.THM_PWR_STALE_GROUP = 0 := by
  refine Nat.eq_of_testBit_eq fun k => ?_
  rw [Nat.zero_testBit]
  by_cases hk : k < 8
  · rw [Nat.testBit_eq_decide_div_mod_eq, ← beq_eq_decide]
    exact h k hk
  · rw [Side.get, rfGet, testBit_bits, show decide (k < F.THM_PWR_STALE_GROUP.w) = false from decide_eq_false hk, Bool.false_and]

section
variable {d e : Side} {p : Pkg} {g : Nat}

theorem Side.groupBack_of_not (h : d.get F.THM_PWR_STATE_WAKING = 0 ∨ d.stale g = false) : d.groupBack p g = d := by
  refine if_pos ?_
  obtain h | h := h
  · rw [Side.flag, h]
    rfl
  · rw [h]
    exact Bool.or_true _

/-- What the contents of group g take with them. -/
def Side.groupWork (p : Pkg) (g : Nat) (d : Side) : Side :=
  match g with
  | 0 => (List.range 32).foldl (fun d ch => if (d.ch ch).cur.isNone then d.shTake p ch 3 0 id else d) d
  | 4 => (List.range p.beams).foldl (fun d c => d.acquire c) d
  | 7 => { d with mpl := { d.mpl with heat := [], swept := 4096 } }
  | _ => d

theorem Side.thmKept_groupWork (p : Pkg) (g : Nat) (d : Side) : d.thmKept (d.groupWork p g) := by
  unfold Side.groupWork
  split
  · exact .foldl (fun e ch hch => .ite (Side.thmKept_shTake p (List.mem_range.1 hch) 3 0 id e fun u => u.thmKept_refl) e.thmKept_refl) d
  · exact .foldl (fun e c hc => e.thmKept_acquire ((List.mem_range.1 hc).trans_le p.beams_le)) d
  · exact Side.thmKept_of_eq rfl rfl
  · exact d.thmKept_refl

theorem Side.groupBack_of_due (hw : d.get F.THM_PWR_STATE_WAKING = 1) (hs : d.stale g = true) (he : e = (d.set ⟨0x1100038, g, 1⟩ 0).groupWork p g) :
    d.groupBack p g = if e.get F.THM_PWR_STALE_GROUP = 0 then (e.set F.THM_PWR_STATE_STATE 0).set F.THM_PWR_STATE_WAKING 0 else e := by
  subst he
  exact if_neg (by simp [(Side.flag_iff d _).2 hw, hs])

/-- The group's bit is cleared, and the others stay. -/
theorem Side.groupWork_stale (hg : g < 8) (he : e = (d.set ⟨0x1100038, g, 1⟩ 0).groupWork p g) {k : Nat} (hk : k < 8) : e.stale k = (d.stale k && k != g) := by
  have hblock : thmBlock F.THM_PWR_STALE_GROUP.off := ⟨by decide, by decide⟩
  have hkept : e.stale k = (d.set ⟨0x1100038, g, 1⟩ 0).stale k := congrArg (bit · k) (he ▸ (Side.thmKept_groupWork p g _).get hblock)
  rw [hkept, Side.stale_iff _ hk, Side.stale_iff _ hk]
  by_cases h : k = g
  · subst h
    have hself : (d.set ⟨0x1100038, k, 1⟩ 0).get ⟨0x1100038, k, 1⟩ = 0 % 2 ^ 1 := d.get_set_self _ 0 (show k + 1 ≤ 32 by omega)
    rw [Side.flag, hself]
    simp
  · rw [d.flag_set_apart 0 (.inr (show k + 1 ≤ g ∨ g + 1 ≤ k by omega)) (show k + 1 ≤ 32 by omega), bne_iff_ne.2 h, Bool.and_true]

theorem Side.groupBack_shown (hg : g < 8) (hw : d.get F.THM_PWR_STATE_WAKING = 1) (hs : d.stale g = true) :
    (∀ k, k < 8 → (d.groupBack p g).stale k = (d.stale k && k != g)) ∧
    ((∀ k, k < 8 → k ≠ g → d.stale k = false) → (d.groupBack p g).get F.THM_PWR_STATE_STATE = 0 ∧ (d.groupBack p g).get F.THM_PWR_STATE_WAKING = 0) ∧
    (g = 7 → (d.groupBack p g).mpl.heat = []) := by
  have hheat : g = 7 → ((d.set ⟨0x1100038, g, 1⟩ 0).groupWork p g).mpl.heat = [] := by
    rintro rfl
    rfl
  have hstale (k : Nat) (hk : k < 8) := Side.groupWork_stale (p := p) hg rfl (d := d) hk
  rw [Side.groupBack_of_due hw hs rfl]
  generalize (d.set ⟨0x1100038, g, 1⟩ 0).groupWork p g = e at *
  refine ⟨fun k hk => ?_, fun hlast => ?_, fun h7 => ?_⟩
  · rw [← hstale k hk]
    split
    · exact congrArg (bit · k) ((Side.get_set_off _ _ (by decide)).trans (e.get_set_off _ (by decide)))
    · rfl
  · have hnone : e.get F.THM_PWR_STALE_GROUP = 0 := Side.stale_none fun k hk => by
      rw [hstale k hk]
      by_cases h : k = g
      · rw [bne_eq_false_iff_eq.2 h, Bool.and_false]
      · rw [hlast k hk h]
        rfl
    rw [if_pos hnone]
    exact ⟨(Side.get_set_apart _ _ (.inr (.inl (by decide))) (by decide)).trans (e.get_set_self _ _ (by decide)), Side.get_set_self _ _ _ (by decide)⟩
  · rw [← hheat h7]
    split <;> rfl

end

/-! A nap ends (R471). -/

section
variable {d : Side}

theorem Side.napWake_of_nap (hst : d.get F.THM_PWR_STATE_STATE = 2) (hw : d.get F.THM_PWR_STATE_WAKING = 0) :
    d.napWake.get F.THM_PWR_STATE_WAKING = 1 ∧ d.napWake.get F.THM_PWR_STALE_GROUP = 255 := by
  rw [Side.napWake, if_pos (by simp [hst, Side.flag, hw])]
  exact ⟨(Side.get_set_off _ _ (by decide)).trans (d.get_set_self _ _ (by decide)), Side.get_set_self _ _ _ (by decide)⟩

theorem Side.napWake_of_not (h : d.get F.THM_PWR_STATE_STATE ≠ 2 ∨ d.get F.THM_PWR_STATE_WAKING = 1) : d.napWake = d := by
  refine if_neg ?_
  obtain h | h := h
  · simp [h]
  · simp [(Side.flag_iff d _).2 h]

end

end Sys2Proof.Machine
end

section
/-! DEEP, and the wake from it (R470, R471, R472). -/

namespace Sys2Proof.Machine

/-! What DEEP leaves of a side. -/

/-- The fields of the security block that no work on jobs or the recipe changes: those of other registers than SEC_STATUS and the
recipe's, and the level. -/
def secStays (f : Fld) : Prop :=
  0x1000000 ≤ f.off ∧ f.off < 0x1001000 ∧ f.off ≠ 0x100001C ∧ f.lo + f.w ≤ 32 ∧ (f.off = 0x1000000 → f.lo + f.w ≤ 5)

section
variable {d : Side} {p : Pkg} {f : Fld} (hf : secStays f)
include hf

theorem secStays.set_high (d : Side) {g : Fld} (v : Nat) (hg : secHigh g) : (d.set g v).get f = d.get f := by
  obtain ⟨-, -, -, h32, h5⟩ := hf
  obtain ⟨hoff, hlo⟩ := hg
  refine d.get_set_apart v ?_ h32
  by_cases h : f.off = 0x1000000
  · exact .inr (.inl ((h5 h).trans hlo))
  · exact .inl (by rwa [hoff])

theorem secStays.recipeClear (d : Side) : d.recipeClear.get f = d.get f :=
  (Side.get_set_off (f := F.SEC_RECIPE_ID_ID) _ 0 hf.2.2.1).trans (hf.set_high d 0 (g := F.SEC_STATUS_RECIPE) ⟨rfl, by decide⟩)

theorem secStays.jobZero (d : Side) : d.jobZero.get f = d.get f := by
  obtain ⟨hlo, -⟩ := hf
  unfold Side.jobZero
  extract_lets marked d1 d2
  have h1 : d1.get f = d.get f :=
    List.foldlRecOn marked _ (motive := fun e : Side => e.get f = d.get f) rfl fun e he k hk => by
      have hk : k < 16 := List.mem_range.1 (List.mem_of_mem_filter hk)
      refine Eq.trans ?_ he
      exact e.get_set_off (f := F.LAW_TR_STATE_AREA_CONF k) 0 (by simp only [F.LAW_TR_STATE_AREA_CONF]; omega)
  clear_value d1
  have h2 : d2.get f = d1.get f :=
    List.foldlRecOn (List.range 16) _ (motive := fun e : Side => e.get f = d1.get f) rfl fun e he c hc => by
      have hc : c < 16 := List.mem_range.1 hc
      refine Eq.trans (Side.get_of_word f ?_) he
      exact rfWord_put_ne e.rf 0 (by simp only [F.MPL_CH_LIVE_F]; omega)
  clear_value d2
  exact h2.trans h1

end

theorem Side.jobZero_sec (d : Side) : d.jobZero.sec = d.sec := by
  unfold Side.jobZero
  extract_lets marked d1 d2
  have h1 : d1.sec = d.sec := List.foldlRecOn marked _ (motive := fun e : Side => e.sec = d.sec) rfl fun e he k _ => he
  clear_value d1
  have h2 : d2.sec = d1.sec := List.foldlRecOn (List.range 16) _ (motive := fun e : Side => e.sec = d1.sec) rfl fun e he c _ => he
  clear_value d2
  exact h2.trans h1

theorem secStays_debug : secStays F.SEC_STATUS_DEBUG := ⟨by decide, by decide, by decide, by decide, fun _ => by decide⟩

theorem secStays_present {k : Nat} (hk : k < 16) : secStays (F.SEC_KEY_STATE_PRESENT k) := by
  refine ⟨?_, ?_, ?_, show 0 + 1 ≤ 32 by decide, fun h => ?_⟩
  · change 0x1000000 ≤ 0x1000108 + 0x10 * k
    omega
  · change 0x1000108 + 0x10 * k < 0x1001000
    omega
  · change 0x1000108 + 0x10 * k ≠ 0x100001C
    omega
  · exact absurd (show 0x1000108 + 0x10 * k = 0x1000000 from h) (by omega)

/-- A key slot's PRESENT is left by a fault of the security block and by the locks. -/
theorem Side.keyPresent_fault (d : Side) (p : Pkg) {g : Fld} (hg : g.off = 0x1000000) {k : Nat} (hk : k < 16) : (d.fault p 0x280 g).keyPresent k = d.keyPresent k :=
  congrArg (· == 1) (d.fault_get_apart p.canPost_sec (by change offPost (0x1000108 + 0x10 * k); unfold offPost; omega)
    (.inl (by rw [hg]; change 0x1000108 + 0x10 * k ≠ 0x1000000; omega)) (show 0 + 1 ≤ 32 by decide))

theorem Side.keyPresent_obsLock (d : Side) (j k : Nat) : (d.obsLock j).keyPresent k = d.keyPresent k := by
  refine congrArg (· == 1) (d.get_set_apart _ ?_ (show 0 + 1 ≤ 32 by decide))
  exact .inr (.inl (show 0 + 1 ≤ 2 by decide))

theorem Side.keyPresent_toLevel (d : Side) (p : Pkg) (v signer : Nat) {k : Nat} (hk : k < 16) : (d.toLevel p v signer).keyPresent k = d.keyPresent k := by
  have hne : (F.SEC_KEY_STATE_PRESENT k).off ≠ 0x1000000 := by
    change 0x1000108 + 0x10 * k ≠ 0x1000000
    omega
  unfold Side.toLevel
  split
  · rfl
  · rw [Side.keyPresent_fault _ p rfl hk]
    refine List.foldlRecOn _ _ (motive := fun e : Side => e.keyPresent k = d.keyPresent k) ?_ fun e he j _ => (e.keyPresent_obsLock j k).trans he
    exact congrArg (· == 1) ((Side.get_set_off _ _ hne).trans (d.get_set_off _ hne))

/-- A slot that is emptied. -/
theorem Side.keyPresent_keyDrop (d : Side) (k : Nat) : (d.keyDrop k).keyPresent k = false := by
  have hzero : (d.keyDrop k).get (F.SEC_KEY_STATE_PRESENT k) = bits 0 0 1 :=
    Side.get_setWord (g := F.SEC_KEY_STATE_PRESENT k) _ 0 rfl (show 0 + 1 ≤ 32 by decide)
  exact congrArg (· == 1) hzero

theorem Side.keyPresent_keyDrop_ne (d : Side) {j k : Nat} (h : k ≠ j) : (d.keyDrop j).keyPresent k = d.keyPresent k := by
  have hid : (d.set64 (F.SEC_KEY_ID_LO_JOB_ID j) (F.SEC_KEY_ID_HI_JOB_ID j) 0).word (F.SEC_KEY_STATE_PRESENT k).off = d.word (F.SEC_KEY_STATE_PRESENT k).off :=
    (rfWord_rfSet_off _ _ _ _ (by change 0x1000108 + 0x10 * k ≠ 0x1000104 + 0x10 * j; omega)).trans
      (rfWord_rfSet_off _ _ _ _ (by change 0x1000108 + 0x10 * k ≠ 0x1000100 + 0x10 * j; omega))
  exact congrArg (· == 1) (Side.get_of_word _ ((rfWord_put_ne _ _ (by change 0x1000108 + 0x10 * k ≠ 0x1000108 + 0x10 * j; omega)).trans hid))

theorem Side.keyPresent_keysZero (d : Side) (p : Pkg) {k : Nat} (hk : k < 16) : (d.keysZero p).keyPresent k = false := by
  unfold Side.keysZero
  split
  next h =>
    obtain ⟨e, -, he⟩ := foldl_range_at (K := fun d e : Side => e.keyPresent k = d.keyPresent k) (fun _ => rfl) (fun h h' => h'.trans h) (f := Side.keyDrop) hk
      (fun e j hj _ => e.keyPresent_keyDrop_ne (Ne.symm hj)) d
    have hguard (e : Side) : e.guardRefresh.keyPresent k = e.keyPresent k :=
      congrArg (· == 1) (e.guardRefresh_get (by change 0x1000108 + 0x10 * k ≠ 0x1000000; omega))
    rw [hguard, Side.keyPresent_fault _ p rfl hk, he]
    exact e.keyPresent_keyDrop k
  next h =>
    rw [Bool.not_eq_true, List.any_eq_false] at h
    simpa using h k (List.mem_range.2 hk)

theorem Side.deep_shown (d : Side) (p : Pkg) : (d.deep p).get F.THM_PWR_STATE_STATE = 3 ∧ (d.deep p).hist = [] ∧ (d.deep p).level = 0 ∧ (d.deep p).sec.recipe = [] ∧
    ∀ k, k < 16 → (d.deep p).keyPresent k = false := by
  unfold Side.deep
  extract_lets d1 d2
  have hrecipe : d2.sec.recipe = [] := congrArg Sec.recipe d1.jobZero_sec
  have hstay (f : Fld) (hf : secStays f) : d2.get f = ((d.lawHalt.keysZero p).toLevel p 0 0).get f :=
    (hf.set_high _ 0 ⟨rfl, by decide⟩).trans ((hf.set_high _ 0 ⟨rfl, by decide⟩).trans ((hf.jobZero d1).trans (hf.recipeClear _)))
  clear_value d2
  have hlast (f : Fld) (hf : secStays f) : (d2.set F.THM_PWR_STATE_STATE 3).get f = d2.get f :=
    d2.get_set_off 3 (by obtain ⟨-, hhi, -⟩ := hf; change f.off ≠ 0x1100030; omega)
  refine ⟨Side.get_set_self _ _ _ (by decide), rfl, ?_, hrecipe, fun k hk => ?_⟩
  · exact ((hlast _ secStays_debug).trans (hstay _ secStays_debug)).trans (Side.toLevel_level _ p (by decide) 0)
  · have hlevel := Side.keyPresent_toLevel (d.lawHalt.keysZero p) p 0 0 hk
    rw [Side.keyPresent_keysZero _ p hk] at hlevel
    exact (congrArg (· == 1) ((hlast _ (secStays_present hk)).trans (hstay _ (secStays_present hk)))).trans hlevel

/-! DEEP of the package. -/

/-- A port that goes down leaves the hold die's registers and which sides work. -/
theorem State.portOff_hold (s : State) (n : Nat) : (s.portOff n).pkg.hold.rf = s.pkg.hold.rf ∧ (s.portOff n).pkg.hold.stopped = s.pkg.hold.stopped ∧
    (s.portOff n).pkg.hold.deep = s.pkg.hold.deep := by
  unfold State.portOff
  split
  · exact ⟨rfl, rfl, rfl⟩
  · exact ⟨State.both_pkg_hold_rf .., State.both_pkg_hold_stopped .., State.both_pkg_hold_deep ..⟩

theorem State.portsOff_running (s : State) (x : SideId) (l : List Nat) : (l.foldl State.portOff s).pkg.hold.running x = s.pkg.hold.running x :=
  List.foldlRecOn l State.portOff (motive := fun t : State => t.pkg.hold.running x = s.pkg.hold.running x) rfl fun t ht n _ => by
    obtain ⟨hrf, hstop, hdeep⟩ := t.portOff_hold n
    exact (Hold.running_congr x hrf hstop hdeep).trans ht

section
variable {s : State}

/-- A side that is told of a DEEP which does not come about. -/
def Side.deepAnswer (p : Pkg) (d : Side) : Side :=
  match d.pwrReason p true with
  | 0 => d
  | r => d.pwrRefused p r

theorem Side.deepAnswer_of_busy {d : Side} {p : Pkg} {r : Nat} (hr : r = d.pwrReason p true) (h : r ≠ 0) : d.deepAnswer p = d.pwrRefused p r := by
  subst hr
  unfold Side.deepAnswer
  split
  next h0 => exact absurd h0 h
  next => rfl

theorem State.deep_of_busy (h : s.actSide.pwrReason s.pkg true ≠ 0) : s.deep = s.both Side.deepAnswer := if_pos (by simp [h])

theorem State.deep_of_free (h : s.actSide.pwrReason s.pkg true = 0) (hrun : s.pkg.hold.running s.pkg.hold.active = true) :
    s.deep.pkg.hold.deep = true ∧ ∀ x, s.pkg.hold.running x = true → ∃ (p : Pkg) (d : Side) (l : List Outbound), s.deep.side x = { d.deep p with out := l } := by
  rw [State.deep, if_neg (by simp [h, hrun])]
  dsimp only
  refine ⟨rfl, fun x hx => ?_⟩
  have hx' := s.portsOff_running x (List.range s.pkg.beams)
  rw [hx] at hx'
  obtain ⟨l, hl⟩ := State.both_of_running hx' Side.deep
  exact ⟨_, _, l, (State.setHold_side _ _ x).trans hl⟩

end

/-! The wake from DEEP. -/

theorem State.enterSafe_deep (s : State) : s.enterSafe.pkg.hold.deep = s.pkg.hold.deep := by
  have hfault (t : State) (src : Nat) (f : Fld) : (t.holdFault src f).pkg.hold.deep = t.pkg.hold.deep := (t.holdFault_roles src f).2.2.2
  have hstart (t : State) (causes : List Nat) : (t.fltStart causes).pkg.hold.deep = t.pkg.hold.deep := by
    rw [State.fltStart]
    refine List.foldlRecOn (List.range 8) _ (motive := fun u : State => u.pkg.hold.deep = t.pkg.hold.deep) ?_ fun u hu k _ => ?_
    · rw [hfault]
      split <;> rfl
    · split
      · exact (hfault u _ _).trans hu
      · exact hu
  have hrefresh (t : State) : t.fltRefresh.pkg.hold.deep = t.pkg.hold.deep := by
    rw [State.fltRefresh]
    dsimp only
    split
    · rfl
    · exact hstart _ _
  have htrain (t : State) (n : Nat) : (t.train n).pkg.hold.deep = t.pkg.hold.deep := by
    rw [State.train, State.mirror, State.both_pkg_hold_deep, State.sendBlank, State.putBlanks]
    split <;> rfl
  rw [State.enterSafe, hrefresh, hfault]
  refine List.foldlRecOn _ _ (motive := fun t : State => t.pkg.hold.deep = s.pkg.hold.deep) rfl fun t ht n _ => ?_
  split
  · exact ht
  · exact (htrain t n).trans ht

/-- Boots that have failed leave DEEP and the healths, and give no grant. -/
theorem State.bootsFailed_hold (s : State) : s.bootsFailed.pkg.hold.deep = s.pkg.hold.deep ∧ (∀ x, s.bootsFailed.pkg.hold.health x = s.pkg.hold.health x) ∧
    (s.pkg.hold.granted = false → s.bootsFailed.pkg.hold.granted = false) := by
  unfold State.bootsFailed
  split
  · refine ⟨s.enterSafe_deep, fun x => ?_, fun _ => s.enterSafe_shown.2.1⟩
    rw [Hold.health_eq, Hold.health_eq]
    exact s.enterSafe_get (by cases x <;> rfl) (by cases x <;> decide) (lossFlds_health x _ (by simp [lossFlds]))
      (lossFlds_health x _ (by simp [lossFlds])) (lossFlds_health x _ (by simp [lossFlds]))
  · exact ⟨rfl, fun _ => rfl, id⟩

/-- The hold die as it wakes, with the registers that the load gives. -/
def State.wokenTo (s : State) (rf : Tab Word) : State :=
  s.setHold { s.pkg.hold with rf := rf, gap := none, deep := false, copy := none, pwm := [], ssr := [] }

theorem State.wokenTo_hold (s : State) (rf : Tab Word) : (s.wokenTo rf).pkg.hold.deep = false ∧ (s.wokenTo rf).pkg.fwPick = s.pkg.fwPick ∧
    ∀ f, (s.wokenTo rf).pkg.hold.get f = rfGet rf f := ⟨rfl, rfl, fun _ => rfl⟩

/-- A side boots that was up in hold die h. -/
def State.wakeBoot (h : Hold) (s : State) (x : SideId) : State :=
  if h.health x < 2 then s else s.beginBoot x (((s.side x).deepBase).set F.THM_PWR_STATE_WAKING 1) false false

theorem State.wakeDeep_eq (s : State) : s.wakeDeep =
    (((s.wokenTo (holdLoad s.pkg s.pkg.cfgLoad (s.pkg.hold.set F.HLD_TWN_STATUS_GRANTED 0).rf)).wakeBoot s.pkg.hold .a).wakeBoot s.pkg.hold .b).bootsFailed := rfl

theorem State.wakeBoot_hold (h : Hold) (s : State) (x : SideId) : (s.wakeBoot h x).pkg.hold.deep = s.pkg.hold.deep ∧ (s.wakeBoot h x).pkg.fwPick = s.pkg.fwPick ∧
    (∀ f : Fld, (healthFld x).apart f → f.lo + f.w ≤ 32 → (s.wakeBoot h x).pkg.hold.get f = s.pkg.hold.get f) ∧
    (2 ≤ h.health x → (s.wakeBoot h x).pkg.hold.health x = if s.pkg.fwPick.isSome then 1 else 0) := by
  unfold State.wakeBoot
  split
  next hlt => exact ⟨rfl, rfl, fun _ _ _ => rfl, fun hle => absurd hlt (by omega)⟩
  next =>
    obtain ⟨hpkg, -⟩ := s.beginBoot_pkg x (((s.side x).deepBase).set F.THM_PWR_STATE_WAKING 1) false false
    refine ⟨?_, ?_, fun f hf h32 => s.beginBoot_get x _ false false hf h32, fun _ => ?_⟩
    · rw [hpkg]
      exact (s.pkg.bootHold_frame x false).1
    · rw [hpkg]
      rfl
    · rw [hpkg]
      exact Hold.health_setHealth _ x (by split <;> decide)

/-- Both sides' boots from DEEP. -/
theorem State.wakeDeep_shown {s : State} {x : SideId} (hx : 2 ≤ s.pkg.hold.health x) : s.wakeDeep.pkg.hold.deep = false ∧
    s.wakeDeep.pkg.hold.health x = (if s.pkg.fwPick.isSome then 1 else 0) ∧ s.wakeDeep.pkg.hold.granted = false := by
  rw [State.wakeDeep_eq]
  obtain ⟨wdeep, wfw, wget⟩ := s.wokenTo_hold (holdLoad s.pkg s.pkg.cfgLoad (s.pkg.hold.set F.HLD_TWN_STATUS_GRANTED 0).rf)
  have wgranted := (wget F.HLD_TWN_STATUS_GRANTED).trans ((holdLoad_get _ _ _ rfl).trans (rfGet_rfSet_self _ _ 0 (by decide)))
  generalize s.wokenTo _ = w at *
  obtain ⟨adeep, afw, aget, ahealth⟩ := State.wakeBoot_hold s.pkg.hold w .a
  generalize w.wakeBoot s.pkg.hold .a = a at *
  obtain ⟨bdeep, -, bget, bhealth⟩ := State.wakeBoot_hold s.pkg.hold a .b
  generalize a.wakeBoot s.pkg.hold .b = b at *
  obtain ⟨fdeep, fhealth, fgranted⟩ := b.bootsFailed_hold
  have hgranted : b.pkg.hold.get F.HLD_TWN_STATUS_GRANTED = 0 :=
    ((bget _ (healthFld_apart_low _ (by decide)) (by decide)).trans (aget _ (healthFld_apart_low _ (by decide)) (by decide))).trans wgranted
  refine ⟨fdeep.trans (bdeep.trans (adeep.trans wdeep)), (fhealth x).trans ?_, fgranted ?_⟩
  · cases x with
    | a =>
      rw [Hold.health_eq, bget (healthFld .a) (healthFld_apart_other .b) (by decide), ← Hold.health_eq, ahealth hx, wfw]
    | b => rw [bhealth hx, afw, wfw]
  · rw [Hold.granted, Hold.flag, hgranted]
    rfl

end Sys2Proof.Machine

namespace Sys2Proof.Proofs
open Sys2Proof Sys2Proof.Machine

/-- Settles O53: a sample by what it shows, the power commands by the reason that refuses them, the wake from DEEP by the boots that it begins. -/
theorem thermalAndPower : Obligations.ThermalAndPower := by
  unfold Obligations.ThermalAndPower
  rintro s x d rfl
  refine ⟨fun hx => ⟨?sample, ?pause, ?nap, ?deep, ?wake, ?group⟩, ?rate, ?wakeDeep⟩
  case sample =>
    rintro k count m p hk hp
    obtain ⟨l, hl⟩ := State.both_advance_of_running hx m fun p d => d.thmSample p k count
    rw [← State.advance_pkg, ← hp] at hl
    have hkept : ((s.side x).thmSample p k count).thmKept ((((s.advance m).both fun p d => d.thmSample p k count).fltRefresh).side x) := by
      refine .trans ?_ (State.thmKept_fltRefresh _ x)
      rw [hl]
      exact Side.thmKept_of_eq rfl rfl
    refine ⟨fun hc => ⟨_, exec_thermalSample hk count m s, ?absent⟩, fun hc n was broken v met y hn hwas hy hbroken hv hmet => ?counted⟩
    case absent =>
      obtain ⟨hword, hsens⟩ := Side.thmSample_absent (d := s.side x) (count := count) hc
      have hblock : thmBlock (F.THM_SNS_VAL_TEMP k).off := by
        change 0x1100000 ≤ 0x1102000 + 0x4 * k ∧ 0x1102000 + 0x4 * k < 0x1200000
        omega
      exact ⟨(hkept.2 _ (not_not_intro hblock)).trans hword, (congrArg (fun q : Thm => tget {} q.sens k) hkept.1).trans hsens⟩
    case counted =>
      obtain ⟨h, hshown⟩ := Side.thmSample_shown hc hn hwas hy hbroken hv hmet hk hkept
      exact ⟨_, _, h, exec_thermalSample hk count m s, rfl, hshown⟩
  case pause =>
    rintro e k now he hnow
    obtain ⟨l, hl⟩ := State.both_advance_of_running hx k fun p d => d.pauseEnds p e
    rw [← State.advance_pkg] at hl
    refine ⟨fun hpaused hdue => ⟨_, exec_throttlePauseEnd he k s, ?_⟩, fun hnot => ⟨_, exec_throttlePauseEnd he k s, ?_⟩⟩
    · rw [hnow] at hdue ⊢
      rw [hl]
      exact Side.pauseEnds_of_due hpaused hdue
    · rw [hnow] at hnot
      rw [hl, Side.pauseEnds_of_not hnot]
  case nap =>
    rintro hacc r hr
    obtain ⟨l, hl⟩ := State.both_of_running hx Side.nap
    refine ⟨fun h0 => ⟨_, exec_nap hacc, ?_⟩, fun hne => ⟨_, exec_nap hacc, ?_⟩⟩
    · rw [hl, Side.nap_of_free (hr ▸ h0)]
      exact Side.get_set_self _ _ _ (by decide)
    · rw [hl, Side.nap_of_busy (hr ▸ hne), ← hr]
      exact Side.pwrRefused_shown _ _ (hr ▸ Side.pwrReason_lt ..)
  case deep =>
    rintro hacc hact r hr
    have hrun : s.pkg.hold.running s.pkg.hold.active = true := hact ▸ hx
    have hreason : r = s.actSide.pwrReason s.pkg true := by rw [hr, State.actSide, ← hact]
    refine ⟨fun h0 => ⟨_, exec_deep hacc, ?_⟩, fun hne => ⟨_, exec_deep hacc, ?_⟩⟩
    · obtain ⟨hdeep, hsides⟩ := State.deep_of_free (hreason ▸ h0) hrun
      obtain ⟨p, d, l, hl⟩ := hsides x hx
      refine ⟨hdeep, ?_⟩
      have hshown := d.deep_shown p
      rw [hl]
      generalize d.deep p = e at *
      exact hshown
    · obtain ⟨e, l, he, hl⟩ := State.both_result hx Side.deepAnswer
      rw [Side.deepAnswer_of_busy hr hne] at he
      rw [State.deep_of_busy (hreason ▸ hne), hl]
      have hshown := (s.side x).pwrRefused_shown s.pkg (r := r) (hr ▸ Side.pwrReason_lt ..)
      rw [← he] at hshown
      exact hshown
  case wake =>
    rintro hacc hdeep
    have hwake : s.wake = s.both fun _ d => d.napWake := if_neg (by rw [hdeep]; decide)
    obtain ⟨l, hl⟩ := State.both_of_running hx fun _ d => d.napWake
    refine ⟨fun hst hw => ⟨_, exec_wake hacc, ?_⟩, fun hnot => ⟨_, exec_wake hacc, ?_⟩⟩
    · rw [hwake, hl]
      exact Side.napWake_of_nap hst hw
    · rw [hwake, hl, Side.napWake_of_not hnot]
  case group =>
    rintro g hg
    obtain ⟨h, l, hl⟩ := State.both_timed_of_running hx fun p d => d.groupBack p g
    refine ⟨fun hnot => ⟨_, exec_wakeGroupRestored hg s, ?_⟩, fun hw hs => ⟨_, exec_wakeGroupRestored hg s, ?_⟩⟩
    · rw [hl, Side.groupBack_of_not hnot]
    · rw [hl]
      exact Side.groupBack_shown hg hw hs
  case rate =>
    rintro c0 c1
    refine ⟨fun hrun => ?_, fun hrun => if_neg (by rw [hrun]; decide)⟩
    cases x
    · exact ⟨_, if_pos hrun, rfl, rfl⟩
    · exact ⟨_, if_pos hrun, rfl, rfl⟩
  case wakeDeep =>
    rintro hacc hdeep hup
    have hwake : s.wake = s.wakeDeep := if_pos hdeep
    refine ⟨_, exec_wake hacc, ?_⟩
    rw [hwake]
    exact State.wakeDeep_shown hup

end Sys2Proof.Proofs

end

section
/-! Encoder ports: quadrature edges, the index, SSI frames (R352). -/

namespace Sys2Proof.Machine

section
variable {e : Nat} (h : e < 24)
include h

theorem exec_quadEdge (a b : Bool) (k : Nat) (s : State) : exec (.quadEdge e a b k) s = .next ((s.advance k).both fun p d => d.quadEdge p e a b) := if_pos h

theorem exec_indexEdge (s : State) : exec (.indexEdge e) s = .next (s.both fun p d => d.indexEdge p e) := if_pos h

theorem exec_ssiFrame (high : Bool) (w : Word) (err : Bool) (k : Nat) (s : State) :
    exec (.ssiFrame e high w err k) s = .next ((s.advance k).both fun p d => d.ssiFrame p e high w.toNat err) := if_pos h

/-- The registers of an encoder port are no event ring's. -/
theorem offPost_enc {o : Nat} (ho : o < 0x20) : offPost (0xA20000 + o + 0x20 * e) := by
  unfold offPost
  omega

end

@[simp] theorem Side.enc_setEnc (d : Side) (e : Nat) (x : Enc) : (d.setEnc e x).enc e = x := tget_tset_self ..

theorem Side.enc_congr {d u : Side} (h : u.encs = d.encs) (e : Nat) : u.enc e = d.enc e := congrArg (tget ({} : Enc) · e) h

/-- A count that is good: OK reads 1, and the port has it. -/
theorem Side.counted_shown (d : Side) (e : Nat) (x : Enc) : ((d.setEnc e x).set (F.MOT_ENC_STATUS_OK e) 1).enc e = x ∧
    ((d.setEnc e x).set (F.MOT_ENC_STATUS_OK e) 1).get (F.MOT_ENC_STATUS_OK e) = 1 := ⟨tget_tset_self .., Side.get_set_self _ _ _ (show 0 + 1 ≤ 32 by decide)⟩

section
variable {d : Side} {p : Pkg} {e : Nat}

/-- An error of the port: its flag and its count, OK 0, and the account kept. -/
theorem Side.encError_shown (d : Side) (p : Pkg) (he : e < 24) {f : Fld} (hf : f = F.MOT_ENC_STATUS_QUAD_ERR e ∨ f = F.MOT_ENC_STATUS_SSI_ERR e) :
    (d.encError p e f).encs = d.encs ∧ (d.encError p e f).get (F.MOT_ENC_STATUS_OK e) = 0 ∧ (d.encError p e f).get f = 1 ∧
    (d.encError p e f).get (F.MOT_ENC_ERRS_COUNT e) = (d.get (F.MOT_ENC_ERRS_COUNT e) + 1) % 2 ^ 32 := by
  have hsrc := p.canPost_enc he
  obtain ⟨hoff, hlo, hw, hl⟩ : f.off = 0xA20004 + 0x20 * e ∧ 8 ≤ f.lo ∧ f.w = 1 ∧ f.lo < 32 := by
    obtain rfl | rfl := hf
    · exact ⟨rfl, show 8 ≤ 8 by decide, rfl, show 8 < 32 by decide⟩
    · exact ⟨rfl, show 8 ≤ 9 by decide, rfl, show 9 < 32 by decide⟩
  have hne : (0xA2000C + 0x20 * e : Nat) ≠ 0xA20004 + 0x20 * e := by omega
  unfold Side.encError
  refine ⟨Side.fault_encs .., ?_, Side.fault_get_self _ hsrc (by rw [hoff]; exact offPost_enc (o := 4) he (by decide)) hw hl, ?_⟩
  · rw [Side.fault_get_apart (g := F.MOT_ENC_STATUS_OK e) _ hsrc (offPost_enc (o := 4) he (by decide)) (.inr (.inl (show 0 + 1 ≤ f.lo by omega))) (show 0 + 1 ≤ 32 by decide)]
    exact (Side.get_set_off _ _ (Ne.symm hne)).trans (d.get_set_self _ _ (show 0 + 1 ≤ 32 by decide))
  · rw [Side.fault_get_apart _ hsrc (offPost_enc (o := 12) he (by decide)) (.inl (by rwa [hoff])) (show 0 + 32 ≤ 32 by decide)]
    refine (Side.get_set_self _ _ _ (show 0 + 32 ≤ 32 by decide)).trans ?_
    rw [Side.get_set_off d 0 (show (F.MOT_ENC_ERRS_COUNT e).off ≠ (F.MOT_ENC_STATUS_OK e).off from hne)]
    rfl

/-! Edges of A and B. -/

/-- A sample of the inputs as the port keeps it. -/
def Enc.sampled (v : Enc) (a b : Bool) (now : Nat) : Enc :=
  { v with a := a, b := b, aAt := if a != v.a then some now else v.aAt, bAt := if b != v.b then some now else v.bAt }

section
variable (p) {a b bad : Bool}

theorem Side.quadEdge_of_idle (h : d.encMode e ≠ 1 ∨ a = (d.enc e).a ∧ b = (d.enc e).b) : d.quadEdge p e a b = d.setEnc e { d.enc e with a := a, b := b } := by
  refine if_pos ?_
  obtain h | ⟨rfl, rfl⟩ := h
  · simp [h]
  · simp

variable (hmode : d.encMode e = 1) (hedge : a ≠ (d.enc e).a ∨ b ≠ (d.enc e).b)
  (hbad : bad = ((a != (d.enc e).a) && (b != (d.enc e).b) || (a != (d.enc e).a) && tooSoon (d.enc e).aAt p.now || (b != (d.enc e).b) && tooSoon (d.enc e).bAt p.now))
include hmode hedge hbad

theorem Side.quadEdge_of_edge : d.quadEdge p e a b =
    if bad then (d.setEnc e ((d.enc e).sampled a b p.now)).encError p e (F.MOT_ENC_STATUS_QUAD_ERR e)
    else (d.setEnc e { (d.enc e).sampled a b p.now with
      count := (if quadUp (d.enc e).a (d.enc e).b a != d.flag (F.MOT_ENC_CFG_INVERT e) then (d.enc e).count + 1 else (d.enc e).count + 2 ^ 32 - 1) % 2 ^ 32 }).set
      (F.MOT_ENC_STATUS_OK e) 1 := by
  have hgo : (decide (d.encMode e ≠ 1) || (!(a != (d.enc e).a) && !(b != (d.enc e).b))) = false := by
    rw [hmode, ← Bool.not_or]
    simpa [imp_iff_not_or] using hedge
  unfold Side.quadEdge
  dsimp only
  rw [hgo, ← hbad]
  rfl

end

/-! The index. -/

theorem Side.indexEdge_shown (he : e < 24) (hmode : d.encMode e = 1) : (d.indexEdge p e).get (F.MOT_ENC_INDEX_COUNT e) = (d.enc e).count % 2 ^ 32 ∧
    (d.indexEdge p e).get (F.MOT_ENC_STATUS_INDEX_SEEN e) = 1 := by
  have hsrc := p.canPost_enc he
  rw [Side.indexEdge, if_pos hmode]
  refine ⟨?_, Side.fault_get_self _ hsrc (offPost_enc (o := 4) he (by decide)) rfl (show 10 < 32 by decide)⟩
  rw [Side.fault_get_apart _ hsrc (offPost_enc (o := 8) he (by decide)) (.inl (show 0xA20008 + 0x20 * e ≠ 0xA20004 + 0x20 * e by omega)) (show 0 + 32 ≤ 32 by decide)]
  exact d.get_set_self _ _ (show 0 + 32 ≤ 32 by decide)

/-! SSI frames. -/

theorem Side.ssiFrame_of_none (h : (d.enc e).frame = none ∨ d.encMode e ≠ 2) (high : Bool) (w : Nat) (err : Bool) : d.ssiFrame p e high w err = d := by
  unfold Side.ssiFrame
  dsimp only
  split
  next => rfl
  next t0 hframe =>
    have hmode := h.resolve_left (by rw [hframe]; exact Option.some_ne_none t0)
    exact if_pos (by simp [hmode])

section
variable {t0 nb : Nat} (hframe : (d.enc e).frame = some t0) (hmode : d.encMode e = 2) (hdue : reached (d.dev p) (t0 + d.ssiNs e) = true)
include hframe hmode hdue

theorem Side.ssiFrame_of_error {high err : Bool} (w : Nat) (hbad : high = false ∨ d.get (F.MOT_ENC_CFG_ERRBIT e) = 1 ∧ err = true) :
    d.ssiFrame p e high w err = (d.setEnc e { d.enc e with frame := none }).encError p e (F.MOT_ENC_STATUS_SSI_ERR e) := by
  have hbad' : (!high || d.flag (F.MOT_ENC_CFG_ERRBIT e) && err) = true := by
    obtain rfl | ⟨hbit, rfl⟩ := hbad
    · rfl
    · rw [(Side.flag_iff d _).2 hbit]
      exact Bool.or_true _
  simp only [Side.ssiFrame, hframe, hmode, hdue, hbad', ne_eq, not_true_eq_false, decide_false, Bool.not_true, Bool.or_self, Bool.false_eq_true, if_false, if_true]

theorem Side.ssiFrame_of_reading {high err : Bool} (w : Nat) (hnb : nb = d.ssiBits e) (hhigh : high = true) (hok : d.get (F.MOT_ENC_CFG_ERRBIT e) = 0 ∨ err = false)
    {g i : Nat} (hg : g = if d.get (F.MOT_ENC_CFG_GRAY e) = 1 then grayDecode nb (w % 2 ^ nb) % 2 ^ nb else w % 2 ^ nb)
    (hi : i = if d.get (F.MOT_ENC_CFG_INVERT e) = 1 then (2 ^ nb - g) % 2 ^ nb else g) :
    d.ssiFrame p e high w err = (d.setEnc e { d.enc e with
      frame := none, count := ofSigned 32 (((d.enc e).count : Int) + toSigned nb (i + 2 ^ nb - (d.enc e).count % 2 ^ nb)), stamp := t0 }).set (F.MOT_ENC_STATUS_OK e) 1 := by
  have hok' : (!high || d.flag (F.MOT_ENC_CFG_ERRBIT e) && err) = false := by
    rw [hhigh]
    obtain hbit | rfl := hok
    · rw [Side.flag, hbit]
      rfl
    · exact Bool.and_false _
  subst hi hg hnb
  simp only [Side.ssiFrame, hframe, hmode, hdue, hok', ne_eq, not_true_eq_false, decide_false, Bool.not_true, Bool.or_self, Bool.false_eq_true, if_false, Side.flag_iff]

end

end

end Sys2Proof.Machine

namespace Sys2Proof.Proofs
open Sys2Proof Sys2Proof.Machine

/-- Settles O40: an edge by whether it is one and in time, a frame by its line and its error bit. -/
theorem encoderPorts : Obligations.EncoderPorts := by
  unfold Obligations.EncoderPorts
  rintro e k s x d v p he hx rfl rfl rfl
  refine ⟨fun a b => ?quad, ⟨fun hmode => ⟨_, exec_indexEdge he s, ?index⟩, fun hmode => ⟨_, exec_indexEdge he s, ?noIndex⟩⟩, fun high w err => ?ssi⟩
  case quad =>
    obtain ⟨u, l, hu, hl⟩ := State.both_advance_result hx k fun p d => d.quadEdge p e a b
    generalize s.pkg.advance k = p at *
    generalize s.side x = d at *
    refine ⟨fun hidle => ⟨_, exec_quadEdge he a b k s, ?_⟩, fun hmode hedge bad hbad => ⟨fun hgood => ⟨_, exec_quadEdge he a b k s, ?_⟩, fun herr => ⟨_, exec_quadEdge he a b k s, ?_⟩⟩⟩
    · have hu := hu.trans (Side.quadEdge_of_idle p hidle)
      rw [hl]
      exact ⟨hu ▸ Side.enc_setEnc .., hu ▸ rfl⟩
    · have hu := hu.trans (Side.quadEdge_of_edge p hmode hedge hbad)
      rw [hgood, if_neg Bool.false_ne_true] at hu
      obtain ⟨henc, hok⟩ := d.counted_shown e { (d.enc e).sampled a b p.now with
        count := (if quadUp (d.enc e).a (d.enc e).b a != d.flag (F.MOT_ENC_CFG_INVERT e) then (d.enc e).count + 1 else (d.enc e).count + 2 ^ 32 - 1) % 2 ^ 32 }
      rw [← hu] at henc hok
      rw [hl]
      exact ⟨congrArg Enc.a henc, congrArg Enc.b henc, hok, congrArg Enc.count henc⟩
    · have hu := hu.trans (Side.quadEdge_of_edge p hmode hedge hbad)
      rw [herr, if_pos rfl] at hu
      obtain ⟨hencs, hok, hflag, hcount⟩ := (d.setEnc e ((d.enc e).sampled a b p.now)).encError_shown p he (.inl rfl)
      have henc := (Side.enc_congr hencs e).trans (Side.enc_setEnc ..)
      rw [← hu] at henc hok hflag hcount
      rw [hl]
      exact ⟨congrArg Enc.a henc, congrArg Enc.b henc, (congrArg Enc.count henc :), hok, hflag, hcount⟩
  case index =>
    obtain ⟨u, l, hu, hl⟩ := State.both_result hx fun p d => d.indexEdge p e
    have hshown := Side.indexEdge_shown (p := s.pkg) he hmode
    rw [← hu] at hshown
    rw [hl]
    exact hshown
  case noIndex =>
    obtain ⟨l, hl⟩ := State.both_of_running hx fun p d => d.indexEdge p e
    rw [hl, Side.indexEdge, if_neg hmode]
  case ssi =>
    obtain ⟨u, l, hu, hl⟩ := State.both_advance_result hx k fun p d => d.ssiFrame p e high w.toNat err
    generalize s.pkg.advance k = p at *
    generalize s.side x = d at *
    refine ⟨fun t0 nb hframe hmode hdue hnb => ⟨fun hbad => ⟨_, exec_ssiFrame he high w err k s, ?_⟩, fun hhigh hok g i hg hi => ⟨_, exec_ssiFrame he high w err k s, ?_⟩⟩,
      fun hnone => ⟨_, exec_ssiFrame he high w err k s, ?_⟩⟩
    · have hu := hu.trans (Side.ssiFrame_of_error hframe hmode hdue _ hbad)
      obtain ⟨hencs, hok, hflag, -⟩ := (d.setEnc e { d.enc e with frame := none }).encError_shown p he (.inr rfl)
      have henc := (Side.enc_congr hencs e).trans (Side.enc_setEnc ..)
      rw [← hu] at henc hok hflag
      rw [hl]
      exact ⟨henc, hok, hflag⟩
    · have hu := hu.trans (Side.ssiFrame_of_reading hframe hmode hdue _ hnb hhigh hok hg hi)
      rw [hl, hu]
      exact d.counted_shown e _
    · have hu := hu.trans (Side.ssiFrame_of_none hnone high _ err)
      rw [hl, hu]
      exact ⟨rfl, rfl⟩

end Sys2Proof.Proofs

end
